-- ==== Sys2Proof/Word.lean ====
section
/-!
DEFINITION. The word types of the VZ4916: 32-bit registers (R2), bytes, and the
place of a field inside a register (R3).
-/
namespace Sys2Proof

/-- A register word (R2). -/
abbrev Word := BitVec 32

/-- A byte of a record, entry or frame (R2). -/
abbrev Byte := BitVec 8

/-- Where a register field lies: its lowest bit and its width (R3). -/
structure Field where
  lo : Nat
  width : Nat
  deriving DecidableEq, Repr

end Sys2Proof
end

