-- ==== Sys2Proof/Types.lean ====
section
/-!
DEFINITION. Small data types that the commands and the state share: the register map's rows,
the dyadic numbers of the binary64 arithmetic, sources of commands and host references.
-/
namespace Sys2Proof.Machine

/-- A row of the register map: a base address, two strides with their counts, and the masks
of the access types of R4. -/
structure RegRow where
  base : Nat
  s1 : Nat
  c1 : Nat
  s2 : Nat
  c2 : Nat
  rw : Word
  wb : Word
  wk : Word
  sq : Word
  w1 : Word
  wo : Word
  deriving DecidableEq, Repr

/-- Registers with one non-zero value after reset (R6). -/
structure ResetRow where
  base : Nat
  s1 : Nat
  c1 : Nat
  s2 : Nat
  c2 : Nat
  word : Word
  deriving DecidableEq, Repr

/-- A finite binary64 number m × 2^e (R113, R168). -/
structure F64 where
  m : Int
  e : Int
  deriving DecidableEq, Repr

/-- Who a host command comes from: session number, command ID and command channel (R479). -/
structure HostRef where
  sess : Nat
  cmdid : Word
  hc : Nat
  deriving DecidableEq, Repr

/-- The source of an operator command: a host session with the permission verdict of R479, a
CAN channel with sender, stream and sequence of the carrying frame (R335), or the belfry
for the ACK commands of R265. -/
inductive CmdSrc where
  | host (ref : HostRef) (permitted : Bool)
  | can (ch : Nat) (sender stream seq : Nat)
  | belfry
  deriving DecidableEq, Repr

/-- A command as latched under R35: OPC and the argument bytes of R335 and R479, argument
byte 1 first; `elem` is the whole command element of a host command that carries more. -/
structure OpCmd where
  src : CmdSrc
  opc : Nat
  args : List Byte
  deriving DecidableEq, Repr

/-- The functions with a shutdown sequence (R53). -/
inductive Func where
  | xch (n : Fin 8)
  | supply (n : Fin 16)
  | qch (n : Fin 12)
  | panel
  | link
  deriving DecidableEq, Repr

/-- The four device roles and the absence of one (R346). -/
inductive Role where
  | none
  | solo
  | active
  | standby
  | rejoining
  deriving DecidableEq, Repr

/-- An element of a hardware queue (R63): its bytes, the turn and the CK_SYS cycle in which
it entered (R65), the host command it carries, if any, the SEQ of the FRAME entry it was
placed from (R336), if any, and the permission verdict that a host command carries (R479). -/
structure QElem where
  bytes : List Byte
  turn : Nat
  clk : Nat
  ref : Option HostRef
  seq : Option Nat
  permitted : Bool
  deriving DecidableEq, Repr

/-- A frame on a bus: identifier word, flags and length in the layout of R319 (bytes 0 to 7
of an element), and its data bytes. -/
structure Frame where
  id : Word
  fd : Bool
  brs : Bool
  rtr : Bool
  data : List Byte
  deriving DecidableEq, Repr

/-- A clearing write of a register with SQ flags: the word, and whether an event of the register falls in the same clock
cycle (R51, R52). -/
structure SqWrite where
  value : Word
  same : Bool
  deriving DecidableEq, Repr

/-- A write of HST_EVCLRm: the word, and the events of HST_EVPENDm raised in the same clock cycle (R60). -/
structure EvWrite where
  value : Word
  same : Word
  deriving DecidableEq, Repr

/-- A write to EN of a function: EN, and whether a force on the function falls in the same clock cycle (R34, R54, R56). -/
structure EnWrite where
  en : Bool
  same : Bool
  deriving DecidableEq, Repr

/-- What the wake detector of a channel sees: a dominant level of so many units of 0.1 µs, or a frame with valid CRC
(R341). -/
structure WakeSeen where
  ch : Fin 4
  dominant : BitVec 16
  frame : Option Frame
  deriving DecidableEq, Repr

/-- A queue placement that an entry carries: it takes effect at the emit of the turn in which
the entry commits (R22, R23). -/
structure Place where
  queue : Nat
  bytes : List Byte
  ref : Option HostRef
  deriving DecidableEq, Repr

/-- An entry before its commit (R285): KIND, SRC, ingress queue 0 to 7 for Q32 to Q39, payload
of 32 bytes, the forming turn and its TICK, whether it arose outside evaluation (R297), and
the queue placements that wait for it. -/
structure Entry where
  kind : Nat
  src : Nat
  ing : Nat
  payload : List Byte
  turn : Nat
  tick : Nat
  outside : Bool
  places : List Place
  deriving DecidableEq, Repr

/-- An accepted entry: its SEQ and its 64 bytes (R285). -/
structure LEntry where
  seq : Nat
  bytes : List Byte
  deriving DecidableEq, Repr

/-- What a commit takes: the entries, the ingress queues whose heads it serves as promoted, one for each such head,
the ingress queues after it, the refused class D entries, whether an entry of another kind waits for space, and
whether a class A entry does (R67, R304, R305). -/
structure Take where
  taken : List Entry
  promos : List Nat
  ing : List (List Entry)
  refused : Nat
  waits : Bool
  classAWaits : Bool
  deriving DecidableEq, Repr

/-- The value, quality (R228) and source status of a source in the input image (R229). -/
structure Sample where
  x : Int
  q : Nat
  instat : Nat
  deriving DecidableEq, Repr

/-- A host point write that a sample latch takes (R245). -/
structure HpWrite where
  ref : HostRef
  point : Nat
  value : Int
  status : Nat
  permitted : Bool
  deriving DecidableEq, Repr

/-- The input image of a turn (R16, R246): what evaluation reads besides the last state. -/
structure InImage where
  turn : Nat
  tick : Nat
  zone : Int
  trusted : Bool
  /-- One sample per point of the LATP section, in order. -/
  srcs : List Sample
  /-- Released state and GOOD of each contact input. -/
  di : List (Bool × Bool)
  /-- SYNC and SPEED of each phase base. -/
  pb : List (Bool × Nat)
  /-- The commands of the turn in order of arrival, all sources together. -/
  cmds : List OpCmd
  /-- Free elements of Q0 to Q63 at the latch (R287). -/
  qfree : List Nat
  /-- Whether each loop input can take a HART command (R287). -/
  hart : List Bool
  /-- Whether each CAN channel is enabled (R287). -/
  canEn : List Bool
  /-- The value and quality of each remote point in use: index, value, quality. -/
  remote : List (Nat × Int × Nat)
  /-- Entries that arose outside evaluation and enter the pool at this latch (R297). -/
  outside : List Entry
  /-- The levels and setpoints that the host writes: the two level words after the latch, and the setpoint
  words that wait for the selection of the turn (R204, R218). -/
  hostset : Word
  hostset31 : Word
  osets : List (Option Nat)
  deriving DecidableEq, Repr

/-- One alarm of a point (R226, R234, R238). -/
structure Alarm where
  st : Nat
  inh : Bool
  r : Bool
  c : Bool
  dc : Nat
  deriving DecidableEq, Repr

/-- The state of a point cell (R232 to R241). -/
structure Pt where
  y : Int
  q : Nat
  instat : Nat
  rq : Int
  rqv : Bool
  refv : Bool
  yref : Int
  oos : Bool
  sup0 : Bool
  sup1 : Bool
  devok : Bool
  mean : Int
  al : List Alarm
  /-- After an image swap, until a turn completes: the states and classes of the alarms as the last completed turn
  left them, so that the swap's changes form their entries (R244, R248). -/
  was : Option (List (Nat × Nat))
  deriving DecidableEq, Repr

/-- The state of a group node (R256). `fresh` is set before its first evaluation. -/
structure Node where
  v : Int
  valid : Bool
  nvalid : Nat
  fresh : Bool
  deriving DecidableEq, Repr

/-- The state of a timer cell (R257, R258), with the booleans of IN and RST of the turn. -/
structure Timer where
  q : Bool
  et : Nat
  lastin : Bool
  first : Bool
  inb : Bool
  rstb : Bool
  deriving DecidableEq, Repr

/-- The state of a host point (R245): status 0 value, 1 fault, 2 stale, 3 never written. -/
structure HostPt where
  value : Int
  status : Nat
  age : Nat
  /-- The turn that latched its last write. -/
  since : Nat
  deriving DecidableEq, Repr

/-- The state of a deviation set in a turn (R233): its sum, its V members, and whether it is
below MINN. -/
structure DevSum where
  s : Int
  n : Nat
  below : Bool
  deriving DecidableEq, Repr

/-- The state of an escalation chain (R267): st 0 IDLE, 1 CALLING, 2 ACCEPTED. -/
structure Chain where
  st : Nat
  stg : Nat
  cnt : Nat
  lt : Bool
  ltv : Int
  accst : Nat
  deriving DecidableEq, Repr

/-- The state of the belfry (R260 to R270). -/
structure Belfry where
  duty : Option Nat
  lastsrc : Nat
  present : List Bool
  /-- The last valid selector code of mode 1, and whether the reading was valid. -/
  swLast : Option Nat
  swValid : Bool
  lvalid : Bool
  lL : Int
  hold : Bool
  wst : Nat
  wc : Nat
  won : Bool
  chains : List Chain
  /-- Released state and GOOD of each contact input in the last completed turn. -/
  diLast : List (Bool × Bool)
  /-- ACK commands formed for the next turn (R265). -/
  acks : List OpCmd
  /-- The belfry's own call signals 0 to 10, and the FORCE overrides that stand (R270). -/
  sig : Nat
  forced : Nat
  nodutyChain : List Bool
  started : Bool
  deriving DecidableEq, Repr

/-- A transmit entry's state (R343): the field values of the last completed turn, and whether
every field still counts as changed. -/
structure TxState where
  vals : List Nat
  fresh : Bool
  deriving DecidableEq, Repr

/-- Everything that evaluation reads of the last completed turn and writes for the next one
(R18): the lattice, the spire, the timer cells, the belfry and the transmit schedule. -/
structure EvalState where
  pts : List Pt
  devs : List DevSum
  nodes : List Node
  timers : List Timer
  hps : List HostPt
  bel : Belfry
  tx : List TxState
  /-- The next sequence number of each stream that has sent, and whether its next frame
  carries RESYNC. -/
  streams : List (Nat × Nat × Bool)
  cmdsApplied : Nat
  changes : Nat
  started : Bool
  deriving DecidableEq, Repr

/-- What the emissions follow (R22): the alarm states by point, chains, watch, duty, presence and FORCE overrides
as their committed entries left them, the group nodes over those alarm states, and the call signals. -/
structure EmitView where
  alarms : List (List Nat)
  nodes : List Node
  chains : List Chain
  wst : Nat
  duty : Option Nat
  present : List Bool
  forced : Nat
  sig : Nat
  deriving DecidableEq, Repr

/-- A release of a shared channel, for the cross-check (R366): the kind by its XACT bit, the index, the
status, whether it counts as a sensor fault, whether it is skipped, the value, and of an excitation channel the TRIM of
its demodulation period (R179). -/
structure Release where
  kind : Nat
  index : Nat
  status : Nat
  fault : Bool
  skip : Bool
  value : Int
  trim : Nat
  deriving DecidableEq, Repr

/-- What the mirror carries of the panel (R461): the words of its level, target and region registers by
address, the content targets, host levels and TEST levels, and the regions that run. -/
structure PanelMirror where
  words : List (Nat × Word)
  content : List Nat
  hostLev : List (Nat × Nat)
  test : List (Option Nat)
  running : List Bool
  deriving DecidableEq, Repr

/-- A complete mirror of one turn (R26, R363): the lattice, belfry and schedule state, what the emissions
follow, the states and counts of the external bases (R94), TRIM and PREF by channel, the supplies' EN and whether
they are ON with the ISUP mean and unbroken limit time, the outputs' levels, the selections and setpoints with LOWALT,
the host's levels and setpoints, the panel, and the export watermark. -/
structure Mirror where
  state : EvalState
  view : EmitView
  bases : List (Nat × Nat)
  trims : List Nat
  prefs : List Int
  supplies : List (Bool × Bool × Int × Nat)
  levels : Nat
  setpoints : List (Nat × Nat × Bool)
  hostset : Word
  hostset31 : Word
  osets : List Nat
  panel : PanelMirror
  wmark : Nat
  deriving DecidableEq, Repr

/-- What evaluation gathers beside the next state: entries in order of forming, events and SQ
flags (register address and bit) for the emit, and the class D frames for the emit (R18, R24). -/
structure Acc where
  ents : List Entry
  evs : List Nat
  flags : List (Nat × Nat)
  frames : List Place
  deriving DecidableEq, Repr

/-- An input word as read: boolean before INV, numeric value, validity (R254). -/
structure InVal where
  b : Bool
  v : Int
  ok : Bool
  deriving DecidableEq, Repr

/-- What the commands of a turn have done to one point so far (R240, R243): the kinds
acknowledged, and the latest settings of each source: kind, value and rank of INHIBIT, value and rank of OOS. -/
structure PtTurn where
  acked : List Nat
  inhSet : List (Nat × Bool × Nat)
  oosSet : List (Bool × Nat)
  deriving DecidableEq, Repr

/-- What the belfry stage has done so far in one turn (R260, R271): the latest duty, presence and watch settings of
each source with its rank, the chains accepted with station and source, the watch reset with its source, and the
ACK commands formed. -/
structure BelTurn where
  dutySet : List (Nat × Nat)
  presSet : List (Nat × Bool × Nat)
  wonSet : List (Bool × Nat)
  wonSrc : Nat
  reset : Option (Nat × Nat × Nat)
  accepted : List (Nat × Nat × Nat)
  acks : List (Nat × Nat)
  ovf : Bool
  deriving DecidableEq, Repr

end Sys2Proof.Machine
end

