-- ==== Sys2Proof/Syntax.lean ====
section
/-!
DEFINITION. The commands of the block: one constructor per row of spec/opcode_table.json, in
the table's order, with what the command carries: who sent it, what was written, and what
the device's own front end measured (log entry 5).
-/
namespace Sys2Proof

open Sys2Proof.Machine

/-- The commands (spec/opcode_table.json). -/
inductive Instr where
  /-- SAMPLE_LATCH (R16): the TURN entry at PB0 count 0 starts a turn and copies every source's
      latest released value into the input image; operands: the time that evaluation and, in the solo
      manner, commit take, in µs (R14). -/
  | sampleLatch (evalUs commitUs : Nat)
  /-- EVAL_DEADLINE (R27): at 64 µs, evaluation that has not completed makes an overrun turn. -/
  | evalDeadline
  /-- COMMIT_DEADLINE (R27): at E minus 10 µs, a commit that has not completed makes an overrun
      turn. -/
  | commitDeadline
  /-- EMIT (R23): the TURN entry at offset E applies the committed outputs, setpoints, panel
      requests and frames of a completed turn. -/
  | emit
  /-- MIRROR_DONE (R26): the mirror copy to the peer completes, which can let a planned castling
      send YIELD. -/
  | mirrorDone
  /-- CLOCK_WINDOW (R37): at the end of each 100 µs window, the watchtower judges every measured
      clock domain; operands: one bit per domain: measured in the window, and outside its limit (R37).
      -/
  | clockWindow (measured outOfLimit : BitVec 11)
  /-- TIMINGMAX_CLR (R4): writing CLR in SYS_TIMINGMAX resets the maximum phase times at the next
      turn start. -/
  | timingmaxClr
  /-- TURNNUM_LO_READ (R41): a read of SYS_TURNNUM_LO latches TURN_HI for a coherent turn number.
      -/
  | turnnumLoRead
  /-- WRITE (R477): a host WRITE of registers without a row of their own acts word by word on the
      writable fields; operands: the request frame (R471). -/
  | write (frame : List Byte)
  /-- KEYGATE_OPEN (R47): writing 0xB71E to KEY opens the key gate for the writing session;
      operands: the writing session. -/
  | keygateOpen (sess : Nat)
  /-- KEYGATE_CLOSE (R48): the opener writing any other KEY value closes the gate; operands: the
      writing session and the value. -/
  | keygateClose (sess : Nat) (key : BitVec 16)
  /-- KEYGATE_TIMEOUT (R48): the open gate closes after 1 ms without a key-gated write. -/
  | keygateTimeout
  /-- SQ_CLEAR (R51, R52): a write with the current SEQ clears the SQ flags written as 1; operands:
      the register's address, and the write. -/
  | sqClear (addr : Nat) (w : SqWrite)
  /-- EVENT_CLEAR (R60): writing 1 to a bit of HST_EVCLRm clears that event's pending bit;
      operands: HST_EVCLRm, and the write. -/
  | eventClear (m : Fin 8) (w : EvWrite)
  /-- XCH_EN_WRITE (R54): a write to EN of XCH_CTRLn starts, stops or marks pending the excitation
      drive; operands: the session, the channel, and the write. -/
  | xchEnWrite (sess : Nat) (n : Fin 8) (w : EnWrite)
  /-- LOOP_SUPPLY_EN_WRITE (R54): a write to EN of LOP_SUPCTRLn acts on the loop supply switch;
      operands as for XCH_EN_WRITE. -/
  | loopSupplyEnWrite (sess : Nat) (n : Fin 16) (w : EnWrite)
  /-- QCH_PWR_EN_WRITE (R54): a write to EN of QCH_PWRn acts on charge-channel power; operands as
      for XCH_EN_WRITE. -/
  | qchPwrEnWrite (sess : Nat) (n : Fin 12) (w : EnWrite)
  /-- PANEL_EN_WRITE (R54): a write to EN of PNL_CTRL acts on the panel drive; operands as for
      XCH_EN_WRITE. -/
  | panelEnWrite (sess : Nat) (w : EnWrite)
  /-- LINK_EN_WRITE (R54): a write to EN of PAR_LNKCTRL acts on the Ivgan link; operands as for
      XCH_EN_WRITE. -/
  | linkEnWrite (sess : Nat) (w : EnWrite)
  /-- STARTUP_SEQ_DONE (R53): a function's start-up sequence completes and its STATE becomes ON.
      -/
  | startupSeqDone (f : Func)
  /-- SHUTDOWN_SEQ_DONE (R55): a function's shutdown sequence completes, and a pending re-enable
      restarts it. -/
  | shutdownSeqDone (f : Func)
  /-- QUEUE_GRANT (R66): the queue engine moves one element from a ready, non-empty queue to its
      consumer; operands: bit q: the consumer of Qq is ready. -/
  | queueGrant (ready : BitVec 64)
  /-- QUEUE_PROMOTE (R67): a queue head older than its age limit is promoted. -/
  | queuePromote (q : Fin 64)
  /-- PROMOCNT_CLR (R67): writing CLR in HST_QPROMOCNT resets the promotion count. -/
  | promocntClr
  /-- ANGLE_EDGE (R75): an accepted angle-input edge updates the base's interpolation, period and
      count; operands: the input, the height in mV that the signal reached before the edge, for the
      threshold of VR and the hysteresis of MAINS (R71), and the level after the edge. The edge timer
      stamps it (R70). -/
  | angleEdge (m : Fin 6) (peak : Nat) (level : Bool)
  /-- STANDSTILL_TIMEOUT (R79): no accepted edge for STILLT puts the base in STANDSTILL. -/
  | standstillTimeout (b : Fin 4)
  /-- NOP (R88): a NOP schedule entry executes with no action; operands: whether the entry is
      flagged late. -/
  | nop (late : Bool)
  /-- SAMPLE (R107): a SAMPLE entry starts a universal-input conversion, or takes a spot sample of
      a charge channel; operands: UI 0 to 47, or 64 + charge channel with the code converted. -/
  | sample (target : Nat) (code : BitVec 16) (late : Bool)
  /-- WINOPEN (R136): a WINOPEN entry opens a charge channel's window; operands: channel and
      window argument. -/
  | winopen (n : Fin 12) (arg : BitVec 8) (late : Bool)
  /-- WINCLOSE (R136): a WINCLOSE entry closes a charge channel's window. -/
  | winclose (n : Fin 12) (arg : BitVec 8) (late : Bool)
  /-- QRESET (R145): a QRESET entry in an open QUIET window starts the reset and test sequence. -/
  | qreset (n : Fin 12) (fb late : Bool)
  /-- RANGE (R143): a RANGE entry applies the pending range and chooses the cycle's resolution. -/
  | range (n : Fin 12) (fb late : Bool)
  /-- CYCLE (R147): a CYCLE entry ends the charge cycle and starts its computation. -/
  | cycle (n : Fin 12) (late : Bool)
  /-- MUX (R106): a MUX entry starts the selected scan step of a SCHED converter, or is dropped.
      -/
  | mux (sc : Fin 4) (arg : BitVec 8) (late : Bool)
  /-- LATECNT_CLR (R84): writing CLR in PHS_LATECNT resets the late entry count. -/
  | latecntClr
  /-- JUMP_CLR (R76): writing CLR in PHS_JUMPn resets the largest correction. -/
  | jumpClr (b : Fin 4)
  /-- SETTLE_END (R104): the settling delay of a scan step ends, and an AUTO or waiting conversion
      starts. -/
  | settleEnd (sc : Fin 4)
  /-- UIN_CONVERSION_END (R104): a scan step's main conversion completes; operands: the code
      converted. -/
  | uinConversionEnd (sc : Fin 4) (code : BitVec 24)
  /-- LEAD_CONVERSION_END (R110): the lead conversion of a 3-wire RTD step completes. -/
  | leadConversionEnd (sc : Fin 4) (code : BitVec 24)
  /-- POSTCHECK_END (R117): the 100 µs post-check of a step ends and its conclusions are drawn;
      operands: the loop resistance measured in Ω, and the front end's conclusions: bit 0 IEX
      compliance, bit 1 reference voltage outside ±5 %, bit 2 EXVS below 90 %, bit 3 an open sense
      lead of a CJ input. -/
  | postcheckEnd (sc : Fin 4) (rloop : Nat) (checks : BitVec 4)
  /-- REFCHK_END (R121): a REFCHK step completes and is judged against ±0.05 %. -/
  | refchkEnd (sc : Fin 4) (code : BitVec 24)
  /-- UIN_CLAMP (R100): a clamp current on a universal-input pin sets CLAMP for the channel. -/
  | uinClamp (n : Fin 48)
  /-- DIAG_REQUEST (R43): a write of REQ to UIN_DIAGn requests a diagnostic result from the
      channel's next step. -/
  | diagRequest (n : Fin 48) (req : Bool)
  /-- GRID_POINT (R137): a base reaching an angle-grid point samples a charge channel whose ACQ
      window is open; operands: the grid index. -/
  | gridPoint (n : Fin 12) (j : Nat)
  /-- TIME_SAMPLE (R138): a TIME-mode charge channel takes a sample every TPER. -/
  | timeSample (n : Fin 12)
  /-- QCH_CONVERSION_DONE (R140): a charge conversion completes and the next waiting grid point is
      converted; operands: the code and the overload comparator. -/
  | qchConversionDone (n : Fin 12) (code : BitVec 16) (ovl : Bool)
  /-- RANGE_RESET_END (R143): the 10 µs reset during a range change ends. -/
  | rangeResetEnd (n : Fin 12)
  /-- CYCLE_COMPUTED (R147): the cycle's combustion results are computed and held. -/
  | cycleComputed (n : Fin 12)
  /-- TEST_SEQUENCE_DONE (R146): a completed test sequence evaluates Cin, leakage and offsets;
      operands: the codes of the sequence. -/
  | testSequenceDone (n : Fin 12) (c0 c1a c1 c2 : BitVec 16)
  /-- FEED_ELEMENT (R359): the standby receives a raw acquisition feed element on Q62 and fills
      its ring; operands: the element of Q62. -/
  | feedElement (bytes : List Byte)
  /-- DRIVE_PERIOD_END (R170): at each phase accumulator wrap, the excitation checks are applied
      to the drive period; operands: the codes of A, B and V per sample, the drive current in 10 µA
      rms, the current limit (0 inactive, 1 active, 2 active for more than half the period), and for a
      standby the locked phase of the first sample and the phase error in 0.001°. -/
  | drivePeriodEnd (n : Fin 8) (samples : List (BitVec 16 × BitVec 16 × BitVec 16)) (irms : BitVec 16) (limit : Fin 3) (lockPhase : Word) (err : Nat)
  /-- DEMOD_PERIOD_END (R172): a demodulation period ends, and VALUE and AUX are released when
      every period passed. -/
  | demodPeriodEnd (n : Fin 8)
  /-- TRIM_WRITE (R179): a write to XCH_TRIMn is buffered, or ignored without the token. -/
  | trimWrite (n : Fin 8) (value : BitVec 16)
  /-- LOOP_CONVERSION_END (R185): a loop-input conversion completes and is classified, damped and
      released; operands: the mean current and the mean supply current in nA, and how long the supply
      limit has been active without a break, in µs. -/
  | loopConversionEnd (n : Fin 16) (raw isup : Int) (limUs : Nat)
  /-- TSTART_END (R193): TSTART after the supply reaches ON expires and TRANSIT ends. -/
  | tstartEnd (n : Fin 16)
  /-- HART_TRANSACTION_START (R197): the modem takes the next transaction from Q(16 + n) and sends
      its request. -/
  | hartTransactionStart (n : Fin 16)
  /-- HART_FRAME_RECEIVED (R198): a HART response or burst frame is received and decoded;
      operands: the frame and whether its check failed. -/
  | hartFrameReceived (n : Fin 16) (frame : List Byte) (bad : Bool)
  /-- HART_RESPONSE_TIMEOUT (R197): a response time-out causes a retry or completes the
      transaction. -/
  | hartResponseTimeout (n : Fin 16)
  /-- HART_POLL (R198): every PPER the poll schedule places a PCMD transaction. -/
  | hartPoll (n : Fin 16)
  /-- HART_STALE (R199): no decodable frame for HSTALE makes the HART variables STALE. -/
  | hartStale (n : Fin 16)
  /-- HARTCMD (R200): a host HART command is judged against its queue and its element is placed at
      emit; operands: the loop input and bytes 4 onward of the element of R200. -/
  | hartcmd (ref : HostRef) (ok : Bool) (n : BitVec 8) (elem : List Byte)
  /-- OSET_WRITE (R204): a host write to LOP_OSETn sets HSET or is overridden. -/
  | osetWrite (sess : Nat) (n : Fin 4) (value : BitVec 15)
  /-- COMPL_TIMER (R205): a 5 ms readback deviation sets COMPL, or 5 ms in tolerance clears it;
      operands: whether 5 ms of deviation, or of tolerance, have passed, and the readback in µA. -/
  | complTimer (n : Fin 4) (deviates : Bool) (actual : BitVec 16)
  /-- CONTACT_ACCEPT (R214): the debounce count accepts a new contact state; operands: the input and
      the consecutive samples before that one, 100 µs apart, and that one: the current in µA, or in a device
      whose source is not connected the pin voltage in mV (R212, R216). -/
  | contactAccept (n : Fin 32) (before : List Int) (last : Int)
  /-- LINE_FAULT (R214): 20 samples in a line band declare OPEN or SHORT; operands as for
      CONTACT_ACCEPT. -/
  | lineFault (n : Fin 32) (before : List Int) (last : Int)
  /-- CONTACT_CLAMP (R214): a clamp on a contact input releases CLAMP. -/
  | contactClamp (n : Fin 32) (on : Bool)
  /-- FEEDBACK_TIMEOUT (R219): a readback mismatch lasting FBT sets FBFLT, or FBT without mismatch
      clears it. -/
  | feedbackTimeout (m : Fin 32) (mismatch : Bool)
  /-- PULSE_TEST_START (R220): a due output is driven low 100 µs after a latch for its pulse test.
      -/
  | pulseTestStart (m : Fin 32)
  /-- PULSE_TEST_END (R220): after PTW the pulse ends and the output returns to its energised
      level; operands: the readback as it stood when the pulse ended, after PTW or at the emit that
      cut it. -/
  | pulseTestEnd (m : Fin 32) (fb : Bool)
  /-- PULSE_TEST_VERDICT (R220): FBT after the pulse, the test passes or sets PTFAIL; operands:
      the readback after the pulse. -/
  | pulseTestVerdict (m : Fin 32) (fb : Bool)
  /-- HOSTSET_WRITE (R218): a write to DIO_HOSTSET sets host-sourced outputs and records
      overridden bits; operands: which of the two registers, and the word. -/
  | hostsetWrite (sess : Nat) (reg31 : Bool) (value : Word)
  /-- ACK (R240): an ACK command acknowledges one alarm. -/
  | ack (src : CmdSrc) (point : BitVec 16) (kind : BitVec 8)
  /-- ACKPOINT (R242): an ACKPOINT command acknowledges every alarm of a point. -/
  | ackpoint (src : CmdSrc) (point : BitVec 16)
  /-- INHIBIT (R237): an INHIBIT command inhibits the alarms of a mask. -/
  | inhibit (src : CmdSrc) (point : BitVec 16) (mask : BitVec 9)
  /-- UNINHIBIT (R242): an UNINHIBIT command clears inhibit bits. -/
  | uninhibit (src : CmdSrc) (point : BitVec 16) (mask : BitVec 9)
  /-- OOS (R237): an OOS command takes a point out of service. -/
  | oos (src : CmdSrc) (point : BitVec 16)
  /-- RTS (R242): an RTS command returns a point to service. -/
  | rts (src : CmdSrc) (point : BitVec 16)
  /-- WRITEPT (R245): a WRITEPT command sets a host point's value and status. -/
  | writept (src : CmdSrc) (point : BitVec 16) (value : BitVec 32) (status : BitVec 8)
  /-- HOST_POINT_STALE (R245): a host point without a write for its timeout becomes stale. -/
  | hostPointStale (h : Fin 512)
  /-- ALARM_DELAY_EXPIRE (R234): an on-delay or off-delay count completes and the delayed
      condition changes. -/
  | alarmDelayExpire (p : Fin 4096) (k : Fin 9)
  /-- RATE_WINDOW (R234): at a turn whose number is a multiple of RWIN, the rate quantity is
      recomputed. -/
  | rateWindow (p : Fin 4096)
  /-- TIMER_CELL_EXPIRE (R258): a timer cell's count reaches PT and its output changes. -/
  | timerCellExpire (t : Fin 2048)
  /-- SETDUTY (R262): a SETDUTY command selects the duty engineer. -/
  | setduty (src : CmdSrc) (eng : BitVec 8)
  /-- ACCEPT (R265): an ACCEPT command accepts the calling chains of a station. -/
  | accept (src : CmdSrc) (station : BitVec 8)
  /-- STATIONACK (R265): a STATIONACK command accepts chains and forms ACK commands for the
      station's alarms. -/
  | stationack (src : CmdSrc) (station : BitVec 8)
  /-- PRESENCE (R262): a PRESENCE command marks an engineer present or absent. -/
  | presence (src : CmdSrc) (eng : BitVec 8) (present : BitVec 8)
  /-- WATCH (R269): a WATCH command turns the watch on or off. -/
  | watch (src : CmdSrc) (on : BitVec 8)
  /-- WATCHRESET (R269): a WATCHRESET command resets the watch count. -/
  | watchreset (src : CmdSrc)
  /-- STATION_PRESS (R264): a rising ACKDI state counts as a STATIONACK at belfry rank. -/
  | stationPress (k : Fin 8)
  /-- WATCH_CONTACT_RESET (R269): a rising edge of WDI0 to WDI3 resets the watch while it is on.
      -/
  | watchContactReset (k : Fin 4)
  /-- DUTY_SWITCH_ACT (R261): a new valid selector code makes a duty act. -/
  | dutySwitchAct
  /-- DUTY_SCHEDULE_ACT (R263): local time passing a schedule minute makes a duty act. -/
  | dutyScheduleAct
  /-- CHAIN_ESCALATE (R267): a CALLING chain's count reaches its stage time-out and the chain
      escalates. -/
  | chainEscalate (c : Fin 16)
  /-- CHAIN_REARM (R267): an accepted chain's count reaches REARM and the chain returns to
      CALLING. -/
  | chainRearm (c : Fin 16)
  /-- WATCH_PRE (R269): the watch count reaches WTIME minus WPRE and the watch enters PRE. -/
  | watchPre
  /-- WATCH_EXPIRE (R269): the watch count reaches WTIME, the watch enters EXP and WCHAIN
      triggers. -/
  | watchExpire
  /-- LEDGER_DRAIN (R294): the write buffer drains an accepted entry to the ledger and updates the
      replay tables. -/
  | ledgerDrain
  /-- CHECKPOINT_SIGNED (R290): the vault finishes signing a completed segment's checkpoint. -/
  | checkpointSigned
  /-- SEAL_WRITE (R295): the flush of accepted entries completes and the seal is written;
      operands: the duration of the flush in µs. -/
  | sealWrite (us : BitVec 10)
  /-- JOURNAL_EXPORT (R302): accepted entries are placed in Q48 when it has room. -/
  | journalExport
  /-- EXPACK_WRITE (R303): a write to JRN_EXPACK confirms entries and moves the watermark. -/
  | expackWrite (seqlo : BitVec 30)
  /-- POOL_CLR (R297): writing CLR in JRN_POOL resets PEAK. -/
  | poolClr
  /-- HOLDCNT_CLR (R298): writing CLR in JRN_HOLDCNT resets TOTAL. -/
  | holdcntClr
  /-- HEAD_LO_READ (R283): a read of JRN_HEAD_LO latches the high word of H. -/
  | headLoRead
  /-- WMARK_LO_READ (R283): a read of JRN_WMARK_LO latches the high word of W. -/
  | wmarkLoRead
  /-- CKPT_LO_READ (R290): a read of JRN_CKPT_LO latches the high word of the checkpoint SEQ. -/
  | ckptLoRead
  /-- CAN_FRAME_RECEIVED (R318): a valid received frame is placed in the ring and matched against
      the receive map; operands: the start-of-frame stamp, the ESI bit and the frame. -/
  | canFrameReceived (ch : Fin 4) (stamp : Word) (esi : Bool) (frame : Frame)
  /-- TX_BUFFER_LOAD (R322): a free transmit buffer loads the next eligible frame from its queues.
      -/
  | txBufferLoad (ch : Fin 4) (k : Fin 3)
  /-- TX_COMPLETE (R336): a frame completes on the bus and the transmit mark passes. -/
  | txComplete (ch : Fin 4) (k : Fin 3) (stamp : Word)
  /-- TX_ERROR (R323): a lost arbitration or an error causes an automatic retry; operands: the
      error code, or arbitration lost, and whether an error-passive channel saw no dominant bit while it
      sent its error flag (ISO 11898-1). -/
  | txError (ch : Fin 4) (k : Fin 3) (lec : BitVec 3) (arb quiet : Bool)
  /-- BUSOFF_RECOVERY (R323): 128 sequences of 11 recessive bits return the channel to error-
      active. -/
  | busoffRecovery (ch : Fin 4)
  /-- TXCANCEL (R324): a write to CANn_TXCANCEL cancels a host frame and writes its digest;
      operands: the register write, and where the attempt of the frame stands if a buffer holds it (1
      waiting, 2 arbitrating, 3 arbitration won). -/
  | txcancel (ch : Fin 4) (cmdid : Word) (phase : Fin 4)
  /-- RXWIN_LOCK (R320): a read of receive window word 0 locks the window onto the head element.
      -/
  | rxwinLock (ch : Fin 4)
  /-- RXWIN_RELEASE (R320): a read of window word 19 releases the lock and removes the element. -/
  | rxwinRelease (ch : Fin 4)
  /-- RXUNLOCK (R320): writing 1 to CANn_RXUNLOCK releases the lock without removing the element.
      -/
  | rxunlock (ch : Fin 4)
  /-- BACKLOG_PLACE (R336): a sequenced frame held as backlog is placed once its queue has room.
      -/
  | backlogPlace (ch : Fin 4)
  /-- MARK_LO_READ (R336): a read of CANn_MARK_LO latches the high word of the mark. -/
  | markLoRead (ch : Fin 4)
  /-- REMOTE_POINT_STALE (R334): a remote point without an update for its stale time becomes
      stale. -/
  | remotePointStale (p : Fin 4096)
  /-- CAN_WAKE (R341): a wake condition on CAN0 or CAN1 in SLEEP raises CANn_WAKE; operands: the
      channel and what its wake detector sees. -/
  | canWake (w : WakeSeen)
  /-- CAN_INTEGRATED (R342): after 11 recessive bits, an enabled channel enters its mode. -/
  | canIntegrated (ch : Fin 4)
  /-- CANFRAME (R479): a host CANFRAME command is judged against its queue and its frame is placed
      at emit. -/
  | canframe (ref : HostRef) (ok : Bool) (ch flags : BitVec 8) (id : Word) (data : List Byte)
  /-- TOKEN_FREE (R373): a standby that sees PAIR_TOKEN free for 5 µs takes the token; operands:
      whether the line stayed free, so that the token was taken. -/
  | tokenFree (granted : Bool)
  /-- PAIR_HOLD_RELEASE (R371): PAIR_HOLD is released after the line has been low for 20 µs. -/
  | pairHoldRelease
  /-- ROLE_MSG (R349): a peer's ROLE report on Q63 is received. -/
  | roleMsg (bytes : List Byte)
  /-- LINK_TRAINING_DONE (R354): link training completes and LSTATE reaches UP; operands: the
      lanes trained, and the peer's authentication. -/
  | linkTrainingDone (lanes : BitVec 2) (auth : List Byte)
  /-- LINK_LOST (R357): no valid symbol for 10 µs declares the link lost. -/
  | linkLost
  /-- LANE_DEGRADED (R357): one lane failing for 10 µs leaves the link on one lane. -/
  | laneDegraded (lane : Fin 2)
  /-- LINK_BLOCK_RECEIVED (R355): a link block is received, checked by CRC and acknowledged;
      operands: the queue Q60 + q, the sequence, the CRC's verdict and the payload of a block; or the
      acknowledgement set that came. -/
  | linkBlockReceived (q : Fin 4) (seq : BitVec 16) (crcOk : Bool) (bytes : List Byte) (ack : Option (BitVec 16))
  /-- LINK_BLOCK_TIMEOUT (R355): a block without acknowledgement after 5 µs is sent again. -/
  | linkBlockTimeout (q : Fin 4)
  /-- TURN_START_SET (R356): the standby starts its turn on the active's turn-start set; operands:
      bits [15:0] of the turn number (R356). -/
  | turnStartSet (turn : BitVec 16)
  /-- INPUT_DELTA (R360): the standby receives the active's input image delta; operands: the
      active's input image, and its latest release of every shared channel. -/
  | inputDelta (image : InImage) (rel : List Release)
  /-- COMMITEND (R360): the standby compares the entries and digest and sends ACK or NAK. -/
  | commitend (turn : BitVec 48) (entries : List (List Byte)) (digest : List Byte)
  /-- ACK_MSG (R362): the active receives ACK, which completes its commit. -/
  | ackMsg (bytes : List Byte)
  /-- NAK_MSG (R368): a NAK makes the turn a castling turn. -/
  | nakMsg (bytes : List Byte)
  /-- MIRROR_BLOCK (R363): the standby receives mirror state and compares the state digest;
      operands: the turn mirrored and the complete mirror. -/
  | mirrorBlock (turn : BitVec 48) (mirror : Mirror)
  /-- HEALTH_MSG (R391): a peer's health report is received and examined. -/
  | healthMsg (bytes : List Byte)
  /-- HEALTH_TIMEOUT (R367): no health report for two turns leads to a reset of the standby or a
      HEALTH cause. -/
  | healthTimeout
  /-- FAST_SELFTEST_DONE (R369): the castling fast self-test of length TFST ends and STRES is
      sent; operands: the six results, 1 for a failed one. -/
  | fastSelftestDone (res : BitVec 6)
  /-- STRES_MSG (R370): the peer's self-test results are received. -/
  | stresMsg (bytes : List Byte)
  /-- CASTLING_DECIDE (R370): at the latch of turn n + 2, the self-test results decide who holds
      the token. -/
  | castlingDecide
  /-- YIELD_MSG (R377): a YIELD message starts a planned hand-over. -/
  | yieldMsg (bytes : List Byte)
  /-- RESETCMD_MSG (R367): a RESETCMD from the peer resets the device. -/
  | resetcmdMsg
  /-- HAPPEN_MSG (R293): a standby's happening reaches the active and enters Q39. -/
  | happenMsg (kind : BitVec 8) (payload : List Byte)
  /-- HEARTBEAT_LOSS (R375): the active's heartbeat missing for two turn periods sets HBLOST. -/
  | heartbeatLoss
  /-- START_CLAIM (R379): after link up or 50 ms, a pair device claims the token or becomes
      REJOINING; operands: what the token line and PAIR_ID show, and with the link up the peer's H +
      1. -/
  | startClaim (lineFree idHigh : Bool) (peerNext : BitVec 48)
  /-- REJOIN_STATE (R380): the rejoiner receives the active's full state and journal tail;
      operands: the state of one turn, the agreement point plus one, the active's entries from there
      on, its duplicate state as sender, stream, highest sequence and window, and its transmit marks.
      -/
  | rejoinState (mirror : Mirror) (agreed : BitVec 48) (tail : List LEntry) (dups : List (Nat × Nat × Nat × Nat)) (marks : List Nat)
  /-- REJOIN_CUTOVER (R380): at cutover, the rejoiner becomes STANDBY; operands: turn c, the
      agreement point plus one, and the active's ingress queues at the cutover. -/
  | rejoinCutover (turn agreed : BitVec 48) (pool : List (List Entry))
  /-- HANDOVER (R377): writing HANDOVER in PAR_CMD requests a planned castling. -/
  | handover (sess : Nat)
  /-- EJECT_ASSERT (R507): EJECT_N asserted for 1 ms acts according to the role. -/
  | ejectAssert
  /-- EJECT_RELEASE (R508): EJECT_N released for 1 ms ends write-through. -/
  | ejectRelease
  /-- DANGEROUS_FAULT (R384): the watchtower declares a dangerous fault and reacts according to
      the role. -/
  | dangerousFault (code detail : BitVec 8)
  /-- WATCHTOWER_RESET (R395): RSTDLY after a declaration, a watchtower reset follows. -/
  | watchtowerReset
  /-- LATENT_TEST_DONE (R396): a latent test completes, and a failure sets LATFAIL. -/
  | latentTestDone (t : Fin 12) (pass : Bool)
  /-- LATENT_TEST_OVERDUE (R397): a scheduled latent test not completed within an hour becomes
      overdue. -/
  | latentTestOverdue (t : Fin 12)
  /-- IMGLOAD (R483): the host writes envelope bytes into the inactive slot. -/
  | imgload (frame : List Byte)
  /-- IMAGE_VERIFIED (R412): image verification ends in READY or FAILED. -/
  | imageVerified
  /-- PEER_READY (R414): the standby's READY report sets PEERRDY. -/
  | peerReady (ready : Bool)
  /-- SWAP (R415): a write of SWAP requests an image swap. -/
  | swap (sess : Nat)
  /-- SWAP_NOTICE (R415): the standby receives the swap turn w with IMGHASH and confirms. -/
  | swapNotice (turn : BitVec 48) (hash : List Byte)
  /-- SWAP_LATCH (R415): at the swap latch, the new image applies and state is carried or
      restarted. -/
  | swapLatch
  /-- BOOTNEXT (R417): a write of BOOTNEXT makes the READY slot active at the next reset. -/
  | bootnext (sess : Nat)
  /-- ABORT (R414): a write of ABORT abandons staging and empties the slot. -/
  | abort (sess : Nat)
  /-- ATTEST (R418): an ATTEST command writes a signed report to Q53. -/
  | attest (ref : HostRef) (ok : Bool) (nonce : List Byte)
  /-- OWNTOKEN (R423): an owner token is judged and acts as RESET or DECOMMISSION. -/
  | owntoken (ref : HostRef) (ok : Bool) (token : List Byte)
  /-- ERASE (R424): an ERASE command in OWNCLR starts the erasure of the ledger and keys. -/
  | erase (ref : HostRef) (ok : Bool)
  /-- ERASE_DONE (R424): the erasure completes and GENESIS is formed. -/
  | eraseDone
  /-- OWNCLR_ENTER (R424): OWN_CLR held for 2 s after a reset enters OWNCLR. -/
  | ownclrEnter
  /-- OWNCLR_TIMEOUT (R424): ten minutes in OWNCLR without a way out leads to a normal start-up.
      -/
  | ownclrTimeout
  /-- SESSION_LOCK_END (R420): the one-minute lock on session openings ends. -/
  | sessionLockEnd
  /-- OLDFS_EXPIRE (R419): after OLDTURNS turns, the vault erases OLDFS. -/
  | oldfsExpire
  /-- TRNG_FAULT (R405): a TRNG health test failure sets TRNGFLT. -/
  | trngFault (failing : Bool)
  /-- DOME_SUPPLY_SWITCH (R430): the dome switches between VDDIO and VBAT. -/
  | domeSupplySwitch (onbat : Bool)
  /-- DOME_RETENTION_LOSS (R431): the dome rail below 1.6 V sets OSC_STOP and DOME_LOST and clears
      the dome. -/
  | domeRetentionLoss
  /-- OSC_STOP (R433): no CK_LF edge for 4 ms sets OSC_STOP and the count holds. -/
  | oscStop
  /-- OSC_RESTART (R433): the crystal restarts and the count continues silently. -/
  | oscRestart
  /-- SET (R437): a write of DOM_SET_HI requests a SET of the count. -/
  | set (sess : Nat) (hi : BitVec 16)
  /-- ZONE (R437): a write of DOM_ZONE requests a new zone offset. -/
  | zone (sess : Nat) (zone : BitVec 12)
  /-- HOUR_ADD (R437): a write of HOUR_ADD requests ZONE + 60. -/
  | hourAdd
  /-- HOUR_SUB (R437): a write of HOUR_SUB requests ZONE − 60. -/
  | hourSub
  /-- SHIFT (R437): a write of DOM_SHIFT requests a slew remainder. -/
  | shift (value : BitVec 16)
  /-- SLEW_INCREMENT (R438): once in 64 ticks, the slew inserts or withholds an increment. -/
  | slewIncrement
  /-- CAPTURE (R436): a write of CAPTURE latches count, FRAC, bus counters, turn and PB0 count. -/
  | capture
  /-- TICK_LO_READ (R436): a read of DOM_TICK_LO latches the high word of the live count. -/
  | tickLoRead
  /-- ALARM_ARM (R439): a write to DOM_ALMCMPa_HI arms the alarm. -/
  | alarmArm (a : Fin 2) (hi : BitVec 16)
  /-- ALARM_FIRE (R439): an armed alarm's time reaches CMP, and the alarm fires and disarms. -/
  | alarmFire (a : Fin 2)
  /-- PANEL_FRAME (R457): at each panel frame boundary, pending regions whose conditions hold
      start their updates; operands: VLCD measured at the boundary, in 10 mV. -/
  | panelFrame (vlcd : BitVec 16)
  /-- UPDATE_COMPLETE (R458): a region update completes after its last frame. -/
  | updateComplete (r : Fin 16)
  /-- TPAN_SAMPLE (R450): every 100 ms, TPAN is converted and the temperature band judged. -/
  | tpanSample (code : BitVec 12)
  /-- VLCD_FAULT (R451): VLCD outside ±5 % for 10 ms sets VFLT, and 10 ms within ±2 % clears it.
      -/
  | vlcdFault (fault : Bool) (vmeas : BitVec 16)
  /-- CRACK (R463): two frames with the crack loop above its limit set CRACK. -/
  | crack (rcrk : BitVec 16)
  /-- PANEL_REQUEST (R456): the driver consumes a panel request and makes the region's targets
      pending; operands: the queue Q(56 + k) whose head the driver consumes. -/
  | panelRequest (k : Fin 4)
  /-- PNLHOST (R455): a PNLHOST command sets the levels of a region's HOST elements. -/
  | pnlhost (ref : HostRef) (ok : Bool) (args : List Byte)
  /-- PNLMAINT_TEST (R455): a PNLMAINT TEST sets MAINT with a test level. -/
  | pnlmaintTest (ref : HostRef) (ok : Bool) (region level : BitVec 8)
  /-- PNLMAINT_RESTORE (R455): a PNLMAINT RESTORE clears MAINT and makes the content targets
      pending. -/
  | pnlmaintRestore (ref : HostRef) (ok : Bool) (region : BitVec 8)
  /-- PNLMAINT_REDRAW (R455): a PNLMAINT REDRAW marks a region UNKNOWN and pending. -/
  | pnlmaintRedraw (ref : HostRef) (ok : Bool) (region : BitVec 8)
  /-- OPEN1 (R475): the first transaction of a session opening exchanges nonces. -/
  | open1 (frame : List Byte)
  /-- OPEN2 (R475): the second transaction confirms the session key and opens the session. -/
  | open2 (frame : List Byte)
  /-- CLOSE (R475): CLOSE ends a session. -/
  | close (frame : List Byte)
  /-- READ (R477): a READ returns consecutive words of registers or windows. -/
  | read (frame : List Byte)
  /-- CMD (R479): a CMD places a command element in its command channel after the replay check. -/
  | cmd (frame : List Byte)
  /-- POLL (R480): a POLL returns the result or state of a command ID. -/
  | poll (frame : List Byte)
  /-- QPEEK (R481): a QPEEK returns elements from the head of a notification queue without
      removing them. -/
  | qpeek (frame : List Byte)
  /-- QPOP (R481): a QPOP removes elements from the head of a notification queue. -/
  | qpop (frame : List Byte)
  /-- BADOPC (R477): a request with a reserved opcode returns BADOPC. -/
  | badopc (frame : List Byte)
  /-- TRANSACTION_ABORT (R470): HST_CS_N rising before the request CRC ends the transaction
      without effect; operands: whether the transaction ended during the response. -/
  | transactionAbort (afterCrc : Bool)
  /-- IDEAL_DIODE_REVERSE (R487): a feed falling below VCOMB turns its gate off and sets REV;
      operands: feed A or B. -/
  | idealDiodeReverse (b : Bool)
  /-- FEED_RANGE_CHANGE (R489): a feed's INRANGE, OV or UV classification changes. -/
  | feedRangeChange (b inrange ov uv : Bool)
  /-- POWER_FAIL_WARNING (R493): VCOMB low for 5 µs, or PRES_N high for 100 µs, sets the warning,
      the flush and the forced shutdowns; operands: from PRES_N, else from VCOMB. -/
  | powerFailWarning (pres : Bool)
  /-- PFW_CLEAR (R494): the warning clears and forced enables are written back. -/
  | pfwClear
  /-- FEEDLOSS_RESET (R495): a warning standing for 10 ms ends in a feed-loss reset. -/
  | feedlossReset
  /-- RAIL_RESET (R490): a rail below its reset threshold resets the digital die within 10 µs. -/
  | railReset
  /-- VHVLOW_CHANGE (R491): VHV below 20 V for 1 ms sets VHVLOW, or 1 ms at 20.5 V clears it. -/
  | vhvlowChange (low : Bool)
  /-- POWER_GOOD (R506): rails in their windows for 1 ms and PRES_N low for 50 ms assert power-
      good. -/
  | powerGood
  /-- RESET_RELEASE (R500): after at least 200 µs, the digital die leaves reset. -/
  | resetRelease
  /-- START_UP (R497): the start-up steps run from power-good or reset release to the first turn.
      -/
  | startUp
  /-- HOST_RESET (R500): a write of RESET in PWR_RSTCMD resets the digital die after the seal. -/
  | hostReset (sess : Nat)
  /-- COMB_CLR (R492): writing CLR in PWR_COMB sets VMIN to the present VCOMB. -/
  | combClr
  /-- SLEEP_REQUEST (R502): a write of REQ in PWR_SLEEP asks for sleep and is judged at the next
      latch. -/
  | sleepRequest (sess : Nat) (mask : BitVec 4)
  /-- SLEEP_ENTER (R502): after the last emit and the seal, the device enters sleep. -/
  | sleepEnter
  /-- WAKE (R503): an enabled wake source ends sleep and leads to start-up. -/
  | wake (source : BitVec 4)
  /-- LOP_CLAMP (R183): a clamp current on a loop pin sets CLAMP in LOP_STSn and raises EV94;
      operands: loop input, or 16 + loop output. -/
  | lopClamp (n : Fin 20)
  /-- CAN_RX_ERROR (R345): a bus error detected while receiving raises the receive error counter
      and may change ESTATE, raising CANn_ERRST. -/
  | canRxError (ch : Fin 4) (lec : BitVec 3) (primary : Bool)
  /-- FEED_GATE_ON (R487): a feed rising above VCOMB turns its ideal-diode gate on again. -/
  | feedGateOn (b : Bool)
  /-- BATLOW (R445): the once-per-second VBAT measurement finds VBAT below 2.2 V, sets BATLOW and
      raises EV236. -/
  | batlow (vbat : BitVec 16)
  /-- TEMPHI (R401): the 1 ms junction-temperature reading reaches TEMPWARN, sets TEMPHI and
      raises EV214. -/
  | temphi (temp : BitVec 16)
  /-- ECCCOR (R402): a corrected SRAM or ledger ECC error, found on access or by the 10 ms
      background scrub, sets ECCCOR and counts in WTC_ECC. -/
  | ecccor (ledger : Bool)
  deriving DecidableEq, Repr

end Sys2Proof
end

