-- ==== Sys2Proof/Decode.lean ====
section
/-!
DEFINITION. The commands that a word spells: none, since no row of the table gives bits.
-/
namespace Sys2Proof

/-- The command that a word of `nbits` bits spells: the table gives no row any bits, so none. -/
def decodeTableWord (nbits w : Nat) : Option Instr :=
  match nbits, w with
  | _, _ => none

end Sys2Proof
end

