-- ==== Sys2Proof/Config.lean ====
section
/-!
DEFINITION. What the spec leaves open or takes from other standards, as constants with no
body: nothing can be proved of their values (log entries 6, 8, 10 and 12).
-/
namespace Sys2Proof.Config

open Sys2Proof.Machine

/-- The free values: where the spec states no value, the step reads this at its own counter
(log entry 6). -/
opaque freeValue : Nat → BitVec 64

/-- Whether an ECDSA P-256 signature (r, s; 64 bytes) over a message verifies under a public
key (FIPS 186, named by R291, R411, R423; log entry 8). -/
opaque ecdsaVerify (key msg sig : List Byte) : Bool

/-- The ECDSA P-256 signature by the device identity key (R291, R403, R418; log entry 8). -/
opaque ecdsaSign (msg : List Byte) : List Byte

/-- The x coordinate of the ECDH product of the identity key and a public key (R411). -/
opaque ecdhX (epub : List Byte) : List Byte

/-- AES-256-GCM decryption: none when the tag fails (R411; SP 800-38D). -/
opaque gcmDecrypt (key iv aad text tag : List Byte) : Option (List Byte)

/-- AES-128-CMAC (R327; SP 800-38B). -/
opaque cmac (key msg : List Byte) : List Byte

/-- The device certificate of the OTP (R404). -/
opaque certificate : List Byte

/-- The certificate of the other device of the pair, which signs the checkpoints that a standby checks (R291). -/
opaque peerCertificate : List Byte

/-- The digest of a complete mirror's state (R363): the spec gives that state no layout (log entry 10). -/
opaque stateDigest (s : EvalState) : List Byte

/-- The bytes in which a complete mirror, and an input image with the releases beside it, travel on Q60 (R26, R360): the
spec gives them no layout (log entry 10). -/
opaque mirrorBytes (m : Mirror) : List Byte
opaque imageBytes (inp : InImage) (rel : List Release) : List Byte

/-- Whether a peer's certificate and its answer to a challenge pass R422. -/
opaque peerAuthentic (cert challenge answer : List Byte) : Bool

/-- The expected code of the internal reference of a scanning converter (R121; log entry 12). -/
opaque refchkCode (sc : Nat) : Int

/-- The resistance that full scale of a cold-junction conversion stands for, in ohms, as a binary64
number (R115 names the internal reference resistor and gives no value; log entry 12). -/
opaque cjFullScale : Int × Int

end Sys2Proof.Config
end

