-- ==== Sys2Proof/Machine/Bits.lean ====
section
/-!
DEFINITION. Bit fields of register words (R3), little-endian bytes (R2), saturating and
rounding arithmetic that the evaluation pseudocode of several chapters shares.
-/
namespace Sys2Proof.Machine

/-- The mask of a field inside its word (R3). -/
def Field.mask (f : Field) : Word := BitVec.ofNat 32 ((2 ^ f.width - 1) * 2 ^ f.lo)

/-- The value of a field of a word. -/
def getF (f : Field) (w : Word) : Nat := (w.toNat / 2 ^ f.lo) % 2 ^ f.width

/-- A word with one field replaced; the value is cut to the field's width. -/
def putF (f : Field) (w : Word) (v : Nat) : Word :=
  (w &&& ~~~ (Field.mask f)) ||| (BitVec.ofNat 32 ((v % 2 ^ f.width) * 2 ^ f.lo))

/-- Bit `i` of a natural number. -/
def bitOf (n i : Nat) : Bool := n / 2 ^ i % 2 == 1

/-- A Bool as 0 or 1. -/
def b2n (b : Bool) : Nat := if b then 1 else 0

/-- `n` with bit `i` set to `b`. -/
def putBit (n i : Nat) (b : Bool) : Nat :=
  if bitOf n i then (if b then n else n - 2 ^ i) else (if b then n + 2 ^ i else n)

/-- The low byte of a number. -/
def byteOf (n : Nat) : Byte := BitVec.ofNat 8 n

/-- The `k` bytes of a number, least significant first (R2). -/
def leBytes : Nat → Nat → List Byte
  | 0, _ => []
  | k + 1, v => byteOf v :: leBytes k (v / 256)

/-- The number that a list of bytes spells, least significant first (R2). -/
def ofLe : List Byte → Nat
  | [] => 0
  | b :: bs => b.toNat + 256 * ofLe bs

/-- The number that a list of bytes spells, most significant first. -/
def ofBe (bs : List Byte) : Nat := ofLe bs.reverse

/-- The `k` bytes of a number, most significant first. -/
def beBytes (k v : Nat) : List Byte := (leBytes k v).reverse

/-- The two's complement value of a `w`-bit number. -/
def signed (w n : Nat) : Int :=
  let m := n % 2 ^ w
  if 2 * m < 2 ^ w then (m : Int) else (m : Int) - (2 ^ w : Nat)

/-- The `w`-bit two's complement pattern of an integer. -/
def pattern (w : Nat) (x : Int) : Nat := (x % (2 ^ w : Nat)).toNat

/-- A register word from an integer. -/
def wordOfInt (x : Int) : Word := BitVec.ofNat 32 (pattern 32 x)

/-- A list of exactly `k` bytes: cut, or filled with zero bytes. -/
def padTo (k : Nat) (bs : List Byte) : List Byte :=
  (bs.take k) ++ List.replicate (k - bs.length) 0

/-- `k` bytes of a list from an offset. -/
def slice (bs : List Byte) (off k : Nat) : List Byte := (bs.drop off).take k

/-- The unsigned little-endian field of `k` bytes at an offset. -/
def uAt (bs : List Byte) (off k : Nat) : Nat := ofLe (slice bs off k)

/-- The signed little-endian field of `k` bytes at an offset. -/
def sAt (bs : List Byte) (off k : Nat) : Int := signed (8 * k) (uAt bs off k)

/-- The byte at an offset, 0 beyond the end. -/
def byteAt (bs : List Byte) (off : Nat) : Nat := (bs.getD off 0).toNat

/-- Saturation to the signed range of `w` bits. -/
def satS (w : Nat) (x : Int) : Int :=
  let hi : Int := (2 ^ (w - 1) : Nat) - 1
  let lo : Int := -((2 ^ (w - 1) : Nat) : Int)
  if x > hi then hi else if x < lo then lo else x

/-- Limiting to a closed range. -/
def clampI (lo hi x : Int) : Int := if x > hi then hi else if x < lo then lo else x

/-- Saturating increment of a counter. -/
def satInc (max v : Nat) : Nat := if v < max then v + 1 else max

/-- The list with element `i` replaced. -/
def upd {α : Type} (l : List α) (i : Nat) (f : α → α) : List α :=
  match l, i with
  | [], _ => []
  | x :: xs, 0 => f x :: xs
  | x :: xs, i + 1 => x :: upd xs i f

/-- Division rounding to nearest, halves away from zero. -/
def divRound (n d : Int) : Int :=
  if d = 0 then 0
  else
    let a := (2 * n.natAbs + d.natAbs) / (2 * d.natAbs)
    if (n < 0) = (d < 0) then (a : Int) else -(a : Int)

/-- CRC-16 with polynomial 0x1021, one byte (R473). -/
def crcByte (crc : Nat) (b : Byte) : Nat :=
  (List.range 8).foldl
    (fun c _ => if c ≥ 0x8000 then ((2 * c) ^^^ 0x1021) % 0x10000 else 2 * c)
    (crc ^^^ (b.toNat * 256))

/-- CRC-16/CCITT over a list of bytes, initial value 0xFFFF (R473). -/
def crc16 (bs : List Byte) : Nat := bs.foldl crcByte 0xFFFF

/-- The currents that IEXI selects, in µA (R111). -/
def iexiAmps (iexi : Nat) : Nat := [100, 250, 500, 750, 1000].getD iexi 0

/-- The arbitration key of an ID word: the base bits, then base before extended, then the rest (ISO 11898-1, as
R32 names it); the smaller key wins. -/
def arbKey (w : Nat) : Nat :=
  let id := w % 2 ^ 29
  if bitOf w 29 then (2 * (id / 2 ^ 18) + 1) * 2 ^ 18 + id % 2 ^ 18 else 2 * (id % 2 ^ 11) * 2 ^ 18

end Sys2Proof.Machine
end

