-- ==== Sys2Proof/Machine/Entries.lean ====
section
/-!
DEFINITION. The forming of journal entries: KIND, SRC and ingress queue (R286), the payload
layouts of COMMAND, ALARM and the coded entries (R286, R426, R537), and the source ranks (R34).
-/
namespace Sys2Proof.Machine

/-- An entry of evaluation (R285): its payload is filled to 32 bytes. -/
def mkEntry (kind src ing : Nat) (payload : List Byte) (turn tick : Nat) : Entry :=
  { kind := kind, src := src, ing := ing, payload := padTo 32 payload, turn := turn,
    tick := tick, outside := false, places := [] }

/-- An entry that arises outside evaluation; its forming turn is given at the latch (R297). -/
def outEntry (kind src ing : Nat) (payload : List Byte) : Entry :=
  { kind := kind, src := src, ing := ing, payload := padTo 32 payload, turn := 0, tick := 0,
    outside := true, places := [] }

/-- The SRC of a SYSTEM entry by its code (R537). -/
def systemSrc (code : Nat) : Nat :=
  if code = 0x0005 then 0x01
  else if code = 0x0001 ∨ code = 0x0009 then 0x02
  else if code = 0x0006 ∨ code = 0x0007 then 0x03
  else if code = 0x000C then 0x09
  else 0x00

/-- A SYSTEM entry (R537). -/
def sysEntry (code : Nat) (data : List Byte) : Entry :=
  outEntry 0x30 (systemSrc code) 5 (leBytes 2 code ++ data)

/-- A SECURITY entry (R426). -/
def secEntry (code : Nat) (data : List Byte) : Entry :=
  outEntry 0x40 0x0A 6 (leBytes 2 code ++ data)

/-- A PAIR entry (R381). -/
def pairEntry (code : Nat) (data : List Byte) : Entry :=
  outEntry 0x50 0x04 7 (leBytes 2 code ++ data)

/-- The ingress queue of an alarm class A to D: Q32 to Q35 (R286). -/
def classIng (cls : Nat) : Nat := cls % 4

/-- Source rank: smaller stands higher (R34). -/
def CmdSrc.rank : CmdSrc → Nat
  | .belfry => 3
  | .can ch _ _ _ => 5 + ch
  | .host _ _ => 9

/-- The SRC of a COMMAND entry (R285, R286). -/
def CmdSrc.code : CmdSrc → Nat
  | .belfry => 0x03
  | .can ch _ _ _ => 0x05 + ch
  | .host _ _ => 0x09

/-- Results of commands (R242, R286). -/
def resOk : Nat := 0
def resAlready : Nat := 1
def resNotAck : Nat := 2
def resRefused : Nat := 3
def resSuperseded : Nat := 4
def resNoPoint : Nat := 5
def resOverLattice : Nat := 7
def resOverridden : Nat := 8
def resBusy : Nat := 9

/-- The COMMAND payload (R286, R335). -/
def commandPayload (c : OpCmd) (result : Nat) : List Byte :=
  let head := match c.src with
    | .host r _ => leBytes 4 r.cmdid.toNat ++ leBytes 2 r.sess ++ [byteOf r.hc]
    | _ => leBytes 4 0 ++ leBytes 2 0xFFFF ++ [0xFF]
  let tail := match c.src with
    | .can _ sender stream seq => [byteOf sender, byteOf stream] ++ leBytes 2 seq ++ leBytes 4 0
    | _ => leBytes 8 0
  head ++ [byteOf c.opc, byteOf result] ++ padTo 15 c.args ++ tail

/-- The COMMAND entry of a command with its result (R244). -/
def commandEntry (c : OpCmd) (result turn tick : Nat) : Entry :=
  mkEntry 0x10 (CmdSrc.code c.src) 4 (commandPayload c result) turn tick

/-- The PERMDENY entry of a command (R420, R479). -/
def permDeny (sess opc turn tick : Nat) : Entry :=
  { secEntry 0x000A [byteOf sess, byteOf opc] with turn := turn, tick := tick, outside := false }

/-- The accumulator with an entry. -/
def Acc.ent (a : Acc) (e : Entry) : Acc := { a with ents := a.ents ++ [e] }

/-- The accumulator with an event for the emit. -/
def Acc.ev (a : Acc) (n : Nat) : Acc := { a with evs := a.evs ++ [n] }

/-- The accumulator with an event, if a condition holds. -/
def Acc.evIf (a : Acc) (b : Bool) (n : Nat) : Acc := if b then a.ev n else a

/-- The accumulator with an SQ flag of a register and the block's event (R50). -/
def Acc.flag (a : Acc) (reg bit ev : Nat) : Acc :=
  { a with flags := a.flags ++ [(reg, bit)], evs := a.evs ++ [ev] }

/-- An empty accumulator. -/
def Acc.nil : Acc := ⟨[], [], [], []⟩

/-- Commands of one turn in descending source rank, arrival within one source (R34, R243). -/
def byRank (cs : List OpCmd) : List OpCmd :=
  [3, 5, 6, 7, 8, 9].flatMap (fun r => cs.filter (fun c => CmdSrc.rank c.src = r))

end Sys2Proof.Machine
end

