-- ==== Sys2Proof/Machine/Regs.lean ====
section
/-!
DEFINITION. The register map: every register's address (R482 block map and the offset of its
own table), every field's place (R3), what the port may do to each register (R4, the Type
columns), and the values that are not 0 after reset (R6, the Reset columns; log entry 2
where a Reset column says "See description"). One name per register and field, as the spec
names them, without the lower-case instance letter of R8.
-/
namespace Sys2Proof.Machine

namespace R

/-- SYS_TURNCFG: turn configuration. -/
def SYS_TURNCFG : Nat := 0x40

/-- SYS_TURNNUM_LO: turn number, low word. -/
def SYS_TURNNUM_LO : Nat := 0x44

/-- SYS_TURNNUM_HI: turn number, high word. -/
def SYS_TURNNUM_HI : Nat := 0x48

/-- SYS_TURNSTAT: turn status. -/
def SYS_TURNSTAT : Nat := 0x4C

/-- SYS_COMMIT: commit capacity and last count. -/
def SYS_COMMIT : Nat := 0x50

/-- SYS_DEFER: deferred entries. -/
def SYS_DEFER : Nat := 0x54

/-- SYS_TIMING: last turn's phase times. -/
def SYS_TIMING : Nat := 0x58

/-- SYS_TIMINGMAX: maximum phase times. -/
def SYS_TIMINGMAX : Nat := 0x5C

/-- SYS_CLKSTAT: clock fault flags. -/
def SYS_CLKSTAT : Nat := 0x60

/-- SYS_KEYGATE: key gate. -/
def SYS_KEYGATE : Nat := 0x20

/-- SYS_GUARD: key-gate guard status. -/
def SYS_GUARD : Nat := 0x24

/-- HST_EVTCFG: event pin configuration. -/
def HST_EVTCFG : Nat := 0x170030

/-- HST_EVPENDm: event pending. -/
def HST_EVPEND (m : Nat) : Nat := 0x170040 + 0x4 * m

/-- HST_EVCLRm: event clear. -/
def HST_EVCLR (m : Nat) : Nat := 0x170060 + 0x4 * m

/-- HST_EVCFGn: event routing for EVn. -/
def HST_EVCFG (n : Nat) : Nat := 0x170100 + 0x4 * n

/-- HST_QSTATn: queue status. -/
def HST_QSTAT (n : Nat) : Nat := 0x170800 + 0x8 * n

/-- HST_QINFOn: queue shape. -/
def HST_QINFO (n : Nat) : Nat := 0x170804 + 0x8 * n

/-- HST_QPROMOCNT: promotion count. -/
def HST_QPROMOCNT : Nat := 0x170A00

/-- PHS_ENGSTAT: schedule engine status. -/
def PHS_ENGSTAT : Nat := 0x10000

/-- PHS_LATECNT: late entry count. -/
def PHS_LATECNT : Nat := 0x10004

/-- PHS_ENTRIES: schedule table use. -/
def PHS_ENTRIES : Nat := 0x10008

/-- PHS_INPm: angle input. -/
def PHS_INP (m : Nat) : Nat := 0x10040 + 0x4 * m

/-- PHS_STATn: base status. -/
def PHS_STAT (n : Nat) : Nat := 0x10100 + 0x40 * n

/-- PHS_POSn: live position. -/
def PHS_POS (n : Nat) : Nat := 0x10104 + 0x40 * n

/-- PHS_SPEEDn: speed. -/
def PHS_SPEED (n : Nat) : Nat := 0x10108 + 0x40 * n

/-- PHS_TOOTHn: current slot. -/
def PHS_TOOTH (n : Nat) : Nat := 0x1010C + 0x40 * n

/-- PHS_PERIODn: last slot period. -/
def PHS_PERIOD (n : Nat) : Nat := 0x10110 + 0x40 * n

/-- PHS_CNTn: error counts. -/
def PHS_CNT (n : Nat) : Nat := 0x10114 + 0x40 * n

/-- PHS_JUMPn: largest per-tooth correction. -/
def PHS_JUMP (n : Nat) : Nat := 0x10118 + 0x40 * n

/-- PHS_CFGn: binding. -/
def PHS_CFG (n : Nat) : Nat := 0x1011C + 0x40 * n

/-- UIN_STAT: block fault status. -/
def UIN_STAT : Nat := 0x20000

/-- UIN_FLTMAP_LO: channels in sensor fault, UI0 to UI31. -/
def UIN_FLTMAP_LO : Nat := 0x20008

/-- UIN_FLTMAP_HI: channels in sensor fault, UI32 to UI47. -/
def UIN_FLTMAP_HI : Nat := 0x2000C

/-- UIN_SCSTATn: converter status. -/
def UIN_SCSTAT (n : Nat) : Nat := 0x20010 + 0x4 * n

/-- UIN_SCCNTn: converter counts. -/
def UIN_SCCNT (n : Nat) : Nat := 0x20020 + 0x4 * n

/-- UIN_CJVALc: cold-junction temperature. -/
def UIN_CJVAL (c : Nat) : Nat := 0x20030 + 0x4 * c

/-- UIN_CJSTAT: cold-junction status. -/
def UIN_CJSTAT : Nat := 0x20040

/-- UIN_AMONm: analogue monitor. -/
def UIN_AMON (m : Nat) : Nat := 0x20048 + 0x4 * m

/-- UIN_DRESn_A: diagnostic result, main code. -/
def UIN_DRES_A (n : Nat) : Nat := 0x20060 + 0x10 * n

/-- UIN_DRESn_B: diagnostic result, lead code. -/
def UIN_DRES_B (n : Nat) : Nat := 0x20064 + 0x10 * n

/-- UIN_DRESn_C: diagnostic result, loop resistance. -/
def UIN_DRES_C (n : Nat) : Nat := 0x20068 + 0x10 * n

/-- UIN_CHCFGn: channel configuration. -/
def UIN_CHCFG (n : Nat) : Nat := 0x20100 + 0x4 * n

/-- UIN_CHTIMn: channel timing. -/
def UIN_CHTIM (n : Nat) : Nat := 0x20200 + 0x4 * n

/-- UIN_VALn: channel value. -/
def UIN_VAL (n : Nat) : Nat := 0x20300 + 0x4 * n

/-- UIN_STSn: channel status. -/
def UIN_STS (n : Nat) : Nat := 0x20400 + 0x4 * n

/-- UIN_DIAGn: diagnostic request. -/
def UIN_DIAG (n : Nat) : Nat := 0x20500 + 0x4 * n

/-- UIN_STEPn_k: scan step. -/
def UIN_STEP (n k : Nat) : Nat := 0x21000 + 0x100 * n + 0x4 * k

/-- QCH_STAT: block status. -/
def QCH_STAT : Nat := 0x30000

/-- QCH_PWRn: channel power. -/
def QCH_PWR (n : Nat) : Nat := 0x30100 + 0x4 * n

/-- QCH_RANGEn: range. -/
def QCH_RANGE (n : Nat) : Nat := 0x30140 + 0x4 * n

/-- QCH_CFGn: configuration. -/
def QCH_CFG (n : Nat) : Nat := 0x30180 + 0x4 * n

/-- QCH_STSn: channel status. -/
def QCH_STS (n : Nat) : Nat := 0x30200 + 0x4 * n

/-- QCH_CYCn: cycle number. -/
def QCH_CYC (n : Nat) : Nat := 0x30240 + 0x4 * n

/-- QCH_RESn_w: cycle result. -/
def QCH_RES (n w : Nat) : Nat := 0x30400 + 0x20 * n + 0x4 * w

/-- QCH_CNTn: counts. -/
def QCH_CNT (n : Nat) : Nat := 0x30600 + 0x4 * n

/-- QCH_SPOTn: spot sample. -/
def QCH_SPOT (n : Nat) : Nat := 0x30640 + 0x4 * n

/-- XCH_STAT: block status. -/
def XCH_STAT : Nat := 0x40000

/-- XCH_CTRLn: drive control. -/
def XCH_CTRL (n : Nat) : Nat := 0x40100 + 0x4 * n

/-- XCH_CFGn: configuration. -/
def XCH_CFG (n : Nat) : Nat := 0x40140 + 0x4 * n

/-- XCH_TRIMn: phase trim. -/
def XCH_TRIM (n : Nat) : Nat := 0x401C0 + 0x4 * n

/-- XCH_STSn: channel status. -/
def XCH_STS (n : Nat) : Nat := 0x40200 + 0x4 * n

/-- XCH_VALn: value. -/
def XCH_VAL (n : Nat) : Nat := 0x40240 + 0x4 * n

/-- XCH_AUXn: companion value. -/
def XCH_AUX (n : Nat) : Nat := 0x40280 + 0x4 * n

/-- XCH_DRVMONn: drive monitor. -/
def XCH_DRVMON (n : Nat) : Nat := 0x40300 + 0x4 * n

/-- XCH_CNTn: counts. -/
def XCH_CNT (n : Nat) : Nat := 0x40340 + 0x4 * n

/-- XCH_IQn_k: components. -/
def XCH_IQ (n k : Nat) : Nat := 0x40400 + 0x20 * n + 0x4 * k

/-- LOP_STAT: block status. -/
def LOP_STAT : Nat := 0x50000

/-- LOP_SUPCTRLn: loop supply. -/
def LOP_SUPCTRL (n : Nat) : Nat := 0x50100 + 0x4 * n

/-- LOP_CFGn: input configuration. -/
def LOP_CFG (n : Nat) : Nat := 0x50140 + 0x4 * n

/-- LOP_RAWn: undamped current. -/
def LOP_RAW (n : Nat) : Nat := 0x50200 + 0x4 * n

/-- LOP_VALn: damped current. -/
def LOP_VAL (n : Nat) : Nat := 0x50240 + 0x4 * n

/-- LOP_STSn: input status. -/
def LOP_STS (n : Nat) : Nat := 0x50280 + 0x4 * n

/-- LOP_SUPIn: supply current. -/
def LOP_SUPI (n : Nat) : Nat := 0x502C0 + 0x4 * n

/-- LOP_HSTATn: HART status. -/
def LOP_HSTAT (n : Nat) : Nat := 0x50300 + 0x4 * n

/-- LOP_HCNTn: HART counts. -/
def LOP_HCNT (n : Nat) : Nat := 0x50340 + 0x4 * n

/-- LOP_HVARn_k: HART variable. -/
def LOP_HVAR (n k : Nat) : Nat := 0x50400 + 0x20 * n + 0x4 * k

/-- LOP_OSETn: host setpoint. -/
def LOP_OSET (n : Nat) : Nat := 0x50800 + 0x4 * n

/-- LOP_OSTSn: output status. -/
def LOP_OSTS (n : Nat) : Nat := 0x50840 + 0x4 * n

/-- LOP_OACTn: output currents. -/
def LOP_OACT (n : Nat) : Nat := 0x50880 + 0x4 * n

/-- LOP_OCFGn: output sources. -/
def LOP_OCFG (n : Nat) : Nat := 0x508C0 + 0x4 * n

/-- LOP_OMODEn: output mode. -/
def LOP_OMODE (n : Nat) : Nat := 0x50900 + 0x4 * n

/-- DIO_STAT: block status. -/
def DIO_STAT : Nat := 0x60000

/-- DIO_INSTATE: input states. -/
def DIO_INSTATE : Nat := 0x60004

/-- DIO_INFLT: inputs in sensor fault. -/
def DIO_INFLT : Nat := 0x60008

/-- DIO_ISTSn: input status. -/
def DIO_ISTS (n : Nat) : Nat := 0x60100 + 0x4 * n

/-- DIO_OUT: driven levels. -/
def DIO_OUT : Nat := 0x60010

/-- DIO_FB: readback. -/
def DIO_FB : Nat := 0x60014

/-- DIO_HOSTSET: host levels. -/
def DIO_HOSTSET : Nat := 0x60018

/-- DIO_HOSTSET31: host level of DO31. -/
def DIO_HOSTSET31 : Nat := 0x6001C

/-- DIO_OSTSm: output status. -/
def DIO_OSTS (m : Nat) : Nat := 0x60200 + 0x4 * m

/-- LAT_STAT: point-stage status. -/
def LAT_STAT : Nat := 0x80000

/-- LAT_CNTc: alarm counts of class A to D. -/
def LAT_CNT (c : Nat) : Nat := 0x80010 + 0x4 * c

/-- LAT_CNTX: withheld alarms. -/
def LAT_CNTX : Nat := 0x80020

/-- LAT_CNTOOS: points out of service. -/
def LAT_CNTOOS : Nat := 0x80024

/-- LAT_LASTTURN: activity of the last completed turn. -/
def LAT_LASTTURN : Nat := 0x80028

/-- LAT_PVALp: scaled value. -/
def LAT_PVAL (p : Nat) : Nat := 0x90000 + 0x4 * p

/-- LAT_PSTSp: point status. -/
def LAT_PSTS (p : Nat) : Nat := 0x94000 + 0x4 * p

/-- LAT_PSTATEp: alarm states. -/
def LAT_PSTATE (p : Nat) : Nat := 0x98000 + 0x4 * p

/-- LAT_PRATEp: rate quantity. -/
def LAT_PRATE (p : Nat) : Nat := 0x9C000 + 0x4 * p

/-- LAT_PCFGp: source. -/
def LAT_PCFG (p : Nat) : Nat := 0xA0000 + 0x4 * p

/-- LAT_PIDp: identity. -/
def LAT_PID (p : Nat) : Nat := 0xA4000 + 0x4 * p

/-- LAT_DEVMEANd: set mean. -/
def LAT_DEVMEAN (d : Nat) : Nat := 0xA8000 + 0x4 * d

/-- LAT_DEVNd: set count. -/
def LAT_DEVN (d : Nat) : Nat := 0xA8200 + 0x4 * d

/-- LAT_HPVALh: host point value. -/
def LAT_HPVAL (h : Nat) : Nat := 0xA9000 + 0x4 * h

/-- LAT_HPSTSh: host point status. -/
def LAT_HPSTS (h : Nat) : Nat := 0xA9800 + 0x4 * h

/-- LAT_GSTAT: spire and timer status. -/
def LAT_GSTAT : Nat := 0xAC000

/-- LAT_GCOUNT: used cells. -/
def LAT_GCOUNT : Nat := 0xAC004

/-- LAT_NOUTn: node output. -/
def LAT_NOUT (n : Nat) : Nat := 0xAD000 + 0x4 * n

/-- LAT_NSTSn: node status. -/
def LAT_NSTS (n : Nat) : Nat := 0xAE000 + 0x4 * n

/-- LAT_NCFGn: node configuration. -/
def LAT_NCFG (n : Nat) : Nat := 0xAF000 + 0x4 * n

/-- LAT_NIDn: node identity. -/
def LAT_NID (n : Nat) : Nat := 0xB0000 + 0x4 * n

/-- LAT_TSTSt: timer status. -/
def LAT_TSTS (t : Nat) : Nat := 0xB1000 + 0x4 * t

/-- LAT_TPTt: timer preset. -/
def LAT_TPT (t : Nat) : Nat := 0xB3000 + 0x4 * t

/-- LAT_TIDt: timer identity. -/
def LAT_TID (t : Nat) : Nat := 0xB5000 + 0x4 * t

/-- LAT_NINi: node input word. -/
def LAT_NIN (i : Nat) : Nat := 0xB8000 + 0x4 * i

/-- BEL_STAT: belfry status. -/
def BEL_STAT : Nat := 0xC0000

/-- BEL_DUTY: duty engineer. -/
def BEL_DUTY : Nat := 0xC0004

/-- BEL_PRESENT: presence. -/
def BEL_PRESENT : Nat := 0xC0008

/-- BEL_SIGNALS: call signals. -/
def BEL_SIGNALS : Nat := 0xC000C

/-- BEL_WATCH: watch state. -/
def BEL_WATCH : Nat := 0xC0010

/-- BEL_WATCHCNT: watch count. -/
def BEL_WATCHCNT : Nat := 0xC0014

/-- BEL_LOCALMIN: schedule time. -/
def BEL_LOCALMIN : Nat := 0xC0018

/-- BEL_CHSTATc: chain state. -/
def BEL_CHSTAT (c : Nat) : Nat := 0xC0100 + 0x4 * c

/-- BEL_CHTRIGc: trigger value. -/
def BEL_CHTRIG (c : Nat) : Nat := 0xC0140 + 0x4 * c

/-- BEL_STCFGk: station configuration. -/
def BEL_STCFG (k : Nat) : Nat := 0xC0200 + 0x4 * k

/-- JRN_STAT: journal status. -/
def JRN_STAT : Nat := 0x100000

/-- JRN_HEAD_LO: journal head, low word. -/
def JRN_HEAD_LO : Nat := 0x100004

/-- JRN_HEAD_HI: journal head, high word. -/
def JRN_HEAD_HI : Nat := 0x100008

/-- JRN_WMARK_LO: export watermark, low word. -/
def JRN_WMARK_LO : Nat := 0x10000C

/-- JRN_WMARK_HI: export watermark, high word. -/
def JRN_WMARK_HI : Nat := 0x100010

/-- JRN_FREE: free slots. -/
def JRN_FREE : Nat := 0x100014

/-- JRN_POOL: ingress pool. -/
def JRN_POOL : Nat := 0x100018

/-- JRN_REFUSED: refused class D entries. -/
def JRN_REFUSED : Nat := 0x10001C

/-- JRN_HOLDCNT: held turns. -/
def JRN_HOLDCNT : Nat := 0x100020

/-- JRN_CKPT_LO: last checkpoint, low word. -/
def JRN_CKPT_LO : Nat := 0x100024

/-- JRN_CKPT_HI: last checkpoint, high word. -/
def JRN_CKPT_HI : Nat := 0x100028

/-- JRN_EXPACK: export confirmation. -/
def JRN_EXPACK : Nat := 0x10002C

/-- JRN_FLUSH: flush and seal. -/
def JRN_FLUSH : Nat := 0x100030

/-- JRN_REPLAY: replay counts. -/
def JRN_REPLAY : Nat := 0x100034

/-- JRN_CFG: configuration. -/
def JRN_CFG : Nat := 0x100038

/-- JRN_WARN: warning level. -/
def JRN_WARN : Nat := 0x10003C

/-- CANn_MODE: mode. -/
def CAN_MODE (n : Nat) : Nat := 0x110000 + 0x1000 * n

/-- CANn_NBT: nominal bit timing. -/
def CAN_NBT (n : Nat) : Nat := 0x110004 + 0x1000 * n

/-- CANn_DBT: data bit timing. -/
def CAN_DBT (n : Nat) : Nat := 0x110008 + 0x1000 * n

/-- CANn_TDC: delay compensation. -/
def CAN_TDC (n : Nat) : Nat := 0x11000C + 0x1000 * n

/-- CANn_ERR: error state. -/
def CAN_ERR (n : Nat) : Nat := 0x110010 + 0x1000 * n

/-- CANn_STAT: channel status. -/
def CAN_STAT (n : Nat) : Nat := 0x110014 + 0x1000 * n

/-- CANn_CNT: fault counts. -/
def CAN_CNT (n : Nat) : Nat := 0x110018 + 0x1000 * n

/-- CANn_DUPCNT: discard counts. -/
def CAN_DUPCNT (n : Nat) : Nat := 0x11001C + 0x1000 * n

/-- CANn_TSC: timestamp counter. -/
def CAN_TSC (n : Nat) : Nat := 0x110020 + 0x1000 * n

/-- CANn_RXSTAT: receive ring. -/
def CAN_RXSTAT (n : Nat) : Nat := 0x110024 + 0x1000 * n

/-- CANn_RXUNLOCK: window release. -/
def CAN_RXUNLOCK (n : Nat) : Nat := 0x110028 + 0x1000 * n

/-- CANn_TXBk: transmit buffer. -/
def CAN_TXB (n k : Nat) : Nat := 0x110030 + 0x1000 * n + 0x4 * k

/-- CANn_TXCANCEL: cancel host frame. -/
def CAN_TXCANCEL (n : Nat) : Nat := 0x110040 + 0x1000 * n

/-- CANn_MARK_LO: transmit mark, low word. -/
def CAN_MARK_LO (n : Nat) : Nat := 0x110044 + 0x1000 * n

/-- CANn_MARK_HI: transmit mark, high word. -/
def CAN_MARK_HI (n : Nat) : Nat := 0x110048 + 0x1000 * n

/-- CANn_BACKLOG: backlog. -/
def CAN_BACKLOG (n : Nat) : Nat := 0x11004C + 0x1000 * n

/-- CANn_RXWINk: receive window. -/
def CAN_RXWIN (n k : Nat) : Nat := 0x110400 + 0x1000 * n + 0x4 * k

/-- PAR_ROLE: role. -/
def PAR_ROLE : Nat := 0x120000

/-- PAR_STAT: pair status. -/
def PAR_STAT : Nat := 0x120004

/-- PAR_LNKCTRL: link enable. -/
def PAR_LNKCTRL : Nat := 0x120008

/-- PAR_LNKSTAT: link state. -/
def PAR_LNKSTAT : Nat := 0x12000C

/-- PAR_LNKCNT: link counts. -/
def PAR_LNKCNT : Nat := 0x120010

/-- PAR_CASTLE: last castling. -/
def PAR_CASTLE : Nat := 0x120014

/-- PAR_CNT: pair counts. -/
def PAR_CNT : Nat := 0x120018

/-- PAR_REJOIN: rejoin progress. -/
def PAR_REJOIN : Nat := 0x12001C

/-- PAR_HBAGE: heartbeat age. -/
def PAR_HBAGE : Nat := 0x120020

/-- PAR_CMD: pair command. -/
def PAR_CMD : Nat := 0x120024

/-- PAR_XUI_LO: cross-check failures, UI0 to UI31. -/
def PAR_XUI_LO : Nat := 0x120040

/-- PAR_XUI_HI: cross-check failures, UI32 to UI47, QC and bases. -/
def PAR_XUI_HI : Nat := 0x120044

/-- PAR_XLX: cross-check failures, loops and excitation. -/
def PAR_XLX : Nat := 0x120048

/-- PAR_XDI: cross-check failures, contact inputs. -/
def PAR_XDI : Nat := 0x12004C

/-- WTC_STAT: watchtower status. -/
def WTC_STAT : Nat := 0x130000

/-- WTC_FAULT: first dangerous fault. -/
def WTC_FAULT : Nat := 0x130004

/-- WTC_LASTFAULT: fault before the last watchtower reset. -/
def WTC_LASTFAULT : Nat := 0x130008

/-- WTC_LATCOV: latent coverage. -/
def WTC_LATCOV : Nat := 0x13000C

/-- WTC_LATOVD: overdue latent tests. -/
def WTC_LATOVD : Nat := 0x130010

/-- WTC_LATFAIL: failed latent tests. -/
def WTC_LATFAIL : Nat := 0x130014

/-- WTC_ECC: corrected errors. -/
def WTC_ECC : Nat := 0x130018

/-- WTC_TEMP: junction temperature. -/
def WTC_TEMP : Nat := 0x13001C

/-- WTC_COUNT: fault and reset counts. -/
def WTC_COUNT : Nat := 0x130020

/-- WTC_CFG: configuration. -/
def WTC_CFG : Nat := 0x130024

/-- VLT_STAT: vault status. -/
def VLT_STAT : Nat := 0x140000

/-- VLT_DEVIDk: device identifier. -/
def VLT_DEVID (k : Nat) : Nat := 0x140010 + 0x4 * k

/-- VLT_CERTLEN: certificate length. -/
def VLT_CERTLEN : Nat := 0x140020

/-- VLT_IMGVER: active image version. -/
def VLT_IMGVER : Nat := 0x140024

/-- VLT_CTR: version counter. -/
def VLT_CTR : Nat := 0x140028

/-- VLT_CMD: image command. -/
def VLT_CMD : Nat := 0x14002C

/-- VLT_IMGHASHk: active image hash. -/
def VLT_IMGHASH (k : Nat) : Nat := 0x140040 + 0x4 * k

/-- VLT_STGSTAT: staging status. -/
def VLT_STGSTAT : Nat := 0x140060

/-- VLT_SWAPTURN: last swap. -/
def VLT_SWAPTURN : Nat := 0x140064

/-- VLT_OWNs: owner slot. -/
def VLT_OWN (s : Nat) : Nat := 0x140080 + 0x4 * s

/-- VLT_EPOCH: bus key epoch. -/
def VLT_EPOCH : Nat := 0x140090

/-- VLT_SESS: host sessions. -/
def VLT_SESS : Nat := 0x140094

/-- VLT_NONCEk: token nonce. -/
def VLT_NONCE (k : Nat) : Nat := 0x1400A0 + 0x4 * k

/-- VLT_CERTk: certificate window. -/
def VLT_CERT (k : Nat) : Nat := 0x140400 + 0x4 * k

/-- DOM_STAT: dome status. -/
def DOM_STAT : Nat := 0x150000

/-- DOM_TICK_LO: count, low word. -/
def DOM_TICK_LO : Nat := 0x150004

/-- DOM_TICK_HI: count, high word. -/
def DOM_TICK_HI : Nat := 0x150008

/-- DOM_ZONE: zone offset. -/
def DOM_ZONE : Nat := 0x15000C

/-- DOM_ZCMD: hour step. -/
def DOM_ZCMD : Nat := 0x150010

/-- DOM_SHIFT: slew request. -/
def DOM_SHIFT : Nat := 0x150014

/-- DOM_SLEW: slew remainder. -/
def DOM_SLEW : Nat := 0x150018

/-- DOM_SET_LO: SET value, low word. -/
def DOM_SET_LO : Nat := 0x15001C

/-- DOM_SET_HI: SET value, high word and request. -/
def DOM_SET_HI : Nat := 0x150020

/-- DOM_CAPCMD: capture. -/
def DOM_CAPCMD : Nat := 0x150024

/-- DOM_CAPTICK_LO: captured count, low word. -/
def DOM_CAPTICK_LO : Nat := 0x150028

/-- DOM_CAPTICK_HI: captured count, high word and phase. -/
def DOM_CAPTICK_HI : Nat := 0x15002C

/-- DOM_CAPTSCn: captured bus counter. -/
def DOM_CAPTSC (n : Nat) : Nat := 0x150030 + 0x4 * n

/-- DOM_CAPTURN_LO: captured turn number, low word. -/
def DOM_CAPTURN_LO : Nat := 0x150040

/-- DOM_CAPTURN_HI: captured turn number, high word. -/
def DOM_CAPTURN_HI : Nat := 0x150044

/-- DOM_CAPPB0: captured PB0 count and capture count. -/
def DOM_CAPPB0 : Nat := 0x150048

/-- DOM_ALMCFGa: alarm configuration. -/
def DOM_ALMCFG (a : Nat) : Nat := 0x150060 + 0x10 * a

/-- DOM_ALMCMPa_LO: compare value, low word. -/
def DOM_ALMCMP_LO (a : Nat) : Nat := 0x150064 + 0x10 * a

/-- DOM_ALMCMPa_HI: compare value, high word. -/
def DOM_ALMCMP_HI (a : Nat) : Nat := 0x150068 + 0x10 * a

/-- DOM_SUPPLY: backup cell. -/
def DOM_SUPPLY : Nat := 0x150080

/-- DOM_BKPk: backup bytes. -/
def DOM_BKP (k : Nat) : Nat := 0x150100 + 0x4 * k

/-- PNL_CTRL: panel drive. -/
def PNL_CTRL : Nat := 0x160000

/-- PNL_STAT: panel status. -/
def PNL_STAT : Nat := 0x160004

/-- PNL_MEAS: measurements. -/
def PNL_MEAS : Nat := 0x160008

/-- PNL_VLCD: contrast voltage. -/
def PNL_VLCD : Nat := 0x16000C

/-- PNL_REGMAP: region flags. -/
def PNL_REGMAP : Nat := 0x160010

/-- PNL_PENDMAP: pending regions. -/
def PNL_PENDMAP : Nat := 0x160014

/-- PNL_FRAMECNT: frame count. -/
def PNL_FRAMECNT : Nat := 0x160018

/-- PNL_REGSTSr: region status. -/
def PNL_REGSTS (r : Nat) : Nat := 0x160100 + 0x4 * r

/-- PNL_LEVk: reached levels. -/
def PNL_LEV (k : Nat) : Nat := 0x160200 + 0x4 * k

/-- PNL_UNKk: unknown elements. -/
def PNL_UNK (k : Nat) : Nat := 0x160300 + 0x4 * k

/-- PNL_TGTk: targets. -/
def PNL_TGT (k : Nat) : Nat := 0x160400 + 0x4 * k

/-- HST_STAT: port status. -/
def HST_STAT : Nat := 0x170000

/-- HST_CNT: port error counts. -/
def HST_CNT : Nat := 0x170004

/-- HST_SESSs: session state. -/
def HST_SESS (s : Nat) : Nat := 0x170008 + 0x4 * s

/-- HST_LASTERR: last refused request. -/
def HST_LASTERR : Nat := 0x170028

/-- PWR_STAT: power status. -/
def PWR_STAT : Nat := 0x180000

/-- PWR_FEEDA: feed A measurement. -/
def PWR_FEEDA : Nat := 0x180004

/-- PWR_FEEDB: feed B measurement. -/
def PWR_FEEDB : Nat := 0x180008

/-- PWR_FEEDFLG: feed flags. -/
def PWR_FEEDFLG : Nat := 0x18000C

/-- PWR_COMB: combined node. -/
def PWR_COMB : Nat := 0x180010

/-- PWR_RAILS: rail measurement. -/
def PWR_RAILS : Nat := 0x180014

/-- PWR_PFW: warning history. -/
def PWR_PFW : Nat := 0x180018

/-- PWR_RSTCAUSE: reset cause. -/
def PWR_RSTCAUSE : Nat := 0x18001C

/-- PWR_RSTCMD: host reset. -/
def PWR_RSTCMD : Nat := 0x180020

/-- PWR_SLEEP: sleep request. -/
def PWR_SLEEP : Nat := 0x180024

end R

namespace F

def SYS_TURNCFG_EMIT : Field := ⟨16, 11⟩
def SYS_TURNCFG_TLEN : Field := ⟨0, 16⟩
def SYS_TURNNUM_LO_TURN_LO : Field := ⟨0, 32⟩
def SYS_TURNNUM_HI_TURN_HI : Field := ⟨0, 16⟩
def SYS_TURNSTAT_SEQ : Field := ⟨24, 8⟩
def SYS_TURNSTAT_OVRTOTAL : Field := ⟨8, 16⟩
def SYS_TURNSTAT_LINKSOLO : Field := ⟨5, 1⟩
def SYS_TURNSTAT_DEFER : Field := ⟨4, 1⟩
def SYS_TURNSTAT_OVR2 : Field := ⟨3, 1⟩
def SYS_TURNSTAT_ACKLATE : Field := ⟨2, 1⟩
def SYS_TURNSTAT_OVRCOMMIT : Field := ⟨1, 1⟩
def SYS_TURNSTAT_OVREVAL : Field := ⟨0, 1⟩
def SYS_COMMIT_LASTN : Field := ⟨12, 12⟩
def SYS_COMMIT_CCAP : Field := ⟨0, 12⟩
def SYS_DEFER_BACKLOG : Field := ⟨0, 22⟩
def SYS_TIMING_CDONE : Field := ⟨8, 11⟩
def SYS_TIMING_EVAL : Field := ⟨0, 8⟩
def SYS_TIMINGMAX_CLR : Field := ⟨31, 1⟩
def SYS_TIMINGMAX_CDONE : Field := ⟨8, 11⟩
def SYS_TIMINGMAX_EVAL : Field := ⟨0, 8⟩
def SYS_CLKSTAT_SEQ : Field := ⟨24, 8⟩
def SYS_CLKSTAT_FAULT : Field := ⟨0, 11⟩
def SYS_KEYGATE_OPEN : Field := ⟨16, 1⟩
def SYS_KEYGATE_KEY : Field := ⟨0, 16⟩
def SYS_GUARD_SEQ : Field := ⟨24, 8⟩
def SYS_GUARD_ADDR : Field := ⟨1, 23⟩
def SYS_GUARD_REFUSED : Field := ⟨0, 1⟩
def HST_EVTCFG_MODE : Field := ⟨0, 4⟩
def HST_EVPEND_PEND : Field := ⟨0, 32⟩
def HST_EVCLR_CLR : Field := ⟨0, 32⟩
def HST_EVCFG_QUE : Field := ⟨3, 1⟩
def HST_EVCFG_EN : Field := ⟨2, 1⟩
def HST_EVCFG_PIN : Field := ⟨0, 2⟩
def HST_QSTAT_SEQ : Field := ⟨24, 8⟩
def HST_QSTAT_PROMO : Field := ⟨17, 1⟩
def HST_QSTAT_FULL : Field := ⟨16, 1⟩
def HST_QSTAT_COUNT : Field := ⟨0, 15⟩
def HST_QINFO_AGELIM : Field := ⟨20, 12⟩
def HST_QINFO_ESIZE : Field := ⟨16, 4⟩
def HST_QINFO_GROUP : Field := ⟨13, 3⟩
def HST_QINFO_DEPTH : Field := ⟨0, 13⟩
def HST_QPROMOCNT_CLR : Field := ⟨31, 1⟩
def HST_QPROMOCNT_TOTAL : Field := ⟨0, 16⟩
def PHS_ENGSTAT_SEQ : Field := ⟨24, 8⟩
def PHS_ENGSTAT_DISPQ : Field := ⟨1, 1⟩
def PHS_ENGSTAT_LATE : Field := ⟨0, 1⟩
def PHS_LATECNT_CLR : Field := ⟨31, 1⟩
def PHS_LATECNT_COUNT : Field := ⟨0, 16⟩
def PHS_ENTRIES_USED : Field := ⟨0, 13⟩
def PHS_INP_LEVEL_NOW : Field := ⟨16, 1⟩
def PHS_INP_EDGEFLT : Field := ⟨8, 8⟩
def PHS_INP_MODE : Field := ⟨0, 2⟩
def PHS_STAT_SEQ : Field := ⟨24, 8⟩
def PHS_STAT_OVERSPD : Field := ⟨18, 1⟩
def PHS_STAT_CAMFLT : Field := ⟨17, 1⟩
def PHS_STAT_REFERR : Field := ⟨16, 1⟩
def PHS_STAT_LOSS : Field := ⟨15, 1⟩
def PHS_STAT_STILL : Field := ⟨14, 1⟩
def PHS_STAT_STATE : Field := ⟨8, 3⟩
def PHS_POS_CYC : Field := ⟨20, 12⟩
def PHS_POS_POS : Field := ⟨0, 20⟩
def PHS_SPEED_SPEED : Field := ⟨0, 20⟩
def PHS_TOOTH_SLOT : Field := ⟨0, 11⟩
def PHS_PERIOD_T : Field := ⟨0, 32⟩
def PHS_CNT_REFERRS : Field := ⟨24, 8⟩
def PHS_CNT_LOSSES : Field := ⟨16, 8⟩
def PHS_CNT_CAMERRS : Field := ⟨8, 8⟩
def PHS_JUMP_CLR : Field := ⟨31, 1⟩
def PHS_JUMP_MAXJ : Field := ⟨0, 20⟩
def PHS_CFG_KIND : Field := ⟨29, 3⟩
def PHS_CFG_TPIN : Field := ⟨26, 3⟩
def PHS_CFG_IPIN : Field := ⟨23, 3⟩
def PHS_CFG_MISSING : Field := ⟨21, 2⟩
def PHS_CFG_CYC720 : Field := ⟨20, 1⟩
def PHS_CFG_CAMSRC : Field := ⟨18, 2⟩
def PHS_CFG_SLOTS : Field := ⟨0, 10⟩
def UIN_STAT_SEQ : Field := ⟨24, 8⟩
def UIN_STAT_CJFLT : Field := ⟨20, 4⟩
def UIN_STAT_EXVFLT : Field := ⟨16, 4⟩
def UIN_STAT_REFFLT : Field := ⟨12, 4⟩
def UIN_STAT_IEXFLT : Field := ⟨0, 12⟩
def UIN_FLTMAP_LO_MAP : Field := ⟨0, 32⟩
def UIN_FLTMAP_HI_MAP : Field := ⟨0, 16⟩
def UIN_SCSTAT_SEQ : Field := ⟨24, 8⟩
def UIN_SCSTAT_MUXDROP : Field := ⟨21, 1⟩
def UIN_SCSTAT_SMPLSKIP : Field := ⟨20, 1⟩
def UIN_SCSTAT_MODE : Field := ⟨16, 2⟩
def UIN_SCSTAT_STEP : Field := ⟨8, 6⟩
def UIN_SCSTAT_PHASE : Field := ⟨6, 2⟩
def UIN_SCSTAT_LEN : Field := ⟨0, 6⟩
def UIN_SCCNT_PASSES : Field := ⟨16, 16⟩
def UIN_SCCNT_DROPS : Field := ⟨8, 8⟩
def UIN_SCCNT_SKIPS : Field := ⟨0, 8⟩
def UIN_CJVAL_VALUE : Field := ⟨0, 32⟩
def UIN_CJSTAT_STATUS : Field := ⟨0, 16⟩
def UIN_AMON_VALID : Field := ⟨8, 1⟩
def UIN_AMON_SRC : Field := ⟨0, 8⟩
def UIN_DRES_A_CH : Field := ⟨24, 6⟩
def UIN_DRES_A_CODE : Field := ⟨0, 24⟩
def UIN_DRES_B_LCODE : Field := ⟨0, 24⟩
def UIN_DRES_C_STATUS : Field := ⟨16, 4⟩
def UIN_DRES_C_RLOOP : Field := ⟨0, 16⟩
def UIN_CHCFG_MODE : Field := ⟨28, 4⟩
def UIN_CHCFG_SUBTYPE : Field := ⟨24, 4⟩
def UIN_CHCFG_WIRES : Field := ⟨22, 2⟩
def UIN_CHCFG_GAIN : Field := ⟨19, 3⟩
def UIN_CHCFG_IEXI : Field := ⟨16, 3⟩
def UIN_CHCFG_AMONX : Field := ⟨15, 1⟩
def UIN_CHCFG_CJSRC : Field := ⟨12, 3⟩
def UIN_CHCFG_CJCH : Field := ⟨6, 6⟩
def UIN_CHTIM_RATE : Field := ⟨28, 4⟩
def UIN_CHTIM_IPC : Field := ⟨26, 2⟩
def UIN_CHTIM_OPENR : Field := ⟨18, 8⟩
def UIN_CHTIM_SETTLE : Field := ⟨0, 10⟩
def UIN_VAL_VALUE : Field := ⟨0, 32⟩
def UIN_STS_SEQ : Field := ⟨24, 8⟩
def UIN_STS_CLAMP : Field := ⟨23, 1⟩
def UIN_STS_FLTSEEN : Field := ⟨22, 1⟩
def UIN_STS_STATUS : Field := ⟨12, 4⟩
def UIN_STS_AGE : Field := ⟨0, 12⟩
def UIN_DIAG_PEND : Field := ⟨31, 1⟩
def UIN_DIAG_REQ : Field := ⟨0, 1⟩
def UIN_STEP_KIND : Field := ⟨30, 2⟩
def UIN_STEP_START : Field := ⟨29, 1⟩
def UIN_STEP_RATE : Field := ⟨20, 4⟩
def UIN_STEP_SETTLE : Field := ⟨10, 10⟩
def UIN_STEP_CHAN : Field := ⟨0, 6⟩
def QCH_STAT_SEQ : Field := ⟨24, 8⟩
def QCH_STAT_COMPARE : Field := ⟨18, 1⟩
def QCH_STAT_FEEDGAP : Field := ⟨17, 1⟩
def QCH_STAT_WAVEDROP : Field := ⟨16, 1⟩
def QCH_STAT_MAP : Field := ⟨0, 12⟩
def QCH_PWR_PEND : Field := ⟨31, 1⟩
def QCH_PWR_STATE : Field := ⟨1, 2⟩
def QCH_PWR_EN : Field := ⟨0, 1⟩
def QCH_RANGE_PEND : Field := ⟨31, 1⟩
def QCH_RANGE_RANGE : Field := ⟨0, 2⟩
def QCH_CFG_SMODE : Field := ⟨31, 1⟩
def QCH_CFG_BASE : Field := ⟨29, 2⟩
def QCH_CFG_RES : Field := ⟨27, 2⟩
def QCH_CFG_AUTO : Field := ⟨26, 1⟩
def QCH_CFG_VTABSEL : Field := ⟨24, 2⟩
def QCH_CFG_AUTOCNT : Field := ⟨20, 4⟩
def QCH_CFG_INVLIM : Field := ⟨12, 8⟩
def QCH_CFG_PEGSRC : Field := ⟨10, 2⟩
def QCH_CFG_TPER : Field := ⟨0, 10⟩
def QCH_STS_SEQ : Field := ⟨24, 8⟩
def QCH_STS_OVLD : Field := ⟨23, 1⟩
def QCH_STS_COARSE : Field := ⟨22, 1⟩
def QCH_STS_LATE : Field := ⟨21, 1⟩
def QCH_STS_RATE : Field := ⟨20, 1⟩
def QCH_STS_RSTSKIP : Field := ⟨19, 1⟩
def QCH_STS_TESTMISS : Field := ⟨18, 1⟩
def QCH_STS_PEGFB : Field := ⟨17, 1⟩
def QCH_STS_WINERR : Field := ⟨16, 1⟩
def QCH_STS_STATUS : Field := ⟨12, 4⟩
def QCH_STS_CAUSE : Field := ⟨8, 4⟩
def QCH_STS_R10 : Field := ⟨4, 4⟩
def QCH_CYC_CYC : Field := ⟨0, 32⟩
def QCH_RES_VALUE : Field := ⟨0, 32⟩
def QCH_CNT_INVALIDS : Field := ⟨24, 8⟩
def QCH_CNT_OVLDS : Field := ⟨16, 8⟩
def QCH_CNT_TESTMISSES : Field := ⟨8, 8⟩
def QCH_CNT_AUTOCHG : Field := ⟨0, 8⟩
def QCH_SPOT_VALID : Field := ⟨16, 1⟩
def QCH_SPOT_CODE : Field := ⟨0, 16⟩
def XCH_STAT_SEQ : Field := ⟨24, 8⟩
def XCH_STAT_COMPARE : Field := ⟨16, 1⟩
def XCH_STAT_LOCKMAP : Field := ⟨8, 8⟩
def XCH_STAT_MAP : Field := ⟨0, 8⟩
def XCH_CTRL_PEND : Field := ⟨31, 1⟩
def XCH_CTRL_STATE : Field := ⟨1, 2⟩
def XCH_CTRL_EN : Field := ⟨0, 1⟩
def XCH_CFG_MODE : Field := ⟨29, 3⟩
def XCH_CFG_DEMN : Field := ⟨23, 6⟩
def XCH_CFG_FREQ : Field := ⟨10, 11⟩
def XCH_CFG_AMP : Field := ⟨0, 10⟩
def XCH_TRIM_PEND : Field := ⟨31, 1⟩
def XCH_TRIM_TRIM : Field := ⟨0, 16⟩
def XCH_STS_SEQ : Field := ⟨24, 8⟩
def XCH_STS_FLTSEEN : Field := ⟨23, 1⟩
def XCH_STS_CLIP : Field := ⟨22, 1⟩
def XCH_STS_LOCKLOSS : Field := ⟨21, 1⟩
def XCH_STS_DISCARD : Field := ⟨20, 1⟩
def XCH_STS_STATUS : Field := ⟨12, 4⟩
def XCH_STS_WHY : Field := ⟨8, 4⟩
def XCH_VAL_VALUE : Field := ⟨0, 32⟩
def XCH_AUX_AUX : Field := ⟨0, 32⟩
def XCH_DRVMON_VAMP : Field := ⟨16, 16⟩
def XCH_DRVMON_IRMS : Field := ⟨0, 16⟩
def XCH_CNT_FAULTS : Field := ⟨24, 8⟩
def XCH_CNT_LOCKLOSSES : Field := ⟨16, 8⟩
def XCH_CNT_DISCARDS : Field := ⟨8, 8⟩
def XCH_IQ_COMP : Field := ⟨0, 32⟩
def LOP_STAT_SEQ : Field := ⟨24, 8⟩
def LOP_STAT_OCOMPARE : Field := ⟨17, 1⟩
def LOP_STAT_COMPARE : Field := ⟨16, 1⟩
def LOP_STAT_MAP : Field := ⟨0, 16⟩
def LOP_SUPCTRL_PEND : Field := ⟨31, 1⟩
def LOP_SUPCTRL_MEN : Field := ⟨3, 1⟩
def LOP_SUPCTRL_STATE : Field := ⟨1, 2⟩
def LOP_SUPCTRL_EN : Field := ⟨0, 1⟩
def LOP_CFG_MODE : Field := ⟨30, 2⟩
def LOP_CFG_TLI : Field := ⟨29, 1⟩
def LOP_CFG_HART : Field := ⟨27, 2⟩
def LOP_CFG_TD : Field := ⟨18, 9⟩
def LOP_CFG_TSTART : Field := ⟨11, 7⟩
def LOP_CFG_RETRY : Field := ⟨9, 2⟩
def LOP_CFG_BURST : Field := ⟨8, 1⟩
def LOP_CFG_PCMD : Field := ⟨0, 8⟩
def LOP_RAW_RAW : Field := ⟨0, 32⟩
def LOP_VAL_VALUE : Field := ⟨0, 32⟩
def LOP_STS_SEQ : Field := ⟨24, 8⟩
def LOP_STS_CLAMP : Field := ⟨23, 1⟩
def LOP_STS_FLTSEEN : Field := ⟨22, 1⟩
def LOP_STS_SUPLIM : Field := ⟨21, 1⟩
def LOP_STS_MISMATCH : Field := ⟨20, 1⟩
def LOP_STS_STATUS : Field := ⟨16, 4⟩
def LOP_STS_AGE : Field := ⟨0, 12⟩
def LOP_SUPI_LIMIT : Field := ⟨16, 1⟩
def LOP_SUPI_ISUP : Field := ⟨0, 16⟩
def LOP_HSTAT_SEQ : Field := ⟨24, 8⟩
def LOP_HSTAT_STALE : Field := ⟨23, 1⟩
def LOP_HSTAT_COMMERR : Field := ⟨22, 1⟩
def LOP_HSTAT_DEVMAL : Field := ⟨21, 1⟩
def LOP_HSTAT_UNKNOWN : Field := ⟨20, 1⟩
def LOP_HSTAT_NANMAP : Field := ⟨15, 5⟩
def LOP_HSTAT_CD : Field := ⟨14, 1⟩
def LOP_HSTAT_VSTATUS : Field := ⟨8, 4⟩
def LOP_HSTAT_FDSTAT : Field := ⟨0, 8⟩
def LOP_HCNT_TIMEOUTS : Field := ⟨24, 8⟩
def LOP_HCNT_RETRIES : Field := ⟨16, 8⟩
def LOP_HCNT_BURSTS : Field := ⟨8, 8⟩
def LOP_HCNT_POLLSKIP : Field := ⟨0, 8⟩
def LOP_HVAR_HV : Field := ⟨0, 32⟩
def LOP_OSET_PEND : Field := ⟨31, 1⟩
def LOP_OSET_SETPT : Field := ⟨0, 15⟩
def LOP_OSTS_SEQ : Field := ⟨24, 8⟩
def LOP_OSTS_COMPLSEEN : Field := ⟨23, 1⟩
def LOP_OSTS_OVERRIDE : Field := ⟨22, 1⟩
def LOP_OSTS_COMPL : Field := ⟨21, 1⟩
def LOP_OSTS_LOWALT : Field := ⟨20, 1⟩
def LOP_OSTS_HANDOVER : Field := ⟨19, 1⟩
def LOP_OSTS_SEL : Field := ⟨16, 3⟩
def LOP_OACT_ACTUAL : Field := ⟨16, 16⟩
def LOP_OACT_APPLIED : Field := ⟨0, 16⟩
def LOP_OCFG_ALMSRC : Field := ⟨16, 16⟩
def LOP_OCFG_TRKSRC : Field := ⟨0, 16⟩
def LOP_OMODE_SAFE : Field := ⟨2, 2⟩
def LOP_OMODE_ALMLVL : Field := ⟨1, 1⟩
def LOP_OMODE_OEN : Field := ⟨0, 1⟩
def DIO_STAT_SEQ : Field := ⟨24, 8⟩
def DIO_STAT_OVERRIDE : Field := ⟨2, 1⟩
def DIO_STAT_COMPARE : Field := ⟨1, 1⟩
def DIO_STAT_CLAMP : Field := ⟨0, 1⟩
def DIO_INSTATE_STATE : Field := ⟨0, 32⟩
def DIO_INFLT_MAP : Field := ⟨0, 32⟩
def DIO_ISTS_STATUS : Field := ⟨16, 4⟩
def DIO_ISTS_ICUR : Field := ⟨0, 16⟩
def DIO_OUT_LEVEL : Field := ⟨0, 32⟩
def DIO_FB_FB : Field := ⟨0, 32⟩
def DIO_HOSTSET_PEND : Field := ⟨31, 1⟩
def DIO_HOSTSET_SET : Field := ⟨0, 31⟩
def DIO_HOSTSET31_PEND : Field := ⟨31, 1⟩
def DIO_HOSTSET31_SET : Field := ⟨0, 1⟩
def DIO_OSTS_SEQ : Field := ⟨24, 8⟩
def DIO_OSTS_PTFAIL : Field := ⟨23, 1⟩
def DIO_OSTS_FBFLT : Field := ⟨22, 1⟩
def DIO_OSTS_SAFEACT : Field := ⟨21, 1⟩
def DIO_OSTS_PTCNT : Field := ⟨0, 16⟩
def LAT_STAT_SEQ : Field := ⟨24, 8⟩
def LAT_STAT_HPSTALE : Field := ⟨3, 1⟩
def LAT_STAT_DEVREF : Field := ⟨2, 1⟩
def LAT_STAT_CMDREJ : Field := ⟨1, 1⟩
def LAT_STAT_SWAPLOSS : Field := ⟨0, 1⟩
def LAT_CNT_ACTIVE : Field := ⟨16, 16⟩
def LAT_CNT_UNACK : Field := ⟨0, 16⟩
def LAT_CNTX_SUPPRESSED : Field := ⟨16, 16⟩
def LAT_CNTX_INHIBITED : Field := ⟨0, 16⟩
def LAT_CNTOOS_OOS : Field := ⟨0, 13⟩
def LAT_LASTTURN_CMDS : Field := ⟨16, 16⟩
def LAT_LASTTURN_CHANGES : Field := ⟨0, 16⟩
def LAT_PVAL_Y : Field := ⟨0, 32⟩
def LAT_PSTS_QUAL : Field := ⟨29, 3⟩
def LAT_PSTS_ACTIVE : Field := ⟨28, 1⟩
def LAT_PSTS_OOS : Field := ⟨27, 1⟩
def LAT_PSTS_SUP1 : Field := ⟨26, 1⟩
def LAT_PSTS_SUP0 : Field := ⟨25, 1⟩
def LAT_PSTS_REFV : Field := ⟨24, 1⟩
def LAT_PSTS_DEVOK : Field := ⟨23, 1⟩
def LAT_PSTS_INSTAT : Field := ⟨12, 4⟩
def LAT_PSTS_INH : Field := ⟨0, 9⟩
def LAT_PSTATE_ST : Field := ⟨0, 27⟩
def LAT_PRATE_RQ : Field := ⟨0, 32⟩
def LAT_PCFG_SRCK : Field := ⟨28, 4⟩
def LAT_PCFG_SCALE : Field := ⟨26, 2⟩
def LAT_PCFG_SRCI : Field := ⟨14, 12⟩
def LAT_PCFG_SRCF : Field := ⟨11, 3⟩
def LAT_PCFG_DEVSET : Field := ⟨3, 8⟩
def LAT_PID_IDENT : Field := ⟨0, 32⟩
def LAT_DEVMEAN_MEAN : Field := ⟨0, 32⟩
def LAT_DEVN_BELOW : Field := ⟨16, 1⟩
def LAT_DEVN_MINN : Field := ⟨8, 8⟩
def LAT_DEVN_N : Field := ⟨0, 8⟩
def LAT_HPVAL_VALUE : Field := ⟨0, 32⟩
def LAT_HPSTS_STATUS : Field := ⟨30, 2⟩
def LAT_HPSTS_AGE : Field := ⟨0, 16⟩
def LAT_GSTAT_SEQ : Field := ⟨24, 8⟩
def LAT_GSTAT_SWAPLOSSG : Field := ⟨1, 1⟩
def LAT_GSTAT_NODEFAIL : Field := ⟨0, 1⟩
def LAT_GCOUNT_TCOUNT : Field := ⟨16, 12⟩
def LAT_GCOUNT_NCOUNT : Field := ⟨0, 11⟩
def LAT_NOUT_V : Field := ⟨0, 32⟩
def LAT_NSTS_VALID : Field := ⟨31, 1⟩
def LAT_NSTS_NVALID : Field := ⟨24, 7⟩
def LAT_NSTS_FIRST : Field := ⟨0, 13⟩
def LAT_NCFG_FUNC : Field := ⟨29, 3⟩
def LAT_NCFG_LEVEL : Field := ⟨25, 4⟩
def LAT_NCFG_NIN : Field := ⟨18, 7⟩
def LAT_NCFG_K : Field := ⟨11, 7⟩
def LAT_NCFG_FAILB : Field := ⟨10, 1⟩
def LAT_NID_IDENT : Field := ⟨0, 32⟩
def LAT_TSTS_Q : Field := ⟨31, 1⟩
def LAT_TSTS_IN : Field := ⟨30, 1⟩
def LAT_TSTS_RST : Field := ⟨29, 1⟩
def LAT_TSTS_KIND : Field := ⟨26, 3⟩
def LAT_TSTS_ET : Field := ⟨0, 24⟩
def LAT_TPT_PT : Field := ⟨0, 24⟩
def LAT_TID_IDENT : Field := ⟨0, 32⟩
def LAT_NIN_WORD : Field := ⟨0, 32⟩
def BEL_STAT_SEQ : Field := ⟨24, 8⟩
def BEL_STAT_CMDREJ : Field := ⟨6, 1⟩
def BEL_STAT_OVERRIDE : Field := ⟨5, 1⟩
def BEL_STAT_ACKOVF : Field := ⟨4, 1⟩
def BEL_STAT_SKIPPED : Field := ⟨3, 1⟩
def BEL_STAT_SCHEDHOLD : Field := ⟨2, 1⟩
def BEL_STAT_NODUTY : Field := ⟨1, 1⟩
def BEL_STAT_SWAPRESET : Field := ⟨0, 1⟩
def BEL_DUTY_LASTSRC : Field := ⟨12, 4⟩
def BEL_DUTY_DUTY : Field := ⟨0, 5⟩
def BEL_PRESENT_PRESENT : Field := ⟨0, 16⟩
def BEL_SIGNALS_FORCED : Field := ⟨16, 8⟩
def BEL_SIGNALS_SIG : Field := ⟨0, 11⟩
def BEL_WATCH_WST : Field := ⟨30, 2⟩
def BEL_WATCHCNT_WC : Field := ⟨0, 32⟩
def BEL_LOCALMIN_LVALID : Field := ⟨31, 1⟩
def BEL_LOCALMIN_MINUTE : Field := ⟨0, 11⟩
def BEL_CHSTAT_STATE : Field := ⟨30, 2⟩
def BEL_CHSTAT_STAGE : Field := ⟨28, 2⟩
def BEL_CHSTAT_TRIG : Field := ⟨27, 1⟩
def BEL_CHSTAT_ACCST : Field := ⟨24, 3⟩
def BEL_CHSTAT_CNT : Field := ⟨0, 24⟩
def BEL_CHTRIG_TV : Field := ⟨0, 32⟩
def BEL_STCFG_ACKDI : Field := ⟨24, 8⟩
def BEL_STCFG_CLSMASK : Field := ⟨20, 4⟩
def BEL_STCFG_CHMASK : Field := ⟨0, 16⟩
def JRN_STAT_SEQ : Field := ⟨24, 8⟩
def JRN_STAT_EXPERR : Field := ⟨9, 1⟩
def JRN_STAT_SIGERR : Field := ⟨8, 1⟩
def JRN_STAT_CHAINERR : Field := ⟨7, 1⟩
def JRN_STAT_TORN : Field := ⟨6, 1⟩
def JRN_STAT_FLUSHLOSS : Field := ⟨5, 1⟩
def JRN_STAT_HOLD : Field := ⟨4, 1⟩
def JRN_STAT_FULL : Field := ⟨3, 1⟩
def JRN_STAT_RESERVE : Field := ⟨2, 1⟩
def JRN_STAT_LOW : Field := ⟨1, 1⟩
def JRN_STAT_WTHRU : Field := ⟨0, 1⟩
def JRN_HEAD_LO_H_LO : Field := ⟨0, 32⟩
def JRN_HEAD_HI_H_HI : Field := ⟨0, 32⟩
def JRN_WMARK_LO_W_LO : Field := ⟨0, 32⟩
def JRN_WMARK_HI_W_HI : Field := ⟨0, 32⟩
def JRN_FREE_FREE : Field := ⟨0, 22⟩
def JRN_POOL_CLR : Field := ⟨31, 1⟩
def JRN_POOL_PEAK : Field := ⟨16, 14⟩
def JRN_POOL_USED : Field := ⟨0, 14⟩
def JRN_REFUSED_COUNT : Field := ⟨0, 32⟩
def JRN_HOLDCNT_CLR : Field := ⟨31, 1⟩
def JRN_HOLDCNT_RUN : Field := ⟨16, 8⟩
def JRN_HOLDCNT_TOTAL : Field := ⟨0, 16⟩
def JRN_CKPT_LO_C_LO : Field := ⟨0, 32⟩
def JRN_CKPT_HI_C_HI : Field := ⟨0, 32⟩
def JRN_EXPACK_PEND : Field := ⟨31, 1⟩
def JRN_EXPACK_SEQLO : Field := ⟨0, 30⟩
def JRN_FLUSH_SEALOK : Field := ⟨31, 1⟩
def JRN_FLUSH_LAST : Field := ⟨0, 10⟩
def JRN_REPLAY_STALES : Field := ⟨16, 16⟩
def JRN_REPLAY_REPLAYS : Field := ⟨0, 16⟩
def JRN_CFG_AGELIM : Field := ⟨20, 12⟩
def JRN_CFG_HOLDLIM : Field := ⟨12, 8⟩
def JRN_WARN_WARNFREE : Field := ⟨0, 22⟩
def CAN_MODE_MODE : Field := ⟨8, 3⟩
def CAN_MODE_TRIPIGN : Field := ⟨3, 1⟩
def CAN_MODE_TRIPLE : Field := ⟨2, 1⟩
def CAN_MODE_TXORD : Field := ⟨1, 1⟩
def CAN_MODE_FDEN : Field := ⟨0, 1⟩
def CAN_NBT_SJW : Field := ⟨25, 7⟩
def CAN_NBT_TSEG2 : Field := ⟨18, 7⟩
def CAN_NBT_TSEG1 : Field := ⟨10, 8⟩
def CAN_NBT_BRP : Field := ⟨0, 8⟩
def CAN_DBT_SJW : Field := ⟨28, 4⟩
def CAN_DBT_TSEG2 : Field := ⟨24, 4⟩
def CAN_DBT_TSEG1 : Field := ⟨19, 5⟩
def CAN_DBT_BRP : Field := ⟨0, 5⟩
def CAN_TDC_TDCEN : Field := ⟨15, 1⟩
def CAN_TDC_TDCO : Field := ⟨8, 7⟩
def CAN_TDC_TDCV : Field := ⟨0, 7⟩
def CAN_ERR_ESTATE : Field := ⟨24, 2⟩
def CAN_ERR_WARN : Field := ⟨23, 1⟩
def CAN_ERR_LEC : Field := ⟨20, 3⟩
def CAN_ERR_REC : Field := ⟨8, 8⟩
def CAN_ERR_TEC : Field := ⟨0, 8⟩
def CAN_STAT_SEQ : Field := ⟨24, 8⟩
def CAN_STAT_WAKE : Field := ⟨9, 1⟩
def CAN_STAT_COMPARE : Field := ⟨8, 1⟩
def CAN_STAT_AUTH : Field := ⟨7, 1⟩
def CAN_STAT_GAP : Field := ⟨6, 1⟩
def CAN_STAT_CMDSHORT : Field := ⟨5, 1⟩
def CAN_STAT_RXDROP : Field := ⟨4, 1⟩
def CAN_STAT_BOFF : Field := ⟨3, 1⟩
def CAN_STAT_EPASS : Field := ⟨2, 1⟩
def CAN_STAT_PXE : Field := ⟨1, 1⟩
def CAN_STAT_TOOLATE : Field := ⟨0, 1⟩
def CAN_CNT_BOFFS : Field := ⟨24, 8⟩
def CAN_CNT_AUTHFAILS : Field := ⟨16, 8⟩
def CAN_CNT_GAPS : Field := ⟨8, 8⟩
def CAN_CNT_RXDROPS : Field := ⟨0, 8⟩
def CAN_DUPCNT_OLD : Field := ⟨16, 16⟩
def CAN_DUPCNT_DUP : Field := ⟨0, 16⟩
def CAN_TSC_TS : Field := ⟨0, 32⟩
def CAN_RXSTAT_LOCK : Field := ⟨13, 1⟩
def CAN_RXSTAT_COUNT : Field := ⟨0, 13⟩
def CAN_RXUNLOCK_UNLOCK : Field := ⟨0, 1⟩
def CAN_TXB_STATE : Field := ⟨29, 3⟩
def CAN_TXB_SRCQ : Field := ⟨27, 2⟩
def CAN_TXB_CXREQ : Field := ⟨26, 1⟩
def CAN_TXB_ATTEMPTS : Field := ⟨8, 8⟩
def CAN_TXB_STREAM : Field := ⟨0, 8⟩
def CAN_TXCANCEL_CMDID : Field := ⟨0, 32⟩
def CAN_MARK_LO_M_LO : Field := ⟨0, 32⟩
def CAN_MARK_HI_M_HI : Field := ⟨0, 32⟩
def CAN_BACKLOG_FRAMES : Field := ⟨0, 22⟩
def CAN_RXWIN_WORD : Field := ⟨0, 32⟩
def PAR_ROLE_PEERUP : Field := ⟨13, 1⟩
def PAR_ROLE_EJECT : Field := ⟨12, 1⟩
def PAR_ROLE_IDHI : Field := ⟨11, 1⟩
def PAR_ROLE_HOLD : Field := ⟨10, 1⟩
def PAR_ROLE_LINE : Field := ⟨9, 1⟩
def PAR_ROLE_TOKEN : Field := ⟨8, 1⟩
def PAR_ROLE_PEERROLE : Field := ⟨4, 3⟩
def PAR_ROLE_ROLE : Field := ⟨0, 3⟩
def PAR_STAT_SEQ : Field := ⟨24, 8⟩
def PAR_STAT_REFUSED : Field := ⟨11, 1⟩
def PAR_STAT_AUTHFAIL : Field := ⟨10, 1⟩
def PAR_STAT_REJFAIL : Field := ⟨9, 1⟩
def PAR_STAT_HBLOST : Field := ⟨8, 1⟩
def PAR_STAT_TOKCONF : Field := ⟨7, 1⟩
def PAR_STAT_XCHECK : Field := ⟨6, 1⟩
def PAR_STAT_MIRLATE : Field := ⟨5, 1⟩
def PAR_STAT_LANEDEG : Field := ⟨4, 1⟩
def PAR_STAT_LINKLOST : Field := ⟨3, 1⟩
def PAR_STAT_DISAGREE : Field := ⟨2, 1⟩
def PAR_STAT_CASTLED : Field := ⟨1, 1⟩
def PAR_STAT_MISCOMP : Field := ⟨0, 1⟩
def PAR_LNKCTRL_PEND : Field := ⟨31, 1⟩
def PAR_LNKCTRL_STATE : Field := ⟨1, 2⟩
def PAR_LNKCTRL_EN : Field := ⟨0, 1⟩
def PAR_LNKSTAT_LANE1 : Field := ⟨7, 1⟩
def PAR_LNKSTAT_LANE0 : Field := ⟨6, 1⟩
def PAR_LNKSTAT_LSTATE : Field := ⟨0, 3⟩
def PAR_LNKCNT_RESENDS : Field := ⟨16, 16⟩
def PAR_LNKCNT_CRCERRS : Field := ⟨8, 8⟩
def PAR_LNKCNT_LOSSES : Field := ⟨0, 8⟩
def PAR_CASTLE_CAUSE : Field := ⟨28, 4⟩
def PAR_CASTLE_OUTCOME : Field := ⟨26, 2⟩
def PAR_CASTLE_OWNRES : Field := ⟨20, 6⟩
def PAR_CASTLE_PEERRES : Field := ⟨14, 6⟩
def PAR_CASTLE_TURN : Field := ⟨0, 14⟩
def PAR_CNT_MISCOMPS : Field := ⟨24, 8⟩
def PAR_CNT_CASTLES : Field := ⟨16, 8⟩
def PAR_CNT_DISAGREES : Field := ⟨8, 8⟩
def PAR_CNT_MIRMISS : Field := ⟨0, 8⟩
def PAR_REJOIN_STEP : Field := ⟨28, 4⟩
def PAR_REJOIN_REJCNT : Field := ⟨24, 4⟩
def PAR_REJOIN_ELAPSED : Field := ⟨0, 16⟩
def PAR_HBAGE_TURNS : Field := ⟨0, 16⟩
def PAR_CMD_HANDOVER : Field := ⟨0, 1⟩
def PAR_XUI_LO_MAP : Field := ⟨0, 32⟩
def PAR_XUI_HI_PB : Field := ⟨28, 3⟩
def PAR_XUI_HI_QC : Field := ⟨16, 12⟩
def PAR_XUI_HI_UI : Field := ⟨0, 16⟩
def PAR_XLX_LO : Field := ⟨24, 4⟩
def PAR_XLX_XC : Field := ⟨16, 8⟩
def PAR_XLX_LI : Field := ⟨0, 16⟩
def PAR_XDI_MAP : Field := ⟨0, 32⟩
def WTC_STAT_SEQ : Field := ⟨24, 8⟩
def WTC_STAT_HALT : Field := ⟨7, 1⟩
def WTC_STAT_SAFEACT : Field := ⟨6, 1⟩
def WTC_STAT_DANGER : Field := ⟨5, 1⟩
def WTC_STAT_RSTLIMIT : Field := ⟨4, 1⟩
def WTC_STAT_TEMPHI : Field := ⟨3, 1⟩
def WTC_STAT_ECCCOR : Field := ⟨2, 1⟩
def WTC_STAT_OVERDUE : Field := ⟨1, 1⟩
def WTC_STAT_LATFAIL : Field := ⟨0, 1⟩
def WTC_FAULT_CODE : Field := ⟨24, 8⟩
def WTC_FAULT_DETAIL : Field := ⟨16, 8⟩
def WTC_FAULT_TURN : Field := ⟨0, 16⟩
def WTC_LASTFAULT_CODE : Field := ⟨24, 8⟩
def WTC_LASTFAULT_DETAIL : Field := ⟨16, 8⟩
def WTC_LASTFAULT_TURN : Field := ⟨0, 16⟩
def WTC_LATCOV_DONE : Field := ⟨0, 12⟩
def WTC_LATOVD_OVD : Field := ⟨0, 12⟩
def WTC_LATFAIL_FAIL : Field := ⟨0, 12⟩
def WTC_ECC_LEDGER : Field := ⟨16, 16⟩
def WTC_ECC_SRAM : Field := ⟨0, 16⟩
def WTC_TEMP_MAX : Field := ⟨16, 16⟩
def WTC_TEMP_NOW : Field := ⟨0, 16⟩
def WTC_COUNT_RSTHOUR : Field := ⟨24, 8⟩
def WTC_COUNT_RSTTOTAL : Field := ⟨16, 8⟩
def WTC_COUNT_LATER : Field := ⟨8, 8⟩
def WTC_CFG_REACT : Field := ⟨31, 1⟩
def WTC_CFG_RSTLIM : Field := ⟨27, 4⟩
def WTC_CFG_SAFEMASK : Field := ⟨24, 3⟩
def WTC_CFG_RSTDLY : Field := ⟨0, 10⟩
def VLT_STAT_SEQ : Field := ⟨24, 8⟩
def VLT_STAT_LOCK : Field := ⟨8, 1⟩
def VLT_STAT_TRNGFLT : Field := ⟨7, 1⟩
def VLT_STAT_NOIMG : Field := ⟨6, 1⟩
def VLT_STAT_FALLBACK : Field := ⟨5, 1⟩
def VLT_STAT_REFUSED : Field := ⟨4, 1⟩
def VLT_STAT_REJECT : Field := ⟨3, 1⟩
def VLT_STAT_ACTSLOT : Field := ⟨2, 1⟩
def VLT_STAT_LIFE : Field := ⟨0, 2⟩
def VLT_DEVID_ID : Field := ⟨0, 32⟩
def VLT_CERTLEN_LEN : Field := ⟨0, 11⟩
def VLT_IMGVER_VERSION : Field := ⟨0, 32⟩
def VLT_CTR_CTR : Field := ⟨0, 32⟩
def VLT_CMD_BOOTNEXT : Field := ⟨2, 1⟩
def VLT_CMD_ABORT : Field := ⟨1, 1⟩
def VLT_CMD_SWAP : Field := ⟨0, 1⟩
def VLT_IMGHASH_HASH : Field := ⟨0, 32⟩
def VLT_STGSTAT_STATE : Field := ⟨29, 3⟩
def VLT_STGSTAT_PEERRDY : Field := ⟨28, 1⟩
def VLT_STGSTAT_DETAIL : Field := ⟨16, 8⟩
def VLT_STGSTAT_REASON : Field := ⟨8, 8⟩
def VLT_STGSTAT_PROGRESS : Field := ⟨0, 8⟩
def VLT_SWAPTURN_TURN : Field := ⟨0, 32⟩
def VLT_OWN_STATE : Field := ⟨30, 2⟩
def VLT_OWN_KEYID : Field := ⟨0, 24⟩
def VLT_EPOCH_OLD : Field := ⟨16, 16⟩
def VLT_EPOCH_CUR : Field := ⟨0, 16⟩
def VLT_SESS_FAILS : Field := ⟨16, 16⟩
def VLT_SESS_OPEN : Field := ⟨0, 8⟩
def VLT_NONCE_NONCE : Field := ⟨0, 32⟩
def VLT_CERT_WORD : Field := ⟨0, 32⟩
def DOM_STAT_SEQ : Field := ⟨24, 8⟩
def DOM_STAT_DOME_LOST : Field := ⟨15, 1⟩
def DOM_STAT_OSC_STOP : Field := ⟨14, 1⟩
def DOM_STAT_ONBAT : Field := ⟨13, 1⟩
def DOM_STAT_BATLOW : Field := ⟨12, 1⟩
def DOM_STAT_REFUSED : Field := ⟨3, 1⟩
def DOM_STAT_SETDONE : Field := ⟨2, 1⟩
def DOM_STAT_ALM1 : Field := ⟨1, 1⟩
def DOM_STAT_ALM0 : Field := ⟨0, 1⟩
def DOM_TICK_LO_T_LO : Field := ⟨0, 32⟩
def DOM_TICK_HI_T_HI : Field := ⟨0, 16⟩
def DOM_ZONE_PEND : Field := ⟨31, 1⟩
def DOM_ZONE_ZONE : Field := ⟨0, 12⟩
def DOM_ZCMD_PEND : Field := ⟨31, 1⟩
def DOM_ZCMD_HOUR_SUB : Field := ⟨1, 1⟩
def DOM_ZCMD_HOUR_ADD : Field := ⟨0, 1⟩
def DOM_SHIFT_PEND : Field := ⟨31, 1⟩
def DOM_SHIFT_SHIFT : Field := ⟨0, 16⟩
def DOM_SLEW_REM : Field := ⟨0, 16⟩
def DOM_SET_LO_S_LO : Field := ⟨0, 32⟩
def DOM_SET_HI_PEND : Field := ⟨31, 1⟩
def DOM_SET_HI_S_HI : Field := ⟨0, 16⟩
def DOM_CAPCMD_CAPTURE : Field := ⟨0, 1⟩
def DOM_CAPTICK_LO_T_LO : Field := ⟨0, 32⟩
def DOM_CAPTICK_HI_FRAC : Field := ⟨16, 14⟩
def DOM_CAPTICK_HI_T_HI : Field := ⟨0, 16⟩
def DOM_CAPTSC_TS : Field := ⟨0, 32⟩
def DOM_CAPTURN_LO_TURN_LO : Field := ⟨0, 32⟩
def DOM_CAPTURN_HI_TURN_HI : Field := ⟨0, 16⟩
def DOM_CAPPB0_CAPCNT : Field := ⟨24, 8⟩
def DOM_CAPPB0_POS : Field := ⟨0, 20⟩
def DOM_ALMCFG_FIRED : Field := ⟨5, 1⟩
def DOM_ALMCFG_SKIPPED : Field := ⟨4, 1⟩
def DOM_ALMCFG_WAKE : Field := ⟨3, 1⟩
def DOM_ALMCFG_BASE : Field := ⟨2, 1⟩
def DOM_ALMCFG_ARMED : Field := ⟨1, 1⟩
def DOM_ALMCFG_EN : Field := ⟨0, 1⟩
def DOM_ALMCMP_LO_C_LO : Field := ⟨0, 32⟩
def DOM_ALMCMP_HI_C_HI : Field := ⟨0, 16⟩
def DOM_SUPPLY_VBAT : Field := ⟨0, 16⟩
def DOM_BKP_DATA : Field := ⟨0, 32⟩
def PNL_CTRL_PEND : Field := ⟨31, 1⟩
def PNL_CTRL_STATE : Field := ⟨1, 2⟩
def PNL_CTRL_EN : Field := ⟨0, 1⟩
def PNL_STAT_SEQ : Field := ⟨24, 8⟩
def PNL_STAT_CRKSEEN : Field := ⟨23, 1⟩
def PNL_STAT_CUT : Field := ⟨22, 1⟩
def PNL_STAT_VFLTSEEN : Field := ⟨21, 1⟩
def PNL_STAT_TPFLTSEEN : Field := ⟨20, 1⟩
def PNL_STAT_CRACK : Field := ⟨7, 1⟩
def PNL_STAT_VFLT : Field := ⟨6, 1⟩
def PNL_STAT_TPFLT : Field := ⟨5, 1⟩
def PNL_STAT_BANDPEND : Field := ⟨4, 1⟩
def PNL_STAT_BAND : Field := ⟨0, 4⟩
def PNL_MEAS_TPCODE : Field := ⟨16, 12⟩
def PNL_MEAS_RCRK : Field := ⟨0, 16⟩
def PNL_VLCD_VMEAS : Field := ⟨16, 16⟩
def PNL_VLCD_VSETP : Field := ⟨0, 16⟩
def PNL_REGMAP_MAINT : Field := ⟨16, 16⟩
def PNL_REGMAP_RUN : Field := ⟨0, 16⟩
def PNL_PENDMAP_PEND : Field := ⟨0, 16⟩
def PNL_FRAMECNT_F : Field := ⟨0, 32⟩
def PNL_REGSTS_BAND : Field := ⟨28, 4⟩
def PNL_REGSTS_LEN : Field := ⟨20, 8⟩
def PNL_REGSTS_FIDX : Field := ⟨12, 8⟩
def PNL_REGSTS_DONES : Field := ⟨0, 12⟩
def PNL_LEV_LEV : Field := ⟨0, 32⟩
def PNL_UNK_UNK : Field := ⟨0, 32⟩
def PNL_TGT_TGT : Field := ⟨0, 32⟩
def HST_STAT_SEQ : Field := ⟨24, 8⟩
def HST_STAT_BADADDR : Field := ⟨3, 1⟩
def HST_STAT_DENIED : Field := ⟨2, 1⟩
def HST_STAT_AUTHERR : Field := ⟨1, 1⟩
def HST_STAT_CRCERR : Field := ⟨0, 1⟩
def HST_CNT_AUTHERRS : Field := ⟨16, 16⟩
def HST_CNT_CRCERRS : Field := ⟨0, 16⟩
def HST_SESS_OPEN : Field := ⟨31, 1⟩
def HST_SESS_KEY : Field := ⟨28, 3⟩
def HST_SESS_PERM : Field := ⟨23, 5⟩
def HST_SESS_CTR : Field := ⟨0, 23⟩
def HST_LASTERR_STATUS : Field := ⟨24, 8⟩
def HST_LASTERR_OPC : Field := ⟨16, 8⟩
def HST_LASTERR_SESS : Field := ⟨8, 8⟩
def PWR_STAT_SEQ : Field := ⟨24, 8⟩
def PWR_STAT_PFW : Field := ⟨11, 1⟩
def PWR_STAT_EJECT : Field := ⟨10, 1⟩
def PWR_STAT_PRES : Field := ⟨9, 1⟩
def PWR_STAT_VHVLOW : Field := ⟨8, 1⟩
def PWR_STAT_SLPREF : Field := ⟨4, 1⟩
def PWR_STAT_PRESLOSS : Field := ⟨3, 1⟩
def PWR_STAT_FEEDCHG : Field := ⟨2, 1⟩
def PWR_STAT_VHVSEEN : Field := ⟨1, 1⟩
def PWR_STAT_PFWSEEN : Field := ⟨0, 1⟩
def PWR_FEEDA_V : Field := ⟨16, 16⟩
def PWR_FEEDA_ISNS : Field := ⟨0, 16⟩
def PWR_FEEDB_V : Field := ⟨16, 16⟩
def PWR_FEEDB_ISNS : Field := ⟨0, 16⟩
def PWR_FEEDFLG_FB : Field := ⟨8, 5⟩
def PWR_FEEDFLG_FA : Field := ⟨0, 5⟩
def PWR_COMB_CLR : Field := ⟨31, 1⟩
def PWR_COMB_VMIN : Field := ⟨16, 15⟩
def PWR_COMB_VCOMB : Field := ⟨0, 16⟩
def PWR_RAILS_VHV : Field := ⟨24, 8⟩
def PWR_RAILS_VANA : Field := ⟨16, 8⟩
def PWR_RAILS_VDDIO : Field := ⟨8, 8⟩
def PWR_RAILS_VCORE : Field := ⟨0, 8⟩
def PWR_PFW_COUNT : Field := ⟨16, 16⟩
def PWR_PFW_LASTDUR : Field := ⟨0, 16⟩
def PWR_RSTCAUSE_DETAIL : Field := ⟨16, 8⟩
def PWR_RSTCAUSE_NOWARN : Field := ⟨8, 1⟩
def PWR_RSTCAUSE_CAUSE : Field := ⟨0, 4⟩
def PWR_RSTCMD_RESET : Field := ⟨0, 1⟩
def PWR_SLEEP_PEND : Field := ⟨31, 1⟩
def PWR_SLEEP_WAKEMSK : Field := ⟨4, 4⟩
def PWR_SLEEP_REQ : Field := ⟨0, 1⟩

end F

/-- Rows of the register map: address, strides and counts, masks by access type (R4). -/
def regRows1 : List RegRow :=
  [⟨0x4C, 0x0, 1, 0x0, 1, 0x0, 0x0, 0x0, 0xFF00003F, 0x0, 0x0⟩,
   ⟨0x5C, 0x0, 1, 0x0, 1, 0x0, 0x0, 0x0, 0x0, 0x80000000, 0x0⟩,
   ⟨0x60, 0x0, 1, 0x0, 1, 0x0, 0x0, 0x0, 0xFF0007FF, 0x0, 0x0⟩,
   ⟨0x20, 0x0, 1, 0x0, 1, 0x0, 0x0, 0x0, 0x0, 0x0, 0xFFFF⟩,
   ⟨0x24, 0x0, 1, 0x0, 1, 0x0, 0x0, 0x0, 0xFF000001, 0x0, 0x0⟩,
   ⟨0x170030, 0x0, 1, 0x0, 1, 0xF, 0x0, 0x0, 0x0, 0x0, 0x0⟩,
   ⟨0x170060, 0x4, 8, 0x0, 1, 0x0, 0x0, 0x0, 0x0, 0xFFFFFFFF, 0x0⟩,
   ⟨0x170100, 0x4, 256, 0x0, 1, 0xF, 0x0, 0x0, 0x0, 0x0, 0x0⟩,
   ⟨0x170800, 0x8, 64, 0x0, 1, 0x0, 0x0, 0x0, 0xFF030000, 0x0, 0x0⟩,
   ⟨0x170A00, 0x0, 1, 0x0, 1, 0x0, 0x0, 0x0, 0x0, 0x80000000, 0x0⟩,
   ⟨0x10000, 0x0, 1, 0x0, 1, 0x0, 0x0, 0x0, 0xFF000003, 0x0, 0x0⟩,
   ⟨0x10004, 0x0, 1, 0x0, 1, 0x0, 0x0, 0x0, 0x0, 0x80000000, 0x0⟩,
   ⟨0x10100, 0x40, 4, 0x0, 1, 0x0, 0x0, 0x0, 0xFF07C000, 0x0, 0x0⟩,
   ⟨0x10118, 0x40, 4, 0x0, 1, 0x0, 0x0, 0x0, 0x0, 0x80000000, 0x0⟩,
   ⟨0x20000, 0x0, 1, 0x0, 1, 0x0, 0x0, 0x0, 0xFFFFFFFF, 0x0, 0x0⟩,
   ⟨0x20010, 0x4, 4, 0x0, 1, 0x0, 0x0, 0x0, 0xFF300000, 0x0, 0x0⟩,
   ⟨0x20400, 0x4, 48, 0x0, 1, 0x0, 0x0, 0x0, 0xFFC00000, 0x0, 0x0⟩,
   ⟨0x20500, 0x4, 48, 0x0, 1, 0x1, 0x1, 0x0, 0x0, 0x0, 0x0⟩,
   ⟨0x30000, 0x0, 1, 0x0, 1, 0x0, 0x0, 0x0, 0xFF070000, 0x0, 0x0⟩,
   ⟨0x30100, 0x4, 12, 0x0, 1, 0x1, 0x0, 0x1, 0x0, 0x0, 0x0⟩,
   ⟨0x30140, 0x4, 12, 0x0, 1, 0x3, 0x3, 0x0, 0x0, 0x0, 0x0⟩,
   ⟨0x30200, 0x4, 12, 0x0, 1, 0x0, 0x0, 0x0, 0xFFFF0000, 0x0, 0x0⟩,
   ⟨0x40000, 0x0, 1, 0x0, 1, 0x0, 0x0, 0x0, 0xFF010000, 0x0, 0x0⟩,
   ⟨0x40100, 0x4, 8, 0x0, 1, 0x1, 0x0, 0x1, 0x0, 0x0, 0x0⟩]

/-- Rows of the register map: address, strides and counts, masks by access type (R4). -/
def regRows2 : List RegRow :=
  [⟨0x401C0, 0x4, 8, 0x0, 1, 0xFFFF, 0xFFFF, 0x0, 0x0, 0x0, 0x0⟩,
   ⟨0x40200, 0x4, 8, 0x0, 1, 0x0, 0x0, 0x0, 0xFFF00000, 0x0, 0x0⟩,
   ⟨0x50000, 0x0, 1, 0x0, 1, 0x0, 0x0, 0x0, 0xFF030000, 0x0, 0x0⟩,
   ⟨0x50100, 0x4, 16, 0x0, 1, 0x1, 0x0, 0x1, 0x0, 0x0, 0x0⟩,
   ⟨0x50280, 0x4, 16, 0x0, 1, 0x0, 0x0, 0x0, 0xFFF00000, 0x0, 0x0⟩,
   ⟨0x50300, 0x4, 16, 0x0, 1, 0x0, 0x0, 0x0, 0xFFF00000, 0x0, 0x0⟩,
   ⟨0x50800, 0x4, 4, 0x0, 1, 0x7FFF, 0x7FFF, 0x0, 0x0, 0x0, 0x0⟩,
   ⟨0x50840, 0x4, 4, 0x0, 1, 0x0, 0x0, 0x0, 0xFFC00000, 0x0, 0x0⟩,
   ⟨0x60000, 0x0, 1, 0x0, 1, 0x0, 0x0, 0x0, 0xFF000007, 0x0, 0x0⟩,
   ⟨0x60018, 0x0, 1, 0x0, 1, 0x7FFFFFFF, 0x7FFFFFFF, 0x0, 0x0, 0x0, 0x0⟩,
   ⟨0x6001C, 0x0, 1, 0x0, 1, 0x1, 0x1, 0x0, 0x0, 0x0, 0x0⟩,
   ⟨0x60200, 0x4, 32, 0x0, 1, 0x0, 0x0, 0x0, 0xFF800000, 0x0, 0x0⟩,
   ⟨0x80000, 0x0, 1, 0x0, 1, 0x0, 0x0, 0x0, 0xFF00000F, 0x0, 0x0⟩,
   ⟨0xAC000, 0x0, 1, 0x0, 1, 0x0, 0x0, 0x0, 0xFF000003, 0x0, 0x0⟩,
   ⟨0xC0000, 0x0, 1, 0x0, 1, 0x0, 0x0, 0x0, 0xFF00007F, 0x0, 0x0⟩,
   ⟨0x100000, 0x0, 1, 0x0, 1, 0x0, 0x0, 0x0, 0xFF0003FE, 0x0, 0x0⟩,
   ⟨0x100018, 0x0, 1, 0x0, 1, 0x0, 0x0, 0x0, 0x0, 0x80000000, 0x0⟩,
   ⟨0x100020, 0x0, 1, 0x0, 1, 0x0, 0x0, 0x0, 0x0, 0x80000000, 0x0⟩,
   ⟨0x10002C, 0x0, 1, 0x0, 1, 0x3FFFFFFF, 0x3FFFFFFF, 0x0, 0x0, 0x0, 0x0⟩,
   ⟨0x110014, 0x1000, 4, 0x0, 1, 0x0, 0x0, 0x0, 0xFF0003FF, 0x0, 0x0⟩,
   ⟨0x110028, 0x1000, 4, 0x0, 1, 0x0, 0x0, 0x0, 0x0, 0x1, 0x0⟩,
   ⟨0x110040, 0x1000, 4, 0x0, 1, 0x0, 0x0, 0x0, 0x0, 0x0, 0xFFFFFFFF⟩,
   ⟨0x120004, 0x0, 1, 0x0, 1, 0x0, 0x0, 0x0, 0xFF000FFF, 0x0, 0x0⟩,
   ⟨0x120008, 0x0, 1, 0x0, 1, 0x1, 0x0, 0x1, 0x0, 0x0, 0x0⟩]

/-- Rows of the register map: address, strides and counts, masks by access type (R4). -/
def regRows3 : List RegRow :=
  [⟨0x120024, 0x0, 1, 0x0, 1, 0x0, 0x0, 0x1, 0x0, 0x1, 0x0⟩,
   ⟨0x130000, 0x0, 1, 0x0, 1, 0x0, 0x0, 0x0, 0xFF00001F, 0x0, 0x0⟩,
   ⟨0x140000, 0x0, 1, 0x0, 1, 0x0, 0x0, 0x0, 0xFF000038, 0x0, 0x0⟩,
   ⟨0x14002C, 0x0, 1, 0x0, 1, 0x0, 0x0, 0x7, 0x0, 0x7, 0x0⟩,
   ⟨0x150000, 0x0, 1, 0x0, 1, 0x0, 0x0, 0x0, 0xFF00000F, 0x0, 0x0⟩,
   ⟨0x15000C, 0x0, 1, 0x0, 1, 0xFFF, 0xFFF, 0xFFF, 0x0, 0x0, 0x0⟩,
   ⟨0x150010, 0x0, 1, 0x0, 1, 0x0, 0x3, 0x0, 0x0, 0x3, 0x0⟩,
   ⟨0x150014, 0x0, 1, 0x0, 1, 0xFFFF, 0xFFFF, 0x0, 0x0, 0x0, 0x0⟩,
   ⟨0x15001C, 0x0, 1, 0x0, 1, 0xFFFFFFFF, 0x0, 0x0, 0x0, 0x0, 0x0⟩,
   ⟨0x150020, 0x0, 1, 0x0, 1, 0xFFFF, 0xFFFF, 0xFFFF, 0x0, 0x0, 0x0⟩,
   ⟨0x150024, 0x0, 1, 0x0, 1, 0x0, 0x0, 0x0, 0x0, 0x1, 0x0⟩,
   ⟨0x150060, 0x10, 2, 0x0, 1, 0xD, 0x0, 0x0, 0x0, 0x0, 0x0⟩,
   ⟨0x150064, 0x10, 2, 0x0, 1, 0xFFFFFFFF, 0x0, 0x0, 0x0, 0x0, 0x0⟩,
   ⟨0x150068, 0x10, 2, 0x0, 1, 0xFFFF, 0x0, 0x0, 0x0, 0x0, 0x0⟩,
   ⟨0x150100, 0x4, 32, 0x0, 1, 0xFFFFFFFF, 0x0, 0x0, 0x0, 0x0, 0x0⟩,
   ⟨0x160000, 0x0, 1, 0x0, 1, 0x1, 0x0, 0x1, 0x0, 0x0, 0x0⟩,
   ⟨0x160004, 0x0, 1, 0x0, 1, 0x0, 0x0, 0x0, 0xFFF00000, 0x0, 0x0⟩,
   ⟨0x170000, 0x0, 1, 0x0, 1, 0x0, 0x0, 0x0, 0xFF00000F, 0x0, 0x0⟩,
   ⟨0x180000, 0x0, 1, 0x0, 1, 0x0, 0x0, 0x0, 0xFF00001F, 0x0, 0x0⟩,
   ⟨0x180010, 0x0, 1, 0x0, 1, 0x0, 0x0, 0x0, 0x0, 0x80000000, 0x0⟩,
   ⟨0x180020, 0x0, 1, 0x0, 1, 0x0, 0x0, 0x1, 0x0, 0x1, 0x0⟩,
   ⟨0x180024, 0x0, 1, 0x0, 1, 0xF0, 0x1, 0x1, 0x0, 0x1, 0x0⟩,
   ⟨0x40, 0x0, 1, 0x0, 1, 0x0, 0x0, 0x0, 0x0, 0x0, 0x0⟩,
   ⟨0x44, 0x0, 1, 0x0, 1, 0x0, 0x0, 0x0, 0x0, 0x0, 0x0⟩]

/-- Rows of the register map: address, strides and counts, masks by access type (R4). -/
def regRows4 : List RegRow :=
  [⟨0x48, 0x0, 1, 0x0, 1, 0x0, 0x0, 0x0, 0x0, 0x0, 0x0⟩,
   ⟨0x50, 0x0, 1, 0x0, 1, 0x0, 0x0, 0x0, 0x0, 0x0, 0x0⟩,
   ⟨0x54, 0x0, 1, 0x0, 1, 0x0, 0x0, 0x0, 0x0, 0x0, 0x0⟩,
   ⟨0x58, 0x0, 1, 0x0, 1, 0x0, 0x0, 0x0, 0x0, 0x0, 0x0⟩,
   ⟨0x170040, 0x4, 8, 0x0, 1, 0x0, 0x0, 0x0, 0x0, 0x0, 0x0⟩,
   ⟨0x170804, 0x8, 64, 0x0, 1, 0x0, 0x0, 0x0, 0x0, 0x0, 0x0⟩,
   ⟨0x10008, 0x0, 1, 0x0, 1, 0x0, 0x0, 0x0, 0x0, 0x0, 0x0⟩,
   ⟨0x10040, 0x4, 6, 0x0, 1, 0x0, 0x0, 0x0, 0x0, 0x0, 0x0⟩,
   ⟨0x10104, 0x40, 4, 0x0, 1, 0x0, 0x0, 0x0, 0x0, 0x0, 0x0⟩,
   ⟨0x10108, 0x40, 4, 0x0, 1, 0x0, 0x0, 0x0, 0x0, 0x0, 0x0⟩,
   ⟨0x1010C, 0x40, 4, 0x0, 1, 0x0, 0x0, 0x0, 0x0, 0x0, 0x0⟩,
   ⟨0x10110, 0x40, 4, 0x0, 1, 0x0, 0x0, 0x0, 0x0, 0x0, 0x0⟩,
   ⟨0x10114, 0x40, 4, 0x0, 1, 0x0, 0x0, 0x0, 0x0, 0x0, 0x0⟩,
   ⟨0x1011C, 0x40, 4, 0x0, 1, 0x0, 0x0, 0x0, 0x0, 0x0, 0x0⟩,
   ⟨0x20008, 0x0, 1, 0x0, 1, 0x0, 0x0, 0x0, 0x0, 0x0, 0x0⟩,
   ⟨0x2000C, 0x0, 1, 0x0, 1, 0x0, 0x0, 0x0, 0x0, 0x0, 0x0⟩,
   ⟨0x20020, 0x4, 4, 0x0, 1, 0x0, 0x0, 0x0, 0x0, 0x0, 0x0⟩,
   ⟨0x20030, 0x4, 4, 0x0, 1, 0x0, 0x0, 0x0, 0x0, 0x0, 0x0⟩,
   ⟨0x20040, 0x0, 1, 0x0, 1, 0x0, 0x0, 0x0, 0x0, 0x0, 0x0⟩,
   ⟨0x20048, 0x4, 2, 0x0, 1, 0x0, 0x0, 0x0, 0x0, 0x0, 0x0⟩,
   ⟨0x20060, 0x10, 4, 0x0, 1, 0x0, 0x0, 0x0, 0x0, 0x0, 0x0⟩,
   ⟨0x20064, 0x10, 4, 0x0, 1, 0x0, 0x0, 0x0, 0x0, 0x0, 0x0⟩,
   ⟨0x20068, 0x10, 4, 0x0, 1, 0x0, 0x0, 0x0, 0x0, 0x0, 0x0⟩,
   ⟨0x20100, 0x4, 48, 0x0, 1, 0x0, 0x0, 0x0, 0x0, 0x0, 0x0⟩]

/-- Rows of the register map: address, strides and counts, masks by access type (R4). -/
def regRows5 : List RegRow :=
  [⟨0x20200, 0x4, 48, 0x0, 1, 0x0, 0x0, 0x0, 0x0, 0x0, 0x0⟩,
   ⟨0x20300, 0x4, 48, 0x0, 1, 0x0, 0x0, 0x0, 0x0, 0x0, 0x0⟩,
   ⟨0x21000, 0x100, 4, 0x4, 48, 0x0, 0x0, 0x0, 0x0, 0x0, 0x0⟩,
   ⟨0x30180, 0x4, 12, 0x0, 1, 0x0, 0x0, 0x0, 0x0, 0x0, 0x0⟩,
   ⟨0x30240, 0x4, 12, 0x0, 1, 0x0, 0x0, 0x0, 0x0, 0x0, 0x0⟩,
   ⟨0x30400, 0x20, 12, 0x4, 8, 0x0, 0x0, 0x0, 0x0, 0x0, 0x0⟩,
   ⟨0x30600, 0x4, 12, 0x0, 1, 0x0, 0x0, 0x0, 0x0, 0x0, 0x0⟩,
   ⟨0x30640, 0x4, 12, 0x0, 1, 0x0, 0x0, 0x0, 0x0, 0x0, 0x0⟩,
   ⟨0x40140, 0x4, 8, 0x0, 1, 0x0, 0x0, 0x0, 0x0, 0x0, 0x0⟩,
   ⟨0x40240, 0x4, 8, 0x0, 1, 0x0, 0x0, 0x0, 0x0, 0x0, 0x0⟩,
   ⟨0x40280, 0x4, 8, 0x0, 1, 0x0, 0x0, 0x0, 0x0, 0x0, 0x0⟩,
   ⟨0x40300, 0x4, 8, 0x0, 1, 0x0, 0x0, 0x0, 0x0, 0x0, 0x0⟩,
   ⟨0x40340, 0x4, 8, 0x0, 1, 0x0, 0x0, 0x0, 0x0, 0x0, 0x0⟩,
   ⟨0x40400, 0x20, 8, 0x4, 6, 0x0, 0x0, 0x0, 0x0, 0x0, 0x0⟩,
   ⟨0x50140, 0x4, 16, 0x0, 1, 0x0, 0x0, 0x0, 0x0, 0x0, 0x0⟩,
   ⟨0x50200, 0x4, 16, 0x0, 1, 0x0, 0x0, 0x0, 0x0, 0x0, 0x0⟩,
   ⟨0x50240, 0x4, 16, 0x0, 1, 0x0, 0x0, 0x0, 0x0, 0x0, 0x0⟩,
   ⟨0x502C0, 0x4, 16, 0x0, 1, 0x0, 0x0, 0x0, 0x0, 0x0, 0x0⟩,
   ⟨0x50340, 0x4, 16, 0x0, 1, 0x0, 0x0, 0x0, 0x0, 0x0, 0x0⟩,
   ⟨0x50400, 0x20, 16, 0x4, 5, 0x0, 0x0, 0x0, 0x0, 0x0, 0x0⟩,
   ⟨0x50880, 0x4, 4, 0x0, 1, 0x0, 0x0, 0x0, 0x0, 0x0, 0x0⟩,
   ⟨0x508C0, 0x4, 4, 0x0, 1, 0x0, 0x0, 0x0, 0x0, 0x0, 0x0⟩,
   ⟨0x50900, 0x4, 4, 0x0, 1, 0x0, 0x0, 0x0, 0x0, 0x0, 0x0⟩,
   ⟨0x60004, 0x0, 1, 0x0, 1, 0x0, 0x0, 0x0, 0x0, 0x0, 0x0⟩]

/-- Rows of the register map: address, strides and counts, masks by access type (R4). -/
def regRows6 : List RegRow :=
  [⟨0x60008, 0x0, 1, 0x0, 1, 0x0, 0x0, 0x0, 0x0, 0x0, 0x0⟩,
   ⟨0x60100, 0x4, 32, 0x0, 1, 0x0, 0x0, 0x0, 0x0, 0x0, 0x0⟩,
   ⟨0x60010, 0x0, 1, 0x0, 1, 0x0, 0x0, 0x0, 0x0, 0x0, 0x0⟩,
   ⟨0x60014, 0x0, 1, 0x0, 1, 0x0, 0x0, 0x0, 0x0, 0x0, 0x0⟩,
   ⟨0x80010, 0x4, 4, 0x0, 1, 0x0, 0x0, 0x0, 0x0, 0x0, 0x0⟩,
   ⟨0x80020, 0x0, 1, 0x0, 1, 0x0, 0x0, 0x0, 0x0, 0x0, 0x0⟩,
   ⟨0x80024, 0x0, 1, 0x0, 1, 0x0, 0x0, 0x0, 0x0, 0x0, 0x0⟩,
   ⟨0x80028, 0x0, 1, 0x0, 1, 0x0, 0x0, 0x0, 0x0, 0x0, 0x0⟩,
   ⟨0x90000, 0x4, 4096, 0x0, 1, 0x0, 0x0, 0x0, 0x0, 0x0, 0x0⟩,
   ⟨0x94000, 0x4, 4096, 0x0, 1, 0x0, 0x0, 0x0, 0x0, 0x0, 0x0⟩,
   ⟨0x98000, 0x4, 4096, 0x0, 1, 0x0, 0x0, 0x0, 0x0, 0x0, 0x0⟩,
   ⟨0x9C000, 0x4, 4096, 0x0, 1, 0x0, 0x0, 0x0, 0x0, 0x0, 0x0⟩,
   ⟨0xA0000, 0x4, 4096, 0x0, 1, 0x0, 0x0, 0x0, 0x0, 0x0, 0x0⟩,
   ⟨0xA4000, 0x4, 4096, 0x0, 1, 0x0, 0x0, 0x0, 0x0, 0x0, 0x0⟩,
   ⟨0xA8000, 0x4, 128, 0x0, 1, 0x0, 0x0, 0x0, 0x0, 0x0, 0x0⟩,
   ⟨0xA8200, 0x4, 128, 0x0, 1, 0x0, 0x0, 0x0, 0x0, 0x0, 0x0⟩,
   ⟨0xA9000, 0x4, 512, 0x0, 1, 0x0, 0x0, 0x0, 0x0, 0x0, 0x0⟩,
   ⟨0xA9800, 0x4, 512, 0x0, 1, 0x0, 0x0, 0x0, 0x0, 0x0, 0x0⟩,
   ⟨0xAC004, 0x0, 1, 0x0, 1, 0x0, 0x0, 0x0, 0x0, 0x0, 0x0⟩,
   ⟨0xAD000, 0x4, 1024, 0x0, 1, 0x0, 0x0, 0x0, 0x0, 0x0, 0x0⟩,
   ⟨0xAE000, 0x4, 1024, 0x0, 1, 0x0, 0x0, 0x0, 0x0, 0x0, 0x0⟩,
   ⟨0xAF000, 0x4, 1024, 0x0, 1, 0x0, 0x0, 0x0, 0x0, 0x0, 0x0⟩,
   ⟨0xB0000, 0x4, 1024, 0x0, 1, 0x0, 0x0, 0x0, 0x0, 0x0, 0x0⟩,
   ⟨0xB1000, 0x4, 2048, 0x0, 1, 0x0, 0x0, 0x0, 0x0, 0x0, 0x0⟩]

/-- Rows of the register map: address, strides and counts, masks by access type (R4). -/
def regRows7 : List RegRow :=
  [⟨0xB3000, 0x4, 2048, 0x0, 1, 0x0, 0x0, 0x0, 0x0, 0x0, 0x0⟩,
   ⟨0xB5000, 0x4, 2048, 0x0, 1, 0x0, 0x0, 0x0, 0x0, 0x0, 0x0⟩,
   ⟨0xB8000, 0x4, 8192, 0x0, 1, 0x0, 0x0, 0x0, 0x0, 0x0, 0x0⟩,
   ⟨0xC0004, 0x0, 1, 0x0, 1, 0x0, 0x0, 0x0, 0x0, 0x0, 0x0⟩,
   ⟨0xC0008, 0x0, 1, 0x0, 1, 0x0, 0x0, 0x0, 0x0, 0x0, 0x0⟩,
   ⟨0xC000C, 0x0, 1, 0x0, 1, 0x0, 0x0, 0x0, 0x0, 0x0, 0x0⟩,
   ⟨0xC0010, 0x0, 1, 0x0, 1, 0x0, 0x0, 0x0, 0x0, 0x0, 0x0⟩,
   ⟨0xC0014, 0x0, 1, 0x0, 1, 0x0, 0x0, 0x0, 0x0, 0x0, 0x0⟩,
   ⟨0xC0018, 0x0, 1, 0x0, 1, 0x0, 0x0, 0x0, 0x0, 0x0, 0x0⟩,
   ⟨0xC0100, 0x4, 16, 0x0, 1, 0x0, 0x0, 0x0, 0x0, 0x0, 0x0⟩,
   ⟨0xC0140, 0x4, 16, 0x0, 1, 0x0, 0x0, 0x0, 0x0, 0x0, 0x0⟩,
   ⟨0xC0200, 0x4, 8, 0x0, 1, 0x0, 0x0, 0x0, 0x0, 0x0, 0x0⟩,
   ⟨0x100004, 0x0, 1, 0x0, 1, 0x0, 0x0, 0x0, 0x0, 0x0, 0x0⟩,
   ⟨0x100008, 0x0, 1, 0x0, 1, 0x0, 0x0, 0x0, 0x0, 0x0, 0x0⟩,
   ⟨0x10000C, 0x0, 1, 0x0, 1, 0x0, 0x0, 0x0, 0x0, 0x0, 0x0⟩,
   ⟨0x100010, 0x0, 1, 0x0, 1, 0x0, 0x0, 0x0, 0x0, 0x0, 0x0⟩,
   ⟨0x100014, 0x0, 1, 0x0, 1, 0x0, 0x0, 0x0, 0x0, 0x0, 0x0⟩,
   ⟨0x10001C, 0x0, 1, 0x0, 1, 0x0, 0x0, 0x0, 0x0, 0x0, 0x0⟩,
   ⟨0x100024, 0x0, 1, 0x0, 1, 0x0, 0x0, 0x0, 0x0, 0x0, 0x0⟩,
   ⟨0x100028, 0x0, 1, 0x0, 1, 0x0, 0x0, 0x0, 0x0, 0x0, 0x0⟩,
   ⟨0x100030, 0x0, 1, 0x0, 1, 0x0, 0x0, 0x0, 0x0, 0x0, 0x0⟩,
   ⟨0x100034, 0x0, 1, 0x0, 1, 0x0, 0x0, 0x0, 0x0, 0x0, 0x0⟩,
   ⟨0x100038, 0x0, 1, 0x0, 1, 0x0, 0x0, 0x0, 0x0, 0x0, 0x0⟩,
   ⟨0x10003C, 0x0, 1, 0x0, 1, 0x0, 0x0, 0x0, 0x0, 0x0, 0x0⟩]

/-- Rows of the register map: address, strides and counts, masks by access type (R4). -/
def regRows8 : List RegRow :=
  [⟨0x110000, 0x1000, 4, 0x0, 1, 0x0, 0x0, 0x0, 0x0, 0x0, 0x0⟩,
   ⟨0x110004, 0x1000, 4, 0x0, 1, 0x0, 0x0, 0x0, 0x0, 0x0, 0x0⟩,
   ⟨0x110008, 0x1000, 4, 0x0, 1, 0x0, 0x0, 0x0, 0x0, 0x0, 0x0⟩,
   ⟨0x11000C, 0x1000, 4, 0x0, 1, 0x0, 0x0, 0x0, 0x0, 0x0, 0x0⟩,
   ⟨0x110010, 0x1000, 4, 0x0, 1, 0x0, 0x0, 0x0, 0x0, 0x0, 0x0⟩,
   ⟨0x110018, 0x1000, 4, 0x0, 1, 0x0, 0x0, 0x0, 0x0, 0x0, 0x0⟩,
   ⟨0x11001C, 0x1000, 4, 0x0, 1, 0x0, 0x0, 0x0, 0x0, 0x0, 0x0⟩,
   ⟨0x110020, 0x1000, 4, 0x0, 1, 0x0, 0x0, 0x0, 0x0, 0x0, 0x0⟩,
   ⟨0x110024, 0x1000, 4, 0x0, 1, 0x0, 0x0, 0x0, 0x0, 0x0, 0x0⟩,
   ⟨0x110030, 0x1000, 4, 0x4, 3, 0x0, 0x0, 0x0, 0x0, 0x0, 0x0⟩,
   ⟨0x110044, 0x1000, 4, 0x0, 1, 0x0, 0x0, 0x0, 0x0, 0x0, 0x0⟩,
   ⟨0x110048, 0x1000, 4, 0x0, 1, 0x0, 0x0, 0x0, 0x0, 0x0, 0x0⟩,
   ⟨0x11004C, 0x1000, 4, 0x0, 1, 0x0, 0x0, 0x0, 0x0, 0x0, 0x0⟩,
   ⟨0x110400, 0x1000, 4, 0x4, 20, 0x0, 0x0, 0x0, 0x0, 0x0, 0x0⟩,
   ⟨0x120000, 0x0, 1, 0x0, 1, 0x0, 0x0, 0x0, 0x0, 0x0, 0x0⟩,
   ⟨0x12000C, 0x0, 1, 0x0, 1, 0x0, 0x0, 0x0, 0x0, 0x0, 0x0⟩,
   ⟨0x120010, 0x0, 1, 0x0, 1, 0x0, 0x0, 0x0, 0x0, 0x0, 0x0⟩,
   ⟨0x120014, 0x0, 1, 0x0, 1, 0x0, 0x0, 0x0, 0x0, 0x0, 0x0⟩,
   ⟨0x120018, 0x0, 1, 0x0, 1, 0x0, 0x0, 0x0, 0x0, 0x0, 0x0⟩,
   ⟨0x12001C, 0x0, 1, 0x0, 1, 0x0, 0x0, 0x0, 0x0, 0x0, 0x0⟩,
   ⟨0x120020, 0x0, 1, 0x0, 1, 0x0, 0x0, 0x0, 0x0, 0x0, 0x0⟩,
   ⟨0x120040, 0x0, 1, 0x0, 1, 0x0, 0x0, 0x0, 0x0, 0x0, 0x0⟩,
   ⟨0x120044, 0x0, 1, 0x0, 1, 0x0, 0x0, 0x0, 0x0, 0x0, 0x0⟩,
   ⟨0x120048, 0x0, 1, 0x0, 1, 0x0, 0x0, 0x0, 0x0, 0x0, 0x0⟩]

/-- Rows of the register map: address, strides and counts, masks by access type (R4). -/
def regRows9 : List RegRow :=
  [⟨0x12004C, 0x0, 1, 0x0, 1, 0x0, 0x0, 0x0, 0x0, 0x0, 0x0⟩,
   ⟨0x130004, 0x0, 1, 0x0, 1, 0x0, 0x0, 0x0, 0x0, 0x0, 0x0⟩,
   ⟨0x130008, 0x0, 1, 0x0, 1, 0x0, 0x0, 0x0, 0x0, 0x0, 0x0⟩,
   ⟨0x13000C, 0x0, 1, 0x0, 1, 0x0, 0x0, 0x0, 0x0, 0x0, 0x0⟩,
   ⟨0x130010, 0x0, 1, 0x0, 1, 0x0, 0x0, 0x0, 0x0, 0x0, 0x0⟩,
   ⟨0x130014, 0x0, 1, 0x0, 1, 0x0, 0x0, 0x0, 0x0, 0x0, 0x0⟩,
   ⟨0x130018, 0x0, 1, 0x0, 1, 0x0, 0x0, 0x0, 0x0, 0x0, 0x0⟩,
   ⟨0x13001C, 0x0, 1, 0x0, 1, 0x0, 0x0, 0x0, 0x0, 0x0, 0x0⟩,
   ⟨0x130020, 0x0, 1, 0x0, 1, 0x0, 0x0, 0x0, 0x0, 0x0, 0x0⟩,
   ⟨0x130024, 0x0, 1, 0x0, 1, 0x0, 0x0, 0x0, 0x0, 0x0, 0x0⟩,
   ⟨0x140010, 0x4, 4, 0x0, 1, 0x0, 0x0, 0x0, 0x0, 0x0, 0x0⟩,
   ⟨0x140020, 0x0, 1, 0x0, 1, 0x0, 0x0, 0x0, 0x0, 0x0, 0x0⟩,
   ⟨0x140024, 0x0, 1, 0x0, 1, 0x0, 0x0, 0x0, 0x0, 0x0, 0x0⟩,
   ⟨0x140028, 0x0, 1, 0x0, 1, 0x0, 0x0, 0x0, 0x0, 0x0, 0x0⟩,
   ⟨0x140040, 0x4, 8, 0x0, 1, 0x0, 0x0, 0x0, 0x0, 0x0, 0x0⟩,
   ⟨0x140060, 0x0, 1, 0x0, 1, 0x0, 0x0, 0x0, 0x0, 0x0, 0x0⟩,
   ⟨0x140064, 0x0, 1, 0x0, 1, 0x0, 0x0, 0x0, 0x0, 0x0, 0x0⟩,
   ⟨0x140080, 0x4, 4, 0x0, 1, 0x0, 0x0, 0x0, 0x0, 0x0, 0x0⟩,
   ⟨0x140090, 0x0, 1, 0x0, 1, 0x0, 0x0, 0x0, 0x0, 0x0, 0x0⟩,
   ⟨0x140094, 0x0, 1, 0x0, 1, 0x0, 0x0, 0x0, 0x0, 0x0, 0x0⟩,
   ⟨0x1400A0, 0x4, 8, 0x0, 1, 0x0, 0x0, 0x0, 0x0, 0x0, 0x0⟩,
   ⟨0x140400, 0x4, 256, 0x0, 1, 0x0, 0x0, 0x0, 0x0, 0x0, 0x0⟩,
   ⟨0x150004, 0x0, 1, 0x0, 1, 0x0, 0x0, 0x0, 0x0, 0x0, 0x0⟩,
   ⟨0x150008, 0x0, 1, 0x0, 1, 0x0, 0x0, 0x0, 0x0, 0x0, 0x0⟩]

/-- Rows of the register map: address, strides and counts, masks by access type (R4). -/
def regRows10 : List RegRow :=
  [⟨0x150018, 0x0, 1, 0x0, 1, 0x0, 0x0, 0x0, 0x0, 0x0, 0x0⟩,
   ⟨0x150028, 0x0, 1, 0x0, 1, 0x0, 0x0, 0x0, 0x0, 0x0, 0x0⟩,
   ⟨0x15002C, 0x0, 1, 0x0, 1, 0x0, 0x0, 0x0, 0x0, 0x0, 0x0⟩,
   ⟨0x150030, 0x4, 4, 0x0, 1, 0x0, 0x0, 0x0, 0x0, 0x0, 0x0⟩,
   ⟨0x150040, 0x0, 1, 0x0, 1, 0x0, 0x0, 0x0, 0x0, 0x0, 0x0⟩,
   ⟨0x150044, 0x0, 1, 0x0, 1, 0x0, 0x0, 0x0, 0x0, 0x0, 0x0⟩,
   ⟨0x150048, 0x0, 1, 0x0, 1, 0x0, 0x0, 0x0, 0x0, 0x0, 0x0⟩,
   ⟨0x150080, 0x0, 1, 0x0, 1, 0x0, 0x0, 0x0, 0x0, 0x0, 0x0⟩,
   ⟨0x160008, 0x0, 1, 0x0, 1, 0x0, 0x0, 0x0, 0x0, 0x0, 0x0⟩,
   ⟨0x16000C, 0x0, 1, 0x0, 1, 0x0, 0x0, 0x0, 0x0, 0x0, 0x0⟩,
   ⟨0x160010, 0x0, 1, 0x0, 1, 0x0, 0x0, 0x0, 0x0, 0x0, 0x0⟩,
   ⟨0x160014, 0x0, 1, 0x0, 1, 0x0, 0x0, 0x0, 0x0, 0x0, 0x0⟩,
   ⟨0x160018, 0x0, 1, 0x0, 1, 0x0, 0x0, 0x0, 0x0, 0x0, 0x0⟩,
   ⟨0x160100, 0x4, 16, 0x0, 1, 0x0, 0x0, 0x0, 0x0, 0x0, 0x0⟩,
   ⟨0x160200, 0x4, 48, 0x0, 1, 0x0, 0x0, 0x0, 0x0, 0x0, 0x0⟩,
   ⟨0x160300, 0x4, 24, 0x0, 1, 0x0, 0x0, 0x0, 0x0, 0x0, 0x0⟩,
   ⟨0x160400, 0x4, 48, 0x0, 1, 0x0, 0x0, 0x0, 0x0, 0x0, 0x0⟩,
   ⟨0x170004, 0x0, 1, 0x0, 1, 0x0, 0x0, 0x0, 0x0, 0x0, 0x0⟩,
   ⟨0x170008, 0x4, 8, 0x0, 1, 0x0, 0x0, 0x0, 0x0, 0x0, 0x0⟩,
   ⟨0x170028, 0x0, 1, 0x0, 1, 0x0, 0x0, 0x0, 0x0, 0x0, 0x0⟩,
   ⟨0x180004, 0x0, 1, 0x0, 1, 0x0, 0x0, 0x0, 0x0, 0x0, 0x0⟩,
   ⟨0x180008, 0x0, 1, 0x0, 1, 0x0, 0x0, 0x0, 0x0, 0x0, 0x0⟩,
   ⟨0x18000C, 0x0, 1, 0x0, 1, 0x0, 0x0, 0x0, 0x0, 0x0, 0x0⟩,
   ⟨0x180014, 0x0, 1, 0x0, 1, 0x0, 0x0, 0x0, 0x0, 0x0, 0x0⟩]

/-- Rows of the register map: address, strides and counts, masks by access type (R4). -/
def regRows11 : List RegRow :=
  [⟨0x180018, 0x0, 1, 0x0, 1, 0x0, 0x0, 0x0, 0x0, 0x0, 0x0⟩,
   ⟨0x18001C, 0x0, 1, 0x0, 1, 0x0, 0x0, 0x0, 0x0, 0x0, 0x0⟩]

/-- The whole register map. -/
def regRows : List RegRow :=
  regRows1 ++ regRows2 ++ regRows3 ++ regRows4 ++ regRows5 ++ regRows6 ++ regRows7 ++ regRows8 ++ regRows9 ++ regRows10 ++ regRows11

/-- The registers that are not 0 after reset. -/
def resetRows : List ResetRow :=
  [⟨0x20040, 0x0, 1, 0x0, 1, 0xFFFF⟩,
   ⟨0x20400, 0x4, 48, 0x0, 1, 0xFFFF⟩,
   ⟨0x30200, 0x4, 12, 0x0, 1, 0xF000⟩,
   ⟨0x40200, 0x4, 8, 0x0, 1, 0xF000⟩,
   ⟨0x50280, 0x4, 16, 0x0, 1, 0xF0FFF⟩,
   ⟨0x50300, 0x4, 16, 0x0, 1, 0xF00⟩,
   ⟨0x50840, 0x4, 4, 0x0, 1, 0x50000⟩,
   ⟨0x60100, 0x4, 32, 0x0, 1, 0xF0000⟩,
   ⟨0x94000, 0x4, 4096, 0x0, 1, 0x8000F000⟩,
   ⟨0xA9800, 0x4, 512, 0x0, 1, 0xC000FFFF⟩,
   ⟨0xC0004, 0x0, 1, 0x0, 1, 0x1F⟩,
   ⟨0x110030, 0x1000, 4, 0x4, 3, 0x180000FF⟩,
   ⟨0x120000, 0x0, 1, 0x0, 1, 0x200⟩,
   ⟨0x140000, 0x0, 1, 0x0, 1, 0x40⟩,
   ⟨0x150000, 0x0, 1, 0x0, 1, 0xC000⟩,
   ⟨0x160300, 0x4, 24, 0x0, 1, 0xFFFFFFFF⟩,
   ⟨0x180010, 0x0, 1, 0x0, 1, 0x7FFF0000⟩,
   ⟨0x18001C, 0x0, 1, 0x0, 1, 0x100⟩,
   ⟨0x170804, 0x8, 4, 0x0, 1, 0x21000⟩,
   ⟨0x170824, 0x8, 12, 0x0, 1, 0x22100⟩,
   ⟨0x170884, 0x8, 16, 0x0, 1, 0x34040⟩,
   ⟨0x170904, 0x8, 8, 0x0, 1, 0x16000⟩,
   ⟨0x170944, 0x8, 8, 0x0, 1, 0x48040⟩,
   ⟨0x170984, 0x8, 8, 0x0, 1, 0x1A600⟩,
   ⟨0x1709C4, 0x8, 4, 0x0, 1, 0xC010⟩,
   ⟨0x1709E4, 0x0, 1, 0x0, 1, 0x5E028⟩,
   ⟨0x1709EC, 0x0, 1, 0x0, 1, 0x1E800⟩,
   ⟨0x1709F4, 0x0, 1, 0x0, 1, 0x5E040⟩,
   ⟨0x1709FC, 0x0, 1, 0x0, 1, 0x1E040⟩,
   ⟨0x10100, 0x0, 1, 0x0, 1, 0x700⟩]

/-- Whether an address belongs to a row of `c1` by `c2` registers. -/
def inRow (base s1 c1 s2 c2 a : Nat) : Bool :=
  base ≤ a &&
    (let d := a - base
     let i := if s1 = 0 then 0 else min (d / s1) (c1 - 1)
     let e := d - s1 * i
     if s2 = 0 then e == 0 else e % s2 == 0 && e / s2 < c2)

/-- The row of the register at an address, if the address is mapped. -/
def findRow (a : Nat) : Option RegRow :=
  regRows.find? (fun r => inRow r.base r.s1 r.c1 r.s2 r.c2 a)

/-- The value of the register at an address after reset (R6; log entry 2). -/
def resetWord (a : Nat) : Word :=
  match resetRows.find? (fun r => inRow r.base r.s1 r.c1 r.s2 r.c2 a) with
  | some r => r.word
  | none => 0

end Sys2Proof.Machine
end

