-- ==== Sys2Proof/Image.lean ====
section
/-!
DEFINITION. The decoded Faram image: one structure per record of the image sections,
with the field names of each chapter's section tables (R96, R97, R130, R161, R180, R209,
R223, R249, R276 to R278, R311, R343, R382, R401, R427, R428, R465). Data only; the
bytes are read in Machine/ImageParse.lean and the vault's rules are in Machine/ImageCheck.lean.
-/
namespace Sys2Proof.Machine

/-- Base record of the PHSB section (R96). -/
structure BaseRec where
  kind : Nat
  tpin : Nat
  ipin : Nat
  camsrc : Nat
  slots : Nat
  missing : Nat
  cycrev : Nat
  gapr : Nat
  acc : Nat
  syncerr : Nat
  camerr : Nat
  stillt : Nat
  minspd : Nat
  refpos : Nat
  camlo : Nat
  camhi : Nat
  deriving DecidableEq, Repr

/-- Angle-input record of the PHSB section (R96). -/
structure AngleRec where
  mode : Nat
  level : Nat
  edgeflt : Nat
  deriving DecidableEq, Repr

/-- The PHSB section (R96). -/
structure PhsbSec where
  tlen : Nat
  emit : Nat
  bases : List BaseRec
  inputs : List AngleRec
  deriving DecidableEq, Repr

/-- One schedule entry of the SCHD section (R97). -/
structure SchedEntry where
  fb : Bool
  act : Nat
  base : Nat
  pos : Nat
  arg : Nat
  target : Nat
  fbdiv : Nat
  fbpos : Nat
  deriving DecidableEq, Repr

/-- Channel record of the UICF section (R130). -/
structure UiChan where
  mode : Nat
  subtype : Nat
  wires : Nat
  gain : Nat
  iexi : Nat
  cjsrc : Nat
  cjch : Nat
  rate : Nat
  settle : Nat
  ipc : Nat
  openr : Nat
  fixcj : Int
  deriving DecidableEq, Repr

/-- Scan step word, in the layout of UIN_STEPn_k. -/
structure UiStep where
  kind : Nat
  entryStart : Bool
  rate : Nat
  settle : Nat
  chan : Nat
  deriving DecidableEq, Repr

/-- Converter record of the UICF section (R130). -/
structure UiConv where
  mode : Nat
  len : Nat
  exvlvl : Nat
  steps : List UiStep
  deriving DecidableEq, Repr

/-- CJ record of the UICF section (R130). -/
structure CjRec where
  en : Bool
  leadr : Nat
  deriving DecidableEq, Repr

/-- The UICF section (R130). -/
structure UicfSec where
  chans : List UiChan
  convs : List UiConv
  rrefval : List Nat
  cjs : List CjRec
  amon : List Nat
  deriving DecidableEq, Repr

/-- Sampling part of a channel record of the QCCF section (R161). -/
structure QcAcq where
  pwren : Bool
  timeMode : Bool
  base : Nat
  res : Nat
  range : Nat
  auto : Bool
  autocnt : Nat
  invlim : Nat
  wkind : List Nat
  sens : Int
  tdca : Nat
  tper : Nat
  rstt : Nat
  cmin : Nat
  cmax : Nat
  leakq : Nat
  deriving DecidableEq, Repr

/-- Computation part of a channel record of the QCCF section (R161). -/
structure QcComp where
  pega : Int
  pegw : Nat
  pegsrc : Nat
  pegch : Nat
  vtabsel : Nat
  pfix : Int
  pscl : Int
  pofs : Int
  compa : Int
  imlo : Int
  imhi : Int
  dplo : Int
  dphi : Int
  kskip : Nat
  kb0 : Int
  kb1 : Int
  kb2 : Int
  ka1 : Int
  ka2 : Int
  ksh : Nat
  misimep : Int
  deriving DecidableEq, Repr

/-- Channel record of the QCCF section (R161). -/
structure QcRec where
  acq : QcAcq
  comp : QcComp
  deriving DecidableEq, Repr

/-- The QCCF section (R161): the records and the two volume tables. -/
structure QccfSec where
  chans : List QcRec
  vtab : List (List Nat)
  deriving DecidableEq, Repr

/-- Channel record of the XCCF section (R180). -/
structure XcRec where
  drven : Bool
  mode : Nat
  demn : Nat
  freq : Nat
  amp : Nat
  phofs : Nat
  ilim : Nat
  imin : Nat
  rref : Nat
  lo : Int
  hi : Int
  qmax : Nat
  deriving DecidableEq, Repr

/-- Input record of the LPCF section (R209). -/
structure LiRec where
  mode : Nat
  supen : Bool
  tli : Nat
  hart : Nat
  td : Nat
  tstart : Nat
  retry : Nat
  pcmd : Nat
  pream : Nat
  pper : Nat
  hstale : Nat
  hexp : List Int
  hostcopy : Bool
  burst : Bool
  long : Bool
  uid : List Byte
  deriving DecidableEq, Repr

/-- Output record of the LPCF section (R209). -/
structure LoRec where
  oen : Bool
  almlvl : Nat
  safe : Nat
  trksrc : Nat
  almsrc : Nat
  trklo : Int
  trkhi : Int
  hset : Nat
  deriving DecidableEq, Repr

/-- Input record of the DIOC section (R223). -/
structure DiRec where
  mode : Nat
  deb : Nat
  inv : Bool
  deriving DecidableEq, Repr

/-- Output record of the DIOC section (R223). -/
structure DoRec where
  oen : Bool
  safe : Nat
  srck : Nat
  pten : Bool
  inv : Bool
  src : Nat
  ptw : Nat
  fbt : Nat
  deriving DecidableEq, Repr

/-- The DIOC section (R223). -/
structure DiocSec where
  ptper : Nat
  inputs : List DiRec
  outputs : List DoRec
  deriving DecidableEq, Repr

/-- Check record of kind k, 0 to 8 (the SF record has LIM, HYS and DB 0) (R249). -/
structure CheckRec where
  en : Bool
  cls : Nat
  lim : Int
  hys : Int
  db : Int
  ondly : Nat
  offdly : Nat
  deriving DecidableEq, Repr

/-- A suppression word SUP0 or SUP1 (R236, R249). -/
structure SupRec where
  kind : Nat
  pol : Bool
  ref : Nat
  deriving DecidableEq, Repr

/-- Point record of the LATP section (R249). `checks` holds kinds 0 to 8. -/
structure PointRec where
  srck : Nat
  scale : Nat
  srci : Nat
  srcf : Nat
  devset : Nat
  rwin : Nat
  noinh : Bool
  excl : Bool
  hplog : Bool
  mul : Int
  ofs : Int
  sup0 : SupRec
  sup1 : SupRec
  supmask : BitVec 9
  fltlim : BitVec 8
  omask : BitVec 9
  hptmo : Nat
  ident : Word
  checks : List CheckRec
  deriving DecidableEq, Repr

/-- Deviation set of the LATP section (R233, R249). -/
structure DevSet where
  minn : Nat
  members : List Nat
  deriving DecidableEq, Repr

/-- The LATP section (R249). -/
structure LatpSec where
  points : List PointRec
  tabs : List (List (Int × Int))
  devsets : List DevSet
  deriving DecidableEq, Repr

/-- Input word of a node or timer cell (R254). -/
structure InWord where
  ikind : Nat
  attr : Nat
  inv : Bool
  index : Nat
  deriving DecidableEq, Repr

/-- Node record of the LATG section (R276). -/
structure NodeRec where
  func : Nat
  level : Nat
  nin : Nat
  k : Nat
  first : Nat
  failb : Bool
  failv : Int
  ident : Word
  deriving DecidableEq, Repr

/-- The LATG section (R276). -/
structure LatgSec where
  nodes : List NodeRec
  inputs : List InWord
  deriving DecidableEq, Repr

/-- Timer record of the LATT section (R277). -/
structure TimerRec where
  kind : Nat
  pt : Nat
  inw : InWord
  rst : InWord
  ident : Word
  deriving DecidableEq, Repr

/-- Engineer record of the BELF section (R278). -/
structure EngRec where
  cabin : Nat
  present : Bool
  deriving DecidableEq, Repr

/-- Station record of the BELF section (R278). -/
structure StationRec where
  ackdi : Nat
  clsmask : BitVec 4
  chmask : BitVec 16
  force : Nat
  ranges : List (Nat × Nat)
  deriving DecidableEq, Repr

/-- One stage of a chain record (R278). -/
structure StageRec where
  stmask : BitVec 8
  present : Bool
  alleng : Bool
  duty : Bool
  tmo : Nat
  deriving DecidableEq, Repr

/-- Chain record of the BELF section (R278). -/
structure ChainRec where
  trig : Nat
  cls : Nat
  cumul : Bool
  retrig : Bool
  rearm : Nat
  stages : List StageRec
  deriving DecidableEq, Repr

/-- The BELF section (R278). -/
structure BelfSec where
  neng : Nat
  dutysel : Nat
  defduty : Nat
  swdi : Nat
  wchain : Nat
  wcls : Nat
  wtime : Nat
  wpre : Nat
  wdi : List Nat
  wondi : Nat
  engineers : List EngRec
  schedule : List (Nat × Nat)
  stations : List StationRec
  chains : List ChainRec
  deriving DecidableEq, Repr

/-- Channel record of the CANM section (R343). -/
structure CanChan where
  en : Bool
  fden : Bool
  txord : Nat
  triple : Bool
  nbt : Word
  dbt : Word
  tdc : Word
  hbid : Word
  wakemode : Nat
  wdlen : Nat
  wakeid : Word
  wakemask : Word
  wakedata : List Byte
  deriving DecidableEq, Repr

/-- A field of a transmit entry (R343). -/
structure TxField where
  fkind : Nat
  off : Nat
  bit : Nat
  width : Nat
  obj : Nat
  deriving DecidableEq, Repr

/-- Transmit entry of the CANM section (R343). -/
structure TxRec where
  cls : Nat
  chmask : BitVec 4
  stream : Nat
  mac : Bool
  fd : Bool
  brs : Bool
  id : Word
  len : Nat
  trig : Nat
  per : Nat
  fields : List TxField
  deriving DecidableEq, Repr

/-- Receive entry of the CANM section (R343). -/
structure RxRec where
  command : Bool
  chmask : BitVec 4
  sender : Nat
  stream : Nat
  id : Word
  idmask : Word
  seq : Bool
  mac : Bool
  sgn : Bool
  be : Bool
  offset : Nat
  width : Nat
  point : Nat
  stalet : Nat
  deriving DecidableEq, Repr

/-- The CANM section (R343). -/
structure CanmSec where
  sender : Nat
  hbmask : BitVec 4
  agelim : Nat
  buspair : BitVec 2
  chans : List CanChan
  tx : List TxRec
  rx : List RxRec
  deriving DecidableEq, Repr

/-- One stored waveform of the PANL section (R465). -/
structure WaveRec where
  nfr : Nat
  ovf : Nat
  ova : Nat
  frames : List Byte
  deriving DecidableEq, Repr

/-- Element record of the PANL section (R465). -/
structure ElemRec where
  ckind : Nat
  kindSig : Nat
  index : Nat
  map : BitVec 16
  level : Nat
  deriving DecidableEq, Repr

/-- The PANL section (R465). `regions` pairs a region's elements with NOTIFY. -/
structure PanlSec where
  pwren : Bool
  polmode : Nat
  frame : Nat
  nreg : Nat
  defband : Nat
  crkstop : Bool
  crkr : Nat
  unkold : List Nat
  bth : List Nat
  vset : List Nat
  waves : List WaveRec
  regions : List (List Nat × Bool)
  elems : List ElemRec
  deriving DecidableEq, Repr

/-- The JRNL section (R311). -/
structure JrnlSec where
  agelim : Nat
  holdlim : Nat
  warnfree : Nat
  deriving DecidableEq, Repr

/-- The PAIR section (R382). -/
structure PairSec where
  mode : Nat
  xpers : Nat
  mirlim : Nat
  rejlim : Nat
  xact : BitVec 8
  toltc : Nat
  tolv : Nat
  tolbr : Nat
  tolxc : Nat
  tolli : Nat
  tollo : Nat
  tolpb : Nat
  tolspd : Nat
  deriving DecidableEq, Repr

/-- The WTCH section (R401). -/
structure WtchSec where
  react : Nat
  rstlim : Nat
  rstdly : Nat
  safemask : BitVec 3
  hltper : Nat
  tempwarn : Nat
  deriving DecidableEq, Repr

/-- Slot record of the OWNR section (R427). -/
structure OwnRec where
  action : Nat
  key : List Byte
  deriving DecidableEq, Repr

/-- Host key record of the KEYS section (R428). -/
structure HostKey where
  perm : BitVec 5
  en : Bool
  key : List Byte
  deriving DecidableEq, Repr

/-- The KEYS section (R428). -/
structure KeysSec where
  epoch : Nat
  oldepoch : Nat
  oldturns : Nat
  fs : List Byte
  oldfs : List Byte
  hostkeys : List HostKey
  deriving DecidableEq, Repr

/-- What the envelope header says of the image (R409). -/
structure ImageHead where
  version : Nat
  imgid : List Byte
  sigslot : Nat
  enrol : Bool
  hash : List Byte
  deriving DecidableEq, Repr

/-- A decoded image (R410): the sections that every subsystem reads. -/
structure Image where
  head : ImageHead
  phsb : PhsbSec
  schd : List SchedEntry
  uicf : UicfSec
  qccf : QccfSec
  xccf : List XcRec
  loopIn : List LiRec
  loopOut : List LoRec
  dioc : DiocSec
  latp : LatpSec
  latg : LatgSec
  latt : List TimerRec
  belf : BelfSec
  canm : CanmSec
  panl : PanlSec
  jrnl : JrnlSec
  pair : PairSec
  wtch : WtchSec
  ownr : List OwnRec
  keys : KeysSec
  deriving DecidableEq, Repr

/-- No image: every section empty, every count 0 (log entry 1). -/
def Image.empty : Image :=
  { head := ⟨0, [], 0, false, []⟩, phsb := ⟨0, 0, [], []⟩, schd := [], uicf := ⟨[], [], [], [], []⟩
    qccf := ⟨[], []⟩, xccf := [], loopIn := [], loopOut := [], dioc := ⟨0, [], []⟩, latp := ⟨[], [], []⟩
    latg := ⟨[], []⟩, latt := [], belf := ⟨0, 0, 0xFF, 0, 0xFF, 0, 0, 0, [], 0xFF, [], [], [], []⟩
    canm := ⟨0, 0, 0, 0, [], [], []⟩, panl := ⟨false, 0, 0, 0, 0, false, 0, [], [], [], [], [], []⟩
    jrnl := ⟨0, 0, 0⟩, pair := ⟨0, 0, 0, 0, 0, 0, 0, 0, 0, 0, 0, 0, 0⟩, wtch := ⟨0, 0, 0, 0, 0, 0⟩
    ownr := [], keys := ⟨0, 0, 0, [], [], []⟩ }

end Sys2Proof.Machine
end

