-- ==== Sys2Proof/Machine/State.lean ====
section
/-!
DEFINITION. The machine's state as plain data: the register file, the queues, and for every
subsystem what its registers do not show; the outcomes' reasons; the state after reset.
-/
namespace Sys2Proof.Machine

/-- The key gate (R47, R48): the session that opened it and the CK_SYS cycle of its opening. -/
structure KeyGate where
  opener : Nat
  since : Nat
  deriving DecidableEq, Repr

/-- Where the turn in hand stands (R14, R27, R368): evaluating beyond 64 µs, committing, waiting for the
peer's acknowledgement (or, in a standby, for the active's entries), completed, an overrun turn, or a
castling turn. -/
inductive Phase where
  | evaluating
  | committing
  | waiting
  | completed
  | overrun
  | castling
  deriving DecidableEq, Repr

/-- The turn in hand: its input image, next-state buffer, what evaluation gathered, the commands it
latched, whether it is held (R297), what its commit takes and forms, the output digest (R361), its
durations in µs. -/
structure TurnRun where
  phase : Phase
  inp : InImage
  next : EvalState
  acc : Acc
  cmds : Nat
  held : Bool
  take : Take
  formed : List LEntry
  digest : List Byte
  evalUs : Nat
  commitUs : Nat
  /-- The peer's acknowledgement has come (R21). -/
  acked : Bool
  emitted : Bool
  /-- The state, the view and H + 1 before its completion, for a standby whose acknowledgement came too
  late (R27, R360). -/
  last : EvalState
  lastView : EmitView
  head : Nat
  deriving DecidableEq, Repr

/-- The turn engine (chapter 01). -/
structure Turn where
  number : Nat
  /-- CK_SYS cycle of the last turn start: PB0 counts from it (R69). -/
  since : Nat
  cur : EvalState
  run : Option TurnRun
  /-- The turn before, when it completed: a standby may have to take it back (R27, R360). -/
  prev : Option TurnRun
  view : EmitView
  /-- Entries accepted by the turn in hand whose placements wait for the emit. -/
  toEmit : List LEntry
  places : List Place
  arrived : List OpCmd
  overruns : Nat
  clrMax : Bool
  starts : Bool
  /-- Consecutive 100 µs windows outside the limit, per domain (R37). -/
  clkRuns : List Nat
  /-- Flags of a swap that wait for the emit of a completed turn: register and bit (R248, R275, R280). -/
  swapFlags : List (Nat × Nat)
  /-- Host points that a swap took back, until the next emit shows them as never written (R41, R228). -/
  hpGone : List Nat
  deriving DecidableEq, Repr

/-- The flush seal of the control area (R295), with the transmit marks and stream counters of R337; `head` is
H + 1. -/
structure Seal where
  head : Nat
  chain : List Byte
  turn : Nat
  marks : List Nat
  streams : List (Nat × Nat)
  deriving DecidableEq, Repr

/-- The replay table of a session (R299): command IDs with their results, newest first. -/
structure Replay where
  ids : List (Nat × Nat)
  deriving DecidableEq, Repr

/-- The journal (chapter 11). `next` is H + 1. -/
structure Journal where
  next : Nat
  wmark : Nat
  chain : List Byte
  /-- Q32 to Q39. -/
  ing : List (List Entry)
  /-- Entries that wait for a free slot of the pool (R297), in order of arising. -/
  outside : List Entry
  wbuf : List LEntry
  ledger : List LEntry
  /-- Lowest SEQ not yet placed in Q48 (R302). -/
  exported : Nat
  sealed : Option Seal
  /-- Replay tables by session number, as of the write buffer. -/
  replay : List Replay
  /-- Ordinary entries since the last checkpointed segment's end. -/
  segment : Nat
  /-- First SEQ of the segment in hand. -/
  segStart : Nat
  /-- Completed segments that wait for the vault's signature: first and last SEQ. -/
  unsigned : List (Nat × Nat)
  /-- Signed segments whose checkpoints wait for the next commit. -/
  signed : List (Nat × Nat)
  lastCkpt : Nat
  ckpts : Nat
  wthru : Bool
  heldRun : Nat
  heldFirst : Nat
  genesis : Bool
  low : Bool
  reserve : Bool
  full : Bool
  /-- H + 1, W and the last CKPTS as the registers show them since the last emit (R41). -/
  shownH : Nat
  shownW : Nat
  shownC : Nat
  /-- What the next emit shows (R41): flags of JRN_STAT with their events, refusals, held turns. -/
  flagsDue : List (Nat × Nat)
  refusedDue : Nat
  heldDue : Nat
  /-- The entries of the last commit (R42). -/
  lastN : Nat
  deriving DecidableEq, Repr

/-- A session of the host port (R474 to R476). -/
structure Session where
  isOpen : Bool
  key : Nat
  perm : Nat
  ctrIn : Nat
  ctrOut : Nat
  sk : List Byte
  deriving DecidableEq, Repr

/-- An OPEN1 whose OPEN2 is awaited (R475). -/
structure Opening where
  sess : Nat
  key : Nat
  nh : List Byte
  nd : List Byte
  deriving DecidableEq, Repr

/-- The host port (chapter 18): sessions 0 to 7 and, as number 8, the unauthenticated one; the
last response frame; the vault's command results, and the WRITEPT commands that returned OK, per session. -/
structure HostPort where
  sessions : List Session
  opening : Option Opening
  resp : List Byte
  vaultRes : List (Nat × Nat × Nat)
  written : List (Nat × Nat)
  /-- CK_SYS instants of failed openings (R420). -/
  fails : List Nat
  /-- The cycle in which LOCK last set (R420). -/
  lockAt : Nat
  /-- HST_EVTCFG has been written since the reset: until then the event pins are low (R59). -/
  evtOn : Bool
  /-- QUAD of the last transaction's byte 0: four data lines (R468). -/
  quad : Bool
  deriving DecidableEq, Repr

/-- An owner-key slot (R407): 0 EMPTY, 1 ACTIVE, 2 REVOKED. -/
structure OwnSlot where
  state : Nat
  key : List Byte
  deriving DecidableEq, Repr

/-- A slot of the ledger that holds an envelope (R39, R414): its bytes in canonical form, the
written ranges, and the decoded image once verified. -/
structure ImgSlot where
  mem : List (Nat × Byte)
  written : List (Nat × Nat)
  ok : Option Image
  deriving DecidableEq, Repr

/-- The vault (chapter 15). -/
structure Vault where
  slots : List OwnSlot
  revoked : List (List Byte)
  images : List ImgSlot
  counter : Nat
  bootnext : Bool
  /-- The write of SWAP that waits for its latch, and the swap turn (R415). -/
  swapReq : Bool
  swapTurn : Option Nat
  swapOk : Bool
  nonce : List Byte
  /-- The turns for which OLDFS counts, 0 once it is erased, and the first of them (R419). -/
  oldTurns : Nat
  oldFrom : Nat
  /-- The image slot whose envelope goes to the peer, and the next byte to send (R414, R422). -/
  forward : Option (Nat × Nat)
  ownclrWay : Option Nat
  erasing : Bool
  decomm : Option Nat
  /-- The slot that was active before the last swap, until its IMGSWAP entry is known to be accepted (R416). -/
  swapFrom : Option Nat
  /-- LIFE before OWNCLR, and the cycle of its entry (R424). -/
  lifeWas : Nat
  ownclrAt : Nat
  deriving DecidableEq, Repr

/-- The queues (R63 to R67): Q0 to Q63 (Q32 to Q39 stand in the journal), the promoted queues,
and the engine's variables of R66. `counts` are the events whose present pending bit has written a record to Q49,
the one whose count rises (R58). -/
structure Queues where
  q : List (List QElem)
  counts : List Nat
  promo : List Nat
  rrGrp : Nat
  credit : List Nat
  rrQ : List Nat
  deriving DecidableEq, Repr

/-- An external phase base (R75 to R86). `acc` is the count in 20.12 fixed point; `ph` is the true
phase while a held count waits for it (R83). -/
structure Base where
  state : Nat
  acc : Nat
  ph : Nat
  hold : Bool
  limit : Nat
  incr : Nat
  tLast : Nat
  tPrev : Nat
  edges : Nat
  slot : Nat
  cyc : Nat
  /-- Slots counted since the last reference, and the references seen in a row. -/
  cnt : Nat
  refs : Nat
  /-- The last slot periods, newest first (R77). -/
  periods : List Nat
  errs : Nat
  /-- The second revolution of a two-revolution cycle. -/
  rev : Bool
  /-- Consecutive cycles with a cam reference in the wrong half, and whether the present cycle had one. -/
  camWrong : Nat
  camBad : Bool
  camMiss : Nat
  camSeen : Bool
  index : Bool
  /-- Angle entries run, or fallback entries run (R86). -/
  angleOn : Bool
  fallback : Bool
  /-- The base has left SYNC since it last reached it (R152). -/
  lost : Bool
  /-- The count up to which the entries, and up to which the grid points, have been looked at (R90, R93). -/
  seen : Nat
  gseen : Nat
  deriving DecidableEq, Repr

/-- A schedule entry that is due and waits for its dispatch (R91): the base it runs on, whether it is a fallback
run or flagged late, the CK_SYS cycle in which it fell due, and whether its wait has set DISPQ. -/
structure Due where
  base : Nat
  entry : SchedEntry
  fb : Bool
  late : Bool
  since : Nat
  marked : Bool
  deriving DecidableEq, Repr

/-- The phase bases PB1 to PB3, the stamps of the last accepted edge per input (R72), and the schedule engine
(R88 to R92). -/
structure Phases where
  bases : List Base
  lastEdge : List (Option Nat)
  /-- The last peak of each VR input, in mV (R71). -/
  lastPeak : List Nat
  /-- The active's base states and counts, as the last mirror brought them (R94). -/
  mirror : List (Nat × Nat)
  /-- The entries that are due, in the order in which they fell due. -/
  due : List Due
  /-- Entries dispatched in the present CK_ANG cycle, by base. -/
  sent : List Nat
  /-- The first PB0 count that this turn has not looked at yet; 2^20 before the first turn start. -/
  pb0Next : Nat
  deriving DecidableEq, Repr

/-- The computed results of a charge cycle that wait for the test sequence (R147, R150), or an
INVALID cycle's cause. -/
structure QHeld where
  status : Nat
  cause : Nat
  n : Nat
  r10 : Nat
  range : Nat
  a0 : Int
  off : Int
  res : List Int
  misfire : Bool
  na : Bool
  pegfb : Bool
  ovld : Bool
  tick : Nat
  slot : Option Nat
  deriving DecidableEq, Repr

/-- A cycle record (R137 to R142): the codes with their KNOCK gate, newest first, the grid index of
the first, the last ring position filled, the first cause to arise, and the resolution. -/
structure QCycle where
  codes : List (Int × Bool)
  count : Nat
  g0 : Nat
  lastj : Nat
  pos : Nat
  /-- Grid points that jumps passed before the first code (R141). -/
  lead : Nat
  /-- The points of a cycle that the feed brings, newest first, with the KNOCK gate when each fell due (R150, R157). -/
  points : List (Nat × Bool)
  cause : Nat
  r10 : Nat
  coarse : Bool
  noSamp : Bool
  ovld : Bool
  inRange : Bool
  pref : Int
  pegfb : Bool
  tick : Nat
  /-- A RANGE entry came before the end of the computation. -/
  missed : Bool
  /-- The closing feed element has come (standby), or has been sent. -/
  closed : Bool
  opened : Bool
  slot : Nat
  range : Nat
  deriving DecidableEq, Repr

/-- A running test sequence (R145): the CK_SYS cycle of its start, and its QUIET window; none for a
fallback run (R152). -/
structure QTest where
  since : Nat
  window : Option Nat
  deriving DecidableEq, Repr

/-- An element of the raw acquisition feed in the making (R359): the codes with their overload
bits, newest first, the grid index of the first and of the last code, the start, and OPEN. -/
structure QFeed where
  codes : List (Int × Bool)
  first : Nat
  last : Nat
  since : Nat
  opens : Bool
  late : Bool
  deriving DecidableEq, Repr

/-- A point that is converted or waits (R140): its grid index, a mark when it belongs to the cycle that has ended, and
the KNOCK gate when it fell due (R150). -/
structure QPoint where
  j : Nat
  old : Bool
  kn : Bool
  deriving DecidableEq, Repr

/-- A charge channel (chapter 05). -/
structure QChan where
  /-- Open windows, one bit each. -/
  win : Nat
  /-- The input switch closed (R134). -/
  inSw : Bool
  /-- A range change holds the reset switch (R143). -/
  ranging : Bool
  /-- The point in conversion and the waiting points, in grid order (R140). -/
  conv : Option QPoint
  wait : List QPoint
  /-- The resolution chosen by the last RANGE entry (R139): r10, COARSE, no sampling. -/
  selR : Nat
  selCoarse : Bool
  selNone : Bool
  cyc : QCycle
  /-- The cycle in computation (R147), and the held results. -/
  comp : Option QCycle
  held : Option QHeld
  test : Option QTest
  /-- A release took place in the open QUIET window (R146). -/
  quietRel : Bool
  lastMiss : Bool
  inv : Nat
  small : Nat
  slot : Nat
  cycles : Nat
  feed : Option QFeed
  feedSeq : Nat
  /-- The element number that the feed brings next; none before its first element (R157). -/
  feedIn : Option Nat
  /-- PREF of the last CYCLE (R151), PREF from the mirror, and the outcome of the standby's own test (R157). -/
  pref : Int
  mirPref : Int
  selfBad : Bool
  /-- The outcome of the last test sequence, and its cycle (R369, R396). -/
  lastOut : Nat
  testAt : Option Nat
  /-- The last test sequence failed (R147). -/
  testBad : Bool
  /-- A change of the token found the ACQ window open: no sample until it opens again (R158). -/
  blocked : Bool
  /-- A RANGE entry has opened the channel's first cycle (R87, R159). -/
  started : Bool
  /-- A release has come since the last latch that took one (R149). -/
  released : Bool
  /-- The status and result words that a latch has taken and no completed turn has consumed (R17). -/
  offer : Option (Nat × List Word)
  deriving DecidableEq, Repr

/-- The charge channels, with their states, and the waveform ring and its descriptors (R155). -/
structure Charge where
  chans : List QChan
  ring : List (Nat × Byte)
  desc : List (Nat × Byte)
  deriving DecidableEq, Repr

/-- A scanning converter's step (R104 to R107). `phase`: 0 idle, 1 switch or settling, 2 waiting for
SAMPLE, 3 main conversion, 4 lead conversion, 5 post-check. -/
structure UScan where
  phase : Nat
  step : Nat
  /-- The FREE list runs. -/
  running : Bool
  /-- A SAMPLE came in the settling delay (R107). -/
  sampled : Bool
  /-- The step is to be discarded (R120). -/
  drop : Bool
  diag : Bool
  code : Int
  lcode : Int
  /-- The last REFCHK failed (R121). -/
  refBad : Bool
  /-- The CK_SYS cycle of the step's multiplexer switch (R104). -/
  since : Nat
  deriving DecidableEq, Repr

/-- A universal-input channel: the CK_SYS cycle of the last release with a value, whether a value has
been released since the image applied (R116), a clamp since the last release (R117), and a clamp that conducted while
the digital die did not run, which its flag and event wait to show (R100). -/
structure UChan where
  relClk : Option Nat
  hasVal : Bool
  clamp : Bool
  clampDue : Bool
  deriving DecidableEq, Repr

/-- The universal inputs (chapter 04): converters, excitation voltages with the cycle of their last
switching (R112), channels, and whether each CJ input has released a value. -/
structure Universal where
  scans : List UScan
  exvOn : List Bool
  exvSince : List (Option Nat)
  chans : List UChan
  cjVal : List Bool
  /-- The input switches have closed once an image has applied (R101). -/
  connected : Bool
  /-- The AMON outputs that a reset leaves driving until the next image applies (R126, R128). -/
  amonKept : List Bool
  /-- The standing conditions of EXVFLT, IEXFLT and CJFLT, by EXVn, group and CJ input (R50, R132). -/
  exvBad : List Bool
  iexBad : List Bool
  cjBad : List Bool
  /-- The CK_SYS cycle of each converter's last REFCHK, for the watchtower's coverage (R121, R396). -/
  refAt : List (Option Nat)
  deriving DecidableEq, Repr

/-- An excitation channel (chapter 06): the phase accumulator, the ramp level in eighths, the sums of
the demodulation period in hand (SI and SQ of A, B and V, samples, drive periods, whether a period
failed), the checks failed in the last period and those declared, the lock of a standby with its
runs, and the TRIM that the mirror brought. -/
structure XChan where
  acc : Nat
  ramp : Nat
  sums : List Int
  n : Nat
  periods : Nat
  bad : Bool
  lastFail : Nat
  declared : Nat
  locked : Bool
  goodRun : Nat
  badRun : Nat
  mirTrim : Option Nat
  /-- The TRIM that the last release was measured with (R179). -/
  relTrim : Nat
  /-- The first wrap after ON has passed (R168). -/
  began : Bool
  /-- The stage was disconnected at the loss of the token, until OFF (R166). -/
  cut : Bool
  /-- A swap changes the record: TRANSIT until the new start (R178). -/
  swap : Bool
  /-- A sensor fault was released and no value since (R182); the sense clip stands (R50). -/
  faulted : Bool
  clip : Bool
  /-- The AMON path's own demodulator sees at least half the set amplitude (R176). -/
  path : Bool
  deriving DecidableEq, Repr

/-- A HART transaction (R197, R200): its Q(16 + n) element, the host command, the attempts made,
whether it only waits for a response to a request that was sent before (R201), the request frame on the loop
(R196), and RETRY and HOSTCOPY of the record under which it began (R208). -/
structure HartTx where
  elem : List Byte
  ref : Option HostRef
  tries : Nat
  waitOnly : Bool
  request : List Byte
  retry : Nat
  copy : Bool
  deriving DecidableEq, Repr

/-- The HART side of a loop input (R196 to R201): the transaction that runs, those of a token gain that wait for
their responses beside it, the host transactions accepted and not completed, and the frames seen on the loop since,
each with its check's verdict. -/
structure Hart where
  run : Option HartTx
  waits : List HartTx
  opened : List (List Byte × HostRef)
  seen : List (List Byte × Bool)
  updated : Bool
  stale : Bool
  deriving DecidableEq, Repr

/-- A loop input (R185 to R195): runs of conversions in FLO, FHI and of MISMATCH, conversions since the
last TRANSIT release, the TSTART wait, the band of the last conversion (0 FLO, 1 SLO, 2 NORM, 3 SHI,
4 FHI, 5 none), the clamp since the last release, a sensor fault released since the last value (R211), the cycle of
the last release with a value, the damping's reload, and the active's supply values of the last mirror, with
whether its supply was ON. -/
structure LoopIn where
  lo : Nat
  hi : Nat
  mis : Nat
  sinceTr : Nat
  tstart : Bool
  band : Nat
  clamp : Bool
  faulted : Bool
  relClk : Option Nat
  reload : Bool
  mirIsup : Int
  mirLim : Nat
  mirOn : Bool
  hart : Hart
  deriving DecidableEq, Repr

/-- A loop output (R202 to R206): the selection, its setpoint, the cycle since when it has stood, the cycle of
the last token gain, and the selection and setpoint of the last mirror. -/
structure LoopOut where
  sel : Nat
  sp : Nat
  since : Nat
  gain : Option Nat
  mir : Option (Nat × Nat)
  deriving DecidableEq, Repr

/-- The loops (chapter 07). -/
structure Loops where
  ins : List LoopIn
  outs : List LoopOut
  running : Bool
  deriving DecidableEq, Repr

/-- A contact input (R213, R214): the state that its last sample in a state band showed, the state accepted, the
state that the run of samples shows and the run's length; the line band of the last sample (1 OPEN, 2 SHORT, 0 none)
and the run of samples in it; the line faults and the clamp that stand. -/
structure DiChan where
  shown : Bool
  seen : Bool
  accepted : Option Bool
  cand : Bool
  count : Nat
  line : Nat
  run : Nat
  opened : Bool
  shorted : Bool
  clamp : Bool
  deriving DecidableEq, Repr

/-- The contacts and actuated outputs (chapter 08): clamp conducting per input, the inputs, whether the sources are
connected and the cycle of their last change with the token (R212); for the outputs the computed levels, the records
in use since the emit or the mirror that first set the levels (R222), the pulse tests (0 none, 1 in the pulse, 2 after
it, 3 cut by an emit), the de-energised readback seen, failed tests, the turn of the last pulse and the cycle of each
output's, the cycle to which the readback check is suspended, the
readback mismatches, and the lattice levels that the safe state withholds (R394). -/
structure Contacts where
  clampOn : Nat
  ins : List DiChan
  source : Bool
  changed : Option Nat
  want : Nat
  recs : Option (List DoRec)
  ptPhase : List Nat
  ptLow : Nat
  ptFail : Nat
  ptTurn : Option Nat
  ptLast : List (Option Nat)
  /-- The cycle from which each output has stood energised, and that of its last passed pulse test (R396). -/
  onSince : List (Option Nat)
  ptPass : List (Option Nat)
  fbHold : List Nat
  mismatch : Nat
  withheld : List (Option Bool)
  withheldSet : List (Option Nat)
  connected : Bool
  deriving DecidableEq, Repr

/-- A frame in a transmit buffer (R322 to R324): the queue it came from (0 for Q(4 + 3n), 1, 2), its
element, the state 1 WAITING, 2 ARBITRATING, 3 WON, the attempts, and the cancel marks. -/
structure TxBuf where
  src : Nat
  elem : QElem
  state : Nat
  attempts : Nat
  cancel : Bool
  tooLate : Bool
  /-- The timestamp of the cancel. -/
  stamp : Nat
  deriving DecidableEq, Repr

/-- A sequenced frame held as backlog (R336): its queue, its SEQ, and RESEND and RESYNC to set. -/
structure Backlog where
  queue : Nat
  seq : Nat
  resend : Bool
  resync : Bool
  deriving DecidableEq, Repr

/-- The state of a sender and stream (R331). -/
structure DupState where
  sender : Nat
  stream : Nat
  hs : Nat
  win : Nat
  deriving DecidableEq, Repr

/-- A remote point (R334): value, quality, the stamp and channel of the last update, an update that
waits for its latch, one latched by a turn that has not completed (R17), the turn that latched the last one, and
whether it is stale. -/
structure RemotePt where
  point : Nat
  value : Int
  q : Nat
  stamp : Nat
  ch : Nat
  fresh : Bool
  held : Bool
  latched : Nat
  stale : Bool
  deriving DecidableEq, Repr

/-- A CAN channel (chapter 12): integration, the transmit buffers, the ring count, the SEQs of the
FRAME entries that have not completed on it, the backlog, and the frames that a standby has formed and
not yet matched, with their queue. -/
structure CanCh where
  integrated : Bool
  bufs : List (Option TxBuf)
  ring : Nat
  owed : List Nat
  backlog : List Backlog
  awaited : List (Nat × QElem)
  /-- The buffers that have stood first in the order of the bus since the last attempt ended: one of them is in the
  attempt (R322). -/
  firsts : List Nat
  deriving DecidableEq, Repr

/-- The message bus (chapter 12): the channels, duplicate states, remote points, and the command frames
received lately, with their turn and channel (R338). -/
structure Can where
  chans : List CanCh
  dups : List DupState
  remote : List RemotePt
  recent : List (Nat × Nat × Frame)
  /-- CK_SYS cycle of the last digital reset, from which the timestamp counters count (R342). -/
  since : Nat
  deriving DecidableEq, Repr

/-- The pair manager (chapter 13). `castle`: 0 none, 1 and 2 the castling turns n and n + 1, 3 a standby
that takes the token by the outcome of R370; `cause` the miscompare of the castling, `found` the one that
waits for the next commit; check results of R369 as pass and run masks. -/
structure Pair where
  castle : Nat
  turnN : Nat
  cause : Nat
  found : Nat
  ownRes : Option (Nat × Nat)
  peerRes : Option (Nat × Nat)
  /-- A planned castling: its cause, and the turn m once it has completed. -/
  planned : Option Nat
  plannedTurn : Option Nat
  /-- EJECT_N asserted during castling (R374). -/
  ejectWaits : Bool
  /-- The turn whose mirror is under way to the peer (R26). -/
  mirOut : Option Nat
  /-- The link was lost in the turn in hand (R27). -/
  lostNow : Bool
  /-- Outstanding blocks: queue, sequence, bytes (R355), and the sequences that go out and come in next. -/
  blocks : List (Nat × Nat × List Byte)
  txSeq : Nat
  rxSeq : Nat
  /-- Turns since the peer's last health report, and that report. -/
  healthAge : Nat
  health : List Byte
  /-- The turn of the last complete mirror, the last turn completed, and the run of incomplete mirrors
  (R363). -/
  mirTurn : Option Nat
  doneTurn : Option Nat
  mirMiss : Nat
  /-- Consecutive differences per shared channel (R366): kind, index, count. -/
  xruns : List (Nat × Nat × Nat)
  /-- Instants of failed rejoin attempts, the start of step 1, and whether the state has come (R380). -/
  rejFails : List Nat
  rejSince : Nat
  rejReady : Bool
  /-- The start-up claim is due (R379), since when, and the instant at which the link went down. -/
  claim : Bool
  claimAt : Nat
  downAt : Nat
  /-- The hash that the peer authenticated, when only IMGHASH differed (R422). -/
  wantHash : Option (List Byte)
  deriving DecidableEq, Repr

/-- The watchtower (chapter 14): instants of watchtower resets, the reset that is due, the last
completion of each latent test, the last byte 8 of the health report and
the turns since its last copy. -/
structure Tower where
  resets : List Nat
  resetAt : Option Nat
  latDone : List (Option Nat)
  lastByte8 : Nat
  sinceCopy : Nat
  /-- R387: overruns for want of an acknowledgement alone, and the others, since the last completed turn. -/
  lateOnly : Nat
  counted : Nat
  /-- The temperature stands at or above TEMPWARN (R50). -/
  hot : Bool
  /-- The instants of the first declaration, of the start-up, and of the last gain or loss of the token (R395, R397). -/
  declAt : Nat
  startAt : Nat
  heldAt : Nat
  /-- Corrected SRAM errors as the health report counts them (R398). -/
  sram : Nat
  deriving DecidableEq, Repr

/-- The dome (chapter 16): the count, the ticks since the last slew increment, TICK as last copied, the
pending SET value, the load of a standby's next latch, whether the crystal runs, and the cycle of the last
increment. -/
structure Dome where
  count : Nat
  phase : Nat
  lastTick : Nat
  setVal : Nat
  load : Option Nat
  runs : Bool
  lastInc : Nat
  /-- Cycles accumulated toward the next tick, in 1/390625. -/
  acc : Nat
  /-- Events that wait for the next power-up (R439). -/
  later : List Nat
  changed : Bool
  /-- Rising edges of CK_LF, modulo 64, and whether the slew's edge of the 64 has come (R438). -/
  edges : Nat
  slewDue : Bool
  deriving DecidableEq, Repr

/-- A running panel update (R457): the frame it began in, its length, the band, and each element with its new level, its
waveform's length, and its old level. -/
structure PanelRun where
  start : Nat
  len : Nat
  band : Nat
  elems : List (Nat × Nat × Nat × Nat)
  deriving DecidableEq, Repr

/-- The panel (chapter 17): content targets, levels written by the host, the TEST level of regions under
MAINT, running updates, the band that waits, whether a band has been measured, whether VLCD lies within
±2 % of the setpoint, the runs of the crack loop, and the redraw after a reset. -/
structure Panel where
  content : List Nat
  hostLev : List (Nat × Nat)
  test : List (Option Nat)
  runs : List (Option PanelRun)
  bandNext : Option Nat
  measured : Bool
  vlcdOk : Bool
  crackBad : Nat
  crackGood : Nat
  redraw : Bool
  deriving DecidableEq, Repr

/-- The power block (chapter 19). `boot`: 0 no power-good, 1 in reset, 2 starting up, 3 running, 4 asleep.
The warning's onset and cause, the enables it forced off (R494), whether a warning set before power-good
was lost, and the accepted sleep request. -/
structure Power where
  boot : Nat
  pfwAt : Option Nat
  pfwPres : Bool
  saved : List Nat
  warned : Bool
  sleepMask : Option Nat
  deriving DecidableEq, Repr

/-! The parts as a reset leaves them -/

/-- The queues after a reset (R66): every rr_q at the last queue of its group. -/
def Queues.empty : Queues := ⟨List.replicate 64 [], [], [], 0, List.replicate 8 0, [3, 15, 31, 39, 47, 55, 59, 63]⟩

/-- The journal of a device that has none yet. -/
def Journal.empty : Journal :=
  { next := 0, wmark := 0, chain := List.replicate 8 0, ing := List.replicate 8 [], outside := []
    wbuf := [], ledger := [], exported := 0, sealed := none, replay := List.replicate 8 ⟨[]⟩
    segment := 0, segStart := 0, unsigned := [], signed := [], lastCkpt := 0, ckpts := 0
    wthru := false, heldRun := 0, heldFirst := 0, genesis := false, low := false, reserve := false
    full := false, shownH := 0, shownW := 0, shownC := 0, flagsDue := [], refusedDue := 0, heldDue := 0
    lastN := 0 }

/-- A base after reset (R79). -/
def Base.empty : Base :=
  { state := 0, acc := 0, ph := 0, hold := false, limit := 0, incr := 0, tLast := 0, tPrev := 0, edges := 0, slot := 0
    cyc := 0, cnt := 0, refs := 0, periods := [], errs := 0, rev := false, camWrong := 0, camBad := false, camMiss := 0
    camSeen := false, index := false, angleOn := false, fallback := false, lost := false, seen := 0, gseen := 0 }

/-- A cycle record without samples. -/
def QCycle.empty : QCycle :=
  { codes := [], count := 0, g0 := 0, lastj := 0, pos := 0, lead := 0, points := [], cause := 0, r10 := 1
    coarse := false, noSamp := false, ovld := false, inRange := false, pref := 0, pegfb := false, tick := 0
    missed := false, closed := false, opened := false, slot := 0, range := 0 }

/-- A charge channel after reset (R159). -/
def QChan.empty : QChan :=
  { win := 0, inSw := false, ranging := false, conv := none, wait := [], selR := 1,
    selCoarse := false, selNone := false, cyc := QCycle.empty, comp := none, held := none,
    test := none, quietRel := false, lastMiss := false, inv := 0, small := 0, slot := 31,
    cycles := 0, feed := none, feedSeq := 0, feedIn := none, pref := 0, mirPref := 0, selfBad := false, lastOut := 0, testAt := none,
    testBad := false, blocked := false, started := false, released := false, offer := none }

/-- A converter after reset (R128). -/
def UScan.empty : UScan := ⟨0, 0, false, false, false, false, 0, 0, false, 0⟩

/-- A channel after reset (R128). -/
def UChan.empty : UChan := ⟨none, false, false, false⟩

/-- A channel after reset (R177). -/
def XChan.empty : XChan :=
  { acc := 0, ramp := 0, sums := [0, 0, 0, 0, 0, 0], n := 0, periods := 0, bad := false, lastFail := 0, declared := 0
    locked := false, goodRun := 0, badRun := 0, mirTrim := none, relTrim := 0, began := false, cut := false, swap := false
    faulted := false, clip := false, path := false }

/-- The HART side of a loop input after reset (R207). -/
def Hart.empty : Hart := ⟨none, [], [], [], false, false⟩

/-- A loop input after reset (R207). -/
def LoopIn.empty : LoopIn :=
  ⟨0, 0, 0, 0xFFFF, false, 5, false, false, none, true, 0, 0, false, Hart.empty⟩

/-- A loop output after reset: gate off (R207). -/
def LoopOut.empty : LoopOut := ⟨5, 0, 0, none, none⟩

/-- A contact input after reset (R222). -/
def DiChan.empty : DiChan := ⟨false, false, none, false, 0, 0, 0, false, false, false⟩

/-- The block after reset (R222). -/
def Contacts.empty : Contacts :=
  { clampOn := 0, ins := List.replicate 32 DiChan.empty, source := false, changed := none, want := 0, recs := none
    ptPhase := List.replicate 32 0, ptLow := 0, ptFail := 0, ptTurn := none, ptLast := List.replicate 32 none
    onSince := List.replicate 32 none, ptPass := List.replicate 32 none
    fbHold := List.replicate 32 0, mismatch := 0, withheld := List.replicate 32 none
    withheldSet := List.replicate 4 none, connected := false }

/-- A channel after a reset (R342). -/
def CanCh.empty : CanCh := ⟨false, [none, none, none], 0, [], [], [], []⟩

/-- The watchtower after a power-on reset. -/
def Tower.empty : Tower := ⟨[], none, List.replicate 12 none, 0, 0, 0, 0, false, 0, 0, 0, 0⟩

/-- The dome at first power-up (R431). -/
def Dome.empty : Dome := ⟨0, 0, 0, 0, none, true, 0, 0, [], false, 0, false⟩

/-- The panel after a reset (R462). -/
def Panel.empty : Panel :=
  ⟨List.replicate 768 0, [], List.replicate 16 none, List.replicate 16 none, none, false, true, 0, 0, true⟩

/-- The pair manager after a reset. -/
def Pair.empty : Pair :=
  { castle := 0, turnN := 0, cause := 0, found := 0, ownRes := none, peerRes := none, planned := none
    plannedTurn := none, ejectWaits := false, mirOut := none, lostNow := false, blocks := [], txSeq := 0, rxSeq := 0
    healthAge := 0, health := [], mirTurn := none, doneTurn := none, mirMiss := 0, xruns := [], rejFails := []
    rejSince := 0, rejReady := false, claim := false, claimAt := 0, downAt := 0, wantHash := none }

/-- The evaluation state without an image. -/
def EvalState.empty : EvalState :=
  { pts := [], devs := [], nodes := [], timers := [], hps := [], tx := [], streams := [], cmdsApplied := 0
    changes := 0, started := false
    bel := { duty := none, lastsrc := 0, present := [], swLast := none, swValid := false, lvalid := false, lL := 0
             hold := false, wst := 0, wc := 0, won := false, chains := [], diLast := [], acks := [], sig := 0
             forced := 0, nodutyChain := [], started := false } }

/-- The whole device but its queue of commands. -/
structure Dev where
  /-- CK_SYS cycles since the model's start. -/
  clk : Nat
  /-- The model's own counter for free values (log entry 6). -/
  free : Nat
  /-- The register file: address and word, addresses strictly rising, none at its reset word. -/
  regs : List (Nat × Word)
  /-- Pending write-buffered words by address, with the writing session (R43 to R46). -/
  wb : List (Nat × Word × Nat)
  gate : Option KeyGate
  /-- CK_SYS cycle at which each event pin's pulse ends (R59). -/
  pulse : List Nat
  queues : Queues
  image : Image
  turn : Turn
  jrn : Journal
  host : HostPort
  vault : Vault
  phs : Phases
  qch : Charge
  uin : Universal
  xch : List XChan
  lop : Loops
  dio : Contacts
  can : Can
  pair : Pair
  wtc : Tower
  dom : Dome
  pnl : Panel
  pwr : Power
  deriving DecidableEq, Repr

/-- The device as power-on leaves it (R6): every register at its reset word, queues empty, every subsystem as
its chapter states, the vault BLANK (R406; log entries 1 to 3). -/
def Dev.reset : Dev :=
  { clk := 0, free := 0, regs := [], wb := [], gate := none, pulse := [0, 0, 0, 0], queues := Queues.empty
    image := Image.empty
    turn := { number := 0, since := 0, cur := EvalState.empty, run := none, prev := none
              view := ⟨[], [], [], 0, none, [], 0, 0⟩, toEmit := [], places := [], arrived := [], overruns := 0
              clrMax := false, starts := false, clkRuns := List.replicate 11 0, swapFlags := [], hpGone := [] }
    jrn := Journal.empty
    host := { sessions := List.replicate 9 ⟨false, 0, 0, 0, 0, []⟩, opening := none, resp := [], vaultRes := []
              written := [], fails := [], lockAt := 0, evtOn := false, quad := false }
    vault := { slots := List.replicate 4 ⟨0, []⟩, revoked := [], images := List.replicate 2 ⟨[], [], none⟩
               counter := 0, bootnext := false, swapReq := false, swapTurn := none, swapOk := false
               nonce := List.replicate 32 0, oldTurns := 0, oldFrom := 0, forward := none, ownclrWay := none, erasing := false
               decomm := none, swapFrom := none, lifeWas := 0, ownclrAt := 0 }
    phs := { bases := List.replicate 3 Base.empty, lastEdge := List.replicate 6 none, lastPeak := List.replicate 6 0
             mirror := [], due := [], sent := [0, 0, 0, 0], pb0Next := 2 ^ 20 }
    qch := ⟨List.replicate 12 QChan.empty, [], []⟩
    uin := { scans := List.replicate 4 UScan.empty, exvOn := List.replicate 4 false
             exvSince := List.replicate 4 none, chans := List.replicate 48 UChan.empty
             cjVal := List.replicate 4 false, connected := false, amonKept := [], exvBad := List.replicate 4 false
             iexBad := List.replicate 12 false, cjBad := List.replicate 4 false, refAt := List.replicate 4 none }
    xch := List.replicate 8 XChan.empty
    lop := ⟨List.replicate 16 LoopIn.empty, List.replicate 4 LoopOut.empty, false⟩
    dio := Contacts.empty
    can := ⟨List.replicate 4 CanCh.empty, [], [], [], 0⟩
    pair := Pair.empty
    wtc := Tower.empty, dom := Dome.empty, pnl := Panel.empty
    pwr := { boot := 0, pfwAt := none, pfwPres := false, saved := [], warned := false, sleepMask := none } }

/-- The machine: the device, and the commands that wait, first in, first out. -/
structure State where
  dev : Dev
  pending : List Instr
  deriving DecidableEq, Repr

/-- The machine right after power-on: the device as power-on leaves it, no command waiting. -/
def State.reset : State := ⟨Dev.reset, []⟩

/-- Reasons for a fault. -/
inductive Fault where
  /-- Raised by no command: the spec lets no command stop the block. Safe: nothing is cut short. -/
  | neverRaised
  deriving DecidableEq, Repr

/-- Reasons for a refusal. -/
inductive Refusal where
  /-- Raised by an arm of `exec` whose command has no meaning yet. Safe: nothing is claimed of it. -/
  | notModelled (mnemonic : String)
  deriving DecidableEq, Repr

end Sys2Proof.Machine
end

