-- ==== Sys2Proof/Machine/Ops.lean ====
section
/-!
DEFINITION. The named operations over the register file, the addressed buffers, the queues and
the journal's ingress: every meaning changes the device through these.
-/
namespace Sys2Proof.Machine

/-- The value at an address of a list of cells; an unlisted address reads its default. -/
def cellGet {α : Type} (dflt : Nat → α) : List (Nat × α) → Nat → α
  | [], a => dflt a
  | (b, v) :: t, a => if a = b then v else if a < b then dflt a else cellGet dflt t a

/-- The cells with one written, in canonical form: addresses strictly rising, no cell at its default. On cells in
that form the filter drops nothing; it lets a read after a write give what was written whatever the cells. -/
def cellSet {α : Type} [DecidableEq α] (dflt : Nat → α) : List (Nat × α) → Nat → α → List (Nat × α)
  | [], a, w => if w = dflt a then [] else [(a, w)]
  | (b, v) :: t, a, w =>
    if a = b then (if w = dflt a then t.filter (fun x => decide (a < x.1)) else (a, w) :: t)
    else if a < b then (if w = dflt a then (b, v) :: t else (a, w) :: (b, v) :: t)
    else (b, v) :: cellSet dflt t a w

/-- The canonical form of cells. -/
def cellsWf {α : Type} [DecidableEq α] (dflt : Nat → α) : List (Nat × α) → Bool
  | [] => true
  | (a, w) :: t => !decide (w = dflt a) && t.all (fun x => decide (a < x.1)) && cellsWf dflt t

/-- The word of a register: an unlisted address reads its reset word (R6). -/
def regGet (l : List (Nat × Word)) (a : Nat) : Word := cellGet resetWord l a

/-- The register file with a word written. -/
def regSet (l : List (Nat × Word)) (a : Nat) (w : Word) : List (Nat × Word) := cellSet resetWord l a w

/-- The canonical form of a register file. -/
def regsWf (l : List (Nat × Word)) : Bool := cellsWf resetWord l

/-- What an unlisted byte of an addressed buffer reads (log entry 7). -/
def emptyByte (_ : Nat) : Byte := 0

/-- The byte of an addressed buffer. -/
def memGet (l : List (Nat × Byte)) (a : Nat) : Byte := cellGet emptyByte l a

/-- An addressed buffer with a byte written. -/
def memSet (l : List (Nat × Byte)) (a : Nat) (w : Byte) : List (Nat × Byte) := cellSet emptyByte l a w

/-- The canonical form of an addressed buffer. -/
def memWf (l : List (Nat × Byte)) : Bool := cellsWf emptyByte l

/-- Bytes written one after another from an address. -/
def memWrite (m : List (Nat × Byte)) : Nat → List Byte → List (Nat × Byte)
  | _, [] => m
  | a, b :: bs => memSet (memWrite m (a + 1) bs) a b

/-- `k` bytes read from an address. -/
def memRead (m : List (Nat × Byte)) (a k : Nat) : List Byte :=
  (List.range k).map (fun i => memGet m (a + i))

/-- The word of a register as stored. -/
def Dev.rd (d : Dev) (a : Nat) : Word := regGet d.regs a

/-- The device with a register's word stored. -/
def Dev.wr (d : Dev) (a : Nat) (w : Word) : Dev := { d with regs := regSet d.regs a w }

/-- The machine with its device changed. -/
def State.onDev (s : State) (f : Dev → Dev) : State := { s with dev := f s.dev }

/-- A field of a register. -/
def Dev.rdF (d : Dev) (a : Nat) (f : Field) : Nat := getF f (d.rd a)

/-- The device with a field of a register stored. -/
def Dev.wrF (d : Dev) (a : Nat) (f : Field) (v : Nat) : Dev := d.wr a (putF f (d.rd a) v)

/-- The device with a counter field raised by one, saturating at the field's largest value. -/
def Dev.incF (d : Dev) (a : Nat) (f : Field) : Dev :=
  d.wrF a f (satInc (2 ^ f.width - 1) (d.rdF a f))

/-- The device with several fields of one register stored. -/
def Dev.wrFs (d : Dev) (a : Nat) (fs : List (Field × Nat)) : Dev :=
  d.wr a (fs.foldl (fun w x => putF x.1 w x.2) (d.rd a))

/-- The next value of SEQ: 0x01 to 0xFF, then 0x01 again (R50). -/
def seqNext (n : Nat) : Nat := if n = 255 then 1 else n + 1

/-- The place of SEQ in every register that holds SQ flags (R50). -/
def seqField : Field := ⟨24, 8⟩

/-- An event that sets flag bit `b` of a register: SEQ advances (R50). -/
def Dev.flag (d : Dev) (a b : Nat) : Dev :=
  let w := d.rd a
  d.wr a (putF ⟨b, 1⟩ (putF seqField w (seqNext (getF seqField w))) 1)

/-- The clearing write of R51: the flags written as 1, only with the current SEQ. -/
def Dev.clearFlags (d : Dev) (a : Nat) (mask value : Word) : Dev :=
  let w := d.rd a
  if getF seqField value = getF seqField w then
    d.wr a (w &&& ~~~ (value &&& mask &&& ~~~ (Field.mask seqField)))
  else d

/-- A free value: the opaque constant at the device's own counter, which advances (R10; log
entry 6). -/
def Dev.freeVal (d : Dev) (w : Nat) : Nat × Dev :=
  ((Config.freeValue d.free).toNat % 2 ^ w, { d with free := d.free + 1 })

/-- The depth of a queue (R63); the journal ingress shares its pool. -/
def queueDepth (q : Nat) : Nat :=
  if q < 4 then 4096
  else if q < 16 then 256
  else if q < 32 then 64
  else if q < 40 then 0
  else if q < 48 then 64
  else if q < 56 then 1536
  else if q < 60 then 16
  else if q = 60 then 40
  else if q = 61 then 2048
  else 64

/-- The bytes of an element of a queue (R63). -/
def elemSize (q : Nat) : Nat :=
  if q < 16 then 80
  else if q < 32 then 256
  else if q < 40 then 64
  else if q < 48 then 512
  else if q < 56 then 64
  else if q < 60 then 32
  else if q = 60 ∨ q = 62 then 4096
  else 64

/-- The service group of a queue (R63). -/
def queueGroup (q : Nat) : Nat :=
  if q < 4 then 0 else if q < 16 then 1 else if q < 32 then 2 else if q < 40 then 3
  else if q < 48 then 4 else if q < 56 then 5 else if q < 60 then 6 else 7

/-- The elements of a queue. -/
def Dev.queue (d : Dev) (q : Nat) : List QElem := d.queues.q.getD q []

/-- The device with a queue replaced. -/
def Dev.setQueue (d : Dev) (q : Nat) (l : List QElem) : Dev :=
  { d with queues := { d.queues with q := upd d.queues.q q (fun _ => l) } }

/-- A new element: it enters in this turn and this CK_SYS cycle (R65). -/
def Dev.elem (d : Dev) (bytes : List Byte) (ref : Option HostRef) : QElem :=
  ⟨bytes, d.turn.number, d.clk, ref, none, true⟩

/-- The pending bit of an event. -/
def Dev.evPending (d : Dev) (n : Nat) : Bool :=
  bitOf (d.rd (R.HST_EVPEND (n / 32))).toNat (n % 32)

/-- The pending bit of an event set, and a pulse on its pin in pulse mode (R58, R59). -/
def Dev.evMark (d : Dev) (n : Nat) : Dev :=
  let a := R.HST_EVPEND (n / 32)
  let d := d.wrF a ⟨n % 32, 1⟩ 1
  let cfg := d.rd (R.HST_EVCFG n)
  let pin := getF F.HST_EVCFG_PIN cfg
  if getF F.HST_EVCFG_EN cfg = 1 ∧ bitOf (d.rdF R.HST_EVTCFG F.HST_EVTCFG_MODE) pin then
    { d with pulse := upd d.pulse pin (fun t => if d.clk < t then t else d.clk + 400) }
  else d

/-- The count byte of an event's newest queued record raised in place, saturating at 255 (R58). -/
def bumpRecord (n : Nat) : List QElem → List QElem
  | [] => []
  | e :: es =>
    if byteAt e.bytes 0 = n ∧ !es.any (fun x => byteAt x.bytes 0 == n) then
      { e with bytes := upd e.bytes 2 (fun b => byteOf (satInc 255 b.toNat)) } :: es
    else e :: bumpRecord n es

/-- The Q49 element of an event (chapter 02). -/
def Dev.evRecord (d : Dev) (n : Nat) : QElem :=
  d.elem (padTo 64 ([byteOf n, 0, 1, 0] ++ leBytes 4 d.turn.number)) none

/-- The events whose present pending bit has written a record changed: a record from before the bit was last
cleared counts no more (R58). -/
def Dev.setCounts (d : Dev) (f : List Nat → List Nat) : Dev :=
  { d with queues := { d.queues with counts := f d.queues.counts } }

/-- The rise of an event's count, when it is already pending: that of the record of this pending bit. -/
def Dev.evBump (d : Dev) (n : Nat) : Dev :=
  if d.queues.counts.contains n then d.setQueue 49 (bumpRecord n (d.queue 49)) else d

/-- Q49 refuses a record: FULL sets, and EV249 is raised, with its pulse, and no record of its own finds room
(R59, R64). -/
def Dev.q49Full (d : Dev) : Dev :=
  let d := d.flag (R.HST_QSTAT 49) 16
  let was := d.evPending 249
  let d := d.evMark 249
  if was then d.evBump 249 else d

/-- Raising an event (R58): pending bit, pin, and the Q49 record when QUE is set. -/
def Dev.raise (d : Dev) (n : Nat) : Dev :=
  if d.evPending n then (d.evMark n).evBump n
  else
    let d := d.evMark n
    if d.rdF (R.HST_EVCFG n) F.HST_EVCFG_QUE = 1 then
      if (d.queue 49).length < queueDepth 49 then
        (d.setQueue 49 (d.queue 49 ++ [d.evRecord n])).setCounts (n :: ·)
      else d.q49Full
    else d

/-- Raising an event, if a condition holds. -/
def Dev.raiseIf (d : Dev) (b : Bool) (n : Nat) : Dev := if b then d.raise n else d

/-- A flag with the block's event (R50). -/
def Dev.flagEv (d : Dev) (a b ev : Nat) : Dev := (d.flag a b).raise ev

/-- Whether a queue has room. -/
def Dev.hasRoom (d : Dev) (q : Nat) : Bool := (d.queue q).length < queueDepth q

/-- A full queue refuses: FULL sets and EV249 is raised (R64). -/
def Dev.refuse (d : Dev) (q : Nat) : Dev := (d.flag (R.HST_QSTAT q) 16).raise 249

/-- Placing an element in a queue; a full queue refuses it (R64). -/
def Dev.push (d : Dev) (q : Nat) (bytes : List Byte) (ref : Option HostRef) : Dev :=
  if d.hasRoom q then d.setQueue q (d.queue q ++ [d.elem (padTo (elemSize q) bytes) ref])
  else d.refuse q

/-- The head of a queue removed; a promoted head's promotion ends with it (R67). -/
def Dev.pop (d : Dev) (q : Nat) : Dev :=
  let d := d.setQueue q (d.queue q).tail
  { d with queues := { d.queues with promo := d.queues.promo.filter (fun x => x ≠ q) } }

/-- An element of Q48 to Q55 for the host, with the event of its placement (R63); a full queue takes none. -/
def Dev.notify (d : Dev) (q : Nat) (bytes : List Byte) (ev : Nat) : Dev :=
  let d' := d.push q bytes none
  if d.hasRoom q then d'.raise ev else d'

/-- Elements of a queue that commands have reserved and no emit has placed (R287). -/
def Dev.reserved (d : Dev) (q : Nat) : Nat :=
  let inIng := (d.jrn.ing.flatMap (fun l => l.flatMap Entry.places)).filter (fun p => p.queue = q)
  inIng.length + (d.turn.places.filter (fun p => p.queue = q)).length

/-- Whether a queue has room beside the elements reserved for accepted commands (R287). -/
def Dev.hasFree (d : Dev) (q : Nat) : Bool := decide ((d.queue q).length + d.reserved q < queueDepth q)

/-- An element of a producer that holds no reservation: a queue full with reservations counted refuses it (R64,
R287). -/
def Dev.pushFree (d : Dev) (q : Nat) (bytes : List Byte) (ref : Option HostRef) : Dev :=
  if d.hasFree q then d.push q bytes ref else d.refuse q

/-- An entry that arises outside evaluation waits for the next latch (R297). -/
def Dev.happen (d : Dev) (e : Entry) : Dev :=
  { d with jrn := { d.jrn with outside := d.jrn.outside ++ [e] } }

/-- The slots of the ingress pool in use (R294, R297). -/
def Journal.used (j : Journal) : Nat := (j.ing.map List.length).foldl (· + ·) 0

/-- What happens in the digital die while it runs: in reset, before its start-up and asleep it does nothing
(R500, R502). -/
def Dev.whenUp (d : Dev) (f : Dev → Dev) : Dev := if d.pwr.boot = 3 then f d else d

/-- The role of the device (R346). -/
def Dev.role (d : Dev) : Nat := d.rdF R.PAR_ROLE F.PAR_ROLE_ROLE

/-- Whether the device holds the token or is solo: its holder functions run (R346). -/
def Dev.holder (d : Dev) : Bool := d.role == 1 || d.role == 2

/-- The pair device in the standby role. -/
def Dev.standby (d : Dev) : Bool := d.role == 3

/-- The run of differences of a shared channel, in sample latches (R366): none while it does not differ. -/
def Dev.xRun (d : Dev) (kind idx : Nat) : Option Nat :=
  (d.pair.xruns.find? (fun x => x.1 = kind && x.2.1 = idx)).map (·.2.2)

/-- The run of differences of a shared channel set. -/
def Dev.setXRun (d : Dev) (kind idx : Nat) (n : Option Nat) : Dev :=
  let rest := d.pair.xruns.filter (fun x => !(x.1 == kind && x.2.1 == idx))
  let runs := match n with
    | some k => (kind, idx, k) :: rest
    | none => rest
  { d with pair := { d.pair with xruns := runs } }

/-- A standby's comparison of a shared channel: COMPARE of its block sets, and its event is raised, at the
onset of a difference (R50). -/
def Dev.xCompare (d : Dev) (kind idx : Nat) (differs : Bool) (reg bit ev : Nat) : Dev :=
  if !differs then d.setXRun kind idx none
  else if (d.xRun kind idx).isSome then d
  else (d.setXRun kind idx (some 0)).flagEv reg bit ev

/-- The HOSTOVR entry of a host write without effect (R537). -/
def hostOvr (addr : Nat) (value mask : Word) (result sess : Nat) : Entry :=
  sysEntry 0x000C (leBytes 4 addr ++ leBytes 4 value.toNat ++ leBytes 4 mask.toNat
    ++ [byteOf result, byteOf sess])

/-- The key gate closed. -/
def Dev.closeGate (d : Dev) : Dev :=
  { d.wrF R.SYS_KEYGATE F.SYS_KEYGATE_OPEN 0 with gate := none }

/-- A key-gated write: the opener's single write passes and closes the gate; any other is
ignored as a whole and recorded (R47 to R49). -/
def Dev.passGate (d : Dev) (sess addr : Nat) : Bool × Dev :=
  match d.gate with
  | some g =>
    if g.opener = sess then (true, d.closeGate)
    else (false, guard_ d)
  | none => (false, guard_ d)
where
  /-- The guard record of R49. -/
  guard_ (d : Dev) : Dev :=
    ((d.wrF R.SYS_GUARD F.SYS_GUARD_ADDR (addr / 2)).flagEv R.SYS_GUARD 0 5).happen
      (secEntry 0x0007 (leBytes 4 addr ++ [byteOf sess]))

/-- The pending word of a write-buffered register. -/
def Dev.wbWord (d : Dev) (a : Nat) : Option Word := (d.wb.find? (fun x => x.1 = a)).map (·.2.1)

/-- The session that wrote the pending word. -/
def Dev.wbSess (d : Dev) (a : Nat) : Nat := ((d.wb.find? (fun x => x.1 = a)).map (·.2.2)).getD 0

/-- A write to a WB register: the word waits and PEND reads 1, unless it matches the active value
while nothing is pending (R44, R45). -/
def Dev.wbWrite (d : Dev) (a : Nat) (mask value : Word) (sess : Nat := 0) : Dev :=
  if d.wbWord a = none ∧ value &&& mask = d.rd a &&& mask then d
  else
    { d.wrF a ⟨31, 1⟩ 1 with wb := (a, value &&& mask, sess) :: d.wb.filter (fun x => x.1 ≠ a) }

/-- Pending write dropped, PEND cleared. -/
def Dev.wbDrop (d : Dev) (a : Nat) : Dev :=
  { d.wrF a ⟨31, 1⟩ 0 with wb := d.wb.filter (fun x => x.1 ≠ a) }

/-- The boundary applies the pending word of a register (R43). -/
def Dev.wbApply (d : Dev) (a : Nat) (mask : Word) : Dev :=
  match d.wbWord a with
  | none => d
  | some v =>
    let d := d.wr a ((d.rd a &&& ~~~ mask) ||| (v &&& mask))
    d.wbDrop a

/-- All pending writes discarded and PEND cleared (R46). -/
def Dev.wbDiscard (d : Dev) : Dev := d.wb.foldl (fun d x => d.wbDrop x.1) d

end Sys2Proof.Machine
end

