-- ==== Sys2Proof/Machine/Phases.lean ====
section
/-!
DEFINITION. The phase bases (R68 to R87): positions, interpolation, references and the state
machine of R79. What a base's departure from SYNC and its jumps do to the channels stands in
Machine/Schedule.lean.
-/
namespace Sys2Proof.Machine

/-- An unused base's record. -/
def BaseRec.empty : BaseRec := ⟨0, 0, 0xFF, 0, 1, 0, 1, 40, 0, 1, 1, 1, 10, 0, 0, 0⟩

/-- The record of PBn, n = 1 to 3 (R96). -/
def Dev.baseRec (d : Dev) (b : Nat) : BaseRec := d.image.phsb.bases.getD (b - 1) BaseRec.empty

/-- The state of PBn, n = 1 to 3. -/
def Dev.base (d : Dev) (b : Nat) : Base := d.phs.bases.getD (b - 1) Base.empty

/-- The device with a base's state replaced. -/
def Dev.setBase (d : Dev) (b : Nat) (x : Base) : Dev :=
  { d with phs := { d.phs with bases := upd d.phs.bases (b - 1) (fun _ => x) } }

/-- The slots of a cycle (R74). -/
def BaseRec.s (r : BaseRec) : Nat := r.slots * r.cycrev

/-- The position of slot s (R74). -/
def BaseRec.pos (r : BaseRec) (s : Nat) : Nat :=
  (r.refpos + s * 2 ^ 20 / r.s) % 2 ^ 20

/-- Whether a slot of the wheel has a tooth (R73). -/
def BaseRec.real (r : BaseRec) (s : Nat) : Bool :=
  r.kind != 1 || s % r.slots < r.slots - r.missing

/-- The next real slot after s (R75). -/
def BaseRec.nextSlot (r : BaseRec) (s : Nat) : Nat :=
  let n := (s + 1) % r.s
  if r.real n then n
  else
    let n2 := (s + 2) % r.s
    if r.real n2 then n2 else (s + 3) % r.s

/-- Whether x lies ahead of y by less than half a cycle, in 20.12 fixed point. -/
def ahead (x y : Nat) : Bool :=
  let dlt := (x + 2 ^ 32 - y % 2 ^ 32) % 2 ^ 32
  0 < dlt && dlt < 2 ^ 31

/-- The per-slot period with its acceleration term, limited (R75). -/
def predicted (acc t tLast : Nat) : Nat :=
  let tp : Int := (t : Int) + Int.tdiv ((acc : Int) * ((t : Int) - tLast)) 4
  let tp := if tp < ((t / 2 : Nat) : Int) then ((t / 2 : Nat) : Int) else tp
  (if tp > 2 * (t : Int) then 2 * (t : Int) else tp).toNat

/-- Whether an edge is a reference, by the base's kind (R73): `gap` is the ratio test of GAPR. -/
def isReference (r : BaseRec) (index gap : Bool) : Bool :=
  match r.kind with
  | 1 => gap
  | 2 => index
  | 3 => r.slots == 1 || gap
  | 4 => true
  | 5 => if r.ipin != 0xFF then index else r.slots == 1
  | _ => false

/-- The gap test (R73): of a wheel, the ratio of the interval since the last edge to the last slot period, GAPR in
sixteenths; of a cam with several teeth, an interval longer than every other of the revolution (DEDUCED, log entry
63). -/
def gapTest (r : BaseRec) (dt : Nat) (x : Base) : Bool :=
  if r.kind = 3 then
    let others := x.periods.take (r.slots - 1)
    others.length + 1 == r.slots && others.all (fun p => decide (p < dt))
  else x.edges ≥ 2 && 16 * dt ≥ r.gapr * x.tLast

/-- The speed at a reference in units of 0.01 r/min, from the sum of the last S / CYCREV slot
periods of 20 ns (R77). The quotient is truncated, which the spec does not state (DESIGN CHOICE, log entry 63). -/
def speedOf (r : BaseRec) (periods : List Nat) : Nat :=
  let sum := (periods.take r.slots).foldl (· + ·) 0
  if sum = 0 then 0 else 300000000000 / sum

/-- The interpolation step at an accepted edge of slot s (R75): `n` slots since the last edge. Two points the
procedure leaves open are DESIGN CHOICE (log entry 63): with S = 1 the next tooth lies one slot and a full cycle ahead,
where (s_next - s) mod S and the span would be 0; and where no period has been measured yet, T_last is T. -/
def interpolate (r : BaseRec) (x : Base) (s n t : Nat) : Base :=
  let tt := ((t + 2 ^ 32 - x.tPrev % 2 ^ 32) % 2 ^ 32) / (max n 1)
  let tl := if x.tLast = 0 then tt else x.tLast
  let tp := predicted r.acc tt tl
  let here := r.pos s * 4096
  let nx := r.nextSlot s
  let m := (nx + r.s - s) % r.s
  let m := if m = 0 then r.s else m
  let span := (r.pos nx + 2 ^ 20 - r.pos s) % 2 ^ 20
  let span := if span = 0 then 2 ^ 20 else span
  { x with
    ph := here
    incr := span * 4096 / (max (tp * m) 1)
    limit := (r.pos nx * 4096 + 2 ^ 32 - 4096) % 2 ^ 32
    tLast := tt
    tPrev := t
    slot := s
    periods := (List.replicate (max n 1) tt ++ x.periods).take r.slots }

/-- The count follows the true phase, unless it is held ahead of it (R76, R83). -/
def settleCount (x : Base) : Base :=
  if x.hold then
    if ahead x.acc x.ph then x else { x with hold := false, acc := x.ph }
  else { x with acc := x.ph }

/-- One CK_ANG cycle of a base out of STANDSTILL (R75): the count advances up to the limit, and
the cycle counter counts a wrap. -/
def baseTick (x : Base) : Base :=
  if x.state < 2 then x
  else
    let room := (x.limit + 2 ^ 32 - x.ph) % 2 ^ 32
    let ph := (x.ph + min x.incr room) % 2 ^ 32
    let y := settleCount { x with ph := ph }
    if y.acc < x.acc then { y with cyc := (y.cyc + 1) % 2 ^ 12 } else y

/-- Periods within ±10 % of each other (R79). -/
def within10 (a b : Nat) : Bool := 10 * a ≤ 11 * b && 10 * b ≤ 11 * a

/-- Whether a reference in SEEKING synchronises the base (R79). -/
def seekDone (r : BaseRec) (x : Base) (cnt : Nat) : Bool :=
  if r.kind = 4 then
    match x.periods with
    | a :: b :: c :: _ => within10 a b && within10 b c && within10 a c
    | _ => false
  else x.refs ≥ 1 && cnt == r.slots

/-- The position of a base's count in a cam window that may wrap (R79, R80). -/
def inCamWindow (r : BaseRec) (count : Nat) : Bool :=
  if r.camlo ≤ r.camhi then r.camlo ≤ count && count ≤ r.camhi
  else r.camlo ≤ count || count ≤ r.camhi

/-- The number of the position of the turn on PB0 (R69): the count at a CK_SYS cycle of the turn. -/
def pb0Count (tlenUnits sinceStart : Nat) : Nat :=
  let tlen := tlenUnits * 10
  let step := 2 ^ 32 / (400 * max tlen 1)
  (step * sinceStart / 4096) % 2 ^ 20

/-- The PB0 count now. -/
def Dev.pb0 (d : Dev) : Nat := pb0Count d.image.phsb.tlen (d.clk - d.turn.since)

/-- The PB0 count that the engine has reached: a turn that has no successor yet stays at its last count. -/
def Dev.pb0Now (d : Dev) : Nat :=
  min (2 ^ 32 / (400 * max (d.image.phsb.tlen * 10) 1) * (d.clk - d.turn.since) / 4096) (2 ^ 20 - 1)

/-- The edge timer: CK_SYS divided by 8, a free-running 32-bit counter with a tick of 20 ns (R70). -/
def Dev.edgeTimer (d : Dev) : Nat := d.clk / 8 % 2 ^ 32

/-- The registers of a base written from its state; PHS_POSn is read live. -/
def Dev.showBase (d : Dev) (b : Nat) : Dev :=
  let x := d.base b
  let d := d.wrF (R.PHS_STAT b) F.PHS_STAT_STATE x.state
  let d := d.wrF (R.PHS_TOOTH b) F.PHS_TOOTH_SLOT x.slot
  d.wrF (R.PHS_PERIOD b) F.PHS_PERIOD_T x.tLast

/-- A base's SYNC as a lattice source (R227): PB0 is SYNTHETIC and always synchronised (R69). -/
def Dev.inSync (d : Dev) (b : Nat) : Bool := if b = 0 then true else (d.base b).state == 3

end Sys2Proof.Machine
end

