-- ==== Sys2Proof/Machine/Charge.lean ====
section
/-!
DEFINITION. The charge channels (R133 to R163): windows, the angle grid, conversions, ranges, the
test sequence, the computation of R150, releases, the waveform ring and the feed.
-/
namespace Sys2Proof.Machine

/-- An unpowered channel's record. -/
def QcRec.empty : QcRec :=
  ⟨⟨false, false, 0, 0, 0, false, 1, 0, [], 1, 0, 1, 1, 0, 1, 0⟩,
   ⟨0, 1, 0, 0, 0, 0, 0, 0, 0, 0, 0, 0, 0, 0, 0, 0, 0, 0, 0, 0, 0⟩⟩

/-- The record of QCn (R161). -/
def Dev.qrec (d : Dev) (n : Nat) : QcRec := d.image.qccf.chans.getD n QcRec.empty

/-- The state of QCn. -/
def Dev.qc (d : Dev) (n : Nat) : QChan := d.qch.chans.getD n QChan.empty

/-- The device with a channel's state changed. -/
def Dev.setQc (d : Dev) (n : Nat) (f : QChan → QChan) : Dev :=
  { d with qch := { d.qch with chans := upd d.qch.chans n f } }

/-- The device with the cycle record of a channel changed. -/
def Dev.setCyc (d : Dev) (n : Nat) (f : QCycle → QCycle) : Dev :=
  d.setQc n (fun c => { c with cyc := f c.cyc })

/-- Whether the channel's power STATE is ON. -/
def Dev.qOn (d : Dev) (n : Nat) : Bool := d.rdF (R.QCH_PWR n) F.QCH_PWR_STATE == 2

/-- The condition under which the input switch is closed (R134). -/
def Dev.qSwitchOn (d : Dev) (n : Nat) : Bool := d.holder && d.qOn n && (d.qrec n).acq.pwren

/-- The kind of a window: 1 ACQ, 2 QUIET, 3 KNOCK (R136). -/
def QcAcq.kind (r : QcAcq) (w : Nat) : Nat := r.wkind.getD w 0

/-- Whether a window of a kind is open. -/
def QChan.open_ (c : QChan) (r : QcAcq) (k : Nat) : Bool :=
  (List.range 8).any (fun w => bitOf c.win w && r.kind w == k)

/-- The lowest open QUIET window. -/
def QChan.quiet (c : QChan) (r : QcAcq) : Option Nat :=
  (List.range 8).find? (fun w => bitOf c.win w && r.kind w == 2)

/-- The first cause to arise is kept (R148). -/
def QCycle.fail (c : QCycle) (cause : Nat) : QCycle := if c.cause = 0 then { c with cause := cause } else c

/-- A cause of the cycle in hand, with its flag (R148, QCH_STSn): bit 21 LATE, bit 20 RATE. -/
def Dev.qCause (d : Dev) (n cause : Nat) : Dev :=
  let first := (d.qc n).cyc.cause = 0
  let d := d.setCyc n (QCycle.fail · cause)
  if first ∧ cause = 2 then d.flag (R.QCH_STS n) 21
  else if first ∧ cause = 3 then d.flag (R.QCH_STS n) 20 else d

/-- WINERR: a window action without effect (R136). -/
def Dev.qWinErr (d : Dev) (n : Nat) : Dev := d.flagEv (R.QCH_STS n) 16 74

/-- An entry of the channel executed with its late flag (R84, R141). -/
def Dev.qLate (d : Dev) (n : Nat) (late : Bool) : Dev :=
  if late && (d.qc n).cyc.inRange then d.qCause n 2 else d

/-- A test sequence cut: no result is formed (R145). -/
def Dev.qCutTest (d : Dev) (n : Nat) : Dev := d.setQc n (fun c => { c with test := none })

/-- The input switches after a change of role, power or image (R134); an opening cuts a test. -/
def Dev.qSwitches (d : Dev) : Dev :=
  (List.range 12).foldl (fun d n =>
    let on := d.qSwitchOn n
    let d := if (d.qc n).inSw && !on then d.qCutTest n else d
    d.setQc n (fun c => { c with inSw := on })) d

/-- The full scale of a range in fC (R133). -/
def qfs (range : Nat) : Int :=
  if range = 0 then 500000 else if range = 1 then 2000000 else if range = 2 then 8000000 else 32000000

/-- Whether the reset switch is closed: a power ramp, a range change or the closed parts of the test
sequence (R135, R143, R145). -/
def Dev.qRstClosed (d : Dev) (n : Nat) : Bool :=
  let c := d.qc n
  let st := d.rdF (R.QCH_PWR n) F.QCH_PWR_STATE
  let inTest := match c.test with
    | some t =>
      let us := (d.clk - t.since) / 400
      let r := 10 * (d.qrec n).acq.rstt
      decide (us < r) || (decide (r + 240 ≤ us) && decide (us < r + 260))
    | none => false
  st == 1 || st == 3 || c.ranging || inTest

/-- The cycle length of a base in °CA (R74, R93). -/
def Dev.cycleDeg (d : Dev) (b : Nat) : Nat := 360 * (d.baseRec b).cycrev

/-- The resolutions in tenths of °CA that RES codes (R161). -/
def resTenths (res : Nat) : Nat :=
  if res = 0 then 1 else if res = 1 then 2 else if res = 2 then 5 else 10

/-- The next coarser resolution (R139). -/
def coarser (r : Nat) : Nat := if r = 1 then 2 else if r = 2 then 5 else 10

/-- The resolution of the next cycle (R139): r10, and whether no sampling takes place. -/
def chooseRes (t s c r10 : Nat) : Nat × Bool :=
  let step := fun r => if r < 10 ∧ t * s * r < 500 * c then coarser r else r
  let r := step (step (step r10))
  (r, t * s * r < 500 * c)

/-- The choice of R139 stored at a RANGE entry. -/
def Dev.qChoose (d : Dev) (n : Nat) : Dev :=
  let a := (d.qrec n).acq
  if a.timeMode then d.setQc n (fun c => { c with selR := 10, selCoarse := false, selNone := false })
  else
    let r0 := resTenths a.res
    let x := chooseRes (d.base a.base).tLast (d.baseRec a.base).s (d.cycleDeg a.base) r0
    d.setQc n (fun c => { c with selR := x.1, selCoarse := x.1 ≠ r0, selNone := x.2 })

/-- The last value of a universal input or loop input that a charge channel pegs to (R151): none
when its release carries a sensor fault or no value exists, as before a loop's first value. -/
def Dev.pegValue (d : Dev) (src ch : Nat) : Option Int :=
  if src = 1 then
    let st := d.rdF (R.UIN_STS ch) F.UIN_STS_STATUS
    if st ≤ 2 then some (signed 32 (d.rd (R.UIN_VAL ch)).toNat) else none
  else if src = 2 then
    let st := d.rdF (R.LOP_STS ch) F.LOP_STS_STATUS
    if st ≤ 2 ∨ (st = 8 ∧ (d.lop.ins.getD ch LoopIn.empty).relClk.isSome) then some (signed 32 (d.rd (R.LOP_VAL ch)).toNat) else none
  else none

/-- The pegging reference (R151), and whether PFIX is substituted for a source. -/
def Dev.pegRef (d : Dev) (r : QcComp) : Int × Bool :=
  if r.pegsrc = 0 then (r.pfix, false)
  else match d.pegValue r.pegsrc r.pegch with
    | some v => (divRound (v * r.pscl) (2 ^ 32) + r.pofs, false)
    | none => (r.pfix, true)

/-! The waveform ring -/

/-- The ring address of slot s of channel n (R155). -/
def ringBase (n s : Nat) : Nat := (32 * n + s) * 14400

/-- The descriptor address of slot s of channel n (R155). -/
def descBase (n s : Nat) : Nat := (32 * n + s) * 64

/-- The generation of a slot. -/
def Dev.qGen (d : Dev) (n s : Nat) : Nat := ofLe (memRead d.qch.desc (descBase n s + 60) 4)

/-- The generation of a slot stored in its descriptor. -/
def Dev.qSetGen (d : Dev) (n s g : Nat) : Dev :=
  { d with qch := { d.qch with desc := memWrite d.qch.desc (descBase n s + 60) (leBytes 4 g) } }

/-- The next generation of wanted parity. -/
def nextGen (g : Nat) (odd : Bool) : Nat :=
  if (g + 1) % 2 = b2n odd then g + 1 else g + 2

/-- A code stored in the ring from position p, repeated k times (R141, R155). -/
def Dev.qRing (d : Dev) (n s p k : Nat) (code : Int) : Dev :=
  let bytes := (List.replicate (min k (7200 - p)) (leBytes 2 (pattern 16 code))).flatten
  { d with qch := { d.qch with ring := memWrite d.qch.ring (ringBase n s + 2 * p) bytes } }

/-! The raw acquisition feed (R157, R359) -/

/-- The grid points of a channel's cycle at a resolution (R93). -/
def Dev.qPoints (d : Dev) (n r10 : Nat) : Nat :=
  d.cycleDeg (d.qrec n).acq.base * 10 / max r10 1

/-- The overload bitmap of R359. -/
def overloadBits (bs : List Bool) : List Byte :=
  (List.range 240).map (fun k => byteOf ((List.range 8).foldl (fun m i =>
    if bs.getD (8 * k + i) false then m + 2 ^ i else m) 0))

/-- An element of Q62 (R359). -/
def Dev.qFeedBytes (d : Dev) (n : Nat) (c : QCycle) (f : QFeed) (close : Bool) : List Byte :=
  let cs := f.codes.reverse
  [byteOf n, byteOf (b2n f.opens + 2 * b2n close + 4 * b2n (d.qrec n).acq.timeMode
      + 8 * b2n (f.late || c.cause == 2))]
    ++ leBytes 2 cs.length ++ leBytes 2 f.first ++ [byteOf c.r10, byteOf c.range]
    ++ leBytes 4 ((d.qc n).cycles + 1) ++ leBytes 4 (d.qc n).feedSeq
    ++ padTo 3840 (cs.flatMap (fun x => leBytes 2 (pattern 16 x.1)))
    ++ overloadBits (cs.map (fun x => x.2))

/-- Whether the raw feed runs: a solo device, or an active with a standby in service and both lanes (R157, R357,
R364). -/
def Dev.qFeeds (d : Dev) : Bool :=
  d.role == 1 || d.role == 2 && d.rdF R.PAR_ROLE F.PAR_ROLE_PEERUP == 1 && d.rdF R.PAR_LNKSTAT F.PAR_LNKSTAT_LANE0 == 1
    && d.rdF R.PAR_LNKSTAT F.PAR_LNKSTAT_LANE1 == 1

/-- An element of the feed placed in Q62, or dropped. -/
def Dev.qFeedSend (d : Dev) (bytes : List Byte) : Dev := if d.qFeeds then d.push 62 bytes none else d

/-- The element in the making is sent (R359). -/
def Dev.qFeedEnd (d : Dev) (n : Nat) (c : QCycle) (close : Bool) : Dev :=
  match (d.qc n).feed with
  | some f =>
    let d := d.qFeedSend (d.qFeedBytes n c f close)
    d.setQc n (fun q => { q with feed := none, feedSeq := (q.feedSeq + 1) % 2 ^ 32 })
  | none =>
    if close then
      let d := d.qFeedSend (d.qFeedBytes n c ⟨[], 0, 0, d.clk, false, false⟩ true)
      d.setQc n (fun q => { q with feedSeq := (q.feedSeq + 1) % 2 ^ 32 })
    else d

/-- A code joins the feed: an element ends when full, when the run breaks, or after 500 µs (R359). -/
def Dev.qFeedCode (d : Dev) (n : Nat) (c : QCycle) (j : Nat) (code : Int) (ovl opens : Bool) : Dev :=
  let fresh : QFeed := ⟨[(code, ovl)], j, j, d.clk, opens, c.cause == 2⟩
  match (d.qc n).feed with
  | none => d.setQc n (fun q => { q with feed := some fresh })
  | some f =>
    let next := if (d.qrec n).acq.timeMode then f.last + 1 else (f.last + 1) % max (d.qPoints n c.r10) 1
    if f.codes.length ≥ 1920 ∨ j ≠ next ∨ d.clk - f.since ≥ 200000 ∨ opens then
      (d.qFeedEnd n c false).setQc n (fun q => { q with feed := some fresh })
    else d.setQc n (fun q => { q with feed := some { f with codes := (code, ovl) :: f.codes, last := j } })

/-- Elements of the feed whose first code is 500 µs old end (R359). -/
def Dev.qFeedTime (d : Dev) : Dev :=
  (List.range 12).foldl (fun d n =>
    if (d.qc n).feed.any (fun f => decide (d.clk - f.since ≥ 200000)) then d.qFeedEnd n (d.qc n).cyc false else d) d

/-! Computation (R150) -/

/-- A code as a pressure in mbar before pegging. -/
def toMbar (q sens code : Int) : Int := divRound (code * q * 1000) (32768 * sens)

/-- The first maximum of a list with its index. -/
def firstMax (l : List Int) : Int × Nat :=
  (List.zip l (List.range l.length)).foldl (fun m x => if x.1 > m.1 then x else m) (l.headD 0, 0)

/-- The largest central difference between two indices (R150). -/
def maxRise (p : List Int) (r10 lo hi : Nat) : Int :=
  (List.range (hi + 1 - lo)).foldl (fun m i =>
    let k := lo + i
    let x := divRound ((p.getD (k + 1) 0 - p.getD (k - 1) 0) * 10) (2 * r10)
    if x > m then x else m) (-(2 ^ 62))

/-- The volume at an angle (R150). -/
def volumeAt (vtab : List Nat) (c : Nat) (x : Int) : Int :=
  (vtab.getD ((x + c * 5) % (c * 10 : Nat)).toNat 0 : Nat)

/-- The trapezoid sum of IMEP (R150). -/
def imepSum (p : List Int) (vtab : List Nat) (c : Nat) (a0 : Int) (r10 lo hi : Nat) : Int :=
  (List.range (hi - lo)).foldl (fun w i =>
    let k := lo + i
    let a := a0 + k * r10
    w + (p.getD k 0 + p.getD (k + 1) 0) * (volumeAt vtab c (a + r10) - volumeAt vtab c a)) 0

/-- The state of the knock filter: x1, x2, y1, y2, energy, gated samples. -/
structure Knock where
  x1 : Int
  x2 : Int
  y1 : Int
  y2 : Int
  e : Int
  m : Nat

/-- One gated sample of the knock filter (R150). -/
def knockStep (r : QcComp) (s : Knock) (code : Int) : Knock :=
  let acc := r.kb0 * code + r.kb1 * s.x1 + r.kb2 * s.x2 - r.ka1 * s.y1 - r.ka2 * s.y2
  let y := satS 32 (acc / 2 ^ 14)
  let m := s.m + 1
  ⟨code, s.x1, y, s.y1, if m > r.kskip then min (s.e + y * y) (2 ^ 63 - 1) else s.e, m⟩

/-- The knock energy of a cycle (R150). -/
def knockEnergy (r : QcComp) (codes : List (Int × Bool)) : Int :=
  let s := (codes.filter (fun c => c.2)).foldl (fun s c => knockStep r s c.1) ⟨0, 0, 0, 0, 0, 0⟩
  min (s.e / 2 ^ r.ksh) (2 ^ 32 - 1)

/-- The angle of the first sample relative to TDC (R150). -/
def firstAngle (c g0 r10 tdca : Nat) : Int :=
  let a : Int := ((g0 * r10 : Nat) - (tdca : Int)) % (c * 10 : Nat)
  if a > c * 5 then a - c * 10 else a

/-- The results of a cycle (R150): a0, off, and PMAX, PCOMP, IMEP, DPMAX, KNOCK, APMAX. -/
def qCompute (r : QcRec) (vtab : List Nat) (c : Nat) (x : QCycle) : Int × Int × List Int :=
  let codes := x.codes.reverse
  let r10 := if r.acq.timeMode then 10 else x.r10
  let n := codes.length
  let a0 := if r.acq.timeMode then 0 else firstAngle c x.g0 r10 r.acq.tdca
  let idx := fun (v : Int) => (clampI 0 ((n : Int) - 1) ((v - a0) / r10)).toNat
  let p0 := codes.map (fun z => toMbar (qfs x.range) r.acq.sens z.1)
  let k0 := idx r.comp.pega
  let np := max 1 (min (r.comp.pegw / r10) (n - k0))
  let s := ((p0.drop k0).take np).foldl (· + ·) 0
  let off := x.pref - divRound s np
  let p := p0.map (· + off)
  let mx := firstMax p
  let dp := maxRise p r10 (max 1 (idx r.comp.dplo)) (min (n - 2) (idx r.comp.dphi))
  let w := imepSum p vtab c a0 r10 (idx r.comp.imlo) (idx r.comp.imhi)
  let imep := if r.acq.timeMode then 0 else divRound w (2 * 2 ^ 24)
  (a0, off, [mx.1, p.getD (idx r.comp.compa) 0, imep, dp, knockEnergy r.comp codes, a0 + mx.2 * r10])

/-- The bits of a number in a field of `w` bits; a number that the format does not hold has no stated
result and takes a free value (log entry 11). -/
def Dev.fit (d : Dev) (w : Nat) (sgn : Bool) (x : Int) : Nat × Dev :=
  let lo : Int := if sgn then -((2 ^ (w - 1) : Nat) : Int) else 0
  let hi : Int := if sgn then (2 ^ (w - 1) : Nat) else (2 ^ w : Nat)
  if lo ≤ x ∧ x < hi then (pattern w x, d) else d.freeVal w

/-- Several numbers, each in its field. -/
def Dev.fits (d : Dev) : List (Nat × Bool × Int) → List Nat × Dev
  | [] => ([], d)
  | (w, sg, x) :: rest =>
    let a := d.fit w sg x
    let b := Dev.fits a.2 rest
    (a.1 :: b.1, b.2)

/-- Several free values. -/
def Dev.freeVals (d : Dev) (w : Nat) : Nat → List Nat × Dev
  | 0 => ([], d)
  | k + 1 =>
    let a := d.freeVal w
    let b := Dev.freeVals a.2 w k
    (a.1 :: b.1, b.2)

/-! Releases (R147 to R149) -/

/-- Sensor-fault statuses (R148). -/
def qFault (st : Nat) : Bool := [9, 6, 4, 5, 7, 8].contains st

/-- The result words 0 to 6 of a held cycle as bit patterns: the numbers of R150 in their fields. -/
def Dev.qWords (d : Dev) (h : QHeld) : List Nat × Dev :=
  d.fits ((List.zip h.res [(32, true), (32, true), (32, true), (32, true), (32, false), (16, true)]).map
    (fun x => (x.2.1, x.2.2, x.1)) ++ [(32, true, h.off), (16, true, h.a0)])

/-- The values of a GOOD or COARSE release in QCH_RESn_w (R149). -/
def Dev.qStoreRes (d : Dev) (n : Nat) (h : QHeld) (ws : List Nat) : Dev :=
  let put := fun (d : Dev) (w v : Nat) => d.wr (R.QCH_RES n w) (BitVec.ofNat 32 v)
  let d := put d 0 (ws.getD 0 0)
  let d := put d 1 (ws.getD 1 0)
  let d := put d 2 (ws.getD 2 0)
  let d := put d 3 (ws.getD 3 0)
  let d := put d 4 (ws.getD 4 0)
  let d := put d 5 (b2n h.misfire * 2 ^ 31 + b2n h.na * 2 ^ 30 + ws.getD 5 0)
  put d 6 (ws.getD 6 0)

/-- The 60 descriptor bytes before GEN (R155). -/
def Dev.qDescBytes (d : Dev) (n st : Nat) (miss : Bool) (h : QHeld) (s : Nat) (ws : List Nat) :
    List Byte :=
  [byteOf n, byteOf s, byteOf (16 * st + h.cause),
    byteOf (b2n h.misfire + 2 * b2n h.na + 4 * b2n h.pegfb + 8 * b2n miss + 16 * b2n h.ovld)]
    ++ leBytes 4 (d.qc n).cycles ++ leBytes 4 d.turn.number ++ leBytes 2 h.n
    ++ [byteOf h.r10, byteOf h.range] ++ leBytes 2 (ws.getD 7 0) ++ leBytes 2 0
    ++ leBytes 4 (ws.getD 6 0) ++ leBytes 4 (ws.getD 0 0) ++ leBytes 4 (ws.getD 1 0)
    ++ leBytes 4 (ws.getD 2 0) ++ leBytes 4 (ws.getD 3 0) ++ leBytes 4 (ws.getD 4 0)
    ++ leBytes 2 (ws.getD 5 0) ++ leBytes 2 (d.rd (R.QCH_RES n 7)).toNat
    ++ leBytes 6 h.tick ++ leBytes 6 0

/-- The descriptor written, GEN made even, and its copy sent to Q50 (R155, R156). -/
def Dev.qDescriptor (d : Dev) (n st : Nat) (miss : Bool) (h : QHeld) (ws : List Nat) : Dev :=
  match h.slot with
  | none => d
  | some s =>
    let bytes := d.qDescBytes n st miss h s ws ++ leBytes 4 (nextGen (d.qGen n s) false)
    let d := { d with qch := { d.qch with desc := memWrite d.qch.desc (descBase n s) bytes } }
    if d.hasRoom 50 then d.push 50 bytes none
    else (d.refuse 50).flagEv R.QCH_STAT 16 76

/-- The events of a release (R163): `old` is the status before it. -/
def Dev.qEvents (d : Dev) (old st : Nat) (carries : Bool) : Dev :=
  let d := d.raiseIf (carries && st ≤ 2) 64
  let d := d.raiseIf (st == 2 && old != 2) 67
  let d := d.raiseIf (qFault st && !qFault old) 68
  let d := d.raiseIf (st ≤ 1 && qFault old) 69
  d.raiseIf (st == 3 && old != 3) 75

/-- The consecutive INVALID releases and the status they make (R149). -/
def qInvalid (invlim inv st : Nat) : Nat × Nat :=
  if st = 2 then (if invlim ≠ 0 ∧ inv + 1 ≥ invlim then 8 else 2, satInc 255 inv)
  else if st ≤ 1 then (st, 0) else (st, inv)

/-- The descriptor's words of a cycle whose status releases no values (R155): what R150 computes of it, free values
where it computes nothing (log entry 65). -/
def Dev.qOpenWords (d : Dev) (h : QHeld) : List Nat × Dev :=
  if h.n ≥ 3 then d.qWords h
  else if h.n = 0 then d.freeVals 32 8
  else
    let w := d.freeVals 32 7
    let a := w.2.fit 16 true h.a0
    (w.1 ++ [a.1], a.2)

/-- A release of a channel (R147 to R149, R155, R156): its status, the cause of an INVALID one, the
cycle it carries, if any, and TESTMISS. A channel without power releases OFF (R135). -/
def Dev.qRelease (d : Dev) (n st0 cause : Nat) (h : Option QHeld) (miss : Bool) : Dev :=
  let st1 := if d.qOn n then st0 else 9
  let c := d.qc n
  let iv := qInvalid (d.qrec n).acq.invlim c.inv st1
  let st := iv.1
  let old := d.rdF (R.QCH_STS n) F.QCH_STS_STATUS
  let d := d.setQc n (fun c => { c with inv := iv.2, lastMiss := miss, released := true,
                                        cycles := if h.isSome then (c.cycles + 1) % 2 ^ 32 else c.cycles })
  let d := d.wrF (R.QCH_STS n) F.QCH_STS_STATUS st
  let d := if st1 = 2 then
      (d.wrF (R.QCH_STS n) F.QCH_STS_CAUSE cause).incF (R.QCH_CNT n) F.QCH_CNT_INVALIDS else d
  let d := if miss then (d.incF (R.QCH_CNT n) F.QCH_CNT_TESTMISSES).flagEv (R.QCH_STS n) 18 70 else d
  let d := if st = 1 then d.flagEv (R.QCH_STS n) 22 66 else d
  let d := d.wrF R.QCH_STAT ⟨n, 1⟩ (b2n (qFault st))
  let d := match h with
    | some x =>
      let d := d.wr (R.QCH_CYC n) (BitVec.ofNat 32 (d.qc n).cycles)
      let d := d.wrF (R.QCH_STS n) F.QCH_STS_R10 x.r10
      if st ≤ 1 then
        let w := d.qWords x
        (w.2.qStoreRes n x w.1).qDescriptor n st miss x w.1
      else
        let w := d.qOpenWords x
        w.2.qDescriptor n st miss x w.1
    | none => d
  d.qEvents old st h.isSome

/-- The release that a cycle's results take when nothing overrides them. -/
def Dev.qReleaseHeld (d : Dev) (n : Nat) (h : QHeld) (miss : Bool) : Dev :=
  let st := if miss ∧ (d.qc n).lastMiss then 7 else h.status
  (d.setQc n (fun c => { c with held := none })).qRelease n st h.cause (some h) miss

/-! Conversions (R137 to R142) -/

/-- The next waiting point starts its conversion, unless the range change holds the reset switch
(R140, R143). -/
def QChan.nextConv (c : QChan) : QChan :=
  match c.conv, c.wait with
  | none, p :: ps => if c.ranging then c else { c with conv := some p, wait := ps }
  | _, _ => c

/-- The samples of the cycle in hand: converted, in conversion and waiting. -/
def QChan.taken (c : QChan) : Nat := c.cyc.count + ((c.conv.toList ++ c.wait).filter (fun y => !y.old)).length

/-- A grid point or a time sample falls due (R137, R138, R140, R158, R159): a standby notes its KNOCK gate for the code
that the feed will bring (R157). -/
def Dev.qDue (d : Dev) (n j : Nat) : Dev :=
  let c := d.qc n
  let kn := c.open_ (d.qrec n).acq 3
  if !d.qOn n || !c.open_ (d.qrec n).acq 1 || c.cyc.noSamp || c.blocked || !c.started then d
  else if d.standby then
    if c.cyc.points.length ≥ 7200 then d
    else d.setCyc n (fun x => { x with points := (j, kn) :: x.points })
  else if !d.holder then d
  else if c.taken ≥ 7200 then
    if (d.qrec n).acq.timeMode then d.qCause n 8 else d
  else if c.wait.length ≥ 15 ∧ (c.conv.isSome ∨ c.ranging) then
    (d.qCause n 3).setQc n (fun c => { c with wait := [], cyc := { c.cyc with noSamp := true } })
  else d.setQc n (fun c => ({ c with wait := c.wait ++ [(⟨j, false, kn⟩ : QPoint)] }).nextConv)

/-- GRID_POINT: a grid point of a channel in ANGLE mode (R137). -/
def Dev.gridPoint (d : Dev) (n j : Nat) : Dev := if (d.qrec n).acq.timeMode then d else d.qDue n j

/-- TIME_SAMPLE: the next sample of a channel in TIME mode (R138). -/
def Dev.timeSample (d : Dev) (n : Nat) : Dev :=
  let c := d.qc n
  if (d.qrec n).acq.timeMode then d.qDue n (if d.standby then c.cyc.points.length else c.taken) else d

/-- A cycle record with a code (R137, R150). -/
def QCycle.add (x : QCycle) (j : Nat) (code : Int) (kn ovl : Bool) (pos : Nat) : QCycle :=
  { x with codes := (code, kn) :: x.codes, count := x.count + 1,
           g0 := if x.count = 0 then j else x.g0, lastj := j, pos := pos, ovld := x.ovld || ovl }

/-- The overload of a sample (R142). -/
def Dev.qOverload (d : Dev) (n : Nat) (first : Bool) : Dev :=
  let d := d.flagEv (R.QCH_STS n) 23 65
  if first then d.incF (R.QCH_CNT n) F.QCH_CNT_OVLDS else d

/-- Positions of the ring from the last code to this one: the points passed in between hold it too
(R141). -/
def Dev.qGap (d : Dev) (n : Nat) (x : QCycle) (j : Nat) : Nat :=
  if (d.qrec n).acq.timeMode then 1
  else if x.count = 0 then 1 + x.lead
  else
    let m := max (d.qPoints n x.r10) 1
    max ((j + m - x.lastj % m) % m) 1

/-- A code enters the cycle record, the ring and the feed (R137, R142, R155, R157). `old` names the
cycle in computation, `kn` the KNOCK gate when the point fell due. -/
def Dev.qStore (d : Dev) (n j : Nat) (old kn : Bool) (code : Int) (ovl : Bool) : Dev :=
  let c := d.qc n
  let x := if old then c.comp.getD QCycle.empty else c.cyc
  let gap := d.qGap n x j
  let y := x.add j code kn ovl (x.pos + gap)
  let y := if ovl then y.fail 1 else y
  let d := d.qRing n y.slot x.pos gap code
  let d := d.setQc n (fun c => if old then { c with comp := some y } else { c with cyc := y })
  let d := if ovl then d.qOverload n (!x.ovld) else d
  if d.standby then d else d.qFeedCode n y j code ovl (x.count == 0)

/-! Windows (R136) -/

/-- The opening of the ACQ window: the next slot of the ring, and the cycle's resolution (R139,
R155). -/
def Dev.qOpenAcq (d : Dev) (n : Nat) : Dev :=
  let c := d.qc n
  let s := (c.slot + 1) % 32
  let d := d.qSetGen n s (nextGen (d.qGen n s) true)
  let rg := d.rdF (R.QCH_RANGE n) F.QCH_RANGE_RANGE
  let d := d.setQc n (fun c => { c with
    slot := s
    blocked := false
    cyc := if c.cyc.count = 0 then
        { c.cyc with r10 := c.selR, coarse := c.selCoarse, noSamp := c.cyc.noSamp || c.selNone,
                     slot := s, opened := true, pos := 0, range := rg }
      else { c.cyc with slot := s, opened := true, pos := 0 } })
  if (d.qc n).selNone then d.qCause n 3 else d

/-- WINOPEN (R136, R145). -/
def Dev.qWinOpen (d : Dev) (n arg : Nat) (late : Bool) : Dev :=
  let d := d.qLate n late
  let w := arg % 8
  let c := d.qc n
  if !d.qOn n then d
  else if bitOf c.win w then d.qWinErr n
  else
    let k := (d.qrec n).acq.kind w
    let d := if k = 1 then d.qCutTest n else d
    let d := d.setQc n (fun c => { c with win := putBit c.win w true,
                                          quietRel := if k = 2 then false else c.quietRel })
    if k = 1 then d.qOpenAcq n else d

/-- A window closed: the closing of its QUIET window cuts a test (R145). -/
def Dev.qCloseWin (d : Dev) (n w : Nat) : Dev :=
  let cut := match (d.qc n).test with | some t => t.window == some w | none => false
  let d := if cut then d.qCutTest n else d
  d.setQc n (fun c => { c with win := putBit c.win w false })

/-- WINCLOSE (R136, R145). -/
def Dev.qWinClose (d : Dev) (n arg : Nat) (late : Bool) : Dev :=
  let d := d.qLate n late
  if !d.qOn n then d
  else if !bitOf (d.qc n).win (arg % 8) then d.qWinErr n
  else d.qCloseWin n (arg % 8)

/-- All windows of a kind closed. -/
def Dev.qCloseKind (d : Dev) (n k : Nat) : Dev :=
  (List.range 8).foldl (fun d w =>
    if bitOf (d.qc n).win w && (d.qrec n).acq.kind w == k then d.qCloseWin n w else d) d

/-- QRESET: the start of the test sequence (R136, R145, R152). A fallback run needs no open QUIET window. -/
def Dev.qReset (d : Dev) (n : Nat) (fb late : Bool) : Dev :=
  let d := d.qLate n late
  let c := d.qc n
  let a := (d.qrec n).acq
  if !d.qOn n || c.test.isSome then d
  else if fb then d.setQc n (fun c => { c with test := some ⟨d.clk, none⟩ })
  else if c.open_ a 1 || (c.quiet a).isNone then d.flagEv (R.QCH_STS n) 19 71
  else d.setQc n (fun c => { c with test := some ⟨d.clk, c.quiet a⟩ })

/-- The mask of QCH_RANGEn's write-buffered field. -/
def qRangeMask : Word := 3

/-- The pending range applied; a different range closes the reset switch for 10 µs (R143). -/
def Dev.qApplyRange (d : Dev) (n : Nat) : Dev :=
  let old := d.rdF (R.QCH_RANGE n) F.QCH_RANGE_RANGE
  let d := d.wbApply (R.QCH_RANGE n) qRangeMask
  if d.rdF (R.QCH_RANGE n) F.QCH_RANGE_RANGE = old then d
  else d.setQc n (fun c => { c with ranging := true })

/-- The results of a cycle as they are held: computed by R150 where it has three samples, INVALID with its cause
(R147, R150). -/
def Dev.qHold (d : Dev) (n : Nat) (x : QCycle) : QHeld :=
  let r := d.qrec n
  let cause := if x.cause ≠ 0 then x.cause else if x.count < 3 then 7 else 0
  let slot := if x.opened then some x.slot else none
  let v := if x.count < 3 then (if r.acq.timeMode then 0 else firstAngle (d.cycleDeg r.acq.base) x.g0 x.r10 r.acq.tdca, 0, [])
    else qCompute r (d.image.qccf.vtab.getD r.comp.vtabsel []) (d.cycleDeg r.acq.base) x
  let mis := decide (x.count ≥ 3) && !r.acq.timeMode && decide (v.2.2.getD 2 0 < r.comp.misimep)
  ⟨if cause ≠ 0 then 2 else b2n x.coarse, cause, x.count, x.r10, x.range, v.1, v.2.1, v.2.2,
    mis, r.acq.timeMode, x.pegfb, x.ovld, x.tick, slot⟩

/-- The end of the computation (R147). A standby takes PREF from the mirror; a feed that has not closed its cycle is a
gap (R157). -/
def Dev.qFinish (d : Dev) (n : Nat) : Dev :=
  match (d.qc n).comp with
  | none => d
  | some x =>
    let gap := d.standby && !x.closed
    let x := if d.standby then { x with pref := (d.qc n).mirPref } else x
    let x := if gap then x.fail 9 else x
    let d := if gap then d.flagEv R.QCH_STAT 17 78 else d
    let h := d.qHold n x
    let d := d.setQc n (fun c => { c with comp := none, held := some h })
    if x.missed then d.qReleaseHeld n h true else d

/-- CYCLE_COMPUTED (R147): the device that acquires holds the results; a standby computes at the release, with the
PREF and the codes that have come by then (R157; log entry 65). -/
def Dev.qComputed (d : Dev) (n : Nat) : Dev := if d.standby then d else d.qFinish n

/-- The held results at a RANGE entry without a completed test (R147). -/
def Dev.qTestMiss (d : Dev) (n : Nat) : Dev :=
  let d := if d.standby then d.qFinish n else d
  match (d.qc n).held with
  | some h => d.qReleaseHeld n h true
  | none => d.setQc n (fun c => { c with comp := c.comp.map (fun x => { x with missed := true }) })

/-- Whether the channel's cycles run: in TIME mode always, in ANGLE mode with its base in SYNC (R87, R159). -/
def Dev.qCycles (d : Dev) (n : Nat) : Bool := (d.qrec n).acq.timeMode || d.inSync (d.qrec n).acq.base

/-- RANGE: the channel's cycle boundary (R136, R139, R143, R147); the first one of a channel that is ON opens its first
cycle (R87, R159). -/
def Dev.qRange (d : Dev) (n : Nat) (fb late : Bool) : Dev :=
  let d := d.qTestMiss n
  let d := if (d.qc n).open_ (d.qrec n).acq 1 then d.qWinErr n
    else if fb || d.qCycles n then d.qApplyRange n else d
  let d := d.qChoose n
  let d := if d.qOn n && d.qCycles n then d.setQc n (fun c => { c with started := true }) else d
  (d.setCyc n (fun x => { x with inRange := true })).qLate n late

/-- RANGE_RESET_END: the reset switch opens after the range change, and waiting points convert
(R143). -/
def Dev.qRangeEnd (d : Dev) (n : Nat) : Dev :=
  d.setQc n (fun c => if c.ranging then ({ c with ranging := false }).nextConv else c)

/-- Auto-ranging at CYCLE (R144). -/
def Dev.qAuto (d : Dev) (n : Nat) (x : QCycle) : Dev :=
  let a := (d.qrec n).acq
  if !a.auto then d
  else
    let rg := d.rdF (R.QCH_RANGE n) F.QCH_RANGE_RANGE
    let put := fun (d : Dev) (v : Nat) =>
      ((d.wbWrite (R.QCH_RANGE n) qRangeMask (BitVec.ofNat 32 v)).incF (R.QCH_CNT n)
        F.QCH_CNT_AUTOCHG).raise 73
    let peak := x.codes.foldl (fun m c => max m c.1.natAbs) 0
    if x.ovld && rg < 3 then (put d (rg + 1)).setQc n (fun c => { c with small := 0 })
    else if x.count = 0 then d
    else if peak ≤ 1638 then
      let k := (d.qc n).small + 1
      if k ≥ a.autocnt ∧ rg > 0 then (put d (rg - 1)).setQc n (fun c => { c with small := 0 })
      else d.setQc n (fun c => { c with small := satInc 255 c.small })
    else d.setQc n (fun c => { c with small := 0 })

/-- The current tick count of the dome (R435). -/
def Dev.tick48 (d : Dev) : Nat :=
  d.dom.count

/-- CYCLE: the cycle ends, and its computation starts (R136, R144, R147, R151). A CYCLE before the channel's first
cycle has none to end (R87, R159). -/
def Dev.qCycle (d : Dev) (n : Nat) (late : Bool) : Dev :=
  let d := d.qLate n late
  let d := if (d.qc n).open_ (d.qrec n).acq 1 then (d.qCloseKind n 1).qWinErr n else d
  if !(d.qc n).started then d.setCyc n (fun _ => QCycle.empty)
  else
    let p := d.pegRef (d.qrec n).comp
    let d := if p.2 then d.flagEv (R.QCH_STS n) 17 72 else d
    let c := d.qc n
    let x := { c.cyc with pref := p.1, pegfb := p.2, tick := d.tick48, inRange := false }
    let d := d.qAuto n x
    let waits := c.conv.isSome || !c.wait.isEmpty
    let d := if d.standby || waits then d else d.qFeedEnd n x true
    let d := d.setQc n (fun c => { c with
      cyc := QCycle.empty, pref := p.1, conv := c.conv.map (fun y => { y with old := true })
      wait := c.wait.map (fun y => { y with old := true }), comp := none })
    if x.count = 0 ∧ ¬ waits ∧ ¬ d.standby then d.qReleaseHeld n (d.qHold n x) false
    else d.setQc n (fun c => { c with comp := some x })

/-- QCH_CONVERSION_DONE (R140, R142). -/
def Dev.qConvDone (d : Dev) (n : Nat) (code : BitVec 16) (ovl : Bool) : Dev :=
  match (d.qc n).conv with
  | none => d
  | some p =>
    let v := code.toInt
    let ov := ovl || v == -32768 || v == 32767
    let v := if ovl then satS 16 v else v
    let d := d.setQc n (fun c => { c with conv := none })
    let d := d.qStore n p.j p.old p.kn v ov
    let d := d.setQc n QChan.nextConv
    let c := d.qc n
    let more := c.conv.any QPoint.old || c.wait.any QPoint.old
    if p.old && !more then d.qFeedEnd n (c.comp.getD QCycle.empty) true else d

/-- A SAMPLE entry on a charge channel (R154): the spot register (R154). -/
def Dev.qSpot (d : Dev) (n : Nat) (code : BitVec 16) (late : Bool) : Dev :=
  let d := d.qLate n late
  if d.qRstClosed n || !d.qOn n then d
  else d.wrFs (R.QCH_SPOT n) [(F.QCH_SPOT_CODE, code.toNat), (F.QCH_SPOT_VALID, 1)]

/-! The test sequence (R145 to R147) -/

/-- The outcome of a test sequence (R146): PASS 0, or the status to release. -/
def testOutcome (cmin cmax leakq : Int) (c0 c1a c1 c2 q : Int) : Nat :=
  let cin := divRound ((c1 - c0) * q) (32768 * 100)
  let leak := divRound ((c1 - c1a).natAbs * q) 32768
  if (c0).natAbs > 328 ∨ (c2 - c0).natAbs > 328 then 6
  else if cin < cmin then 4
  else if leak > leakq then 5
  else if cin > cmax then 4
  else 0

/-- CIN and LEAK in QCH_RESn_7: LEAK saturates; a CIN that its field does not hold has no stated
value (log entry 11). -/
def Dev.qCin (d : Dev) (n : Nat) (c0 c1a c1 q : Int) : Dev :=
  let cin := divRound ((c1 - c0) * q) (32768 * 100)
  let leak := divRound ((c1 - c1a).natAbs * q) 32768
  let x := d.fit 16 false cin
  x.2.wr (R.QCH_RES n 7) (BitVec.ofNat 32 ((min leak 65535).toNat * 65536 + x.1))

/-- What a test outcome releases (R147). -/
def Dev.qTestRelease (d : Dev) (n out : Nat) : Dev :=
  let d := d.qFinish n
  let c := d.qc n
  let d := d.setQc n (fun c => { c with testBad := out != 0, lastOut := out })
  if c.quietRel then d
  else
    let d' := d.setQc n (fun c => { c with quietRel := c.test.any (fun t => t.window.isSome), held := none })
    if out ≠ 0 then d'.qRelease n out 0 c.held false
    else match c.held with
      | some h => d'.qRelease n h.status h.cause (some h) false
      | none =>
        if c.testBad ∧ ¬ d.qCycles n then d'.qRelease n 3 0 none false
        else d

/-- TEST_SEQUENCE_DONE (R145 to R147); a standby tests its internal capacitor for the health report
(R157). -/
def Dev.qTestDone (d : Dev) (n : Nat) (c0 c1a c1 c2 : BitVec 16) : Dev :=
  match (d.qc n).test with
  | none => d
  | some t =>
    let a := (d.qrec n).acq
    let q := qfs (d.rdF (R.QCH_RANGE n) F.QCH_RANGE_RANGE)
    let d := d.qCin n c0.toInt c1a.toInt c1.toInt q
    let now := d.clk
    let fin := fun (d : Dev) => d.setQc n (fun c => { c with test := none, testAt := some now })
    if d.standby then
      let out := testOutcome 80 120 a.leakq c0.toInt c1a.toInt c1.toInt c2.toInt q
      fin ((d.setQc n (fun c => { c with selfBad := out ≠ 0, test := some t })).qTestRelease n 0)
    else
      fin (d.qTestRelease n (testOutcome a.cmin a.cmax a.leakq c0.toInt c1a.toInt c1.toInt c2.toInt q))

/-! Feed, synchronisation, power -/

/-- The codes of a feed element with their overload bits. -/
def feedCodes (bytes : List Byte) : List (Int × Bool) :=
  (List.range (min (uAt bytes 2 2) 1920)).map (fun i =>
    (sAt bytes (16 + 2 * i) 2, bitOf (byteAt bytes (3856 + i / 8)) (i % 8)))

/-- FEED_ELEMENT: the standby fills its ring and its cycle from the feed; a gap in the element
sequence, or a cycle whose opening did not come, makes the cycle INVALID, cause FEED (R157, R359). -/
def Dev.qFeedIn (d : Dev) (bytes : List Byte) : Dev :=
  let n := byteAt bytes 0
  if n ≥ 12 ∨ ¬ d.standby then d
  else
    let seq := uAt bytes 12 4
    let old := (d.qc n).comp.any (fun x => !x.closed)
    let cut := !bitOf (byteAt bytes 1) 0 && uAt bytes 2 2 != 0
      && (if old then (d.qc n).comp.getD QCycle.empty else (d.qc n).cyc).count == 0
    let gap := cut || (d.qc n).feedIn.any (fun k => k != seq)
    let d := d.setQc n (fun c => { c with feedIn := some ((seq + 1) % 2 ^ 32) })
    let d := if gap then
        (d.setQc n (fun c => if old then { c with comp := c.comp.map (QCycle.fail · 9) }
          else { c with cyc := c.cyc.fail 9 })).flagEv R.QCH_STAT 17 78
      else d
    let mark := fun (f : QCycle → QCycle) (d : Dev) => d.setQc n (fun c =>
      if old then { c with comp := c.comp.map f } else { c with cyc := f c.cyc })
    let d := mark (fun x => { x with r10 := byteAt bytes 6, range := byteAt bytes 7 }) d
    let d := if bitOf (byteAt bytes 1) 3 then mark (QCycle.fail · 2) d else d
    let first := uAt bytes 4 2
    let pts := ((if old then ((d.qc n).comp.getD QCycle.empty) else (d.qc n).cyc)).points
    let d := (List.zip (List.range 1920) (feedCodes bytes)).foldl (fun d x =>
      let kn := (pts.find? (fun p => p.1 == first + x.1)).any (fun p => p.2)
      d.qStore n (first + x.1) old kn x.2.1 x.2.2) d
    if bitOf (byteAt bytes 1) 1 then mark (fun x => { x with closed := true }) d else d

/-- An open cycle thrown away with its waiting points. -/
def Dev.qDropCycle (d : Dev) (n : Nat) : Dev :=
  d.setQc n (fun c => { c with cyc := QCycle.empty, comp := none, held := none, conv := none,
                               wait := [], feed := none })

/-- A channel whose base leaves SYNC (R85, R152): STANDSTILL releases NOTRUN, any other cause INVALID
with LOSS. -/
def Dev.qLeaveSync (d : Dev) (n : Nat) (still : Bool) : Dev :=
  let d := (List.range 8).foldl (fun d w => if bitOf (d.qc n).win w then d.qCloseWin n w else d) d
  let d := (d.qDropCycle n).setQc n (fun c => { c with started := false })
  if still then d.qRelease n 3 0 none false else d.qRelease n 2 4 none false

/-- The channels of a base leave SYNC with it. -/
def Dev.qLeaveBase (d : Dev) (b : Nat) (still : Bool) : Dev :=
  (List.range 12).foldl (fun d n =>
    let a := (d.qrec n).acq
    if a.pwren && !a.timeMode && a.base == b then d.qLeaveSync n still else d) d

/-- The grid points at or below a count, for the resolution `r10` and a cycle of `c` °CA: point j lies at
(j × 2^20 × 10r) div (C × 10) (R93). -/
def gridBelow (c r10 count : Nat) : Nat := ((count + 1) * (c * 10) + 2 ^ 20 * r10 - 1) / (2 ^ 20 * r10)

/-- The grid points that a move from `c0` to `c1` passes, in their order. -/
def gridPoints (c r10 c0 c1 : Nat) : List Nat :=
  let span := fun (a b : Nat) => (List.range (b - a)).map (· + a)
  if c0 ≤ c1 then span (gridBelow c r10 c0) (gridBelow c r10 c1)
  else span (gridBelow c r10 c0) (c * 10 / r10) ++ span 0 (gridBelow c r10 c1)

/-- Whether a channel runs on a base: an ANGLE channel on the base of its record, a TIME channel on every base that an
entry of its own lies on (R138, R141). -/
def Dev.qOnBase (d : Dev) (n b : Nat) : Bool :=
  let a := (d.qrec n).acq
  if a.timeMode then d.image.schd.any (fun e => e.target == 64 + n && e.base == b) else a.base == b

/-- A jump of a base makes the cycles with an open ACQ window INVALID, cause LATE; grid points passed before the first
code leave positions of the ring that the first code fills (R141). -/
def Dev.qJump (d : Dev) (b c0 c1 : Nat) : Dev :=
  (List.range 12).foldl (fun d n =>
    let a := (d.qrec n).acq
    let c := d.qc n
    if d.qOnBase n b && c.open_ a 1 then
      let k := if a.timeMode ∨ c.taken ≠ 0 then 0 else (gridPoints (d.cycleDeg b) (max 1 c.cyc.r10) c0 c1).length
      (d.qCause n 2).setCyc n (fun x => { x with lead := x.lead + k })
    else d) d

/-- The power of a channel leaves ON: windows close, a test is cut, and OFF is released (R135, R136,
R145). -/
def Dev.qPowerLost (d : Dev) (n : Nat) : Dev :=
  let d := d.qCutTest n
  let d := (d.qDropCycle n).setQc n (fun c => { c with win := 0, ranging := false, started := false })
  d.qRelease n 9 0 none false

/-- A change of the token: cycles with an open ACQ window are INVALID, cause ROLE, and sampling goes on with the next
opening (R158). -/
def Dev.qRoleChange (d : Dev) : Dev :=
  (List.range 12).foldl (fun d n =>
    if (d.qc n).open_ (d.qrec n).acq 1 then
      (d.qCause n 6).setQc n (fun c => { c with blocked := true })
    else d) d

/-- Image swap of a channel whose record or entries changed (R95, R160). -/
def Dev.qSwapOut (d : Dev) (n : Nat) : Dev :=
  let d := if (d.qc n).open_ (d.qrec n).acq 1 then
      let d := d.qCause n 5
      d.qRelease n 2 (d.qc n).cyc.cause (some (d.qHold n (d.qc n).cyc)) false
    else d
  let d := d.qCutTest n
  (d.qDropCycle n).setQc n (fun c => { c with win := 0, inv := 0, small := 0, lastMiss := false, started := false })

/-! Delivery (R16, R17, R149) -/

/-- The status and the result words of a channel as its registers hold them. -/
def Dev.qShown (d : Dev) (n : Nat) : Nat × List Word :=
  (d.rdF (R.QCH_STS n) F.QCH_STS_STATUS, (List.range 7).map (fun w => d.rd (R.QCH_RES n w)))

/-- The combustion results at a sample latch: one that an earlier latch took and no completed turn consumed is taken
again; else the latest release since (R16, R17). -/
def Dev.qLatch (d : Dev) : Dev :=
  (List.range 12).foldl (fun d n =>
    let c := d.qc n
    if c.offer.isNone && c.released then
      let v := d.qShown n
      d.setQc n (fun c => { c with offer := some v, released := false })
    else d) d

/-- The combustion results latched are consumed (R17). -/
def Dev.qConsumed (d : Dev) : Dev :=
  (List.range 12).foldl (fun d n => d.setQc n (fun c => { c with offer := none })) d

/-- A combustion result as the lattice sees it: the one on offer, else the last released. -/
def Dev.qSeen (d : Dev) (n : Nat) : Nat × List Word := (d.qc n).offer.getD (d.qShown n)

end Sys2Proof.Machine
end

