-- ==== Sys2Proof/Machine/Float.lean ====
section
/-!
DEFINITION. IEEE 754 binary64 arithmetic as the value procedures declare it (R113, R168, R198):
numbers m × 2^e with a mantissa of at most 53 bits, every operation rounded to nearest, ties to
even. Infinities do not arise from the procedures' inputs; a division by zero or the root of a negative
number has no result.
-/
namespace Sys2Proof.Machine

/-- The number of bits of a natural number. -/
def bitLen (n : Nat) : Nat := if n = 0 then 0 else Nat.log2 n + 1

/-- m × 2^e rounded to the nearest binary64 number, ties to even. -/
def F64.round (m : Int) (e : Int) : F64 :=
  let a := m.natAbs
  let sh := max ((bitLen a : Int) - 53) (-1074 - e)
  if sh ≤ 0 then ⟨m, e⟩
  else
    let s := sh.toNat
    let q := a / 2 ^ s
    let r := a % 2 ^ s
    let up := 2 * r > 2 ^ s || (2 * r == 2 ^ s && q % 2 == 1)
    let q := if up then q + 1 else q
    ⟨if m < 0 then -(q : Int) else q, e + sh⟩

/-- An integer as a binary64 number. -/
def F64.ofInt (n : Int) : F64 := F64.round n 0

/-- Zero. -/
def F64.zero : F64 := ⟨0, 0⟩

/-- m × 2^e with the exponent lowered to `e`. -/
def F64.atExp (x : F64) (e : Int) : Int := x.m * 2 ^ (x.e - e).toNat

/-- Addition. -/
def F64.add (x y : F64) : F64 :=
  let e := min x.e y.e
  F64.round (x.atExp e + y.atExp e) e

/-- Subtraction. -/
def F64.sub (x y : F64) : F64 := x.add ⟨-y.m, y.e⟩

/-- Multiplication. -/
def F64.mul (x y : F64) : F64 := F64.round (x.m * y.m) (x.e + y.e)

/-- Division by a number that is not zero. -/
def F64.divPos (x y : F64) : F64 :=
  let k := 60 + bitLen y.m.natAbs
  let n := x.m.natAbs * 2 ^ k
  let q := 2 * (n / y.m.natAbs) + (if n % y.m.natAbs = 0 then 0 else 1)
  F64.round (if (x.m < 0) = (y.m < 0) then q else -(q : Int)) (x.e - y.e - k - 1)

/-- Division. -/
def F64.div (x y : F64) : Option F64 := if y.m = 0 then none else some (x.divPos y)

/-- The integer square root, bit by bit from bit `k`. -/
def isqrtFrom (n : Nat) : Nat → Nat → Nat
  | 0, r => r
  | k + 1, r => isqrtFrom n k (if (r + 2 ^ k) * (r + 2 ^ k) ≤ n then r + 2 ^ k else r)

/-- The square root of a number that is not negative. -/
def F64.sqrtPos (x : F64) : F64 :=
  let e := x.e - (120 + (x.e % 2))
  let n := x.m.natAbs * 2 ^ (x.e - e).toNat
  let r := isqrtFrom n (bitLen n / 2 + 1) 0
  F64.round (2 * r + (if r * r = n then 0 else 1)) (e / 2 - 1)

/-- Square root. -/
def F64.sqrt (x : F64) : Option F64 := if x.m < 0 then none else some x.sqrtPos

/-- Comparison: x < y. -/
def F64.lt (x y : F64) : Bool :=
  let e := min x.e y.e
  decide (x.atExp e < y.atExp e)

/-- The absolute value. -/
def F64.abs (x : F64) : F64 := ⟨x.m.natAbs, x.e⟩

/-- A decimal constant n × 10^-k. -/
def F64.dec (n : Int) (k : Nat) : F64 := (F64.ofInt n).divPos (F64.ofInt (10 ^ k))

/-- Rounding to the nearest integer, halves away from zero. -/
def F64.toInt (x : F64) : Int :=
  if x.e ≥ 0 then x.m * 2 ^ x.e.toNat else divRound x.m (2 ^ (-x.e).toNat)

end Sys2Proof.Machine
end

