-- ==== Sys2Proof/Machine/Thermo.lean ====
section
/-!
DEFINITION. The functions of IEC 60584-1 that R113 names (PRESUMED; log entry 9): the reference polynomials of the eight
thermocouple types in mV for °C, with type K's exponential term, and the inverse polynomials in °C for mV. A piece holds
its lower bound and its coefficients from the constant term up; a number n × 10^-k stands as (n, k).
-/
namespace Sys2Proof.Machine

/-- The binary64 number nearest to n × 10^-k. -/
def F64.lit (n : Int) (k : Nat) : F64 := F64.divPos ⟨n, 0⟩ ⟨(10 : Int) ^ k, 0⟩

/-- A piece of a piecewise polynomial: its lower bound and its coefficients. -/
structure TcPiece where
  low : Int × Nat
  coef : List (Int × Nat)

/-- The reference function of type B. -/
def tcRefB : List TcPiece :=
  [⟨(0, 0), [(0, 0), (-24650818346, 14), (59040421171, 16), (-13257931636, 19), (15668291901, 22), (-1694452924, 24),
      (62990347094, 29)]⟩,
   ⟨(630615, 3), [(-38938168621, 10), (2857174747, 11), (-84885104785, 15), (15785280164, 17), (-16835344864, 20),
      (11109794013, 23), (-44515431033, 27), (98975640821, 31), (-93791330289, 35)]⟩]

/-- The reference function of type E. -/
def tcRefE : List TcPiece :=
  [⟨(-270, 0), [(0, 0), (58665508708, 12), (45410977124, 15), (-77998048686, 17), (-25800160843, 18), (-59452583057, 20),
      (-93214058667, 22), (-10287605534, 23), (-80370123621, 26), (-43979497391, 28), (-16414776355, 30),
      (-39673619516, 33), (-55827328721, 36), (-34657842013, 39)]⟩,
   ⟨(0, 0), [(0, 0), (5866550871, 11), (45032275582, 15), (28908407212, 18), (-33056896652, 20), (6502440327, 22),
      (-19197495504, 26), (-12536600497, 28), (21489217569, 31), (-14388041782, 34), (35960899481, 38)]⟩]

/-- The reference function of type J. -/
def tcRefJ : List TcPiece :=
  [⟨(-210, 0), [(0, 0), (50381187815, 12), (3047583693, 14), (-8568106572, 17), (13228195295, 20), (-17052958337, 23),
      (20948090697, 26), (-12538395336, 29), (15631725697, 33)]⟩,
   ⟨(760, 0), [(29645625681, 8), (-14976127786, 10), (31787103924, 13), (-31847686701, 16), (15720819004, 19),
      (-30691369056, 23)]⟩]

/-- The reference function of type K. -/
def tcRefK : List TcPiece :=
  [⟨(-270, 0), [(0, 0), (39450128025, 12), (23622373598, 15), (-32858906784, 17), (-49904828777, 19), (-67509059173, 21),
      (-57410327428, 23), (-31088872894, 25), (-10451609365, 27), (-19889266878, 30), (-16322697486, 33)]⟩,
   ⟨(0, 0), [(-17600413686, 12), (38921204975, 12), (18558770032, 15), (-99457592874, 18), (31840945719, 20),
      (-56072844889, 23), (56075059059, 26), (-32020720003, 29), (97151147152, 33), (-12104721275, 36)]⟩]

/-- The reference function of type N. -/
def tcRefN : List TcPiece :=
  [⟨(-270, 0), [(0, 0), (26159105962, 12), (10957484228, 15), (-93841111554, 18), (-46412039759, 21), (-26303357716, 22),
      (-22653438003, 24), (-76089300791, 27), (-93419667835, 30)]⟩,
   ⟨(0, 0), [(0, 0), (25929394601, 12), (1571014188, 14), (43825627237, 18), (-25261169794, 20), (64311819339, 23),
      (-10063471519, 25), (99745338992, 29), (-60863245607, 32), (20849229339, 35), (-30682196151, 39)]⟩]

/-- The reference function of type R. -/
def tcRefR : List TcPiece :=
  [⟨(-50, 0), [(0, 0), (528961729765, 14), (139166589782, 16), (-238855693017, 19), (356916001063, 22),
      (-462347666298, 25), (500777441034, 28), (-373105886191, 31), (157716482367, 34), (-281038625251, 38)]⟩,
   ⟨(106418, 2), [(295157925316, 11), (-252061251332, 14), (159564501865, 16), (-764085947576, 20), (205305291024, 23),
      (-293359668173, 27)]⟩,
   ⟨(16645, 1), [(152232118209, 9), (-268819888545, 12), (171280280471, 15), (-345895706453, 19), (-934633971046, 26)]⟩]

/-- The reference function of type S. -/
def tcRefS : List TcPiece :=
  [⟨(-50, 0), [(0, 0), (540313308631, 14), (12593428974, 15), (-232477968689, 19), (322028823036, 22),
      (-331465196389, 25), (255744251786, 28), (-125068871393, 31), (271443176145, 35)]⟩,
   ⟨(106418, 2), [(132900444085, 11), (334509311344, 14), (654805192818, 17), (-164856259209, 20), (129989605174, 25)]⟩,
   ⟨(16645, 1), [(146628232636, 9), (-258430516752, 12), (163693574641, 15), (-330439046987, 19), (-943223690612, 26)]⟩]

/-- The reference function of type T. -/
def tcRefT : List TcPiece :=
  [⟨(-270, 0), [(0, 0), (38748106364, 12), (44194434347, 15), (11844323105, 17), (20032973554, 18), (90138019559, 20),
      (22651156593, 21), (36071154205, 23), (38493939883, 25), (28213521925, 27), (14251594779, 29),
      (48768662286, 32), (1079553927, 33), (13945027062, 37), (79795153927, 41)]⟩,
   ⟨(0, 0), [(0, 0), (38748106364, 12), (3329222788, 14), (20618243404, 17), (-21882256846, 19), (10996880928, 21),
      (-30815758772, 24), (4547913529, 26), (-27512901673, 30)]⟩]

/-- The inverse polynomials of type B. -/
def tcInvB : List TcPiece :=
  [⟨(291, 3), [(98423321, 6), (699715, 3), (-84765304, 5), (10052644, 4), (-83345952, 5), (45508542, 5), (-15523037, 5),
      (2988675, 5), (-2474286, 6)]⟩,
   ⟨(2431, 3), [(21315071, 5), (28510504, 5), (-52742887, 6), (99160804, 7), (-12965303, 7), (1119587, 7), (-60625199, 10),
      (18661696, 11), (-24878585, 13)]⟩]

/-- The inverse polynomials of type E. -/
def tcInvE : List TcPiece :=
  [⟨(-8825, 3), [(0, 0), (16977288, 6), (-4351497, 7), (-15859697, 8), (-92502871, 9), (-26084314, 9), (-41360199, 10),
      (-3403403, 10), (-1156489, 11)]⟩,
   ⟨(0, 0), [(0, 0), (17057035, 6), (-23301759, 8), (65435585, 10), (-73562749, 12), (-17896001, 13), (84036165, 15),
      (-13735879, 16), (10629823, 18), (-32447087, 21)]⟩]

/-- The inverse polynomials of type J. -/
def tcInvJ : List TcPiece :=
  [⟨(-8095, 3), [(0, 0), (19528268, 6), (-12286185, 7), (-10752178, 7), (-59086933, 8), (-17256713, 8), (-28131513, 9),
      (-2396337, 9), (-83823321, 12)]⟩,
   ⟨(0, 0), [(0, 0), (1978425, 5), (-2001204, 7), (1036969, 8), (-2549687, 10), (3585153, 12), (-5344285, 14),
      (509989, 15)]⟩,
   ⟨(42919, 3), [(-311358187, 5), (300543684, 6), (-99477323, 7), (17027663, 8), (-143033468, 11), (473886084, 14)]⟩]

/-- The inverse polynomials of type K. -/
def tcInvK : List TcPiece :=
  [⟨(-5891, 3), [(0, 0), (25173462, 6), (-11662878, 7), (-10833638, 7), (-8977354, 7), (-37342377, 8), (-86632643, 9),
      (-10450598, 9), (-51920577, 11)]⟩,
   ⟨(0, 0), [(0, 0), (2508355, 5), (7860106, 8), (-2503131, 7), (831527, 7), (-1228034, 8), (9804036, 10),
      (-441303, 10), (1057734, 12), (-1052755, 14)]⟩,
   ⟨(20644, 3), [(-1318058, 4), (4830222, 5), (-1646031, 6), (5464731, 8), (-9650715, 10), (8802193, 12), (-311081, 13)]⟩]

/-- The inverse polynomials of type N. -/
def tcInvN : List TcPiece :=
  [⟨(-399, 2), [(0, 0), (38436847, 6), (11010485, 7), (52229312, 7), (72060525, 7), (58488586, 7), (27754916, 7),
      (77075166, 8), (11582665, 8), (73138868, 10)]⟩,
   ⟨(0, 0), [(0, 0), (386896, 4), (-108267, 5), (470205, 7), (-212169, 11), (-117272, 9), (53928, 10), (-798156, 13)]⟩,
   ⟨(20613, 3), [(1972485, 5), (3300943, 5), (-3915159, 7), (9855391, 9), (-1274371, 10), (7767022, 13)]⟩]

/-- The inverse polynomials of type R. -/
def tcInvR : List TcPiece :=
  [⟨(-226, 3), [(0, 0), (1889138, 4), (-9383529, 5), (13068619, 5), (-2270358, 4), (35145659, 5), (-389539, 3),
      (28239471, 5), (-12607281, 5), (31353611, 6), (-33187769, 7)]⟩,
   ⟨(1923, 3), [(1334584505, 8), (1472644573, 7), (-1844024844, 8), (4031129726, 9), (-624942836, 9), (6468412046, 11),
      (-4458750426, 12), (1994710149, 13), (-531340179, 14), (6481976217, 17)]⟩,
   ⟨(11361, 3), [(-8199599416, 8), (1553962042, 7), (-8342197663, 9), (4279433549, 10), (-119157791, 10), (1492290091, 13)]⟩,
   ⟨(19739, 3), [(3406177836, 5), (-7023729171, 6), (5582903813, 7), (-1952394635, 8), (2560740231, 10)]⟩]

/-- The inverse polynomials of type S. -/
def tcInvS : List TcPiece :=
  [⟨(-235, 3), [(0, 0), (18494946, 5), (-800504062, 7), (10223743, 5), (-152248592, 6), (188821343, 6), (-159085941, 6),
      (82302788, 6), (-234181944, 7), (27978626, 7)]⟩,
   ⟨(1874, 3), [(1291507177, 8), (1466298863, 7), (-1534713402, 8), (3145945973, 9), (-4163257839, 10), (3187963771, 11),
      (-12916375, 10), (2183475087, 14), (-1447379511, 16), (8211272125, 18)]⟩,
   ⟨(10332, 3), [(-8087801117, 8), (1621573104, 7), (-8536869453, 9), (4719686976, 10), (-1441693666, 11), (208161889, 12)]⟩,
   ⟨(17536, 3), [(5333875126, 5), (-1235892298, 5), (1092657613, 6), (-4265693686, 8), (624720542, 9)]⟩]

/-- The inverse polynomials of type T. -/
def tcInvT : List TcPiece :=
  [⟨(-5603, 3), [(0, 0), (25949192, 6), (-21316967, 8), (79018692, 8), (42527777, 8), (13304473, 8), (20241446, 9),
      (12668171, 10)]⟩,
   ⟨(0, 0), [(0, 0), (25928, 3), (-7602961, 7), (4637791, 8), (-2165394, 9), (6048144, 11), (-7293422, 13)]⟩]

/-- The types by subtype code (R109): B, E, J, K, N, R, S, T. -/
def tcReference : List (List TcPiece) := [tcRefB, tcRefE, tcRefJ, tcRefK, tcRefN, tcRefR, tcRefS, tcRefT]
def tcInverses : List (List TcPiece) := [tcInvB, tcInvE, tcInvJ, tcInvK, tcInvN, tcInvR, tcInvS, tcInvT]

/-- The coefficients of the last piece that begins at or below x, of the first piece below all of them. -/
def tcPiece (ps : List TcPiece) (x : F64) : List F64 :=
  let p := ps.foldl (fun a p => if x.lt (F64.lit p.low.1 p.low.2) then a else p.coef) ((ps.head?.map TcPiece.coef).getD [])
  p.map (fun c => F64.lit c.1 c.2)

/-- A polynomial by Horner's rule. -/
def F64.poly (cs : List F64) (x : F64) : F64 := cs.foldr (fun c r => (r.mul x).add c) F64.zero

/-- The coefficients of a polynomial's derivative. -/
def polyDeriv (cs : List F64) : List F64 := (cs.mapIdx (fun i c => c.mul (F64.ofInt i))).tail

/-- Partial sums of exp(-a) for a = n/S: `t` is the last term, `i` its index. -/
def expSum (S a : Nat) : Nat → Nat → Int → Int → Int
  | 0, _, _, s => s
  | k + 1, i, t, s =>
    let t := -(t * a / (S * (i + 1) : Nat))
    expSum S a k (i + 1) t (s + t)

/-- exp(x) for x ≤ 0, rounded to the nearest binary64 number: exp(x / 1024) by its series in steps of 2^-512, squared
ten times. -/
def F64.expNeg (x : F64) : F64 :=
  let S := 2 ^ 512
  let a := (-(x.m * 2 ^ (502 + x.e).toNat)) / 2 ^ (-(502 + x.e)).toNat
  let r := expSum S a.toNat 30 0 S S
  F64.round ((List.range 10).foldl (fun r _ => r * r / S) r) (-512)

/-- Type K's exponential term at t, and its derivative (R113): a0 exp(a1 (t - a2)²). -/
def tcExpK (t : F64) : F64 × F64 :=
  let a1 := F64.lit (-1183432) 10
  let u := t.sub (F64.lit 1269686 4)
  let y := (F64.lit 1185976 7).mul ((a1.mul (u.mul u)).expNeg)
  (y, y.mul ((F64.ofInt 2).mul (a1.mul u)))

/-- Whether the exponential term counts: type K from 0 °C on. -/
def tcHasExp (ty : Nat) (t : F64) : Bool := ty == 3 && !t.lt F64.zero

/-- E_type (R113): volts for °C. -/
def tcVoltage (ty : Nat) (t : F64) : F64 :=
  let v := F64.poly (tcPiece (tcReference.getD ty []) t) t
  (if tcHasExp ty t then v.add (tcExpK t).1 else v).divPos (F64.ofInt 1000)

/-- dE_type (R113): volts per °C. -/
def tcDerivative (ty : Nat) (t : F64) : F64 :=
  let v := F64.poly (polyDeriv (tcPiece (tcReference.getD ty []) t)) t
  (if tcHasExp ty t then v.add (tcExpK t).2 else v).divPos (F64.ofInt 1000)

/-- The inverse polynomial of a type (R113): °C for volts. -/
def tcInverse (ty : Nat) (e : F64) : F64 :=
  let mv := e.mul (F64.ofInt 1000)
  F64.poly (tcPiece (tcInverses.getD ty []) mv) mv

end Sys2Proof.Machine
end

