-- ==== Sys2Proof/Machine/Universal.lean ====
section
/-!
DEFINITION. The universal inputs (R99 to R132): scan steps, conversion arithmetic, post-check,
releases, cold junctions, excitation and the analogue monitor outputs.
-/
namespace Sys2Proof.Machine

/-- An absent channel's record: OFF. -/
def UiChan.empty : UiChan := ⟨0, 0, 0, 0, 0, 7, 0, 0, 0, 0, 1, 0⟩

/-- An absent converter's record: OFF. -/
def UiConv.empty : UiConv := ⟨0, 1, 0, []⟩

/-- The record of UIn (R130). -/
def Dev.urec (d : Dev) (n : Nat) : UiChan := d.image.uicf.chans.getD n UiChan.empty

/-- The record of SCm (R130). -/
def Dev.uconv (d : Dev) (m : Nat) : UiConv := d.image.uicf.convs.getD m UiConv.empty

/-- Step k of a converter's list. -/
def UiConv.stepAt (r : UiConv) (k : Nat) : UiStep := r.steps.getD k ⟨2, false, 0, 0, 0⟩

/-- The state of SCm. -/
def Dev.scan (d : Dev) (m : Nat) : UScan := d.uin.scans.getD m UScan.empty

/-- The PHASE field that shows a phase. -/
def UScan.shown (s : UScan) : Nat :=
  if s.phase = 1 then 1 else if s.phase = 3 ∨ s.phase = 4 then 2 else if s.phase = 5 then 3 else 0

/-- The device with a converter's state changed, and its STEP and PHASE shown. -/
def Dev.setScan (d : Dev) (m : Nat) (f : UScan → UScan) : Dev :=
  let d := { d with uin := { d.uin with scans := upd d.uin.scans m f } }
  d.wrFs (R.UIN_SCSTAT m) [(F.UIN_SCSTAT_STEP, (d.scan m).step), (F.UIN_SCSTAT_PHASE, (d.scan m).shown)]

/-- The device with a channel's state changed. -/
def Dev.setUch (d : Dev) (n : Nat) (f : UChan → UChan) : Dev :=
  { d with uin := { d.uin with chans := upd d.uin.chans n f } }

/-- Sensor-fault statuses (R118). -/
def uFault (st : Nat) : Bool := [5, 8, 7, 3, 4, 6].contains st

/-! Conversion arithmetic (R113) -/

/-- FS = 2^23. -/
def fullScale : F64 := F64.ofInt (2 ^ 23)

/-- A binary64 number that an opaque function answers. -/
def F64.ofPair (x : Int × Int) : F64 := F64.round x.1 x.2

/-- A, B and C of IEC 60751 (R113). -/
def cvdA : F64 := F64.dec 39083 7
def cvdB : F64 := F64.dec (-5775) 10
def cvdC : F64 := F64.dec (-4183) 15

/-- The Newton loop of cvd_inverse, at most `k` steps. -/
def cvdLoop (x : F64) : Nat → F64 → Option F64
  | 0, t => some t
  | k + 1, t =>
    let i := F64.ofInt
    let c3 := (((cvdC.mul (t.sub (i 100))).mul t).mul t).mul t
    let f := ((((i 1).add (cvdA.mul t)).add ((cvdB.mul t).mul t)).add c3).sub x
    let q := (((i 4).mul t).mul t).mul t
    let q := q.sub (((i 300).mul t).mul t)
    let df := (cvdA.add (((i 2).mul cvdB).mul t)).add (cvdC.mul q)
    match f.div df with
    | none => none
    | some dl =>
      let t := t.sub dl
      if dl.abs.lt (F64.dec 1 9) then some t else cvdLoop x k t

/-- cvd_inverse (R113); no result when the root has none. -/
def cvdInverse (x : F64) : Option F64 :=
  let i := F64.ofInt
  let disc := (cvdA.mul cvdA).sub (((i 4).mul cvdB).mul ((i 1).sub x))
  match disc.sqrt with
  | none => none
  | some s =>
    match ((⟨-cvdA.m, cvdA.e⟩ : F64).add s).div ((i 2).mul cvdB) with
    | none => none
    | some t => if x.lt (i 1) then cvdLoop x 8 t else some t

/-- The range of a thermocouple type in m°C (R114): B, E, J, K, N, R, S, T. -/
def tcRange (subtype : Nat) : Int × Int :=
  [(0, 1820000), (-270000, 1000000), (-210000, 1200000), (-270000, 1372000), (-270000, 1300000),
   (-50000, 1768100), (-50000, 1768100), (-270000, 400000)].getD subtype (0, 0)

/-- The Newton loop of e_inverse, at most `k` steps. -/
def tcLoop (ty : Nat) (e : F64) : Nat → F64 → Option F64
  | 0, t => some t
  | k + 1, t =>
    let ev := tcVoltage ty
    match ((ev t).sub e).div (tcDerivative ty t) with
    | none => none
    | some dl =>
      let t := t.sub dl
      if ((ev t).sub e).abs.lt (F64.dec 1 8) then some t else tcLoop ty e k t

/-- e_inverse (R113). -/
def tcInv (ty : Nat) (e : F64) : Option F64 :=
  let t := tcInverse ty e
  let lo := F64.dec (tcRange ty).1 3
  let hi := F64.dec (tcRange ty).2 3
  tcLoop ty e 8 (if t.lt lo then lo else if hi.lt t then hi else t)

/-- The front-end factor of a VOLT subtype (R109). -/
def voltFactor (sub : Nat) : F64 :=
  if sub = 0 then F64.ofInt 16 else if sub = 1 then F64.dec 8 1
  else (F64.ofInt 1).divPos (F64.ofInt 6)

/-- VOLT (R113): units of 10 nV. -/
def voltOut (sub : Nat) (code : Int) : Int :=
  ((((F64.ofInt code).mul (F64.dec 25 1)).divPos (fullScale.mul (voltFactor sub))).mul
    (F64.ofInt 100000000)).toInt

/-- BRIDGE (R113): nV/V. -/
def bridgeOut (gain : Nat) (code : Int) : Int :=
  (((F64.ofInt code).mul (F64.ofInt 1000000000)).divPos (fullScale.mul (F64.ofInt (2 ^ gain)))).toInt

/-- TC (R113): m°C, for a cold junction in m°C; no result when the inverse has none. -/
def tcOut (ty : Nat) (code cj : Int) : Option Int :=
  let v := ((F64.ofInt code).mul (F64.dec 25 1)).divPos (fullScale.mul (F64.ofInt 16))
  let tcj := (F64.ofInt cj).divPos (F64.ofInt 1000)
  let e := v.add (tcVoltage ty tcj)
  (tcInv ty e).map (fun t => (t.mul (F64.ofInt 1000)).toInt)

/-- The resistance of an RTD step in ohms (R113). -/
def rtdOhms (r : UiChan) (rref : Nat) (code lcode : Int) : F64 :=
  let ohm := F64.dec rref 3
  let den := fullScale.mul (F64.ofInt (2 ^ r.gain))
  let x := ((F64.ofInt code).mul ohm).divPos den
  let x := if r.wires = 2 then x.sub (((F64.ofInt lcode).mul ohm).divPos den) else x
  if r.wires = 1 then x.sub (F64.dec r.fixcj 3) else x

/-- The nominal resistance of an RTD subtype. -/
def rtdNominal (sub : Nat) : F64 := F64.ofInt (if sub = 0 then 100 else 1000)

/-- A temperature from a resistance: m°C (R113). -/
def rtdOut (nom ohms : F64) : Option Int :=
  (cvdInverse (ohms.divPos nom)).map (fun t => (t.mul (F64.ofInt 1000)).toInt)

/-- Whether a resistance reads as a short (R117). -/
def rtdShort (nom ohms : F64) : Bool := ohms.lt ((F64.dec 1 1).mul nom)

/-- The range of a channel in its unit (R114). -/
def uRange (r : UiChan) : Int × Int :=
  match r.mode with
  | 1 => tcRange r.subtype
  | 2 => (-200000, 850000)
  | 3 =>
    if r.subtype = 0 then (-10200000, 10200000)
    else if r.subtype = 1 then (-255000000, 255000000) else (-1224000000, 1224000000)
  | _ => (-(980000000 / 2 ^ r.gain : Nat), (980000000 / 2 ^ r.gain : Nat))

/-- A value with its range: clipped, with OVER, UNDER or GOOD (R114). -/
def clipRange (lo hi x : Int) : Nat × Int := if x > hi then (1, hi) else if x < lo then (2, lo) else (0, x)

/-! Steps (R103 to R107) -/

/-- A step starts: its multiplexer switches (R104). -/
def Dev.uStart (d : Dev) (m k : Nat) : Dev :=
  d.setScan m (fun s => { s with
    phase := 1, step := k, sampled := false, drop := false, diag := false, since := d.clk })

/-- Whether a converter's settling delay runs: its multiplexer has switched, for 2 µs (R104). -/
def Dev.uSettling (d : Dev) (m : Nat) : Bool :=
  (d.scan m).phase == 1 && decide (d.clk ≥ (d.scan m).since + 800)

/-- A step ends: a pass completes with step LEN − 1 (PASSES), and a FREE converter starts its next
step (R103). -/
def Dev.uNext (d : Dev) (m : Nat) : Dev :=
  let r := d.uconv m
  let s := d.scan m
  let d := if s.step + 1 = r.len then
      (d.wrF (R.UIN_SCCNT m) F.UIN_SCCNT_PASSES (d.rdF (R.UIN_SCCNT m) F.UIN_SCCNT_PASSES + 1)).raise (32 + m)
    else d
  if r.mode = 1 then d.uStart m (if s.step + 1 ≥ r.len then 0 else s.step + 1)
  else d.setScan m (fun s => { s with phase := 0 })

/-- The turn start: FREE converters that have not started begin with step 0 (R103). -/
def Dev.uinTurnStart (d : Dev) : Dev :=
  (List.range 4).foldl (fun d m =>
    if (d.uconv m).mode = 1 ∧ ¬ (d.scan m).running then
      (d.uStart m 0).setScan m (fun s => { s with running := true }) else d) d

/-- A MUX entry (R106). -/
def Dev.uMux (d : Dev) (m arg : Nat) : Dev :=
  let s := d.scan m
  let r := d.uconv m
  if r.mode ≠ 2 then d
  else if s.phase = 0 ∨ s.phase = 2 then
    d.uStart m (if arg = 0xFF then (if s.step + 1 ≥ r.len then 0 else s.step + 1) else arg)
  else (d.incF (R.UIN_SCCNT m) F.UIN_SCCNT_DROPS).flagEv (R.UIN_SCSTAT m) 21 48

/-- The channel of a CHAN step in progress. -/
def Dev.uChanOf (d : Dev) (m : Nat) : Option Nat :=
  let st := (d.uconv m).stepAt (d.scan m).step
  if st.kind = 0 then some st.chan else none

/-- The main conversion begins: a diagnostic request is taken, and a bridge step too soon after EXVn
switched is to be discarded (R112, R120, UIN_DIAGn). -/
def Dev.uConvert (d : Dev) (m : Nat) : Dev :=
  match d.uChanOf m with
  | none => d.setScan m (fun s => { s with phase := 3 })
  | some n =>
    let soon := (d.urec n).mode == 4
      && (match d.uin.exvSince.getD m none with | some t => decide (d.clk < t + 400000) | none => false)
    let req := d.rdF (R.UIN_DIAG n) F.UIN_DIAG_REQ == 1
    d.setScan m (fun s => { s with phase := 3, diag := req, drop := s.drop || soon })

/-- SETTLE_END: an AUTO step, or an ENTRY step whose SAMPLE was held, begins its conversion; another
ENTRY step waits (R104, R107). -/
def Dev.uSettleEnd (d : Dev) (m : Nat) : Dev :=
  let s := d.scan m
  if s.phase ≠ 1 then d
  else if ((d.uconv m).stepAt s.step).entryStart && !s.sampled then d.setScan m (fun s => { s with phase := 2 })
  else d.uConvert m

/-- A SAMPLE entry on a universal input (R107): held in the settling delay, without effect in the multiplexer switch
before it. -/
def Dev.uSample (d : Dev) (n : Nat) : Dev :=
  let m := n / 12
  let s := d.scan m
  let st := (d.uconv m).stepAt s.step
  let mine := st.kind == 0 && st.entryStart && st.chan == n
  if mine && d.uSettling m then d.setScan m (fun s => { s with sampled := true })
  else if mine && s.phase == 2 then d.uConvert m
  else (d.incF (R.UIN_SCCNT m) F.UIN_SCCNT_SKIPS).flagEv (R.UIN_SCSTAT m) 20 49

/-- Whether a channel is in conversion. -/
def Dev.uConverting (d : Dev) (n : Nat) : Bool :=
  let m := n / 12
  let s := d.scan m
  (s.phase == 3 || s.phase == 4) && d.uChanOf m == some n

/-- The mask of UIN_DIAGn's write-buffered field. -/
def uDiagMask : Word := 1

/-- DIAG_REQUEST: the write applies at the end of the channel's conversion in progress, or at once
(R43). -/
def Dev.uDiagRequest (d : Dev) (n : Nat) (req : Bool) : Dev :=
  let d := d.wbWrite (R.UIN_DIAG n) uDiagMask (BitVec.ofNat 32 (b2n req))
  if d.uConverting n then d else d.wbApply (R.UIN_DIAG n) uDiagMask

/-- The end of a channel's conversion applies its pending write (R43). -/
def Dev.uBoundary (d : Dev) (m : Nat) : Dev :=
  match d.uChanOf m with
  | some n => d.wbApply (R.UIN_DIAG n) uDiagMask
  | none => d

/-- UIN_CONVERSION_END: the main conversion ends; a 3-wire RTD converts its lead (R104). -/
def Dev.uConvEnd (d : Dev) (m : Nat) (code : BitVec 24) : Dev :=
  let s := d.scan m
  let st := (d.uconv m).stepAt s.step
  if s.phase ≠ 3 ∨ st.kind = 2 then d
  else
    let lead := st.kind == 0 && (d.urec st.chan).mode == 2 && (d.urec st.chan).wires == 2
    let d := d.setScan m (fun s => { s with phase := if lead then 4 else 5, code := code.toInt, lcode := 0 })
    if lead then d else d.uBoundary m

/-- LEAD_CONVERSION_END (R104, R110). -/
def Dev.uLeadEnd (d : Dev) (m : Nat) (code : BitVec 24) : Dev :=
  if (d.scan m).phase ≠ 4 then d
  else (d.setScan m (fun s => { s with phase := 5, lcode := code.toInt })).uBoundary m

/-! Releases (R116 to R121) -/

/-- The fault-map bit of a channel. -/
def Dev.uMap (d : Dev) (n : Nat) (b : Bool) : Dev :=
  if n < 32 then d.wrF R.UIN_FLTMAP_LO ⟨n, 1⟩ (b2n b) else d.wrF R.UIN_FLTMAP_HI ⟨n - 32, 1⟩ (b2n b)

/-- A release of a channel (R119, R132). -/
def Dev.uRelease (d : Dev) (n st : Nat) (v : Int) : Dev :=
  let old := d.rdF (R.UIN_STS n) F.UIN_STS_STATUS
  let d := d.wrF (R.UIN_STS n) F.UIN_STS_STATUS st
  let d := (d.uMap n (uFault st)).setUch n (fun c => { c with clamp := false })
  let d := if st ≤ 2 then
      (d.wr (R.UIN_VAL n) (wordOfInt v)).setUch n (fun c => { c with relClk := some d.clk, hasVal := true })
    else d.flag (R.UIN_STS n) 22
  let d := d.raiseIf (uFault st && old ≤ 2) 46
  let d := d.raiseIf (st ≤ 2 && uFault old) 47
  d.raiseIf ((st == 1 || st == 2) && old == 0) 52

/-- The cold-junction temperature of a TC channel in m°C (R115, R116); none makes CJFAULT. -/
def Dev.coldJunction (d : Dev) (r : UiChan) : Option Int :=
  if r.cjsrc ≤ 3 then
    let st := getF ⟨4 * r.cjsrc, 4⟩ (d.rd R.UIN_CJSTAT)
    if st ≤ 2 ∧ d.uin.cjVal.getD r.cjsrc false then some (signed 32 (d.rd (R.UIN_CJVAL r.cjsrc)).toNat) else none
  else if r.cjsrc = 4 then
    let st := d.rdF (R.UIN_STS r.cjch) F.UIN_STS_STATUS
    if st ≤ 2 ∧ (d.uin.chans.getD r.cjch UChan.empty).hasVal then
      some (signed 32 (d.rd (R.UIN_VAL r.cjch)).toNat) else none
  else some r.fixcj

/-- The value of a CHAN step (R113): none where the procedure has no result; a TC step without a cold
junction is judged before. -/
def Dev.uValue (d : Dev) (n : Nat) (code lcode : Int) : Option Int :=
  let r := d.urec n
  match r.mode with
  | 1 => tcOut r.subtype code ((d.coldJunction r).getD 0)
  | 2 => rtdOut (rtdNominal r.subtype) (rtdOhms r (d.image.uicf.rrefval.getD (n / 4) 0) code lcode)
  | 3 => some (voltOut r.subtype code)
  | _ => some (bridgeOut r.gain code)

/-- The fault that a CHAN step's post-check finds, in the precedence of R118; 0 for none. -/
def Dev.uCheck (d : Dev) (m n rloop : Nat) (checks : BitVec 4) : Nat :=
  let r := d.urec n
  let s := d.scan m
  let c := checks.toNat
  let open_ := decide (rloop > 1000 * r.openr)
  if (d.uin.chans.getD n UChan.empty).clamp then 5
  else if s.refBad then 8
  else if (r.mode = 2 ∧ bitOf c 1 ∧ ¬ bitOf c 0) ∨ (r.mode = 4 ∧ bitOf c 2) then 7
  else if open_ ∨ (r.mode = 2 ∧ bitOf c 0) then 3
  else if r.mode = 2 ∧ rtdShort (rtdNominal r.subtype)
      (rtdOhms r (d.image.uicf.rrefval.getD (n / 4) 0) s.code s.lcode) then 4
  else if r.mode = 1 ∧ (d.coldJunction r).isNone then 6
  else 0

/-- A flag of UIN_STAT at the onset of its condition (R50). -/
def Dev.uOnset (d : Dev) (was bad : Bool) (bit ev : Nat) : Dev := if bad && !was then d.flagEv R.UIN_STAT bit ev else d

/-- The excitation flags of a post-check: EXVFLT and IEXFLT, each at the onset of its condition (R50, R117, R132). -/
def Dev.uExcFlags (d : Dev) (m n : Nat) (checks : BitVec 4) : Dev :=
  let r := d.urec n
  let c := checks.toNat
  if r.mode = 4 then
    let bad := bitOf c 2
    let d' := { d with uin := { d.uin with exvBad := upd d.uin.exvBad m (fun _ => bad) } }
    d'.uOnset (d.uin.exvBad.getD m false) bad (16 + m) (40 + m)
  else if r.mode = 2 then
    let bad := bitOf c 1 && !bitOf c 0
    let d' := { d with uin := { d.uin with iexBad := upd d.uin.iexBad (n / 4) (fun _ => bad) } }
    d'.uOnset (d.uin.iexBad.getD (n / 4) false) bad (n / 4) 44
  else d

/-- A diagnostic result (UIN_DIAGn). -/
def Dev.uDiag (d : Dev) (m n st rloop : Nat) : Dev :=
  let s := d.scan m
  let d := d.wrFs (R.UIN_DRES_A m) [(F.UIN_DRES_A_CH, n), (F.UIN_DRES_A_CODE, pattern 24 s.code)]
  let d := d.wrF (R.UIN_DRES_B m) F.UIN_DRES_B_LCODE (pattern 24 s.lcode)
  let d := d.wrFs (R.UIN_DRES_C m) [(F.UIN_DRES_C_STATUS, st), (F.UIN_DRES_C_RLOOP, min rloop 65535)]
  (d.wrF (R.UIN_DIAG n) F.UIN_DIAG_REQ 0).raise 50

/-- The end of a CHAN step (R113 to R119); a value without a stated result is free (log entry 11). -/
def Dev.uChanEnd (d : Dev) (m n rloop : Nat) (checks : BitVec 4) : Dev :=
  let s := d.scan m
  let flt := d.uCheck m n rloop checks
  let d := d.uExcFlags m n checks
  let x : Int × Dev := match d.uValue n s.code s.lcode with
    | some v => (v, d)
    | none => let f := d.freeVal 32
              (signed 32 f.1, f.2)
  let rg := clipRange (uRange (d.urec n)).1 (uRange (d.urec n)).2 x.1
  let d := if flt = 0 then x.2 else d
  let st := if flt = 0 then rg.1 else flt
  let d := d.uRelease n st rg.2
  if s.diag then d.uDiag m n st rloop else d

/-- The end of a CJ step (R115, R116). -/
def Dev.uCjEnd (d : Dev) (c : Nat) (checks : BitVec 4) : Dev :=
  let s := d.scan c
  let lead := F64.dec ((d.image.uicf.cjs.getD c ⟨false, 0⟩).leadr : Nat) 3
  let ohms := (((F64.ofInt s.code).mul (F64.ofPair Config.cjFullScale)).divPos fullScale).sub lead
  let nom := F64.ofInt 1000
  let k := checks.toNat
  let flt := if s.refBad then 8 else if bitOf k 0 ∨ bitOf k 3 then 3 else if rtdShort nom ohms then 4 else 0
  let x : Int × Dev := match rtdOut nom ohms with
    | some v => (v, d)
    | none => let f := d.freeVal 32
              (signed 32 f.1, f.2)
  let rg := clipRange (-200000) 850000 x.1
  let d := if flt = 0 then x.2 else d
  let st := if flt = 0 then rg.1 else flt
  let d := d.wrF R.UIN_CJSTAT ⟨4 * c, 4⟩ st
  let was := d.uin.cjBad.getD c false
  let d := { d with uin := { d.uin with cjBad := upd d.uin.cjBad c (fun _ => flt != 0) } }
  if flt = 0 then
    let d := d.wr (R.UIN_CJVAL c) (wordOfInt rg.2)
    { d with uin := { d.uin with cjVal := upd d.uin.cjVal c (fun _ => true) } }
  else d.uOnset was true (20 + c) 51

/-- A discarded step (R120). -/
def Dev.uDiscard (d : Dev) (m : Nat) : Dev := d.incF (R.UIN_SCCNT m) F.UIN_SCCNT_DROPS

/-- POSTCHECK_END: the conclusions are drawn, the step releases or is discarded, and a FREE converter
goes on (R103, R117 to R120). A discarded step LEN − 1 still completes its pass, and a diagnostic request that a
discarded step has taken stays set for the next (both DESIGN CHOICE, log entry 66). -/
def Dev.uPostEnd (d : Dev) (m rloop : Nat) (checks : BitVec 4) : Dev :=
  let s := d.scan m
  let st := (d.uconv m).stepAt s.step
  if s.phase ≠ 5 then d
  else
    let d := if s.drop then d.uDiscard m
      else if st.kind = 0 then d.uChanEnd m st.chan rloop checks
      else d.uCjEnd m checks
    d.uNext m

/-- Whether a reference code lies outside ±0.05 % of the expected one (R121). -/
def refFails (code expected : Int) : Bool := 2000 * (code - expected).natAbs > expected.natAbs

/-- REFCHK_END (R121): the flag and its event at the onset of a failure (R50). The span of R120 ends with a post-check,
which a REFCHK does not have: one in progress when the token changes is judged, and counts no DROPS (DESIGN CHOICE, log
entry 66). -/
def Dev.uRefEnd (d : Dev) (m : Nat) (code : BitVec 24) : Dev :=
  let s := d.scan m
  if s.phase ≠ 3 ∨ ((d.uconv m).stepAt s.step).kind ≠ 2 then d
  else
    let bad := refFails code.toInt (Config.refchkCode m)
    let d := d.setScan m (fun s => { s with refBad := bad })
    let now := d.clk
    let d := { d with uin := { d.uin with refAt := upd d.uin.refAt m (fun _ => some now) } }
    (d.uOnset s.refBad bad (12 + m) (36 + m)).uNext m

/-- UIN_CLAMP (R100): the detectors run through every reset; a clamp that conducts while the digital die does not run
waits to be shown (log entry 66). -/
def Dev.uClamp (d : Dev) (n : Nat) : Dev :=
  if d.pwr.boot = 3 then (d.setUch n (fun c => { c with clamp := true })).flagEv (R.UIN_STS n) 23 45
  else if d.pwr.boot = 0 then d
  else d.setUch n (fun c => { c with clamp := true, clampDue := true })

/-- The clamps that conducted while the digital die did not run are shown (R100). -/
def Dev.uClampsDue (d : Dev) : Dev :=
  (List.range 48).foldl (fun d n =>
    if (d.uin.chans.getD n UChan.empty).clampDue then
      (d.setUch n (fun c => { c with clampDue := false })).flagEv (R.UIN_STS n) 23 45
    else d) d

/-! Excitation, monitors, image -/

/-- Whether EXVn is to be on (R112). -/
def Dev.exvWanted (d : Dev) (m : Nat) : Bool :=
  d.holder && d.uin.connected && (d.uconv m).exvlvl != 0
    && d.rdF R.PWR_STAT F.PWR_STAT_PFW == 0

/-- EXVn after a change of role, warning or image; steps that its switching meets are discarded (R112,
R120). -/
def Dev.exvUpdate (d : Dev) : Dev :=
  (List.range 4).foldl (fun d m =>
    let w := d.exvWanted m
    if d.uin.exvOn.getD m false = w then d
    else
      let d := { d with uin := { d.uin with exvOn := upd d.uin.exvOn m (fun _ => w),
                                            exvSince := upd d.uin.exvSince m (fun _ => some d.clk) } }
      match d.uChanOf m with
      | some n => if (d.urec n).mode = 4 then d.setScan m (fun s => { s with drop := true }) else d
      | none => d) d

/-- A token change discards every step in progress (R120). -/
def Dev.uRoleChange (d : Dev) : Dev :=
  ((List.range 4).foldl (fun d m =>
    if (d.scan m).phase = 0 then d else d.setScan m (fun s => { s with drop := true })) d).exvUpdate

/-! Excitation currents and test currents (R111, R117, R123, R127) -/

/-- The RTD channel of a group that an image selects on an AMON output: IEXg stays on it (R127). -/
def amonRtd (u : UicfSec) (g : Nat) : Option Nat :=
  (u.amon.filter (fun src => decide (src / 4 = g) && ((u.chans[src]?).map UiChan.mode == some 2))).head?

/-- The RTD channel of a group whose step holds IEXg: from its multiplexer switch to the end of its last conversion
(R111). -/
def Dev.iexStep (d : Dev) (g : Nat) : Option Nat :=
  let s := d.scan (g / 3)
  if 1 ≤ s.phase ∧ s.phase ≤ 4 then
    (d.uChanOf (g / 3)).filter (fun n => decide (n / 4 = g) && (d.urec n).mode == 2)
  else none

/-- The current that IEXg delivers, in µA: 0 while it is off. It runs only in the token holder or a solo device (R111,
R123, R127, R128). -/
def Dev.iexCurrent (d : Dev) (g : Nat) : Nat :=
  if !d.holder || !d.uin.connected then 0
  else match d.iexStep g, amonRtd d.image.uicf g with
    | some n, _ => iexiAmps (d.urec n).iexi
    | none, some n => iexiAmps (d.urec n).iexi
    | none, none => 0

/-- The test current of UIn's post-check, in µA: 0 while it is off, as always without the token (R117, R123). -/
def Dev.testCurrent (d : Dev) (n : Nat) : Nat :=
  if d.holder && d.uin.connected && (d.scan (n / 12)).phase == 5 && d.uChanOf (n / 12) == some n then
    [1, 10, 50].getD (d.urec n).ipc 0
  else 0

/-- A swap that switches IEXg by a change of its AMON selection discards the step of a converter that runs on (R120,
R127). -/
def Dev.iexSwap (d : Dev) (old : Image) : Dev :=
  (List.range 12).foldl (fun d g =>
    if d.holder && amonRtd old.uicf g != amonRtd d.image.uicf g && (d.uChanOf (g / 3)).any (fun n => n / 4 == g)
        && (d.scan (g / 3)).phase != 0 then
      d.setScan (g / 3) (fun s => { s with drop := true })
    else d) d

/-! The analogue monitors (R125 to R128, R176) -/

/-- Whether the excitation of a universal input's group or converter is there: of the device that holds the token, or in
a standby or a rejoiner the active's, which the shared pins carry (R123, R126; log entry 66). -/
def Dev.excited (d : Dev) (n : Nat) : Bool :=
  let r := d.urec n
  let peer := d.role == 3 || d.role == 4
  if r.mode = 2 then d.holder || peer
  else if r.mode = 4 then d.uin.exvOn.getD (n / 12) false || peer && (d.uconv (n / 12)).exvlvl != 0
  else true

/-- x of R125 as a fraction, from the source's own signal: V in nV for a TC, VOLT or BRIDGE input, V_sensor in nV with
VREF_OUT in nV for an RTD, the charge code for QC, A − B and the drive amplitude in mV for XC, I in µA for LI. -/
def Dev.amonX (d : Dev) (src : Nat) (signal ref : Int) : Int × Int :=
  if src < 48 then
    let r := d.urec src
    match r.mode with
    | 2 => (4 * signal - ref, ref)
    | 3 => (signal, if r.subtype = 0 then 100000000 else if r.subtype = 1 then 2500000000 else 12000000000)
    | 4 => (signal * 50, if (d.uconv (src / 12)).exvlvl = 1 then 2500000000 else 5000000000)
    | _ => (signal, 100000000)
  else if src < 0x4C then (signal, 32768)
  else if src < 0x58 then (signal, ref)
  else (signal - 12500, 12500)

/-- The level of an AMON output as a fraction of VREF_OUT: 0.5 + 0.4 × x with x clipped to −1 to +1 (R125). -/
def amonLevel (x : Int × Int) : Int × Int :=
  let c := clampI (-x.2) x.2 x.1
  (5 * x.2 + 4 * c, 10 * x.2)

/-- Whether AMONm drives a signal (R126, R176): its source is there, powered and
excited; an excitation source has at least half its set amplitude on the path's own demodulator. -/
def Dev.amonValid (d : Dev) (src : Nat) : Bool :=
  if !d.uin.connected then false
  else if src < 48 then
    let r := d.urec src
    r.mode != 0 && d.excited src
  else if 0x40 ≤ src ∧ src < 0x4C then d.rdF (R.QCH_PWR (src - 0x40)) F.QCH_PWR_STATE == 2
  else if 0x50 ≤ src ∧ src < 0x58 then
    let n := src - 0x50
    (d.image.xccf[n]?).any (fun r => r.mode != 0) && (d.xch.getD n XChan.empty).path
      && (!d.holder || d.rdF (R.XCH_CTRL n) F.XCH_CTRL_STATE != 0)
  else if 0x70 ≤ src ∧ src < 0x80 then
    (d.image.loopIn[src - 0x70]?).any (fun r => r.mode != 0)
  else false

/-- Whether AMONm drives a signal now (R126): until an image has applied, what the reset has left driving
(R128). -/
def Dev.amonDrives (d : Dev) (m : Nat) : Bool :=
  if d.uin.connected then d.amonValid (d.rdF (R.UIN_AMON m) F.UIN_AMON_SRC) else d.uin.amonKept.getD m false

/-- The channel registers of an image (UIN_CHCFGn, UIN_CHTIMn). -/
def Dev.uinChanRegs (d : Dev) (n : Nat) : Dev :=
  let r := d.urec n
  let x := d.image.uicf.amon.contains n && r.mode == 2
  let d := d.wrFs (R.UIN_CHCFG n) [(F.UIN_CHCFG_MODE, r.mode), (F.UIN_CHCFG_SUBTYPE, r.subtype),
    (F.UIN_CHCFG_WIRES, r.wires), (F.UIN_CHCFG_GAIN, r.gain), (F.UIN_CHCFG_IEXI, r.iexi),
    (F.UIN_CHCFG_AMONX, b2n x), (F.UIN_CHCFG_CJSRC, r.cjsrc), (F.UIN_CHCFG_CJCH, r.cjch)]
  d.wrFs (R.UIN_CHTIM n) [(F.UIN_CHTIM_RATE, r.rate), (F.UIN_CHTIM_IPC, r.ipc),
    (F.UIN_CHTIM_OPENR, r.openr), (F.UIN_CHTIM_SETTLE, r.settle)]

/-- A step word (UIN_STEPn_k). -/
def UiStep.word (s : UiStep) : Word :=
  BitVec.ofNat 32 (s.kind * 2 ^ 30 + b2n s.entryStart * 2 ^ 29 + s.rate * 2 ^ 20 + s.settle * 2 ^ 10 + s.chan)

/-- The converter registers of an image. -/
def Dev.uinConvRegs (d : Dev) (m : Nat) : Dev :=
  let r := d.uconv m
  let d := d.wrFs (R.UIN_SCSTAT m) [(F.UIN_SCSTAT_MODE, r.mode), (F.UIN_SCSTAT_LEN, r.len)]
  (List.range 48).foldl (fun d k =>
    d.wr (R.UIN_STEP m k) (match r.steps[k]? with | some s => s.word | none => 0)) d

/-- All image fields of the block. -/
def Dev.uinRegs (d : Dev) : Dev :=
  let d := (List.range 48).foldl Dev.uinChanRegs d
  let d := (List.range 4).foldl Dev.uinConvRegs d
  (List.range 2).foldl (fun d m =>
    d.wrF (R.UIN_AMON m) F.UIN_AMON_SRC (d.image.uicf.amon.getD m 0xFF)) d

/-- A converter restarts under a new record: its step is discarded and its channels are NOTYET (R106,
R129). A clamp since the last release and the verdict of the last REFCHK stand on (R117, R121). STEP then shows LEN − 1
on a SCHED converter and 0 on any other (R106; DESIGN CHOICE for the others, log entry 66). -/
def Dev.uRestart (d : Dev) (m : Nat) : Dev :=
  let d := if (d.scan m).phase = 0 then d else d.uDiscard m
  let r := d.uconv m
  let d := d.setScan m (fun s => { UScan.empty with step := if r.mode = 2 then r.len - 1 else 0, refBad := s.refBad })
  let d := (List.range 12).foldl (fun d k =>
    let n := 12 * m + k
    ((d.wrF (R.UIN_STS n) F.UIN_STS_STATUS 0xF).uMap n false).setUch n (fun c => { c with hasVal := false })) d
  let d := d.wrF R.UIN_CJSTAT ⟨4 * m, 4⟩ 0xF
  { d with uin := { d.uin with
      cjVal := upd d.uin.cjVal m (fun _ => false), cjBad := upd d.uin.cjBad m (fun _ => false)
      exvBad := upd d.uin.exvBad m (fun _ => false)
      iexBad := (List.range 12).map (fun g => if g / 3 = m then false else d.uin.iexBad.getD g false) } }

/-- Whether a converter's records differ between two images (R129). -/
def uinChanged (a b : UicfSec) (m : Nat) : Bool :=
  a.convs[m]? != b.convs[m]? || (a.chans.drop (12 * m)).take 12 != (b.chans.drop (12 * m)).take 12
    || (a.rrefval.drop (3 * m)).take 3 != (b.rrefval.drop (3 * m)).take 3 || a.cjs[m]? != b.cjs[m]?

/-- The image applies to the universal inputs (R101, R128, R129); `old` is the image before it. -/
def Dev.uinApply (d : Dev) (first : Bool) (old : Image) : Dev :=
  let d := { d with uin := { d.uin with connected := true } }
  let d := if first then d.uClampsDue else d.iexSwap old
  let d := (List.range 4).foldl (fun d m =>
    if first || uinChanged old.uicf d.image.uicf m then d.uRestart m else d) d
  d.uinRegs.exvUpdate

end Sys2Proof.Machine
end

