-- ==== Sys2Proof/Machine/Excitation.lean ====
section
/-!
DEFINITION. The excitation channels (R164 to R182): demodulation, measurement, checks, releases and
the standby's phase lock.
-/
namespace Sys2Proof.Machine

/-- An absent channel's record: OFF. -/
def XcRec.empty : XcRec := ⟨false, 0, 1, 100, 50, 0, 10, 1, 0, 0, 1, 0⟩

/-- The record of XCn (R180). -/
def Dev.xrec (d : Dev) (n : Nat) : XcRec := d.image.xccf.getD n XcRec.empty

/-- The state of XCn. -/
def Dev.xc (d : Dev) (n : Nat) : XChan := d.xch.getD n XChan.empty

/-- The device with a channel's state changed. -/
def Dev.setXc (d : Dev) (n : Nat) (f : XChan → XChan) : Dev := { d with xch := upd d.xch n f }

/-- The first quadrant of COS, entries 0 to 256 (R168). -/
def cosTable : List Int :=
  [32767, 32766, 32765, 32761, 32757, 32752, 32745, 32737, 32728, 32717, 32705, 32692, 32678, 32663, 32646, 32628,
   32609, 32589, 32567, 32545, 32521, 32495, 32469, 32441, 32412, 32382, 32351, 32318, 32285, 32250, 32213, 32176] ++
  [32137, 32098, 32057, 32014, 31971, 31926, 31880, 31833, 31785, 31736, 31685, 31633, 31580, 31526, 31470, 31414,
   31356, 31297, 31237, 31176, 31113, 31050, 30985, 30919, 30852, 30783, 30714, 30643, 30571, 30498, 30424, 30349] ++
  [30273, 30195, 30117, 30037, 29956, 29874, 29791, 29706, 29621, 29534, 29447, 29358, 29268, 29177, 29085, 28992,
   28898, 28803, 28706, 28609, 28510, 28411, 28310, 28208, 28105, 28001, 27896, 27790, 27683, 27575, 27466, 27356] ++
  [27245, 27133, 27019, 26905, 26790, 26674, 26556, 26438, 26319, 26198, 26077, 25955, 25832, 25708, 25582, 25456,
   25329, 25201, 25072, 24942, 24811, 24680, 24547, 24413, 24279, 24143, 24007, 23870, 23731, 23592, 23452, 23311] ++
  [23170, 23027, 22884, 22739, 22594, 22448, 22301, 22154, 22005, 21856, 21705, 21554, 21403, 21250, 21096, 20942,
   20787, 20631, 20475, 20317, 20159, 20000, 19841, 19680, 19519, 19357, 19195, 19032, 18868, 18703, 18537, 18371] ++
  [18204, 18037, 17869, 17700, 17530, 17360, 17189, 17018, 16846, 16673, 16499, 16325, 16151, 15976, 15800, 15623,
   15446, 15269, 15090, 14912, 14732, 14553, 14372, 14191, 14010, 13828, 13645, 13462, 13279, 13094, 12910, 12725] ++
  [12539, 12353, 12167, 11980, 11793, 11605, 11417, 11228, 11039, 10849, 10659, 10469, 10278, 10087, 9896, 9704,
   9512, 9319, 9126, 8933, 8739, 8545, 8351, 8157, 7962, 7767, 7571, 7375, 7179, 6983, 6786, 6590] ++
  [6393, 6195, 5998, 5800, 5602, 5404, 5205, 5007, 4808, 4609, 4410, 4210, 4011, 3811, 3612, 3412,
   3212, 3012, 2811, 2611, 2410, 2210, 2009, 1809, 1608, 1407, 1206, 1005, 804, 603, 402, 201] ++
  [0]

/-- COS[i] (R168), i below 1024, from the first quadrant. -/
def cosAt (i : Nat) : Int :=
  if i ≤ 256 then cosTable.getD i 0
  else if i ≤ 512 then -(cosTable.getD (512 - i) 0)
  else if i ≤ 768 then -(cosTable.getD (i - 512) 0)
  else cosTable.getD (1024 - i) 0

/-- SIN[i] (R168). -/
def sinAt (i : Nat) : Int := cosAt ((i + 768) % 1024)

/-- The accumulator's increment (R165). -/
def XcRec.incr (r : XcRec) : Nat := (divRound (r.freq * 10 * 2 ^ 32 : Nat) 2560000).toNat

/-- The sums SI(A), SQ(A), SI(B), SQ(B), SI(V), SQ(V) of samples (R168): `ph` is the phase of the
first, `p` the offset. -/
def demodSums (incr p : Nat) :
    List (BitVec 16 × BitVec 16 × BitVec 16) → Nat → List Int → List Int
  | [], _, s => s
  | x :: xs, ph, s =>
    let i := (ph + p) % 2 ^ 32 / 2 ^ 22
    let c := cosAt i
    let q := sinAt i
    let a := x.1.toInt
    let b := x.2.1.toInt
    let v := x.2.2.toInt
    let g := fun k => s.getD k 0
    demodSums incr p xs ((ph + incr) % 2 ^ 32)
      [g 0 + a * c, g 1 + a * q, g 2 + b * c, g 3 + b * q, g 4 + v * c, g 5 + v * q]

/-- Two lists of sums added. -/
def addSums (s t : List Int) : List Int := (List.zip s t).map (fun x => x.1 + x.2)

/-- A component in volts peak: 2 × S × LSB / (32767 × n) (R168). -/
def component (s : Int) (n : Nat) : F64 :=
  ((F64.ofInt (2 * s)).mul ((F64.dec 125 1).divPos (F64.ofInt 32768))).divPos (F64.ofInt (32767 * n))

/-- I and Q of A, B and V. -/
def components (s : List Int) (n : Nat) : List F64 := s.map (fun x => component x n)

/-- The k-th component. -/
def comp (c : List F64) (k : Nat) : F64 := c.getD k F64.zero

/-- M(u), u = 0, 1, 2 for A, B, V (R168). -/
def magnitude (c : List F64) (u : Nat) : F64 :=
  (((comp c (2 * u)).mul (comp c (2 * u))).add ((comp c (2 * u + 1)).mul (comp c (2 * u + 1)))).sqrtPos

/-- The complex quotient (a + jb) / (c + jd) in binary64; none for a zero denominator. -/
def cquot (a b c d : F64) : Option (F64 × F64) :=
  let den := (c.mul c).add (d.mul d)
  match ((a.mul c).add (b.mul d)).div den, ((b.mul c).sub (a.mul d)).div den with
  | some re, some im => some (re, im)
  | _, _ => none

/-- A number scaled and rounded (R169). -/
def scaled (x : F64) (k : Int) : Int := (x.mul (F64.ofInt k)).toInt

/-- S in ppm (R169). -/
def ratioSum (c : List F64) : Option Int :=
  (((comp c 0).add (comp c 2)).div (magnitude c 2)).map (fun x => scaled x 1000000)

/-- RATIO's VALUE in ppm (R169). -/
def ratioValue (c : List F64) : Option Int :=
  (((comp c 0).sub (comp c 2)).div ((comp c 0).add (comp c 2))).map (fun x => scaled x 1000000)

/-- PROX's Z in mΩ: real and imaginary part (R169). -/
def proxZ (rref : Nat) (c : List F64) : Option (F64 × F64) :=
  (cquot (comp c 0) (comp c 1) (comp c 2) (comp c 3)).map (fun z =>
    ((F64.ofInt rref).mul z.1, (F64.ofInt rref).mul z.2))

/-- CAP's Y: real and imaginary part (R169). -/
def capY (rref : Nat) (c : List F64) : Option (F64 × F64) :=
  let k := (F64.ofInt rref).mul (F64.dec 1 3)
  cquot (comp c 2) (comp c 3) (k.mul (comp c 0)) (k.mul (comp c 1))

/-- 2π in binary64. -/
def twoPi : F64 := (F64.ofInt 2).mul (F64.dec 3141592653589793 15)

/-- VALUE and AUX of a period (R169), before clipping; none where a quotient has no value. -/
def measure (r : XcRec) (c : List F64) : Option Int × Option Int :=
  match r.mode with
  | 1 => (ratioValue c, ratioSum c)
  | 2 =>
    match proxZ r.rref c with
    | some z => (some z.2.toInt, some z.1.toInt)
    | none => (none, none)
  | _ =>
    match capY r.rref c with
    | some y =>
      let w := (twoPi.mul (F64.ofInt r.freq)).mul (F64.ofInt 10)
      ((y.2.div w).map (fun x => scaled x (10 ^ 14)), some (scaled y.1 (10 ^ 9)))
    | none => (none, none)

/-- A stated number, or a free value where the procedure states none (log entry 11). -/
def Dev.orFree (d : Dev) (x : Option Int) : Int × Dev :=
  match x with
  | some v => (v, d)
  | none =>
    let f := d.freeVal 32
    (signed 32 f.1, f.2)

/-- Sensor-fault statuses (R171). -/
def xFault (st : Nat) : Bool := [9, 10, 5, 3, 4, 6, 7].contains st

/-- The status of a failing check by its WHY (R170). -/
def whyStatus (why : Nat) : Nat :=
  [0, 5, 10, 3, 4, 3, 4, 6, 4, 3, 3, 4, 7].getD why 0

/-- A release of a channel (R172, R182): values come with GOOD, OVER and UNDER only; EV81 comes with the first value
after a sensor fault, whatever TRANSIT lay between. -/
def Dev.xRelease (d : Dev) (n st : Nat) (v aux : Int) : Dev :=
  let old := d.rdF (R.XCH_STS n) F.XCH_STS_STATUS
  let again := (d.xc n).faulted
  let trim := d.rdF (R.XCH_TRIM n) F.XCH_TRIM_TRIM
  let d := d.setXc n (fun x => { x with
    faulted := xFault st || (x.faulted && decide (2 < st)), relTrim := trim })
  let d := d.wrF (R.XCH_STS n) F.XCH_STS_STATUS st
  let d := d.wrF R.XCH_STAT ⟨n, 1⟩ (b2n (xFault st))
  let d := if st ≤ 2 then (d.wr (R.XCH_VAL n) (wordOfInt v)).wr (R.XCH_AUX n) (wordOfInt aux)
    else if xFault st then d.flag (R.XCH_STS n) 23 else d
  let d := d.raiseIf (xFault st && !xFault old) 80
  let d := d.raiseIf (st ≤ 2 && again) 81
  let d := d.raiseIf (st == 10) 83
  d.raiseIf ((st == 1 || st == 2) && old == 0) 85

/-- Whether demodulation and checks run: STATE ON in the device that drives, from the first wrap after it (R168); lock
in the other, unless a shutdown runs (R170, R173, R174). -/
def Dev.xRuns (d : Dev) (n : Nat) : Bool :=
  let st := d.rdF (R.XCH_CTRL n) F.XCH_CTRL_STATE
  (d.xrec n).mode != 0 && (if d.holder then st == 2 && (d.xc n).began else (d.xc n).locked && st != 3)

/-- What the drive stage of a channel puts on its pins (R166): none while it is high-impedance, else its amplitude in
eighths of the set one. -/
def Dev.xDrive (d : Dev) (n : Nat) : Option Nat :=
  let st := d.rdF (R.XCH_CTRL n) F.XCH_CTRL_STATE
  if d.pwr.boot = 3 ∧ d.holder ∧ st ≠ 0 ∧ !(d.xc n).cut then some (if st = 2 then 8 else (d.xc n).ramp) else none

/-- The stages at the loss of the token (R166): one that drives is cut off until its shutdown has run. -/
def Dev.xCut (d : Dev) : Dev :=
  (List.range 8).foldl (fun d n =>
    let on := d.rdF (R.XCH_CTRL n) F.XCH_CTRL_STATE != 0
    d.setXc n (fun x => { x with cut := on })) d

/-- The lock after a change of the token or of the record (R174): seeking begins anew. -/
def Dev.xUnlock (d : Dev) (n : Nat) : Dev :=
  (d.wrF R.XCH_STAT ⟨8 + n, 1⟩ 0).setXc n (fun x => { x with locked := false, goodRun := 0, badRun := 0 })

/-- The set peak amplitude times a factor of tenths, in volts. -/
def setPeak (amp tenths : Nat) : F64 :=
  (((F64.ofInt amp).mul (F64.dec 1 2)).mul (F64.ofInt 2).sqrtPos).mul (F64.dec tenths 1)

/-- Whether a code clips (R170). -/
def clips (x : BitVec 16) : Bool := x == 0x8000 || x == 0x7FFF

/-- The mask of checks, bit WHY, that fail in a drive period (R170). `s`, `z` and `v` are S, abs(Z) in mΩ and
the CAP value with free values where the procedure states none. -/
def checkMask (r : XcRec) (active : Bool) (c : List F64) (clip : Bool) (irms limit : Nat)
    (s : Int) (z : F64) (v : Int) : Nat :=
  let b := fun (k : Nat) (x : Bool) => if x then 2 ^ k else 0
  let sum := (comp c 0).add (comp c 2)
  let quad := ((comp c 1).add (comp c 3)).abs.mul (F64.ofInt 1000000)
  b 1 clip
    + b 2 (active && limit == 0 && (magnitude c 2).lt (setPeak r.amp 8))
    + b 3 (active && (r.mode == 1 || r.mode == 2) && decide (irms < 10 * r.imin))
    + b 4 (active && limit == 2)
    + b 5 (r.mode == 1 && (decide (s < r.lo) || !(F64.zero.lt sum)))
    + b 6 (r.mode == 1 && decide (s > r.hi))
    + b 7 (r.mode == 1 && ((sum.abs.mul (F64.ofInt r.qmax)).lt quad))
    + b 8 (r.mode == 2 && z.lt (F64.ofInt r.lo))
    + b 9 (r.mode == 2 && (F64.ofInt r.hi).lt z)
    + b 10 (r.mode == 3 && decide (v < r.lo))
    + b 11 (r.mode == 3 && decide (v > r.hi))

/-- The quantities of the checks: S, abs(Z) in mΩ, the CAP value; free where not stated. -/
def Dev.checkInputs (d : Dev) (r : XcRec) (c : List F64) : (Int × F64 × Int) × Dev :=
  match r.mode with
  | 1 => let x := d.orFree (ratioSum c)
         ((x.1, F64.zero, 0), x.2)
  | 2 =>
    match proxZ r.rref c with
    | some z => ((0, ((z.1.mul z.1).add (z.2.mul z.2)).sqrtPos, 0), d)
    | none => let x := d.orFree none
              ((0, F64.ofInt x.1, 0), x.2)
  | _ => let x := d.orFree (measure r c).1
         ((0, F64.zero, x.1), x.2)

/-- The status that a mask of declared checks gives, in the precedence of R171. -/
def maskStatus (m : Nat) : Nat :=
  let has := fun st => (List.range 13).any (fun k => bitOf m k && whyStatus k == st)
  if has 10 then 10 else if has 5 then 5 else if has 3 then 3 else if has 4 then 4
  else if has 6 then 6 else 7

/-- The check listed first in a mask. -/
def maskWhy (m : Nat) : Nat := ((List.range 13).find? (fun k => bitOf m k)).getD 0

/-- The checks of a drive period: a check that fails twice in a row declares its fault, which is
released at once (R170, R171); a check that has passed since can declare again. -/
def Dev.xJudge (d : Dev) (n m : Nat) : Dev :=
  let x := d.xc n
  let both := m &&& x.lastFail
  let new := both &&& (x.declared ^^^ 0x1FFF)
  let d := d.setXc n (fun x => { x with lastFail := m, declared := both,
                                        bad := x.bad || m != 0 })
  if new = 0 then d
  else
    let d := (List.range 13).foldl (fun d k =>
      if bitOf new k then d.incF (R.XCH_CNT n) F.XCH_CNT_FAULTS else d) d
    let d := d.wrF (R.XCH_STS n) F.XCH_STS_WHY (maskWhy both)
    d.xRelease n (maskStatus both) 0 0

/-- The lock of a device without the token after a period (R174), and whether it was lost in it; a
lost lock leaves `badRun` at 2 until the next lock. -/
def XChan.lockStep (x : XChan) (err : Nat) : XChan × Bool :=
  if x.locked then
    let b := if err > 2000 then x.badRun + 1 else 0
    if b ≥ 2 then ({ x with locked := false, goodRun := 0, badRun := 2 }, true) else ({ x with badRun := b }, false)
  else
    let g := if err < 500 then x.goodRun + 1 else 0
    ({ x with goodRun := g, locked := decide (g ≥ 16), badRun := if g ≥ 16 then 0 else x.badRun }, false)

/-- The standby's lock at a wrap (R174). -/
def Dev.xLock (d : Dev) (n err : Nat) : Bool × Dev :=
  let y := (d.xc n).lockStep err
  let d := d.setXc n (fun _ => y.1)
  let d := d.wrF R.XCH_STAT ⟨8 + n, 1⟩ (b2n y.1.locked)
  let d := if y.2 then (d.incF (R.XCH_CNT n) F.XCH_CNT_LOCKLOSSES).flagEv (R.XCH_STS n) 21 84 else d
  (y.2, d)

/-- The clip flag at the onset of a sense clip (R50, R170, R182). -/
def Dev.xClip (d : Dev) (n : Nat) (clip : Bool) : Dev :=
  let was := (d.xc n).clip
  let d := d.setXc n (fun x => { x with clip := clip })
  if clip && !was then d.flagEv (R.XCH_STS n) 22 82 else d

/-- The drive monitor after a period. -/
def Dev.xMonitor (d : Dev) (n : Nat) (c : List F64) (irms : Nat) : Dev :=
  let mv := ((magnitude c 2).mul (F64.ofInt 1000)).toInt
  d.wrFs (R.XCH_DRVMON n) [(F.XCH_DRVMON_VAMP, (min mv 65535).toNat),
    (F.XCH_DRVMON_IRMS, if d.holder then irms else 0)]

/-- The ramp at a wrap: one eighth per drive period (R166). -/
def Dev.xRamp (d : Dev) (n : Nat) : Dev :=
  let st := d.rdF (R.XCH_CTRL n) F.XCH_CTRL_STATE
  d.setXc n (fun x => { x with ramp := if st = 1 then min 8 (x.ramp + 1)
                                       else if st = 3 then x.ramp - 1 else x.ramp })

/-- The AMON path's own demodulator (R176): M(V) against half the set peak amplitude. -/
def Dev.xPath (d : Dev) (n : Nat) (c : List F64) : Dev :=
  let ok := !(magnitude c 2).lt (setPeak (d.xrec n).amp 5)
  d.setXc n (fun x => { x with path := ok })

/-- DRIVE_PERIOD_END: the sums, the monitor, the checks and the lock of one drive period (R168, R170,
R174). The wrap that ends it begins the first demodulation period after ON. -/
def Dev.xPeriod (d : Dev) (n : Nat) (samples : List (BitVec 16 × BitVec 16 × BitVec 16))
    (irms : BitVec 16) (limit : Nat) (lockPhase : Word) (err : Nat) : Dev :=
  let r := d.xrec n
  let runs := d.xRuns n
  let lk := if d.holder then (false, d) else d.xLock n err
  let d := lk.2
  let ph := if d.holder then (d.xc n).acc else lockPhase.toNat
  let trim := d.rdF (R.XCH_TRIM n) F.XCH_TRIM_TRIM
  let s := demodSums r.incr ((r.phofs + trim) * 65536 % 2 ^ 32) samples ph [0, 0, 0, 0, 0, 0]
  let c := components s (max samples.length 1)
  let d := ((d.xMonitor n c irms.toNat).xPath n c).xRamp n
  let on := d.rdF (R.XCH_CTRL n) F.XCH_CTRL_STATE == 2
  let d := d.setXc n (fun x => { x with acc := (ph + samples.length * r.incr) % 2 ^ 32, began := on })
  let lost := !d.holder && !(d.xc n).locked && (d.xc n).badRun ≥ 2
  if !runs then if lost then d.xJudge n 0x1000 else d
  else
    let clip := samples.any (fun x => clips x.1 || clips x.2.1 || clips x.2.2)
    let d := d.xClip n clip
    let q := d.checkInputs r c
    let m := checkMask r d.holder c clip irms.toNat limit q.1.1 q.1.2.1 q.1.2.2
    let d := q.2.setXc n (fun x => { x with sums := addSums x.sums s, n := x.n + samples.length,
                                            periods := x.periods + 1 })
    d.xJudge n (m + (if lost then 0x1000 else 0))

/-- The sums of a demodulation period cleared (R168). -/
def Dev.xClear (d : Dev) (n : Nat) : Dev :=
  d.setXc n (fun x => { x with sums := [0, 0, 0, 0, 0, 0], n := 0, periods := 0, bad := false })

/-- The components in µV (XCH_IQn_k). -/
def Dev.xIq (d : Dev) (n : Nat) (c : List F64) : Dev :=
  (List.range 6).foldl (fun d k => d.wr (R.XCH_IQ n k) (wordOfInt (scaled (comp c k) 1000000))) d

/-- A measured VALUE limited to its range, with its status (R169). -/
def xClipValue (mode : Nat) (v : Int) : Nat × Int :=
  if mode = 1 then clipRange (-1000000) 1000000 v
  else clipRange (-(2 ^ 31)) (2 ^ 31 - 1) v

/-- The write-buffered TRIM applied at the end of a demodulation period (R43, R179): the active's from
the host, the standby's from the mirror. -/
def Dev.xTrim (d : Dev) (n : Nat) : Dev :=
  let d := d.wbApply (R.XCH_TRIM n) 0xFFFF
  match (d.xc n).mirTrim with
  | some t =>
    (d.wrF (R.XCH_TRIM n) F.XCH_TRIM_TRIM t).setXc n (fun x => { x with mirTrim := none })
  | none => d

/-- A discarded demodulation period: DISCARDS and the DISCARD flag (R172, R173). -/
def Dev.xDiscard (d : Dev) (n : Nat) : Dev :=
  (d.incF (R.XCH_CNT n) F.XCH_CNT_DISCARDS).flag (R.XCH_STS n) 20

/-- DEMOD_PERIOD_END (R168, R169, R172). -/
def Dev.xDemod (d : Dev) (n : Nat) : Dev :=
  let x := d.xc n
  let r := d.xrec n
  if !d.xRuns n || x.periods < r.demn then d
  else
    let c := components x.sums (max x.n 1)
    let d := d.xIq n c
    let d := if x.bad then d.xDiscard n
      else
        let m := measure r c
        let v := d.orFree m.1
        let a := v.2.orFree m.2
        let k := xClipValue r.mode v.1
        a.2.xRelease n k.1 k.2 (satS 32 a.1)
    (d.xClear n).xTrim n

/-- TRIM_WRITE: ignored without the token (R179). -/
def Dev.xTrimWrite (d : Dev) (n : Nat) (v : BitVec 16) : Dev :=
  if d.holder then d.wbWrite (R.XCH_TRIM n) 0xFFFF (BitVec.ofNat 32 v.toNat) else d

/-- What a new STATE of a channel releases (R173): a shutdown discards the demodulation period in progress. A channel
on its way to a new record stays TRANSIT through OFF (R178). -/
def Dev.xStateRelease (d : Dev) (n : Nat) : Dev :=
  let st := d.rdF (R.XCH_CTRL n) F.XCH_CTRL_STATE
  let old := d.rdF (R.XCH_STS n) F.XCH_STS_STATUS
  let d := if st = 3 ∧ (d.xc n).periods > 0 then d.xDiscard n else d
  let d := (d.xClear n).setXc n (fun x => { x with
    lastFail := 0, declared := 0, began := false, cut := x.cut && st != 0 })
  if st = 0 then
    if (d.xc n).swap && d.rdF (R.XCH_CTRL n) F.XCH_CTRL_PEND == 1 then d
    else (d.setXc n (fun x => { x with swap := false })).xRelease n 9 0 0
  else if st = 1 then (d.setXc n (fun x => { x with swap := false })).xRelease n 8 0 0
  else if st = 3 then (if xFault old ∧ old ≠ 9 then d else d.xRelease n 8 0 0)
  else d

/-- A channel under a changed record (R178): TRIM 0, nothing kept of the old record's periods and lock, and TRANSIT
meanwhile. -/
def Dev.xChange (d : Dev) (n : Nat) : Dev :=
  let d := (d.wrF (R.XCH_TRIM n) F.XCH_TRIM_TRIM 0).xUnlock n
  let d := (d.xClear n).setXc n (fun x => { x with
    mirTrim := none, lastFail := 0, declared := 0, swap := true })
  if d.holder && d.rdF (R.XCH_CTRL n) F.XCH_CTRL_STATE == 0 then d
  else d.xRelease n (if (d.xrec n).mode = 0 then 9 else 8) 0 0

/-- The image's fields of XCH_CFGn. -/
def Dev.xchRegs (d : Dev) : Dev :=
  (List.range 8).foldl (fun d n =>
    let r := d.xrec n
    d.wrFs (R.XCH_CFG n) [(F.XCH_CFG_MODE, r.mode), (F.XCH_CFG_DEMN, r.demn - 1),
      (F.XCH_CFG_FREQ, r.freq), (F.XCH_CFG_AMP, r.amp)]) d

end Sys2Proof.Machine
end

