-- ==== Sys2Proof/Machine/Loops.lean ====
section
/-!
DEFINITION. The current loops (R183 to R195, R202 to R211, R538): conversions, bands, persistence,
damping, releases, the supply's waits, and the loop outputs.
-/
namespace Sys2Proof.Machine

/-- An absent input's record: OFF. -/
def LiRec.empty : LiRec := ⟨0, false, 0, 0, 0, 0, 0, 0xFF, 5, 1, 1, [], false, false, false, []⟩

/-- An absent output's record: disabled. -/
def LoRec.empty : LoRec := ⟨false, 0, 0, 0xFFFF, 0xFFFF, 0, 1, 0⟩

/-- The record of LIn (R209). -/
def Dev.lrec (d : Dev) (n : Nat) : LiRec := d.image.loopIn.getD n LiRec.empty

/-- The record of LOn (R209). -/
def Dev.orec (d : Dev) (n : Nat) : LoRec := d.image.loopOut.getD n LoRec.empty

/-- The state of LIn. -/
def Dev.li (d : Dev) (n : Nat) : LoopIn := d.lop.ins.getD n LoopIn.empty

/-- The device with a loop input's state changed. -/
def Dev.setLi (d : Dev) (n : Nat) (f : LoopIn → LoopIn) : Dev :=
  { d with lop := { d.lop with ins := upd d.lop.ins n f } }

/-- The state of LOn. -/
def Dev.lo (d : Dev) (n : Nat) : LoopOut := d.lop.outs.getD n LoopOut.empty

/-- The device with a loop output's state changed. -/
def Dev.setLo (d : Dev) (n : Nat) (f : LoopOut → LoopOut) : Dev :=
  { d with lop := { d.lop with outs := upd d.lop.outs n f } }

/-- Sensor-fault statuses (R189). -/
def lFault (st : Nat) : Bool := [9, 5, 7, 6, 3, 4].contains st

/-- The band of a current in nA (R187): 0 FLO, 1 SLO, 2 NORM, 3 SHI, 4 FHI. -/
def loopBand (raw : Int) : Nat :=
  if raw ≤ 3600000 then 0 else if raw < 3800000 then 1 else if raw ≤ 20500000 then 2
  else if raw < 21000000 then 3 else 4

/-- The conversion period in ms (R185). -/
def LiRec.tliMs (r : LiRec) : Nat := if r.tli = 0 then 10 else 20

/-- Whether a run of k consecutive conversions has persisted: 50 ms from the end of its first (R188). -/
def persisted (tliMs k : Nat) : Bool := k ≥ 1 && (k - 1) * tliMs ≥ 50

/-- The damping step (R191). -/
def damp (tli10 td : Nat) (raw value : Int) : Int :=
  value + divRound ((raw - value) * divRound (65536 * tli10 : Nat) (10 * td + tli10 : Nat)) 65536

/-- The supply values that a conversion is judged by (R195, R538): ISUP in nA, the unbroken limit time
in µs, and whether the supply is on; without the token those of the last mirror. -/
def Dev.supplyValues (d : Dev) (n : Nat) (isup : Int) (limUs : Nat) : Int × Nat × Bool :=
  let x := d.li n
  if d.holder then (isup, limUs, d.rdF (R.LOP_SUPCTRL n) F.LOP_SUPCTRL_STATE == 2)
  else (x.mirIsup, x.mirLim, x.mirOn)

/-- The status of a conversion (R189), from its runs after this conversion. -/
def loopStatus (clamp lim mis lo hi transit : Bool) (band : Nat) : Nat :=
  if clamp then 5 else if lim then 7 else if mis then 6 else if lo then 3 else if hi then 4
  else if transit then 8 else if band ≤ 1 then 2 else if band ≥ 3 then 1 else 0

/-- A release of a loop input (R190, R211); a status that stands is no new event (R50). -/
def Dev.lRelease (d : Dev) (n st : Nat) (raw value : Int) : Dev :=
  let old := d.rdF (R.LOP_STS n) F.LOP_STS_STATUS
  let d := d.wrF (R.LOP_STS n) F.LOP_STS_STATUS st
  let d := d.wrF R.LOP_STAT ⟨n, 1⟩ (b2n (lFault st))
  let d := d.setLi n (fun x => { x with clamp := false, reload := st > 2 })
  let d := if st ≤ 2 then
      ((d.wr (R.LOP_RAW n) (wordOfInt raw)).wr (R.LOP_VAL n) (wordOfInt value)).setLi n
        (fun x => { x with relClk := some d.clk })
    else if lFault st && !lFault old then d.flag (R.LOP_STS n) 22 else d
  let d := if st = 7 ∧ old ≠ 7 then d.flagEv (R.LOP_STS n) 21 91 else d
  let d := if st = 6 ∧ old ≠ 6 then d.flagEv (R.LOP_STS n) 20 92 else d
  let d := d.raiseIf (lFault st && !lFault old) 88
  let d := d.raiseIf (decide (st ≤ 2) && (d.li n).faulted) 89
  let d := d.setLi n (fun x => { x with faulted := lFault st || (x.faulted && decide (st > 2)) })
  d.raiseIf ((st == 1 || st == 2) && old == 0) 90

/-- The supply's monitor after a conversion (R538). -/
def Dev.lSupply (d : Dev) (n : Nat) (isup : Int) (limUs : Nat) : Dev :=
  let st := d.rdF (R.LOP_SUPCTRL n) F.LOP_SUPCTRL_STATE
  let shut := (d.lrec n).mode = 1 ∧ d.holder ∧ st ≠ 0
  d.wrFs (R.LOP_SUPI n) [(F.LOP_SUPI_LIMIT, if shut ∧ limUs > 0 then 1 else 0),
    (F.LOP_SUPI_ISUP, if shut then (clampI 0 65535 (divRound isup 1000)).toNat else 0)]

/-- LOOP_CONVERSION_END (R185 to R193, R538). -/
def Dev.lConvEnd (d : Dev) (n : Nat) (raw isup : Int) (limUs : Nat) : Dev :=
  let r := d.lrec n
  if r.mode = 0 ∨ ¬ d.lop.running then d
  else
    let ms := r.tliMs
    let x := d.li n
    let sup := d.supplyValues n isup limUs
    let band := loopBand raw
    let two := r.mode == 1
    let lo := if band = 0 then satInc 255 x.lo else 0
    let hi := if band = 4 then satInc 255 x.hi else 0
    let off := decide ((sup.1 - raw).natAbs > 500000)
    let mis := if two ∧ sup.2.2 ∧ off then satInc 255 x.mis else 0
    let sinceTr := satInc 0xFFFF x.sinceTr
    let lim := two && decide (min sup.2.1 (sinceTr * ms * 1000) ≥ 50000)
    let st := d.rdF (R.LOP_SUPCTRL n) F.LOP_SUPCTRL_STATE
    let transit := two && (st == 1 || st == 3 || x.tstart)
    let s := loopStatus x.clamp lim (persisted ms mis) (persisted ms lo) (persisted ms hi) transit band
    let old := signed 32 (d.rd (R.LOP_VAL n)).toNat
    let value := if x.reload then raw else damp (ms / 10) r.td raw old
    let d := d.lSupply n isup limUs
    let own := d.holder
    let d := d.setLi n (fun x => if own then { x with mirIsup := isup, mirLim := limUs } else x)
    let d := d.setLi n (fun x => if s = 8 then { x with lo := 0, hi := 0, mis := 0, sinceTr := 0, band := band }
      else { x with lo := lo, hi := hi, mis := mis, sinceTr := sinceTr, band := band })
    d.lRelease n s raw value

/-- STATE of a supply reaches ON: TSTART applies unless the last conversion lies in NORM (R193). -/
def Dev.lSupplyOn (d : Dev) (n : Nat) : Dev :=
  d.setLi n (fun x => { x with tstart := decide (x.band ≠ 2) && (d.lrec n).tstart != 0 })

/-- STATE of a supply leaves ON: no TSTART runs any more (R193); once the switch is open no current flows
(R192). -/
def Dev.lSupplyOff (d : Dev) (n : Nat) (opened : Bool) : Dev :=
  let d := d.setLi n (fun x => { x with tstart := false })
  if opened then d.wrFs (R.LOP_SUPI n) [(F.LOP_SUPI_LIMIT, 0), (F.LOP_SUPI_ISUP, 0)] else d

/-- TSTART_END (R193). -/
def Dev.lTstartEnd (d : Dev) (n : Nat) : Dev := d.setLi n (fun x => { x with tstart := false })

/-- LOP_CLAMP (R183): loop inputs 0 to 15; 16 + m for the sense pin of LOm, shown at index m (log entry
13). -/
def Dev.lClamp (d : Dev) (k : Nat) : Dev :=
  if k < 16 then (d.setLi k (fun x => { x with clamp := true })).flagEv (R.LOP_STS k) 23 94
  else d.flagEv (R.LOP_STS (k - 16)) 23 94

/-- The turn start: the converters run from the first one after the image applies (R185). -/
def Dev.lopTurnStart (d : Dev) : Dev := { d with lop := { d.lop with running := true } }

/-! Loop outputs -/

/-- The setpoint a code of the LPCF section names. -/
def lpLevel (code : Nat) : Nat := if code = 0 then 3500 else 21750

/-- What the selection of R203 reads: the safe state, the alarm source, the tracking point, HSET, and
the setpoint applied last. -/
structure SetIn where
  safe : Bool
  almActive : Bool
  trkFault : Bool
  v : Int
  hset : Nat
  applied : Nat

/-- The selection of R203 before the substitution of R205: SEL and the setpoint in µA. SAFE OFF turns
the gate off, with setpoint 0 (log entry 13). -/
def selectSetpoint (r : LoRec) (x : SetIn) : Nat × Nat :=
  if x.safe then
    (4, if r.safe = 0 then 3500 else if r.safe = 1 then 21750 else if r.safe = 2 then x.applied else 0)
  else if r.almsrc ≠ 0xFFFF ∧ x.almActive then (2, lpLevel r.almlvl)
  else if r.trksrc ≠ 0xFFFF then
    if x.trkFault then (3, lpLevel r.almlvl)
    else (1, (clampI 3800 20500 (4000 + divRound ((x.v - r.trklo) * 16000) (r.trkhi - r.trklo))).toNat)
  else (0, x.hset)

/-- The clipping of a host setpoint (R204). -/
def clipSetpoint (v : Nat) : Nat :=
  if v = 3500 ∨ v = 21750 then v else (clampI 3800 20500 (v : Nat)).toNat

/-- Whether the loop output compares or drives: its record has OEN (R202). -/
def Dev.loDrives (d : Dev) (n : Nat) : Bool := d.holder && (d.orec n).oen

/-- Whether the device is within 2 ms of a token gain (HANDOVER). -/
def Dev.loHandover (d : Dev) (n : Nat) : Bool :=
  match (d.lo n).gain with | some t => decide (d.clk < t + 800000) | none => false

/-- The setpoint of an output applied at the emit (R203, R205, R206): the driving device applies it, the
other keeps its selection. -/
def Dev.loEmit (d : Dev) (n : Nat) (x : SetIn) : Dev :=
  let s := selectSetpoint (d.orec n) x
  let low := d.rdF (R.LOP_OSTS n) F.LOP_OSTS_LOWALT == 1 && s.2 == 21750
  let sp := if low then 3500 else s.2
  let changed := (d.lo n).sp ≠ sp
  let d := d.setLo n (fun o => { o with sel := s.1, sp := sp, since := if changed then d.clk else o.since })
  let d := d.wrF (R.LOP_OSTS n) F.LOP_OSTS_LOWALT (b2n low)
  if d.loDrives n then
    (d.wrF (R.LOP_OSTS n) F.LOP_OSTS_SEL s.1).wrF (R.LOP_OACT n) F.LOP_OACT_APPLIED sp
  else (d.wrF (R.LOP_OSTS n) F.LOP_OSTS_SEL 5).wrF (R.LOP_OACT n) F.LOP_OACT_APPLIED 0

/-- The standby's comparison of its own selection with the readback, 2 ms allowed for settling (R206). -/
def Dev.loCompare (d : Dev) (n : Nat) : Dev :=
  let o := d.lo n
  let act := d.rdF (R.LOP_OACT n) F.LOP_OACT_ACTUAL
  if !d.standby || !(d.orec n).oen || decide (d.clk < o.since + 800000) then d
  else d.xCompare 3 n (decide ((((o.sp : Int) - act).natAbs) > d.image.pair.tollo)) R.LOP_STAT 17 107

/-- COMPL_TIMER (R205): the check is suspended during a handover. -/
def Dev.loCompl (d : Dev) (n : Nat) (deviates : Bool) (actual : BitVec 16) : Dev :=
  let d := d.wrF (R.LOP_OACT n) F.LOP_OACT_ACTUAL actual.toNat
  let applied := d.rdF (R.LOP_OACT n) F.LOP_OACT_APPLIED
  let far := decide (((actual.toNat : Int) - applied).natAbs > 100)
  let on := d.rdF (R.LOP_OSTS n) F.LOP_OSTS_COMPL == 1
  if !d.loDrives n || d.loHandover n then d
  else if deviates && far && !on then
    let d := (d.wrF (R.LOP_OSTS n) F.LOP_OSTS_COMPL 1).flagEv (R.LOP_OSTS n) 23 103
    if applied = 21750 then
      ((d.wrF (R.LOP_OSTS n) F.LOP_OSTS_LOWALT 1).wrF (R.LOP_OACT n) F.LOP_OACT_APPLIED 3500).raise 105
    else d
  else if !deviates && !far && on then (d.wrF (R.LOP_OSTS n) F.LOP_OSTS_COMPL 0).raise 104
  else d

/-- The mask of LOP_OSETn's write-buffered field. -/
def osetMask : Word := 0x7FFF

/-- A pending setpoint write at the latch of its turn (R204): `sel` is the latching turn's selection. -/
def Dev.loLatch (d : Dev) (n sel : Nat) : Dev × Option Entry :=
  match d.wbWord (R.LOP_OSET n) with
  | none => (d, none)
  | some w =>
    let sess := d.wbSess (R.LOP_OSET n)
    let d := d.wbDrop (R.LOP_OSET n)
    if sel = 0 ∨ sel = 5 then
      (d.wrF (R.LOP_OSET n) F.LOP_OSET_SETPT (clipSetpoint w.toNat), none)
    else
      (d.flagEv (R.LOP_OSTS n) 22 106,
        some (hostOvr (R.LOP_OSET n) w osetMask (if sel = 4 then resOverridden else resOverLattice) sess))

/-- The gain of the token: an output closes the loop at the setpoint of the last mirror, or of its own selection
before any (R206). -/
def Dev.loGain (d : Dev) : Dev :=
  (List.range 4).foldl (fun d n =>
    let m := (d.lo n).mir.getD ((d.lo n).sel, (d.lo n).sp)
    let d := d.setLo n (fun o => { o with sel := m.1, sp := m.2, gain := some d.clk, mir := none })
    if d.loDrives n then
      (d.wrF (R.LOP_OSTS n) F.LOP_OSTS_SEL m.1).wrF (R.LOP_OACT n) F.LOP_OACT_APPLIED m.2
    else d) d

/-- The loss of the token: the gates go off (R202, R206). -/
def Dev.loLoss (d : Dev) : Dev :=
  (List.range 4).foldl (fun d n =>
    let d := (d.wrF (R.LOP_OSTS n) F.LOP_OSTS_SEL 5).wrF (R.LOP_OACT n) F.LOP_OACT_APPLIED 0
    d.wrFs (R.LOP_OSTS n) [(F.LOP_OSTS_COMPL, 0), (F.LOP_OSTS_LOWALT, 0)]) d

/-- The image's fields of an input's registers. -/
def Dev.liRegs (d : Dev) (n : Nat) : Dev :=
  let r := d.lrec n
  d.wrFs (R.LOP_CFG n) [(F.LOP_CFG_MODE, r.mode), (F.LOP_CFG_TLI, r.tli), (F.LOP_CFG_HART, r.hart),
    (F.LOP_CFG_TD, r.td), (F.LOP_CFG_TSTART, r.tstart), (F.LOP_CFG_RETRY, r.retry),
    (F.LOP_CFG_BURST, b2n r.burst), (F.LOP_CFG_PCMD, r.pcmd)]

/-- The image's fields of an output's registers; HSET is loaded when the record is new (R207, R208). -/
def Dev.loRegs (d : Dev) (n : Nat) (fresh : Bool) : Dev :=
  let r := d.orec n
  let d := if fresh then d.wrF (R.LOP_OSET n) F.LOP_OSET_SETPT r.hset else d
  let d := d.wrFs (R.LOP_OCFG n) [(F.LOP_OCFG_ALMSRC, r.almsrc), (F.LOP_OCFG_TRKSRC, r.trksrc)]
  d.wrFs (R.LOP_OMODE n) [(F.LOP_OMODE_SAFE, r.safe), (F.LOP_OMODE_ALMLVL, r.almlvl),
    (F.LOP_OMODE_OEN, b2n r.oen)]

/-- A changed input under a new record: NOTYET, damping dropped, HART variables NOTYET (R208). -/
def Dev.liRestart (d : Dev) (n : Nat) : Dev :=
  let d := (d.wrF (R.LOP_STS n) F.LOP_STS_STATUS 0xF).wrF R.LOP_STAT ⟨n, 1⟩ 0
  let d := d.wrFs (R.LOP_HSTAT n) [(F.LOP_HSTAT_VSTATUS, 0xF), (F.LOP_HSTAT_NANMAP, 0)]
  let d := d.setLi n (fun x => { LoopIn.empty with hart := { x.hart with updated := false, stale := false } })
  if (d.lrec n).mode = 0 then d.lRelease n 9 0 0 else d

end Sys2Proof.Machine
end

