-- ==== Sys2Proof/Machine/Hart.lean ====
section
/-!
DEFINITION. HART on the loop inputs (R196 to R201): frames, transactions with their retries, polls,
variables, completion and the takeover at a token gain. The frame format is that of the HART
data-link layer, which R196 names (PRESUMED, log entry 14): delimiter, address of 1 or 5 bytes,
command, byte count, in responses and bursts two status bytes, data, check byte.
-/
namespace Sys2Proof.Machine

/-- The device with the HART side of a loop input changed. -/
def Dev.setHart (d : Dev) (n : Nat) (f : Hart → Hart) : Dev :=
  d.setLi n (fun x => { x with hart := f x.hart })

/-- The HART side of a loop input. -/
def Dev.hart (d : Dev) (n : Nat) : Hart := (d.li n).hart

/-- A frame taken apart: type (1 burst, 2 request, 6 response), address bytes, command, response code
and field-device status of a response or burst, and data. -/
structure HartFrame where
  kind : Nat
  addr : List Byte
  cmd : Nat
  rc : Nat
  fd : Nat
  data : List Byte
  deriving DecidableEq, Repr

/-- A frame from its bytes, delimiter first (log entry 14). -/
def hartParse (bs : List Byte) : Option HartFrame :=
  let dl := byteAt bs 0
  let al := if dl ≥ 128 then 5 else 1
  let kind := dl % 8
  let cnt := byteAt bs (al + 2)
  if bs.length < al + 4 + cnt ∨ ¬ [1, 2, 6].contains kind then none
  else
    let body := slice bs (al + 3) cnt
    if kind = 2 then some ⟨2, slice bs 1 al, byteAt bs (al + 1), 0, 0, body⟩
    else if cnt < 2 then none
    else some ⟨kind, slice bs 1 al, byteAt bs (al + 1), byteAt body 0, byteAt body 1, body.drop 2⟩

/-- The longitudinal check byte over the bytes of a frame from its delimiter on (R196; log entry 14). -/
def hartLrc (bs : List Byte) : Byte := bs.foldl (· ^^^ ·) 0

/-- Whether a frame's check byte is right. -/
def hartChecked (bs : List Byte) : Bool :=
  let al := if byteAt bs 0 ≥ 128 then 5 else 1
  hartLrc (bs.take (al + 4 + byteAt bs (al + 2))) == 0

/-- The address bytes of an element: the unique identifier of the long frame, polling address 0 of the short one
(R196, R200). -/
def hartAddress (elem : List Byte) : List Byte :=
  if bitOf (byteAt elem 4) 0 then slice elem 8 5 else slice elem 8 1

/-- The first address byte without the bits of the master and of burst mode. -/
def hartDevice (addr : List Byte) : List Byte := upd addr 0 (fun b => b &&& 0x3F)

/-- The request of an element as a master sends it: preambles, delimiter, address with the bit of the primary
master, command, byte count, data, check byte (R196; log entry 14). -/
def hartRequest (r : LiRec) (elem : List Byte) : List Byte :=
  let addr := upd (hartDevice (hartAddress elem)) 0 (fun b => if r.hart = 1 then b ||| 0x80 else b)
  let n := byteAt elem 6
  let body := [if bitOf (byteAt elem 4) 0 then (0x82 : Byte) else 0x02] ++ addr
    ++ [byteAt elem 5, n].map byteOf ++ slice elem 16 n
  List.replicate r.pream (0xFF : Byte) ++ body ++ [hartLrc body]

/-- A transaction of a channel under its present record. -/
def Dev.hartTx (d : Dev) (n : Nat) (elem : List Byte) (ref : Option HostRef) (waitOnly : Bool) : HartTx :=
  let r := d.lrec n
  ⟨elem, ref, 1, waitOnly, hartRequest r elem, r.retry, r.hostcopy⟩

/-- An IEEE 754 single from four bytes, most significant first: none for a NaN or an infinity. -/
def single (bs : List Byte) : Option (Int × Int) :=
  let w := ofBe bs
  let s : Int := if w ≥ 2 ^ 31 then -1 else 1
  let e : Nat := w / 2 ^ 23 % 256
  let m : Nat := w % 2 ^ 23
  if e = 255 then none
  else if e = 0 then some (s * (m : Int), -149)
  else some (s * ((m + 2 ^ 23 : Nat) : Int), (e : Int) - 150)

/-- m × 2^e × 10^k rounded to the nearest integer. -/
def scaleSingle (x : Int × Int) (k : Int) : Int :=
  let num := x.1 * (2 ^ x.2.toNat : Nat) * (10 ^ k.toNat : Nat)
  divRound num ((2 ^ (-x.2).toNat : Nat) * (10 ^ (-k).toNat : Nat))

/-- The offsets of the five variables in the data of command 1, 2 or 3 (R198; log entry 14). -/
def hartOffsets (cmd : Nat) : List (Nat × Nat) :=
  match cmd with
  | 1 => [(1, 1)]
  | 2 => [(0, 0)]
  | 3 => [(0, 0), (1, 5), (2, 10), (3, 15), (4, 20)]
  | _ => []

/-- Whether a frame carries variables: commands 1, 2 and 3 with the bytes of the first one. -/
def hartDecodes (f : HartFrame) : Bool :=
  match hartOffsets f.cmd with
  | [] => false
  | x :: _ => f.data.length ≥ x.2 + 4

/-- One variable of a frame (R198, R199). -/
def Dev.hartVar (d : Dev) (n : Nat) (f : HartFrame) (x : Nat × Nat) : Dev :=
  if f.data.length < x.2 + 4 then d
  else
    match single (slice f.data x.2 4) with
    | none => d.wrF (R.LOP_HSTAT n) ⟨15 + x.1, 1⟩ 1
    | some v =>
      let d := d.wrF (R.LOP_HSTAT n) ⟨15 + x.1, 1⟩ 0
      if x.1 = 0 then
        let y := scaleSingle v 3
        let w := if -(2 ^ 31) ≤ y ∧ y < 2 ^ 31 then (pattern 32 y, d) else d.freeVal 32
        w.2.wr (R.LOP_HVAR n 0) (BitVec.ofNat 32 w.1)
      else d.wr (R.LOP_HVAR n x.1) (wordOfInt (satS 32 (scaleSingle v ((d.lrec n).hexp.getD (x.1 - 1) 0))))

/-- The channel status of the variables (R199): DEVMAL before STALE, whose onset is an event (R50, R211). -/
def Dev.hartStatus (d : Dev) (n : Nat) : Dev :=
  let h := d.hart n
  let st := if bitOf (d.rdF (R.LOP_HSTAT n) F.LOP_HSTAT_FDSTAT) 7 then 4
    else if h.stale then 3 else if h.updated then 0 else 0xF
  let old := d.rdF (R.LOP_HSTAT n) F.LOP_HSTAT_VSTATUS
  let d := d.wrF (R.LOP_HSTAT n) F.LOP_HSTAT_VSTATUS st
  if st = 3 ∧ old ≠ 3 then d.flagEv (R.LOP_HSTAT n) 23 96 else d

/-- A response or burst frame: field-device status, variables, status (R198, R199). -/
def Dev.hartDecode (d : Dev) (n : Nat) (f : HartFrame) : Dev :=
  let was := bitOf (d.rdF (R.LOP_HSTAT n) F.LOP_HSTAT_FDSTAT) 7
  let d := d.wrF (R.LOP_HSTAT n) F.LOP_HSTAT_FDSTAT f.fd
  let d := if bitOf f.fd 7 && !was then d.flagEv (R.LOP_HSTAT n) 21 97 else d
  let vars := hartDecodes f && (f.kind == 6 || (d.lrec n).burst)
  let d := if vars then
      ((hartOffsets f.cmd).foldl (fun d x => d.hartVar n f x) d).setHart n
        (fun h => { h with updated := true, stale := false })
    else d
  d.hartStatus n

/-- HART_STALE (R199): DEVMAL takes precedence. -/
def Dev.hartStale (d : Dev) (n : Nat) : Dev :=
  if (d.lrec n).hart = 0 ∨ (d.hart n).stale then d
  else (d.setHart n (fun h => { h with stale := true })).hartStatus n

/-! Transactions -/

/-- The command byte of an element (R200). -/
def hartCmd (elem : List Byte) : Nat := byteAt elem 5

/-- The Q51 elements of a completion (R200); the turn number comes in at their emit. -/
def hartParts (n res cmd rc fd : Nat) (id turn : Nat) (data : List Byte) : List (List Byte) :=
  let parts := max 1 ((data.length + 47) / 48)
  (List.range parts).map (fun p =>
    leBytes 4 id ++ [byteOf n, byteOf (16 * p + parts), byteOf res, byteOf cmd, byteOf rc, byteOf fd,
      byteOf data.length, 0] ++ leBytes 4 turn ++ padTo 48 (slice data (48 * p) 48))

/-- A response written to Q51 at once: a copy of a poll response or burst frame; its turn number is
not stated and is free (R200; log entry 11). -/
def Dev.hartCopy (d : Dev) (n : Nat) (f : HartFrame) : Dev :=
  let t := d.freeVal 32
  (hartParts n 0 f.cmd f.rc f.fd 0 t.1 f.data).foldl (fun d b => d.notify 51 b 99) t.2

/-- The completion of a host transaction: its HART entry, which carries the response to the emit of
its commit (R200, R537). -/
def Dev.hartEntry (d : Dev) (n : Nat) (tx : HartTx) (ref : HostRef) (res rc fd : Nat)
    (data : List Byte) : Dev :=
  let e := sysEntry 0x0008 (leBytes 4 ref.cmdid.toNat ++ [byteOf n, byteOf (hartCmd tx.elem), byteOf res,
    byteOf rc, byteOf fd, byteOf tx.tries])
  let ps := (hartParts n res (hartCmd tx.elem) rc fd ref.cmdid.toNat 0 data).map (fun b =>
    (⟨51, b, some ref⟩ : Place))
  (d.happen { e with places := ps }).setHart n (fun h => { h with
    opened := h.opened.filter (fun o => o.2 ≠ ref) })

/-- A transaction is over: the next of those that wait for a response is in hand. -/
def Hart.over (h : Hart) (tx : HartTx) : Hart :=
  let rest := (h.run.toList ++ h.waits).erase tx
  { h with run := rest.head?, waits := rest.tail }

/-- The end of a transaction with its result code (R197, R200, R201). -/
def Dev.hartDone (d : Dev) (n : Nat) (tx : HartTx) (res rc fd : Nat) (data : List Byte) : Dev :=
  let d := d.setHart n (fun h => h.over tx)
  let d := if res = 1 ∨ res = 2 then d.flagEv (R.LOP_HSTAT n) 22 98 else d
  let d := if res = 3 then d.flagEv (R.LOP_HSTAT n) 20 101 else d
  match tx.ref with
  | some ref => d.hartEntry n tx ref res rc fd data
  | none => d

/-- HART_TRANSACTION_START: the head of Q(16 + n) is sent (R197). -/
def Dev.hartStart (d : Dev) (n : Nat) : Dev :=
  match d.queue (16 + n) with
  | [] => d
  | e :: _ =>
    if !d.holder || (d.lrec n).hart == 0 || (d.hart n).run.isSome then d
    else
      let tx := d.hartTx n e.bytes e.ref false
      (d.pop (16 + n)).setHart n (fun h => { h with run := some tx })

/-- A failed attempt: another one while RETRY allows it, or the end with a result (R197). A transaction that only
waits for its response waits on to the time-out, and ends then with NORESPONSE (R201). -/
def Dev.hartRetry (d : Dev) (n : Nat) (tx : HartTx) (res : Nat) : Dev :=
  if tx.waitOnly then (if res = 1 then d.hartDone n tx 3 0 0 [] else d)
  else if tx.tries ≤ tx.retry then
    (d.incF (R.LOP_HCNT n) F.LOP_HCNT_RETRIES).setHart n (fun h =>
      { h with run := some { tx with tries := tx.tries + 1 } })
  else d.hartDone n tx res 0 0 []

/-- HART_RESPONSE_TIMEOUT (R197, R201). -/
def Dev.hartTimeout (d : Dev) (n : Nat) : Dev :=
  match (d.hart n).run with
  | none => d
  | some tx => (d.incF (R.LOP_HCNT n) F.LOP_HCNT_TIMEOUTS).hartRetry n tx 1

/-- Whether a response answers a transaction: its command, the device's address, and the master of the request by
the address's top bit (R196; log entry 14). -/
def hartAnswers (tx : HartTx) (f : HartFrame) : Bool :=
  let master := (hartParse (tx.request.dropWhile (· == 0xFF))).map (fun q => bitOf (byteAt q.addr 0) 7)
  f.kind == 6 && f.cmd == hartCmd tx.elem && hartDevice f.addr == hartDevice (hartAddress tx.elem)
    && master == some (bitOf (byteAt f.addr 0) 7)

/-- HART_FRAME_RECEIVED (R197 to R201): `bad` is a parity error that the front end reports; the check byte is
judged here. On a changed channel the transaction in progress still gets its response (R208). -/
def Dev.hartFrame (d : Dev) (n : Nat) (bytes : List Byte) (parity : Bool) : Dev :=
  let r := d.lrec n
  let bad := parity || ((hartParse bytes).isSome && !hartChecked bytes)
  if r.hart = 0 ∧ (d.hart n).run = none then d
  else
    let d := if (d.hart n).opened.isEmpty then d
      else d.setHart n (fun h => { h with seen := h.seen ++ [(bytes, bad)] })
    let run := (d.hart n).run
    if bad then
      match run with | some tx => d.hartRetry n tx 2 | none => d
    else match hartParse bytes with
      | none => d
      | some f =>
        if f.kind = 2 then d
        else
          let d := if r.hart = 0 then d else d.hartDecode n f
          let d := if f.kind = 1 ∧ r.hart ≠ 0 then
              let d := d.wrF (R.LOP_HCNT n) F.LOP_HCNT_BURSTS (d.rdF (R.LOP_HCNT n) F.LOP_HCNT_BURSTS + 1)
              if r.hostcopy then d.hartCopy n f else d
            else d
          match (run.toList ++ (d.hart n).waits).find? (fun tx => hartAnswers tx f) with
          | some tx =>
            let d := if tx.ref.isNone && tx.copy then d.hartCopy n f else d
            d.hartDone n tx 0 f.rc f.fd f.data
          | none => d

/-- Whether a poll of the channel is queued or running (R198). -/
def Dev.hartPolling (d : Dev) (n : Nat) : Bool :=
  (d.queue (16 + n)).any (fun e => e.ref.isNone)
    || (match (d.hart n).run with | some tx => tx.ref.isNone | none => false)

/-- HART_POLL (R198). -/
def Dev.hartPoll (d : Dev) (n : Nat) : Dev :=
  let r := d.lrec n
  if r.hart = 0 ∨ r.pcmd = 0xFF ∨ ¬ d.holder ∨ d.hartPolling n then d
  else if d.hasFree (16 + n) then
    d.push (16 + n) (leBytes 4 0 ++ [byteOf (b2n r.long), byteOf r.pcmd, 0, 0]
      ++ (if r.long then r.uid else [0])) none
  else ((d.refuse (16 + n)).incF (R.LOP_HCNT n) F.LOP_HCNT_POLLSKIP).raise 102

/-- An accepted host command is recorded until it completes (R201). -/
def Dev.hartAccept (d : Dev) (n : Nat) (elem : List Byte) (ref : HostRef) : Dev :=
  d.setHart n (fun h => { h with opened := h.opened ++ [(elem, ref)] })

/-- Whether a request on the loop is that of an element: command, address and data byte for byte
(R201). -/
def hartSame (elem : List Byte) (f : HartFrame) : Bool :=
  f.kind == 2 && f.cmd == hartCmd elem && f.data == slice elem 16 (byteAt elem 6)
    && hartDevice f.addr == hartDevice (hartAddress elem)

/-- The frames from the first one that is a request for an element. -/
def hartFind (elem : List Byte) : List (List Byte × Bool) → Option (List (List Byte × Bool))
  | [] => none
  | (b, bad) :: rest =>
    match hartParse b with
    | some f => if hartSame elem f && !bad then some rest else hartFind elem rest
    | none => hartFind elem rest

/-- The response among the frames after a request, before any other request. -/
def hartResponse (cmd : Nat) : List (List Byte × Bool) → Option HartFrame
  | [] => none
  | (b, bad) :: rest =>
    match hartParse b with
    | some f =>
      if f.kind = 2 then none
      else if f.kind = 6 ∧ f.cmd = cmd ∧ ¬ bad then some f else hartResponse cmd rest
    | none => hartResponse cmd rest

/-- One accepted host transaction at a token gain (R201). -/
def Dev.hartTake (d : Dev) (n : Nat) (o : List Byte × HostRef) : Dev :=
  let tx := d.hartTx n o.1 (some o.2) true
  match hartFind o.1 (d.hart n).seen with
  | none => if (d.queue (16 + n)).any (fun e => e.ref = some o.2) then d else d.pushFree (16 + n) o.1 (some o.2)
  | some rest =>
    match hartResponse (hartCmd o.1) rest with
    | some f => (d.setHart n (fun h => { h with seen := rest })).hartDone n tx 0 f.rc f.fd f.data
    | none => d.setHart n (fun h =>
        { h with seen := rest, run := some (h.run.getD tx), waits := if h.run.isSome then h.waits ++ [tx] else h.waits })

/-- HART_TAKEOVER (R201): all channels, each in queue order. -/
def Dev.hartTakeover (d : Dev) : Dev :=
  (List.range 16).foldl (fun d n =>
    let d := (d.hart n).opened.foldl (fun d o => d.hartTake n o) d
    d.setHart n (fun h => { h with seen := [] })) d

/-- The loss of the token: the modem stops; the transaction stays accepted and not completed (R197). -/
def Dev.hartLoss (d : Dev) : Dev :=
  (List.range 16).foldl (fun d n => d.setHart n (fun h => { h with run := none, waits := [], seen := [] })) d

/-- The queued transactions of a changed channel complete with CANCELLED (R208). -/
def Dev.hartCancel (d : Dev) (n : Nat) : Dev :=
  let es := d.queue (16 + n)
  es.foldl (fun d e => match e.ref with
    | some ref => d.hartEntry n { d.hartTx n e.bytes (some ref) false with tries := 0 } ref 5 0 0 []
    | none => d) (d.setQueue (16 + n) [])

end Sys2Proof.Machine
end

