-- ==== Sys2Proof/Machine/Operands.lean ====
section
/-!
DEFINITION. Operand forms of the lattice: the argument bytes of commands (R242, R335), the
suppression words (R236), the sources of points (R227, R228) and the input words of nodes
and timer cells (R254, R255).
-/
namespace Sys2Proof.Machine

/-- Rounded division: nearest, halves away from zero (R232, R256). -/
def rnd (a b : Int) : Int := divRound a b

/-- Clamping to a signed 32-bit value (R232). -/
def sat32 (v : Int) : Int := satS 32 v

/-- Quality codes (R228). -/
def qV : Nat := 0
def qH : Nat := 1
def qR : Nat := 2
def qF : Nat := 3
def qN : Nat := 4

/-- Alarm state codes (R238). -/
def stNormal : Nat := 0
def stActUnack : Nat := 1
def stActAck : Nat := 2
def stRtnUnack : Nat := 3
def stSuppressed : Nat := 4
def stInhibited : Nat := 5
def stOos : Nat := 6
def stUnused : Nat := 7

/-- Whether an alarm state counts as active (R238). -/
def stActive (st : Nat) : Bool := st == stActUnack || st == stActAck

/-- Whether an alarm state is unacknowledged. -/
def stUnack (st : Nat) : Bool := st == stActUnack || st == stRtnUnack

/-- The sample of a source that has never released. -/
def noSample : Sample := ⟨0, qN, 0xF⟩

/-- An absent point's state. -/
def Pt.empty : Pt := ⟨0, qN, 0xF, 0, false, false, 0, false, false, false, false, 0, [], none⟩

/-- A node before its first evaluation. -/
def Node.empty : Node := ⟨0, false, 0, true⟩

/-- A timer cell after reset (R259). -/
def Timer.empty : Timer := ⟨false, 0, false, true, false, false⟩

/-- A host point never written (R245). -/
def HostPt.empty : HostPt := ⟨0, 3, 0xFFFF, 0⟩

/-- The quality of a host point (R228, R245). -/
def HostPt.quality (h : HostPt) : Nat :=
  if h.status = 0 then qV else if h.status = 3 then qN else qF

/-- An absent point's record. -/
def PointRec.empty : PointRec :=
  { srck := 0, scale := 0, srci := 0, srcf := 0, devset := 0xFF, rwin := 0, noinh := false,
    excl := false, hplog := false, mul := 0, ofs := 0, sup0 := ⟨0, false, 0⟩,
    sup1 := ⟨0, false, 0⟩, supmask := 0, fltlim := 0, omask := 0, hptmo := 0, ident := 0,
    checks := [] }

/-- A disabled check. -/
def CheckRec.empty : CheckRec := ⟨false, 0, 0, 0, 0, 0, 0⟩

/-- The record of a point (R249). -/
def ptRec (img : Image) (p : Nat) : PointRec := img.latp.points.getD p PointRec.empty

/-- Whether a point is used (R226). -/
def ptUsed (img : Image) (p : Nat) : Bool := (ptRec img p).srck != 0

/-- The record of a check (R249). -/
def ckRec (r : PointRec) (k : Nat) : CheckRec := r.checks.getD k CheckRec.empty

/-- The alarm state of a point's kind; UNUSED beyond its slots. -/
def alSt (p : Pt) (k : Nat) : Nat := ((p.al.getD k ⟨stUnused, false, false, false, 0⟩)).st

/-- Whether a point is active: an alarm of a kind in OMASK is ACTUNACK or ACTACK (R241). -/
def ptActive (r : PointRec) (p : Pt) : Bool :=
  (List.range 9).any (fun k => bitOf r.omask.toNat k && stActive (alSt p k))

/-- The UNACK attribute of a point (R254). -/
def ptUnack (r : PointRec) (p : Pt) : Bool :=
  (List.range 9).any (fun k => bitOf r.omask.toNat k && stUnack (alSt p k))

/-- Argument byte `k` of a command, counted from 1 (R335). -/
def argByte (c : OpCmd) (k : Nat) : Nat := byteAt c.args (k - 1)

/-- The point number of a command: argument bytes 1 and 2. -/
def argPoint (c : OpCmd) : Nat := uAt c.args 0 2

/-- The 9-bit kind mask of INHIBIT and UNINHIBIT: argument bytes 3 and 4. -/
def argMask (c : OpCmd) : Nat := uAt c.args 2 2 % 512

/-- The source of point `p` in the input image of the turn (R227, R229, R230): host points as
this turn's writes left them, group nodes as the last completed turn left them. -/
def pointSource (img : Image) (inp : InImage) (last : EvalState) (hps : List HostPt) (p : Nat) :
    Sample :=
  let r := ptRec img p
  if r.srck = 9 then
    let h := hps.getD r.srci HostPt.empty
    ⟨h.value, HostPt.quality h, h.status⟩
  else if r.srck = 0xA then ⟨(last.nodes.getD r.srci Node.empty).v, qV, 0⟩
  else if r.srck = 8 then
    match inp.remote.find? (fun t => t.1 = r.srci) with
    | some (_, v, q) => ⟨v, q, 0⟩
    | none => noSample
  else inp.srcs.getD p noSample

/-- A suppression condition (R236): a point of quality F or N, a contact input or host point without a value, makes its
condition false. -/
def supCond (img : Image) (inp : InImage) (last : EvalState) (hps : List HostPt) (s : SupRec) :
    Bool :=
  match s.kind with
  | 1 =>
    let p := last.pts.getD s.ref Pt.empty
    p.q != qF && p.q != qN && (ptActive (ptRec img s.ref) p != s.pol)
  | 2 => ((last.nodes.getD s.ref Node.empty).v != 0) != s.pol
  | 3 =>
    let d := inp.di.getD s.ref (false, false)
    d.2 && (d.1 != s.pol)
  | 4 => (inp.pb.getD s.ref (false, 0)).1 != s.pol
  | 5 =>
    let h := hps.getD s.ref HostPt.empty
    HostPt.quality h == qV && ((h.value != 0) != s.pol)
  | _ => false

/-- A boolean input. -/
def inBool (b : Bool) : InVal := ⟨b, if b then 1 else 0, true⟩

/-- Alarms of a class in an attribute: LAT_CNTc of the turn (R254). -/
def classCount (img : Image) (pts : List Pt) (cls : Nat) (sel : Nat → Bool) : Nat :=
  (List.range img.latp.points.length).foldl (fun n p =>
    let r := ptRec img p
    let s := pts.getD p Pt.empty
    (List.range 9).foldl (fun n k =>
      if (ckRec r k).en && (ckRec r k).cls == cls && sel (alSt s k) then n + 1 else n) n) 0

/-- The value of an input word (R254), with the node outputs and timer states that the reader
sees (R252). -/
def inputWord (img : Image) (inp : InImage) (pts : List Pt) (hps : List HostPt)
    (nodes : List Node) (timers : List Timer) (w : InWord) : InVal :=
  match w.ikind with
  | 1 =>
    let r := ptRec img w.index
    let p := pts.getD w.index Pt.empty
    if w.attr = 0 then inBool (ptActive r p)
    else if w.attr = 1 then inBool (ptUnack r p)
    else if w.attr = 2 then inBool (p.q == qV)
    else if w.attr = 3 then ⟨p.y != 0, p.y, p.q == qV⟩
    else inBool (stActive (alSt p (w.attr - 16)))
  | 2 => let n := nodes.getD w.index Node.empty
         ⟨n.v != 0, n.v, true⟩
  | 3 =>
    let t := timers.getD w.index Timer.empty
    if w.attr = 0 then inBool t.q else ⟨t.et != 0, t.et, true⟩
  | 4 =>
    let d := inp.di.getD w.index (false, false)
    ⟨d.1, if d.1 then 1 else 0, d.2⟩
  | 5 =>
    let h := hps.getD w.index HostPt.empty
    ⟨h.value != 0, h.value, HostPt.quality h == qV⟩
  | 6 =>
    let n := classCount img pts w.index (if w.attr = 0 then stActive else stUnack)
    ⟨n != 0, n, true⟩
  | 7 =>
    let b := inp.pb.getD w.index (false, 0)
    if w.attr = 0 then inBool b.1 else ⟨b.2 != 0, b.2, true⟩
  | _ => ⟨false, 0, true⟩

/-- The boolean that a reader takes from an input: FAILB when invalid, then INV (R255). -/
def inputBool (failb : Bool) (w : InWord) (x : InVal) : Bool :=
  (if x.ok then x.b else failb) != w.inv

end Sys2Proof.Machine
end

