-- ==== Sys2Proof/Machine/Contacts.lean ====
section
/-!
DEFINITION. The contact inputs and actuated outputs (R212 to R225): releases, output levels, host
levels, readback, pulse tests and the levels of the safe state (R392, R394).
-/
namespace Sys2Proof.Machine

/-- The record of DIn (R223). -/
def Dev.direc (d : Dev) (n : Nat) : DiRec := d.image.dioc.inputs.getD n ⟨0, 0, false⟩

/-- The record of DOm (R223). -/
def Dev.dorec (d : Dev) (m : Nat) : DoRec :=
  d.image.dioc.outputs.getD m ⟨false, 0, 0, false, false, 0, 5, 1⟩

/-- The device with the block's state changed. -/
def Dev.setDio (d : Dev) (f : Contacts → Contacts) : Dev := { d with dio := f d.dio }

/-- Sensor-fault statuses (R215). -/
def diFault (st : Nat) : Bool := [9, 5, 3, 4].contains st

/-- The STATUS of an input. -/
def Dev.diStatus (d : Dev) (n : Nat) : Nat := d.rdF (R.DIO_ISTS n) F.DIO_ISTS_STATUS

/-- A release of an input (R214, R215, R225): a state comes with GOOD only. -/
def Dev.diRelease (d : Dev) (n st : Nat) (state : Bool) : Dev :=
  let old := d.diStatus n
  let d := d.wrF (R.DIO_ISTS n) F.DIO_ISTS_STATUS st
  let d := d.wrF R.DIO_INFLT ⟨n, 1⟩ (b2n (diFault st))
  let d := if st = 0 then d.wrF R.DIO_INSTATE ⟨n, 1⟩ (b2n (state != (d.direc n).inv)) else d
  let d := d.raiseIf (diFault st && old == 0) 112
  d.raiseIf (st == 0 && diFault old) 113

/-- Whether an input samples: its MODE is not OFF and an image has applied (R215). -/
def Dev.diSamples (d : Dev) (n : Nat) : Bool := d.dio.connected && (d.direc n).mode != 0

/-- The band of a sampled current in µA by MODE, 1 NAMUR or 2 DRY (R213): 0 line OPEN, 1 state 0, 2 between the
states, 3 state 1, 4 line SHORT. -/
def diBand (mode : Nat) (i : Int) : Nat :=
  let dry := mode == 2
  if i < (if dry then 300 else 150) then 0
  else if i ≤ (if dry then 1500 else 1200) then 1
  else if i < (if dry then 2500 else 2100) then 2
  else if i < 6000 then 3
  else 4

/-- A sample that shows a state, with neither fault nor clamp standing (R214): the state is accepted at the
(DEB × 10)th consecutive sample, with DEB 0 at the first. -/
def DiChan.debounce (x : DiChan) (deb : Nat) (s : Bool) : DiChan :=
  if x.accepted = some s then { x with cand := s, count := 0 }
  else
    let k := if x.cand = s then x.count + 1 else 1
    if k ≥ 10 * deb then { x with accepted := some s, cand := s, count := 0 } else { x with cand := s, count := k }

/-- One sample of an input by its band (R213, R214): the runs in the line bands, the end of a fault or clamp at a
sample in a state band, the state's restart from there, and the debounce. A sample between the states shows the last
state, if there was one, and ends no fault (DEDUCED; log entry 62). -/
def DiChan.sample (x : DiChan) (deb : Nat) (clampOn : Bool) (band : Nat) : DiChan :=
  let line := if band = 0 then 1 else if band = 4 then 2 else 0
  let run := if line = 0 then 0 else if line = x.line then satInc 255 x.run else 1
  let stood := x.opened || x.shorted || x.clamp || clampOn
  let x := { x with line := line, run := run, clamp := x.clamp || clampOn }
  if line ≠ 0 then
    { x with count := 0, opened := x.opened || (line == 1 && decide (run ≥ 20))
             shorted := x.shorted || (line == 2 && decide (run ≥ 20)) }
  else if band = 2 then (if !stood && x.seen then x.debounce deb x.shown else x)
  else
    let s := band == 3
    let x := { x with shown := s, seen := true }
    if !stood then x.debounce deb s
    else if clampOn then { x with opened := false, shorted := false, count := 0 }
    else { x with opened := false, shorted := false, clamp := false, accepted := some s, cand := s, count := 0 }

/-- The status that an input's conditions give it (R215): the first row that applies; none before the first state. -/
def DiChan.status (x : DiChan) : Option Nat :=
  if x.clamp then some 5 else if x.opened then some 3 else if x.shorted then some 4
  else if x.accepted.isSome then some 0 else none

/-- An input's state. -/
def Dev.di (d : Dev) (n : Nat) : DiChan := d.dio.ins.getD n DiChan.empty

/-- The device with an input's state changed. -/
def Dev.setDi (d : Dev) (n : Nat) (x : DiChan) : Dev := d.setDio (fun c => { c with ins := upd c.ins n (fun _ => x) })

/-- The current of a sample in µA (R212, R216): what the front end measured is the current in the device whose source
is connected, else the pin voltage in mV, from which the current is (8.2 V − V) / 1 kΩ. -/
def Dev.diCurrent (d : Dev) (x : Int) : Int := if d.dio.source then x else 8200 - x

/-- Whether a sample is discarded: it was taken within 50 µs of the change of its source (R212). `later` samples
of 100 µs each have followed it. -/
def Dev.diDiscards (d : Dev) (later : Nat) : Bool :=
  match d.dio.changed with
  | some t => decide (t + 40000 * later ≤ d.clk ∧ d.clk < t + 40000 * later + 20000)
  | none => false

/-- One sample of an input (R212 to R216): ICUR, and a release when the status or the accepted state changes. -/
def Dev.diSample (d : Dev) (n : Nat) (measured : Int) (later : Nat) : Dev :=
  if !d.diSamples n || d.diDiscards later then d
  else
    let r := d.direc n
    let i := d.diCurrent measured
    let old := d.di n
    let x := old.sample r.deb (bitOf d.dio.clampOn n) (diBand r.mode i)
    let d := (d.setDi n x).wrF (R.DIO_ISTS n) F.DIO_ISTS_ICUR (clampI 0 65535 i).toNat
    match x.status with
    | none => d
    | some st =>
      if st = d.diStatus n ∧ x.accepted = old.accepted then d
      else d.diRelease n st (x.accepted.getD false)

/-- Consecutive samples of an input, the last of them taken now. -/
def Dev.diRun (d : Dev) (n : Nat) : List Int → Dev
  | [] => d
  | i :: is => (d.diSample n i is.length).diRun n is

/-- CONTACT_CLAMP: a clamp current appears, or ends; CLAMP then lasts to the first state (R214). -/
def Dev.diClamp (d : Dev) (n : Nat) (on : Bool) : Dev :=
  let d := d.setDio (fun c => { c with clampOn := putBit c.clampOn n on })
  if !on then d
  else
    let d := d.flagEv R.DIO_STAT 0 114
    if d.diSamples n then (d.setDi n { d.di n with clamp := true }).diRelease n 5 false else d

/-! Outputs -/

/-- Whether a point is active in the committed view (R203, R241). -/
def Dev.viewActive (d : Dev) (p : Nat) : Bool :=
  let a := d.turn.view.alarms.getD p []
  (List.range 9).any (fun k => bitOf (ptRec d.image p).omask.toNat k && stActive (a.getD k stUnused))

/-- Whether a group node's output is 1, over the committed alarm states (R22, R203, R218). -/
def Dev.viewNode (d : Dev) (n : Nat) : Bool := (d.turn.view.nodes.getD n Node.empty).v == 1

/-- The condition of an output's source (R218). -/
def Dev.doCondition (d : Dev) (r : DoRec) : Bool :=
  if r.srck = 1 then d.viewActive r.src
  else if r.srck = 2 then d.viewNode r.src
  else bitOf d.turn.view.sig r.src

/-- The host level of an output. -/
def Dev.hostLevel (d : Dev) (m : Nat) : Bool :=
  if m = 31 then d.rdF R.DIO_HOSTSET31 F.DIO_HOSTSET31_SET == 1
  else bitOf (d.rd R.DIO_HOSTSET).toNat m

/-- The level that an output's source asks for (R218). -/
def Dev.doLevel (d : Dev) (m : Nat) : Bool :=
  let r := d.dorec m
  if r.srck = 0 then d.hostLevel m else d.doCondition r != r.inv

/-- The record of an output that is in use: a changed one takes its new record at an emit (R222). -/
def Dev.doUsed (d : Dev) (m : Nat) : DoRec :=
  match d.dio.recs with
  | some l => l.getD m ⟨false, 0, 0, false, false, 0, 5, 1⟩
  | none => d.dorec m

/-- Whether the device drives DOm (R217, R222): not before its first levels. -/
def Dev.doDrives (d : Dev) (m : Nat) : Bool := d.holder && d.dio.recs.isSome && (d.doUsed m).oen

/-- Every output takes its present record (R222). -/
def Dev.doTake (d : Dev) : Dev :=
  let l := d.image.dioc.outputs
  d.setDio (fun c => { c with recs := some l })

/-- Whether the safe state stands (R392). -/
def Dev.safe (d : Dev) : Bool := d.rdF R.WTC_STAT F.WTC_STAT_SAFEACT == 1

/-- The level of a driven output shown in DIO_OUT, and since when it stands energised. -/
def Dev.setLevel (d : Dev) (m : Nat) (b : Bool) : Dev :=
  let now := d.clk
  (d.wrF R.DIO_OUT ⟨m, 1⟩ (b2n b)).setDio (fun c => { c with
    onSince := upd c.onSince m (fun t => if b then some (t.getD now) else none) })

/-- The cycles of FBT (R219). -/
def DoRec.fbtCycles (r : DoRec) : Nat := r.fbt * 400000

/-- The level of an output at an emit: a pulse that the emit de-energises ends, and the readback check stays suspended
for FBT (R218 to R220). -/
def Dev.doEmit (d : Dev) (m : Nat) : Dev :=
  let w := d.doLevel m
  let d := d.setDio (fun c => { c with want := putBit c.want m w })
  if !d.doDrives m then d.setLevel m false
  else if d.dio.ptPhase.getD m 0 = 1 then
    if w then d
    else
      let till := d.clk + (d.doUsed m).fbtCycles
      d.setDio (fun c => { c with ptPhase := upd c.ptPhase m (fun _ => 3), fbHold := upd c.fbHold m (fun _ => till) })
  else d.setLevel m w

/-- All outputs at an emit. -/
def Dev.doEmitAll (d : Dev) : Dev :=
  (List.range 32).foldl Dev.doEmit d.doTake

/-- A level that the safe state withholds: an entry for its first difference and for each change
(R394). -/
def Dev.doWithhold (d : Dev) (turn tick m : Nat) : Dev :=
  let w := d.doLevel m
  let held := bitOf (d.rd R.DIO_OUT).toNat m
  let old := d.dio.withheld.getD m none
  if !(d.dorec m).oen || (d.dorec m).srck == 0 || w == held then
    d.setDio (fun c => { c with withheld := upd c.withheld m (fun _ => none) })
  else if old = some w then d
  else
    let e := { sysEntry 0x0005 ([1, byteOf m] ++ leBytes 4 (b2n w) ++ leBytes 4 (b2n held)) with
      turn := turn, tick := tick }
    (d.setDio (fun c => { c with withheld := upd c.withheld m (fun _ => some w) })).happen e

/-- A setpoint that the safe state withholds (R394). -/
def Dev.loWithhold (d : Dev) (turn tick m : Nat) (x : SetIn) : Dev :=
  let w := (selectSetpoint (d.orec m) { x with safe := false })
  let held := d.rdF (R.LOP_OACT m) F.LOP_OACT_APPLIED
  if !(d.orec m).oen || w.1 == 0 || w.2 == held then
    d.setDio (fun c => { c with withheldSet := upd c.withheldSet m (fun _ => none) })
  else if d.dio.withheldSet.getD m none = some w.2 then d
  else
    let e := { sysEntry 0x0005 ([2, byteOf m] ++ leBytes 4 w.2 ++ leBytes 4 held) with
      turn := turn, tick := tick }
    (d.setDio (fun c => { c with withheldSet := upd c.withheldSet m (fun _ => some w.2) })).happen e

/-- The outputs enter the safe state: each driven output takes its SAFE level, pulses end, EV117
(R392, R218). -/
def Dev.doSafe (d : Dev) : Dev :=
  (List.range 32).foldl (fun d m =>
    let d := d.setDio (fun c => { c with ptPhase := upd c.ptPhase m (fun _ => 0) })
    if !d.doDrives m then d
    else
      let r := d.doUsed m
      let d := if r.safe = 0 then d.setLevel m false else if r.safe = 1 then d.setLevel m true else d
      (d.wrF (R.DIO_OSTS m) F.DIO_OSTS_SAFEACT 1).raise 117) d

/-- The selection's inputs of a loop output (R203) from the committed view. -/
def Dev.setIn (d : Dev) (n : Nat) : SetIn :=
  let r := d.orec n
  let alm := if r.almsrc / 4096 % 2 = 1 then d.viewNode (r.almsrc % 4096) else d.viewActive (r.almsrc % 4096)
  let p := d.turn.cur.pts.getD r.trksrc Pt.empty
  ⟨d.safe, alm, p.q == qF, p.y, d.rdF (R.LOP_OSET n) F.LOP_OSET_SETPT, d.rdF (R.LOP_OACT n) F.LOP_OACT_APPLIED⟩

/-! Host levels (R218) -/

/-- The mask of the write-buffered field of a host-level register. -/
def hostsetMask (reg31 : Bool) : Word := if reg31 then 1 else 0x7FFFFFFF

/-- The address of a host-level register. -/
def hostsetReg (reg31 : Bool) : Nat := if reg31 then R.DIO_HOSTSET31 else R.DIO_HOSTSET

/-- The outputs whose bit a write would change though their source is not the host, or in the safe
state (R218, R394), as a mask of register bits. -/
def Dev.hostsetOver (d : Dev) (reg31 : Bool) (old v : Word) : Word :=
  let n := if reg31 then 1 else 31
  BitVec.ofNat 32 ((List.range n).foldl (fun m j =>
    let o := if reg31 then 31 else j
    if bitOf (old ^^^ v).toNat j && (d.safe || (d.dorec o).srck != 0) then m + 2 ^ j else m) 0)

/-- A pending host-level write at the sample latch (R35, R43, R218). -/
def Dev.hostsetLatch (d : Dev) (reg31 : Bool) : Dev :=
  let a := hostsetReg reg31
  match d.wbWord a with
  | none => d
  | some v =>
    let sess := d.wbSess a
    let d := d.wbDrop a
    let old := d.rd a &&& hostsetMask reg31
    let held := d.hostsetOver reg31 old v
    let d := d.wr a ((v &&& ~~~ held) ||| (old &&& held))
    if held = 0 then d
    else (d.flagEv R.DIO_STAT 2 119).happen
      (hostOvr a v held (if d.safe then resOverridden else resOverLattice) sess)

/-- HOSTSET_WRITE. -/
def Dev.hostsetWrite (d : Dev) (sess : Nat) (reg31 : Bool) (v : Word) : Dev :=
  d.wbWrite (hostsetReg reg31) (hostsetMask reg31) v sess

/-! Readback and pulse tests -/

/-- FEEDBACK_TIMEOUT: FBT with, or without, a mismatch (R219); suspended in a pulse test, for FBT after it, and while
the output is high-impedance. A standby notes the mismatch with its own levels (R221). -/
def Dev.doFeedback (d : Dev) (m : Nat) (mismatch : Bool) : Dev :=
  if d.doDrives m then
    if d.dio.ptPhase.getD m 0 ≠ 0 ∨ d.clk < d.dio.fbHold.getD m 0 then d
    else
      let lv := bitOf (d.rd R.DIO_OUT).toNat m
      let d := d.wrF R.DIO_FB ⟨m, 1⟩ (b2n (lv != mismatch))
      let was := d.rdF (R.DIO_OSTS m) F.DIO_OSTS_FBFLT == 1
      (d.wrF (R.DIO_OSTS m) F.DIO_OSTS_FBFLT (b2n mismatch)).raiseIf (mismatch && !was) 115
  else
    let d := d.setDio (fun c => { c with mismatch := putBit c.mismatch m mismatch })
    d.wrF R.DIO_FB ⟨m, 1⟩ (b2n (bitOf d.dio.want m != mismatch))

/-- The standby's comparison of the readback with its own levels at an emit (R221). -/
def Dev.doCompare (d : Dev) : Dev :=
  (List.range 32).foldl (fun d m =>
    if (d.dorec m).oen then d.xCompare 5 m (bitOf d.dio.mismatch m) R.DIO_STAT 1 118 else d) d

/-- Whether an output is due for its pulse test: driven and energised with PTEN, and PTPER has passed since its last
pulse. One that has had none is due (DESIGN CHOICE; log entry 62). -/
def Dev.ptDue (d : Dev) (m : Nat) : Bool :=
  d.doDrives m && (d.doUsed m).pten && bitOf (d.rd R.DIO_OUT).toNat m
    && (d.dio.ptLast.getD m none).all (fun t => decide (d.clk ≥ t + d.image.dioc.ptper * 400000000))

/-- PULSE_TEST_START (R220): the first output that is due, in ascending index, one per turn, none under PAIR_HOLD or
in the safe state. -/
def Dev.ptStart (d : Dev) (m : Nat) : Dev :=
  if !d.ptDue m || (List.range m).any d.ptDue || d.safe || d.rdF R.PAR_ROLE F.PAR_ROLE_HOLD == 1 || d.pair.castle != 0
      || d.dio.ptTurn == some d.turn.number || d.dio.ptPhase.getD m 0 != 0 then d
  else
    (d.wrF R.DIO_OUT ⟨m, 1⟩ 0).setDio (fun c => { c with
      ptPhase := upd c.ptPhase m (fun _ => 1), ptLow := putBit c.ptLow m false,
      ptTurn := some d.turn.number, ptLast := upd c.ptLast m (fun _ => some d.clk) })

/-- The verdict of a pulse test (R220). -/
def Dev.ptJudge (d : Dev) (m : Nat) (ok : Bool) : Dev :=
  let now := d.clk
  let d := d.setDio (fun c => { c with
    ptPhase := upd c.ptPhase m (fun _ => 0), ptFail := putBit c.ptFail m (!ok)
    ptPass := if ok then upd c.ptPass m (fun _ => some now) else c.ptPass })
  if ok then d.wrF (R.DIO_OSTS m) F.DIO_OSTS_PTCNT (d.rdF (R.DIO_OSTS m) F.DIO_OSTS_PTCNT + 1)
  else d.flagEv (R.DIO_OSTS m) 23 116

/-- PULSE_TEST_END: the pulse ends, or had been ended by an emit; `fb` is the readback as it stood when the pulse
ended (R220). -/
def Dev.ptEnd (d : Dev) (m : Nat) (fb : Bool) : Dev :=
  let ph := d.dio.ptPhase.getD m 0
  if ph = 1 then
    ((d.wrF R.DIO_FB ⟨m, 1⟩ (b2n fb)).setLevel m true).setDio (fun c => { c with
      ptPhase := upd c.ptPhase m (fun _ => 2), ptLow := putBit c.ptLow m (!fb) })
  else if ph = 3 then d.ptJudge m (!fb)
  else d

/-- PULSE_TEST_VERDICT (R220). -/
def Dev.ptVerdict (d : Dev) (m : Nat) (fb : Bool) : Dev :=
  if d.dio.ptPhase.getD m 0 ≠ 2 then d
  else (d.wrF R.DIO_FB ⟨m, 1⟩ (b2n fb)).ptJudge m (bitOf d.dio.ptLow m && fb)

/-- Whether the fault source of DOm stands (R219, R220, R227). -/
def Dev.doFault (d : Dev) (m : Nat) : Bool :=
  d.rdF (R.DIO_OSTS m) F.DIO_OSTS_FBFLT == 1 || bitOf d.dio.ptFail m

/-- The sources of the contact inputs are connected, or not, as the token goes (R212). -/
def Dev.diSource (d : Dev) (on : Bool) : Dev :=
  let now := d.clk
  d.setDio (fun c => { c with source := on && c.connected, changed := some now })

/-- The gain of the token: the outputs take the levels of the last committed turn (R221), the contact inputs their
sources (R212). -/
def Dev.doGain (d : Dev) : Dev :=
  let d := d.diSource true
  if d.safe then d
  else (List.range 32).foldl (fun d m => if d.doDrives m then d.setLevel m (bitOf d.dio.want m) else d) d

/-- The loss of the token: the outputs are high-impedance, pulses stop, the sources are disconnected (R212, R217,
R220). -/
def Dev.doLoss (d : Dev) : Dev :=
  ((d.wr R.DIO_OUT 0).setDio (fun c => { c with
    ptPhase := List.replicate 32 0, onSince := List.replicate 32 none })).diSource false

/-- The image applies to the inputs (R215, R222): the holder connects its sources. -/
def Dev.dioApply (d : Dev) (first : Bool) (old : Image) : Dev :=
  let hold := d.holder
  let d := d.setDio (fun c => { c with connected := true, source := hold })
  (List.range 32).foldl (fun d n =>
    if first || old.dioc.inputs[n]? != d.image.dioc.inputs[n]? then
      let d := ((d.setDi n DiChan.empty).wrF (R.DIO_ISTS n) F.DIO_ISTS_STATUS 0xF).wrF R.DIO_INFLT ⟨n, 1⟩ 0
      if (d.direc n).mode = 0 then d.diRelease n 9 false else d
    else d) d

end Sys2Proof.Machine
end

