-- ==== Sys2Proof/Machine/Panel.lean ====
section
/-!
DEFINITION. The bistable panel (R446 to R467): targets, requests, updates, bands, contrast voltage, the
crack loop and cuts. The forced discharge stands in Machine/Functions.lean.
-/
namespace Sys2Proof.Machine

/-- The device with the panel's state changed. -/
def Dev.setPnl (d : Dev) (f : Panel → Panel) : Dev := { d with pnl := f d.pnl }

/-- The reached level of an element. -/
def Dev.pLev (d : Dev) (e : Nat) : Nat := d.rdF (R.PNL_LEV (e / 16)) ⟨2 * (e % 16), 2⟩

/-- Whether an element is UNKNOWN. -/
def Dev.pUnk (d : Dev) (e : Nat) : Bool := d.rdF (R.PNL_UNK (e / 32)) ⟨e % 32, 1⟩ == 1

/-- The target of an element. -/
def Dev.pTgt (d : Dev) (e : Nat) : Nat := d.rdF (R.PNL_TGT (e / 16)) ⟨2 * (e % 16), 2⟩

/-- An element's reached level set, its UNKNOWN flag cleared (R458). -/
def Dev.pReach (d : Dev) (e l : Nat) : Dev :=
  (d.wrF (R.PNL_LEV (e / 16)) ⟨2 * (e % 16), 2⟩ l).wrF (R.PNL_UNK (e / 32)) ⟨e % 32, 1⟩ 0

/-- An element made UNKNOWN. -/
def Dev.pLose (d : Dev) (e : Nat) : Dev := d.wrF (R.PNL_UNK (e / 32)) ⟨e % 32, 1⟩ 1

/-- An element's target set. -/
def Dev.pAim (d : Dev) (e l : Nat) : Dev := d.wrF (R.PNL_TGT (e / 16)) ⟨2 * (e % 16), 2⟩ l

/-- The elements of a region, and its NOTIFY. -/
def Dev.pRegion (d : Dev) (r : Nat) : List Nat × Bool := d.image.panl.regions.getD r ([], false)

/-- Whether a region is pending. -/
def Dev.pPending (d : Dev) (r : Nat) : Bool := d.rdF R.PNL_PENDMAP ⟨r, 1⟩ == 1

/-- Whether a region's MAINT stands. -/
def Dev.pMaint (d : Dev) (r : Nat) : Bool := d.rdF R.PNL_REGMAP ⟨16 + r, 1⟩ == 1

/-- A region made pending, or not. -/
def Dev.pPend (d : Dev) (r : Nat) (b : Bool) : Dev := d.wrF R.PNL_PENDMAP ⟨r, 1⟩ (b2n b)

/-- Whether any update runs. -/
def Dev.pRunning (d : Dev) : Bool := d.pnl.runs.any Option.isSome

/-- An absent element's record. -/
def ElemRec.empty : ElemRec := ⟨0, 0, 0, 0, 0⟩

/-- Entry i of a MAP. -/
def ElemRec.at_ (r : ElemRec) (i : Nat) : Nat := r.map.toNat / 4 ^ i % 4

/-- The target of an element by its content rule (R453): alarms, chains, watch and signals as their
committed entries left them, host levels as last written. -/
def Dev.pContent (d : Dev) (e : Nat) : Nat :=
  let r := d.image.panl.elems.getD e ElemRec.empty
  let v := d.turn.view
  match r.ckind with
  | 1 => r.at_ ((v.alarms.getD r.index []).getD r.kindSig stUnused)
  | 2 => r.at_ (b2n (d.viewActive r.index))
  | 3 => r.at_ (b2n ((v.nodes.getD r.index Node.empty).v != 0))
  | 4 => r.at_ (b2n (bitOf v.sig r.kindSig))
  | 5 => ((d.pnl.hostLev.find? (fun x => x.1 = e)).map (·.2)).getD r.level
  | 6 => r.at_ (b2n (v.duty == some r.index))
  | 7 => r.at_ (b2n (v.present.getD r.index false))
  | 8 =>
    match v.chains[r.index]? with
    | some c => r.at_ (if c.st = 0 then 0 else if c.st = 1 then 1 + c.stg else 5)
    | none => r.at_ 0
  | 9 => r.at_ v.wst
  | _ => r.level

/-- The request element of a region (R454). -/
def panelRequestBytes (r q turn : Nat) : List Byte :=
  [byteOf r, 0, byteOf q, 0] ++ leBytes 4 turn

/-- A request placed, unless one for the region waits in the queue already (R454). -/
def Dev.pRequest (d : Dev) (r q : Nat) : Dev :=
  if (d.queue q).any (fun e => byteAt e.bytes 0 = r) then d
  else d.push q (panelRequestBytes r q d.turn.number) none

/-- Whether a content change of an element asks for Q56 or for Q58 (R454). -/
def pAsks (ckind : Nat) : Bool × Bool :=
  (1 ≤ ckind && ckind ≤ 3, ckind == 4 || (6 ≤ ckind && ckind ≤ 9))

/-- The effective target of an element of a region: the TEST level under MAINT (R455). -/
def Dev.pEffective (d : Dev) (r e : Nat) : Nat :=
  match d.pnl.test.getD r none with
  | some l => l
  | none => d.pnl.content.getD e 0

/-- The targets of a region written to the registers. -/
def Dev.pShow (d : Dev) (r : Nat) : Dev :=
  (d.pRegion r).1.foldl (fun d e => d.pAim e (d.pEffective r e)) d

/-- What the regions ask for when the content becomes `new` (R454): region, Q56, Q58. -/
def Dev.pChanges (d : Dev) (new : List Nat) : List (Nat × Bool × Bool) :=
  (List.range d.image.panl.nreg).map (fun r =>
    let ch := (d.pRegion r).1.filter (fun e => d.pnl.content.getD e 0 ≠ new.getD e 0)
    let k := ch.map (fun e => pAsks (d.image.panl.elems.getD e ElemRec.empty).ckind)
    (r, k.any (·.1), k.any (·.2)))

/-- The content of every element, and what each region asks for, at the emit of a completed turn. -/
def Dev.pNewContent (d : Dev) : List Nat := (List.range 768).map d.pContent

/-- The emit of a completed turn (R454, R462). -/
def Dev.pnlEmit (d : Dev) : Dev :=
  let new := d.pNewContent
  let asks := d.pChanges new
  let d := d.setPnl (fun p => { p with content := new })
  let d := (List.range 768).foldl (fun d e => d.pAim e (new.getD e 0)) d
  let d := (List.range d.image.panl.nreg).foldl Dev.pShow d
  let d := if d.holder then asks.foldl (fun d x =>
      let d := if x.2.1 then d.pRequest x.1 56 else d
      if x.2.2 then d.pRequest x.1 58 else d) d
    else d
  if d.pnl.redraw ∧ d.rdF R.PNL_CTRL F.PNL_CTRL_STATE = 2 then
    ((List.range d.image.panl.nreg).foldl (fun d r => d.pPend r true) d).setPnl
      (fun p => { p with redraw := false })
  else d

/-- The levels of PNLHOST that act: HOST elements of the region (R455). -/
def Dev.pHostLevels (d : Dev) (r e0 : Nat) (levels : Nat) : List (Nat × Nat) :=
  ((List.range 96).map (fun i => (e0 + i, levels / 4 ^ i % 4))).filter (fun x =>
    (d.pRegion r).1.contains x.1 && (d.image.panl.elems.getD x.1 ElemRec.empty).ckind == 5)

/-- PNLHOST at the driver (R455). -/
def Dev.pHost (d : Dev) (r e0 levels : Nat) : Dev :=
  let new := d.pHostLevels r e0 levels
  let d := d.setPnl (fun p => { p with
    hostLev := new ++ p.hostLev.filter (fun x => !new.any (fun y => y.1 == x.1))
    content := new.foldl (fun c x => upd c x.1 (fun _ => x.2)) p.content })
  let d := d.pShow r
  if d.pMaint r then d else d.pPend r true

/-- A maintenance operation on one region (R455): 1 TEST, 2 RESTORE, 3 REDRAW. -/
def Dev.pMaintOp (d : Dev) (op level r : Nat) : Dev :=
  let d := if op = 1 then
      (d.wrF R.PNL_REGMAP ⟨16 + r, 1⟩ 1).setPnl (fun p => { p with test := upd p.test r (fun _ => some (level % 4)) })
    else if op = 2 then
      (d.wrF R.PNL_REGMAP ⟨16 + r, 1⟩ 0).setPnl (fun p => { p with test := upd p.test r (fun _ => none) })
    else (d.pRegion r).1.foldl Dev.pLose d
  (d.pShow r).pPend r true

/-- The driver consumes a request (R456): the region's present targets become pending, unless its
MAINT stands and the request is for content (R455). -/
def Dev.pConsume (d : Dev) (q : Nat) (bytes : List Byte) : Dev :=
  if q = 57 then d.pHost (byteAt bytes 4) (uAt bytes 6 2) (uAt bytes 8 24)
  else if q = 59 then
    let rs := if byteAt bytes 4 = 0xFF then List.range d.image.panl.nreg else [byteAt bytes 4]
    rs.foldl (fun d r => d.pMaintOp (byteAt bytes 5) (byteAt bytes 6) r) d
  else
    let r := byteAt bytes 0
    if d.pMaint r then d else d.pPend r true

/-- PANEL_REQUEST: the head of Q(56 + k) consumed (R456). -/
def Dev.pnlRequest (d : Dev) (k : Nat) : Dev :=
  match d.queue (56 + k) with
  | e :: _ => (d.pop (56 + k)).pConsume (56 + k) e.bytes
  | [] => d

/-- The waveform length of a transition in a band (R449). -/
def Dev.pNfr (d : Dev) (band old new : Nat) : Nat :=
  ((d.image.panl.waves[16 * band + 4 * old + new]?).map WaveRec.nfr).getD 0

/-- The frame count. -/
def Dev.pFrame (d : Dev) : Nat := (d.rd R.PNL_FRAMECNT).toNat

/-- The Q55 notification of a region (R458). -/
def Dev.pNotify (d : Dev) (r outcome : Nat) (x : PanelRun) : Dev :=
  if (d.pRegion r).2 then
    let full := !d.hasRoom 55
    let d := d.push 55 ([byteOf r, byteOf outcome, byteOf x.band, byteOf x.len]
      ++ leBytes 4 d.turn.number ++ leBytes 4 x.start) none
    d.raiseIf full 247
  else d

/-- The end of a region's update (R458). -/
def Dev.pDone (d : Dev) (r : Nat) (x : PanelRun) : Dev :=
  let d := x.elems.foldl (fun d e => d.pReach e.1 e.2.1) d
  let d := d.setPnl (fun p => { p with runs := upd p.runs r (fun _ => none) })
  let d := d.wrF R.PNL_REGMAP ⟨r, 1⟩ 0
  let d := d.wrFs (R.PNL_REGSTS r) [(F.PNL_REGSTS_FIDX, x.len),
    (F.PNL_REGSTS_DONES, d.rdF (R.PNL_REGSTS r) F.PNL_REGSTS_DONES + 1)]
  (d.pNotify r 0 x).raise 240

/-- UPDATE_COMPLETE (R458): at the first boundary after the last frame. -/
def Dev.pnlComplete (d : Dev) (r : Nat) : Dev :=
  match d.pnl.runs.getD r none with
  | some x => if d.pFrame + 1 ≥ x.start + x.len then d.pDone r x else d
  | none => d

/-- The start of a region's update (R457). -/
def Dev.pStart (d : Dev) (r : Nat) : Dev :=
  let band := d.rdF R.PNL_STAT F.PNL_STAT_BAND
  let elems := (d.pRegion r).1.map (fun e =>
    let new := d.pTgt e
    let old := if d.pUnk e then d.image.panl.unkold.getD new 0 else d.pLev e
    (e, new, d.pNfr band old new, old))
  let len := (elems.map (fun x => x.2.2.1)).foldl max 0
  let x : PanelRun := ⟨d.pFrame, len, band, elems⟩
  let d := (d.pPend r false).wrF R.PNL_REGMAP ⟨r, 1⟩ 1
  let d := d.wrFs (R.PNL_REGSTS r) [(F.PNL_REGSTS_BAND, band), (F.PNL_REGSTS_LEN, len),
    (F.PNL_REGSTS_FIDX, 0)]
  let d := d.setPnl (fun p => { p with runs := upd p.runs r (fun _ => some x) })
  if len = 0 then d.pDone r x else d

/-- The band adopted (R452): VSET follows, and updates wait until VLCD lies within ±2 % of it. -/
def Dev.pAdopt (d : Dev) (b : Nat) : Dev :=
  let d := (d.wrF R.PNL_STAT F.PNL_STAT_BAND b).wrF R.PNL_STAT F.PNL_STAT_BANDPEND 0
  let d := d.wrF R.PNL_VLCD F.PNL_VLCD_VSETP (10 * d.image.panl.vset.getD b 100)
  (d.setPnl (fun p => { p with bandNext := none, vlcdOk := false })).raise 245

/-- Whether an update may start (R451, R452, R457). -/
def Dev.pMayStart (d : Dev) : Bool :=
  d.rdF R.PNL_CTRL F.PNL_CTRL_STATE == 2 && d.rdF R.PNL_STAT F.PNL_STAT_VFLT == 0
    && d.rdF R.PNL_STAT F.PNL_STAT_BANDPEND == 0 && d.pnl.vlcdOk

/-- The FIDX of the running updates. -/
def Dev.pIndexes (d : Dev) : Dev :=
  (List.range 16).foldl (fun d r =>
    match d.pnl.runs.getD r none with
    | some x => d.wrF (R.PNL_REGSTS r) F.PNL_REGSTS_FIDX (min (d.pFrame - x.start) 255)
    | none => d) d

/-! The drive of an element (R447 to R449) -/

/-- AMP of an element in frame `k` of its update, with the overdrive of the first frames; 0 for ZERO (R449). -/
def WaveRec.drive (w : WaveRec) (k : Nat) : Nat :=
  let b := (byteAt w.frames k)
  if w.nfr ≤ k ∨ b / 64 ≠ 1 then 0
  else if k < w.ovf then min 63 (b % 64 + w.ova) else b % 64

/-- Whether element e sees + in frame f, by the polarity mode (R448). -/
def pPositive (polmode f e : Nat) : Bool :=
  (f + (if polmode = 0 then 0 else e / 96) + (if polmode = 2 then e % 96 else 0)) % 2 == 0

/-- AMP of an element in the present frame: 0 outside a running update (R448, R449). -/
def Dev.pAmp (d : Dev) (e : Nat) : Nat :=
  match d.pnl.runs.findSome? (fun r => r.bind (fun x => (x.elems.find? (fun y => y.1 == e)).map (fun y => (x, y)))) with
  | some (x, y) =>
    match d.image.panl.waves[16 * x.band + 4 * y.2.2.2 + y.2.1]? with
    | some w => w.drive (d.pFrame - x.start)
    | none => 0
  | none => 0

/-- What an element sees in its common slot of the present frame, in VLCD/63 with its sign; none where the drivers are
high-impedance, 0 V in the discharge (R447, R448, R460). -/
def Dev.pDrive (d : Dev) (e : Nat) : Option Int :=
  let st := d.rdF R.PNL_CTRL F.PNL_CTRL_STATE
  if st = 2 then
    let a : Int := d.pAmp e
    some (if pPositive d.image.panl.polmode d.pFrame e then a else -a)
  else if st = 3 ∧ d.holder then some 0
  else none

/-- The updates whose last frame is over complete at a frame boundary (R458). -/
def Dev.pEnds (d : Dev) : Dev :=
  (List.range 16).foldl (fun d r =>
    match d.pnl.runs.getD r none with
    | some x => if d.pFrame ≥ x.start + x.len then d.pDone r x else d
    | none => d) d

/-- PANEL_FRAME (R448, R452, R457): the frame counts while STATE is ON. -/
def Dev.pnlFrame (d : Dev) (vlcd : BitVec 16) : Dev :=
  if d.rdF R.PNL_CTRL F.PNL_CTRL_STATE ≠ 2 then d
  else
    let d := (d.wr R.PNL_FRAMECNT (d.rd R.PNL_FRAMECNT + 1)).pEnds
    let d := d.wrF R.PNL_VLCD F.PNL_VLCD_VMEAS vlcd.toNat
    let d := match d.pnl.bandNext with
      | some b => if d.pRunning then d else d.pAdopt b
      | none => d
    let set := d.rdF R.PNL_VLCD F.PNL_VLCD_VSETP
    let ok := decide (50 * ((vlcd.toNat : Int) - set).natAbs ≤ set)
    let d := if ok then d.setPnl (fun p => { p with vlcdOk := true }) else d
    let d := d.pIndexes
    (List.range d.image.panl.nreg).foldl (fun d r =>
      if d.pPending r && (d.pnl.runs.getD r none).isNone && d.pMayStart then d.pStart r else d) d

/-- The band of a code, from the band in force and its 16-code margin (R450). -/
def bandOf (bth : List Nat) (cur code : Nat) (first : Bool) : Nat :=
  if first then (bth.filter (fun t => code > t)).length
  else
    let up := (bth.filter (fun t => code ≥ t + 16)).length
    let dn := (bth.filter (fun t => code + 16 > t)).length
    if up > cur then up else if dn < cur then dn else cur

/-- A measured band against the one in force (R452). -/
def Dev.pBand (d : Dev) (b : Nat) : Dev :=
  if b = d.rdF R.PNL_STAT F.PNL_STAT_BAND then
    (d.wrF R.PNL_STAT F.PNL_STAT_BANDPEND 0).setPnl (fun p => { p with bandNext := none })
  else if d.pRunning then
    (d.wrF R.PNL_STAT F.PNL_STAT_BANDPEND 1).setPnl (fun p => { p with bandNext := some b })
  else d.pAdopt b

/-- TPAN_SAMPLE (R450). -/
def Dev.pnlTpan (d : Dev) (code : BitVec 12) : Dev :=
  let c := code.toNat
  let d := d.wrF R.PNL_MEAS F.PNL_MEAS_TPCODE c
  let was := d.rdF R.PNL_STAT F.PNL_STAT_TPFLT = 1
  if c < 16 ∨ c > 4079 then
    let d := d.wrF R.PNL_STAT F.PNL_STAT_TPFLT 1
    let d := if was then d else d.flagEv R.PNL_STAT 20 244
    if d.pnl.measured then d else d.pBand d.image.panl.defband
  else
    let d := d.wrF R.PNL_STAT F.PNL_STAT_TPFLT 0
    let first := !d.pnl.measured
    let d := d.setPnl (fun p => { p with measured := true })
    d.pBand (bandOf d.image.panl.bth (d.rdF R.PNL_STAT F.PNL_STAT_BAND) c first)

/-- VFLT after 10 ms of a contrast voltage: it sets outside ±5 % of the setpoint and clears within ±2 % (R451). -/
def vfltNext (was fault : Bool) (v set : Nat) : Bool :=
  let off := ((v : Int) - set).natAbs
  if fault then was || decide (20 * off > set) else was && decide (50 * off > set)

/-- VLCD_FAULT: VFLT sets or clears (R451, R464). -/
def Dev.pnlVflt (d : Dev) (fault : Bool) (vmeas : BitVec 16) : Dev :=
  let was := d.rdF R.PNL_STAT F.PNL_STAT_VFLT == 1
  let fault := vfltNext was fault vmeas.toNat (d.rdF R.PNL_VLCD F.PNL_VLCD_VSETP)
  let d := d.wrF R.PNL_VLCD F.PNL_VLCD_VMEAS vmeas.toNat
  let d := d.wrF R.PNL_STAT F.PNL_STAT_VFLT (b2n fault)
  if fault ∧ ¬ was then
    (d.flagEv R.PNL_STAT 21 243).happen
      (sysEntry 0x0032 (leBytes 2 vmeas.toNat ++ leBytes 2 (d.rdF R.PNL_VLCD F.PNL_VLCD_VSETP)))
  else d

/-- One region's update cut (R459). -/
def Dev.pCutRegion (d : Dev) (r : Nat) : Dev :=
  match d.pnl.runs.getD r none with
  | none => d
  | some x =>
    let k := d.pFrame - x.start
    let d := x.elems.foldl (fun d e => if k ≥ e.2.2.1 then d.pReach e.1 e.2.1 else d.pLose e.1) d
    let d := d.setPnl (fun p => { p with runs := upd p.runs r (fun _ => none) })
    (d.wrF R.PNL_REGMAP ⟨r, 1⟩ 0).pNotify r 1 x

/-- All running updates cut, with the cause of the PNLCUT entry (R459, R464). -/
def Dev.pCut (d : Dev) (cause : Nat) : Dev :=
  let mask := d.rdF R.PNL_REGMAP F.PNL_REGMAP_RUN
  if mask = 0 then d
  else
    let d := (List.range 16).foldl Dev.pCutRegion d
    (d.flagEv R.PNL_STAT 22 241).happen (sysEntry 0x0031 (leBytes 2 mask ++ [byteOf cause]))

/-- The judgement of the crack loop in a frame (R463): CRACK after two bad frames, clear after two good
ones. Whether it has just set is the second value. -/
def Dev.pCrack (d : Dev) (rcrk : BitVec 16) : Dev × Bool :=
  if d.rdF R.PNL_CTRL F.PNL_CTRL_STATE ≠ 2 then (d, false)
  else
    let d := d.wrF R.PNL_MEAS F.PNL_MEAS_RCRK rcrk.toNat
    let bad := decide (rcrk.toNat > 10 * d.image.panl.crkr)
    let d := d.setPnl (fun p => { p with
      crackBad := if bad then satInc 2 p.crackBad else 0, crackGood := if bad then 0 else satInc 2 p.crackGood })
    let on := d.rdF R.PNL_STAT F.PNL_STAT_CRACK = 1
    if d.pnl.crackBad = 2 ∧ ¬ on then
      (((d.wrF R.PNL_STAT F.PNL_STAT_CRACK 1).flagEv R.PNL_STAT 23 242).happen
        (sysEntry 0x0030 (leBytes 2 rcrk.toNat)), true)
    else if d.pnl.crackGood = 2 ∧ on then (d.wrF R.PNL_STAT F.PNL_STAT_CRACK 0, false)
    else (d, false)

/-- A gain of the token: UNKNOWN regions become pending, and run at ON (R461). -/
def Dev.pnlGain (d : Dev) : Dev :=
  (List.range d.image.panl.nreg).foldl (fun d r =>
    if (d.pRegion r).1.any d.pUnk then d.pPend r true else d) d

/-- The image's fields of the panel when it applies (R447, R450, R459, R465): a changed section cuts the
updates, and the content starts from the new rules. -/
def Dev.pnlApply (d : Dev) (first : Bool) (old : Image) : Dev :=
  if first ∨ old.panl ≠ d.image.panl then
    let d := if first then d else d.pCut 3
    let d := if d.pnl.measured then d else d.wrF R.PNL_STAT F.PNL_STAT_BAND d.image.panl.defband
    let d := d.wrF R.PNL_VLCD F.PNL_VLCD_VSETP
      (10 * d.image.panl.vset.getD (d.rdF R.PNL_STAT F.PNL_STAT_BAND) 100)
    let d := d.setPnl (fun p => { p with hostLev := [], test := List.replicate 16 none })
    let d := d.wrF R.PNL_REGMAP F.PNL_REGMAP_MAINT 0
    let d := d.setPnl (fun p => { p with content := (List.range 768).map d.pContent })
    let d := (List.range 768).foldl (fun d e => d.pAim e (d.pnl.content.getD e 0)) d
    if first then d else (List.range d.image.panl.nreg).foldl (fun d r => d.pPend r true) d
  else d

end Sys2Proof.Machine
end

