-- ==== Sys2Proof/Machine/Functions.lean ====
section
/-!
DEFINITION. The functions with a shutdown sequence (R53 to R56, R491): enable writes, sequences, forced
shutdowns; and what the end of the Ivgan link does to a device (R354, R357, R375, R416).
-/
namespace Sys2Proof.Machine

/-- Whether the power-fail warning stands. -/
def Dev.pfw (d : Dev) : Bool := d.rdF R.PWR_STAT F.PWR_STAT_PFW == 1

/-- EJECT_N as debounced. -/
def Dev.ejected (d : Dev) : Bool := d.rdF R.PWR_STAT F.PWR_STAT_EJECT == 1

/-- Write-through begins or ends (R295, R508). -/
def Dev.writeThrough (d : Dev) (on : Bool) : Dev :=
  { d.wrF R.JRN_STAT F.JRN_STAT_WTHRU (b2n on) with jrn := { d.jrn with wthru := on } }

/-- The role changed (R351, R383): write-through by EJECT_N goes with it (R508), and the latent tests that the token
schedules start their hour (R397). -/
def Dev.setRole (d : Dev) (r : Nat) : Dev :=
  if d.role = r then d
  else
    let was := d.holder
    let d := (d.wrF R.PAR_ROLE F.PAR_ROLE_ROLE r).raise 192
    let d := d.writeThrough (d.pfw || (d.ejected && r != 3))
    if d.holder == was then d
    else
      let now := d.clk
      { d with wtc := { d.wtc with heldAt := now } }

/-- The device with the pair manager's state changed. -/
def Dev.setPair (d : Dev) (f : Pair → Pair) : Dev := { d with pair := f d.pair }

/-- Whether a standby is in service, as an active or as the standby (R346). -/
def Dev.peerUp (d : Dev) : Bool := d.rdF R.PAR_ROLE F.PAR_ROLE_PEERUP == 1

/-- LSTATE of the link (R354). -/
def Dev.lstate (d : Dev) : Nat := d.rdF R.PAR_LNKSTAT F.PAR_LNKSTAT_LSTATE

/-- Whether the link carries blocks. -/
def Dev.linkUp (d : Dev) : Bool := d.lstate == 5

/-- A message of 64 bytes to the peer on Q63 while the link is up (R358). -/
def Dev.send63 (d : Dev) (bytes : List Byte) : Dev := if d.linkUp then d.push 63 bytes none else d

/-- A swap that has not reached its latch is abandoned (R416): READY is kept. -/
def Dev.swapAbandon (d : Dev) : Dev :=
  if d.vault.swapReq ∨ d.vault.swapTurn ≠ none then
    { d.wrF R.VLT_STGSTAT F.VLT_STGSTAT_STATE 3 with
      vault := { d.vault with swapReq := false, swapTurn := none, swapOk := false } }
  else d

/-- A failed rejoin attempt (R380): the sequence restarts, and REJLIM attempts within one hour end in
NONE until the next reset (R351). -/
def Dev.rejoinFailed (d : Dev) : Dev :=
  let now := d.clk
  let fails := now :: d.pair.rejFails.filter (fun t => now < t + 3600 * 400000000)
  let d := d.setPair (fun p => { p with rejFails := fails, rejSince := now, rejReady := false })
  let d := d.flagEv R.PAR_STAT 9 202
  let d := d.wrFs R.PAR_REJOIN [(F.PAR_REJOIN_STEP, 0), (F.PAR_REJOIN_REJCNT, min fails.length 15)]
  if fails.length ≥ max d.image.pair.rejlim 1 then d.setRole 0 else d

/-- A standby that loses its place goes back to REJOINING (R351, R363, R370, R375). -/
def Dev.toRejoin (d : Dev) : Dev :=
  let now := d.clk
  let d := ((d.setRole 4).wrF R.PAR_ROLE F.PAR_ROLE_PEERUP 0).setPair (fun p => { p with rejSince := now, castle := 0, rejReady := false })
  let d := d.wrF R.PAR_REJOIN F.PAR_REJOIN_STEP (if d.linkUp then 2 else 0)
  { d with turn := { d.turn with run := none } }

/-- The link carries nothing more: lanes down, blocks dropped, a swap abandoned, the active without a
standby (R357, R375, R416). `next` is the LSTATE it goes to. -/
def Dev.linkGone (d : Dev) (next : Nat) : Dev :=
  let was := d.linkUp
  let d := d.wrFs R.PAR_LNKSTAT [(F.PAR_LNKSTAT_LSTATE, next), (F.PAR_LNKSTAT_LANE0, 0), (F.PAR_LNKSTAT_LANE1, 0)]
  let now := d.clk
  let d := d.setPair (fun p => { p with blocks := [], lostNow := was, downAt := if was then now else p.downAt })
  if !was then d
  else
    let d := (d.swapAbandon).setPair (fun p => { p with mirOut := none })
    let d := d.wrF R.VLT_STGSTAT F.VLT_STGSTAT_PEERRDY 0
    let d := { d with vault := { d.vault with forward := none } }
    if d.role = 2 then
      let d := d.setPair (fun p => { p with planned := none, plannedTurn := none })
      (d.wrF R.PAR_ROLE F.PAR_ROLE_PEERUP 0).happen (pairEntry 0x0005 [byteOf 3])
    else if d.role = 4 then d.rejoinFailed
    else d

/-- The control register of a function (R53). -/
def Func.reg : Func → Nat
  | .xch n => R.XCH_CTRL n.val
  | .supply n => R.LOP_SUPCTRL n.val
  | .qch n => R.QCH_PWR n.val
  | .panel => R.PNL_CTRL
  | .link => R.PAR_LNKCTRL

/-- EN, STATE and PEND stand at one place in every control register. -/
def fEN : Field := ⟨0, 1⟩
def fSTATE : Field := ⟨1, 2⟩
def fPEND : Field := ⟨31, 1⟩

/-- A number for each function, for the enables that a warning forced off (R494). -/
def Func.code : Func → Nat
  | .xch n => n.val
  | .supply n => 8 + n.val
  | .qch n => 24 + n.val
  | .panel => 36
  | .link => 37

/-- All functions. -/
def allFuncs : List Func :=
  (List.finRange 8).map Func.xch ++ (List.finRange 16).map Func.supply ++ (List.finRange 12).map Func.qch
    ++ [Func.panel, Func.link]

/-- STATE of a function. -/
def Dev.fState (d : Dev) (f : Func) : Nat := d.rdF f.reg fSTATE

/-- EN of a function. -/
def Dev.fEn (d : Dev) (f : Func) : Bool := d.rdF f.reg fEN == 1

/-- Whether VHVLOW stands. -/
def Dev.vhvlow (d : Dev) : Bool := d.rdF R.PWR_STAT F.PWR_STAT_VHVLOW == 1

/-- Whether a function's bit is set in SAFEMASK, or it is charge-channel power (R392). -/
def Dev.fSafe (d : Dev) : Func → Bool
  | .xch _ => bitOf d.image.wtch.safemask.toNat 0
  | .supply _ => bitOf d.image.wtch.safemask.toNat 1
  | .qch _ => true
  | .panel => bitOf d.image.wtch.safemask.toNat 2
  | .link => false

/-- Whether the loss of the token forces a function off (R166, R194, R447). -/
def Func.byToken : Func → Bool
  | .xch _ => true
  | .supply _ => true
  | .panel => true
  | _ => false

/-- Whether VHVLOW holds a function's start back (R491). -/
def Func.byVhv : Func → Bool
  | .xch _ => true
  | .supply _ => true
  | .panel => true
  | _ => false

/-- Whether the power-fail warning forces a function off (R493). -/
def Func.byPfw : Func → Bool
  | .link => false
  | _ => true

/-- Whether a force stands on a function, the warning apart. -/
def Dev.fForcedStill (d : Dev) (f : Func) : Bool :=
  (d.safe && d.fSafe f) || (f.byToken && !d.holder)

/-- Whether a force stands on a function (R56). -/
def Dev.fForced (d : Dev) (f : Func) : Bool := d.fForcedStill f || (f.byPfw && d.pfw)

/-- A supply switch exists only with MODE 2WIRE; EN of another channel reads 0 (R192). -/
def Dev.fExists (d : Dev) : Func → Bool
  | .supply n => (d.lrec n.val).mode == 1
  | _ => true

/-- What a function's new STATE does (R134, R135, R173, R192, R447, R354). -/
def Dev.fEntered (d : Dev) (f : Func) (st : Nat) : Dev :=
  let d := d.wrF f.reg fSTATE st
  match f with
  | .xch n =>
    let d := if st = 1 then d.setXc n.val (fun x => { x with ramp := 0 }) else d
    let d := if st = 0 then d.setXc n.val (fun x => { x with ramp := 0 }) else d
    (d.xStateRelease n.val).raiseIf (st == 0 || st == 2) 86
  | .supply n =>
    let d := if st = 2 then d.lSupplyOn n.val else d.lSupplyOff n.val (st == 0)
    d.raiseIf (st == 0 || st == 2) 93
  | .qch n => (if st = 3 then d.qPowerLost n.val else d).qSwitches
  | .panel =>
    let d := if st = 3 then d.pCut (if d.holder then 1 else 2) else d
    let d := if st = 2 then d.setPnl (fun p => { p with vlcdOk := true }) else d
    d.raiseIf (st == 0 || st == 2) 246
  | .link =>
    if st = 2 then d.wrF R.PAR_LNKSTAT F.PAR_LNKSTAT_LSTATE 1
    else if st = 3 then d.linkGone 0 else d

/-- The start-up sequence begins, unless VHVLOW holds it back in OFF (R491). -/
def Dev.fStart (d : Dev) (f : Func) : Dev := if f.byVhv && d.vhvlow then d else d.fEntered f 1

/-- The shutdown sequence begins from RAMP_UP or ON (R54). -/
def Dev.fShut (d : Dev) (f : Func) : Dev :=
  if d.fState f = 1 ∨ d.fState f = 2 then d.fEntered f 3 else d

/-- A forced shutdown (R56): a pending re-enable is discarded and EN reads 0. -/
def Dev.fForce (d : Dev) (f : Func) : Dev :=
  ((d.wrF f.reg fPEND 0).wrF f.reg fEN 0).fShut f

/-- The device's own enable write (R54, R494). -/
def Dev.fEnable (d : Dev) (f : Func) (en : Bool) : Dev :=
  let d := d.wrF f.reg fEN (b2n en)
  match d.fState f with
  | 0 => if en then d.fStart f else d
  | 3 => d.wrF f.reg fPEND (b2n en)
  | _ => if en then d else d.fShut f

/-- A host's enable write, key-gated (R47, R54, R56): a force that stands, or falls in the same clock cycle (`same`),
outranks it (R34). -/
def Dev.fEnWrite (d : Dev) (sess : Nat) (f : Func) (en same : Bool) : Dev :=
  let g := d.passGate sess f.reg
  let d := g.2
  if !g.1 then d
  else if d.fForced f || same then
    d.happen (hostOvr f.reg (BitVec.ofNat 32 (b2n en)) 1 resOverridden sess)
  else if !d.fExists f then d
  else d.fEnable f en

/-- STARTUP_SEQ_DONE (R53). -/
def Dev.fStartDone (d : Dev) (f : Func) : Dev := if d.fState f = 1 then d.fEntered f 2 else d

/-- SHUTDOWN_SEQ_DONE (R55): with PEND, the function passes through OFF and starts again. -/
def Dev.fShutDone (d : Dev) (f : Func) : Dev :=
  if d.fState f ≠ 3 then d
  else
    let d := d.fEntered f 0
    if d.rdF f.reg fPEND = 1 then (d.wrF f.reg fPEND 0).fStart f else d

/-- All functions forced off that satisfy a condition. -/
def Dev.fForceAll (d : Dev) (p : Func → Bool) : Dev := (allFuncs.filter p).foldl Dev.fForce d

/-- The enables that the warning forces off, remembered, and their shutdown (R493, R494). -/
def Dev.fPfw (d : Dev) : Dev :=
  let on := (allFuncs.filter (fun f => f.byPfw && d.fEn f)).map Func.code
  { d.fForceAll Func.byPfw with pwr := { d.pwr with saved := on } }

/-- The enables written back when the warning clears (R494). -/
def Dev.fRestore (d : Dev) : Dev :=
  let on := d.pwr.saved
  let d := { d with pwr := { d.pwr with saved := [] } }
  allFuncs.foldl (fun d f =>
    if on.contains f.code && !d.fForcedStill f then d.fEnable f true
    else if on.contains f.code && !d.holder && (f.code < 8 || f.code == 36) then d.wrF f.reg fEN 1
    else d) d

/-- VHVLOW clears: starts held back begin (R491). -/
def Dev.fHeld (d : Dev) : Dev :=
  allFuncs.foldl (fun d f => if f.byVhv && d.fEn f && d.fState f == 0 && !d.fForced f then d.fStart f else d) d

/-- The enables that the image loads (R135, R177, R194, R207, R353, R447): a function in the token holder or
the solo device starts at once; MEN holds a supply's enable elsewhere. -/
def Dev.fLoad (d : Dev) (f : Func) : Dev :=
  let en := match f with
    | .xch n => (d.xrec n.val).drven
    | .supply n => (d.lrec n.val).supen && (d.lrec n.val).mode == 1
    | .qch n => (d.qrec n.val).acq.pwren
    | .panel => d.image.panl.pwren
    | .link => d.image.pair.mode == 1
  match f with
  | .supply n =>
    if d.holder then (d.wrF f.reg F.LOP_SUPCTRL_MEN 0).fEnable f en
    else d.wrF (R.LOP_SUPCTRL n.val) F.LOP_SUPCTRL_MEN (b2n en)
  | _ =>
    if f.byPfw && d.pfw then
      if en then { d with pwr := { d.pwr with saved := f.code :: d.pwr.saved } } else d
    else if f.byToken && !d.holder then d.wrF f.reg fEN (b2n en)
    else if d.fState f = 0 then d.fEnable f en else d

/-- A gain of the token: every token function with its enable at 1 starts (R175, R194, R461). -/
def Dev.fGain (d : Dev) : Dev :=
  let d := (List.range 8).foldl Dev.xUnlock d
  allFuncs.foldl (fun d f =>
    match f with
    | .supply n =>
      let en := d.rdF (R.LOP_SUPCTRL n.val) F.LOP_SUPCTRL_MEN == 1
      let d := d.wrF f.reg F.LOP_SUPCTRL_MEN 0
      if d.pfw then (if en then { d with pwr := { d.pwr with saved := f.code :: d.pwr.saved } } else d)
      else d.fEnable f en
    | _ =>
      if f.byToken && d.fEn f && !d.fForced f && d.fState f == 0 then d.fStart f else d) d

/-- The loss of the token: the token functions are forced off, and MEN keeps the supplies' enables (R166,
R194, R461). -/
def Dev.fLoss (d : Dev) : Dev :=
  let d := (List.range 16).foldl (fun d n =>
    d.wrF (R.LOP_SUPCTRL n) F.LOP_SUPCTRL_MEN (d.rdF (R.LOP_SUPCTRL n) F.LOP_SUPCTRL_EN)) d
  (List.range 8).foldl Dev.xUnlock (d.xCut.fForceAll Func.byToken)

/-- CRACK (R463): with CRKSTOP, a crack forces the discharge. -/
def Dev.pnlCrack (d : Dev) (rcrk : BitVec 16) : Dev :=
  let x := d.pCrack rcrk
  let d := x.1
  if d.image.panl.crkstop ∧ d.pnl.crackBad = 2 ∧ d.rdF R.PNL_STAT F.PNL_STAT_CRACK = 1 then
    d.fForce .panel
  else d

end Sys2Proof.Machine
end

