-- ==== Sys2Proof/Machine/Sha256.lean ====
section
/-!
DEFINITION. SHA-256, HMAC-SHA-256 and HKDF-SHA-256, which the journal chain (R288), the
frame tags (R474) and the key derivations of the vault name. The algorithms and their
constants come from FIPS 180-4, RFC 2104 and RFC 5869 (PRESUMED, log entry 8): the spec
names them and does not repeat them.
-/
namespace Sys2Proof.Machine

/-- The eight words of a 256-bit number, the most significant first. -/
def wordsOf256 (x : Nat) : List Word := (List.range 8).map (fun i => BitVec.ofNat 32 (x / 2 ^ (224 - 32 * i)))

/-- The round constants: the fractions of the cube roots of the first 64 primes, eight to a number. -/
def shaCubes : List Nat :=
  [0x428A2F9871374491B5C0FBCFE9B5DBA53956C25B59F111F1923F82A4AB1C5ED5,
   0xD807AA9812835B01243185BE550C7DC372BE5D7480DEB1FE9BDC06A7C19BF174,
   0xE49B69C1EFBE47860FC19DC6240CA1CC2DE92C6F4A7484AA5CB0A9DC76F988DA,
   0x983E5152A831C66DB00327C8BF597FC7C6E00BF3D5A7914706CA635114292967,
   0x27B70A852E1B21384D2C6DFC53380D13650A7354766A0ABB81C2C92E92722C85,
   0xA2BFE8A1A81A664BC24B8B70C76C51A3D192E819D6990624F40E3585106AA070,
   0x19A4C1161E376C082748774C34B0BCB5391C0CB34ED8AA4A5B9CCA4F682E6FF3,
   0x748F82EE78A5636F84C878148CC7020890BEFFFAA4506CEBBEF9A3F7C67178F2]

/-- The first hash value: the fractions of the square roots of the first eight primes. -/
def shaRoots : Nat := 0x6A09E667BB67AE853C6EF372A54FF53A510E527F9B05688C1F83D9AB5BE0CD19

/-- A word against itself turned right by three amounts. -/
def turned (x : Word) (i j k : Nat) : Word := x.rotateRight i ^^^ x.rotateRight j ^^^ x.rotateRight k

/-- A word against itself turned right twice and shifted right once. -/
def slid (x : Word) (i j k : Nat) : Word := x.rotateRight i ^^^ x.rotateRight j ^^^ x >>> k

/-- The hash value in its two halves of four words: A to D and E to H. -/
structure ShaHalves where
  lo : Word × Word × Word × Word
  hi : Word × Word × Word × Word
  deriving DecidableEq, Repr

/-- The halves of eight words. -/
def ShaHalves.of (l : List Word) : ShaHalves :=
  let w := fun i => l.getD i 0
  ⟨(w 0, w 1, w 2, w 3), (w 4, w 5, w 6, w 7)⟩

/-- The eight words of the halves. -/
def ShaHalves.words (s : ShaHalves) : List Word :=
  [s.lo.1, s.lo.2.1, s.lo.2.2.1, s.lo.2.2.2, s.hi.1, s.hi.2.1, s.hi.2.2.1, s.hi.2.2.2]

/-- One step: the words move down by one place, and `kw`, a round constant plus a schedule word, enters both halves
with the step's functions of them. -/
def ShaHalves.step (s : ShaHalves) (kw : Word) : ShaHalves :=
  let (p, q, r, t) := s.lo
  let (u, v, x, y) := s.hi
  let pick := x ^^^ u &&& (v ^^^ x)
  let most := p &&& (q ||| r) ||| q &&& r
  let enter := kw + y + pick + turned u 6 11 25
  ⟨(enter + most + turned p 2 13 22, p, q, r), (t + enter, u, v, x)⟩

/-- The schedule grown by `n` words, the newest first. -/
def shaGrow : Nat → List Word → List Word
  | 0, l => l
  | n + 1, l => shaGrow n ((slid (l.getD 1 0) 17 19 10 + l.getD 6 0 + slid (l.getD 14 0) 7 18 3 + l.getD 15 0) :: l)

/-- The big-endian words of a block of bytes. -/
def beWords : Nat → List Byte → List Word
  | 0, _ => []
  | n + 1, bs => BitVec.ofNat 32 (ofBe (bs.take 4)) :: beWords n (bs.drop 4)

/-- One block of 64 bytes into the hash value. -/
def shaBlock (h : List Word) (bs : List Byte) : List Word :=
  let schedule := (shaGrow 48 (beWords 16 bs).reverse).reverse
  let steps := List.zipWith (· + ·) (shaCubes.flatMap wordsOf256) schedule
  List.zipWith (· + ·) h (steps.foldl ShaHalves.step (ShaHalves.of h)).words

/-- `n` blocks of a message. -/
def shaBlocks : Nat → List Word → List Byte → List Word
  | 0, h, _ => h
  | n + 1, h, bs => shaBlocks n (shaBlock h (bs.take 64)) (bs.drop 64)

/-- The bytes that follow a message of n bytes: a one bit, zeros to the end of a block, the length in bits. -/
def shaTail (n : Nat) : List Byte := 0x80 :: List.replicate ((119 - n % 64) % 64) 0 ++ beBytes 8 (8 * n)

/-- SHA-256 of a message. -/
def sha256 (m : List Byte) : List Byte :=
  let p := m ++ shaTail m.length
  (shaBlocks (p.length / 64) (wordsOf256 shaRoots) p).flatMap (fun w => beBytes 4 w.toNat)

/-- HMAC-SHA-256 under a key of at most 64 bytes. -/
def hmac (key m : List Byte) : List Byte :=
  let k := padTo 64 key
  sha256 (k.map (· ^^^ 0x5C) ++ sha256 (k.map (· ^^^ 0x36) ++ m))

/-- HKDF-SHA-256: extract with a salt, expand with an info string to 32 bytes. -/
def hkdf (salt ikm info : List Byte) : List Byte :=
  hmac (hmac salt ikm) (info ++ [1])

end Sys2Proof.Machine
end

