-- ==== Sys2Proof/Machine/Lattice.lean ====
section
/-!
DEFINITION. The point stage of evaluation (R226 to R251): host points, stage A scaling, stage B
deviation sums, stage C commands, checks, delays and alarm states, and its records.
-/
namespace Sys2Proof.Machine

/-- The piecewise-linear table of R232. -/
def segment (t : List (Int × Int)) (x : Int) : Int :=
  let pt := fun i => t.getD i (0, 0)
  if x ≤ (pt 0).1 then (pt 0).2
  else if x ≥ (pt 16).1 then (pt 16).2
  else
    let i := (List.range 16).foldl (fun a i => if (pt i).1 ≤ x then i else a) 0
    sat32 ((pt i).2 + rnd ((x - (pt i).1) * ((pt (i + 1)).2 - (pt i).2)) ((pt (i + 1)).1 - (pt i).1))

/-- Scaling of a source value (R232). -/
def scaleValue (img : Image) (r : PointRec) (x : Int) : Int :=
  if r.scale = 0 then x
  else if r.scale = 1 then sat32 (rnd (x * r.mul) 65536 + r.ofs)
  else segment (img.latp.tabs.getD r.mul.toNat []) x

/-- Stage A for one point (R232). -/
def stageA (img : Image) (inp : InImage) (last : EvalState) (hps : List HostPt) (p : Nat)
    (s : Pt) : Pt :=
  let r := ptRec img p
  if r.srck = 0 then s
  else
    let x := pointSource img inp last hps p
    { s with
      q := x.q
      instat := x.instat
      y := if x.q = qV then scaleValue img r x.x else s.y
      sup0 := supCond img inp last hps r.sup0
      sup1 := supCond img inp last hps r.sup1 }

/-- Stage B for one deviation set (R233). -/
def stageB (pts : List Pt) (d : DevSet) : DevSum :=
  let vs := (d.members.map (fun m => pts.getD m Pt.empty)).filter (fun p => p.q = qV)
  ⟨vs.foldl (fun a p => a + p.y) 0, vs.length, vs.length < d.minn⟩

/-- The reference mean of a point: whether it is available, and its value (R233). -/
def refMean (img : Image) (devs : List DevSum) (p : Nat) (s : Pt) : Bool × Int :=
  let r := ptRec img p
  match img.latp.devsets[r.devset]? with
  | none => (false, 0)
  | some d =>
    let t := devs.getD r.devset ⟨0, 0, false⟩
    let out := r.excl && d.members.contains p && s.q == qV
    let sum := if out then t.s - s.y else t.s
    let n := if out then t.n - 1 else t.n
    if n ≥ d.minn ∧ n > 0 then (true, rnd sum n) else (false, 0)

/-- The rate window of a point (R234). -/
def rateWindow (r : PointRec) (turn : Nat) (s : Pt) : Pt :=
  if r.rwin = 0 ∨ turn % r.rwin ≠ 0 then s
  else
    let ok := s.q == qV && s.refv
    { s with
      rq := if ok then sat32 (s.y - s.yref) else s.rq
      rqv := ok
      yref := if s.q = qV then s.y else s.yref
      refv := s.q == qV }

/-- The test of a check of kinds 0 to 7 (R234). -/
def checkTest (k : Nat) (ck : CheckRec) (r : Bool) (q : Int) : Bool :=
  if k = 0 ∨ k = 1 ∨ k = 4 ∨ k = 6 then
    if r then q ≥ ck.lim - ck.hys else q ≥ ck.lim + ck.db
  else
    if r then q ≤ ck.lim + ck.hys else q ≤ ck.lim - ck.db

/-- The delay count of an alarm (R234). -/
def delayStep (ck : CheckRec) (a : Alarm) : Alarm :=
  if a.r = a.c then { a with dc := 0 }
  else if (a.r ∧ a.dc + 1 > ck.ondly) ∨ (¬ a.r ∧ a.dc + 1 > ck.offdly) then
    { a with c := a.r, dc := 0 }
  else { a with dc := a.dc + 1 }

/-- The quantity of a check, when it is available (R235). -/
def checkQuantity (k : Nat) (s : Pt) : Option Int :=
  if k ≤ 3 then some s.y
  else if k ≤ 5 then (if s.rqv then some s.rq else none)
  else if s.devok then some (s.y - s.mean) else none

/-- One enabled check in a turn (R235). -/
def checkStep (r : PointRec) (k : Nat) (s : Pt) (a : Alarm) : Alarm :=
  let ck := ckRec r k
  if k = 8 then
    if s.q = qV then delayStep ck { a with r := false }
    else if s.q = qH then a
    else if s.q = qF then delayStep ck { a with r := true }
    else { a with r := false, c := false, dc := 0 }
  else
    if s.q = qV then
      match checkQuantity k s with
      | some q => delayStep ck { a with r := checkTest k ck a.r q }
      | none => a
    else if s.q = qH then a
    else if s.q = qF then
      if bitOf r.fltlim.toNat k then delayStep ck { a with r := true } else a
    else { a with r := false, c := false, dc := 0 }

/-- The next state of an alarm (R239). -/
def nextState (st : Nat) (c : Bool) (cls : Nat) (oos inh sup : Bool) : Nat :=
  if st = stUnused then stUnused
  else if oos then stOos
  else if inh then stInhibited
  else if sup then stSuppressed
  else
    let st := if st = stOos ∨ st = stInhibited ∨ st = stSuppressed then stNormal else st
    if cls = 3 then (if c then stActAck else stNormal)
    else if st = stNormal ∧ c then stActUnack
    else if st = stActUnack ∧ ¬ c then stRtnUnack
    else if st = stActAck ∧ ¬ c then stNormal
    else if st = stRtnUnack ∧ c then stActUnack
    else st

/-- An acknowledgement of one alarm: its result, the alarm after it (R240). -/
def ackAlarm (r : PointRec) (s : Pt) (t : PtTurn) (k : Nat) : Nat × Pt × PtTurn :=
  let a := s.al.getD k ⟨stUnused, false, false, false, 0⟩
  if a.st = stUnused ∨ (ckRec r k).cls = 3 ∨ a.inh ∨ s.oos ∨ a.st = stSuppressed then
    (resNotAck, s, t)
  else if a.st = stActUnack then
    (resOk, { s with al := upd s.al k (fun a => { a with st := stActAck }) },
      { t with acked := k :: t.acked })
  else if a.st = stRtnUnack then
    (resOk, { s with al := upd s.al k (fun a => { a with st := stNormal }) },
      { t with acked := k :: t.acked })
  else if a.st = stActAck ∨ t.acked.contains k then (resAlready, s, t)
  else (resNotAck, s, t)

/-- ACKPOINT over the kinds in order (R242): ALREADY when no alarm changes and one was ACTACK, of whatever class, or
acknowledged earlier in this turn. -/
def ackAll (r : PointRec) (s : Pt) (t : PtTurn) : Nat × Pt × PtTurn :=
  let run := (List.range 9).foldl (fun (acc : Bool × Pt × PtTurn) k =>
    let x := ackAlarm r acc.2.1 acc.2.2 k
    (acc.1 || x.1 == resOk, x.2)) (false, s, t)
  let already := (List.range 9).any (fun k => alSt s k == stActAck || t.acked.contains k)
  (if run.1 then resOk else if already then resAlready else resNotAck, run.2)

/-- Whether a source of higher rank has made the contrary inhibit setting this turn (R243), by the latest of its
settings. -/
def inhConflict (t : PtTurn) (mask rank : Nat) (v : Bool) : Bool :=
  t.inhSet.any (fun x => bitOf mask x.1 && x.2.1 != v && x.2.2 < rank)

/-- Whether the latest setting of a source of higher rank is another value than `v` (R243, R260). -/
def contrary {α : Type} [BEq α] (l : List (α × Nat)) (v : α) (rank : Nat) : Bool :=
  l.any (fun x => x.1 != v && decide (x.2 < rank))

/-- The settings with a source's latest one. -/
def latest {α : Type} (l : List (α × Nat)) (v : α) (rank : Nat) : List (α × Nat) :=
  (v, rank) :: l.filter (fun x => x.2 != rank)

/-- INHIBIT and UNINHIBIT (R237, R242, R243). -/
def setInhibit (r : PointRec) (s : Pt) (t : PtTurn) (mask rank : Nat) (v : Bool) :
    Nat × Pt × PtTurn :=
  if v ∧ r.noinh then (resRefused, s, t)
  else if inhConflict t mask rank v then (resSuperseded, s, t)
  else
    let ks := (List.range 9).filter (bitOf mask)
    (resOk,
      { s with al := s.al.mapIdx (fun k a => if bitOf mask k then { a with inh := v } else a) },
      { t with inhSet := ks.map (fun k => (k, v, rank))
          ++ t.inhSet.filter (fun x => !(bitOf mask x.1 && x.2.2 == rank)) })

/-- OOS and RTS (R237, R242, R243). -/
def setOos (r : PointRec) (s : Pt) (t : PtTurn) (rank : Nat) (v : Bool) : Nat × Pt × PtTurn :=
  if v ∧ r.noinh then (resRefused, s, t)
  else if contrary t.oosSet v rank then (resSuperseded, s, t)
  else (resOk, { s with oos := v }, { t with oosSet := latest t.oosSet v rank })

/-- One command on a used point (R242). -/
def pointCommand (r : PointRec) (c : OpCmd) (s : Pt) (t : PtTurn) : Nat × Pt × PtTurn :=
  let rank := CmdSrc.rank c.src
  match c.opc with
  | 1 => if argByte c 3 > 8 then (resNoPoint, s, t) else ackAlarm r s t (argByte c 3)
  | 2 => ackAll r s t
  | 3 => setInhibit r s t (argMask c) rank true
  | 4 => setInhibit r s t (argMask c) rank false
  | 5 => setOos r s t rank true
  | 6 => setOos r s t rank false
  | _ => (resNoPoint, s, t)

/-- The events of a command's result: CMDREJ and EV127 for a result other than OK, EV125 for an
ACK or ACKPOINT that returns OK (R251). -/
def commandEvents (a : Acc) (c : OpCmd) (res : Nat) : Acc :=
  if res = resOk then a.evIf (c.opc = 1 ∨ c.opc = 2) 125
  else a.flag R.LAT_STAT 1 127

/-- A command's entry and events (R244). -/
def recordCommand (inp : InImage) (a : Acc) (c : OpCmd) (res : Nat) : Acc :=
  (commandEvents a c res).ent (commandEntry c res inp.turn inp.tick)

/-- Whether a command may act: a host command carries its permission verdict (R479). -/
def cmdPermitted (c : OpCmd) : Bool :=
  match c.src with
  | .host _ ok => ok
  | _ => true

/-- Whether a command belongs to the point stage: every OPC but the belfry's and those that are
judged against a queue (R242, R262, R287). -/
def isPointCmd (c : OpCmd) : Bool :=
  !(0x11 ≤ c.opc && c.opc ≤ 0x16) && !(0x21 ≤ c.opc && c.opc ≤ 0x22)
    && !(0x31 ≤ c.opc && c.opc ≤ 0x32)

/-- A command without its permission: REFUSED, with its PERMDENY entry (R420, R479), and CMDREJ of the stage that it
was for (R251, R281). -/
def refuseCommand (inp : InImage) (a : Acc) (c : OpCmd) : Acc :=
  let a := a.ent (commandEntry c resRefused inp.turn inp.tick)
  let a := if isPointCmd c then a.flag R.LAT_STAT 1 127
    else if 0x11 ≤ c.opc ∧ c.opc ≤ 0x16 then a.flag R.BEL_STAT 6 151 else a
  match c.src with
  | .host ref _ => a.ent (permDeny ref.sess c.opc inp.turn inp.tick)
  | _ => a

/-- The events of an alarm's change of state (R251). -/
def alarmEvents (a : Acc) (k cls old new : Nat) : Acc :=
  let a := a.evIf (new == stActUnack && old != stActUnack && cls < 3) (120 + cls)
  let a := a.evIf (new == stActAck && old != stActAck && cls == 3) 123
  let a := a.evIf (new == stRtnUnack || (new == stNormal && stActive old)) 124
  let a := a.evIf (k == 8 && stActive new && !stActive old) 126
  let a := a.evIf ((new == stSuppressed) != (old == stSuppressed)) 128
  a.evIf (new != old && [stInhibited, stOos].any (fun s => new == s || old == s)) 129

/-- The CAUSE byte of an ALARM entry (R286): `old` is the state that the last completed turn left, `start` the one in
which this turn found the alarm, another only after a swap, and `cmd` the one that the commands left. -/
def alarmCause (old start cmd new : Nat) : Nat :=
  let w := fun s => s == stSuppressed || s == stInhibited || s == stOos
  if start != old && new == start then 3
  else if w start || w new then 2 else if cmd != start && new == cmd then 1 else 0

/-- The ALARM payload (R286). -/
def alarmPayload (r : PointRec) (p k cls old new cause : Nat) (s : Pt) : List Byte :=
  let qty : Int := if k ≤ 3 then s.y else if k ≤ 5 then s.rq
    else if k ≤ 7 then s.y - s.mean else 0
  leBytes 2 p ++ [byteOf k, byteOf (16 * new + old), byteOf cls, byteOf s.q,
    byteOf cause, 0] ++ leBytes 4 (pattern 32 s.y) ++ leBytes 4 (pattern 32 qty)
    ++ leBytes 4 (if k = 6 ∨ k = 7 then pattern 32 s.mean else 0) ++ leBytes 4 r.ident.toNat

/-- The ALARM entry of a change (R244). -/
def alarmEntry (inp : InImage) (r : PointRec) (p k cls old new cause : Nat) (s : Pt) : Entry :=
  mkEntry 0x01 0x02 (classIng cls) (alarmPayload r p k cls old new cause s) inp.turn inp.tick

/-- An alarm's state and class as the last completed turn left them: before a swap under the old record (R248). -/
def alarmWas (r : PointRec) (old : Pt) (k : Nat) : Nat × Nat :=
  match old.was with
  | some l => l.getD k (alSt old k, (ckRec r k).cls)
  | none => (alSt old k, (ckRec r k).cls)

/-- One alarm at the end of stage C: its next state, its entry and its events (R239, R244). An alarm that a swap took
away has the class of its old record. -/
def alarmStep (inp : InImage) (r : PointRec) (p : Nat) (old : Pt) (x : Pt × Acc × Nat) (k : Nat) :
    Pt × Acc × Nat :=
  let s := x.1
  let cmdSt := alSt s k
  let was := alarmWas r old k
  let o := was.1
  let s := { s with al := upd s.al k (fun a =>
    if a.st = stUnused then a else checkStep r k s a) }
  let a := s.al.getD k ⟨stUnused, false, false, false, 0⟩
  let sup := (s.sup0 || s.sup1) && bitOf r.supmask.toNat k
  let n := nextState a.st a.c (ckRec r k).cls s.oos a.inh sup
  let s := { s with al := upd s.al k (fun a => { a with st := n }) }
  if n = o then (s, x.2)
  else
    let cls := if n = stUnused then was.2 else (ckRec r k).cls
    let acc := x.2.1.ent (alarmEntry inp r p k cls o n (alarmCause o (alSt old k) cmdSt n) s)
    (s, alarmEvents acc k cls o n, x.2.2 + 1)

/-- Stage C for one used point: commands, rate, checks, delays, states (R231, R234 to R244). -/
def stageC (img : Image) (inp : InImage) (devs : List DevSum) (cmds : List OpCmd) (old : Pt)
    (p : Nat) (s : Pt) (acc : Acc) : Pt × Acc × Nat :=
  let r := ptRec img p
  let s := rateWindow r inp.turn s
  let m := refMean img devs p s
  let s := { s with devok := m.1, mean := m.2 }
  let mine := cmds.filter (fun c => argPoint c = p)
  let x := mine.foldl (fun (x : Pt × PtTurn × Acc) c =>
    let y := pointCommand r c x.1 x.2.1
    (y.2.1, y.2.2, recordCommand inp x.2.2 c y.1)) (s, ⟨[], [], []⟩, acc)
  (List.range 9).foldl (alarmStep inp r p old) ({ x.1 with was := none }, x.2.2, 0)

/-- Stage C over all points in ascending index. -/
def stageCAll (img : Image) (inp : InImage) (devs : List DevSum) (cmds : List OpCmd) :
    Nat → List Pt → List Pt → Acc → List Pt × Acc × Nat
  | _, [], _, acc => ([], acc, 0)
  | p, s :: ss, olds, acc =>
    let old := olds.headD Pt.empty
    if ptUsed img p then
      let x := stageC img inp devs cmds old p s acc
      let rest := stageCAll img inp devs cmds (p + 1) ss olds.tail x.2.1
      (x.1 :: rest.1, rest.2.1, rest.2.2 + x.2.2)
    else
      let rest := stageCAll img inp devs cmds (p + 1) ss olds.tail acc
      (s :: rest.1, rest.2)

/-- The timeout of a host point: the smallest non-zero HPTMO of its readers (R245). -/
def hostTimeout (img : Image) (h : Nat) : Option Nat :=
  img.latp.points.foldl (fun a r =>
    if r.srck = 9 ∧ r.srci = h ∧ r.hptmo ≠ 0 then
      some (match a with | some t => min t r.hptmo | none => r.hptmo)
    else a) none

/-- Staleness of one host point at the end of a latch without a write (R245). -/
def hostStale (img : Image) (h : Nat) (x : HostPt) : HostPt :=
  match hostTimeout img h with
  | some t => if x.status ≤ 1 ∧ x.age ≥ t then { x with status := 2 } else x
  | none => x

/-- Whether a WRITEPT can act: from the host, on a point below 512, status 0 or 1 (R242). -/
def writeptResult (c : OpCmd) : Nat :=
  match c.src with
  | .host _ _ =>
    if argPoint c ≥ 512 then resNoPoint
    else if byteAt c.args 6 > 1 then resRefused else resOk
  | _ => resNoPoint

/-- A WRITEPT of the turn: the host points, and its record (R244, R245). -/
def writept (img : Image) (inp : InImage) (x : List HostPt × List Nat × Acc) (c : OpCmd) :
    List HostPt × List Nat × Acc :=
  let h := argPoint c
  let res := writeptResult c
  if res = resOk then
    let v := sAt c.args 2 4
    let hps := upd x.1 h (fun _ => ⟨v, byteAt c.args 6, 0, inp.turn⟩)
    let logged := img.latp.points.any (fun r => r.srck = 9 && r.srci = h && r.hplog)
    let acc := if logged then
        match c.src with
        | .host ref _ => x.2.2.ent { sysEntry 0x0009 (leBytes 2 h ++ leBytes 4 (pattern 32 v)
            ++ [byteOf (byteAt c.args 6), byteOf ref.hc] ++ leBytes 4 ref.cmdid.toNat
            ++ leBytes 2 ref.sess) with turn := inp.turn, tick := inp.tick, outside := false }
        | _ => x.2.2
      else x.2.2
    (hps, h :: x.2.1, acc)
  else (x.1, x.2.1, recordCommand inp x.2.2 c res)

/-- The age of a host point in turns: its timeout counts the latches since its write, an overrun turn's too (R245). -/
def HostPt.aged (turn : Nat) (h : HostPt) : HostPt :=
  if h.status = 3 then h else { h with age := min 0xFFFF (turn - h.since) }

/-- The host points of a turn: the writes in arrival order, the ages, the onset of staleness
(R245). -/
def hostPoints (img : Image) (inp : InImage) (hps : List HostPt) (cmds : List OpCmd) (acc : Acc) :
    List HostPt × Acc :=
  let x := cmds.foldl (writept img inp) (hps, [], acc)
  let aged := x.1.map (HostPt.aged inp.turn)
  let out := aged.mapIdx (hostStale img)
  let n := (List.zip aged out).foldl (fun n y => if y.1.status ≤ 1 ∧ y.2.status = 2 then n + 1 else n) 0
  (out, (List.range n).foldl (fun a _ => a.flag R.LAT_STAT 3 131) x.2.2)

/-- The point stage of a turn (R231). The commands come in rank order and permitted. R19 orders the entries of one queue by
cell index; a command that names no used point has no cell, and its COMMAND entry stands before those of the points
(DESIGN CHOICE; log entry 61). -/
def pointStage (img : Image) (inp : InImage) (last : EvalState) (cmds : List OpCmd) (acc : Acc) :
    List Pt × List DevSum × List HostPt × Acc × Nat :=
  let pc := cmds.filter isPointCmd
  let hp := hostPoints img inp last.hps (pc.filter (fun c => c.opc = 7)) acc
  let pts := (List.range img.latp.points.length).map (fun p =>
    stageA img inp last hp.1 p (last.pts.getD p Pt.empty))
  let devs := img.latp.devsets.map (stageB pts)
  let acc := (List.range devs.length).foldl (fun a d =>
    if (devs.getD d ⟨0, 0, false⟩).below ∧ ¬ (last.devs.getD d ⟨0, 0, false⟩).below then
      a.flag R.LAT_STAT 2 130 else a) hp.2
  let rest := pc.filter (fun c => c.opc ≠ 7)
  let bad := rest.filter (fun c => ¬ ptUsed img (argPoint c) ∨ c.opc = 0 ∨ c.opc > 6)
  let good := rest.filter (fun c => ptUsed img (argPoint c) ∧ ¬ (c.opc = 0 ∨ c.opc > 6))
  let acc := bad.foldl (fun a c => recordCommand inp a c resNoPoint) acc
  let c := stageCAll img inp devs good 0 pts last.pts acc
  (c.1, devs, hp.1, c.2.1, c.2.2)

/-- The point state after a reset (R247). -/
def ptStart (r : PointRec) : Pt :=
  { Pt.empty with al := (List.range 9).map (fun k =>
      ⟨if (ckRec r k).en then stNormal else stUnused, false, false, false, 0⟩) }

end Sys2Proof.Machine
end

