-- ==== Sys2Proof/Machine/Spire.lean ====
section
/-!
DEFINITION. The spire and the timer cells (R253 to R259).
-/
namespace Sys2Proof.Machine

/-- The inputs of a node. -/
def nodeInputs (img : Image) (r : NodeRec) : List InWord :=
  (img.latg.inputs.drop r.first).take r.nin

/-- A node's output, validity and count of valid inputs (R256). -/
def nodeCompute (r : NodeRec) (xs : List (InWord × InVal)) : Int × Bool × Nat :=
  let nb := (xs.filter (fun x => inputBool r.failb x.1 x.2)).length
  let vs := (xs.filter (fun x => x.2.ok)).map (fun x => x.2.v)
  let all := vs.length == xs.length
  match r.func with
  | 0 => (if nb ≥ 1 then 1 else 0, all, vs.length)
  | 1 => (if nb = r.nin then 1 else 0, all, vs.length)
  | 2 => (if nb ≥ r.k then 1 else 0, all, vs.length)
  | 3 => (nb, all, vs.length)
  | f =>
    if vs.length < r.k then (r.failv, false, vs.length)
    else
      let out := if f = 4 then vs.foldl min (vs.headD 0)
        else if f = 5 then vs.foldl max (vs.headD 0)
        else rnd (vs.foldl (· + ·) 0) vs.length
      (signed 32 (pattern 32 out), true, vs.length)

/-- The events of a MIN, MAX or MEAN node's validity (R256, R280). -/
def nodeEvents (r : NodeRec) (old : Node) (valid : Bool) (a : Acc) : Acc :=
  if r.func < 4 then a
  else if !valid && (old.fresh || old.valid) then a.flag R.LAT_GSTAT 0 132
  else a.evIf (valid && !old.fresh && !old.valid) 133

/-- One node of a level (R252, R256): lower levels of this turn stand in `nodes`. -/
def nodeStep (img : Image) (inp : InImage) (pts : List Pt) (hps : List HostPt)
    (lastNodes : List Node) (timers : List Timer) (x : List Node × Acc) (n : Nat) :
    List Node × Acc :=
  match img.latg.nodes[n]? with
  | none => x
  | some r =>
    let ins := (nodeInputs img r).map (fun w => (w, inputWord img inp pts hps x.1 timers w))
    let c := nodeCompute r ins
    let old := lastNodes.getD n Node.empty
    (upd x.1 n (fun _ => ⟨c.1, c.2.1, c.2.2, false⟩), nodeEvents r old c.2.1 x.2)

/-- The indices of the nodes in the order of R253: level 1 to 8, ascending within a level. -/
def nodeOrder (img : Image) : List Nat :=
  [1, 2, 3, 4, 5, 6, 7, 8].flatMap (fun l =>
    (List.range img.latg.nodes.length).filter (fun n =>
      (img.latg.nodes[n]?).any (fun r => r.level = l)))

/-- The spire of a turn (R253). -/
def spireStage (img : Image) (inp : InImage) (pts : List Pt) (hps : List HostPt)
    (last : EvalState) (acc : Acc) : List Node × Acc :=
  let start := (List.range img.latg.nodes.length).map (fun n => last.nodes.getD n Node.empty)
  (nodeOrder img).foldl (nodeStep img inp pts hps last.nodes last.timers) (start, acc)

/-- A timer cell's next state from its input and reset (R258). -/
def timerStep (kind pt : Nat) (a r : Bool) (t : Timer) : Timer :=
  let last := if t.first then a else t.lastin
  let out : Bool × Nat :=
    if r then (false, 0)
    else match kind with
      | 0 => if a then (if t.et < pt then (false, t.et + 1) else (true, t.et)) else (false, 0)
      | 1 =>
        if a then (true, 0)
        else if t.q then (if t.et < pt then (true, t.et + 1) else (false, 0))
        else (t.q, t.et)
      | 2 =>
        if t.q then (if t.et + 1 ≥ pt then (false, 0) else (true, t.et + 1))
        else if a && !last then (true, 0) else (t.q, t.et)
      | 3 => if a then (t.et == 0, (t.et + 1) % pt) else (false, 0)
      | 4 =>
        let et := if a != last then 0 else if t.et < pt then t.et + 1 else t.et
        (et ≥ pt, et)
      | 5 => (t.q || (a && !last), t.et)
      | _ => (t.q, t.et)
  { q := out.1, et := out.2, lastin := a, first := false, inb := a, rstb := r }

/-- A timer cell's booleans of IN and RST in a turn (R252, R255). -/
def timerInputs (img : Image) (inp : InImage) (pts : List Pt) (hps : List HostPt)
    (nodes : List Node) (lastTimers : List Timer) (r : TimerRec) : Bool × Bool :=
  let rd := fun w => inputBool false w (inputWord img inp pts hps nodes lastTimers w)
  (rd r.inw, rd r.rst)

/-- The events of a timer cell (R259, R280). -/
def timerEvents (kind : Nat) (old new : Timer) (a : Acc) : Acc :=
  if new.q && !old.q then
    if kind = 4 then a.ev 134 else if kind = 5 then a.ev 135 else a
  else a

/-- The timer stage of a turn (R257). -/
def timerStage (img : Image) (inp : InImage) (pts : List Pt) (hps : List HostPt)
    (nodes : List Node) (last : EvalState) (acc : Acc) : List Timer × Acc :=
  (List.range img.latt.length).foldl (fun (x : List Timer × Acc) t =>
    match img.latt[t]? with
    | none => x
    | some r =>
      let old := last.timers.getD t Timer.empty
      let i := timerInputs img inp pts hps nodes last.timers r
      let new := timerStep r.kind r.pt i.1 i.2 old
      (x.1 ++ [new], timerEvents r.kind old new x.2)) ([], acc)

end Sys2Proof.Machine
end

