-- ==== Sys2Proof/Machine/Belfry.lean ====
section
/-!
DEFINITION. The belfry stage of evaluation (R260 to R272, R281): roster and duty, watch timer,
stations, chains, call signals and its records.
-/
namespace Sys2Proof.Machine

/-- A chain after reset (R274). -/
def Chain.empty : Chain := ⟨0, 0, 0, false, 0, 0⟩

/-- The belfry's turn record at the start of a turn. -/
def BelTurn.empty : BelTurn := ⟨[], [], [], 0, none, [], [], false⟩

/-- A flag of BEL_STAT with EV151 (R281). -/
def Acc.belFault (a : Acc) (bit : Nat) : Acc := a.flag R.BEL_STAT bit 151

/-- An engineer as a byte: 0xFF for none. -/
def engByte (e : Option Nat) : Byte := byteOf (e.getD 0xFF)

/-- The presence flag of an engineer. -/
def engPresent (b : Belfry) (e : Nat) : Bool := b.present.getD e false

/-- A belfry command's COMMAND entry; a result other than OK sets CMDREJ (R262, R272, R281). -/
def belRecord (inp : InImage) (a : Acc) (c : OpCmd) (res : Nat) : Acc :=
  let a := a.ent (commandEntry c res inp.turn inp.tick)
  if res = resOk then a else a.belFault 6

/-- PRESENCE (R262, R271). -/
def belPresence (img : Image) (inp : InImage) (x : Belfry × BelTurn × Acc) (c : OpCmd) :
    Belfry × BelTurn × Acc :=
  let e := argByte c 1
  let v := argByte c 2 != 0
  let rank := CmdSrc.rank c.src
  if e ≥ img.belf.neng then (x.1, x.2.1, belRecord inp x.2.2 c resNoPoint)
  else if x.1.duty = some e ∧ v = false then (x.1, x.2.1, belRecord inp x.2.2 c resRefused)
  else if x.2.1.presSet.any (fun s => s.1 = e && s.2.1 != v && s.2.2 < rank) then
    (x.1, x.2.1, belRecord inp x.2.2 c resSuperseded)
  else
    ({ x.1 with present := upd x.1.present e (fun _ => v) },
      { x.2.1 with presSet := (e, v, rank) :: x.2.1.presSet.filter (fun s => !(s.1 == e && s.2.2 == rank)) },
      belRecord inp x.2.2 c resOk)

/-- The DUTY entry of a switch or schedule act (R286, R536). -/
def dutyEntry (inp : InImage) (new old : Option Nat) (cause res code : Nat) (skipped : Bool)
    (minute : Nat) : Entry :=
  mkEntry 0x04 0x03 (if cause = 1 then 4 else 5) ([engByte new, engByte old, byteOf cause,
    byteOf res, byteOf code, byteOf (b2n skipped)] ++ leBytes 2 minute) inp.turn inp.tick

/-- A duty act at belfry rank on an engineer (R261, R263). -/
def dutyAct (img : Image) (inp : InImage) (x : Belfry × BelTurn × Acc)
    (e cause code : Nat) (skipped : Bool) (minute : Nat) : Belfry × BelTurn × Acc :=
  let b := x.1
  if e ≥ img.belf.neng ∨ ¬ engPresent b e then
    (b, x.2.1, (x.2.2.ent (dutyEntry inp b.duty b.duty cause resRefused code skipped minute)).belFault 6)
  else
    let a := x.2.2.ent (dutyEntry inp (some e) b.duty cause resOk code skipped minute)
    ({ b with duty := some e, lastsrc := cause }, { x.2.1 with dutySet := latest x.2.1.dutySet e 3 },
      a.evIf (b.duty != some e) 148)

/-- The selector switch of mode 1 (R261). -/
def dutySwitch (img : Image) (inp : InImage) (x : Belfry × BelTurn × Acc) :
    Belfry × BelTurn × Acc :=
  let ds := (List.range 4).map (fun i => inp.di.getD (img.belf.swdi + i) (false, false))
  let valid := ds.all (fun d => d.2)
  let code := (List.range 4).foldl (fun n i =>
    n + (if (ds.getD i (false, false)).1 then 2 ^ i else 0)) 0
  let b := x.1
  if !valid then
    ({ b with swValid := false }, x.2.1, if b.swValid then x.2.2.belFault 6 else x.2.2)
  else if b.swLast = some code then ({ b with swValid := true }, x.2)
  else dutyAct img inp ({ b with swValid := true, swLast := some code }, x.2) code 1 code false 0

/-- Ticks of the dome in one minute (R263). -/
def ticksPerMinute : Nat := 1966080

/-- Local minutes (R263). -/
def localMinutes (inp : InImage) : Int := (inp.tick / ticksPerMinute : Nat) + inp.zone

/-- The latest occurrence of a schedule minute at or before L (R263). -/
def schedTime (l : Int) (minute : Nat) : Int := l - (l - minute) % 1440

/-- The index of the schedule entry with the largest T among some indices. -/
def schedPick (img : Image) (l : Int) (is : List Nat) : Option Nat :=
  is.foldl (fun a i =>
    let t := fun j => schedTime l (img.belf.schedule.getD j (0, 0)).1
    match a with
    | none => some i
    | some j => if t i > t j then some i else some j) none

/-- The daily schedule of mode 2 (R263). -/
def dutySchedule (img : Image) (inp : InImage) (x : Belfry × BelTurn × Acc) :
    Belfry × BelTurn × Acc :=
  let b := x.1
  let l := localMinutes inp
  let all := List.range img.belf.schedule.length
  let act := fun (b : Belfry) (a : Acc) (i : Option Nat) (sk : Bool) =>
    match i with
    | none => (b, x.2.1, a)
    | some i => dutyAct img inp (b, x.2.1, a) (img.belf.schedule.getD i (0, 0)).2 2 i sk
        (l % 1440).toNat
  if !inp.trusted then
    ({ b with lvalid := false, hold := true }, x.2.1, if b.hold then x.2.2 else x.2.2.belFault 2)
  else
    let b := { b with hold := false }
    if !b.lvalid || l < b.lL - 1440 then
      act { b with lvalid := true, lL := l } x.2.2 (schedPick img l all) false
    else if l > b.lL then
      let p := all.filter (fun i => schedTime l (img.belf.schedule.getD i (0, 0)).1 > b.lL)
      let sk := !p.isEmpty && l - b.lL > 1
      act { b with lL := l }
        (if sk then { x.2.2 with flags := x.2.2.flags ++ [(R.BEL_STAT, 3)] } else x.2.2)
        (schedPick img l p) sk
    else (b, x.2)

/-- SETDUTY (R261, R262, R271). -/
def belSetDuty (img : Image) (inp : InImage) (x : Belfry × BelTurn × Acc) (c : OpCmd) :
    Belfry × BelTurn × Acc :=
  let e := argByte c 1
  let rank := CmdSrc.rank c.src
  let b := x.1
  if e ≥ img.belf.neng then (b, x.2.1, belRecord inp x.2.2 c resNoPoint)
  else if ¬ engPresent b e then (b, x.2.1, belRecord inp x.2.2 c resRefused)
  else if contrary x.2.1.dutySet e rank then
    (b, x.2.1, belRecord inp x.2.2 c resSuperseded)
  else
    let src := match c.src with | .can ch _ _ _ => 3 + ch | .host _ _ => 7 | .belfry => 0
    ({ b with duty := some e, lastsrc := src }, { x.2.1 with dutySet := latest x.2.1.dutySet e rank },
      (belRecord inp x.2.2 c resOk).evIf (b.duty != some e) 148)

/-- A press of a contact input: released state 0 in the last turn, 1 now, GOOD in both (R264). -/
def diPress (inp : InImage) (b : Belfry) (i : Nat) : Bool :=
  let now := inp.di.getD i (false, false)
  let old := b.diLast.getD i (false, false)
  i < 32 && now.1 && now.2 && old.2 && !old.1

/-- WATCH (R262, R271): the source of a command that changes the watch is that of the watch's entry (R272). -/
def belWatchCmd (img : Image) (inp : InImage) (x : Belfry × BelTurn × Acc) (c : OpCmd) :
    Belfry × BelTurn × Acc :=
  let v := argByte c 1 != 0
  let rank := CmdSrc.rank c.src
  if img.belf.wondi ≠ 0xFF then (x.1, x.2.1, belRecord inp x.2.2 c resRefused)
  else if contrary x.2.1.wonSet v rank then
    (x.1, x.2.1, belRecord inp x.2.2 c resSuperseded)
  else ({ x.1 with won := v },
    { x.2.1 with
      wonSet := latest x.2.1.wonSet v rank
      wonSrc := if x.1.won = v then x.2.1.wonSrc else CmdSrc.code c.src },
    belRecord inp x.2.2 c resOk)

/-- Whether the watch is on (R269). -/
def watchOn (img : Image) (inp : InImage) (b : Belfry) : Bool :=
  if img.belf.wondi = 0xFF then b.won else (inp.di.getD img.belf.wondi (false, false)).1

/-- WATCHRESET (R262, R269). -/
def belWatchReset (img : Image) (inp : InImage) (x : Belfry × BelTurn × Acc) (c : OpCmd) :
    Belfry × BelTurn × Acc :=
  if !watchOn img inp x.1 then (x.1, x.2.1, belRecord inp x.2.2 c resNotAck)
  else (x.1,
    { x.2.1 with reset := x.2.1.reset.orElse (fun _ => some (3, 0xFF, CmdSrc.code c.src)) },
    belRecord inp x.2.2 c resOk)

/-- A watch reset by a contact input (R269). -/
def belWatchContact (img : Image) (inp : InImage) (on : Bool) (x : Belfry × BelTurn × Acc)
    (i : Nat) : Belfry × BelTurn × Acc :=
  let d := img.belf.wdi.getD i 0xFF
  if on && diPress inp x.1 d then
    (x.1, { x.2.1 with reset := x.2.1.reset.orElse (fun _ => some (2, i, 3)) },
      x.2.2.ent (mkEntry 0x11 0x03 4 [2, byteOf i, byteOf d, 0] inp.turn inp.tick))
  else x

/-- The watch state and count after a turn (R269). -/
def watchStep (wtime wpre : Nat) (on reset : Bool) (wst wc : Nat) : Nat × Nat :=
  if !on then (0, 0)
  else
    let wc := if reset || wst == 0 then 0 else satInc 0xFFFFFFFF wc
    (if wc ≥ wtime then 3 else if wc ≥ wtime - wpre then 2 else 1, wc)

/-- The WATCH payload (R536). -/
def watchPayload (new old cause wdi wc : Nat) : List Byte :=
  [byteOf new, byteOf old, byteOf cause, byteOf wdi] ++ leBytes 4 wc

/-- The watch timer of a turn (R269). -/
def belWatch (img : Image) (inp : InImage) (on : Bool) (x : Belfry × BelTurn × Acc) :
    Belfry × BelTurn × Acc :=
  let b := x.1
  let n := watchStep img.belf.wtime img.belf.wpre on x.2.1.reset.isSome b.wst b.wc
  let b' := { b with wst := n.1, wc := n.2 }
  if n.1 = b.wst then (b', x.2)
  else
    let onoff := (n.1 = 0) ∨ (b.wst = 0)
    let cw : Nat × Nat × Nat :=
      if onoff then
        if img.belf.wondi ≠ 0xFF then (4, 0xFF, 3)
        else (5, 0xFF, if x.2.1.wonSrc = 0 then 3 else x.2.1.wonSrc)
      else x.2.1.reset.getD (1, 0xFF, 3)
    let e := mkEntry 0x03 cw.2.2 (classIng img.belf.wcls)
      (watchPayload n.1 b.wst cw.1 cw.2.1 n.2) inp.turn inp.tick
    (b', x.2.1, ((x.2.2.ent e).evIf (n.1 == 2) 149).evIf (n.1 == 3) 150)

/-- An absent station's record. -/
def StationRec.empty : StationRec := ⟨0xFF, 0, 0, 0xFFFF, []⟩

/-- The chains of a station (R264). -/
def stationChains (img : Image) (r : StationRec) : List Nat :=
  (List.range img.belf.chains.length).filter (bitOf r.chmask.toNat)

/-- Acceptance of the CALLING chains of a station (R265): the chains accepted, the result. -/
def acceptChains (img : Image) (r : StationRec) (station src : Nat) (b : Belfry) (t : BelTurn) :
    List Nat × Nat × BelTurn :=
  let st := fun c => (b.chains.getD c Chain.empty).st
  let done := fun c => t.accepted.any (fun a => a.1 == c)
  let cs := stationChains img r
  let take := cs.filter (fun c => st c = 1 && !done c)
  let res := if take ≠ [] then resOk
    else if cs.any (fun c => st c == 2 || done c) then resAlready else resNotAck
  (take, res, { t with accepted := t.accepted ++ take.map (fun c => (c, station, src)) })

/-- Whether a point lies in one of a station's ranges (R264). -/
def inRanges (rs : List (Nat × Nat)) (p : Nat) : Bool :=
  rs.any (fun x => x.1 != 0xFFFF && x.1 ≤ p && p ≤ x.2)

/-- The alarms that a STATIONACK acknowledges (R265), in ascending point and kind. -/
def stationAlarms (img : Image) (pts : List Pt) (r : StationRec) : List (Nat × Nat) :=
  (List.range img.latp.points.length).flatMap (fun p =>
    if inRanges r.ranges p then
      ((List.range 9).filter (fun k =>
        stUnack (alSt (pts.getD p Pt.empty) k)
          && bitOf r.clsmask.toNat (ckRec (ptRec img p) k).cls)).map (fun k => (p, k))
    else [])

/-- The ACKs of a STATIONACK, up to 512 in a turn (R265): how many were formed. -/
def stationAck (img : Image) (pts : List Pt) (r : StationRec) (t : BelTurn) : Nat × Bool × BelTurn :=
  let want := (stationAlarms img pts r).filter (fun x => !t.acks.contains x)
  let room := 512 - t.acks.length
  (min want.length room, room < want.length,
    { t with acks := t.acks ++ want.take room, ovf := t.ovf || room < want.length })

/-- ACCEPT and STATIONACK as commands (R262, R265). -/
def belAccept (img : Image) (inp : InImage) (pts : List Pt) (x : Belfry × BelTurn × Acc)
    (c : OpCmd) : Belfry × BelTurn × Acc :=
  let k := argByte c 1
  if k ≥ 8 then (x.1, x.2.1, belRecord inp x.2.2 c resNoPoint)
  else
    let r := img.belf.stations.getD k StationRec.empty
    let y := acceptChains img r k (CmdSrc.code c.src) x.1 x.2.1
    if c.opc = 0x13 then
      let z := stationAck img pts r y.2.2
      let a := if z.2.1 then x.2.2.belFault 4 else x.2.2
      (x.1, z.2.2, belRecord inp a c (if z.1 > 0 then resOk else y.2.1))
    else (x.1, y.2.2, belRecord inp x.2.2 c y.2.1)

/-- A station press (R264, R265) with its PRESS entry (R536). -/
def belPress (img : Image) (inp : InImage) (pts : List Pt) (x : Belfry × BelTurn × Acc) (k : Nat) :
    Belfry × BelTurn × Acc :=
  let r := img.belf.stations.getD k StationRec.empty
  if diPress inp x.1 r.ackdi then
    let y := acceptChains img r k 3 x.1 x.2.1
    let z := stationAck img pts r y.2.2
    let res := if z.1 > 0 then resOk else y.2.1
    let mask := y.1.foldl (fun n c => n + 2 ^ c) 0
    let e := mkEntry 0x11 0x03 4 ([1, byteOf k, byteOf r.ackdi, byteOf res] ++ leBytes 2 mask
      ++ leBytes 2 z.1 ++ [byteOf (b2n z.2.1)]) inp.turn inp.tick
    let a := x.2.2.ent e
    let a := if z.2.1 then a.belFault 4 else a
    (x.1, z.2.2, if res = resOk then a else a.belFault 6)
  else x

/-- An absent chain's record. -/
def ChainRec.empty : ChainRec := ⟨0xFFFF, 0, false, false, 0, []⟩

/-- The last existing stage of a chain (R266). -/
def lastStage (r : ChainRec) : Nat := (r.stages.filter (fun s => s.present)).length - 1

/-- The cabin bit of an engineer, if it has a cabin. -/
def cabinBit (img : Image) (e : Nat) : Nat :=
  match img.belf.engineers[e]? with
  | some r => if r.cabin < 8 then 2 ^ r.cabin else 0
  | none => 0

/-- The target set of one stage, and whether its DUTY found no cabin (R268). -/
def stageTargets (img : Image) (b : Belfry) (s : StageRec) : Nat × Bool :=
  let duty := match b.duty with | some e => cabinBit img e | none => 0
  let all := (List.range img.belf.neng).foldl (fun m e =>
    if engPresent b e then m ||| cabinBit img e else m) 0
  (s.stmask.toNat ||| (if s.duty then duty else 0) ||| (if s.alleng then all else 0),
    s.duty && duty == 0)

/-- The stations a chain calls in its state, and whether a DUTY stage found no cabin (R268). -/
def chainTargets (img : Image) (b : Belfry) (r : ChainRec) (c : Chain) : Nat × Bool :=
  if c.st ≠ 1 then (0, false)
  else
    let ss := if r.cumul then r.stages.take (c.stg + 1) else (r.stages.drop c.stg).take 1
    ss.foldl (fun m s => let t := stageTargets img b s; (m.1 ||| t.1, m.2 || t.2)) (0, false)

/-- One chain's step (R267): its next state and the record 1 to 5, 0 for none. -/
def chainStep (r : ChainRec) (t : Bool) (tv : Int) (acc : Option (Nat × Nat)) (c : Chain) :
    Chain × Nat :=
  let fin := fun (c : Chain) => { c with lt := t, ltv := tv }
  if c.st = 0 then
    if t ∧ ¬ c.lt then (fin { c with st := 1, stg := 0, cnt := 0 }, 1) else (fin c, 0)
  else if c.st = 1 then
    if ¬ t then (fin { c with st := 0 }, 5)
    else match acc with
      | some (station, _) => (fin { c with st := 2, cnt := 0, accst := station }, 3)
      | none =>
        let cnt := satInc 0xFFFFFF c.cnt
        let tmo := (r.stages.getD c.stg ⟨0, false, false, false, 0⟩).tmo
        if tmo ≠ 0 ∧ cnt ≥ 100 * tmo ∧ c.stg < lastStage r then
          (fin { c with stg := c.stg + 1, cnt := 0 }, 2)
        else (fin { c with cnt := cnt }, 0)
  else
    if ¬ t then (fin { c with st := 0 }, 5)
    else if (r.retrig ∧ tv > c.ltv) ∨ (r.rearm ≠ 0 ∧ c.cnt + 1 ≥ r.rearm) then
      (fin { c with st := 1, stg := 0, cnt := 0 }, 4)
    else (fin { c with cnt := satInc 0xFFFFFF c.cnt }, 0)

/-- The CHAIN payload (R536). -/
def chainPayload (r : ChainRec) (c rec : Nat) (new : Chain) (station called : Nat) (tv : Int)
    (cnt : Nat) : List Byte :=
  [byteOf c, byteOf rec, byteOf new.st, byteOf new.stg, byteOf station, byteOf r.cls]
    ++ leBytes 2 called ++ leBytes 4 (pattern 32 tv) ++ leBytes 4 cnt

/-- The event of a chain record (R281). -/
def chainEvent (rec : Nat) : Nat :=
  if rec = 2 then 145 else if rec = 3 then 146 else if rec = 5 then 147 else 144

/-- The trigger value of a chain (R266). -/
def chainTrigger (img : Image) (nodes : List Node) (wst : Nat) (c : Nat) (r : ChainRec) : Int :=
  if img.belf.wchain = c then (if wst = 3 then 1 else 0)
  else (nodes.getD r.trig Node.empty).v

/-- One chain of a turn (R267). -/
def belChain (img : Image) (inp : InImage) (nodes : List Node) (t : BelTurn) (x : Belfry × Acc)
    (c : Nat) : Belfry × Acc :=
  match img.belf.chains[c]? with
  | none => x
  | some r =>
    let old := x.1.chains.getD c Chain.empty
    let tv := chainTrigger img nodes x.1.wst c r
    let acc := (t.accepted.find? (fun a => a.1 = c)).map (fun a => a.2)
    let y := chainStep r (tv != 0) tv acc old
    let tg := chainTargets img x.1 r y.1
    let was := x.1.nodutyChain.getD c false
    let b := { x.1 with chains := upd x.1.chains c (fun _ => y.1),
                        nodutyChain := upd x.1.nodutyChain c (fun _ => tg.2) }
    let a := if tg.2 && !was then x.2.belFault 1 else x.2
    if y.2 = 0 then (b, a)
    else
      let src := if y.2 = 3 then (acc.map (fun s => s.2)).getD 3 else 3
      let station := if y.2 = 3 then (acc.map (fun s => s.1)).getD 0xFF else 0xFF
      (b, (a.ent (mkEntry 0x02 src (classIng r.cls)
        (chainPayload r c y.2 y.1 station tg.1 tv old.cnt) inp.turn inp.tick)).ev (chainEvent y.2))

/-- The belfry's own call signals (R270): CALL0 to CALL7 without FORCE, WATCHPRE, WATCHALM,
NODUTY. -/
def ownSignals (img : Image) (b : Belfry) : Nat :=
  let calls := (List.range img.belf.chains.length).foldl (fun m c =>
    m ||| (chainTargets img b (img.belf.chains.getD c ChainRec.empty)
      (b.chains.getD c Chain.empty)).1) 0
  (calls % 256) + (if b.wst = 2 then 256 else 0) + (if b.wst = 3 then 512 else 0)
    + (if b.duty.isNone then 1024 else 0)

/-- The stations whose FORCE node output is not 0 (R270). -/
def forceNodes (img : Image) (nodes : List Node) : Nat :=
  (List.range img.belf.stations.length).foldl (fun m k =>
    let r := img.belf.stations.getD k StationRec.empty
    if r.force < img.latg.nodes.length ∧ (nodes.getD r.force Node.empty).v ≠ 0 then m + 2 ^ k else m) 0

/-- The call signals and FORCE overrides of a turn, with their FORCE entries (R270). -/
def belSignals (img : Image) (inp : InImage) (nodes : List Node) (x : Belfry × Acc) :
    Belfry × Acc :=
  let own := ownSignals img x.1
  let fn := forceNodes img nodes
  let forced := fn &&& ((255 : Nat) ^^^ (own % 256))
  let b := { x.1 with sig := own ||| fn, forced := forced }
  let a := (List.range 8).foldl (fun (a : Acc) k =>
    if bitOf forced k = bitOf x.1.forced k then a
    else
      let on := bitOf forced k
      let a := a.ent { sysEntry 0x0007 ([byteOf k, byteOf (b2n on)]
        ++ leBytes 2 (img.belf.stations.getD k StationRec.empty).force) with
          turn := inp.turn, tick := inp.tick, outside := false }
      if on then a.belFault 5 else a) x.2
  (b, a)

/-- WATCH or WATCHRESET, as its opcode says. -/
def belWatchBoth (img : Image) (inp : InImage) (x : Belfry × BelTurn × Acc) (c : OpCmd) : Belfry × BelTurn × Acc :=
  if c.opc = 0x15 then belWatchCmd img inp x c else belWatchReset img inp x c

/-- The ACKs of a turn in ascending point, then kind (R265). -/
def sortAcks (img : Image) (acks : List (Nat × Nat)) : List (Nat × Nat) :=
  (List.range img.latp.points.length).flatMap (fun p =>
    let mine := acks.filter (fun a => a.1 == p)
    (List.range 9).flatMap (fun k => mine.filter (fun a => a.2 == k)))

/-- The presence mask as a number. -/
def presenceMask (b : Belfry) : Nat :=
  (List.range 16).foldl (fun m e => if engPresent b e then m + 2 ^ e else m) 0

/-- The belfry stage of a turn (R260); the commands come in rank order and permitted. Contact inputs stand at the
belfry's rank: their edges come before the commands of the watch (R34). -/
def belfryStage (img : Image) (inp : InImage) (pts : List Pt) (nodes : List Node) (b : Belfry)
    (cmds : List OpCmd) (acc : Acc) : Belfry × Acc :=
  let x : Belfry × BelTurn × Acc := (b, BelTurn.empty, acc)
  let x := (cmds.filter (fun c => c.opc = 0x14)).foldl (belPresence img inp) x
  let x := if img.belf.dutysel = 1 then dutySwitch img inp x
    else if img.belf.dutysel = 2 then dutySchedule img inp x else x
  let x := (cmds.filter (fun c => c.opc = 0x11)).foldl (belSetDuty img inp) x
  let x := (List.range 4).foldl (belWatchContact img inp (watchOn img inp x.1)) x
  let x := (cmds.filter (fun c => c.opc = 0x15 ∨ c.opc = 0x16)).foldl (belWatchBoth img inp) x
  let x := belWatch img inp (watchOn img inp x.1) x
  let x := (List.range 8).foldl (belPress img inp pts) x
  let x := (cmds.filter (fun c => c.opc = 0x12 ∨ c.opc = 0x13)).foldl (belAccept img inp pts) x
  let y := (List.range img.belf.chains.length).foldl (belChain img inp nodes x.2.1) (x.1, x.2.2)
  let z := belSignals img inp nodes y
  let acks := (sortAcks img x.2.1.acks).map (fun a =>
    (⟨.belfry, 1, leBytes 2 a.1 ++ [byteOf a.2]⟩ : OpCmd))
  let a := if z.1.started then z.2
    else z.2.ent { sysEntry 0x0006 ([engByte z.1.duty, byteOf img.belf.dutysel]
      ++ leBytes 2 (presenceMask z.1) ++ [byteOf z.1.wst]) with
        turn := inp.turn, tick := inp.tick, outside := false }
  ({ z.1 with diLast := inp.di, acks := acks, started := true }, a)

/-- The belfry after a reset (R274). -/
def belStart (img : Image) : Belfry :=
  let pres := img.belf.engineers.map (fun e => e.present)
  let d := img.belf.defduty
  { duty := if img.belf.dutysel ≠ 1 ∧ d < img.belf.neng ∧ pres.getD d false then some d else none
    lastsrc := 0, present := padPres pres, swLast := none, swValid := false, lvalid := false,
    lL := 0, hold := false, wst := 0, wc := 0, won := false,
    chains := List.replicate img.belf.chains.length Chain.empty,
    diLast := [], acks := [], sig := 0, forced := 0,
    nodutyChain := List.replicate img.belf.chains.length false, started := false }
where
  /-- Sixteen presence flags. -/
  padPres (l : List Bool) : List Bool := l.take 16 ++ List.replicate (16 - l.length) false

end Sys2Proof.Machine
end

