-- ==== Sys2Proof/Machine/Transmit.lean ====
section
/-!
DEFINITION. The last parts of evaluation: the host commands that are judged against a queue
(R287), the forming of transmit frames (R326, R328, R329, R343), and the evaluation of a whole
turn (R18).
-/
namespace Sys2Proof.Machine

/-- The queue that a host command is judged against (R287), and its verdict before the free
count: the result when its target cannot take it. -/
def judgedTarget (img : Image) (inp : InImage) (c : OpCmd) : Nat × Nat :=
  match c.opc with
  | 0x21 => (57, if argByte c 1 ≥ img.panl.nreg then resNoPoint else resOk)
  | 0x22 =>
    (59, if argByte c 1 ≥ img.panl.nreg ∧ argByte c 1 ≠ 0xFF then resNoPoint
      else if argByte c 2 = 0 ∨ argByte c 2 > 3 ∨ (argByte c 2 = 1 ∧ argByte c 3 > 3) then resRefused
      else resOk)
  | 0x31 =>
    (16 + argByte c 1 % 16,
      if argByte c 1 < 16 ∧ inp.hart.getD (argByte c 1) false ∧ byteAt c.args 3 ≤ 240 then resOk
      else resRefused)
  | _ =>
    let n := argByte c 1
    let fd := bitOf (argByte c 2) 0
    let len := argByte c 7
    let lenOk := if fd then len ≤ 8 || [12, 16, 20, 24, 32, 48, 64].contains len else len ≤ 8
    let fden := ((img.canm.chans[n]?).any (fun r => r.fden))
    (6 + 3 * (n % 4),
      if n < 4 ∧ inp.canEn.getD n false ∧ (fd = false ∨ fden) ∧ lenOk then resOk else resRefused)

/-- The element that a judged command places at the emit (R200, R319, R455, R479). -/
def judgedElement (c : OpCmd) (ref : HostRef) : List Byte :=
  let id := leBytes 4 ref.cmdid.toNat
  match c.opc with
  | 0x21 => padTo 32 (id ++ c.args)
  | 0x22 => padTo 32 (id ++ c.args)
  | 0x31 => padTo 256 (id ++ c.args.drop 1)
  | _ =>
    let fd := bitOf (argByte c 2) 0
    let w := putBit (uAt c.args 2 4) 31 fd
    padTo 80 (id ++ leBytes 4 w ++ [byteOf (argByte c 7), byteOf (b2n (bitOf (argByte c 2) 1))]
      ++ leBytes 6 0 ++ slice c.args 7 (argByte c 7))

/-- The commands judged against a queue, in their order, each reserving an element (R287). -/
def judgeCommands (img : Image) (inp : InImage) :
    List OpCmd → List Nat → Acc → Acc
  | [], _, acc => acc
  | c :: cs, free, acc =>
    let t := judgedTarget img inp c
    match c.src with
    | .host ref _ =>
      let n := free.getD t.1 0
      let res := if t.2 ≠ resOk then t.2 else if n = 0 then resBusy else resOk
      let e := commandEntry c res inp.turn inp.tick
      let e := if res = resOk then
        { e with places := [⟨t.1, judgedElement c ref, some ref⟩] } else e
      let acc := if res = resBusy ∧ c.opc = 0x31 then acc.ev 100 else acc
      judgeCommands img inp cs (if res = resOk then upd free t.1 (fun k => k - 1) else free)
        (acc.ent e)
    | _ => judgeCommands img inp cs free (recordCommand inp acc c resNoPoint)

/-- The ST word of a point (LAT_PSTATEp). -/
def stWord (p : Pt) : Nat := (List.range 9).foldl (fun n k => n + alSt p k * 8 ^ k) 0

/-- The BEL_CHSTATc word of a chain. -/
def chstatWord (c : Chain) : Nat :=
  c.st * 2 ^ 30 + c.stg * 2 ^ 28 + b2n c.lt * 2 ^ 27 + c.accst * 2 ^ 24 + c.cnt

/-- What transmit fields read: this turn's states. -/
structure TxView where
  pts : List Pt
  nodes : List Node
  timers : List Timer
  hps : List HostPt
  bel : Belfry

/-- An input word from its 32 bits (R254). -/
def decodeInWord (w : Nat) : InWord :=
  ⟨w / 2 ^ 28 % 16, w / 2 ^ 23 % 32, bitOf w 22, w % 4096⟩

/-- The value of a transmit field (R343), cut to the width it is sent in. -/
def fieldValue (img : Image) (inp : InImage) (v : TxView) (f : TxField) : Nat :=
  let full := match f.fkind with
    | 1 => pattern 32 (v.pts.getD f.obj Pt.empty).y
    | 2 => stWord (v.pts.getD f.obj Pt.empty)
    | 3 => pattern 32 (v.nodes.getD f.obj Node.empty).v
    | 4 => v.bel.sig
    | 5 => chstatWord (v.bel.chains.getD f.obj Chain.empty)
    | 6 =>
      let w := decodeInWord f.obj
      b2n (inputBool false w (inputWord img inp v.pts v.hps v.nodes v.timers w))
    | _ => 0
  if f.fkind = 6 then full else full % 256 ^ f.width

/-- A payload with a field's bytes or bit put in (R343). -/
def putField (pl : List Byte) (f : TxField) (v : Nat) : List Byte :=
  if f.fkind = 0 then pl
  else if f.fkind = 6 then
    upd pl f.off (fun b => byteOf (putBit b.toNat (f.bit % 8) (v != 0)))
  else (List.zip (List.range f.width) (leBytes f.width v)).foldl (fun pl x =>
    upd pl (f.off + x.1) (fun _ => x.2)) pl

/-- The payload length of a transmit entry (R326). -/
def payloadLen (r : TxRec) : Nat :=
  if r.cls = 3 then r.len else r.len - (if r.mac then 12 else 4)

/-- The ID word of a transmit entry, with its FDF bit (R319). -/
def txIdWord (r : TxRec) : Nat := putBit r.id.toNat 31 r.fd

/-- Whether an entry of the turn records a change that a frame carries (R328). -/
def recordsChange (r : TxRec) (e : Entry) : Bool :=
  e.ing == classIng r.cls && r.fields.any (fun f =>
    let pt := e.kind == 1 && uAt e.payload 0 2 == f.obj
    match f.fkind with
    | 2 => pt
    | 4 => e.kind == 2 || e.kind == 3
    | 5 => e.kind == 2 && byteAt e.payload 0 == f.obj
    | 6 =>
      let w := decodeInWord f.obj
      w.ikind == 1 && (w.attr ≤ 1 || w.attr ≥ 16) && e.kind == 1 && uAt e.payload 0 2 == w.index
    | _ => false)

/-- The FRAME payload (R329). -/
def framePayload (r : TxRec) (seq : Nat) (resync : Bool) (pl : List Byte) : List Byte :=
  [byteOf r.stream] ++ leBytes 2 seq
    ++ [byteOf (64 * r.cls + 32 * b2n r.mac + 8 * b2n resync), byteOf r.chmask.toNat,
        byteOf r.len, byteOf (b2n r.fd + 2 * b2n r.brs), 0]
    ++ leBytes 4 (txIdWord r) ++ padTo 20 pl

/-- The 80-byte element of a class D frame or a host frame (R319): no command ID. -/
def frameElement (idw len flags : Nat) (data : List Byte) : List Byte :=
  padTo 80 (leBytes 4 0 ++ leBytes 4 idw ++ [byteOf len, byteOf flags] ++ leBytes 6 0
    ++ data.take 64)

/-- The queue of CANn for a class: Q(4 + 3n), Q(5 + 3n) or Q(6 + 3n) (R322). -/
def classQueue (cls n : Nat) : Nat :=
  (if cls = 0 then 4 else if cls = 3 then 6 else 5) + 3 * n

/-- The channels of a mask. -/
def maskChannels (m : BitVec 4) : List Nat := (List.range 4).filter (bitOf m.toNat)

/-- What one transmit entry forms in a turn (R328, R343): its new state, a FRAME entry, the
placements of a class D frame. -/
def txEntry (img : Image) (inp : InImage) (v : TxView) (r : TxRec) (t : TxState)
    (streams : List (Nat × Nat × Bool)) :
    TxState × Option Entry × List Place × List (Nat × Nat × Bool) :=
  let vals := r.fields.map (fieldValue img inp v)
  let send := if r.trig = 1 then r.per != 0 && inp.turn % r.per == 0
    else t.fresh || vals != t.vals
  let t' : TxState := ⟨vals, false⟩
  if !send then (t', none, [], streams)
  else
    let pl := (List.zip r.fields vals).foldl (fun pl x => putField pl x.1 x.2)
      (List.replicate (payloadLen r) 0)
    if r.cls = 3 then
      (t', none, (maskChannels r.chmask).map (fun n =>
        ⟨classQueue 3 n, frameElement (txIdWord r) r.len (b2n r.brs) pl, none⟩), streams)
    else
      let cur := (streams.find? (fun s => s.1 = r.stream)).getD (r.stream, 0, false)
      let e := mkEntry 0x20 0x00 (classIng r.cls) (framePayload r cur.2.1 cur.2.2 pl)
        inp.turn inp.tick
      (t', some e, [], (r.stream, (cur.2.1 + 1) % 65536, false)
        :: streams.filter (fun s => s.1 ≠ r.stream))

/-- All transmit entries of a turn in ascending index. -/
def txAll (img : Image) (inp : InImage) (v : TxView) :
    List TxRec → List TxState → List (Nat × Nat × Bool) →
    List TxState × List (TxRec × Entry) × List Place × List (Nat × Nat × Bool)
  | [], _, st => ([], [], [], st)
  | r :: rs, ts, st =>
    let x := txEntry img inp v r (ts.headD ⟨[], true⟩) st
    let rest := txAll img inp v rs ts.tail x.2.2.2
    (x.1 :: rest.1,
      (match x.2.1 with | some e => (r, e) :: rest.2.1 | none => rest.2.1),
      x.2.2.1 ++ rest.2.2.1, rest.2.2.2)

/-- The index of the last entry that records a change of a frame (R328). -/
def frameAnchor (ents : List Entry) (r : TxRec) : Option Nat :=
  (List.range ents.length).foldl (fun a i =>
    if (ents[i]?).any (recordsChange r) then some i else a) none

/-- The turn's entries with the FRAME entries in their places (R328). -/
def placeFrames (ents : List Entry) (fs : List (TxRec × Entry)) : List Entry :=
  let at_ := fun o => (fs.filter (fun f => frameAnchor ents f.1 = o)).map (fun f => f.2)
  (List.range ents.length).flatMap (fun i =>
    (match ents[i]? with | some e => [e] | none => []) ++ at_ (some i)) ++ at_ none

/-- Evaluation of a turn: point cells, spire, timer cells, belfry, transmit entries (R18), from
the input image and the state of the last completed turn. -/
def evaluate (img : Image) (inp : InImage) (last : EvalState) : EvalState × Acc :=
  let all := byRank (last.bel.acks ++ inp.cmds)
  let cmds := all.filter cmdPermitted
  let acc := (all.filter (fun c => ¬ cmdPermitted c)).foldl (refuseCommand inp) Acc.nil
  let acc := if last.started then acc
    else acc.ent { sysEntry 0x0001 [] with turn := inp.turn, tick := inp.tick, outside := false }
  let p := pointStage img inp last cmds acc
  let n := spireStage img inp p.1 p.2.2.1 last p.2.2.2.1
  let t := timerStage img inp p.1 p.2.2.1 n.1 last n.2
  let b := belfryStage img inp p.1 n.1 last.bel
    (cmds.filter (fun c => 0x11 ≤ c.opc ∧ c.opc ≤ 0x16)) t.2
  let a := judgeCommands img inp
    (cmds.filter (fun c => c.opc = 0x21 ∨ c.opc = 0x22 ∨ c.opc = 0x31 ∨ c.opc = 0x32))
    inp.qfree b.2
  let v : TxView := ⟨p.1, n.1, t.1, p.2.2.1, b.1⟩
  let x := txAll img inp v img.canm.tx last.tx last.streams
  ({ pts := p.1, devs := p.2.1, nodes := n.1, timers := t.1, hps := p.2.2.1, bel := b.1,
     tx := x.1, streams := x.2.2.2, cmdsApplied := cmds.length, changes := p.2.2.2.2,
     started := true },
   { a with ents := placeFrames a.ents x.2.1, frames := a.frames ++ x.2.2.1 })

/-- The evaluation state after a reset, under an image (R247, R259, R274). -/
def evalStart (img : Image) : EvalState :=
  { pts := img.latp.points.map ptStart
    devs := img.latp.devsets.map (fun _ => ⟨0, 0, false⟩)
    nodes := img.latg.nodes.map (fun _ => Node.empty)
    timers := img.latt.map (fun _ => Timer.empty)
    hps := List.replicate 512 HostPt.empty
    bel := belStart img
    tx := img.canm.tx.map (fun _ => ⟨[], true⟩)
    streams := []
    cmdsApplied := 0
    changes := 0
    started := false }

end Sys2Proof.Machine
end

