-- ==== Sys2Proof/Machine/Journal.lean ====
section
/-!
DEFINITION. The journal (R282 to R312): entries and their chain, what a commit takes, acceptance, the
drain, the seal, checkpoints, export, the watermark, replay tables and the start-up checks.
-/
namespace Sys2Proof.Machine

/-- The slots of the ring (R282). -/
def ringSlots : Nat := 3670016

/-- The slots of the ingress pool (R294). -/
def poolSlots : Nat := 12288

/-- The device with the journal changed. -/
def Dev.setJrn (d : Dev) (f : Journal → Journal) : Dev := { d with jrn := f d.jrn }

/-- FREE (R283). -/
def Journal.free (j : Journal) : Nat := ringSlots - (j.next - j.wmark)

/-- The commit capacity K (R20). -/
def commitK (emit : Nat) : Nat := min 2048 (8 * (emit - 80))

/-- The 64 bytes of an entry after an entry with chain value `prev` (R285, R288). -/
def entryBytes (seq tick turn src kind ing deft : Nat) (payload prev : List Byte) : List Byte :=
  let b := leBytes 8 seq ++ leBytes 6 tick ++ leBytes 6 turn
    ++ [byteOf src, byteOf kind, byteOf ing, byteOf deft] ++ padTo 32 payload
  b ++ (sha256 (prev ++ b)).take 8

/-- The chain value, kind, payload, session and turn that an entry's bytes hold. -/
def LEntry.chain (e : LEntry) : List Byte := slice e.bytes 56 8
def LEntry.kind (e : LEntry) : Nat := byteAt e.bytes 21
def LEntry.payload (e : LEntry) : List Byte := slice e.bytes 24 32
def LEntry.turn (e : LEntry) : Nat := uAt e.bytes 14 6

/-- Whether an entry is ordinary (R290). -/
def LEntry.ordinary (e : LEntry) : Bool := e.kind < 0x7D

/-- One accepted or tentative entry from an ingress entry (R285). -/
def fromIngress (turn seq : Nat) (prev : List Byte) (e : Entry) : LEntry :=
  ⟨seq, entryBytes seq e.tick e.turn e.src e.kind
    ((if e.turn < turn then 0x80 else 0) + e.ing) (min 255 (turn - e.turn)) e.payload prev⟩

/-- One entry that is not taken from an ingress queue (R285). -/
def direct (tick turn seq kind : Nat) (prev payload : List Byte) : LEntry :=
  ⟨seq, entryBytes seq tick turn 0x0A kind 8 0 payload prev⟩

/-- The entries of a segment in SEQ order, from the write buffer and the ledger (R291). -/
def Journal.segmentEntries (j : Journal) (s : Nat × Nat) : List LEntry :=
  (j.ledger.reverse ++ j.wbuf).filter (fun e => s.1 ≤ e.seq && e.seq ≤ s.2 && e.ordinary)

/-- The message that a checkpoint's signature covers (R291): `head` is bytes 0 to 23 of CKPTR. -/
def checkpointMessage (head chainLast : List Byte) (seg : List LEntry) : List Byte :=
  head ++ chainLast ++ sha256 (seg.flatMap LEntry.bytes)

/-- CKPTR and CKPTS of a signed segment (R290, R291). -/
def Journal.checkpoint (j : Journal) (tick turn seq : Nat) (prev : List Byte) (s : Nat × Nat) :
    List LEntry :=
  let seg := j.segmentEntries s
  let last := ((seg.getLast?).map LEntry.chain).getD (List.replicate 8 0)
  let head := leBytes 8 seq ++ leBytes 6 tick ++ leBytes 6 turn ++ [0x0A, 0x7E, 8, 0]
  let sig := Config.ecdsaSign (checkpointMessage head last seg)
  let r := direct tick turn seq 0x7E prev (padTo 32 (sig.take 32))
  let t := direct tick turn (seq + 1) 0x7F r.chain (padTo 32 (sig.drop 32))
  [r, t]

/-- The checkpoints of the signed segments, in order, while FREE is at least 1 (R304). -/
def Journal.checkpoints (j : Journal) (tick turn : Nat) :
    List (Nat × Nat) → Nat → List Byte → List LEntry × List (Nat × Nat)
  | [], _, _ => ([], [])
  | s :: ss, seq, prev =>
    if j.free < (seq - j.next) + 2 then ([], s :: ss)
    else
      let c := j.checkpoint tick turn seq prev s
      let prev' := ((c.getLast?).map LEntry.chain).getD prev
      let r := j.checkpoints tick turn ss (seq + 2) prev'
      (c ++ r.1, r.2)

/-- The head of an ingress queue. -/
def ingHead (ing : List (List Entry)) (q : Nat) : Option Entry := (ing.getD q []).head?

/-- The promoted head that is served first: the oldest, the lower number on a tie (R67). -/
def promotedHead (ing : List (List Entry)) (turn agelim : Nat) : Option Nat :=
  ([1, 2, 3, 4, 5, 6, 7].filter (fun q => (ingHead ing q).any (fun e => decide (turn - e.turn > agelim)))).foldl
    (fun b q => match b with
      | none => some q
      | some p =>
        if (ingHead ing q).any (fun e => (ingHead ing p).any (fun f => e.turn < f.turn)) then some q else b) none

/-- The next ingress queue that commit serves (R19, R66, R67): class A, promoted heads, then operator
actions, security, system, pair, class B, class C, class D. `stop` bars every queue but class D. -/
def nextIngress (ing : List (List Entry)) (turn agelim : Nat) (stop : Bool) : Option Nat :=
  if stop then (if (ingHead ing 3).isSome then some 3 else none)
  else if (ingHead ing 0).isSome then some 0
  else match promotedHead ing turn agelim with
    | some q => some q
    | none => [4, 6, 5, 7, 1, 2, 3].find? (fun q => (ingHead ing q).isSome)

/-- The taking of entries while capacity remains (R20, R304). `n` is the entries taken so far and `free`
FREE before the first. -/
def takeEntries (turn agelim free : Nat) : Nat → Nat → Nat → Take → Take
  | 0, _, _, t => t
  | fuel + 1, k, n, t =>
    if k = 0 then t
    else match nextIngress t.ing turn agelim t.waits with
      | none => t
      | some q =>
        match ingHead t.ing q with
        | none => t
        | some e =>
          let rest := upd t.ing q List.tail
          let promos := if q ≠ 0 ∧ turn - e.turn > agelim then t.promos ++ [q] else t.promos
          if q = 3 then
            if free - (n + 1) ≥ 65536 ∧ free ≥ n + 1 then
              takeEntries turn agelim free fuel (k - 1) (n + 1)
                { t with taken := t.taken ++ [e], promos := promos, ing := rest }
            else takeEntries turn agelim free fuel k n
              { t with promos := promos, ing := rest, refused := t.refused + 1 }
          else if free ≥ n + 17 then
            takeEntries turn agelim free fuel (k - 1) (n + 1)
              { t with taken := t.taken ++ [e], promos := promos, ing := rest }
          else takeEntries turn agelim free fuel k n { t with waits := true, classAWaits := q == 0 }

/-- The entries in all ingress queues. -/
def ingCount (ing : List (List Entry)) : Nat := (ing.map List.length).foldl (· + ·) 0

/-- What the commit of a turn takes from the ingress queues. -/
def Dev.commitTake (d : Dev) (ing : List (List Entry)) (before : Nat) : Take :=
  takeEntries d.turn.number d.image.jrnl.agelim (d.jrn.free - before) (ingCount ing + 1)
    (commitK d.image.phsb.emit) 0 ⟨[], [], ing, 0, false, false⟩

/-- The tentative entries of a turn in commit order: GENESIS on a journal that has none, checkpoints,
then the entries taken (R289, R290). -/
def Dev.formEntries (d : Dev) (tick : Nat) (taken : List Entry) : List LEntry :=
  let j := d.jrn
  let turn := d.turn.number
  let g := if j.genesis then [direct tick turn j.next 0x7D (List.replicate 8 0) (sha256 Config.certificate)] else []
  let prev := ((g.getLast?).map LEntry.chain).getD j.chain
  let c := (j.checkpoints tick turn j.signed (j.next + g.length) prev).1
  let pre := g ++ c
  let prev := ((pre.getLast?).map LEntry.chain).getD prev
  (taken.foldl (fun (x : List LEntry × List Byte) e =>
    let l := fromIngress turn (j.next + pre.length + x.1.length) x.2 e
    (x.1 ++ [l], l.chain)) ([], prev)).1 |> (pre ++ ·)

/-- Entries of a commit outside K: GENESIS and the checkpoints. -/
def Dev.directCount (d : Dev) (tick : Nat) : Nat := (d.formEntries tick []).length

/-- The segment count after an accepted entry (R290): a standby accepts the checkpoint of a segment that it has
not signed itself. -/
def Journal.segmentStep (j : Journal) (e : LEntry) : Journal :=
  if e.ordinary then
    let start := if j.segment = 0 then e.seq else j.segStart
    if j.segment + 1 = 4096 then
      { j with segment := 0, segStart := start, unsigned := j.unsigned ++ [(start, e.seq)] }
    else { j with segment := j.segment + 1, segStart := start }
  else if e.kind = 0x7F then
    if j.signed.isEmpty then { j with lastCkpt := e.seq, ckpts := j.ckpts + 1, unsigned := j.unsigned.tail }
    else { j with lastCkpt := e.seq, ckpts := j.ckpts + 1, signed := j.signed.tail }
  else if e.kind = 0x7D then { j with genesis := false }
  else j

/-- One entry accepted into the write buffer (R292, R294). -/
def Journal.accept (j : Journal) (e : LEntry) : Journal :=
  ({ j with next := e.seq + 1, chain := e.chain, wbuf := j.wbuf ++ [e] }).segmentStep e

/-- The transmit marks' work on an accepted FRAME entry: it is owed on every channel of its mask (R336). -/
def Dev.oweFrame (d : Dev) (e : LEntry) : Dev :=
  if e.kind = 0x20 then
    let mask := byteAt e.payload 4
    { d with can := { d.can with chans := (List.zip (List.range 4) d.can.chans).map (fun x =>
        if bitOf mask x.1 && (d.image.canm.chans[x.1]?).any CanChan.en then { x.2 with owed := x.2.owed ++ [e.seq] } else x.2) } }
  else d

/-- A replay table with an entry's command ID (R299, R301). -/
def Replay.note (r : Replay) (id res : Nat) : Replay := ⟨((id, res) :: r.ids).take 1024⟩

/-- The replay tables after a COMMAND entry of a host session (R301). -/
def noteReplay (l : List Replay) (e : LEntry) : List Replay :=
  if e.kind = 0x10 ∧ uAt e.payload 4 2 < 8 then
    upd l (uAt e.payload 4 2) (fun r => r.note (uAt e.payload 0 4) (byteAt e.payload 8))
  else l

/-- LEDGER_DRAIN: the oldest accepted entry reaches the ledger and its replay table (R294, R301); outside
write-through it invalidates the seal (R295). -/
def Dev.drain (d : Dev) : Dev :=
  match d.jrn.wbuf with
  | [] => d
  | e :: rest => d.setJrn (fun j => { j with
      wbuf := rest, ledger := (e :: j.ledger).take ringSlots, replay := noteReplay j.replay e
      sealed := if j.wthru then j.sealed else none })

/-- Every accepted entry drained. -/
def Dev.drainAll (d : Dev) : Dev := (List.range d.jrn.wbuf.length).foldl (fun d _ => d.drain) d

/-- The transmit mark of a channel (R336): the oldest FRAME entry not completed on it, else the next SEQ. -/
def Dev.canMark (d : Dev) (n : Nat) : Nat :=
  ((((d.can.chans[n]?).map CanCh.owed).getD []).head?).getD d.jrn.next

/-- The seal written over the drained journal, with the marks and stream counters (R295, R337). -/
def Dev.writeSeal (d : Dev) : Dev :=
  let marks := (List.range 4).map d.canMark
  let streams := d.turn.cur.streams.map (fun s => (s.1, s.2.1))
  d.setJrn (fun j => { j with sealed := some (Seal.mk j.next j.chain d.turn.number marks streams) })

/-- The drain and seal before a reset, at a halt or in write-through (R295, R296). -/
def Dev.flush (d : Dev) : Dev := d.drainAll.writeSeal

/-- SEAL_WRITE: the flush completes and the seal is written (R295). -/
def Dev.sealWrite (d : Dev) (us : BitVec 10) : Dev := d.flush.wrF R.JRN_FLUSH F.JRN_FLUSH_LAST us.toNat

/-- A flag of JRN_STAT with its event, which the next emit shows (R41). -/
def Journal.flagDue (j : Journal) (b : Bool) (bit ev : Nat) : Journal :=
  if b then { j with flagsDue := j.flagsDue ++ [(bit, ev)] } else j

/-- LOW follows FREE (R305). -/
def Dev.jrnLevels (d : Dev) : Dev :=
  let low := decide (d.jrn.free < d.image.jrnl.warnfree)
  d.setJrn (fun j => { j.flagDue (low && !j.low) 1 153 with low := low })

/-- Class D refusals and waiting entries of a commit (R304, R305). -/
def Dev.jrnSpace (d : Dev) (t : Take) : Dev :=
  let res := decide (t.refused > 0)
  d.setJrn (fun j => { (j.flagDue (res && !j.reserve) 2 154).flagDue (t.waits && !j.full) 3 155 with
    refusedDue := j.refusedDue + t.refused, reserve := res, full := t.waits })

/-- A HART entry that a device without the token has accepted: its transaction is no longer open (R201, R537). -/
def Dev.hartClosed (d : Dev) (e : LEntry) : Dev :=
  if d.holder ∨ e.kind ≠ 0x30 ∨ uAt e.payload 0 2 ≠ 8 then d
  else d.setHart (byteAt e.payload 6) (fun h =>
    { h with opened := h.opened.eraseP (fun o => o.2.cmdid.toNat == uAt e.payload 2 4) })

/-- Entries accepted (R292): the write buffer, the marks, a checkpoint's event, and in write-through the
ledger and a new seal (R295). -/
def Dev.acceptAll (d : Dev) (es : List LEntry) : Dev :=
  let d := es.foldl (fun d e =>
    let d := ((d.setJrn (fun j => j.accept e)).oweFrame e).hartClosed e
    d.raiseIf (e.kind = 0x7F) 152) d
  let d := d.jrnLevels
  if d.jrn.wthru then d.flush else d

/-- CHECKPOINT_SIGNED: the vault has signed the oldest segment that lacks its checkpoint (R290); a
standby or rejoining device never signs. -/
def Dev.checkpointSigned (d : Dev) : Dev :=
  if d.holder then
    match d.jrn.unsigned with
    | s :: ss => d.setJrn (fun j => { j with unsigned := ss, signed := j.signed ++ [s] })
    | [] => d
  else d

/-- An accepted entry by its SEQ, from the write buffer or the ledger. -/
def Journal.entryAt (j : Journal) (s : Nat) : Option LEntry :=
  match j.wbuf.find? (fun e => e.seq = s) with
  | some e => some e
  | none => j.ledger.find? (fun e => e.seq = s)

/-- Whether the device exports: the holder (R302), and a DECOMMISSIONED device for the session of R421 (R425;
log entry 38). -/
def Dev.exports (d : Dev) : Bool := d.holder || d.rdF R.VLT_STAT F.VLT_STAT_LIFE == 2

/-- The entries that may be exported are those below this SEQ (R302): those of turns that have emitted, and in a
DECOMMISSIONED device all. -/
def Dev.exportEnd (d : Dev) : Nat := if d.holder then d.jrn.shownH else d.jrn.next

/-- One entry placed in Q48 (R302). -/
def Dev.exportOne (d : Dev) : Dev :=
  if d.exports ∧ d.jrn.exported < d.exportEnd ∧ d.hasRoom 48 then
    match d.jrn.entryAt d.jrn.exported with
    | some e =>
      let was := (d.queue 48).isEmpty
      let d := d.push 48 e.bytes none
      (d.setJrn (fun j => { j with exported := j.exported + 1 })).raiseIf was 157
    | none => d
  else d

/-- JOURNAL_EXPORT, and the export at the emit: entries in SEQ order while Q48 has room (R302). -/
def Dev.exportAll (d : Dev) : Dev :=
  (List.range (min (queueDepth 48) (d.jrn.next - d.jrn.exported))).foldl (fun d _ => d.exportOne) d

/-- The mask of JRN_EXPACK's field. -/
def expackMask : Word := 0x3FFFFFFF

/-- EXPACK_WRITE: a standby ignores it; one that matches the active value with nothing pending leaves PEND at 0
and confirms all the same (R45, R303; log entry 39). -/
def Dev.expackWrite (d : Dev) (sess : Nat) (v : Word) : Dev :=
  if !d.holder then d
  else if d.rdF R.JRN_EXPACK ⟨31, 1⟩ = 0 ∧ v &&& expackMask = d.rd R.JRN_EXPACK &&& expackMask then
    { d with wb := (R.JRN_EXPACK, v &&& expackMask, sess) :: d.wb.filter (fun x => x.1 ≠ R.JRN_EXPACK) }
  else d.wbWrite R.JRN_EXPACK expackMask v sess

/-- The SEQ from W to W + 2^30 − 1 with the given low bits. -/
def seqNear (w lo : Nat) : Nat := w + (lo + 2 ^ 30 - w % 2 ^ 30) % 2 ^ 30

/-- A pending confirmation at the sample latch (R303). -/
def Dev.expackLatch (d : Dev) : Dev :=
  match d.wbWord R.JRN_EXPACK with
  | none => d
  | some v =>
    let s := seqNear d.jrn.wmark (v.toNat % 2 ^ 30)
    let d := d.wbApply R.JRN_EXPACK expackMask
    if s ≥ d.jrn.exported then d.flagEv R.JRN_STAT 9 159
    else (d.setJrn (fun j => { j with wmark := max j.wmark (s + 1) })).jrnLevels

/-- POOL_CLR. -/
def Dev.poolClr (d : Dev) : Dev := d.wrF R.JRN_POOL F.JRN_POOL_PEAK 0

/-- HOLDCNT_CLR. -/
def Dev.holdcntClr (d : Dev) : Dev := d.wrF R.JRN_HOLDCNT F.JRN_HOLDCNT_TOTAL 0

/-- H, W, the last checkpoint and FREE as the registers show them: at the emit of a completed turn, and as the
start-up restores them (R6, R41). -/
def Dev.jrnHeads (d : Dev) : Dev :=
  let j := d.jrn
  let d := d.setJrn (fun j => { j with shownH := j.next, shownW := j.wmark, shownC := j.lastCkpt })
  let d := d.wr R.JRN_HEAD_LO (BitVec.ofNat 32 (j.next - 1))
  let d := d.wr R.JRN_WMARK_LO (BitVec.ofNat 32 j.wmark)
  let d := d.wr R.JRN_CKPT_LO (BitVec.ofNat 32 j.lastCkpt)
  d.wr R.JRN_FREE (BitVec.ofNat 32 j.free)

/-- What the turns since the last emit add to the journal's flags and counts, and the entries of the last commit
(R41, R42, R298, R304). -/
def Dev.jrnDue (d : Dev) : Dev :=
  let j := d.jrn
  let d := j.flagsDue.foldl (fun d x => d.flagEv R.JRN_STAT x.1 x.2) d
  let d := d.wr R.JRN_REFUSED (BitVec.ofNat 32 (min (2 ^ 32 - 1) ((d.rd R.JRN_REFUSED).toNat + j.refusedDue)))
  let d := d.wrFs R.JRN_HOLDCNT [(F.JRN_HOLDCNT_RUN, min 255 j.heldRun),
    (F.JRN_HOLDCNT_TOTAL, min 65535 (d.rdF R.JRN_HOLDCNT F.JRN_HOLDCNT_TOTAL + j.heldDue))]
  (d.wrF R.SYS_COMMIT F.SYS_COMMIT_LASTN j.lastN).setJrn (fun j => { j with
    flagsDue := [], refusedDue := 0, heldDue := 0 })

/-- The journal's registers at the emit of a completed turn (R41). -/
def Dev.jrnShow (d : Dev) : Dev :=
  let used := d.jrn.used
  let d := d.jrnDue.jrnHeads
  let d := d.wrFs R.JRN_POOL [(F.JRN_POOL_USED, used), (F.JRN_POOL_PEAK, max used (d.rdF R.JRN_POOL F.JRN_POOL_PEAK))]
  d.wrF R.SYS_DEFER F.SYS_DEFER_BACKLOG used

/-- HEAD_LO_READ: a read of the low word latches the high word. -/
def Dev.headLoRead (d : Dev) : Dev := d.wr R.JRN_HEAD_HI (BitVec.ofNat 32 ((d.jrn.shownH - 1) / 2 ^ 32))

/-- WMARK_LO_READ. -/
def Dev.wmarkLoRead (d : Dev) : Dev := d.wr R.JRN_WMARK_HI (BitVec.ofNat 32 (d.jrn.shownW / 2 ^ 32))

/-- CKPT_LO_READ. -/
def Dev.ckptLoRead (d : Dev) : Dev := d.wr R.JRN_CKPT_HI (BitVec.ofNat 32 (d.jrn.shownC / 2 ^ 32))

/-- The replay table of a session, with the accepted entries that have not drained yet (R299, R301). -/
def Dev.replayOf (d : Dev) (sess : Nat) : List (Nat × Nat) :=
  (((d.jrn.wbuf.foldl noteReplay d.jrn.replay)[sess]?).map Replay.ids).getD []

/-- The result of a command ID in a replay table, or of a WRITEPT that returned OK and so formed no entry
(R244; log entry 25). -/
def Dev.replayed (d : Dev) (sess id : Nat) : Option Nat :=
  if d.host.written.contains (sess, id) then some 0
  else ((d.replayOf sess).find? (fun x => x.1 = id)).map (·.2)

/-- Whether an ID lies below the lowest of its table (R300). -/
def Dev.replayStale (d : Dev) (sess id : Nat) : Bool :=
  let t := d.replayOf sess
  !t.isEmpty && t.all (fun x => id < x.1)

/-- The image's fields of the journal's registers (R311). -/
def Dev.jrnRegs (d : Dev) : Dev :=
  let r := d.image.jrnl
  let d := d.wrFs R.JRN_CFG [(F.JRN_CFG_AGELIM, r.agelim), (F.JRN_CFG_HOLDLIM, r.holdlim)]
  (d.wrF R.JRN_WARN F.JRN_WARN_WARNFREE r.warnfree).jrnLevels

/-! Start-up (R306, R307) -/

/-- Whether an entry's CHAIN follows from the entry before it. -/
def chainHolds (prev : List Byte) (e : LEntry) : Bool :=
  e.chain == (sha256 (prev ++ e.bytes.take 56)).take 8

/-- The entries of a list, oldest first, up to the first whose CHAIN fails. -/
def chainPrefix : List Byte → List LEntry → List LEntry
  | _, [] => []
  | prev, e :: es => if chainHolds prev e then e :: chainPrefix e.chain es else []

/-- The chain value before an entry. -/
def Journal.chainBefore (j : Journal) (s : Nat) : List Byte :=
  if s = 0 then List.replicate 8 0
  else ((j.entryAt (s - 1)).map LEntry.chain).getD (List.replicate 8 0)

/-- Whether a seal matches the journal tail (R295). -/
def Journal.sealMatches (j : Journal) : Bool :=
  match j.sealed with
  | some s => s.head == j.next && s.chain == j.chain
  | none => false

/-- Whether the last checkpoint's signature verifies (R306). -/
def Journal.checkpointGood (j : Journal) : Bool :=
  match j.entryAt (j.lastCkpt - 1), j.entryAt j.lastCkpt with
  | some r, some t =>
    if r.kind = 0x7E ∧ t.kind = 0x7F then
      let before := (j.ledger.reverse).filter (fun e => e.ordinary && e.seq < r.seq)
      let skip := (j.ckpts - 1) * 4096
      let seg := (before.drop skip).take 4096
      let last := ((seg.getLast?).map LEntry.chain).getD (List.replicate 8 0)
      Config.ecdsaVerify Config.certificate (checkpointMessage (r.bytes.take 24) last seg) (r.payload ++ t.payload)
    else true
  | _, _ => true

/-- The segments and checkpoints as the entries kept show them: every completed segment without a
checkpoint waits for its signature (R290, R306). -/
def Journal.resegment (j : Journal) : Journal :=
  let es := j.ledger.reverse
  let ord := es.filter LEntry.ordinary
  let cks := es.filter (fun e => e.kind = 0x7F)
  let seqAt := fun k => ((ord[k]?).map LEntry.seq).getD 0
  { j with segment := ord.length % 4096, segStart := seqAt (4096 * (ord.length / 4096))
           ckpts := cks.length, lastCkpt := ((cks.getLast?).map LEntry.seq).getD 0, signed := []
           unsigned := ((List.range (ord.length / 4096)).drop cks.length).map (fun k =>
             (seqAt (4096 * k), seqAt (4096 * k + 4095))) }

/-- The journal read at start-up (R306, R307): the chain verified from the last checkpoint, a torn tail
discarded without a seal, the tables rebuilt, export restarted at W. A journal without any entry needs no
seal (DEDUCED; log entry 15). -/
def Dev.jrnStart (d : Dev) : Dev :=
  let j := d.jrn
  let last := (j.ledger.head?).map (fun e => (e.seq + 1, e.chain))
  let j := { j with next := (last.map (·.1)).getD 0, chain := (last.map (·.2)).getD (List.replicate 8 0)
                    wbuf := [], wthru := false, exported := j.wmark, full := false, reserve := false
                    heldRun := 0, ing := List.replicate 8 [], flagsDue := [], heldDue := 0, lastN := 0 }
  let ok := j.sealMatches
  let d := d.setJrn (fun _ => j)
  let d := d.wrF R.JRN_FLUSH F.JRN_FLUSH_SEALOK (b2n ok)
  let from_ := j.lastCkpt
  let tail := (j.ledger.filter (fun e => decide (e.seq > from_) || from_ == 0)).reverse
  let good := chainPrefix (j.chainBefore (if from_ = 0 then 0 else from_ + 1)) tail
  let bad := tail.drop good.length
  let d := if bad.isEmpty then d else d.flag R.JRN_STAT 7
  let d := if ok ∨ j.next = 0 then (if bad.isEmpty then d else d.raise 158)
    else
      let first := ((bad.head?).map LEntry.seq).getD j.next
      let d := d.setJrn (fun j => { j with
        ledger := j.ledger.filter (fun e => e.seq < first), next := first, chain := j.chainBefore first })
      let d := if bad.isEmpty then d
        else (d.flagEv R.JRN_STAT 6 158).happen (sysEntry 0x000B (leBytes 8 first ++ leBytes 4 bad.length))
      (d.flagEv R.JRN_STAT 5 158).happen (sysEntry 0x000A (leBytes 8 (d.jrn.next - 1)))
  let d := d.setJrn Journal.resegment
  let d := if d.jrn.lastCkpt ≠ 0 ∧ !d.jrn.checkpointGood then
      (d.flagEv R.JRN_STAT 8 158).happen (secEntry 0x000F (leBytes 8 d.jrn.lastCkpt))
    else d
  let d := d.jrnLevels.jrnHeads
  (d.headLoRead.wmarkLoRead).ckptLoRead

end Sys2Proof.Machine
end

