-- ==== Sys2Proof/Machine/Watchtower.lean ====
section
/-!
DEFINITION. The watchtower (R384 to R402): the declaration of a dangerous fault, the reaction by role,
the safe state, halted turns, latent tests and the health report.
-/
namespace Sys2Proof.Machine

/-- The device with the watchtower's state changed. -/
def Dev.setWtc (d : Dev) (f : Tower → Tower) : Dev := { d with wtc := f d.wtc }

/-- Whether a dangerous fault is declared (R388). -/
def Dev.danger (d : Dev) : Bool := d.rdF R.WTC_STAT F.WTC_STAT_DANGER == 1

/-- Whether turns stopped (R394). -/
def Dev.halted (d : Dev) : Bool := d.rdF R.WTC_STAT F.WTC_STAT_HALT == 1

/-- Codes after which turns continue (R384, R394). -/
def turnsContinue (code : Nat) : Bool :=
  [0x02, 0x03, 0x0A, 0x0B, 0x0C, 0x0E, 0x0F, 0x22, 0x24, 0x25].contains code

/-- The codes of R384 and R386. -/
def dangerCode (code : Nat) : Bool := (1 ≤ code && code ≤ 0x10) || (0x20 ≤ code && code ≤ 0x25)

/-- CK_SYS cycles of one hour and of 10 ms. -/
def hourCycles : Nat := 3600 * 400000000
def tenMs : Nat := 4000000

/-- The latent tests completed within the last hour (R396). -/
def Dev.latDone (d : Dev) : Nat :=
  (List.range 12).foldl (fun m t =>
    match d.wtc.latDone.getD t none with
    | some c => if d.clk ≤ c + hourCycles then m + 2 ^ t else m
    | none => m) 0

/-- Byte 8 of the health report (R398). -/
def Dev.healthFlags (d : Dev) : Nat :=
  let w := d.rd R.WTC_STAT
  let f := fun (x : Field) => getF x w
  f F.WTC_STAT_DANGER + 2 * f F.WTC_STAT_SAFEACT + 4 * f F.WTC_STAT_HALT + 8 * f F.WTC_STAT_OVERDUE
    + 16 * f F.WTC_STAT_LATFAIL + 32 * f F.WTC_STAT_TEMPHI + 64 * f F.WTC_STAT_RSTLIMIT

/-- The charge channels whose last internal test gave another outcome than PASS (R157, R398). -/
def Dev.selfBadMask (d : Dev) : Nat :=
  (List.range 12).foldl (fun m n => if (d.qc n).selfBad then m + 2 ^ n else m) 0

/-- The health report (R398). -/
def Dev.healthReport (d : Dev) : List Byte :=
  padTo 64 ([0x05, byteOf d.role] ++ leBytes 6 d.turn.number
    ++ [byteOf d.healthFlags, byteOf (d.rdF R.WTC_FAULT F.WTC_FAULT_CODE),
        byteOf (d.rdF R.WTC_FAULT F.WTC_FAULT_DETAIL), 0]
    ++ leBytes 2 d.latDone ++ leBytes 2 (d.rdF R.WTC_LATOVD F.WTC_LATOVD_OVD)
    ++ leBytes 2 (d.rdF R.WTC_LATFAIL F.WTC_LATFAIL_FAIL)
    ++ leBytes 2 (d.rdF R.SYS_CLKSTAT F.SYS_CLKSTAT_FAULT)
    ++ leBytes 2 (d.rdF R.WTC_TEMP F.WTC_TEMP_NOW)
    ++ [byteOf (d.rdF R.PWR_FEEDFLG ⟨0, 1⟩ + 2 * d.rdF R.PWR_FEEDFLG ⟨8, 1⟩ + 4 * b2n d.pfw), 0]
    ++ leBytes 4 d.wtc.sram
    ++ leBytes 2 (d.rdF R.SYS_TURNSTAT F.SYS_TURNSTAT_OVRTOTAL)
    ++ leBytes 2 (d.rdF R.JRN_HOLDCNT F.JRN_HOLDCNT_TOTAL)
    ++ leBytes 2 d.selfBadMask)

/-- The report sent to the peer while the link is up (R391). -/
def Dev.sendHealth (d : Dev) : Dev := d.send63 d.healthReport

/-- The report of a turn, and its copy to Q54 every HLTPER turns and when byte 8 changes (R398): a refused
copy is not retried. -/
def Dev.healthTurn (d : Dev) : Dev :=
  let rep := d.healthReport
  let d := d.sendHealth
  let per := d.image.wtch.hltper
  let since := d.wtc.sinceCopy + 1
  let due := (per != 0 && since ≥ per) || d.healthFlags != d.wtc.lastByte8
  let flags := d.healthFlags
  let d := d.setWtc (fun w => { w with sinceCopy := if due then 0 else since, lastByte8 := flags })
  if d.holder ∧ due then
    if d.hasRoom 54 then (d.push 54 rep none).raise 216 else d.push 54 rep none
  else d

/-- The reset that follows the safe state, RSTDLY after the declaration (R395). -/
def Dev.react (d : Dev) : Dev :=
  if d.image.wtch.react ≠ 1 then d
  else
    let recent := d.wtc.resets.filter (fun t => d.clk < t + hourCycles)
    if recent.length ≥ d.image.wtch.rstlim then d.flagEv R.WTC_STAT 4 215
    else d.setWtc (fun w => { w with resetAt := some (w.declAt + tenMs * d.image.wtch.rstdly) })

/-- Turns stop: the turn in hand ends with nothing, the journal drains and writes the seal (R394). -/
def Dev.haltTurns (d : Dev) : Dev :=
  let d := (d.wrF R.WTC_STAT F.WTC_STAT_HALT 1).raise 210
  ({ d with turn := { d.turn with run := none } }).flush

/-- The safe state, applied together (R392, R393). -/
def Dev.safeState (d : Dev) (code : Nat) : Dev :=
  if d.safe then d
  else
    let d := d.wrF R.WTC_STAT F.WTC_STAT_SAFEACT 1
    let d := d.doSafe
    let d := (List.range 4).foldl (fun d n => if (d.orec n).oen then d.loEmit n (d.setIn n) else d) d
    let d := d.fForceAll d.fSafe
    let d := d.raise 209
    let d := if turnsContinue code then d else d.haltTurns
    d.react

/-- The declaration of a dangerous fault (R388, R389, R391): the first is recorded, later ones are counted, and each is
reported to the peer at once. -/
def Dev.declare (d : Dev) (code detail : Nat) : Dev :=
  if d.danger then (d.incF R.WTC_COUNT F.WTC_COUNT_LATER).sendHealth
  else
    let now := d.clk
    let d := d.setWtc (fun w => { w with declAt := now })
    let d := d.wrFs R.WTC_FAULT [(F.WTC_FAULT_CODE, code), (F.WTC_FAULT_DETAIL, detail),
      (F.WTC_FAULT_TURN, d.turn.number)]
    let d := ((d.wrF R.WTC_STAT F.WTC_STAT_DANGER 1).raise 208).sendHealth
    if d.role = 1 ∨ (d.role = 2 ∧ !d.peerUp) then d.safeState code else d

/-- DANGEROUS_FAULT (R384). -/
def Dev.dangerousFault (d : Dev) (code detail : BitVec 8) : Dev :=
  if dangerCode code.toNat then d.declare code.toNat detail.toNat else d

/-- Whether an instant lies within the last hour. -/
def Dev.inHour (d : Dev) (t : Option Nat) : Bool := t.any (fun c => decide (d.clk ≤ c + hourCycles))

/-- Whether an output has stood energised throughout the last hour. -/
def Dev.litHour (d : Dev) (m : Nat) : Bool :=
  (d.dio.onSince.getD m none).any (fun c => decide (d.clk ≥ c + hourCycles))

/-- Whether a latent test is complete (R121, R396): test 6 once every enabled converter has run a REFCHK within the last
hour, test 7 once every powered charge channel has completed a test sequence, test 8 once every output with PTEN that
was energised throughout it has passed a pulse test. -/
def Dev.latCovered (d : Dev) (t : Nat) : Bool :=
  if t = 6 then (List.range 4).all (fun m => (d.uconv m).mode == 0 || d.inHour (d.uin.refAt.getD m none))
  else if t = 7 then (List.range 12).all (fun n => !(d.qrec n).acq.pwren || d.inHour (d.qc n).testAt)
  else if t = 8 then (List.range 32).all (fun m =>
    !(d.doUsed m).pten || !d.litHour m || d.inHour (d.dio.ptPass.getD m none))
  else true

/-- Whether a latent test is scheduled in the present role (R396). -/
def Dev.latScheduled (d : Dev) (t : Nat) : Bool :=
  if t = 8 then d.holder else if t = 10 then !d.holder else true

/-- LATENT_TEST_DONE (R396, R397); a test that is not scheduled or not complete counts for nothing. -/
def Dev.latentDone (d : Dev) (t : Nat) (pass : Bool) : Dev :=
  if !d.latScheduled t || (pass && !d.latCovered t) then d
  else
  let d := d.setWtc (fun w => { w with latDone := upd w.latDone t (fun _ => some d.clk) })
  let d := d.wrF R.WTC_LATCOV F.WTC_LATCOV_DONE d.latDone
  if pass then d
  else
    let d := (d.wrF R.WTC_LATFAIL ⟨t, 1⟩ 1).flagEv R.WTC_STAT 0 211
    d.declare 0x25 t

/-- The instant from which a latent test's hour runs: the later of its last completion and the role change that
scheduled it, the start-up for a test of every role (R397). -/
def Dev.latSince (d : Dev) (t : Nat) : Nat :=
  max ((d.wtc.latDone.getD t none).getD 0) (if t = 8 ∨ t = 10 then d.wtc.heldAt else d.wtc.startAt)

/-- Whether a latent test is overdue (R397): test 8 only for an output energised throughout the last hour. -/
def Dev.latOverdue (d : Dev) (t : Nat) : Bool :=
  d.latScheduled t && decide (d.clk ≥ d.latSince t + hourCycles)
    && (t != 8 || (List.range 32).any (fun m => (d.doUsed m).pten && d.litHour m))

/-- LATENT_TEST_OVERDUE (R397): a test that is not overdue is left alone. -/
def Dev.latentOverdue (d : Dev) (t : Nat) : Dev :=
  if d.latOverdue t then
    let d := (d.wrF R.WTC_LATOVD ⟨t, 1⟩ 1).flagEv R.WTC_STAT 1 212
    d.declare 0x24 t
  else d

/-- ECCCOR. -/
def Dev.eccCor (d : Dev) (ledger : Bool) : Dev :=
  let d := if ledger then d else d.setWtc (fun w => { w with sram := satInc (2 ^ 32 - 1) w.sram })
  (d.incF R.WTC_ECC (if ledger then F.WTC_ECC_LEDGER else F.WTC_ECC_SRAM)).flagEv R.WTC_STAT 2 213

/-- TEMPHI: a reading; the onset of one at or above TEMPWARN sets the flag (R50). -/
def Dev.tempHi (d : Dev) (temp : BitVec 16) : Dev :=
  let t := temp.toInt
  let mx := signed 16 (d.rdF R.WTC_TEMP F.WTC_TEMP_MAX)
  let d := d.wrFs R.WTC_TEMP [(F.WTC_TEMP_NOW, temp.toNat), (F.WTC_TEMP_MAX, pattern 16 (max t mx))]
  let hot := decide (t ≥ d.image.wtch.tempwarn)
  let d' := d.setWtc (fun w => { w with hot := hot })
  if hot ∧ ¬ d.wtc.hot then d'.flagEv R.WTC_STAT 3 214 else d'

/-- The image's fields of the watchtower's registers (R401). -/
def Dev.wtcRegs (d : Dev) : Dev :=
  let r := d.image.wtch
  d.wrFs R.WTC_CFG [(F.WTC_CFG_REACT, r.react), (F.WTC_CFG_RSTLIM, r.rstlim),
    (F.WTC_CFG_SAFEMASK, r.safemask.toNat), (F.WTC_CFG_RSTDLY, r.rstdly)]

/-- A window of the clock monitor for one domain (R37): outside its limit in two consecutive measured
windows, the domain's flag sets and a dangerous fault is declared, once while it stands (R50). -/
def Dev.clockDomain (d : Dev) (measured out : BitVec 11) (k : Nat) : Dev :=
  if !bitOf measured.toNat k || k == 9 then d
  else if !bitOf out.toNat k then
    { d with turn := { d.turn with clkRuns := upd d.turn.clkRuns k (fun _ => 0) } }
  else
    let n := satInc 3 (d.turn.clkRuns.getD k 0)
    let d := { d with turn := { d.turn with clkRuns := upd d.turn.clkRuns k (fun _ => n) } }
    if n = 2 then
      (d.flagEv R.SYS_CLKSTAT k 4).declare (if k ≤ 2 then 0x01 else if k = 8 then 0x03 else 0x02) k
    else d

/-- CLOCK_WINDOW (R37). -/
def Dev.clockWindow (d : Dev) (measured out : BitVec 11) : Dev :=
  (List.range 11).foldl (fun d k => d.clockDomain measured out k) d

end Sys2Proof.Machine
end

