-- ==== Sys2Proof/Machine/Can.lean ====
section
/-!
DEFINITION. The message bus (R313 to R345): reception, the receive map, duplicate discard, transmit
buffers, cancels and digests, sequenced frames with marks and backlog, the standby's comparison. Error
counters follow ISO 11898-1, which R313 names (PRESUMED; log entry 19).
-/
namespace Sys2Proof.Machine

/-- An absent channel's record. -/
def CanChan.empty : CanChan := ⟨false, false, 0, false, 0, 0, 0, 0, 0, 0, 0, 0, []⟩

/-- The state and the record of a channel. -/
def Dev.canCh (d : Dev) (n : Nat) : CanCh := d.can.chans.getD n CanCh.empty
def Dev.canRec (d : Dev) (n : Nat) : CanChan := d.image.canm.chans.getD n CanChan.empty

/-- The device with the bus, or one channel, changed. -/
def Dev.setCan (d : Dev) (f : Can → Can) : Dev := { d with can := f d.can }
def Dev.setCanCh (d : Dev) (n : Nat) (f : CanCh → CanCh) : Dev :=
  d.setCan (fun c => { c with chans := upd c.chans n f })

/-- MODE of a channel (R314): 0 INIT, 1 NORMAL, 2 LISTEN, 3 SLEEP, 4 OFF. -/
def Dev.canMode (d : Dev) (n : Nat) : Nat := d.rdF (R.CAN_MODE n) F.CAN_MODE_MODE

/-- The timestamp counter (R318): CK_SYS / 40, from the digital reset. -/
def Dev.canTsc (d : Dev) : Nat := ((d.clk - d.can.since) / 40) % 2 ^ 32

/-- A command takes its place for the next sample latch (R35). -/
def Dev.arrive (d : Dev) (c : OpCmd) : Dev :=
  { d with turn := { d.turn with arrived := d.turn.arrived ++ [c] } }

/-! Keys and tags (R327, R419) -/

/-- Ks of a sender under a fleet secret and its epoch. -/
def busKey (fs : List Byte) (epoch sender : Nat) : List Byte :=
  (hkdf (List.replicate 32 0) fs ([0x76, 0x7A, 0x63, 0x61, 0x6E] ++ [byteOf sender] ++ leBytes 2 epoch)).take 16

/-- The tag of a frame (R327). -/
def busTag (key : List Byte) (idw len : Nat) (body : List Byte) : List Byte :=
  (Config.cmac key (leBytes 4 (putBit idw 30 false) ++ [byteOf len] ++ body)).take 8

/-- The ID word of a frame (R319). -/
def Frame.idw (f : Frame) : Nat := putBit (putBit f.id.toNat 31 f.fd) 30 f.rtr

/-- Whether a frame's tag is right under FS, or under OLDFS while OLDTURNS last (R419). -/
def Dev.tagOk (d : Dev) (sender : Nat) (f : Frame) : Bool :=
  let k := d.image.keys
  let body := f.data.take (f.data.length - 8)
  let tag := f.data.drop (f.data.length - 8)
  f.data.length ≥ 12 &&
    (busTag (busKey k.fs k.epoch sender) f.idw f.data.length body == tag ||
      (d.vault.oldTurns != 0 && k.oldepoch != 0 &&
        busTag (busKey k.oldfs k.oldepoch sender) f.idw f.data.length body == tag))

/-! The receive map (R331 to R335) -/

/-- Whether an entry matches a frame's channel and identifier (R333); a remote frame matches none. -/
def RxRec.idMatch (r : RxRec) (ch : Nat) (f : Frame) : Bool :=
  !f.rtr && bitOf r.chmask.toNat ch
    && ((BitVec.ofNat 32 f.idw) &&& r.idmask) == (r.id &&& r.idmask)

/-- The header's stream and sequence, and its flags (R326). -/
def Frame.stream (f : Frame) : Nat := byteAt f.data 0
def Frame.seqNo (f : Frame) : Nat := uAt f.data 1 2
def Frame.hflags (f : Frame) : Nat := byteAt f.data 3

/-- What an entry that matches the identifier makes of a frame: 0 no match, 1 match, 2 a header or tag is
missing, 3 the tag fails (R333). -/
def Dev.rxJudge (d : Dev) (r : RxRec) (f : Frame) : Nat :=
  if !r.seq then 1
  else if f.data.length < 4 then 2
  else if f.stream ≠ r.stream then 0
  else if !r.mac then 1
  else if !bitOf f.hflags 5 || f.data.length < 12 then 2
  else if d.tagOk r.sender f then 1 else 3

/-- The duplicate window (R331): 0 ACCEPT, 1 DUP, 2 OLD; the new state; whether a gap opened. -/
def dupStep (st : Option DupState) (sender stream s : Nat) (resync : Bool) : Nat × DupState × Bool :=
  match st with
  | none => (0, ⟨sender, stream, s, 1⟩, false)
  | some x =>
    if resync then (0, ⟨sender, stream, s, 1⟩, false)
    else
      let dd := (s + 65536 - x.hs) % 65536
      let b := (x.hs + 65536 - s) % 65536
      if dd = 0 then (1, x, false)
      else if dd < 32768 then
        let win := if dd ≥ 64 then 0 else x.win * 2 ^ dd % 2 ^ 64
        (0, { x with hs := s, win := putBit win 0 true }, decide (dd > 1))
      else if b < 64 ∧ !bitOf x.win b then (0, { x with win := putBit x.win b true }, false)
      else if b < 64 then (1, x, false) else (2, x, false)

/-- The state of a sender and stream. -/
def Can.dup (c : Can) (sender stream : Nat) : Option DupState :=
  c.dups.find? (fun x => x.sender = sender && x.stream = stream)

/-- The bus with a state of a sender and stream put in. -/
def Can.setDup (c : Can) (x : DupState) : Can :=
  { c with dups := x :: c.dups.filter (fun y => y.sender ≠ x.sender || y.stream ≠ x.stream) }

/-- The payload that an entry reads (R326, R334): after the header and before the tag when SEQ is set. -/
def RxRec.payload (r : RxRec) (f : Frame) : List Byte :=
  if r.seq then (f.data.drop 4).take (f.data.length - 4 - (if bitOf f.hflags 5 then 8 else 0)) else f.data

/-- The value of a REMOTE entry (R334). -/
def RxRec.value (r : RxRec) (bs : List Byte) : Int :=
  let x := slice bs r.offset r.width
  let u := if r.be then ofBe x else ofLe x
  if r.sgn || r.width == 4 then signed (8 * r.width) u else (u : Int)

/-- The argument bytes that a command's OPC needs (R335). -/
def busArgs (opc : Nat) : Nat :=
  match opc with
  | 0x01 => 3
  | 0x02 => 2
  | 0x05 => 2
  | 0x06 => 2
  | 0x03 => 4
  | 0x04 => 4
  | 0x11 => 1
  | 0x12 => 1
  | 0x13 => 1
  | 0x14 => 2
  | 0x15 => 1
  | _ => 0

/-- A remote point's state, absent before its first update. -/
def Dev.remote (d : Dev) (p : Nat) : RemotePt :=
  (d.can.remote.find? (fun x => x.point = p)).getD ⟨p, 0, qN, 0, 0, false, false, 0, false⟩

/-- The device with a remote point replaced. -/
def Dev.setRemote (d : Dev) (x : RemotePt) : Dev :=
  d.setCan (fun c => { c with remote := x :: c.remote.filter (fun y => y.point ≠ x.point) })

/-- An update of a remote point (R334): within one turn the latest stamp wins, on equal stamps the lower
channel. -/
def Dev.remoteUpdate (d : Dev) (p : Nat) (v : Int) (stamp ch : Nat) : Dev :=
  let x := d.remote p
  let newer := (stamp + 2 ^ 32 - x.stamp) % 2 ^ 32
  let take := !x.fresh || (newer != 0 && newer < 2 ^ 31) || (newer == 0 && ch < x.ch)
  if take then d.setRemote { x with value := v, stamp := stamp, ch := ch, fresh := true } else d

/-- One matching entry acts (R334, R335). -/
def Dev.rxAct (d : Dev) (ch stamp : Nat) (f : Frame) (r : RxRec) : Dev :=
  let bs := r.payload f
  if !r.command then
    if bs.length < r.offset + r.width then d.flag (R.CAN_STAT ch) 5
    else d.remoteUpdate r.point (r.value bs) stamp ch
  else
    let body := bs.drop r.offset
    let opc := byteAt body 0
    if body.length < 1 + busArgs opc then d.flag (R.CAN_STAT ch) 5
    else
      let src := if r.seq then CmdSrc.can ch r.sender r.stream f.seqNo else CmdSrc.can ch 0 0 0
      d.arrive ⟨src, opc, (body.drop 1).take (busArgs opc)⟩

/-- The entries of the receive map that a frame meets on a channel. -/
def Dev.rxEntries (d : Dev) (ch : Nat) (f : Frame) : List RxRec :=
  d.image.canm.rx.filter (fun r => r.idMatch ch f)

/-- What the receive map makes of a frame: the device, and the ring flags SEQD, DUP, OLD and AUTHFAIL in
bits 2 to 5. Only the holder's points and commands are taken (R335, R246). -/
def Dev.rxMap (d : Dev) (ch stamp : Nat) (f : Frame) (remotes : Bool) : Dev × Nat :=
  let es := (d.rxEntries ch f).map (fun r => (r, d.rxJudge r f))
  if es.any (fun x => x.2 ≥ 2) then
    let bad := es.any (fun x => x.2 = 3)
    let d := d.flagEv (R.CAN_STAT ch) 7 (164 + 8 * ch)
    (if bad then d.incF (R.CAN_CNT ch) F.CAN_CNT_AUTHFAILS else d, if bad then 36 else 0)
  else
    let hit := (es.filter (fun x => x.2 = 1)).map (·.1)
    match hit.find? (fun r => r.seq) with
    | none =>
      (if d.holder then (hit.filter (fun r => remotes || r.command)).foldl (fun d r => d.rxAct ch stamp f r) d
       else d, 0)
    | some r =>
      let j := dupStep (d.can.dup r.sender r.stream) r.sender r.stream f.seqNo (bitOf f.hflags 3)
      let d := d.setCan (fun c => c.setDup j.2.1)
      let d := if j.2.2 then (d.incF (R.CAN_CNT ch) F.CAN_CNT_GAPS).flag (R.CAN_STAT ch) 6 else d
      if j.1 = 0 then
        (if d.holder then (hit.filter (fun r => remotes || r.command)).foldl (fun d r => d.rxAct ch stamp f r) d
         else d, 4)
      else
        let fld := if j.1 = 1 then F.CAN_DUPCNT_DUP else F.CAN_DUPCNT_OLD
        (d.wrF (R.CAN_DUPCNT ch) fld (d.rdF (R.CAN_DUPCNT ch) fld + 1), if j.1 = 1 then 12 else 20)

/-- The ring element of a received frame (R319). -/
def ringElement (stamp : Word) (esi : Bool) (f : Frame) (flags count turn : Nat) : List Byte :=
  leBytes 4 stamp.toNat ++ leBytes 4 f.idw
    ++ [byteOf f.data.length, byteOf (b2n f.brs + 2 * b2n esi + flags)]
    ++ leBytes 2 count ++ leBytes 4 turn ++ padTo 64 f.data

/-- A received frame placed in its ring (R318, R321). -/
def Dev.ringPlace (d : Dev) (ch : Nat) (bytes : List Byte) : Dev :=
  let d := d.setCanCh ch (fun c => { c with ring := (c.ring + 1) % 65536 })
  if d.hasRoom ch then
    let was := (d.queue ch).isEmpty
    (d.push ch bytes none).raiseIf was (160 + 8 * ch)
  else ((d.push ch bytes none).incF (R.CAN_CNT ch) F.CAN_CNT_RXDROPS).flagEv (R.CAN_STAT ch) 4 (163 + 8 * ch)

/-! Frames and their elements (R322, R326, R329, R336) -/

/-- The payload length that a FRAME entry's fields give (R326). -/
def framePayLen (len : Nat) (mac : Bool) : Nat := len - (if mac then 12 else 4)

/-- The element of a FRAME entry's frame, with RESEND and RESYNC as asked, the tag recomputed (R327, R329). -/
def Dev.frameElem (d : Dev) (p : List Byte) (resend resync : Bool) : List Byte :=
  let len := byteAt p 5
  let fl0 := byteAt p 3
  let mac := bitOf fl0 5
  let fl1 := if resend then putBit fl0 4 true else fl0
  let fl := if resync then putBit fl1 3 true else fl1
  let idw := uAt p 8 4
  let body := [byteOf (byteAt p 0)] ++ leBytes 2 (uAt p 1 2) ++ [byteOf fl]
    ++ (p.drop 12).take (framePayLen len mac)
  let k := d.image.keys
  let data := if mac then body ++ busTag (busKey k.fs k.epoch d.image.canm.sender) idw len body else body
  frameElement idw len (byteAt p 6 / 2 % 2) data

/-- The frame of a transmit element: ID word, length and data (R361). -/
def elemIdw (b : List Byte) : Nat := uAt b 4 4
def elemLen (b : List Byte) : Nat := byteAt b 8
def elemData (b : List Byte) : List Byte := slice b 16 (elemLen b)

/-- The class of a FRAME payload. -/
def frameClass (p : List Byte) : Nat := byteAt p 3 / 64

/-- The backlog count shown (R336). -/
def Dev.showBacklog (d : Dev) (n : Nat) : Dev :=
  d.wrF (R.CAN_BACKLOG n) F.CAN_BACKLOG_FRAMES (d.canCh n).backlog.length

/-- A sequenced frame placed in a queue, or held as backlog (R336); a standby only awaits it (R340). -/
def Dev.placeFrame (d : Dev) (n : Nat) (e : LEntry) (resend resync : Bool) : Dev :=
  let p := e.payload
  let q := classQueue (frameClass p) n
  let el := { d.elem (d.frameElem p resend resync) none with seq := some e.seq }
  if !(d.canRec n).en then d
  else if !d.holder then d.setCanCh n (fun c => { c with awaited := c.awaited ++ [(q, el)] })
  else if (d.canCh n).backlog.any (fun b => b.queue = q) then
    (d.setCanCh n (fun c => { c with backlog := c.backlog ++ [⟨q, e.seq, resend, resync⟩] })).showBacklog n
  else if d.hasFree q then d.setQueue q (d.queue q ++ [el])
  else
    ((d.refuse q).setCanCh n (fun c => { c with backlog := c.backlog ++ [⟨q, e.seq, resend, resync⟩] })).showBacklog n

/-- The FRAME entry placed on every channel of its mask (R328). -/
def Dev.placeEntry (d : Dev) (e : LEntry) : Dev :=
  if e.kind = 0x20 then
    (List.range 4).foldl (fun d n => if bitOf (byteAt e.payload 4) n then d.placeFrame n e false false else d) d
  else d

/-- A class D or host frame placed at the emit, a host frame in the element reserved for it (R287); a standby awaits
it (R325, R336, R340). -/
def Dev.placeOther (d : Dev) (x : Place) : Dev :=
  let n := (x.queue - 4) / 3
  if !(d.canRec n).en then d
  else if d.holder then (if x.ref.isSome then d.push x.queue x.bytes x.ref else d.pushFree x.queue x.bytes none)
  else d.setCanCh n (fun c => { c with awaited := c.awaited ++ [(x.queue, d.elem (padTo 80 x.bytes) x.ref)] })

/-- The heartbeat's element (R339). -/
def heartbeatElem (hbid turn : Nat) : List Byte :=
  frameElement hbid 8 0 ([0xFF] ++ leBytes 2 turn ++ [0] ++ leBytes 4 (turn / 65536))

/-- The heartbeats of a completed turn (R339). -/
def Dev.heartbeats (d : Dev) : Dev :=
  (maskChannels d.image.canm.hbmask).foldl (fun d n =>
    d.placeOther ⟨classQueue 0 n, heartbeatElem (d.canRec n).hbid.toNat d.turn.number, none⟩) d

/-- BACKLOG_PLACE: the oldest backlog frame whose queue has room (R336). -/
def Dev.backlogPlace (d : Dev) (n : Nat) : Dev :=
  match (d.canCh n).backlog.find? (fun b => d.hasFree b.queue) with
  | none => d
  | some b =>
    let d := (d.setCanCh n (fun c => { c with backlog := c.backlog.erase b })).showBacklog n
    match d.jrn.entryAt b.seq with
    | some e =>
      let el := { d.elem (d.frameElem e.payload b.resend b.resync) none with seq := some b.seq }
      d.setQueue b.queue (d.queue b.queue ++ [el])
    | none => d

/-! Transmit buffers (R322 to R325) -/

/-- The digest of a host frame (R325). -/
def Dev.txDigest (d : Dev) (ch id res buf attempts stamp idw : Nat) : Dev :=
  (d.push 52 (leBytes 4 id ++ [byteOf ch, byteOf res, byteOf buf, byteOf (min 255 attempts)]
    ++ leBytes 4 stamp ++ leBytes 4 idw ++ leBytes 4 d.turn.number) none).raise (161 + 8 * ch)

/-- The stream of an element: only sequenced frames have one (R322). -/
def QElem.stream (e : QElem) : Option Nat := e.seq.map (fun _ => byteAt (elemData e.bytes) 0)

/-- The transmit buffers of a channel. -/
def CanCh.buf (c : CanCh) (k : Nat) : Option TxBuf := c.bufs.getD k none

/-- The register of a transmit buffer written from its state. -/
def Dev.showBuf (d : Dev) (n k : Nat) : Dev :=
  match (d.canCh n).buf k with
  | none => d.wrFs (R.CAN_TXB n k) [(F.CAN_TXB_STATE, 0), (F.CAN_TXB_SRCQ, 3), (F.CAN_TXB_CXREQ, 0),
      (F.CAN_TXB_ATTEMPTS, 0), (F.CAN_TXB_STREAM, 0xFF)]
  | some b => d.wrFs (R.CAN_TXB n k) [(F.CAN_TXB_STATE, b.state), (F.CAN_TXB_SRCQ, b.src),
      (F.CAN_TXB_CXREQ, b2n b.cancel), (F.CAN_TXB_ATTEMPTS, min 255 b.attempts),
      (F.CAN_TXB_STREAM, (b.elem.stream).getD 0xFF)]

/-- The loaded buffer that goes first (R322): by arbitration, the lower number on equal identifiers, or by number
under TXORD 1. -/
def CanCh.first (c : CanCh) (byNumber : Bool) : Option Nat :=
  (List.range 3).foldl (fun a k =>
    match c.buf k, a with
    | none, a => a
    | some _, none => some k
    | some b, some j =>
      let key := fun (b : TxBuf) => arbKey (elemIdw b.elem.bytes)
      if !byNumber && (c.buf j).any (fun x => decide (key b < key x)) then some k else some j) none

/-- A transmit buffer set. -/
def Dev.setBuf (d : Dev) (n k : Nat) (b : Option TxBuf) : Dev :=
  let byNumber := (d.canRec n).txord == 1
  (d.setCanCh n (fun c =>
    let c := { c with bufs := upd c.bufs k (fun _ => b) }
    let keep := c.firsts.filter (fun j => (c.buf j).isSome)
    { c with firsts := match c.first byNumber with
        | some j => if keep.contains j then keep else j :: keep
        | none => keep })).showBuf n k

/-- The end of a buffer's attempt: the next attempt is that of the buffer that goes first now. -/
def Dev.endAttempt (d : Dev) (n k : Nat) (b : Option TxBuf) : Dev :=
  let byNumber := (d.canRec n).txord == 1
  (d.setBuf n k b).setCanCh n (fun c => { c with firsts := (c.first byNumber).toList })

/-- Whether a channel drives the bus: in NORMAL, integrated, not in bus-off (R313, R315, R323). -/
def Dev.canDrives (d : Dev) (n : Nat) : Bool :=
  d.canMode n == 1 && (d.canCh n).integrated && d.rdF (R.CAN_ERR n) F.CAN_ERR_ESTATE != 2

/-- The buffer whose attempt can end now: a frame of another buffer cannot be on the bus (R322). -/
def Dev.sending (d : Dev) (n k : Nat) : Option TxBuf :=
  if d.canDrives n && (d.canCh n).firsts.contains k then (d.canCh n).buf k else none

/-- Whether the head of a queue may load: its stream occupies no buffer of the channel (R322). -/
def Dev.headFree (d : Dev) (n q : Nat) : Bool :=
  match d.queue q with
  | [] => false
  | e :: _ =>
    match e.stream with
    | none => true
    | some s => !(d.canCh n).bufs.any (fun b => b.any (fun b => b.elem.stream == some s))

/-- The age of an element in turns (R65). -/
def Dev.ageTurns (d : Dev) (e : QElem) : Nat := d.turn.number - e.turn

/-- The queue that loads next (R66, R67): Q(4 + 3n), promoted heads oldest first, Q(5 + 3n), Q(6 + 3n). -/
def Dev.nextTx (d : Dev) (n : Nat) : Option Nat :=
  let a := 4 + 3 * n
  let pro := [a + 1, a + 2].filter (fun q => d.queues.promo.contains q)
  let turnOf := fun q => (((d.queue q).head?).map QElem.turn).getD 0
  let pro := match pro with
    | [x, y] => if turnOf y < turnOf x then [y, x] else [x, y]
    | l => l
  ([a] ++ pro ++ [a + 1, a + 2]).find? (fun q => d.headFree n q)

/-- TX_BUFFER_LOAD (R322): a channel in NORMAL whose buffer is empty. -/
def Dev.txLoad (d : Dev) (n k : Nat) : Dev :=
  if d.canMode n ≠ 1 ∨ ((d.canCh n).buf k).isSome then d
  else match d.nextTx n with
    | none => d
    | some q =>
      match d.queue q with
      | [] => d
      | e :: _ => (d.pop q).setBuf n k (some ⟨q - (4 + 3 * n), e, 1, 0, false, false, 0⟩)

/-- ESTATE and WARN from the counters (ISO 11898-1); `off` enters bus-off (R323). -/
def Dev.canState (d : Dev) (n tec rec : Nat) (off : Bool) : Dev :=
  let old := d.rdF (R.CAN_ERR n) F.CAN_ERR_ESTATE
  let st := if off then 2 else if old = 2 then 2 else if tec ≥ 128 ∨ rec ≥ 128 then 1 else 0
  let d := d.wrFs (R.CAN_ERR n) [(F.CAN_ERR_TEC, min tec 255), (F.CAN_ERR_REC, min rec 255),
    (F.CAN_ERR_ESTATE, st), (F.CAN_ERR_WARN, if tec ≥ 96 ∨ rec ≥ 96 then 1 else 0)]
  let d := if st = 1 ∧ old = 0 then d.flag (R.CAN_STAT n) 2 else d
  let d := if st = 2 ∧ old ≠ 2 then (d.incF (R.CAN_CNT n) F.CAN_CNT_BOFFS).flag (R.CAN_STAT n) 3 else d
  d.raiseIf (st != old) (162 + 8 * n)

/-- TEC and REC of a channel. -/
def Dev.canTec (d : Dev) (n : Nat) : Nat := d.rdF (R.CAN_ERR n) F.CAN_ERR_TEC
def Dev.canRecv (d : Dev) (n : Nat) : Nat := d.rdF (R.CAN_ERR n) F.CAN_ERR_REC

/-- A sequenced frame completed on a channel: its mark may pass (R336). -/
def Dev.markDone (d : Dev) (n seq : Nat) : Dev := d.setCanCh n (fun c => { c with owed := c.owed.erase seq })

/-- The mark's low word shown (R336). -/
def Dev.showMark (d : Dev) (n : Nat) : Dev := d.wr (R.CAN_MARK_LO n) (BitVec.ofNat 32 (d.canMark n))

/-- TX_COMPLETE (R324, R325, R336). -/
def Dev.txComplete (d : Dev) (n k : Nat) (stamp : Word) : Dev :=
  match d.sending n k with
    | none => d
    | some b =>
      let id := uAt b.elem.bytes 0 4
      let late := b.tooLate || b.cancel
      let d := d.canState n (d.canTec n - 1) (d.canRecv n) false
      let d := if b.cancel && !b.tooLate then d.flag (R.CAN_STAT n) 0 else d
      let d := match b.elem.seq with
        | some s => (d.markDone n s).showMark n
        | none => d
      let d := if b.elem.ref.isSome then
          d.txDigest n id (if late then 2 else 0) k (b.attempts + 1) stamp.toNat (elemIdw b.elem.bytes)
        else d
      d.endAttempt n k none

/-- TX_ERROR (R323, R324): lost arbitration or an error; a cancelled frame is not retried, and its digest carries the
timestamp of the cancel (R325). TEC rises by 8, but not at the acknowledgement error of an error-passive channel that
sees no dominant bit in its error flag (ISO 11898-1). -/
def Dev.txError (d : Dev) (n k : Nat) (lec : BitVec 3) (arb quiet : Bool) : Dev :=
  match d.sending n k with
    | none => d
    | some b =>
      let id := uAt b.elem.bytes 0 4
      let b := { b with attempts := satInc 255 b.attempts, state := 1 }
      let passiveAck := lec.toNat == 3 && quiet && d.rdF (R.CAN_ERR n) F.CAN_ERR_ESTATE == 1
      let tec := d.canTec n + (if arb || passiveAck then 0 else 8)
      let d := if arb then d
        else (d.wrF (R.CAN_ERR n) F.CAN_ERR_LEC lec.toNat).canState n tec (d.canRecv n) (decide (tec > 255))
      if b.tooLate || (b.cancel && !arb) then
        let d := if b.tooLate then d else d.flag (R.CAN_STAT n) 0
        (d.txDigest n id 3 k b.attempts b.stamp (elemIdw b.elem.bytes)).endAttempt n k none
      else if b.cancel then
        (d.txDigest n id 1 k b.attempts b.stamp (elemIdw b.elem.bytes)).endAttempt n k none
      else d.endAttempt n k (some b)

/-- BUSOFF_RECOVERY (R323). -/
def Dev.busoffRecovery (d : Dev) (n : Nat) : Dev :=
  if d.rdF (R.CAN_ERR n) F.CAN_ERR_ESTATE = 2 then
    (d.wrFs (R.CAN_ERR n) [(F.CAN_ERR_TEC, 0), (F.CAN_ERR_REC, 0), (F.CAN_ERR_ESTATE, 0),
      (F.CAN_ERR_WARN, 0)]).raise (162 + 8 * n)
  else d

/-- CAN_RX_ERROR (ISO 11898-1): the receive error counter rises by 8 for a primary error, else by 1; a
channel in LISTEN counts nothing. -/
def Dev.canRxError (d : Dev) (n : Nat) (lec : BitVec 3) (primary : Bool) : Dev :=
  if d.canMode n = 1 then
    (d.wrF (R.CAN_ERR n) F.CAN_ERR_LEC lec.toNat).canState n (d.canTec n)
      (d.canRecv n + (if primary then 8 else 1)) false
  else if d.canMode n = 2 then d.wrF (R.CAN_ERR n) F.CAN_ERR_LEC lec.toNat
  else d

/-- REC after a valid reception (ISO 11898-1): from above 127 it takes a value from 119 to 127, which is
left open. -/
def Dev.recvGood (d : Dev) (n : Nat) : Dev :=
  let r := d.canRecv n
  if d.canMode n ≠ 1 then d
  else if r > 127 then
    let v := d.freeVal 8
    v.2.canState n (d.canTec n) (119 + v.1 % 9) false
  else d.canState n (d.canTec n) (r - 1) false

/-- TXCANCEL (R324, R325). -/
def Dev.txCancel (d : Dev) (n id phase : Nat) : Dev :=
  let q := 6 + 3 * n
  let host := fun (e : QElem) => e.ref.isSome && uAt e.bytes 0 4 == id
  match (d.queue q).find? host with
  | some e =>
    let d := if (d.queue q).head? = some e then d.pop q else d.setQueue q ((d.queue q).erase e)
    d.txDigest n id 1 0xFF 0 d.canTsc (elemIdw e.bytes)
  | none =>
    match (List.range 3).find? (fun k => ((d.canCh n).buf k).any (fun b => host b.elem)) with
    | none => d.txDigest n id 4 0xFF 0 d.canTsc 0
    | some k =>
      match (d.canCh n).buf k with
      | none => d
      | some b =>
        if phase ≤ 1 then
          (d.txDigest n id 1 k b.attempts d.canTsc (elemIdw b.elem.bytes)).setBuf n k none
        else if phase = 2 then d.setBuf n k (some { b with cancel := true, state := 2, stamp := d.canTsc })
        else (d.flag (R.CAN_STAT n) 0).setBuf n k (some { b with cancel := true, tooLate := true, state := 3, stamp := d.canTsc })

/-! The receive window (R320) -/

/-- RXWIN_LOCK: a read of word 0. -/
def Dev.rxLock (d : Dev) (n : Nat) : Dev :=
  if (d.queue n).isEmpty then d else d.wrF (R.CAN_RXSTAT n) F.CAN_RXSTAT_LOCK 1

/-- RXUNLOCK. -/
def Dev.rxUnlock (d : Dev) (n : Nat) : Dev := d.wrF (R.CAN_RXSTAT n) F.CAN_RXSTAT_LOCK 0

/-- RXWIN_RELEASE: a read of word 19 releases the lock and removes the element. -/
def Dev.rxRelease (d : Dev) (n : Nat) : Dev :=
  if d.rdF (R.CAN_RXSTAT n) F.CAN_RXSTAT_LOCK = 1 then (d.rxUnlock n).pop n else d

/-- Word k of the window: 0 without the lock. -/
def Dev.rxWord (d : Dev) (n k : Nat) : Word :=
  if d.rdF (R.CAN_RXSTAT n) F.CAN_RXSTAT_LOCK = 1 then
    match d.queue n with
    | e :: _ => BitVec.ofNat 32 (uAt e.bytes (4 * k) 4)
    | [] => 0
  else 0

/-- MARK_LO_READ: the high word is latched. -/
def Dev.markLoRead (d : Dev) (n : Nat) : Dev :=
  (d.showMark n).wr (R.CAN_MARK_HI n) (BitVec.ofNat 32 (d.canMark n / 2 ^ 32))

/-! The standby's comparison (R340) -/

/-- Whether an element equals a received frame in identifier, length and data. -/
def sameFrame (b : List Byte) (f : Frame) : Bool :=
  elemIdw b == f.idw && elemLen b == f.data.length && elemData b == f.data

/-- The candidates of a channel: the first three unmatched frames of each of its queues. -/
def CanCh.candidates (c : CanCh) (n : Nat) : List (Nat × QElem) :=
  [0, 1, 2].flatMap (fun i => (c.awaited.filter (fun x => x.1 = 4 + 3 * n + i)).take 3)

/-- Whether a candidate is the next unmatched frame of its stream. -/
def CanCh.nextOfStream (c : CanCh) (x : Nat × QElem) : Bool :=
  match x.2.stream with
  | none => true
  | some s => (c.awaited.find? (fun y => y.2.stream == some s)) == some x

/-- Whether a frame on a channel carries an identifier that only the device's own entries use (R32). -/
def Dev.ownFrame (d : Dev) (n : Nat) (f : Frame) : Bool :=
  d.image.canm.tx.any (fun r => bitOf r.chmask.toNat n && txIdWord r == f.idw)
    || (bitOf d.image.canm.hbmask.toNat n && (d.canRec n).hbid.toNat == f.idw)

/-- Whether a frame on a channel carries the identifier of a sequenced transmit entry. -/
def Dev.seqFrame (d : Dev) (n : Nat) (f : Frame) : Bool :=
  d.image.canm.tx.any (fun r => decide (r.cls < 3) && bitOf r.chmask.toNat n && txIdWord r == f.idw)

/-- COMPARE (R340): the difference is declared at the next commit, cause FRAME (R365). -/
def Dev.frameDiffers (d : Dev) (n : Nat) : Dev :=
  (d.flagEv (R.CAN_STAT n) 8 (166 + 8 * n)).setPair (fun p => { p with found := if p.found = 0 then 3 else p.found })

/-- The FRAME entry of a stream and sequence on a channel that is still owed. -/
def Dev.owedEntry (d : Dev) (n stream seq : Nat) : Option LEntry :=
  ((d.jrn.ledger.reverse ++ d.jrn.wbuf).filter (fun e => e.kind = 0x20 && bitOf (byteAt e.payload 4) n
    && byteAt e.payload 0 == stream && uAt e.payload 1 2 == seq)).getLast?

/-- A frame of the active at the standby (R338, R340). -/
def Dev.frameCompare (d : Dev) (n : Nat) (f : Frame) : Dev :=
  let c := d.canCh n
  if d.seqFrame n f && f.data.length ≥ 4 && bitOf f.hflags 4 then
    match d.owedEntry n f.stream f.seqNo with
    | some e =>
      let same := sameFrame (padTo 80 (d.frameElem e.payload true (bitOf f.hflags 3))) f
      let d := d.markDone n e.seq
      if same then d else d.frameDiffers n
    | none => d.frameDiffers n
  else match (c.candidates n).find? (fun x => sameFrame x.2.bytes f && c.nextOfStream x) with
    | some x =>
      let d := d.setCanCh n (fun c => { c with awaited := c.awaited.erase x })
      match x.2.seq with
      | some s => d.markDone n s
      | none => d
    | none => if d.ownFrame n f then d.frameDiffers n else d

/-- A heartbeat of the active received: a standby without its link then goes to REJOINING (R375). -/
def Dev.heartbeatSeen (d : Dev) (n : Nat) (f : Frame) : Dev :=
  if bitOf d.image.canm.hbmask.toNat n && (d.canRec n).hbid.toNat == f.idw && f.data.length == 8
      && f.stream == 0xFF then
    let d := d.wrF R.PAR_HBAGE F.PAR_HBAGE_TURNS 0
    if d.linkUp ∨ !d.standby then d else (d.wrF R.PAR_STAT F.PAR_STAT_HBLOST 0).toRejoin
  else d

/-- CAN_FRAME_RECEIVED (R313, R318, R331 to R335, R338, R340). -/
def Dev.canFrame (d : Dev) (n : Nat) (stamp : Word) (esi : Bool) (f : Frame) : Dev :=
  if (d.canMode n ≠ 1 ∧ d.canMode n ≠ 2) ∨ !(d.canCh n).integrated then d
  else if f.fd ∧ !(d.canRec n).fden then
    (d.setCanCh n (fun c => { c with integrated := false })).flag (R.CAN_STAT n) 1
  else
    let d := d.recvGood n
    let m := d.rxMap n stamp.toNat f true
    let now := d.turn.number
    let d := m.1.setCan (fun c =>
      { c with recent := List.cons (now, n, f) (c.recent.filter (fun x => decide (x.1 + 2 ≥ now))) })
    let d := if d.standby then d.frameCompare n f else d
    let d := if d.holder then d else d.heartbeatSeen n f
    d.ringPlace n (ringElement stamp esi f m.2 (d.canCh n).ring d.turn.number)

/-! Remote points at the latch (R334) -/

/-- The stale time of a remote point: the smallest non-zero STALET, 0 for never. -/
def staleTime (img : Image) (p : Nat) : Nat :=
  ((img.canm.rx.filter (fun r => !r.command && r.point = p && r.stalet != 0)).map RxRec.stalet).foldl
    (fun b t => if b = 0 ∨ t < b then t else b) 0

/-- A remote point becomes stale when its time has run (R334). -/
def Dev.remoteStale (d : Dev) (p : Nat) : Dev :=
  let x := d.remote p
  let t := staleTime d.image p
  if x.q = qN ∨ x.stale ∨ x.fresh ∨ t = 0 ∨ d.turn.number < x.latched + t then d
  else
    let mask := (d.image.canm.rx.filter (fun r => !r.command && r.point = p)).foldl
      (fun m r => m ||| r.chmask) (0 : BitVec 4)
    (maskChannels mask).foldl (fun d n => d.raise (165 + 8 * n))
      (d.setRemote { x with q := qF, stale := true })

/-- A remote point's pending update taken at the sample latch (R16, R334). -/
def RemotePt.latch (x : RemotePt) (turn : Nat) : RemotePt :=
  if x.fresh || x.held then { x with q := qV, fresh := false, held := true, latched := turn, stale := false } else x

/-- The remote points at a sample latch. -/
def Dev.remoteLatch (d : Dev) : Dev :=
  let turn := d.turn.number
  let d := d.setCan (fun c => { c with remote := c.remote.map (fun x => RemotePt.latch x turn) })
  (d.can.remote.map RemotePt.point).foldl Dev.remoteStale d

/-- The updates latched are consumed when the turn completes; one that came since its latch still waits (R17). -/
def Dev.remoteConsumed (d : Dev) : Dev :=
  let turn := d.turn.number
  d.setCan (fun c => { c with remote := c.remote.map (fun x => { x with held := x.held && x.latched != turn }) })

/-! Modes, roles, start-up and image (R315, R332, R337, R338, R341, R342) -/

/-- CAN_INTEGRATED: 11 recessive bits seen; the channel enters the mode of its role (R315, R342). -/
def Dev.canIntegrated (d : Dev) (n : Nat) : Dev :=
  if (d.canRec n).en ∧ d.canMode n ≠ 3 ∧ d.canMode n ≠ 4 ∧ d.pwr.boot = 3 then
    (d.setCanCh n (fun c => { c with integrated := true })).wrF (R.CAN_MODE n) F.CAN_MODE_MODE
      (if d.holder then 1 else 2)
  else d

/-- Whether a frame is the wake frame of a record (R341): classical, its ID word under WAKEMASK, its IDE and its first
WDLEN data bytes. -/
def CanChan.wakeFrame (r : CanChan) (f : Frame) : Bool :=
  let w := BitVec.ofNat 32 f.idw
  !f.fd && (w &&& r.wakemask) == (r.wakeid &&& r.wakemask) && bitOf f.idw 29 == bitOf r.wakeid.toNat 29
    && decide (r.wdlen ≤ f.data.length) && f.data.take r.wdlen == r.wakedata.take r.wdlen

/-- Whether what the wake detector sees is a channel's wake condition (R341). -/
def CanChan.wakes (r : CanChan) (dominant : Nat) (frame : Option Frame) : Bool :=
  match r.wakemode with
  | 1 => decide (dominant > 50)
  | 2 => frame.any r.wakeFrame
  | _ => false

/-- CAN_WAKE (R341). -/
def Dev.canWake (d : Dev) (n dominant : Nat) (frame : Option Frame) : Dev :=
  if d.pwr.boot = 4 ∧ n < 2 ∧ (d.canRec n).wakes dominant frame then d.flagEv (R.CAN_STAT n) 9 (167 + 8 * n) else d

/-- Whether a sender's stream carries commands under the receive map. -/
def Dev.commandStream (d : Dev) (x : DupState) : Bool :=
  d.image.canm.rx.any (fun r => r.command && r.seq && r.sender == x.sender && r.stream == x.stream)

/-- The command-stream states as the accepted COMMAND entries leave them (R332); other streams keep theirs. -/
def Dev.dupRebuild (d : Dev) : Dev :=
  (d.jrn.ledger.reverse ++ d.jrn.wbuf).foldl (fun d e =>
    let src := byteAt e.bytes 20
    if e.kind = 0x10 ∧ 5 ≤ src ∧ src ≤ 8 ∧ byteAt e.payload 24 ≠ 0 then
      let j := dupStep (d.can.dup (byteAt e.payload 24) (byteAt e.payload 25)) (byteAt e.payload 24)
        (byteAt e.payload 25) (uAt e.payload 26 2) false
      d.setCan (fun c => c.setDup j.2.1)
    else d) (d.setCan (fun c => { c with dups := c.dups.filter (fun x => !d.commandStream x) }))

/-- Every FRAME entry owed on the channels placed with RESEND, in SEQ order (R337, R338); `resync` marks the
first frame of each stream. -/
def Dev.placeOwed (d : Dev) (resync : Bool) : Dev :=
  (List.range 4).foldl (fun d n =>
    ((d.canCh n).owed.foldl (fun (x : Dev × List Nat) s =>
      match x.1.jrn.entryAt s with
      | some e =>
        let st := byteAt e.payload 0
        (x.1.placeFrame n e true (resync && !x.2.contains st), st :: x.2)
      | none => x) (d, [])).1) d

/-- The frames that are owed, and the stream counters, at a start-up (R337): from the seal's marks, or
without a valid seal from the last 4096 entries kept. -/
def Dev.marksStart (d : Dev) : Dev :=
  let ok := d.jrn.sealMatches
  let es := (d.jrn.ledger.reverse).filter (fun e => e.kind = 0x20)
  let from_ := fun n => match d.jrn.sealed with
    | some s => if ok then s.marks.getD n 0 else d.jrn.next - 4096
    | none => d.jrn.next - 4096
  let d := (List.range 4).foldl (fun d n => d.setCanCh n (fun c => { c with
    owed := (es.filter (fun e => e.seq ≥ from_ n && bitOf (byteAt e.payload 4) n)).map LEntry.seq })) d
  let streams := ((d.image.canm.tx.filter (fun r => r.cls < 3)).map TxRec.stream).eraseDups
  let next := fun s => match (es.filter (fun e => byteAt e.payload 0 = s)).getLast? with
    | some e => (uAt e.payload 1 2 + 1) % 65536
    | none => 0
  let sealed : Nat → Option Nat := fun s => match d.jrn.sealed with
    | some x => (x.streams.find? (fun (y : Nat × Nat) => y.1 = s)).map (fun y => y.2)
    | none => none
  let placed := fun s => (List.range 4).any (fun n => (d.canCh n).owed.any (fun q =>
    (d.jrn.entryAt q).any (fun e => byteAt e.payload 0 = s)))
  let st := streams.map (fun s =>
    if ok then (s, (sealed s).getD (next s), false) else (s, next s, !placed s))
  { d with turn := { d.turn with cur := { d.turn.cur with streams := st } } }

/-- The FRAME entries for a channel from its mark up to H (R337, R338). -/
def Dev.fromMark (d : Dev) (n : Nat) : List Nat :=
  ((d.jrn.ledger.reverse ++ d.jrn.wbuf).filter (fun e =>
    e.kind = 0x20 && decide (d.canMark n ≤ e.seq) && bitOf (byteAt e.payload 4) n)).map LEntry.seq

/-- Whether a frame reaches a COMMAND entry of the receive map, with nothing lacking (R338). -/
def Dev.commandFrame (d : Dev) (ch : Nat) (f : Frame) : Bool :=
  let es := (d.rxEntries ch f).map (fun r => (r, d.rxJudge r f))
  es.any (fun x => x.2 == 1 && x.1.command) && !es.any (fun x => decide (x.2 ≥ 2))

/-- A gain of the token, or the first role after a start-up (R315, R337, R338). -/
def Dev.canGain (d : Dev) (resync : Bool) : Dev :=
  let d := (List.range 4).foldl (fun d n =>
    let d := if d.canMode n = 2 then d.wrF (R.CAN_MODE n) F.CAN_MODE_MODE 1 else d
    let owed := if (d.canRec n).en then d.fromMark n else []
    d.setCanCh n (fun c => { c with awaited := [], owed := owed })) d
  let d := d.placeOwed resync
  let g := d.turn.number
  let frames := (d.can.recent.filter (fun x => x.1 + 2 ≥ g && d.commandFrame x.2.1 x.2.2)).reverse
  frames.foldl (fun d x => (d.rxMap x.2.1 0 x.2.2 false).1) d.dupRebuild

/-- The loss of the token (R315, R325): host frames complete as DROPPED, everything else leaves the
buffers and queues, sequenced frames stay owed. -/
def Dev.canLoss (d : Dev) : Dev :=
  (List.range 4).foldl (fun d n =>
    let d := if d.canMode n = 1 then d.wrF (R.CAN_MODE n) F.CAN_MODE_MODE 2 else d
    let d := (List.range 3).foldl (fun d k =>
      match (d.canCh n).buf k with
      | some b =>
        let d := if b.elem.ref.isSome then
            d.txDigest n (uAt b.elem.bytes 0 4) 5 k b.attempts d.canTsc (elemIdw b.elem.bytes) else d
        d.setBuf n k none
      | none => d) d
    let d := (d.queue (6 + 3 * n)).foldl (fun d e =>
      if e.ref.isSome then d.txDigest n (uAt e.bytes 0 4) 5 0xFF 0 d.canTsc (elemIdw e.bytes) else d) d
    let d := ((d.setQueue (4 + 3 * n) []).setQueue (5 + 3 * n) []).setQueue (6 + 3 * n) []
    let qs := [4 + 3 * n, 5 + 3 * n, 6 + 3 * n]
    let d := { d with queues := { d.queues with promo := d.queues.promo.filter (fun q => !qs.contains q) } }
    (d.setCanCh n (fun c => { c with backlog := [], firsts := [] })).showBacklog n) d

/-- The image applies to the channels (R314, R317, R342). -/
def Dev.canApply (d : Dev) (first : Bool) (old : Image) : Dev :=
  let d := (List.range 4).foldl (fun d n =>
    let r := d.canRec n
    if first || old.canm.chans[n]? != d.image.canm.chans[n]? then
      let quanta := 1 + (r.nbt.toNat / 2 ^ 10 % 256 + 1) + (r.nbt.toNat / 2 ^ 18 % 128 + 1)
      let fast := decide ((r.nbt.toNat % 256 + 1) * quanta < 640)
      let d := d.wrFs (R.CAN_MODE n) [(F.CAN_MODE_MODE, if r.en then 0 else 4),
        (F.CAN_MODE_TRIPLE, b2n r.triple), (F.CAN_MODE_TRIPIGN, b2n (r.triple && fast)),
        (F.CAN_MODE_TXORD, r.txord), (F.CAN_MODE_FDEN, b2n r.fden)]
      let d := (d.wr (R.CAN_NBT n) r.nbt).wr (R.CAN_DBT n) r.dbt
      let d := d.wrFs (R.CAN_TDC n) [(F.CAN_TDC_TDCEN, r.tdc.toNat / 128 % 2), (F.CAN_TDC_TDCO, r.tdc.toNat % 128)]
      d.setCanCh n (fun c => { c with integrated := false })
    else d) d
  let named := fun (x : DupState) => d.image.canm.rx.any (fun r => r.seq && r.sender == x.sender && r.stream == x.stream)
  d.setCan (fun c => { c with dups := c.dups.filter named })

end Sys2Proof.Machine
end

