-- ==== Sys2Proof/Machine/Dome.lean ====
section
/-!
DEFINITION. The backup dome (R430 to R445): the count, its slew, SET, ZONE, hour steps and SHIFT, the compare
alarms, the capture, supply and retention, the standby's tracking.
-/
namespace Sys2Proof.Machine

/-- The device with the dome's state changed. -/
def Dev.setDom (d : Dev) (f : Dome → Dome) : Dev := { d with dom := f d.dom }

/-- Whether the digital die runs, so that the dome's events are raised at once (R439). -/
def Dev.powered (d : Dev) : Bool := d.pwr.boot == 3

/-- ZONE in minutes and the slew remainder. -/
def Dev.domZone (d : Dev) : Int := signed 12 (d.rdF R.DOM_ZONE F.DOM_ZONE_ZONE)
def Dev.domRem (d : Dev) : Int := signed 16 (d.rdF R.DOM_SLEW F.DOM_SLEW_REM)

/-- Local time in ticks (R432). -/
def Dev.domLocal (d : Dev) : Int := (d.dom.count : Int) + d.domZone * 1966080

/-- The time is trusted (R434). -/
def Dev.domTrusted (d : Dev) : Bool :=
  d.rdF R.DOM_STAT F.DOM_STAT_OSC_STOP == 0 && d.rdF R.DOM_STAT F.DOM_STAT_DOME_LOST == 0

/-- An alarm's event and flag, or its wait for the next power-up (R439). -/
def Dev.domEvent (d : Dev) (ev : Nat) : Dev :=
  if d.powered then
    if ev = 232 ∨ ev = 233 then d.flagEv R.DOM_STAT (ev - 232) ev else d.raise ev
  else d.setDom (fun x => { x with later := x.later ++ [ev] })

/-- An alarm evaluated: armed, enabled, and its time at or beyond CMP, it fires (R439, R440). -/
def Dev.domAlarm (d : Dev) (skipped : Bool) (a : Nat) : Dev :=
  let cfg := d.rd (R.DOM_ALMCFG a)
  let cmp : Nat := (d.rd (R.DOM_ALMCMP_LO a)).toNat + 2 ^ 32 * (d.rdF (R.DOM_ALMCMP_HI a) F.DOM_ALMCMP_HI_C_HI)
  let t : Int := if getF F.DOM_ALMCFG_BASE cfg = 1 then d.domLocal else d.dom.count
  if getF F.DOM_ALMCFG_EN cfg = 1 ∧ getF F.DOM_ALMCFG_ARMED cfg = 1 ∧ (cmp : Int) ≤ t then
    let d := d.wrFs (R.DOM_ALMCFG a) [(F.DOM_ALMCFG_ARMED, 0), (F.DOM_ALMCFG_FIRED, 1),
      (F.DOM_ALMCFG_SKIPPED, b2n skipped)]
    let d := d.domEvent (232 + a)
    if skipped then d.domEvent 234 else d
  else d

/-- Both alarms evaluated. -/
def Dev.domAlarms (d : Dev) (skipped : Bool) : Dev := (d.domAlarm skipped 0).domAlarm skipped 1

/-- ALARM_ARM: a write to DOM_ALMCMPa_HI arms the alarm and evaluates it (R439, R440). -/
def Dev.domArm (d : Dev) (a : Nat) (hi : BitVec 16) : Dev :=
  ((d.wrF (R.DOM_ALMCMP_HI a) F.DOM_ALMCMP_HI_C_HI hi.toNat).wrFs (R.DOM_ALMCFG a)
    [(F.DOM_ALMCFG_ARMED, 1), (F.DOM_ALMCFG_FIRED, 0)]).domAlarm true a

/-- One increment of the count (R432). -/
def Dev.domCount (d : Dev) : Dev :=
  (d.setDom (fun x => { x with count := (x.count + 1) % 2 ^ 48, lastInc := d.clk })).domAlarms false

/-- A rising edge of CK_LF: the count advances unless the slew withholds it, or the crystal stands. -/
def Dev.domTick (d : Dev) : Dev :=
  let d := d.setDom (fun x => { x with edges := (x.edges + 1) % 64 })
  if !d.dom.runs then d
  else if d.dom.phase > 0 then d.setDom (fun x => { x with phase := x.phase - 1 })
  else d.domCount

/-- A falling edge of CK_LF: in one tick of every 64 a standing remainder is due to move the count (R438). -/
def Dev.domFall (d : Dev) : Dev :=
  if d.dom.edges = 0 ∧ d.dom.runs ∧ d.domRem ≠ 0 then d.setDom (fun x => { x with slewDue := true }) else d

/-- The dome over one CK_SYS cycle: 32 ticks in 390,625 cycles. -/
def Dev.domCycle (d : Dev) : Dev :=
  let acc := d.dom.acc + 32
  if acc < 390625 then
    let fall := decide (d.dom.acc < 195312 ∧ 195312 ≤ acc)
    let d := d.setDom (fun x => { x with acc := acc })
    if fall then d.domFall else d
  else (d.setDom (fun x => { x with acc := acc - 390625 })).domTick

/-- The remainder written; at 0 the slew has ended (R438). -/
def Dev.domSetRem (d : Dev) (r : Int) : Dev :=
  (d.wrF R.DOM_SLEW F.DOM_SLEW_REM (pattern 16 r)).setDom (fun x => { x with slewDue := x.slewDue && decide (r ≠ 0) })

/-- SLEW_INCREMENT: one increment inserted, or the next one withheld, when the edge of the 64 has come (R438). -/
def Dev.domSlew (d : Dev) : Dev :=
  let r := d.domRem
  if !d.dom.runs ∨ r = 0 ∨ !d.dom.slewDue then d
  else
    let d := d.setDom (fun x => { x with slewDue := false })
    let d := if r > 0 then (d.domSetRem (r - 1)).domCount
      else (d.domSetRem (r + 1)).setDom (fun x => { x with phase := x.phase + 1 })
    if d.domRem = 0 then d.domEvent 237 else d

/-- A change refused (R437, R442). -/
def Dev.domRefused (d : Dev) : Dev := d.flagEv R.DOM_STAT 3 238

/-- SET: a write to DOM_SET_HI, with S_LO as it stands at the write (R437, R442). It requests a SET also when it leaves
PEND at 0 (R45; log entry 39). -/
def Dev.domSet (d : Dev) (sess : Nat) (hi : BitVec 16) : Dev :=
  let g := d.passGate sess R.DOM_SET_HI
  let d := g.2
  if !g.1 then d
  else if !d.holder then d.domRefused
  else
    let v := (d.rd R.DOM_SET_LO).toNat + 2 ^ 32 * hi.toNat
    let d := d.setDom (fun x => { x with setVal := v })
    let shows := (d.wbWord R.DOM_SET_HI).isSome || hi.toNat != d.rdF R.DOM_SET_HI F.DOM_SET_HI_S_HI
    { d.wrF R.DOM_SET_HI F.DOM_SET_HI_PEND (b2n shows) with
      wb := (R.DOM_SET_HI, BitVec.ofNat 32 hi.toNat, sess) :: d.wb.filter (fun x => x.1 ≠ R.DOM_SET_HI) }

/-- A write-buffered write of the time registers, refused without the token (R442). -/
def Dev.domWb (d : Dev) (sess a : Nat) (mask v : Word) : Dev :=
  if d.holder then d.wbWrite a mask v sess else d.domRefused

/-- ZONE: a key-gated write. -/
def Dev.domZoneWrite (d : Dev) (sess : Nat) (z : BitVec 12) : Dev :=
  let g := d.passGate sess R.DOM_ZONE
  if g.1 then g.2.domWb sess R.DOM_ZONE 0xFFF (BitVec.ofNat 32 z.toNat) else g.2

/-- HOUR_ADD, HOUR_SUB and a write of both bits of DOM_ZCMD. -/
def Dev.domZcmd (d : Dev) (v : Nat) : Dev := d.domWb 0 R.DOM_ZCMD 3 (BitVec.ofNat 32 (v % 4))

/-- SHIFT. -/
def Dev.domShift (d : Dev) (v : BitVec 16) : Dev := d.domWb 0 R.DOM_SHIFT 0xFFFF (BitVec.ofNat 32 v.toNat)

/-- The pending SET applied: it clears OSC_STOP and DOME_LOST (R434, R437, R443). -/
def Dev.domApplySet (d : Dev) : Dev :=
  if d.wbWord R.DOM_SET_HI = none then d
  else
    let old := d.dom.count
    let new := d.dom.setVal
    let d := (d.wbApply R.DOM_SET_HI 0xFFFF).setDom (fun x =>
      { x with count := new, changed := true, lastTick := new, lastInc := d.clk, phase := 0 })
    let d := (d.domSetRem 0).wrFs R.DOM_STAT [(F.DOM_STAT_OSC_STOP, 0), (F.DOM_STAT_DOME_LOST, 0)]
    (d.flag R.DOM_STAT 2).happen (sysEntry 0x0020 (leBytes 6 old ++ leBytes 6 new))

/-- ZONE changed, with its entry (R437, R443). -/
def Dev.domMoveZone (d : Dev) (z : Int) (cause : Nat) : Dev :=
  if z < -1440 ∨ 1440 < z then d.domRefused
  else
    let old := d.domZone
    ((d.wrF R.DOM_ZONE F.DOM_ZONE_ZONE (pattern 12 z)).setDom (fun x => { x with changed := true })).happen
      (sysEntry 0x0021 (leBytes 2 (pattern 16 old) ++ leBytes 2 (pattern 16 z) ++ [byteOf cause]))

/-- The pending ZONE write. -/
def Dev.domApplyZone (d : Dev) : Dev :=
  match d.wbWord R.DOM_ZONE with
  | none => d
  | some w => (d.wbDrop R.DOM_ZONE).domMoveZone (signed 12 (w.toNat % 4096)) 1

/-- The pending hour step. -/
def Dev.domApplyHour (d : Dev) : Dev :=
  match d.wbWord R.DOM_ZCMD with
  | none => d
  | some w =>
    let d := d.wbDrop R.DOM_ZCMD
    if w = 1 then d.domMoveZone (d.domZone + 60) 2
    else if w = 2 then d.domMoveZone (d.domZone - 60) 3
    else if w = 3 then d.domRefused else d

/-- The pending SHIFT. -/
def Dev.domApplyShift (d : Dev) : Dev :=
  match d.wbWord R.DOM_SHIFT with
  | none => d
  | some w =>
    let v := signed 16 (w.toNat % 65536)
    if v = -32768 then (d.wbDrop R.DOM_SHIFT).domRefused
    else
      let old := d.domRem
      ((d.wbApply R.DOM_SHIFT 0xFFFF).domSetRem v).happen
        (sysEntry 0x0022 (leBytes 2 (pattern 16 v) ++ leBytes 2 (pattern 16 old)))

/-- The time changes of a sample latch in their order, the alarms, and the copy of TICK (R435, R437). -/
def Dev.domLatch (d : Dev) : Dev :=
  let d := d.setDom (fun x => { x with changed := false })
  let d := d.domApplySet.domApplyZone.domApplyHour
  let d := if d.dom.changed then d.domAlarms true else d
  let d := d.domApplyShift
  d.setDom (fun x => { x with lastTick := max x.count x.lastTick })

/-- A standby's tracking of the active's time at a latch (R442); `lastTick` keeps the TICK of the active's
image for a gain of the token (R435). An alarm that the load or the new ZONE reaches carries SKIPPED (R440). -/
def Dev.domTrack (d : Dev) (tick : Nat) (zone : Int) (trusted : Bool) : Dev :=
  let stepped := decide (d.domZone ≠ zone) || d.dom.load.isSome
  let d := d.wrF R.DOM_ZONE F.DOM_ZONE_ZONE (pattern 12 zone)
  let d := match d.dom.load with
    | some _ =>
      let d := (d.setDom (fun x => { x with count := tick, load := none, lastInc := d.clk })).domSetRem 0
      if trusted then d.wrFs R.DOM_STAT [(F.DOM_STAT_OSC_STOP, 0), (F.DOM_STAT_DOME_LOST, 0)] else d
    | none => d
  let diff := (tick : Int) - d.dom.count
  let d := d.setDom (fun x => { x with lastTick := tick })
  let d := if diff.natAbs ≥ 2 ∧ diff.natAbs ≤ 32767 then d.domSetRem diff
    else if diff.natAbs > 32767 then d.setDom (fun x => { x with load := some tick }) else d
  d.domAlarms stepped

/-- Bits of DOMUNTRUST (R443). -/
def Dev.domUntrust (d : Dev) : Entry :=
  sysEntry 0x0023 [byteOf (d.rdF R.DOM_STAT F.DOM_STAT_OSC_STOP + 2 * d.rdF R.DOM_STAT F.DOM_STAT_DOME_LOST)]

/-- OSC_STOP sets while the digital die runs (R37, R433, R443, R445). -/
def Dev.domStopped (d : Dev) : Dev :=
  if d.powered then ((d.flagEv R.SYS_CLKSTAT 9 4).raise 239).happen d.domUntrust else d

/-- OSC_STOP (R433): the count holds. -/
def Dev.oscStop (d : Dev) : Dev :=
  let was := d.rdF R.DOM_STAT F.DOM_STAT_OSC_STOP == 1
  let d := (d.wrF R.DOM_STAT F.DOM_STAT_OSC_STOP 1).setDom (fun x => { x with runs := false })
  if was then d else d.domStopped

/-- OSC_RESTART: silent (R433). -/
def Dev.oscRestart (d : Dev) : Dev := d.setDom (fun x => { x with runs := true })

/-- DOME_RETENTION_LOSS (R431). -/
def Dev.domLost (d : Dev) : Dev :=
  let was := d.rdF R.DOM_STAT F.DOM_STAT_OSC_STOP == 1
  let d := d.wrFs R.DOM_STAT [(F.DOM_STAT_OSC_STOP, 1), (F.DOM_STAT_DOME_LOST, 1)]
  let d := d.setDom (fun x => { Dome.empty with
    runs := x.runs, lastInc := d.clk, lastTick := x.lastTick, setVal := x.setVal, load := x.load })
  let d := (d.wrF R.DOM_ZONE F.DOM_ZONE_ZONE 0).domSetRem 0
  let d := (List.range 32).foldl (fun d k => d.wr (R.DOM_BKP k) 0) d
  let d := (List.range 2).foldl (fun d a =>
    ((d.wr (R.DOM_ALMCFG a) 0).wr (R.DOM_ALMCMP_LO a) 0).wr (R.DOM_ALMCMP_HI a) 0) d
  if was then d else d.domStopped

/-- DOME_SUPPLY_SWITCH (R430, R445). -/
def Dev.domSupply (d : Dev) (onbat : Bool) : Dev :=
  let was := d.rdF R.DOM_STAT F.DOM_STAT_ONBAT == 1
  (d.wrF R.DOM_STAT F.DOM_STAT_ONBAT (b2n onbat)).raiseIf (onbat && !was && d.powered) 235

/-- BATLOW: the measurement of VBAT in mV. -/
def Dev.domBat (d : Dev) (vbat : BitVec 16) : Dev :=
  let was := d.rdF R.DOM_STAT F.DOM_STAT_BATLOW == 1
  let low := decide (vbat.toNat < 2200)
  ((d.wrF R.DOM_SUPPLY F.DOM_SUPPLY_VBAT vbat.toNat).wrF R.DOM_STAT F.DOM_STAT_BATLOW (b2n low)).raiseIf
    (low && !was) 236

/-- TICK_LO_READ. -/
def Dev.domTickRead (d : Dev) : Dev := d.wrF R.DOM_TICK_HI F.DOM_TICK_HI_T_HI (d.dom.count / 2 ^ 32)

/-- CAPTURE (R436). -/
def Dev.domCapture (d : Dev) : Dev :=
  let t := d.dom.count
  let d := d.wr R.DOM_CAPTICK_LO (BitVec.ofNat 32 t)
  let d := d.wrFs R.DOM_CAPTICK_HI [(F.DOM_CAPTICK_HI_FRAC, min 12206 (d.clk - d.dom.lastInc)),
    (F.DOM_CAPTICK_HI_T_HI, t / 2 ^ 32)]
  let d := (List.range 4).foldl (fun d n => d.wr (R.DOM_CAPTSC n) (BitVec.ofNat 32 d.canTsc)) d
  let d := d.wr R.DOM_CAPTURN_LO (BitVec.ofNat 32 d.turn.number)
  let d := d.wrF R.DOM_CAPTURN_HI F.DOM_CAPTURN_HI_TURN_HI (d.turn.number / 2 ^ 32)
  d.wrFs R.DOM_CAPPB0 [(F.DOM_CAPPB0_CAPCNT, d.rdF R.DOM_CAPPB0 F.DOM_CAPPB0_CAPCNT + 1),
    (F.DOM_CAPPB0_POS, d.pb0)]

/-- The dome at a start-up: events that waited, and DOMUNTRUST for the first turn (R439, R443). -/
def Dev.domStart (d : Dev) : Dev :=
  let evs := d.dom.later
  let d := evs.foldl Dev.domEvent (d.setDom (fun x => { x with later := [] }))
  if d.domTrusted then d else (d.raise 239).happen d.domUntrust

end Sys2Proof.Machine
end

