-- ==== Sys2Proof/Machine/Schedule.lean ====
section
/-!
DEFINITION. The schedule (R68 to R98): actions of entries, accepted edges with the state machine of
R79, reference errors and jumps, cam references, departure from SYNC, standstill and fallback.
-/
namespace Sys2Proof.Machine

/-- A late-flagged execution (R84). -/
def Dev.lateMark (d : Dev) (late : Bool) : Dev :=
  if late then (d.incF R.PHS_LATECNT F.PHS_LATECNT_COUNT).flagEv R.PHS_ENGSTAT 0 28 else d

/-- The base of a NOP entry: nothing but its late flag (R84, R88). -/
def Dev.schedNop (d : Dev) (late : Bool) : Dev := d.lateMark late

/-- A SAMPLE entry: a universal input, or 64 + a charge channel with the code converted (R88). -/
def Dev.schedSample (d : Dev) (target : Nat) (code : BitVec 16) (late : Bool) : Dev :=
  let d := d.lateMark late
  if target < 48 then d.uSample target
  else if 64 ≤ target ∧ target < 76 then d.qSpot (target - 64) code late
  else d

/-- The action of a schedule entry (R88). A SAMPLE on a charge channel has a code of the converter
that nothing here fixes: it is free. -/
def Dev.schedAct (d : Dev) (e : SchedEntry) (late : Bool) : Dev :=
  let n := e.target - 64
  match e.act with
  | 1 =>
    let c := d.freeVal 16
    if e.target < 48 then d.schedSample e.target 0 late
    else c.2.schedSample e.target (BitVec.ofNat 16 c.1) late
  | 2 => (d.lateMark late).qWinOpen n e.arg late
  | 3 => (d.lateMark late).qWinClose n e.arg late
  | 4 => (d.lateMark late).qReset n false late
  | 5 => (d.lateMark late).qRange n false late
  | 6 => (d.lateMark late).qCycle n late
  | 7 => (d.lateMark late).uMux (e.target - 96) e.arg
  | _ => d.lateMark late

/-! The engine (R90 to R92) -/

/-- An element put into a list ordered by a key, after those of the same key. -/
def insertBy {α : Type} (key : α → Nat) (e : α) : List α → List α
  | [] => [e]
  | x :: xs => if key e < key x then e :: x :: xs else x :: insertBy key e xs

/-- A list in ascending order of a key; elements of the same key keep their order. -/
def orderBy {α : Type} (key : α → Nat) (l : List α) : List α := l.foldl (fun acc e => insertBy key e acc) []

/-- How far a position lies ahead of a count. -/
def distance (c0 p : Nat) : Nat := (p + 2 ^ 20 - c0 % 2 ^ 20) % 2 ^ 20

/-- Whether a position lies in the span that a move from `c0` to `c1` passes. -/
def inSpan (c0 c1 p : Nat) : Bool := 0 < distance c0 p && distance c0 p ≤ distance c0 c1

/-- The entries of a base that a move passes, in the order of R90: ascending position from the count before the
move, then ascending table index. -/
def jumped (img : Image) (b c0 c1 : Nat) : List SchedEntry :=
  orderBy (fun e => distance c0 e.pos) (img.schd.filter (fun e => e.base == b && inSpan c0 c1 e.pos))

/-- Whether an entry runs at its own position: always on PB0, and on another base once its angle entries run (R78,
R86). -/
def Dev.runsAngle (d : Dev) (e : SchedEntry) : Bool := e.base == 0 || (d.base e.base).angleOn

/-- Whether an entry runs on PB0 as a fallback entry (R86). -/
def Dev.runsFallback (d : Dev) (e : SchedEntry) : Bool := e.fb && e.base != 0 && (d.base e.base).fallback

/-- Whether the image has an entry with this action, target and argument that runs now: `fb` none asks for either
kind of run. -/
def Dev.entryRuns (d : Dev) (act target : Nat) (arg : Option Nat) (fb : Option Bool) : Bool :=
  d.image.schd.any (fun e => e.act == act && (act == 0 || e.target == target) && (arg.all (fun a => e.arg == a))
    && match fb with
      | some true => d.runsFallback e
      | some false => d.runsAngle e
      | none => d.runsAngle e || d.runsFallback e)

/-- A schedule entry's command acts only where such an entry runs (R78, R86, R88). -/
def Dev.whenRuns (d : Dev) (act target : Nat) (arg : Option Nat) (fb : Option Bool) (f : Dev → Dev) : Dev :=
  if d.entryRuns act target arg fb then f d else d

/-- Entries of a base fall due (R90). -/
def Dev.addDue (d : Dev) (b : Nat) (es : List (SchedEntry × Bool)) (late : Bool) : Dev :=
  { d with phs := { d.phs with due := d.phs.due ++ es.map (fun e => ⟨b, e.1, e.2, late, d.clk, false⟩) } }

/-- The entries of a base that a move passes fall due. -/
def Dev.passed (d : Dev) (b c0 c1 : Nat) (late : Bool) : Dev :=
  if (d.base b).angleOn then d.addDue b ((jumped d.image b c0 c1).map (fun e => (e, false))) late else d

/-- The due entries of a base that it may dispatch now, at most four in a CK_ANG cycle, and the rest (R91). -/
def takeDue (b : Nat) : Nat → List Due → List Due × List Due
  | _, [] => ([], [])
  | 0, l => ([], l)
  | k + 1, x :: xs =>
    if x.base = b then
      let r := takeDue b k xs
      (x :: r.1, r.2)
    else
      let r := takeDue b (k + 1) xs
      (r.1, x :: r.2)

/-- The entries that a base dispatches now (R91). -/
def Dev.popDue (d : Dev) (b : Nat) : List Due × Dev :=
  let r := takeDue b (4 - d.phs.sent.getD b 0) d.phs.due
  (r.1, { d with phs := { d.phs with due := r.2, sent := upd d.phs.sent b (· + r.1.length) } })

/-- The due entries of a base executed at an edge (R76, R83, R91). -/
def Dev.runDue (d : Dev) (b : Nat) : Dev :=
  let r := d.popDue b
  r.1.foldl (fun d u => d.schedAct u.entry u.late) r.2

/-- The command of a due entry, with a free code for a charge channel's spot sample (log entry 64). -/
def Dev.entryCmd (d : Dev) (u : Due) : Instr × Dev :=
  let n := Fin.ofNat 12 (u.entry.target - 64)
  let arg := BitVec.ofNat 8 u.entry.arg
  match u.entry.act with
  | 1 =>
    let c := d.freeVal 16
    (.sample u.entry.target (if u.entry.target < 48 then 0 else BitVec.ofNat 16 c.1) u.late, c.2)
  | 2 => (.winopen n arg u.late, d)
  | 3 => (.winclose n arg u.late, d)
  | 4 => (.qreset n u.fb u.late, d)
  | 5 => (.range n u.fb u.late, d)
  | 6 => (.cycle n u.late, d)
  | 7 => (.mux (Fin.ofNat 4 (u.entry.target - 96)) arg u.late, d)
  | _ => (.nop u.late, d)

/-- The commands that a base's due entries give in this cycle. -/
def Dev.dispatch (d : Dev) (b : Nat) : List Instr × Dev :=
  let r := d.popDue b
  r.1.foldl (fun a u => let x := a.2.entryCmd u; (a.1 ++ [x.1], x.2)) ([], r.2)

/-- An entry that has waited longer than 1 µs sets DISPQ once (R91). -/
def Dev.dueWaits (d : Dev) : Dev :=
  let old := fun (u : Due) => !u.marked && decide (d.clk - u.since > 400)
  let n := (d.phs.due.filter old).length
  let d' := { d with phs := { d.phs with due := d.phs.due.map (fun u => if old u then { u with marked := true } else u) } }
  (List.range n).foldl (fun d _ => d.flagEv R.PHS_ENGSTAT 1 30) d'

/-- The entries on PB0 whose position the turn has reached: PB0's own, and the fallback entries of a base out of SYNC
in turns whose number FBDIV divides (R69, R86, R90). -/
def Dev.pb0Reach (d : Dev) (now : Nat) : Dev :=
  let here := fun (p : Nat) => decide (d.phs.pb0Next ≤ p) && decide (p ≤ now)
  let es := d.image.schd.filterMap (fun e =>
    if e.base = 0 ∧ here e.pos then some (e.pos, e, false)
    else if d.runsFallback e ∧ e.fbdiv ≠ 0 ∧ d.turn.number % e.fbdiv = 0 ∧ here e.fbpos then some (e.fbpos, e, true)
    else none)
  let d := d.addDue 0 ((orderBy (fun x => x.1) es).map (fun x => x.2)) false
  { d with phs := { d.phs with pb0Next := max d.phs.pb0Next (now + 1) } }

/-- The end of a turn on PB0: entries at counts that the truncated step of R69 does not reach are passed at the wrap
(R90; log entry 64). -/
def Dev.pb0Wrap (d : Dev) : Dev :=
  let d := d.pb0Reach (2 ^ 20 - 1)
  { d with phs := { d.phs with pb0Next := 0 } }

/-- The entries of PBb that its count has reached (R90). -/
def Dev.baseReach (d : Dev) (b : Nat) : Dev :=
  let x := d.base b
  let c := x.acc / 4096
  if c = x.seen then d else (d.passed b x.seen c false).setBase b { x with seen := c }

/-! The angle grid (R93) -/

/-- The grid points that each channel of a base passes, while its ACQ window is open. -/
def Dev.gridDue (d : Dev) (b c0 c1 : Nat) : List (Nat × Nat) :=
  (List.range 12).flatMap (fun n =>
    let a := (d.qrec n).acq
    if a.pwren && !a.timeMode && a.base == b && (d.qc n).open_ a 1 then
      (gridPoints (d.cycleDeg b) (max 1 (d.qc n).cyc.r10) c0 c1).map (fun j => (n, j))
    else [])

/-- The grid points passed in a per-tooth correction fall due at the edge (R140). -/
def Dev.gridPassed (d : Dev) (b c0 c1 : Nat) : Dev :=
  if (d.base b).angleOn then (d.gridDue b c0 c1).foldl (fun d x => d.gridPoint x.1 x.2) d else d

/-- The grid points that the bases have reached, as commands, after the cycle's entries (R137). -/
def Dev.gridCmds (d : Dev) : List Instr × Dev :=
  [1, 2, 3].foldl (fun r b =>
    let x := r.2.base b
    let c := x.acc / 4096
    if c = x.gseen then r
    else
      let js := if x.angleOn then r.2.gridDue b x.gseen c else []
      (r.1 ++ js.map (fun y => .gridPoint (Fin.ofNat 12 y.1) y.2), r.2.setBase b { x with gseen := c })) ([], d)

/-- The schedule engine in the present cycle (R88 to R93): the entries that are due give their commands, bases in
ascending number; once none is left for this cycle, the grid points reached give theirs. -/
def Dev.engine (d : Dev) : List Instr × Dev :=
  if d.pwr.boot ≠ 3 then ([], d)
  else
    let d := ([1, 2, 3].foldl Dev.baseReach (d.pb0Reach d.pb0Now)).dueWaits
    let r := [0, 1, 2, 3].foldl (fun r b => let x := r.2.dispatch b; (r.1 ++ x.1, x.2)) ([], d)
    if r.1.isEmpty then r.2.gridCmds else r

/-- A per-tooth move of the count: the entries passed execute at the edge, unflagged, then the grid points passed
fall due (R76, R140). -/
def Dev.moved (d : Dev) (b c1 : Nat) : Dev :=
  let x := d.base b
  let d := ((d.passed b x.seen c1 false).runDue b).gridPassed b x.gseen c1
  d.setBase b { d.base b with seen := c1, gseen := c1 }

/-- A jump: the entries passed execute once, flagged late; grid points passed are not converted (R83, R141). -/
def Dev.runJump (d : Dev) (b c0 c1 : Nat) : Dev :=
  let d := (d.passed b (d.base b).seen c0 false).runDue b
  let d := d.qJump b c0 c1
  let d := (d.passed b c0 c1 true).runDue b
  d.setBase b { d.base b with seen := c1, gseen := c1 }

/-- The windows that a base's entries open close with its departure from SYNC (R85). -/
def Dev.closeBaseWindows (d : Dev) (b : Nat) : Dev :=
  d.image.schd.foldl (fun d e =>
    let n := e.target - 64
    if e.base == b && e.act == 2 && bitOf (d.qc n).win (e.arg % 8) then d.qCloseWin n (e.arg % 8) else d) d

/-- What a base's departure from SYNC does (R85, R152): entries that were due and still waited are dropped with it (log
entry 64). -/
def Dev.leaveSync (d : Dev) (b : Nat) (still : Bool) : Dev :=
  let d := d.setBase b { d.base b with angleOn := false, lost := true }
  let d := { d with phs := { d.phs with due := d.phs.due.filter (fun u => u.base != b) } }
  (d.closeBaseWindows b).qLeaveBase b still

/-- The loss of SYNC by errors (R79): LOSS and the count of departures. -/
def Dev.baseLoss (d : Dev) (b : Nat) : Dev :=
  let d := d.setBase b { d.base b with state := 1, refs := 0, cnt := 0, errs := 0 }
  let d := (d.incF (R.PHS_CNT b) F.PHS_CNT_LOSSES).flagEv (R.PHS_STAT b) 15 (18 + b)
  d.leaveSync b false

/-- A base reaches SYNC (R79). -/
def Dev.baseSync (d : Dev) (b : Nat) (x : Base) : Dev :=
  (d.setBase b { x with state := 3, errs := 0, camWrong := 0, camBad := false, camMiss := 0, camSeen := true,
                        hold := false, lost := false }).raise (15 + b)

/-- A cam fault (R79). -/
def Dev.camFault (d : Dev) (b : Nat) : Dev :=
  (d.incF (R.PHS_CNT b) F.PHS_CNT_CAMERRS).flagEv (R.PHS_STAT b) 17 29

/-- SPEED at a reference, once the last S / CYCREV slot periods are known (R77); a speed that the field does not hold
has no stated value (log entry 11). -/
def Dev.baseSpeed (d : Dev) (b : Nat) : Dev :=
  let r := d.baseRec b
  if (d.base b).periods.length < r.slots then d
  else
    let v := speedOf r (d.base b).periods
    let w := d.fit 20 false v
    let d := w.2.wrF (R.PHS_SPEED b) F.PHS_SPEED_SPEED w.1
    if v > 400000 then d.flagEv (R.PHS_STAT b) 18 30 else d

/-- The largest per-tooth correction (R76). -/
def Dev.baseJumpReg (d : Dev) (b c0 c1 : Nat) : Dev :=
  let x := distance c0 c1
  if x > d.rdF (R.PHS_JUMP b) F.PHS_JUMP_MAXJ then d.wrF (R.PHS_JUMP b) F.PHS_JUMP_MAXJ x else d

/-- An edge in SEEKING (R79): the period, the count of slots and references. `n` slots since the last
edge. -/
def seekEdge (r : BaseRec) (x : Base) (ref : Bool) (n t : Nat) : Base :=
  let dt := (t + 2 ^ 32 - x.tPrev % 2 ^ 32) % 2 ^ 32
  let tt := dt / max n 1
  { x with tLast := tt, tPrev := t, edges := satInc 2 x.edges, cnt := if ref then 0 else x.cnt + n,
           refs := if ref then x.refs + 1 else x.refs, index := false,
           periods := (List.replicate (max n 1) tt ++ x.periods).take (max r.slots 3) }

/-- A tooth edge of a base in SEEKING (R79, R87). -/
def Dev.seekTooth (d : Dev) (b : Nat) (ref : Bool) (n t : Nat) : Dev :=
  let r := d.baseRec b
  let x := d.base b
  let y := seekEdge r x ref n t
  if ref && seekDone r { y with refs := x.refs } (x.cnt + n) then
    let z := interpolate r { y with slot := r.s - 1, ph := r.pos 0 * 4096, tPrev := x.tPrev, tLast := x.tLast,
                                    periods := x.periods } 0 n t
    let z := { z with edges := y.edges, cnt := 0, refs := 0, acc := r.pos 0 * 4096, ph := r.pos 0 * 4096, rev := false }
    let d := if r.cycrev = 1 then d.baseSync b z else d.setBase b { z with state := 2 }
    d.baseSpeed b
  else
    let d := d.setBase b { y with refs := if ref then 1 else x.refs }
    if ref then d.baseSpeed b else d

/-- The resynchronisation of a base at a reference (R82, R83): forward it is a jump, backward the count
is held until the true phase reaches it. -/
def Dev.resync (d : Dev) (b : Nat) (x y : Base) : Dev :=
  let c0 := x.acc
  let c1 := y.ph
  if ahead c1 c0 then
    let z := { y with acc := c1, hold := false }
    let z := if c1 < c0 then { z with cyc := (z.cyc + 1) % 2 ^ 12 } else z
    (d.setBase b z).runJump b (c0 / 4096) (c1 / 4096)
  else d.setBase b { y with acc := c0, hold := decide (c0 ≠ c1) }

/-- The cycle's cam supervision at its start: CAMERR cycles without a cam reference set CAMFLT, and a cycle without a
reference in the wrong half ends their run (R79). -/
def Dev.camCycle (d : Dev) (b : Nat) : Dev :=
  let r := d.baseRec b
  let x := d.base b
  if r.camsrc = 0 ∨ x.state ≠ 3 then d
  else
    let m := if x.camSeen then 0 else x.camMiss + 1
    let d := d.setBase b { x with camSeen := false, camMiss := m, camBad := false
                                  camWrong := if x.camBad then x.camWrong else 0 }
    if m = r.camerr then d.camFault b else d

/-- A reference of a base in HALF or SYNC (R77, R79, R82). `total` is the number of slots counted since
the last one. -/
def Dev.syncRef (d : Dev) (b : Nat) (total n t : Nat) : Dev :=
  let r := d.baseRec b
  let x := d.base b
  let rev := r.cycrev == 2 && !x.rev
  let s := if rev then r.s / 2 else 0
  let good := total == r.slots
  let y := interpolate r { x with ph := if good then x.ph else r.pos s * 4096 } s n t
  let y := { y with rev := rev, cnt := 0, index := false, edges := satInc 2 x.edges }
  let d :=
    if good then
      let z := settleCount y
      let z := if z.acc < x.acc then { z with cyc := (z.cyc + 1) % 2 ^ 12 } else z
      ((d.setBase b { z with errs := 0 }).baseJumpReg b (x.acc / 4096) (z.acc / 4096)).moved b (z.acc / 4096)
    else if x.state = 3 then
      let d := d.resync b x { y with errs := x.errs + 1, ph := r.pos s * 4096 }
      let d := (d.incF (R.PHS_CNT b) F.PHS_CNT_REFERRS).flagEv (R.PHS_STAT b) 16 (24 + b)
      if x.errs + 1 ≥ r.syncerr then d.baseLoss b else d
    else d.setBase b { y with acc := r.pos s * 4096, ph := r.pos s * 4096 }
  let d := d.baseSpeed b
  if rev then d else d.camCycle b

/-- A tooth that is no reference, in HALF or SYNC (R75, R76). -/
def Dev.syncTooth (d : Dev) (b t : Nat) : Dev :=
  let r := d.baseRec b
  let x := d.base b
  let s := r.nextSlot x.slot
  let n := (s + r.s - x.slot % r.s) % r.s
  let y := settleCount (interpolate r x s n t)
  let y := { y with cnt := x.cnt + n, index := false, edges := satInc 2 x.edges }
  let y := if y.acc < x.acc then { y with cyc := (y.cyc + 1) % 2 ^ 12 } else y
  ((d.setBase b y).baseJumpReg b (x.acc / 4096) (y.acc / 4096)).moved b (y.acc / 4096)

/-- A tooth edge of a base (R75, R79); whether it is a reference. The edge that leaves STANDSTILL counts as the first
reference where its kind makes it one, and only a tooth edge leaves STANDSTILL (both DESIGN CHOICE, log entry 63). -/
def Dev.toothEdge (d : Dev) (b t : Nat) : Bool × Dev :=
  let r := d.baseRec b
  let x := d.base b
  if x.state = 0 then
    let ref := isReference r x.index (gapTest r 0 Base.empty)
    (ref, d.setBase b { Base.empty with
      state := 1, tPrev := t, edges := 1, acc := x.acc, ph := x.acc, cyc := x.cyc, lost := x.lost
      refs := b2n ref, fallback := x.fallback, seen := x.seen, gseen := x.gseen })
  else
    let dt := (t + 2 ^ 32 - x.tPrev % 2 ^ 32) % 2 ^ 32
    let gap := gapTest r dt x
    let ref := isReference r x.index gap
    let n := if ref && r.kind == 1 then r.missing + 1 else 1
    if x.state = 1 then (ref, d.seekTooth b ref n t)
    else if ref then (true, d.syncRef b (x.cnt + n) n t)
    else (false, d.syncTooth b t)

/-- A reference of a cam base for a crank base that names it (R79, R80). -/
def Dev.camRef (d : Dev) (b : Nat) : Dev :=
  let r := d.baseRec b
  let x := d.base b
  let c := x.acc / 4096
  let other := (c + 2 ^ 19) % 2 ^ 20
  let here := inCamWindow r c
  let there := inCamWindow r other
  if x.state = 2 then
    if here && !there then d.baseSync b x
    else if there && !here then
      let k := 2 ^ 31
      d.baseSync b { x with acc := (x.acc + k) % 2 ^ 32, ph := (x.ph + k) % 2 ^ 32,
                            limit := (x.limit + k) % 2 ^ 32, rev := !x.rev,
                            slot := (x.slot + r.s / 2) % max r.s 1 }
    else if !here && !there then d.camFault b
    else d
  else if x.state = 3 then
    if here then d.setBase b { x with camSeen := true }
    else if there then
      let w := if x.camBad then x.camWrong else x.camWrong + 1
      let d := d.setBase b { x with camSeen := true, camWrong := w, camBad := true }
      if w ≥ r.camerr then (d.camFault b).baseLoss b else d
    else (d.setBase b { x with camSeen := true }).camFault b
  else d

/-- Whether a level after an edge makes it an accepted edge of its mode (R71). -/
def edgeCounts (mode : Nat) (level : Bool) : Bool :=
  if mode = 1 then !level else if mode = 2 ∨ mode = 3 then level else false

/-- One base at an accepted edge of input m (R73, R79). An edge of IPIN alone only marks the tooth that follows; it does
not take the base out of STANDSTILL (DESIGN CHOICE, log entry 63). -/
def Dev.baseEdge (d : Dev) (m t b : Nat) : Dev :=
  let r := d.baseRec b
  if r.kind = 0 then d
  else
    let d := if r.ipin = m then d.setBase b { d.base b with index := true } else d
    if r.tpin ≠ m then d
    else
      let x := d.toothEdge b t
      let d := if x.1 && r.kind == 3 then
          [1, 2, 3].foldl (fun d c => if (d.baseRec c).camsrc = b then (d.camRef c).showBase c else d) x.2
        else x.2
      d.showBase b

/-- Whether the signal before an edge, of a height in mV, was high enough (R71): in VR it reached the threshold, 25 % of
the last peak with the floor LEVEL; in MAINS it reached the hysteresis LEVEL. -/
def AngleRec.reached (r : AngleRec) (last peak : Nat) : Bool :=
  if r.mode = 1 then decide (20 * r.level ≤ peak ∧ last ≤ 4 * peak)
  else if r.mode = 3 then decide (20 * r.level ≤ peak)
  else true

/-- The last peak of a VR input (R71; DESIGN CHOICE, log entry 71: each falling crossing counts, also an ignored one). -/
def Dev.anglePeak (d : Dev) (m peak : Nat) : Dev :=
  { d with phs := { d.phs with lastPeak := upd d.phs.lastPeak m (fun _ => peak) } }

/-- ANGLE_EDGE (R70 to R72, R75 to R83): the threshold, the edge timer's stamp, the edge filter, then the bases in
ascending number. -/
def Dev.angleEdge (d : Dev) (m peak : Nat) (level : Bool) : Dev :=
  let r := d.image.phsb.inputs.getD m ⟨0, 0, 0⟩
  let high := r.reached (d.phs.lastPeak.getD m 0) peak
  let d := d.wrF (R.PHS_INP m) F.PHS_INP_LEVEL_NOW (b2n level)
  let d := if r.mode = 1 ∧ level = false then d.anglePeak m peak else d
  let t := d.edgeTimer
  let close := match d.phs.lastEdge.getD m none with
    | some l => decide ((t + 2 ^ 32 - l % 2 ^ 32) % 2 ^ 32 < 5 * r.edgeflt)
    | none => false
  if !(edgeCounts r.mode level && high) || close then d
  else
    let d := { d with phs := { d.phs with lastEdge := upd d.phs.lastEdge m (fun _ => some t) } }
    [1, 2, 3].foldl (fun d b => d.baseEdge m t b) d

/-- STANDSTILL_TIMEOUT (R79, R85, R152). -/
def Dev.standstill (d : Dev) (b : Nat) : Dev :=
  let x := d.base b
  if b = 0 ∨ x.state = 0 then d
  else
    let d := d.flagEv (R.PHS_STAT b) 14 (21 + b)
    let d := if x.state = 3 then (d.incF (R.PHS_CNT b) F.PHS_CNT_LOSSES).flagEv (R.PHS_STAT b) 15 (18 + b) else d
    let d := d.setBase b { d.base b with state := 0, edges := 0, refs := 0, cnt := 0, hold := false }
    let d := d.wrF (R.PHS_SPEED b) F.PHS_SPEED_SPEED 0
    let d := if x.state = 3 ∨ x.lost then (d.leaveSync b true).setBase b
        { (d.leaveSync b true).base b with lost := false } else d
    d.showBase b

/-- FALLBACK_SWITCH at a sample latch (R86): angle entries start at the first position reached after it. -/
def Dev.fallbackSwitch (d : Dev) : Dev :=
  [1, 2, 3].foldl (fun d b =>
    let x := d.base b
    if (d.baseRec b).kind = 0 then d
    else
      let start := x.state == 3 && !x.angleOn
      d.setBase b { x with
        angleOn := x.state == 3, fallback := x.state != 3
        seen := if start then x.acc / 4096 else x.seen, gseen := if start then x.acc / 4096 else x.gseen }) d

/-- One CK_ANG cycle of all bases (R70, R75); the engine may dispatch again (R91). -/
def Dev.basesTick (d : Dev) : Dev :=
  { d with phs := { d.phs with bases := d.phs.bases.map baseTick, sent := [0, 0, 0, 0] } }

/-- The bases at an image swap (R85, R95): a base in SYNC whose record changes leaves SYNC for STANDSTILL, and no entry
of the old table runs on. -/
def Dev.phsLeave (d : Dev) (new : Image) : Dev :=
  let d := { d with phs := { d.phs with due := [], pb0Next := 2 ^ 20 } }
  [1, 2, 3].foldl (fun d b =>
    if (d.base b).state = 3 ∧ d.image.phsb.bases[b - 1]? ≠ new.phsb.bases[b - 1]? then d.leaveSync b true else d) d

/-- The image's registers of the phase bases, and the bases whose record is new (R79, R95). -/
def Dev.phsApply (d : Dev) (first : Bool) (old : Image) : Dev :=
  let d := [1, 2, 3].foldl (fun d b =>
    let r := d.baseRec b
    let d := if first || old.phsb.bases[b - 1]? != d.image.phsb.bases[b - 1]? then
        ((d.setBase b Base.empty).wrF (R.PHS_SPEED b) F.PHS_SPEED_SPEED 0).showBase b else d
    d.wrFs (R.PHS_CFG b) [(F.PHS_CFG_KIND, r.kind), (F.PHS_CFG_TPIN, r.tpin), (F.PHS_CFG_IPIN, r.ipin),
      (F.PHS_CFG_MISSING, r.missing), (F.PHS_CFG_CYC720, b2n (r.cycrev == 2)),
      (F.PHS_CFG_CAMSRC, r.camsrc), (F.PHS_CFG_SLOTS, r.slots)]) d
  let d := d.wrF R.PHS_ENTRIES F.PHS_ENTRIES_USED (d.image.schd.length + 2)
  (List.range 6).foldl (fun d m =>
    let r := d.image.phsb.inputs.getD m ⟨0, 0, 0⟩
    d.wrFs (R.PHS_INP m) [(F.PHS_INP_EDGEFLT, r.edgeflt), (F.PHS_INP_MODE, r.mode)]) d

end Sys2Proof.Machine
end

