-- ==== Sys2Proof/Machine/Clock.lean ====
section
/-!
DEFINITION. One cycle of CK_SYS: what happens at a clock tick whatever is commanded (log entry 4).
-/
namespace Sys2Proof.Machine

/-- One CK_SYS cycle: the cycle count, every eighth cycle the phase bases, and the dome's crystal. While the
digital die does not run, only the dome's time passes. -/
def Dev.tick (d : Dev) : Dev :=
  let d := { d with clk := d.clk + 1 }
  let d := if d.clk % 8 = 0 ∧ d.pwr.boot = 3 then d.basesTick else d
  let d := if d.pwr.boot = 3 then d.qFeedTime else d
  d.domCycle

end Sys2Proof.Machine
end

