-- ==== Sys2Proof/Machine/Show.lean ====
section
/-!
DEFINITION. The registers that show the lattice and the belfry (R41, R251, R280): what an emit writes, and the
fields that an image loads.
-/
namespace Sys2Proof.Machine

/-- The word of a register field list over 0. -/
def packF (fs : List (Field × Nat)) : Word := fs.foldl (fun w x => putF x.1 w x.2) 0

/-- The mask of the points' inhibited kinds. -/
def inhMask (s : Pt) : Nat :=
  (List.range 9).foldl (fun m k => if (s.al.getD k ⟨stUnused, false, false, false, 0⟩).inh then m + 2 ^ k else m) 0

/-- A used point's registers. -/
def Dev.showPoint (d : Dev) (p : Nat) : Dev :=
  let r := ptRec d.image p
  let s := d.turn.cur.pts.getD p Pt.empty
  if r.srck = 0 then d
  else
    let d := d.wr (R.LAT_PVAL p) (wordOfInt s.y)
    let d := d.wr (R.LAT_PSTS p) (packF [(F.LAT_PSTS_QUAL, s.q), (F.LAT_PSTS_ACTIVE, b2n (ptActive r s)),
      (F.LAT_PSTS_OOS, b2n s.oos), (F.LAT_PSTS_SUP1, b2n s.sup1), (F.LAT_PSTS_SUP0, b2n s.sup0),
      (F.LAT_PSTS_REFV, b2n s.refv), (F.LAT_PSTS_DEVOK, b2n s.devok), (F.LAT_PSTS_INSTAT, s.instat),
      (F.LAT_PSTS_INH, inhMask s)])
    let d := d.wr (R.LAT_PSTATE p) (BitVec.ofNat 32 (stWord s))
    d.wr (R.LAT_PRATE p) (wordOfInt s.rq)

/-- A deviation set's registers (R233): the mean with no exclusion. -/
def Dev.showDev (d : Dev) (k : Nat) : Dev :=
  let s := d.turn.cur.devs.getD k ⟨0, 0, false⟩
  let d := d.wr (R.LAT_DEVMEAN k) (wordOfInt (if s.n = 0 then 0 else rnd s.s s.n))
  d.wrFs (R.LAT_DEVN k) [(F.LAT_DEVN_BELOW, b2n s.below), (F.LAT_DEVN_N, s.n)]

/-- A host point's registers (R245). -/
def Dev.showHost (d : Dev) (h : Nat) : Dev :=
  let s := d.turn.cur.hps.getD h HostPt.empty
  (d.wr (R.LAT_HPVAL h) (wordOfInt s.value)).wr (R.LAT_HPSTS h)
    (packF [(F.LAT_HPSTS_STATUS, s.status), (F.LAT_HPSTS_AGE, s.age)])

/-- A node's registers. -/
def Dev.showNode (d : Dev) (n : Nat) : Dev :=
  let s := d.turn.cur.nodes.getD n Node.empty
  (d.wr (R.LAT_NOUT n) (wordOfInt s.v)).wrFs (R.LAT_NSTS n)
    [(F.LAT_NSTS_VALID, b2n s.valid), (F.LAT_NSTS_NVALID, s.nvalid)]

/-- A timer cell's register. -/
def Dev.showTimer (d : Dev) (t : Nat) : Dev :=
  let s := d.turn.cur.timers.getD t Timer.empty
  d.wrFs (R.LAT_TSTS t) [(F.LAT_TSTS_Q, b2n s.q), (F.LAT_TSTS_IN, b2n s.inb), (F.LAT_TSTS_RST, b2n s.rstb),
    (F.LAT_TSTS_ET, s.et)]

/-- Enabled alarms of the used points that satisfy a condition on class and state. -/
def countAlarms (img : Image) (pts : List Pt) (sel : Nat → Nat → Bool) : Nat :=
  (List.range img.latp.points.length).foldl (fun n p =>
    let r := ptRec img p
    if r.srck = 0 then n
    else (List.range 9).foldl (fun n k =>
      if (ckRec r k).en && sel (ckRec r k).cls (alSt (pts.getD p Pt.empty) k) then n + 1 else n) n) 0

/-- The counts of the point stage. -/
def Dev.showCounts (d : Dev) : Dev :=
  let pts := d.turn.cur.pts
  let img := d.image
  let d := (List.range 4).foldl (fun d c => d.wr (R.LAT_CNT c) (packF [
    (F.LAT_CNT_ACTIVE, countAlarms img pts (fun k s => k == c && stActive s)),
    (F.LAT_CNT_UNACK, countAlarms img pts (fun k s => k == c && stUnack s))])) d
  let d := d.wr R.LAT_CNTX (packF [
    (F.LAT_CNTX_SUPPRESSED, countAlarms img pts (fun _ s => s == stSuppressed)),
    (F.LAT_CNTX_INHIBITED, countAlarms img pts (fun _ s => s == stInhibited))])
  let oos := ((List.range img.latp.points.length).filter (fun p =>
    ptUsed img p && (pts.getD p Pt.empty).oos)).length
  let d := d.wr R.LAT_CNTOOS (packF [(F.LAT_CNTOOS_OOS, oos)])
  d.wr R.LAT_LASTTURN (packF [(F.LAT_LASTTURN_CMDS, d.turn.cur.cmdsApplied), (F.LAT_LASTTURN_CHANGES, d.turn.cur.changes)])

/-- The belfry's registers. -/
def Dev.showBelfry (d : Dev) : Dev :=
  let b := d.turn.cur.bel
  let v := d.turn.view
  let d := d.wr R.BEL_DUTY (packF [(F.BEL_DUTY_LASTSRC, b.lastsrc), (F.BEL_DUTY_DUTY, b.duty.getD 31)])
  let d := d.wr R.BEL_PRESENT (packF [(F.BEL_PRESENT_PRESENT, presenceMask b)])
  let d := d.wr R.BEL_SIGNALS (packF [(F.BEL_SIGNALS_FORCED, v.forced), (F.BEL_SIGNALS_SIG, v.sig)])
  let d := d.wr R.BEL_WATCH (packF [(F.BEL_WATCH_WST, b.wst)])
  let d := d.wr R.BEL_WATCHCNT (BitVec.ofNat 32 b.wc)
  let d := d.wr R.BEL_LOCALMIN (packF [(F.BEL_LOCALMIN_LVALID, b2n b.lvalid), (F.BEL_LOCALMIN_MINUTE, (b.lL % 1440).toNat)])
  (List.range 16).foldl (fun d c =>
    let x := b.chains.getD c Chain.empty
    (d.wr (R.BEL_CHSTAT c) (BitVec.ofNat 32 (chstatWord x))).wr (R.BEL_CHTRIG c) (wordOfInt x.ltv)) d

/-- The host points whose registers may differ from those of a point never written: written since the swap, or taken
back by it (R228, R245). -/
def Dev.hostPointsShown (d : Dev) : List Nat :=
  (List.range 512).filter (fun h => d.turn.cur.hps.getD h HostPt.empty != HostPt.empty || d.turn.hpGone.contains h)

/-- Every lattice and belfry register at the emit of a completed turn (R41). -/
def Dev.latShow (d : Dev) : Dev :=
  let img := d.image
  let d := (List.range img.latp.points.length).foldl Dev.showPoint d
  let d := (List.range img.latp.devsets.length).foldl Dev.showDev d
  let d := d.hostPointsShown.foldl Dev.showHost d
  let d := (List.range img.latg.nodes.length).foldl Dev.showNode d
  let d := (List.range img.latt.length).foldl Dev.showTimer d
  d.showCounts.showBelfry

/-- The word of an input word (R254). -/
def inWordBits (w : InWord) : Nat := w.ikind * 2 ^ 28 + w.attr * 2 ^ 23 + b2n w.inv * 2 ^ 22 + w.index

/-- A point's configuration registers; a point without a record reads 0 there. -/
def Dev.latPointRegs (d : Dev) (p : Nat) : Dev :=
  let r := ptRec d.image p
  let used := r.srck != 0
  let d := d.wr (R.LAT_PCFG p) (if used then packF [(F.LAT_PCFG_SRCK, r.srck), (F.LAT_PCFG_SCALE, r.scale),
    (F.LAT_PCFG_SRCI, r.srci), (F.LAT_PCFG_SRCF, r.srcf), (F.LAT_PCFG_DEVSET, r.devset)] else 0)
  let d := d.wr (R.LAT_PID p) (if used then r.ident else 0)
  let s := d.turn.cur.pts.getD p Pt.empty
  if used then d.wr (R.LAT_PSTATE p) (BitVec.ofNat 32 (stWord s))
  else (((d.wr (R.LAT_PSTATE p) 0).wr (R.LAT_PVAL p) 0).wr (R.LAT_PRATE p) 0).wr (R.LAT_PSTS p) (resetWord (R.LAT_PSTS p))

/-- A node's and a timer's configuration registers. -/
def Dev.latNodeRegs (d : Dev) (n : Nat) : Dev :=
  match d.image.latg.nodes[n]? with
  | some r =>
    let d := d.wr (R.LAT_NCFG n) (packF [(F.LAT_NCFG_FUNC, r.func), (F.LAT_NCFG_LEVEL, r.level),
      (F.LAT_NCFG_NIN, r.nin), (F.LAT_NCFG_K, r.k), (F.LAT_NCFG_FAILB, b2n r.failb)])
    (d.wrF (R.LAT_NSTS n) F.LAT_NSTS_FIRST r.first).wr (R.LAT_NID n) r.ident
  | none => (((d.wr (R.LAT_NCFG n) 0).wr (R.LAT_NSTS n) 0).wr (R.LAT_NID n) 0).wr (R.LAT_NOUT n) 0
def Dev.latTimerRegs (d : Dev) (t : Nat) : Dev :=
  match d.image.latt[t]? with
  | some r => ((d.wrF (R.LAT_TSTS t) F.LAT_TSTS_KIND r.kind).wr (R.LAT_TPT t) (packF [(F.LAT_TPT_PT, r.pt)])).wr
      (R.LAT_TID t) r.ident
  | none => ((d.wr (R.LAT_TSTS t) 0).wr (R.LAT_TPT t) 0).wr (R.LAT_TID t) 0

/-- A station's configuration register. -/
def Dev.belStationRegs (d : Dev) (k : Nat) : Dev :=
  let r := d.image.belf.stations.getD k StationRec.empty
  d.wr (R.BEL_STCFG k) (packF [(F.BEL_STCFG_ACKDI, r.ackdi), (F.BEL_STCFG_CLSMASK, r.clsmask.toNat),
    (F.BEL_STCFG_CHMASK, r.chmask.toNat)])

/-- The fields that an image loads into the turn, lattice, belfry and queue registers; `old` is the image
before. -/
def Dev.latRegs (d : Dev) (old : Image) : Dev :=
  let img := d.image
  let d := d.wrFs R.SYS_TURNCFG [(F.SYS_TURNCFG_EMIT, img.phsb.emit), (F.SYS_TURNCFG_TLEN, img.phsb.tlen)]
  let d := d.wrF R.SYS_COMMIT F.SYS_COMMIT_CCAP (commitK img.phsb.emit)
  let d := (List.range (max img.latp.points.length old.latp.points.length)).foldl Dev.latPointRegs d
  let d := (List.range (max img.latp.devsets.length old.latp.devsets.length)).foldl (fun d k =>
    match img.latp.devsets[k]? with
    | some r => d.wrF (R.LAT_DEVN k) F.LAT_DEVN_MINN r.minn
    | none => (d.wr (R.LAT_DEVN k) 0).wr (R.LAT_DEVMEAN k) 0) d
  let d := d.wr R.LAT_GCOUNT (packF [(F.LAT_GCOUNT_TCOUNT, img.latt.length), (F.LAT_GCOUNT_NCOUNT, img.latg.nodes.length)])
  let d := (List.range (max img.latg.nodes.length old.latg.nodes.length)).foldl Dev.latNodeRegs d
  let d := (List.range (max img.latt.length old.latt.length)).foldl Dev.latTimerRegs d
  let d := (List.range (max img.latg.inputs.length old.latg.inputs.length)).foldl (fun d i =>
    d.wr (R.LAT_NIN i) (match img.latg.inputs[i]? with | some w => BitVec.ofNat 32 (inWordBits w) | none => 0)) d
  let d := (List.range 8).foldl Dev.belStationRegs d
  let d := d.wrF R.BEL_PRESENT F.BEL_PRESENT_PRESENT (presenceMask d.turn.cur.bel)
  let d := (List.range 12).foldl (fun d q => d.wrF (R.HST_QINFO (q + 4)) F.HST_QINFO_AGELIM img.canm.agelim) d
  (List.range 8).foldl (fun d q => d.wrF (R.HST_QINFO (q + 32)) F.HST_QINFO_AGELIM img.jrnl.agelim) d

end Sys2Proof.Machine
end

