-- ==== Sys2Proof/Machine/Sources.lean ====
section
/-!
DEFINITION. The sources at a sample latch (R16, R227 to R229, R287), the releases that a cross-check compares
(R352, R366), and what emissions follow from committed entries (R22).
-/
namespace Sys2Proof.Machine

/-- A signed 32-bit register. -/
def Dev.rdInt (d : Dev) (a : Nat) : Int := signed 32 (d.rd a).toNat

/-- The quality of a status: values V, held H, faults F, else N (R228). -/
def qualOf (values held faults : List Nat) (st : Nat) : Nat :=
  if values.contains st then qV else if held.contains st then qH else if faults.contains st then qF else qN

/-- A universal input as a source. -/
def Dev.sampleUin (d : Dev) (n : Nat) : Sample :=
  let st := d.rdF (R.UIN_STS n) F.UIN_STS_STATUS
  ⟨d.rdInt (R.UIN_VAL n), qualOf [0, 1, 2] [] [3, 4, 5, 6, 7, 8] st, st⟩

/-- A combustion result as a source: the field SRCF of the values delivered (R17, R149, R227). -/
def Dev.sampleQch (d : Dev) (n f : Nat) : Sample :=
  let v := d.qSeen n
  let st := v.1
  let w5 := (v.2.getD 5 0).toNat
  let x : Int := if f = 5 then b2n (bitOf w5 31) else if f = 6 then signed 16 (w5 % 65536)
    else signed 32 (v.2.getD f 0).toNat
  ⟨x, if st = 3 then qR else qualOf [0, 1] [2] [4, 5, 6, 7, 8, 9] st, st⟩

/-- An excitation channel as a source. -/
def Dev.sampleXch (d : Dev) (n f : Nat) : Sample :=
  let st := d.rdF (R.XCH_STS n) F.XCH_STS_STATUS
  ⟨d.rdInt (if f = 0 then R.XCH_VAL n else R.XCH_AUX n), qualOf [0, 1, 2] [8] [3, 4, 5, 6, 7, 9, 10] st, st⟩

/-- A loop input as a source: RAW, VALUE or a HART variable. -/
def Dev.sampleLoop (d : Dev) (n f : Nat) : Sample :=
  if f < 2 then
    let st := d.rdF (R.LOP_STS n) F.LOP_STS_STATUS
    ⟨d.rdInt (if f = 0 then R.LOP_RAW n else R.LOP_VAL n), qualOf [0, 1, 2] [8] [3, 4, 5, 6, 7, 9] st, st⟩
  else
    let st := d.rdF (R.LOP_HSTAT n) F.LOP_HSTAT_VSTATUS
    let nan := bitOf (d.rdF (R.LOP_HSTAT n) F.LOP_HSTAT_NANMAP) (f - 2)
    ⟨d.rdInt (R.LOP_HVAR n (f - 2)), if st = 0 ∧ nan then qH else qualOf [0] [] [3, 4] st, st⟩

/-- The released state of a contact input and whether its status is GOOD. -/
def Dev.diNow (d : Dev) (n : Nat) : Bool × Bool := (bitOf (d.rd R.DIO_INSTATE).toNat n, d.diStatus n == 0)

/-- A contact input as a source. -/
def Dev.sampleDi (d : Dev) (n : Nat) : Sample :=
  ⟨b2n (d.diNow n).1, qualOf [0] [] [3, 4, 5, 9] (d.diStatus n), d.diStatus n⟩

/-- An output's fault source (R227). -/
def Dev.sampleFault (d : Dev) (n f : Nat) : Sample :=
  let b := if f = 0 then d.doFault n else d.rdF (R.LOP_OSTS n) F.LOP_OSTS_COMPL == 1
  ⟨b2n b, qV, 0⟩

/-- SPEED of a base. -/
def Dev.pbSpeed (d : Dev) (b : Nat) : Nat := if b = 0 then 0 else d.rdF (R.PHS_SPEED b) F.PHS_SPEED_SPEED

/-- The source of a point at the latch; remote and host points and nodes are read in evaluation. -/
def Dev.sampleOf (d : Dev) (r : PointRec) : Sample :=
  match r.srck with
  | 1 => d.sampleUin r.srci
  | 2 => d.sampleQch r.srci r.srcf
  | 3 => d.sampleXch r.srci r.srcf
  | 4 => d.sampleLoop r.srci r.srcf
  | 5 => d.sampleDi r.srci
  | 6 => d.sampleFault r.srci r.srcf
  | 7 => ⟨if r.srcf = 0 then d.pbSpeed r.srci else b2n (d.inSync r.srci), qV, 0⟩
  | _ => noSample

/-- Free elements of every queue at the latch (R287). -/
def Dev.queueFree (d : Dev) : List Nat :=
  (List.range 64).map (fun q => queueDepth q - (d.queue q).length - d.reserved q)

/-- The input image of the turn in hand (R16). -/
def Dev.inputImage (d : Dev) (outside : List Entry) : InImage :=
  { turn := d.turn.number, tick := d.dom.lastTick, zone := d.domZone, trusted := d.domTrusted
    srcs := d.image.latp.points.map d.sampleOf
    di := (List.range 32).map d.diNow
    pb := (List.range 4).map (fun b => (d.inSync b, d.pbSpeed b))
    cmds := d.turn.arrived
    qfree := d.queueFree
    hart := (List.range 16).map (fun n => (d.lrec n).hart != 0)
    canEn := (List.range 4).map (fun n => (d.canRec n).en)
    remote := d.can.remote.map (fun x => (x.point, x.value, x.q))
    outside := outside
    hostset := d.rd R.DIO_HOSTSET &&& hostsetMask false
    hostset31 := d.rd R.DIO_HOSTSET31 &&& hostsetMask true
    osets := (List.range 4).map (fun n => (d.wbWord (R.LOP_OSET n)).map BitVec.toNat) }

/-! Entries that arose outside evaluation (R297) -/

/-- Entries put into their ingress queues in order. -/
def ingPut (ing : List (List Entry)) (es : List Entry) : List (List Entry) :=
  es.foldl (fun l e => upd l e.ing (fun q => q ++ [e])) ing

/-- The forming turn and TICK of an entry that has none yet. -/
def Entry.formedAt (e : Entry) (turn tick : Nat) : Entry :=
  if e.turn = 0 then { e with turn := turn, tick := tick } else e

/-- The entries that enter the pool at this latch while it has free slots, and the device after it. -/
def Dev.enterPool (d : Dev) : List Entry × Dev :=
  let room := poolSlots - d.jrn.used
  let es := (d.jrn.outside.take room).map (fun e => e.formedAt d.turn.number d.dom.lastTick)
  (es, d.setJrn (fun j => { j with ing := ingPut j.ing es, outside := j.outside.drop room }))

/-! What emissions follow (R22) -/

/-- The view of a state whose entries have all committed. -/
def viewOf (s : EvalState) : EmitView :=
  { alarms := s.pts.map (fun p => p.al.map Alarm.st), nodes := s.nodes, chains := s.bel.chains, wst := s.bel.wst
    duty := s.bel.duty, present := s.bel.present, forced := s.bel.forced, sig := s.bel.sig }

/-- A committed entry's change of what emissions follow. -/
def EmitView.take (v : EmitView) (kind : Nat) (p : List Byte) : EmitView :=
  let eng := fun (n : Nat) => if n = 0xFF then none else some n
  match kind with
  | 0x01 => { v with alarms := upd v.alarms (uAt p 0 2) (fun l => upd l (byteAt p 2) (fun _ => byteAt p 3 / 16)) }
  | 0x02 => { v with chains := upd v.chains (byteAt p 0) (fun c => { c with st := byteAt p 2, stg := byteAt p 3 }) }
  | 0x03 => { v with wst := byteAt p 0 }
  | 0x04 => { v with duty := eng (byteAt p 0) }
  | 0x10 =>
    if byteAt p 8 ≠ 0 then v
    else if byteAt p 7 = 0x11 then { v with duty := eng (byteAt p 9) }
    else if byteAt p 7 = 0x14 then { v with present := upd v.present (byteAt p 9) (fun _ => byteAt p 10 != 0) }
    else v
  | 0x30 =>
    if uAt p 0 2 = 0x0007 then { v with forced := putBit v.forced (byteAt p 2) (byteAt p 3 != 0) }
    else if uAt p 0 2 = 0x0006 then { v with duty := eng (byteAt p 2) }
    else v
  | _ => v

/-- The signals of a view (R22, R270): the belfry's own, the FORCE overrides as their entries committed, and the FORCE
nodes of stations that the belfry itself calls, which form no entry. -/
def EmitView.signals (v : EmitView) (img : Image) (b : Belfry) : Nat :=
  ownSignals img { b with chains := v.chains, wst := v.wst, duty := v.duty, present := v.present } ||| v.forced
    ||| (forceNodes img v.nodes &&& ownSignals img b)

/-- The points with the alarm states of a view. -/
def viewPts (v : EmitView) (pts : List Pt) : List Pt :=
  (List.zip pts v.alarms).map (fun x =>
    { x.1 with al := (List.zip x.1.al x.2).map (fun y => { y.1 with st := y.2 }) })

/-- The view after a commit: its entries' changes, the nodes over the committed alarm states, the signals. -/
def viewAfter (img : Image) (inp : InImage) (last next : EvalState) (v : EmitView) (es : List (Nat × List Byte)) :
    EmitView :=
  let v := es.foldl (fun v e => v.take e.1 e.2) v
  let pts := viewPts v next.pts
  let nodes := if pts = next.pts then next.nodes
    else (spireStage img inp pts next.hps last Acc.nil).1
  let v := { v with nodes := nodes }
  { v with sig := v.signals img next.bel }

/-! Cross-check (R352, R366) -/

/-- The releases of every shared channel, as the input image carries them. -/
def Dev.releases (d : Dev) : List Release :=
  let uin := ((List.range 48).filter (fun n => (d.urec n).mode != 0)).map (fun n =>
    let s := d.sampleUin n
    (⟨0, n, s.instat, s.q == qF, s.instat == 15, s.x, 0⟩ : Release))
  let xch := ((List.range 8).filter (fun n => (d.xrec n).mode != 0)).map (fun n =>
    let s := d.sampleXch n 0
    (⟨1, n, s.instat, s.q == qF, [8, 9, 15].contains s.instat, s.x, (d.xc n).relTrim⟩ : Release))
  let li := ((List.range 16).filter (fun n => (d.lrec n).mode != 0)).map (fun n =>
    let s := d.sampleLoop n 0
    (⟨2, n, s.instat, s.q == qF, [8, 9, 15].contains s.instat, s.x, 0⟩ : Release))
  let di := ((List.range 32).filter (fun n => (d.direc n).mode != 0)).map (fun n =>
    let s := d.sampleDi n
    (⟨4, n, s.instat, s.q == qF, [9, 15].contains s.instat, s.x, 0⟩ : Release))
  let qch := ((List.range 12).filter (fun n => (d.qrec n).acq.pwren)).map (fun n =>
    let st := d.rdF (R.QCH_STS n) F.QCH_STS_STATUS
    let v := (List.range 7).foldl (fun v w => v + (d.rd (R.QCH_RES n w)).toNat * 2 ^ (32 * w)) 0
    (⟨6, n, st, [4, 5, 6, 7, 8, 9].contains st, [9, 15].contains st, v, 0⟩ : Release))
  let pb := ((List.range 3).filter (fun b => (d.baseRec (b + 1)).kind != 0)).flatMap (fun b =>
    let s := d.inSync (b + 1)
    [(⟨7, b, 0, false, !s, ((d.base (b + 1)).acc / 4096 : Nat), 0⟩ : Release),
     ⟨7, b + 4, 0, false, !s, (d.pbSpeed (b + 1) : Nat), 0⟩])
  uin ++ xch ++ li ++ di ++ qch ++ pb

/-- Whether a release carries a value. -/
def Release.hasValue (r : Release) : Bool :=
  if r.kind = 4 then r.status == 0 else if r.kind = 6 then r.status ≤ 1 else r.status ≤ 2

/-- Whether two values lie further apart than the tolerance of their kind (R352, R382). -/
def Dev.beyond (d : Dev) (r : Release) (own : Int) : Bool :=
  let p := d.image.pair
  let diff : Int := (own - r.value).natAbs
  if r.kind = 0 then
    let u := d.urec r.index
    if u.mode = 3 then decide (diff * 1000000 * 102 > (p.tolv : Int) * (uRange u).2 * 100)
    else if u.mode = 4 then decide (diff > p.tolbr) else decide (diff > p.toltc)
  else if r.kind = 1 then
    if (d.xrec r.index).mode = 1 then decide (diff > p.tolxc)
    else decide (diff * 1000000 > (p.tolxc : Int) * r.value.natAbs)
  else if r.kind = 2 then decide (diff > p.tolli)
  else if r.kind = 7 then
    if r.index < 4 then decide (min diff (2 ^ 20 - diff) > p.tolpb) else decide (diff > p.tolspd)
  else diff != 0

/-- Whether the active's release and the device's own differ (R366): none when the channel is skipped, or when the two
were measured with different TRIM values (R179). -/
def Dev.differs (d : Dev) (r own : Release) : Option Bool :=
  if r.skip || own.skip || r.trim != own.trim then none
  else some ((r.fault != own.fault) || (r.kind == 4 && r.status != own.status)
    || (r.hasValue && own.hasValue && d.beyond r own.value))

end Sys2Proof.Machine
end

