-- ==== Sys2Proof/Machine/Engine.lean ====
section
/-!
DEFINITION. The queue engine (R63 to R67): ages and promotion, the order of grants, what each consumer does
with the element it gets, and the commands that a sample latch finds in the command channels (R35).
-/
namespace Sys2Proof.Machine

/-- 64 µs in CK_SYS cycles (R65). -/
def ageCycles : Nat := 25600

/-- The age limit in turns of a queue that counts turns (R65). -/
def Dev.ageLimit (d : Dev) (q : Nat) : Nat := if q < 16 then d.image.canm.agelim else d.image.jrnl.agelim

/-- Whether a queue's head is older than its limit (R65, R67). -/
def Dev.overAge (d : Dev) (q : Nat) : Bool :=
  if 32 ≤ q ∧ q < 40 then
    (ingHead d.jrn.ing (q - 32)).any (fun e => decide (d.turn.number - e.turn > d.ageLimit q))
  else (d.queue q).head?.any (fun e =>
    if 4 ≤ q ∧ q < 16 then decide (d.ageTurns e > d.ageLimit q) else decide (d.clk - e.clk > ageCycles))

/-- What a promotion shows (R62, R67). -/
def Dev.promoted (d : Dev) (q : Nat) : Dev :=
  ((d.incF R.HST_QPROMOCNT F.HST_QPROMOCNT_TOTAL).flag (R.HST_QSTAT q) 17).raise 248

/-- QUEUE_PROMOTE (R67): the head stays promoted until it is served. -/
def Dev.queuePromote (d : Dev) (q : Nat) : Dev :=
  if !d.overAge q || d.queues.promo.contains q then d
  else { d with queues := { d.queues with promo := q :: d.queues.promo } }.promoted q

/-- PROMOCNT_CLR. -/
def Dev.promocntClr (d : Dev) : Dev := d.wrF R.HST_QPROMOCNT F.HST_QPROMOCNT_TOTAL 0

/-- A head of an ingress queue that a commit served as promoted: its promotion shows, unless it showed before the
commit (R67). -/
def Dev.promoServed (d : Dev) (q : Nat) : Dev :=
  if d.queues.promo.contains (32 + q) then
    { d with queues := { d.queues with promo := d.queues.promo.filter (fun x => x ≠ 32 + q) } }
  else d.promoted (32 + q)

/-- The promotions of ingress queues whose head a commit has taken end (R67). -/
def Dev.promoEnd (d : Dev) (before : List (List Entry)) : Dev :=
  { d with queues := { d.queues with promo := d.queues.promo.filter (fun q =>
      !(decide (32 ≤ q ∧ q < 40) && ingHead before (q - 32) != ingHead d.jrn.ing (q - 32))) } }

/-- The queues of a service group (R63). -/
def groupQueues (g : Nat) : List Nat := (List.range 64).filter (fun q => queueGroup q = g)

/-- The first queue of a list after one, wrapping. -/
def nextAfter (l : List Nat) (r : Nat) : Option Nat :=
  match l.find? (fun q => decide (r < q)) with
  | some q => some q
  | none => l.head?

/-- Whether the engine serves a queue (R66): not those of commit and of the transmit buffers. -/
def engineQueue (q : Nat) : Bool := !(decide (4 ≤ q ∧ q < 16) || decide (32 ≤ q ∧ q < 40))

/-- The oldest of the promoted queues, the lower number on a tie (R67). -/
def Dev.oldestPromoted (d : Dev) (qs : List Nat) : Option Nat :=
  ((List.range 64).filter (fun q => qs.contains q && d.queues.promo.contains q)).foldl (fun b q =>
    let age := fun k => (((d.queue k).head?).map QElem.clk).getD 0
    match b with
    | none => some q
    | some p => if age q < age p then some q else some p) none

/-- Whether a queue holds an element and its consumer is ready; the link serves a promoted head, then Q63, Q61,
Q60, Q62 (R67, R358). -/
def Dev.queueReady (d : Dev) (ready : BitVec 64) (q : Nat) : Bool :=
  let has := fun k => !(d.queue k).isEmpty && bitOf ready.toNat k
  let link := [63, 61, 60, 62].filter has
  let next := match d.oldestPromoted link with
    | some k => some k
    | none => link.head?
  engineQueue q && has q && (decide (q < 60) || next == some q)

/-- The procedure of R66 over the groups in their order, from the queues that are ready. -/
def grantGroups (ready : List Nat) : List Nat → Queues → Option Nat × Queues
  | [], s => (none, s)
  | g :: gs, s =>
    let qs := (groupQueues g).filter (fun q => ready.contains q)
    let w := qs.length
    if w = 0 then grantGroups ready gs { s with credit := upd s.credit g (fun _ => 0) }
    else
      let c := s.credit.getD g 0
      let c := if c = 0 ∨ c > w then w else c
      match nextAfter qs (s.rrQ.getD g 0) with
      | none => (none, s)
      | some q => (some q, { s with
          rrQ := upd s.rrQ g (fun _ => q), credit := upd s.credit g (fun _ => c - 1)
          rrGrp := if c = 1 then (g + 1) % 8 else g })

/-- next_grant (R66): a promoted queue first. -/
def Dev.nextGrant (d : Dev) (ready : BitVec 64) : Option Nat × Queues :=
  let qs := (List.range 64).filter (d.queueReady ready)
  match d.oldestPromoted qs with
  | some q => (some q, d.queues)
  | none => grantGroups qs ((List.range 8).map (fun i => (d.queues.rrGrp + i) % 8)) d.queues

/-- A host command element as a command (R479): command ID, session and opcode in its head. -/
def QElem.command (e : QElem) (hc : Nat) : OpCmd :=
  ⟨.host ⟨uAt e.bytes 4 2, BitVec.ofNat 32 (uAt e.bytes 0 4), hc⟩ e.permitted, byteAt e.bytes 6, e.bytes.drop 8⟩

/-- The next block of an envelope that goes to the peer (R414, R422; log entry 20): behind every mirror, into an empty
Q60. -/
def Dev.forwardStep (d : Dev) : Dev :=
  match d.vault.forward with
  | none => d
  | some (slot, off) =>
    if !(d.linkUp || d.lstate == 4) || d.pair.mirOut.isSome || !(d.queue 60).isEmpty then d
    else
      let mem := (d.vault.images.getD slot ⟨[], [], none⟩).mem
      let n := min 4088 (ofLe (memRead mem 8 4) - off)
      let d := d.push 60 ([0x0D, 0, 0, 0] ++ leBytes 4 off ++ (List.range n).map (fun i => memGet mem (off + i))) none
      let next := if n < 4088 then none else some (slot, off + n)
      { d with vault := { d.vault with forward := next } }

/-- The envelope of an image slot begins its way to the peer. -/
def Dev.forwardStart (d : Dev) (slot : Nat) : Dev :=
  { d with vault := { d.vault with forward := some (slot, 0) } }.forwardStep

/-- A block sent on the link: it is outstanding until its acknowledgement (R355). -/
def Dev.linkSend (d : Dev) (q : Nat) (bytes : List Byte) : Dev :=
  d.setPair (fun p => { p with blocks := p.blocks ++ [(q, p.txSeq, bytes)], txSeq := (p.txSeq + 1) % 65536 })

/-- A granted element goes to its consumer: the HART modem, command execution, the panel driver, the link,
or the host, which takes it away. -/
def Dev.consume (d : Dev) (q : Nat) : Dev :=
  match d.queue q with
  | [] => d
  | e :: _ =>
    if 16 ≤ q ∧ q < 32 then d.hartStart (q - 16)
    else if 40 ≤ q ∧ q < 48 then (d.pop q).arrive (e.command (q - 40))
    else if 56 ≤ q ∧ q < 60 then d.pnlRequest (q - 56)
    else if 60 ≤ q then
      if (d.linkUp ∨ (q = 60 ∧ d.lstate = 4)) ∧ d.pair.blocks.length < 16 then
        ((d.pop q).linkSend q e.bytes).forwardStep
      else d
    else d.pop q

/-- QUEUE_GRANT (R66): one grant. -/
def Dev.queueGrant (d : Dev) (ready : BitVec 64) : Dev :=
  match d.nextGrant ready with
  | (some q, s) => ({ d with queues := s }).consume q
  | (none, s) => { d with queues := s }

/-- One command taken from the command channels at the sample latch, in the engine's order (R35). -/
def Dev.drainCommand (d : Dev) : Dev :=
  let qs := (groupQueues 4).filter (fun q => !(d.queue q).isEmpty)
  match d.oldestPromoted qs with
  | some q => d.consume q
  | none =>
    match nextAfter qs (d.queues.rrQ.getD 4 47) with
    | some q => ({ d with queues := { d.queues with rrQ := upd d.queues.rrQ 4 (fun _ => q) } }).consume q
    | none => d

/-- Every command that waits in a command channel is latched (R35). -/
def Dev.drainCommands (d : Dev) : Dev :=
  (List.range (((groupQueues 4).map (fun q => (d.queue q).length)).foldl (· + ·) 0)).foldl
    (fun d _ => d.drainCommand) d

end Sys2Proof.Machine
end

