-- ==== Sys2Proof/Machine/Turn.lean ====
section
/-!
DEFINITION. The turn (R13 to R36): its start, the latch of the device's own sources, evaluation, held turns,
what a commit takes and its completion, overrun turns, the output digest, and the emit. The pair's side of a
turn stands in Machine/Pair.lean.
-/
namespace Sys2Proof.Machine

/-- The device with the turn engine changed. -/
def Dev.setTurn (d : Dev) (f : Turn → Turn) : Dev := { d with turn := f d.turn }

/-- The device with the turn in hand changed. -/
def Dev.setRun (d : Dev) (f : TurnRun → TurnRun) : Dev := d.setTurn (fun t => { t with run := t.run.map f })

/-- Whether turns run: after the start-up, until the watchtower or the owner stops them (R394, R425). -/
def Dev.turnsRun (d : Dev) : Bool := d.pwr.boot == 3 && d.turn.starts && !d.halted

/-- What a turn start is for the acquisition (R86, R103, R185); the turn before it has passed its last counts. -/
def Dev.acqStart (d : Dev) : Dev :=
  let now := d.clk
  ((d.setTurn (fun t => { t with since := now })).uinTurnStart.lopTurnStart).fallbackSwitch

/-- A pending CLR of SYS_TIMINGMAX (R4). -/
def Dev.timingClear (d : Dev) : Dev :=
  if d.turn.clrMax then
    (d.wrFs R.SYS_TIMINGMAX [(F.SYS_TIMINGMAX_CDONE, 0), (F.SYS_TIMINGMAX_EVAL, 0)]).setTurn
      (fun t => { t with clrMax := false })
  else d

/-- The start of a period of the device's own PB0 that is no turn. -/
def Dev.periodStart (d : Dev) : Dev := d.pb0Wrap.acqStart

/-- The start of turn n (R9, R42). -/
def Dev.turnBegin (d : Dev) (n : Nat) : Dev :=
  let d := d.pb0Wrap.setTurn (fun t => { t with
    number := n, prev := t.run.filter (fun r => r.phase == .completed), run := none })
  let d := (d.wr R.SYS_TURNNUM_LO (BitVec.ofNat 32 n)).setPair (fun p => { p with lostNow := false })
  (d.timingClear.acqStart).raise 0

/-- TIMINGMAX_CLR: it waits for the turn start. -/
def Dev.timingmaxClr (d : Dev) : Dev := d.setTurn (fun t => { t with clrMax := true })

/-- TURNNUM_LO_READ (R41): the high word is latched. -/
def Dev.turnnumLoRead (d : Dev) : Dev :=
  d.wrF R.SYS_TURNNUM_HI F.SYS_TURNNUM_HI_TURN_HI (d.turn.number / 2 ^ 32)

/-! Evaluation and what the commit takes -/

/-- The entries of an evaluation that count toward a held turn (R297). -/
def countedEntries (es : List Entry) : Nat := (es.filter (fun e => decide (e.kind ≤ 0x20))).length

/-- The HELD entry of the held turns before this one, with the pool's use as the last of them showed it (R298,
R537). -/
def Dev.heldEntry (d : Dev) (tick : Nat) : List Entry :=
  if d.jrn.heldRun = 0 then []
  else [{ sysEntry 0x0004 (leBytes 2 (min 65535 d.jrn.heldRun) ++ leBytes 6 d.jrn.heldFirst ++
      leBytes 2 (d.rdF R.JRN_POOL F.JRN_POOL_USED)) with
    turn := d.turn.number, tick := tick }]

/-- Evaluation of an input image into a turn in hand (R18, R20, R297). -/
def Dev.evalTurn (d : Dev) (inp : InImage) (evalUs commitUs : Nat) : Dev :=
  let x := evaluate d.image inp d.turn.cur
  let held := decide (countedEntries x.2.ents > poolSlots - d.jrn.used)
  let news := if held then [] else d.heldEntry inp.tick ++ x.2.ents
  let take := d.commitTake (ingPut d.jrn.ing news) (d.directCount inp.tick)
  let run : TurnRun :=
    { phase := .evaluating, inp := inp, next := x.1, acc := x.2, cmds := d.turn.arrived.length, held := held
      take := take, formed := d.formEntries inp.tick take.taken, digest := [], evalUs := evalUs
      commitUs := commitUs, acked := false, emitted := false, last := d.turn.cur, lastView := d.turn.view, head := d.jrn.next }
  d.setTurn (fun t => { t with run := some run })

/-- The device as the completed turn leaves its lattice and what emissions follow (R22): a held turn keeps
its state and takes only the changes of the deferred entries it commits (log entry 24). -/
def Dev.prospect (d : Dev) (r : TurnRun) : Dev :=
  let next := if r.held then d.turn.cur else r.next
  let view := viewAfter d.image r.inp d.turn.cur next d.turn.view (r.take.taken.map (fun e => (e.kind, e.payload)))
  d.setTurn (fun t => { t with cur := next, view := view })

/-- A held turn at the end of its evaluation (R297, R298); the registers show it from the next emit on (R41). -/
def Dev.heldTurn (d : Dev) : Dev :=
  let n := d.turn.number
  let d := d.setJrn (fun j => { j.flagDue (j.heldRun == 0) 4 156 with
    heldRun := j.heldRun + 1, heldDue := j.heldDue + 1, heldFirst := if j.heldRun = 0 then n else j.heldFirst })
  if d.jrn.heldRun ≥ d.image.jrnl.holdlim then d.declare 0x21 0 else d

/-! The output digest (R361) -/

/-- The levels of all outputs as a number. -/
def Dev.doLevels (d : Dev) : Nat := (List.range 32).foldl (fun m k => if d.doLevel k then m + 2 ^ k else m) 0

/-- The selected setpoint of a loop output. -/
def Dev.setpoint (d : Dev) (n : Nat) : Nat := (selectSetpoint (d.orec n) (d.setIn n)).2

/-- The ID word, length and data of a transmit element. -/
def digestFrame (b : List Byte) : List Byte := leBytes 4 (elemIdw b) ++ [byteOf (elemLen b)] ++ elemData b

/-- The frames of a turn for one transmit queue, in their order: sequenced frames, host frames, class D
frames, the heartbeat. -/
def Dev.queueFrames (d : Dev) (r : TurnRun) (q : Nat) : List (List Byte) :=
  let n := (q - 4) / 3
  if !(d.canRec n).en then []
  else
    let fs := (r.formed.filter (fun e => e.kind = 0x20 && bitOf (byteAt e.payload 4) n
      && classQueue (frameClass e.payload) n == q)).map (fun e => d.frameElem e.payload false false)
    let ps := (r.take.taken.flatMap Entry.places ++ (if r.held then [] else r.acc.frames)).filter (fun p => p.queue = q)
    let hb := if !r.held && classQueue 0 n == q && bitOf d.image.canm.hbmask.toNat n then
      [heartbeatElem (d.canRec n).hbid.toNat d.turn.number] else []
    fs ++ ps.map (fun p => padTo 80 p.bytes) ++ hb

/-- The panel requests of a turn for Q56 to Q59, as its content changes ask for them (log entry 26). -/
def Dev.queueRequests (d : Dev) (r : TurnRun) (q : Nat) : List (List Byte) :=
  let asks := d.pChanges d.pNewContent
  let own := (asks.filter (fun x => (q == 56 && x.2.1) || (q == 58 && x.2.2))).map (fun x =>
    padTo 32 (panelRequestBytes x.1 q d.turn.number))
  own ++ ((r.take.taken.flatMap Entry.places).filter (fun p => p.queue = q)).map (fun p => padTo 32 p.bytes)

/-- The output digest of a turn, from the device as the turn will leave it (R361). -/
def Dev.digest (d : Dev) (r : TurnRun) : List Byte :=
  let first := ((r.formed.head?).map LEntry.seq).getD d.jrn.next
  let last := r.formed.getLast?
  let m := leBytes 6 d.turn.number ++ leBytes 4 d.doLevels
    ++ (List.range 4).flatMap (fun n => leBytes 2 (d.setpoint n)) ++ leBytes 2 d.turn.view.sig
    ++ leBytes 8 first ++ leBytes 8 ((last.map LEntry.seq).getD (d.jrn.next - 1))
    ++ (last.map LEntry.chain).getD d.jrn.chain
    ++ [56, 57, 58, 59].flatMap (fun q => (d.queueRequests r q).flatten)
    ++ ((List.range 12).map (· + 4)).flatMap (fun q => ((d.queueFrames r q).map digestFrame).flatten)
  (sha256 m).take 8

/-! Completion -/

/-- SYS_TIMING and its maxima of the turn. -/
def Dev.timing (d : Dev) (cdone eval : Nat) : Dev :=
  let d := d.wrFs R.SYS_TIMING [(F.SYS_TIMING_CDONE, cdone), (F.SYS_TIMING_EVAL, eval)]
  d.wrFs R.SYS_TIMINGMAX [(F.SYS_TIMINGMAX_CDONE, max cdone (d.rdF R.SYS_TIMINGMAX F.SYS_TIMINGMAX_CDONE)),
    (F.SYS_TIMINGMAX_EVAL, max eval (d.rdF R.SYS_TIMINGMAX F.SYS_TIMINGMAX_EVAL))]

/-- The WRITEPT commands of a turn that returned OK: they formed no COMMAND entry (R244). -/
def TurnRun.written (r : TurnRun) : List (Nat × Nat) :=
  r.inp.cmds.filterMap (fun c =>
    match c.src with
    | .host ref _ =>
      if c.opc = 7 ∧ !r.acc.ents.any (fun e => e.kind = 0x10 && uAt e.payload 0 4 == ref.cmdid.toNat
          && uAt e.payload 4 2 == ref.sess) then some (ref.sess, ref.cmdid.toNat) else none
    | _ => none)

/-- The results that a commit gives to host commands (R480): one EV250 each. -/
def Dev.results (d : Dev) (r : TurnRun) : Dev :=
  let ws := if r.held then [] else r.written
  let n := (r.formed.filter (fun e => e.kind = 0x10 && byteAt e.bytes 20 == 9)).length + ws.length
  let d := { d with host := { d.host with written := (ws ++ d.host.written).take 8192 } }
  (List.range n).foldl (fun d _ => d.raise 250) d

/-- Once-delivered sources of a completed turn are consumed (R17). -/
def Dev.consumed (d : Dev) (r : TurnRun) : Dev :=
  if r.held then d
  else
    let d := (d.setTurn (fun t => { t with arrived := t.arrived.drop r.cmds })).remoteConsumed.qConsumed
    d.setJrn (fun j => { j with heldRun := 0 })

/-- Entries wait in the ingress queues after the commit (R20, R42). R42 names no instant for EV3: the flag and the
event come with the commit that leaves the first entry waiting, BACKLOG itself at the emit (DESIGN CHOICE; log
entry 61). -/
def Dev.deferred (d : Dev) : Dev :=
  if d.jrn.used > 0 ∧ d.rdF R.SYS_DEFER F.SYS_DEFER_BACKLOG = 0 then d.flagEv R.SYS_TURNSTAT 4 3 else d

/-- The commit of the turn in hand completes with the entries given (R21, R292): acceptance, the state and
the view, and the placements that wait for the emit. -/
def Dev.completeWith (d : Dev) (es : List LEntry) (cdone : Nat) : Dev :=
  match d.turn.run with
  | none => d
  | some r =>
    let before := d.jrn.ing
    let d := (d.prospect r).jrnSpace r.take
    let d := r.take.promos.foldl Dev.promoServed (d.setJrn (fun j => { j with ing := r.take.ing, lastN := es.length }))
    let d := (d.promoEnd before).acceptAll es
    let d := d.setTurn (fun t => { t with
      toEmit := t.toEmit ++ es.filter (fun e => e.kind = 0x20)
      places := t.places ++ r.take.taken.flatMap Entry.places
      run := some { r with phase := .completed }, overruns := 0 })
    let d := ((d.consumed r).results r).deferred
    let d := d.timing (min cdone 0x7FE) (min r.evalUs 0xFE)
    let d := d.setWtc (fun w => { w with lateOnly := 0, counted := 0 })
    let n := d.turn.number
    let d := d.setPair (fun p => { p with
      doneTurn := some n, plannedTurn := if p.planned.isSome && p.plannedTurn.isNone then some n else p.plannedTurn })
    let d := if d.vault.swapTurn = some (n + 1) ∧ d.role = 2 ∧ !d.vault.swapOk then d.swapAbandon else d
    if r.take.classAWaits then d.declare 0x22 0 else d

/-- Completion with the device's own entries. -/
def Dev.complete (d : Dev) (cdone : Nat) : Dev :=
  match d.turn.run with
  | some r => d.completeWith r.formed cdone
  | none => d

/-- µs since the turn start. -/
def Dev.sinceStart (d : Dev) : Nat := (d.clk - d.turn.since) / 400

/-- The commit deadline in µs from turn start (R14). -/
def Dev.commitLimit (d : Dev) : Nat := d.image.phsb.emit - 10

/-- A commit that the peer no longer holds up, or no longer has to: it completes when the device's own entries are in
the write buffer (R21), and goes on towards its deadline when they come too late for it. -/
def Dev.ownCommit (d : Dev) (t : Nat) : Dev :=
  match d.turn.run with
  | some r =>
    if r.commitUs ≤ d.commitLimit then d.complete (max t r.commitUs)
    else d.setRun (fun r => { r with phase := .committing })
  | none => d

/-- A commit after the loss of the link completes in the solo manner (R27, R362), if only the acknowledgement
was lacking. -/
def Dev.linksolo (d : Dev) : Dev :=
  let late := d.turn.run.any (fun r => decide (d.commitLimit < r.commitUs))
  let d := d.ownCommit d.sinceStart
  if late then d else d.flag R.SYS_TURNSTAT 5

/-- What a commit lacks at its deadline (R27): 2 the device's own entries, 4 the acknowledgement. -/
def Dev.commitLacks (d : Dev) (r : TurnRun) : Nat :=
  (if d.commitLimit < r.commitUs then 2 else 0) + (if r.acked then 0 else 4)

/-! Overrun turns (R27 to R29) -/

/-- The link is declared lost (R357, R362, R387). -/
def Dev.linkLost (d : Dev) : Dev :=
  if d.linkUp then
    ((d.incF R.PAR_LNKCNT F.PAR_LNKCNT_LOSSES).flagEv R.PAR_STAT 3 196).linkGone 1
  else if d.lstate = 0 then d
  else d.linkGone 1

/-- The OVERRUN entry of the turn (R29, R537); the active's travels to its standby. -/
def Dev.overrunEntry (d : Dev) (bits : Nat) : Dev :=
  if d.holder then
    d.happen (sysEntry 0x0003 (leBytes 6 d.turn.number ++ [byteOf bits]
      ++ leBytes 2 (d.rdF R.SYS_TURNSTAT F.SYS_TURNSTAT_OVRTOTAL)))
  else d

/-- The run of overrun turns: two consecutive ones, and those for want of an acknowledgement alone (R29,
R387). -/
def Dev.overrunRun (d : Dev) (bits : Nat) : Dev :=
  let d := d.setTurn (fun t => { t with overruns := t.overruns + 1 })
  let d := if d.turn.overruns ≥ 2 then d.flag R.SYS_TURNSTAT 3 else d
  if bits = 4 then
    let d := d.setWtc (fun w => { w with lateOnly := w.lateOnly + 1 })
    if d.wtc.lateOnly ≥ 2 then d.linkLost else d
  else
    let d := d.setWtc (fun w => { w with counted := w.counted + 1 })
    if d.wtc.counted ≥ 2 then d.declare 0x20 0 else d

/-- The turn in hand is an overrun turn (R27, R28): its next state, entries and emissions are discarded.
Bits: 0 OVREVAL, 1 OVRCOMMIT, 2 ACKLATE. -/
def Dev.overrunTurn (d : Dev) (bits : Nat) : Dev :=
  let d := d.setRun (fun r => { r with phase := .overrun })
  let d := (List.range 3).foldl (fun d b => if bitOf bits b then d.flag R.SYS_TURNSTAT b else d) d
  let d := (d.incF R.SYS_TURNSTAT F.SYS_TURNSTAT_OVRTOTAL).raise 2
  let eval := if bitOf bits 0 then 0xFF else ((d.turn.run.map TurnRun.evalUs).getD 0)
  ((d.timing 0x7FF eval).overrunEntry bits).overrunRun bits

/-- EVAL_DEADLINE (R27). -/
def Dev.evalDeadline (d : Dev) : Dev :=
  match d.turn.run with
  | some r => if r.phase = .evaluating then d.overrunTurn 1 else d
  | none => d

/-- COMMIT_DEADLINE (R27): a commit that lacks only the acknowledgement after the loss of the link completes
in the solo manner; one that lacks the device's own entries is an overrun whatever the peer has answered. -/
def Dev.commitDeadline (d : Dev) : Dev :=
  match d.turn.run with
  | none => d
  | some r =>
    match r.phase with
    | .evaluating => d.overrunTurn 3
    | .committing => d.overrunTurn 2
    | .waiting =>
      if d.standby then d.overrunTurn 2
      else if d.commitLacks r = 4 ∧ (d.pair.lostNow ∨ !d.peerUp) then d.linksolo
      else d.overrunTurn (d.commitLacks r)
    | _ => d

/-! What the active sends on Q60 (R26, R358, R360, R380) -/

/-- Whether the device feeds a peer with its images and mirrors: a standby in service, or a rejoiner on the link. -/
def Dev.feedsPeer (d : Dev) : Bool :=
  d.role == 2 && d.linkUp && (d.peerUp || d.rdF R.PAR_ROLE F.PAR_ROLE_PEERROLE == 4)

/-- The blocks of Q60 that carry some bytes: 4096 bytes each, as many as the queue holds (R63). -/
def linkBlocks (b : List Byte) : List (List Byte) :=
  (List.range (min 40 ((b.length + 4095) / 4096))).map (fun k => slice b (4096 * k) 4096)

/-- Bytes sent on Q60 in blocks. -/
def Dev.send60 (d : Dev) (b : List Byte) : Dev := (linkBlocks b).foldl (fun d x => d.push 60 x none) d

/-- The input image at the active's latch, with its releases of the shared channels (R360, R366). -/
def Dev.sendImage (d : Dev) : Dev :=
  match d.turn.run with
  | some r => if d.feedsPeer then d.send60 (Config.imageBytes r.inp d.releases) else d
  | none => d

/-- The registers that the mirror's panel part names (R461). -/
def panelAddr (a : Nat) : Bool := a == R.PNL_REGMAP || a == R.PNL_PENDMAP || decide (0x160100 ≤ a ∧ a < 0x160500)

/-- The panel of the mirror (R461). -/
def Dev.ownPanel (d : Dev) : PanelMirror :=
  { words := ([R.PNL_REGMAP, R.PNL_PENDMAP] ++ (List.range 256).map (fun k => 0x160100 + 4 * k)).map (fun a => (a, d.rd a))
    content := d.pnl.content, hostLev := d.pnl.hostLev, test := d.pnl.test, running := d.pnl.runs.map Option.isSome }

/-- The mirror of the last completed turn (R26, R363). -/
def Dev.ownMirror (d : Dev) : Mirror :=
  { state := d.turn.cur, view := d.turn.view
    bases := d.phs.bases.map (fun x => (x.state, x.acc / 4096))
    trims := (List.range 8).map (fun n => d.rdF (R.XCH_TRIM n) F.XCH_TRIM_TRIM)
    prefs := (List.range 12).map (fun n => (d.qc n).pref)
    supplies := (List.range 16).map (fun n =>
      (d.rdF (R.LOP_SUPCTRL n) F.LOP_SUPCTRL_EN == 1, d.rdF (R.LOP_SUPCTRL n) F.LOP_SUPCTRL_STATE == 2,
        (d.li n).mirIsup, (d.li n).mirLim))
    levels := d.dio.want
    setpoints := (List.range 4).map (fun n =>
      ((d.lo n).sel, (d.lo n).sp, d.rdF (R.LOP_OSTS n) F.LOP_OSTS_LOWALT == 1))
    hostset := d.rd R.DIO_HOSTSET &&& hostsetMask false
    hostset31 := d.rd R.DIO_HOSTSET31 &&& hostsetMask true
    osets := (List.range 4).map (fun n => d.rdF (R.LOP_OSET n) F.LOP_OSET_SETPT)
    panel := d.ownPanel, wmark := d.jrn.wmark }

/-- The mirror goes to the peer from E on (R26): it is under way until MIRROR_DONE. -/
def Dev.mirrorSend (d : Dev) : Dev :=
  if d.feedsPeer then
    let n := d.turn.number
    (d.send60 (Config.mirrorBytes d.ownMirror)).setPair (fun p => { p with mirOut := some n })
  else d

/-! The latch of the device's own sources, and the commit -/

/-- The ROLE message of a turn (R349; log entry 20). -/
def Dev.roleMessage (d : Dev) : List Byte :=
  [0x03, byteOf d.role] ++ leBytes 6 d.turn.number ++ [byteOf (d.rdF R.PAR_ROLE F.PAR_ROLE_TOKEN)]

/-- A pending setpoint write of a loop output, judged with the selection of the turn (R204), and the entry of
one without effect. -/
def Dev.osetJudge (d : Dev) (n : Nat) : Dev × Option Entry :=
  match d.turn.run with
  | none => (d, none)
  | some r =>
    let p := d.prospect r
    d.loLatch n (selectSetpoint (p.orec n) (p.setIn n)).1

/-- The setpoint writes at a holder's latch. -/
def Dev.osetLatch (d : Dev) (n : Nat) : Dev :=
  let x := d.osetJudge n
  match x.2, d.turn.run with
  | some e, some r => x.1.happen { e with turn := r.inp.turn, tick := r.inp.tick }
  | _, _ => x.1

/-- What a commit sends to the peer: its entries and COMMITEND with the digest (R358, R360; log entry 20). -/
def Dev.sendCommit (d : Dev) (r : TurnRun) : Dev :=
  let d := r.formed.foldl (fun d e => d.push 61 e.bytes none) d
  d.push 61 ([0x09, 0] ++ leBytes 6 d.turn.number ++ r.digest) none

/-- The end of evaluation and the start of the commit (R21, R391). -/
def Dev.commitTurn (d : Dev) : Dev :=
  match d.turn.run with
  | none => d
  | some r =>
    if r.evalUs > 64 then d
    else
      let d := if r.held then d.heldTurn else d
      let d := (d.healthTurn).send63 d.roleMessage
      if d.role = 1 ∨ !d.peerUp then d.ownCommit r.commitUs
      else
        let dig := (d.prospect r).digest r
        let d := d.setRun (fun r => { r with phase := .waiting, digest := dig })
        d.sendCommit { r with digest := dig }

/-- A holder's sample latch, evaluation and the start of its commit (R16, R18, R19, R35, R437). -/
def Dev.ownLatch (d : Dev) (evalUs commitUs : Nat) : Dev :=
  let d := (d.drainCommands.domLatch).expackLatch
  let d := ((d.hostsetLatch false).hostsetLatch true).remoteLatch.qLatch
  let p := d.enterPool
  let d := p.2.evalTurn (p.2.inputImage p.1) evalUs commitUs
  let d := (List.range 4).foldl Dev.osetLatch d.sendImage
  d.commitTurn

/-! The emit -/

/-- Whether the emissions of a turn are withheld: in the safe state, and in an active that has declared a
dangerous fault with a standby in service (R389, R392). -/
def Dev.silent (d : Dev) : Bool := d.safe || (d.danger && d.role == 2 && d.peerUp)

/-- The levels and setpoints that the safe state withholds (R394). -/
def Dev.withhold (d : Dev) (r : TurnRun) : Dev :=
  if d.safe then
    let d := (List.range 32).foldl (fun d m => d.doWithhold r.inp.turn r.inp.tick m) d.doTake
    (List.range 4).foldl (fun d m => d.loWithhold r.inp.turn r.inp.tick m (d.setIn m)) d
  else d

/-- Events and flags of an evaluation, at the emit of its turn, with those of a swap before it (R251, R280, R281). -/
def Dev.evalEvents (d : Dev) (acc : Acc) : Dev :=
  let fs := d.turn.swapFlags
  let d := (fs ++ acc.flags).foldl (fun d f => d.flag f.1 f.2) (d.setTurn (fun t => { t with swapFlags := [] }))
  acc.evs.foldl Dev.raise (if fs.contains (R.LAT_GSTAT, 1) then d.raise 136 else d)

/-- A Q51 element takes the turn number of its emit (R200). -/
def Place.stamped (p : Place) (turn : Nat) : Place :=
  if p.queue = 51 then { p with bytes := p.bytes.take 12 ++ leBytes 4 turn ++ p.bytes.drop 16 } else p

/-- The placement of an accepted command or completion in its queue (R23, R200, R287). -/
def Dev.placeOut (d : Dev) (p : Place) : Dev :=
  let p := p.stamped d.turn.number
  if 4 ≤ p.queue ∧ p.queue < 16 then d.placeOther p
  else if 16 ≤ p.queue ∧ p.queue < 32 then
    let d := match p.ref with | some ref => d.hartAccept (p.queue - 16) p.bytes ref | none => d
    if d.holder then d.push p.queue p.bytes p.ref else d
  else if !d.holder then d
  else if p.queue = 51 then d.notify 51 p.bytes 99
  else d.push p.queue p.bytes p.ref

/-- The outputs, setpoints and panel requests of an emit (R203, R218, R454). -/
def Dev.emitLevels (d : Dev) : Dev :=
  let d := d.doEmitAll
  let d := (List.range 4).foldl (fun d n => d.loEmit n (d.setIn n)) d
  d.pnlEmit

/-- A standby's comparisons at its emit (R206, R221). -/
def Dev.emitCompare (d : Dev) : Dev :=
  if d.standby then (List.range 4).foldl Dev.loCompare d.doCompare else d

/-- The frames of an emit (R23, R328, R339): a held turn sends only those of the entries it commits. -/
def Dev.emitFrames (d : Dev) (r : TurnRun) : Dev :=
  let d := d.turn.toEmit.foldl Dev.placeEntry d
  let d := (d.turn.places.foldl Dev.placeOut d).setTurn (fun t => { t with places := [] })
  if r.held then d else (r.acc.frames.foldl Dev.placeOther d).heartbeats

/-- The emissions of a completed turn, all at once (R23, R24). -/
def Dev.emissions (d : Dev) (r : TurnRun) : Dev :=
  let d := if d.silent then d.withhold r else ((d.emitLevels).emitFrames r).emitCompare
  d.setTurn (fun t => { t with toEmit := [], places := [] })

/-- What the registers show from the emit on, export, and EV1 (R41, R42, R302). -/
def Dev.emitShow (d : Dev) : Dev :=
  (((d.latShow.setTurn (fun t => { t with hpGone := [] })).jrnShow).exportAll).raise 1

/-- EMIT (R23, R26): a turn whose commit has not completed emits nothing; the active's mirror starts at E. -/
def Dev.emit (d : Dev) : Dev :=
  match d.turn.run with
  | none => d
  | some r =>
    if r.phase = .completed ∧ !r.emitted then
      let d := if r.held then d else d.evalEvents r.acc
      (((d.emissions r).setRun (fun r => { r with emitted := true })).emitShow).mirrorSend
    else d

end Sys2Proof.Machine
end

