-- ==== Sys2Proof/Machine/Focus.lean ====
section
/-!
DEFINITION. The steps of evaluation that the table also lists by themselves: one alarm, rate window, timer cell, host
point, chain, the watch, the duty and the stations. They are parts of the evaluation of a turn (R18, R231, R253, R257,
R260), and such a command computes its one part of the turn in hand: that part of the turn's next state is what
evaluation gives from the turn's own input image and the state of the last completed turn. Entries and events are
those of the evaluation and come with it at the turn's commit and emit (R20, R251, R280, R281; log entry 33).
-/
namespace Sys2Proof.Machine

/-- One part of the turn in hand, by evaluation (R18): `part new s` is `s` with that part as in `new`. An overrun turn
and a held turn have no next state (R28, R297); a completed one is the device's own. -/
def Dev.evalPart (d : Dev) (part : EvalState → EvalState → EvalState) : Dev :=
  match d.turn.run with
  | none => d
  | some r =>
    if r.held ∨ r.phase = .overrun then d
    else
      let new := (evaluate d.image r.inp r.last).1
      let d := d.setRun (fun r => { r with next := part new r.next })
      if r.phase = .completed then d.setTurn (fun t => { t with cur := part new t.cur }) else d

/-- The state with one point changed from another state's. -/
def ptPart (p : Nat) (f : Pt → Pt → Pt) (new s : EvalState) : EvalState :=
  { s with pts := upd s.pts p (f (new.pts.getD p Pt.empty)) }

/-- The state with its belfry changed from another state's. -/
def belPart (f : Belfry → Belfry → Belfry) (new s : EvalState) : EvalState := { s with bel := f new.bel s.bel }

/-- ALARM_DELAY_EXPIRE (R234, R239): the alarm of kind `k` of a point, its condition and delay with its state. -/
def Dev.alarmDelay (d : Dev) (p k : Nat) : Dev :=
  d.evalPart (ptPart p (fun new s =>
    { s with al := upd s.al k (fun _ => new.al.getD k ⟨stUnused, false, false, false, 0⟩) }))

/-- RATE_WINDOW (R234): the rate quantity of a point. -/
def Dev.rateWindow (d : Dev) (p : Nat) : Dev :=
  d.evalPart (ptPart p (fun new s => { s with rq := new.rq, rqv := new.rqv, yref := new.yref, refv := new.refv }))

/-- HOST_POINT_STALE (R245): the status of a host point. -/
def Dev.hostPointStale (d : Dev) (h : Nat) : Dev :=
  d.evalPart (fun new s =>
    { s with hps := upd s.hps h (fun x => { x with status := (new.hps.getD h HostPt.empty).status }) })

/-- TIMER_CELL_EXPIRE (R258): a timer cell. -/
def Dev.timerExpire (d : Dev) (t : Nat) : Dev :=
  d.evalPart (fun new s => { s with timers := upd s.timers t (fun _ => new.timers.getD t Timer.empty) })

/-- A chain of a belfry as in another. -/
def chainPart (c : Nat) (new b : Belfry) : Belfry :=
  { b with chains := upd b.chains c (fun _ => new.chains.getD c Chain.empty)
           nodutyChain := upd b.nodutyChain c (fun _ => new.nodutyChain.getD c false) }

/-- CHAIN_ESCALATE and CHAIN_REARM (R267): the step of a chain. -/
def Dev.chainDue (d : Dev) (c : Nat) : Dev := d.evalPart (belPart (chainPart c))

/-- WATCH_PRE, WATCH_EXPIRE and WATCH_CONTACT_RESET (R269): the watch and its count. -/
def Dev.watchDue (d : Dev) : Dev := d.evalPart (belPart (fun new b => { b with wst := new.wst, wc := new.wc }))

/-- STATION_PRESS (R264, R265): the chains that a station accepts, and the ACK commands for the next turn. -/
def Dev.stationPress (d : Dev) (k : Nat) : Dev :=
  let r := d.image.belf.stations.getD k StationRec.empty
  d.evalPart (belPart (fun new b =>
    { (stationChains d.image r).foldl (fun b c => chainPart c new b) b with acks := new.acks }))

/-- DUTY_SWITCH_ACT (R261): the duty with the switch's reading. -/
def Dev.dutySwitchAct (d : Dev) : Dev :=
  d.evalPart (belPart (fun new b =>
    { b with duty := new.duty, lastsrc := new.lastsrc, swLast := new.swLast, swValid := new.swValid }))

/-- DUTY_SCHEDULE_ACT (R263): the duty with the schedule's time. -/
def Dev.dutyScheduleAct (d : Dev) : Dev :=
  d.evalPart (belPart (fun new b =>
    { b with duty := new.duty, lastsrc := new.lastsrc, lvalid := new.lvalid, lL := new.lL, hold := new.hold }))

end Sys2Proof.Machine
end

