-- ==== Sys2Proof/Machine/Token.lean ====
section
/-!
DEFINITION. The token (R346 to R351, R371 to R373): PAIR entries, the loss and the gain of the token with all
that the chapters tie to it, and the turn in progress at a gain.
-/
namespace Sys2Proof.Machine

/-- A PAIR entry of the device that has the active role, with its flag, count and event (R308, R381, R383). -/
def Dev.formPair (d : Dev) (code : Nat) (data : List Byte) : Dev :=
  if !d.holder then d
  else
    let d := d.happen (pairEntry code data)
    match code with
    | 0x2 => (d.incF R.PAR_CNT F.PAR_CNT_CASTLES).flagEv R.PAR_STAT 1 194
    | 0x3 => (d.incF R.PAR_CNT F.PAR_CNT_DISAGREES).flagEv R.PAR_STAT 2 195
    | 0x7 => d.raise 203
    | 0x8 => d.raise 201
    | 0xB => d.flagEv R.PAR_STAT 7 204
    | _ => d

/-- Whether a device's checks count as passed: every check that ran (R369). -/
def checksPass (r : Nat × Nat) : Bool := r.1 &&& r.2 == r.2

/-- The SELFTEST data (R381) of a castling: the masks of a device that sent no results read 0. -/
def Pair.selftest (p : Pair) (active standby : Option (Nat × Nat)) : List Byte :=
  let a := active.getD (0, 0)
  let s := standby.getD (0, 0)
  [byteOf p.cause] ++ leBytes 6 p.turnN ++ [byteOf a.1, byteOf a.2, byteOf s.1, byteOf s.2]

/-- The CASTLE data (R381): cause, old and new PAIR_ID, and the new active's certificate from byte 8. -/
def Dev.castleData (d : Dev) (cause : Nat) : List Byte :=
  let own := d.rdF R.PAR_ROLE F.PAR_ROLE_IDHI
  [byteOf cause, byteOf (1 - own), byteOf own, 0, 0, 0] ++ (sha256 Config.certificate).take 16

/-- The castling is over. -/
def Dev.castleEnd (d : Dev) : Dev :=
  d.setPair (fun p => { p with castle := 0, ownRes := none, peerRes := none })

/-- The device stops every holder function (R371): outputs, loops, frames, HART, panel, excitation and supplies,
input switches; the turn in hand ends with nothing. -/
def Dev.tokenLoss (d : Dev) : Dev :=
  let d := (d.wrF R.PAR_ROLE F.PAR_ROLE_HOLD 1).setRole 0
  let d := d.wrFs R.PAR_ROLE [(F.PAR_ROLE_TOKEN, 0), (F.PAR_ROLE_LINE, 1), (F.PAR_ROLE_PEERUP, 0)]
  let d := (((d.fLoss.doLoss).loLoss).canLoss).hartLoss
  let d := ((d.qRoleChange).qSwitches).uRoleChange
  (d.castleEnd).setTurn (fun t => { t with run := none, toEmit := [], places := [] })

/-- The holder functions start (R371, and each chapter's text on a gain of the token): the levels of the last
committed turn, setpoints, frames owed, functions, HART, panel; export restarts at W (R302). -/
def Dev.holderStart (d : Dev) (resync : Bool) : Dev :=
  let d := ((d.fGain.doGain).loGain).canGain resync
  let d := (((d.hartTakeover).qRoleChange).qSwitches).uRoleChange
  (d.pnlGain).setJrn (fun j => { j with exported := j.wmark })

/-- The turn in progress at a gain (R373): a turn evaluated and not acknowledged completes in the solo manner;
one that has no evaluation yet is latched from the device's own sources, if its commit can still complete. The
spec gives its durations nowhere: they are free (log entry 27). -/
def Dev.gainTurn (d : Dev) : Dev :=
  match d.turn.run with
  | some r =>
    if r.phase = .waiting then
      if d.sinceStart ≤ d.commitLimit then d.complete d.sinceStart else d.overrunTurn 2
    else d
  | none =>
    if d.turnsRun ∧ d.turn.number ≠ 0 ∧ d.sinceStart < d.commitLimit then
      let u := d.freeVal 6
      u.2.ownLatch u.1 (d.sinceStart + u.1)
    else d

/-- The gain of the token by a standby (R371, R373): the outcome of a castling, a planned castling, or a
castling by the reset of the active, each with its entries. -/
def Dev.tokenGain (d : Dev) : Dev :=
  let p := d.pair
  let byTest := p.castle == 3
  let d := d.wrFs R.PAR_ROLE [(F.PAR_ROLE_TOKEN, 1), (F.PAR_ROLE_LINE, 0), (F.PAR_ROLE_HOLD, 1),
    (F.PAR_ROLE_PEERUP, 0)]
  let d := (d.setRole 2).holderStart false
  let d := if byTest then d.formPair 0x4 (p.selftest p.peerRes p.ownRes) else d
  let d := d.formPair 0x2 (d.castleData (if byTest then p.cause else 0))
  let d := match p.planned, p.plannedTurn with
    | some c, some m => d.formPair 0xC ([byteOf c] ++ leBytes 6 m)
    | _, _ => d
  let d := if byTest then d
    else d.wrFs R.PAR_CASTLE [(F.PAR_CASTLE_CAUSE, 0), (F.PAR_CASTLE_OUTCOME, 0), (F.PAR_CASTLE_OWNRES, 0),
      (F.PAR_CASTLE_PEERRES, 0), (F.PAR_CASTLE_TURN, d.turn.number)]
  let d := (d.castleEnd).setPair (fun p => { p with planned := none, plannedTurn := none, found := 0 })
  let d := d.gainTurn
  if byTest then d.send63 [0x07] else d

end Sys2Proof.Machine
end

