-- ==== Sys2Proof/Machine/Reset.lean ====
section
/-!
DEFINITION. A reset of the digital die (R6, R296, R371, R444, R499, R500): what it keeps, its cause, and the
hand-over of the token at its entry.
-/
namespace Sys2Proof.Machine

/-- The registers that every reset of the digital die keeps, with the bits kept: the dome (R444), the vault's
identity and life, the power block's measurements and history, the strap. -/
def keptAlways : List (Nat × Word) :=
  [(R.DOM_STAT, 0xC000), (R.DOM_TICK_HI, 0xFFFF), (R.DOM_ZONE, 0xFFF), (R.DOM_SLEW, 0xFFFF)]
    ++ (List.range 2).flatMap (fun a =>
      [(R.DOM_ALMCFG a, 0x3F), (R.DOM_ALMCMP_LO a, 0xFFFFFFFF), (R.DOM_ALMCMP_HI a, 0xFFFF)])
    ++ (List.range 32).map (fun k => (R.DOM_BKP k, 0xFFFFFFFF))
    ++ [(R.VLT_STAT, 0x47), (R.VLT_CTR, 0xFFFFFFFF)]
    ++ (List.range 4).map (fun s => (R.VLT_OWN s, 0xFFFFFFFF))
    ++ (List.range 8).map (fun k => (R.VLT_NONCE k, 0xFFFFFFFF))
    ++ [(R.PWR_STAT, 0xF00), (R.PWR_FEEDFLG, 0x1F1F), (R.PAR_ROLE, 0x1A00)]

/-- The registers that every reset but POWERON keeps: counts since power-on, the warning history, the last
fault, and the AMON selections (R126). -/
def keptWarm : List (Nat × Word) :=
  [(R.PWR_PFW, 0xFFFFFFFF), (R.PWR_RSTCAUSE, 0xFFFFFFFF), (R.SYS_TURNSTAT, 0xFFFF00),
   (R.JRN_REFUSED, 0xFFFFFFFF), (R.WTC_LASTFAULT, 0xFFFFFFFF), (R.WTC_COUNT, 0xFFFF0000),
   (R.WTC_TEMP, 0xFFFFFFFF)] ++ (List.range 2).map (fun m => (R.UIN_AMON m, 0xFFFFFFFF))

/-- The register file after a reset: each register at its reset word but for the bits kept. -/
def keepRegs (regs : List (Nat × Word)) (kept : List (Nat × Word)) : List (Nat × Word) :=
  kept.foldl (fun r x => regSet r x.1 ((resetWord x.1 &&& ~~~ x.2) ||| (regGet regs x.1 &&& x.2))) []

/-- Whether a source goes on driving an AMON output through a reset (R126, R128): an RTD, a bridge or an excitation
source lacks its excitation unless the peer's goes on, a charge channel is off, and a loop input or another universal
input stays. -/
def Dev.amonStays (d : Dev) (src : Nat) : Bool :=
  if src < 48 then
    let mode := (d.urec src).mode
    mode != 0 && (!(mode == 2 || mode == 4) || !d.holder && d.excited src)
  else if 0x50 ≤ src ∧ src < 0x58 then !d.holder && d.amonValid src
  else decide (0x70 ≤ src ∧ src < 0x80) && (d.lrec (src - 0x70)).mode != 0

/-- The AMON outputs that a reset leaves driving: a reset before an image has applied leaves those of the last one. -/
def Dev.amonThrough (d : Dev) : List Bool :=
  if d.uin.connected then (List.range 2).map (fun m => d.amonStays (d.rdF (R.UIN_AMON m) F.UIN_AMON_SRC))
  else d.uin.amonKept

/-- The device in reset: what the reset keeps, every other part as its chapter states for a reset. -/
def Dev.resetDie (d : Dev) (warm : Bool) : Dev :=
  let kept := if warm then keptAlways ++ keptWarm else keptAlways
  let drop := fun (s : ImgSlot) => if s.ok.isNone then { s with mem := [], written := [] } else s
  let loading := d.rdF R.VLT_STGSTAT F.VLT_STGSTAT_STATE
  let spare := 1 - d.rdF R.VLT_STAT F.VLT_STAT_ACTSLOT
  { Dev.reset with
    clk := d.clk, free := d.free, regs := keepRegs d.regs kept
    jrn := { d.jrn with ing := List.replicate 8 [], outside := [], wbuf := [], wthru := false
                        shownH := 0, shownW := 0, shownC := 0 }
    vault := { d.vault with swapReq := false, swapTurn := none, swapOk := false, decomm := none
                            images := if loading = 1 ∨ loading = 2 then upd d.vault.images spare drop
                              else d.vault.images }
    uin := if warm then
        { Dev.reset.uin with
            amonKept := d.amonThrough, refAt := d.uin.refAt
            chans := d.uin.chans.map (fun c => { UChan.empty with clamp := c.clamp, clampDue := c.clampDue }) }
      else Dev.reset.uin
    can := { Dev.reset.can with since := d.clk }
    wtc := { Tower.empty with resets := if warm then d.wtc.resets else [] }
    dom := { d.dom with load := none, lastTick := 0, setVal := 0, changed := false }
    pwr := { d.pwr with boot := 1, saved := [], sleepMask := none } }

/-- The cause of a reset, as PWR_RSTCAUSE keeps it (R499). -/
def Dev.setCause (d : Dev) (cause detail : Nat) (nowarn : Bool) : Dev :=
  d.wr R.PWR_RSTCAUSE (packF [(F.PWR_RSTCAUSE_DETAIL, detail), (F.PWR_RSTCAUSE_NOWARN, b2n nowarn),
    (F.PWR_RSTCAUSE_CAUSE, cause)])

/-- A reset other than POWERON (R500): the write buffer drains and the seal is written, the token is handed
over, and the digital die enters reset. -/
def Dev.resetAs (d : Dev) (cause detail : Nat) : Dev :=
  let d := if d.pwr.boot = 3 then d.flush else d
  let held := d.rdF R.PAR_ROLE F.PAR_ROLE_TOKEN == 1
  let d := if held then d.tokenLoss else d
  let d := (d.resetDie true).setCause cause detail false
  if held then d.wrF R.PAR_ROLE F.PAR_ROLE_HOLD 1 else d

end Sys2Proof.Machine
end

