-- ==== Sys2Proof/Machine/Pair.lean ====
section
/-!
DEFINITION. The pair (R346 to R383): what a standby does with an input image, the entries, the mirror and the
health reports of the active; acknowledgement; castling; the link's blocks; rejoin. Messages on Q63 have the
layouts of R362 and R398 and of log entry 20.
-/
namespace Sys2Proof.Machine

/-! The acknowledgement (R360, R362, R365) -/

/-- ACK or NAK (R362): cause 0 for ACK. -/
def Dev.ackMessage (d : Dev) (cause : Nat) (es : List LEntry) (digest : List Byte) : List Byte :=
  padTo 64 ([if cause = 0 then 0x01 else 0x02, byteOf cause] ++ leBytes 6 d.turn.number
    ++ leBytes 8 (((es.getLast?).map LEntry.seq).getD (d.jrn.next - 1)) ++ leBytes 2 es.length
    ++ List.replicate 6 0 ++ padTo 8 digest
    ++ padTo 8 (Config.stateDigest (((d.turn.run.map TurnRun.last)).getD d.turn.cur)))

/-- The kinds that a standby recomputes from the input image (R293). -/
def recomputed (e : LEntry) : Bool := decide (e.kind ≤ 0x20)

/-- Whether the entries of the active follow on a journal: SEQ by SEQ, each CHAIN right (R288). -/
def follows : Nat → List Byte → List LEntry → Bool
  | _, _, [] => true
  | seq, prev, e :: es => e.seq == seq && chainHolds prev e && follows (seq + 1) e.chain es

/-- Whether the active's entries are those that the standby formed (R293). -/
def Dev.sameEntries (d : Dev) (es own : List LEntry) : Bool :=
  follows d.jrn.next d.jrn.chain es
    && (es.filter recomputed).map (fun e => slice e.bytes 8 48) == (own.filter recomputed).map (fun e => slice e.bytes 8 48)

/-- Entries received on Q61, by the SEQ in their bytes (R285). -/
def received (es : List (List Byte)) : List LEntry := es.map (fun b => ⟨uAt b 0 8, padTo 64 b⟩)

/-- A checkpoint among received entries, against the standby's own copy of its segment (R291). -/
def Dev.checkpointSeen (d : Dev) (es : List LEntry) : Dev :=
  match es.find? (fun e => e.kind = 0x7E), es.find? (fun e => e.kind = 0x7F), d.jrn.unsigned with
  | some r, some t, s :: _ =>
    let seg := d.jrn.segmentEntries s
    let last := ((seg.getLast?).map LEntry.chain).getD (List.replicate 8 0)
    if Config.ecdsaVerify Config.peerCertificate (checkpointMessage (r.bytes.take 24) last seg) (r.payload ++ t.payload)
    then d
    else (d.flagEv R.JRN_STAT 8 158).happen (secEntry 0x000F (leBytes 8 t.seq))
  | _, _, _ => d

/-- The turn in hand is the first castling turn (R368): its results are discarded, a swap is abandoned (R416). -/
def Dev.castleBegin (d : Dev) (cause : Nat) : Dev :=
  let n := d.turn.number
  let d := (d.incF R.PAR_CNT F.PAR_CNT_MISCOMPS).flagEv R.PAR_STAT 0 193
  let d := d.setPair (fun p => { p with
    castle := 1, turnN := n, cause := cause, found := 0, ownRes := none, peerRes := none })
  (d.setRun (fun r => { r with phase := .castling })).swapAbandon

/-- Whether the last health report of the peer shows a dangerous fault, or none came for two turns (R365). -/
def Dev.peerSick (d : Dev) : Bool := bitOf (byteAt d.pair.health 8) 0 || decide (d.pair.healthAge ≥ 2)

/-- The cause of a miscompare at a commit, 0 for none (R365; log entry 28). -/
def Dev.miscompare (d : Dev) (es : List LEntry) (r : TurnRun) (digest own : List Byte) : Nat :=
  if d.peerSick then 6
  else if !d.sameEntries es r.formed then 1
  else if digest != own then 2
  else d.pair.found

/-- COMMITEND at a standby (R360, R365): it stores and acknowledges the active's entries, or answers NAK. A
rejoiner stores them (R380). A standby with a dangerous fault does not answer (R389). -/
def Dev.commitEnd (d : Dev) (turn : Nat) (entries : List (List Byte)) (digest : List Byte) : Dev :=
  let es := received entries
  if d.role = 4 then
    if d.pair.rejReady ∧ follows d.jrn.next d.jrn.chain es then d.acceptAll es else d
  else if d.role ≠ 3 ∨ d.danger ∨ turn ≠ d.turn.number then d
  else
    match d.turn.run with
    | none => d
    | some r =>
      if r.phase ≠ .waiting then d
      else
        let own := (d.prospect r).digest { r with formed := es }
        let cause := d.miscompare es r digest own
        if cause = 0 then
          let d := (d.checkpointSeen es).send63 (d.ackMessage 0 es own)
          d.completeWith es d.sinceStart
        else (d.send63 (d.ackMessage cause es own)).castleBegin cause

/-- Whether a message names the turn in hand. -/
def Dev.namesTurn (d : Dev) (bytes : List Byte) : Bool := uAt bytes 2 6 == d.turn.number % 2 ^ 48

/-- ACK_MSG (R21, R27, R360, R362): the commit completes once the device's own entries are in the write buffer too; a
digest that differs is a link integrity fault. -/
def Dev.ackMsg (d : Dev) (bytes : List Byte) : Dev :=
  match d.turn.run with
  | none => d
  | some r =>
    if d.role ≠ 2 ∨ r.phase ≠ .waiting ∨ byteAt bytes 0 ≠ 1 ∨ !d.namesTurn bytes then d
    else if d.sinceStart > d.commitLimit then d.overrunTurn (d.commitLacks r)
    else if slice bytes 24 8 != r.digest then d.linkLost.linksolo
    else if d.commitLimit < r.commitUs then d.setRun (fun r => { r with acked := true })
    else d.ownCommit d.sinceStart

/-- NAK_MSG (R368): also after the commit deadline the turn's commit ends in the NAK. -/
def Dev.nakMsg (d : Dev) (bytes : List Byte) : Dev :=
  match d.turn.run with
  | none => d
  | some r =>
    if d.role ≠ 2 ∨ !(r.phase = .waiting ∨ r.phase = .overrun) ∨ byteAt bytes 0 ≠ 2 ∨ !d.namesTurn bytes then d
    else d.castleBegin (byteAt bytes 1)

/-! The loss of the standby -/

/-- The active goes on without a standby (R364, R367): a commit that waits for it completes. -/
def Dev.standbyGone (d : Dev) (reason : Option Nat) : Dev :=
  if d.role ≠ 2 ∨ !d.peerUp then d
  else
    let d := (d.wrF R.PAR_ROLE F.PAR_ROLE_PEERUP 0).setPair (fun p => { p with planned := none, plannedTurn := none })
    let d := d.wrF R.VLT_STGSTAT F.VLT_STGSTAT_PEERRDY 0
    let d := match reason with
      | some x => d.formPair 0x7 [byteOf x]
      | none => d
    match d.turn.run with
    | some r => if r.phase = .waiting then d.ownCommit d.sinceStart else d
    | none => d

/-- A standby, or a rejoiner, that shows a dangerous fault or sends no report is reset (R367, R389). -/
def Dev.resetPeer (d : Dev) : Dev := (d.send63 [0x07]).standbyGone (some 1)

/-- HEALTH_MSG (R367, R391). -/
def Dev.healthMsg (d : Dev) (bytes : List Byte) : Dev :=
  let d := d.setPair (fun p => { p with health := bytes, healthAge := 0 })
  if d.role = 2 ∧ d.pair.castle = 0 ∧ bitOf (byteAt bytes 8) 0 then d.resetPeer else d

/-- HEALTH_TIMEOUT (R365, R367). -/
def Dev.healthTimeout (d : Dev) : Dev :=
  if d.pair.healthAge < 2 ∨ d.pair.castle ≠ 0 then d
  else if d.role = 2 ∧ d.peerUp then d.resetPeer
  else if d.standby then d.setPair (fun p => { p with found := 6 })
  else d

/-- ROLE_MSG (R349, R363, R374, R378): both tokens held, or a standby that has left. -/
def Dev.roleMsg (d : Dev) (bytes : List Byte) : Dev :=
  let peer := byteAt bytes 1 % 8
  let d := d.wrF R.PAR_ROLE F.PAR_ROLE_PEERROLE peer
  if d.role ≠ 2 then d
  else if byteAt bytes 8 = 1 then
    if d.rdF R.PAR_ROLE F.PAR_ROLE_IDHI = 1 then
      (d.tokenLoss.wrF R.PAR_ROLE F.PAR_ROLE_LINE 0).flagEv R.PAR_STAT 7 204
    else d.formPair 0xB [1]
  else if peer = 0 then d.standbyGone (some (if d.pair.castle = 0 then 3 else 4))
  else if peer = 4 then d.standbyGone none
  else d

/-- RESETCMD_MSG (R367, R370, R499). -/
def Dev.resetcmdMsg (d : Dev) : Dev := if d.pwr.boot = 3 ∧ d.image.pair.mode = 1 then d.resetAs 5 0 else d

/-- HAPPEN_MSG (R293): a standby's happening enters Q39. -/
def Dev.happenMsg (d : Dev) (kind : BitVec 8) (payload : List Byte) : Dev :=
  if d.role = 2 then d.happen (outEntry kind.toNat 4 7 payload) else d

/-- The happenings that wait outside evaluation travel to the active (R293). -/
def Dev.sendHappenings (d : Dev) : Dev :=
  if d.linkUp then
    let d' := d.jrn.outside.foldl (fun d e => d.send63 ([0x08, byteOf e.kind] ++ e.payload)) d
    d'.setJrn (fun j => { j with outside := [] })
  else d

/-! Castling (R368 to R374) -/

/-- TFST in µs (R369). -/
def Dev.tfst (d : Dev) : Nat := min 2000 (20 * d.image.phsb.tlen - d.image.phsb.emit - 100)

/-- The checks that TFST reaches, in their order (R369). -/
def runMask (tfst : Nat) : Nat :=
  (List.zip (List.range 6) [300, 310, 410, 810, 1200, 2000]).foldl
    (fun m x => if x.2 ≤ tfst then m + 2 ^ x.1 else m) 0

/-- Whether checks 2 and 3 of R369 fail, as a mask: a clock or feed fault of the watchtower (codes 0x01 to 0x03 and
0x0D; DEDUCED, log entry 28); a failed REFCHK of an enabled converter, or CHFAULT of a powered charge channel. -/
def Dev.checksFailed (d : Dev) : Nat :=
  let clock := d.danger && [0x01, 0x02, 0x03, 0x0D].contains (d.rdF R.WTC_FAULT F.WTC_FAULT_CODE)
  let ref := (List.range 4).any (fun m => (d.uconv m).mode != 0 && (d.scan m).refBad)
  let chan := (List.range 12).any (fun n => (d.qrec n).acq.pwren && (d.qc n).lastOut == 6)
  2 * b2n (clock || d.rdF R.SYS_CLKSTAT F.SYS_CLKSTAT_FAULT != 0) + 4 * b2n (ref || chan)

/-- FAST_SELFTEST_DONE (R369, R390): STRES is sent. `res` holds the failed checks of those that the device's hardware
judges; checks 2 and 3 are judged here. With a dangerous fault every check counts as failed. -/
def Dev.selftestDone (d : Dev) (res : BitVec 6) : Dev :=
  if !(d.pair.castle = 1 ∨ d.pair.castle = 2) ∨ d.pair.ownRes.isSome then d
  else
    let run := runMask d.tfst
    let pass := if d.danger then 0 else (63 - (res.toNat ||| d.checksFailed)) &&& run
    let d := d.setPair (fun p => { p with ownRes := some (pass, run) })
    d.send63 ([0x04, 0] ++ leBytes 6 d.pair.turnN ++ [byteOf pass, byteOf run])

/-- STRES_MSG (R370). -/
def Dev.stresMsg (d : Dev) (bytes : List Byte) : Dev :=
  if (d.pair.castle = 1 ∨ d.pair.castle = 2) ∧ uAt bytes 2 6 = d.pair.turnN % 2 ^ 48 then
    d.setPair (fun p => { p with peerRes := some (byteAt bytes 8 % 64, byteAt bytes 9 % 64) })
  else d

/-- PAR_CASTLE of a castling by miscompare: the row of R370 by the verdicts on the active and the standby. -/
def Dev.castleShow (d : Dev) (active standby : Bool) : Dev :=
  let p := d.pair
  d.wrFs R.PAR_CASTLE [(F.PAR_CASTLE_CAUSE, p.cause), (F.PAR_CASTLE_OUTCOME, b2n (!active) + 2 * b2n (!standby)),
    (F.PAR_CASTLE_OWNRES, (p.ownRes.getD (0, 0)).1), (F.PAR_CASTLE_PEERRES, (p.peerRes.getD (0, 0)).1),
    (F.PAR_CASTLE_TURN, p.turnN)]

/-- The verdict on a device's checks; a device that sent none is not failed by them. -/
def verdict (r : Option (Nat × Nat)) : Bool := checksPass (r.getD (0, 0))

/-- The safe state of an active whose castling ends with the token still held while a dangerous fault stands
(R390). -/
def Dev.safeIfDanger (d : Dev) : Dev := if d.danger ∧ d.holder then d.safeState (d.rdF R.WTC_FAULT F.WTC_FAULT_CODE) else d

/-- CASTLING_DECIDE at the active (R370, R374, R390). -/
def Dev.decideActive (d : Dev) : Dev :=
  let p := d.pair
  let own := verdict p.ownRes && !d.danger
  let st := p.selftest p.ownRes p.peerRes
  if p.peerRes = none then
    let d := d.castleShow own true
    if own ∨ (d.linkUp && !d.peerUp) then (d.formPair 0x4 st).castleEnd.safeIfDanger
    else d.tokenLoss.resetAs 3 0x23
  else
    let peer := verdict p.peerRes
    let d := d.castleShow own peer
    if own && peer then
      (((d.formPair 0x4 st).formPair 0x3 ([byteOf p.cause] ++ leBytes 6 p.turnN)).wrF R.PAR_ROLE F.PAR_ROLE_PEERUP 0).castleEnd
    else if own then
      let d := ((d.formPair 0x4 st).formPair 0x7 [2]).wrF R.PAR_ROLE F.PAR_ROLE_PEERUP 0
      (d.send63 [0x07]).castleEnd
    else if peer then d.tokenLoss
    else
      let d := (d.formPair 0x4 st).wrF R.PAR_ROLE F.PAR_ROLE_PEERUP 0
      ((d.send63 [0x07]).castleEnd.declare 0x23 0).safeIfDanger

/-- CASTLING_DECIDE at the standby (R370, R374): a pass over a failed active takes the token when it is free. -/
def Dev.decideStandby (d : Dev) : Dev :=
  let p := d.pair
  let own := verdict p.ownRes && !d.danger
  match p.peerRes with
  | none => (d.castleShow true own).castleEnd
  | some r =>
    let peer := checksPass r
    let d := d.castleShow peer own
    if own && peer then d.toRejoin.castleEnd
    else if own then d.setPair (fun p => { p with castle := 3 })
    else d.castleEnd

/-- A planned castling begins: an active with a standby in service. -/
def Dev.plan (d : Dev) (cause : Nat) : Dev :=
  (d.setPair (fun p => { p with planned := some cause, plannedTurn := none })).raise 207

/-- What an asserted EJECT_N does to a pair in service (R377, R378, R507): an active with a standby plans a
castling; a standby reports that it leaves, quiesces the link and goes to NONE. -/
def Dev.ejectEffect (d : Dev) : Dev :=
  if d.role = 2 ∧ d.peerUp then (if d.pair.planned.isNone then d.plan 1 else d)
  else if d.standby then
    let d := (d.setRole 0).wrF R.PAR_ROLE F.PAR_ROLE_PEERUP 0
    let d := (d.sendHappenings.send63 d.roleMessage).setTurn (fun t => { t with run := none })
    d.linkGone 0
  else d

/-- The end of a castling that leaves the device in its role: causes found in it are ignored, and an EJECT_N that
waited takes its effect (R374). -/
def Dev.afterCastle (d : Dev) : Dev :=
  if d.pair.castle ≠ 0 then d
  else
    let waits := d.pair.ejectWaits
    let d := d.setPair (fun p => { p with found := 0, ejectWaits := false })
    if waits then d.ejectEffect else d

/-- CASTLING_DECIDE (R370): in the second castling turn's wake. -/
def Dev.castlingDecide (d : Dev) : Dev :=
  if d.pair.castle ≠ 2 then d
  else if d.role = 2 then d.decideActive.afterCastle
  else if d.role = 3 then d.decideStandby.afterCastle
  else d.castleEnd

/-- TOKEN_FREE (R349, R373): a standby takes the token. -/
def Dev.tokenFree (d : Dev) (granted : Bool) : Dev := if d.standby ∧ granted then d.tokenGain else d

/-- PAIR_HOLD_RELEASE (R371). -/
def Dev.holdRelease (d : Dev) : Dev := d.wrF R.PAR_ROLE F.PAR_ROLE_HOLD 0

/-! Planned castling (R377) -/

/-- HANDOVER (R374, R377): a key-gated write, refused in castling and without a standby in service. -/
def Dev.handover (d : Dev) (sess : Nat) : Dev :=
  let g := d.passGate sess R.PAR_CMD
  let d := g.2
  if !g.1 then d
  else if d.role = 2 ∧ d.peerUp ∧ d.pair.castle = 0 ∧ d.pair.planned.isNone then d.plan 2
  else d.flag R.PAR_STAT 11

/-- The mirror that was under way has arrived: no block of it waits or is outstanding (R26, R355). -/
def Dev.mirrorArrived (d : Dev) : Dev :=
  if d.pair.mirOut.isNone then d
  else
    let d := d.setPair (fun p => { p with mirOut := none, blocks := p.blocks.filter (fun b => b.1 ≠ 60) })
    ((List.range (d.queue 60).length).foldl (fun d _ => d.pop 60) d).forwardStep

/-- MIRROR_DONE (R26, R377): the mirror is complete. When it is that of the planned turn, YIELD is sent and the token
handed over; the link is quiesced. Entries that no commit has taken pass to the other device (log entry 28). -/
def Dev.mirrorDone (d : Dev) : Dev :=
  let d := d.mirrorArrived
  match d.pair.planned, d.pair.plannedTurn, d.turn.run with
  | some c, some m, some r =>
    if d.role ≠ 2 ∨ !d.peerUp ∨ d.pair.castle ≠ 0 ∨ !r.emitted ∨ r.inp.turn ≠ m then d
    else
      let d := d.sendHappenings.send63 ([0x06, byteOf c] ++ leBytes 6 m)
      let d := d.setPair (fun p => { p with planned := none, plannedTurn := none })
      d.tokenLoss.linkGone 0
  | _, _, _ => d

/-- YIELD_MSG (R377): the gaining device takes the free token next. -/
def Dev.yieldMsg (d : Dev) (bytes : List Byte) : Dev :=
  if d.standby then
    d.setPair (fun p => { p with planned := some (byteAt bytes 1), plannedTurn := some (uAt bytes 2 6) })
  else d

/-! The mirror (R26, R363) -/

/-- The panel as the mirror shows it: elements of a region that runs there are UNKNOWN (R461). -/
def Dev.mirrorPanel (d : Dev) (m : PanelMirror) : Dev :=
  let d := (m.words.filter (fun x => panelAddr x.1 && (findRow x.1).isSome)).foldl (fun d x => d.wr x.1 x.2) d
  let d := d.setPnl (fun p => { p with content := m.content, hostLev := m.hostLev, test := m.test, redraw := false })
  (List.range d.image.panl.nreg).foldl (fun d r =>
    if m.running.getD r false then (d.pRegion r).1.foldl Dev.pLose d else d) d

/-- A complete mirror taken over (R26, R94, R151, R179, R194, R195, R203, R206, R221, R303). -/
def Dev.takeMirror (d : Dev) (m : Mirror) : Dev :=
  let d := d.setTurn (fun t => { t with cur := m.state, view := m.view })
  let d := { d with phs := { d.phs with mirror := m.bases } }
  let d := (List.range 8).foldl (fun d n =>
    let t := d.rdF (R.XCH_TRIM n) F.XCH_TRIM_TRIM
    d.setXc n (fun x => { x with mirTrim := (m.trims[n]?).filter (fun k => k != t) })) d
  let d := (List.range 12).foldl (fun d n => d.setQc n (fun c => { c with mirPref := m.prefs.getD n 0 })) d
  let d := (List.range 16).foldl (fun d n =>
    match m.supplies[n]? with
    | some (en, on, isup, lim) =>
      (d.wrF (R.LOP_SUPCTRL n) F.LOP_SUPCTRL_MEN (b2n en)).setLi n (fun x => { x with
        mirOn := on, mirIsup := isup, mirLim := lim })
    | none => d) d
  let d := (List.range 4).foldl (fun d n => d.wrF (R.LOP_OSET n) F.LOP_OSET_SETPT (m.osets.getD n 0)) d
  let d := (d.wrF R.DIO_HOSTSET F.DIO_HOSTSET_SET m.hostset.toNat).wrF R.DIO_HOSTSET31 F.DIO_HOSTSET31_SET m.hostset31.toNat
  let outs := d.image.dioc.outputs
  let d := d.setDio (fun c => { c with want := m.levels, recs := some (c.recs.getD outs) })
  let d := (List.range 4).foldl (fun d n =>
    match m.setpoints[n]? with
    | some (sel, sp, low) =>
      (d.wrF (R.LOP_OSTS n) F.LOP_OSTS_LOWALT (b2n low)).setLo n (fun o => { o with mir := some (sel, sp) })
    | none => d) d
  (d.mirrorPanel m.panel).setJrn (fun j => { j with wmark := m.wmark })

/-- MIRROR_BLOCK (R363): a standby compares the state of the turn with its own and takes the mirror over. The
spec gives the state that the digest covers no layout; states are compared whole (log entry 24). -/
def Dev.mirrorBlock (d : Dev) (turn : Nat) (m : Mirror) : Dev :=
  if d.role = 4 then (if d.pair.rejReady then d.takeMirror m else d)
  else if !d.standby ∨ d.pair.doneTurn ≠ some turn then d
  else
    let d := if d.turn.cur ≠ m.state ∧ d.pair.castle = 0 then d.setPair (fun p => { p with found := 4 }) else d
    (d.takeMirror m).setPair (fun p => { p with mirTurn := some turn, mirMiss := 0 })

/-- The mirror of the turn before at a standby's latch (R363): incomplete, it is counted, and MIRLIM in a row
send the standby to REJOINING. -/
def Dev.mirrorCheck (d : Dev) : Dev :=
  if d.pair.doneTurn ≠ some d.turn.number ∨ d.pair.mirTurn = d.pair.doneTurn then d
  else
    let d := (d.incF R.PAR_CNT F.PAR_CNT_MIRMISS).flagEv R.PAR_STAT 5 199
    let d := d.setPair (fun p => { p with mirMiss := p.mirMiss + 1 })
    if d.pair.mirMiss ≥ max d.image.pair.mirlim 1 then d.toRejoin else d

/-! The cross-check (R366) -/

/-- The register and bit that show a channel's failed cross-check; none for a DO readback. -/
def xBit (kind idx : Nat) : Option (Nat × Nat) :=
  match kind with
  | 0 => some (if idx < 32 then (R.PAR_XUI_LO, idx) else (R.PAR_XUI_HI, idx - 32))
  | 1 => some (R.PAR_XLX, 16 + idx)
  | 2 => some (R.PAR_XLX, idx)
  | 3 => some (R.PAR_XLX, 24 + idx)
  | 4 => some (R.PAR_XDI, idx)
  | 6 => some (R.PAR_XUI_HI, 16 + idx)
  | 7 => some (R.PAR_XUI_HI, 28 + idx % 4)
  | _ => none

/-- The data of an XCHECK entry (R381): statuses and values of the active and of this device. -/
def xData (kind idx a own : Nat) (differ act : Bool) (av ov : Int) : List Byte :=
  [byteOf kind, byteOf (if kind = 7 then idx % 4 + 1 else idx), byteOf a, byteOf own, byteOf (b2n differ + 2 * b2n act), 0]
    ++ leBytes 4 (pattern 32 av) ++ leBytes 4 (pattern 32 ov)

/-- One latch of a channel's run of differences (R366): at XPERS its bit sets with the XCHECK entry, and with
XACT it is a miscompare; without difference the bit clears. -/
def Dev.xJudgeChan (d : Dev) (kind idx : Nat) (data : Bool → List Byte) : Dev :=
  match d.xRun kind idx with
  | none =>
    match xBit kind idx with
    | some (a, b) => d.wrF a ⟨b, 1⟩ 0
    | none => d
  | some k =>
    let k := satInc 256 k
    let act := bitOf d.image.pair.xact.toNat kind
    let d := d.setXRun kind idx (some k)
    let d := if k ≠ d.image.pair.xpers then d
      else
        let d := match xBit kind idx with
          | some (a, b) => d.wrF a ⟨b, 1⟩ 1
          | none => d
        (d.flagEv R.PAR_STAT 6 200).happen (pairEntry 0xA (data act))
    if k ≥ d.image.pair.xpers ∧ act then d.setPair (fun p => { p with found := 5 }) else d

/-- COMPARE's register, bit and event of a kind: universal inputs and bases have none (R123, R174, R195, R216,
R157). -/
def xCompareReg (kind : Nat) : Option (Nat × Nat × Nat) :=
  match kind with
  | 1 => some (R.XCH_STAT, 16, 87)
  | 2 => some (R.LOP_STAT, 16, 95)
  | 4 => some (R.DIO_STAT, 1, 118)
  | 6 => some (R.QCH_STAT, 18, 77)
  | _ => none

/-- COMPARE of one shared channel (R123, R157, R174, R195, R216). -/
def Dev.xShow (d : Dev) (r : Release) (b : Bool) : Dev :=
  match xCompareReg r.kind with
  | some (a, k, ev) => d.xCompare r.kind r.index b a k ev
  | none => if !b then d.setXRun r.kind r.index none
    else if (d.xRun r.kind r.index).isSome then d else d.setXRun r.kind r.index (some 0)

/-- One shared channel: the active's release against this device's own (R366). -/
def Dev.xCheck (d : Dev) (r own : Release) : Dev :=
  match d.differs r own with
  | none => d
  | some b =>
    let d := d.xShow r b
    let vals := r.hasValue && own.hasValue && d.beyond r own.value
    d.xJudgeChan r.kind r.index (fun act => xData r.kind r.index (if r.kind = 7 then 0 else r.status)
      (if own.kind = 7 then 0 else own.status) vals act r.value own.value)

/-- The cross-check at a standby's latch: every shared channel of the input image, then the outputs that its
emits compare (R206, R221). -/
def Dev.crossCheck (d : Dev) (rel : List Release) : Dev :=
  let mine := d.releases
  let d := rel.foldl (fun d r =>
    match mine.find? (fun o => o.kind = r.kind && o.index = r.index) with
    | some o => d.xCheck r o
    | none => d) d
  let d := (List.range 4).foldl (fun d n => d.xJudgeChan 3 n (fun act => xData 3 n 0 0 true act
    (d.rdF (R.LOP_OACT n) F.LOP_OACT_ACTUAL : Nat) ((d.lo n).sp : Nat))) d
  (List.range 32).foldl (fun d m => d.xJudgeChan 5 m (fun act => xData 5 m 0 0 true act
    (b2n (bitOf (d.rd R.DIO_FB).toNat m) : Nat) (b2n (bitOf d.dio.want m) : Nat))) d

/-- A rejoiner compares its releases as a standby does (R174, R195, R216, R380); the persistence of R366 is a
standby's. -/
def Dev.rejoinCheck (d : Dev) (rel : List Release) : Dev :=
  let mine := d.releases
  rel.foldl (fun d r =>
    match mine.find? (fun o => o.kind = r.kind && o.index = r.index) with
    | some o => ((d.differs r o).map (d.xShow r)).getD d
    | none => d) d

/-! The standby's evaluation (R246, R360) -/

/-- Whether an entry records that the active's turn ended in an overrun for want of an acknowledgement (R29). -/
def ackLateOf (t : Nat) (e : Entry) : Bool :=
  e.kind == 0x30 && uAt e.payload 0 2 == 3 && uAt e.payload 2 6 == t % 2 ^ 48 && bitOf (byteAt e.payload 8) 2

/-- Whether an entry of the ingress after a commit, or one taken by it, stays when its turn is taken back: the
turn's own evaluation formed the others (R28). -/
def staysBack (t : Nat) (e : Entry) : Bool := e.outside || decide (e.turn < t)

/-- A standby's completed turn taken back (R27, R28, R360): its acknowledgement came too late. -/
def Dev.takeBack (d : Dev) (r : TurnRun) : Dev :=
  let d := d.drainAll
  let t := r.inp.turn
  let back := (r.take.taken.filter (staysBack t)).reverse
  let ing := back.foldl (fun l e => upd l e.ing (fun q => e :: q)) (r.take.ing.map (fun q => q.filter (staysBack t)))
  let d := d.setJrn (fun j => { j with
    ledger := j.ledger.filter (fun e => e.seq < r.head), next := r.head, chain := j.chainBefore r.head, ing := ing })
  let d := d.setJrn (fun j => (Journal.resegment j))
  let d := d.setCan (fun c => { c with chans := c.chans.map (fun x => { x with
    owed := x.owed.filter (fun s => decide (s < r.head))
    awaited := x.awaited.filter (fun y => y.2.seq.all (fun s => decide (s < r.head))) }) })
  d.setTurn (fun t => { t with cur := r.last, view := r.lastView, prev := none })

/-- The turn before is taken back when the input image brings its overrun. -/
def Dev.lateCheck (d : Dev) (inp : InImage) : Dev :=
  match d.turn.prev with
  | some r => if inp.outside.any (ackLateOf r.inp.turn) then d.takeBack r else d
  | none => d

/-- The host's levels and setpoint words of an input image: the standby judges the words as the active does, and
the active forms the entries (R204, R218). -/
def Dev.imageWrites (d : Dev) (inp : InImage) : Dev :=
  let d := (d.wrF R.DIO_HOSTSET F.DIO_HOSTSET_SET inp.hostset.toNat).wrF R.DIO_HOSTSET31 F.DIO_HOSTSET31_SET inp.hostset31.toNat
  (List.range 4).foldl (fun d n =>
    match inp.osets.getD n none with
    | some w => (({ d with wb := (R.LOP_OSET n, BitVec.ofNat 32 w, 0) :: d.wb.filter (fun x => x.1 ≠ R.LOP_OSET n) }).osetJudge n).1
    | none => d) d

/-- INPUT_DELTA (R246, R360, R366, R442): the standby tracks the active's time, evaluates the turn from its input
image and the last state, and cross-checks its own releases; the turn then waits for the entries. A rejoiner tracks the
time and compares (R195, R380). -/
def Dev.inputDelta (d : Dev) (inp : InImage) (rel : List Release) : Dev :=
  if d.role = 4 then
    (if inp.turn = d.turn.number then (d.domTrack inp.tick inp.zone inp.trusted).rejoinCheck rel else d)
  else if !d.standby ∨ d.pair.castle ≠ 0 ∨ inp.turn ≠ d.turn.number ∨ d.turn.run.isSome ∨ !d.turnsRun then d
  else
    let d := (d.lateCheck inp).domTrack inp.tick inp.zone inp.trusted
    let d := d.setTurn (fun t => { t with arrived := inp.cmds })
    let d := d.setJrn (fun j => { j with ing := ingPut j.ing inp.outside })
    let d := (d.evalTurn inp 0 0).imageWrites inp
    let d := match d.turn.run with
      | some r => if r.held then d.heldTurn else d
      | none => d
    let d := d.setRun (fun r => { r with phase := .waiting })
    (d.crossCheck rel).healthTurn

/-! The link (R354 to R358) -/

/-- LINK_LOST (R357, R375): an active with a declared dangerous fault is then without a standby (R390). -/
def Dev.linkLostRow (d : Dev) : Dev :=
  let d := d.linkLost
  if d.role = 2 ∧ d.pair.castle = 0 ∧ !d.peerUp then d.safeIfDanger else d

/-- LANE_DEGRADED (R357): the link goes on with the other lane, if that one is up. -/
def Dev.laneDegraded (d : Dev) (lane : Nat) : Dev :=
  let f := fun k => if k = 0 then F.PAR_LNKSTAT_LANE0 else F.PAR_LNKSTAT_LANE1
  if !d.linkUp ∨ d.rdF R.PAR_LNKSTAT (f lane) = 0 then d
  else if d.rdF R.PAR_LNKSTAT (f (1 - lane)) = 0 then d.linkLostRow
  else (d.wrF R.PAR_LNKSTAT (f lane) 0).flagEv R.PAR_STAT 4 198

/-- The standby's confirmation of the swap turn (R415; log entry 20), in time until the commit of the turn before
it has completed. -/
def Dev.swapConfirmed (d : Dev) (w : Nat) : Dev :=
  let done := d.turn.run.any (fun r => r.phase == .completed)
  if d.vault.swapTurn = some w ∧ (d.turn.number + 1 < w ∨ (d.turn.number + 1 = w ∧ !done)) then
    { d with vault := { d.vault with swapOk := true } }
  else d

/-- LINK_BLOCK_RECEIVED (R355): an acknowledgement set ends its block; a block with a bad CRC is counted, and a
good one in sequence is answered. What its payload does is the row of its message. -/
def Dev.blockReceived (d : Dev) (q : Nat) (seq : BitVec 16) (crcOk : Bool) (bytes : List Byte) (ack : Option (BitVec 16)) : Dev :=
  if !d.linkUp then d
  else match ack with
    | some s => d.setPair (fun p => { p with blocks := p.blocks.filter (fun b => b.2.1 ≠ s.toNat) })
    | none =>
      if !crcOk ∨ bytes.length > elemSize (60 + q) then d.incF R.PAR_LNKCNT F.PAR_LNKCNT_CRCERRS
      else if seq.toNat = d.pair.rxSeq then
        let d := d.setPair (fun p => { p with rxSeq := (p.rxSeq + 1) % 65536 })
        if q = 3 ∧ byteAt bytes 0 = 0x0C then d.swapConfirmed (uAt bytes 2 6) else d
      else d

/-- LINK_BLOCK_TIMEOUT (R355): the oldest outstanding block of a queue is sent again with all sent after it. -/
def Dev.blockTimeout (d : Dev) (q : Nat) : Dev :=
  let again := d.pair.blocks.dropWhile (fun b => b.1 ≠ 60 + q)
  again.foldl (fun d _ => d.incF R.PAR_LNKCNT F.PAR_LNKCNT_RESENDS) d

/-- HEARTBEAT_LOSS (R375): a standby without its link. -/
def Dev.heartbeatLoss (d : Dev) : Dev :=
  if d.standby ∧ !d.linkUp ∧ d.rdF R.PAR_HBAGE F.PAR_HBAGE_TURNS ≥ 2 ∧ d.rdF R.PAR_STAT F.PAR_STAT_HBLOST = 0 then
    d.flagEv R.PAR_STAT 8 205
  else d

/-! Rejoin (R380) -/

/-- The replay tables as the ledger's COMMAND entries give them (R301). -/
def Journal.replayTables (j : Journal) : List Replay := j.ledger.reverse.foldl noteReplay (List.replicate 8 ⟨[]⟩)

/-- The entries beyond the agreement point discarded, `agreed` being the first of them. -/
def Dev.dropBeyond (d : Dev) (agreed : Nat) : Dev :=
  let d := d.drainAll
  let n := d.jrn.next - agreed
  let d := d.setJrn (fun j => { j with
    ledger := j.ledger.filter (fun e => decide (e.seq < agreed)), next := min j.next agreed, chain := j.chainBefore (min j.next agreed) })
  if n = 0 then d else d.happen (pairEntry 0x9 (leBytes 4 n))

/-- The transmit marks of the active (R336, R380): every FRAME entry from a channel's mark on is owed there. -/
def Dev.setMarks (d : Dev) (marks : List Nat) : Dev :=
  let es := (d.jrn.ledger.reverse ++ d.jrn.wbuf).filter (fun e => e.kind = 0x20)
  (List.range 4).foldl (fun d n => d.setCanCh n (fun c => { c with
    owed := (es.filter (fun e => decide (e.seq ≥ marks.getD n 0) && bitOf (byteAt e.payload 4) n)).map LEntry.seq })) d

/-- REJOIN_STATE (R380, steps 2 to 4): the rejoiner drops what lies beyond the agreement point, takes the tail and
the active's full state. A tail that does not follow is a failed attempt. -/
def Dev.rejoinState (d : Dev) (m : Mirror) (agreed : Nat) (tail : List LEntry) (dups : List DupState) (marks : List Nat) : Dev :=
  if d.role ≠ 4 ∨ !d.linkUp then d
  else
    let d := d.dropBeyond agreed
    if !follows d.jrn.next d.jrn.chain tail then d.rejoinFailed
    else
      let d := (d.acceptAll tail).drainAll
      let d := d.setJrn (fun j => { j with replay := j.replayTables })
      let d := d.setJrn Journal.resegment
      let d := (d.setCan (fun c => { c with dups := dups })).setMarks marks
      let d := d.takeMirror m
      let d := d.setPair (fun p => { p with rejReady := true })
      d.wrF R.PAR_REJOIN F.PAR_REJOIN_STEP 5

/-- REJOIN_CUTOVER (R380, steps 5 and 6): the rejoiner becomes STANDBY; the active has a standby in service and
forms REJOINED. `agreed` is the agreement point plus one. -/
def Dev.rejoinCutover (d : Dev) (turn agreed : Nat) (pool : List (List Entry)) : Dev :=
  if d.role = 4 ∧ d.pair.rejReady ∧ d.linkUp then
    let d := d.setTurn (fun t => { t with number := turn, run := none, prev := none })
    let d := d.setJrn (fun j => { j with ing := (pool ++ List.replicate 8 []).take 8 })
    let d := (d.setRole 3).wrF R.PAR_ROLE F.PAR_ROLE_PEERUP 1
    let d := (List.range 12).foldl (fun d n => d.setQc n (fun c => { c with feedIn := none })) d
    let d := d.setPair (fun p => { p with
      rejReady := false, mirTurn := none, doneTurn := none, mirMiss := 0, healthAge := 0, found := 0
      xruns := p.xruns.map (fun x => (x.1, x.2.1, 0)) })
    (d.wrF R.PAR_REJOIN F.PAR_REJOIN_STEP 0).raise 201
  else if d.role = 2 ∧ d.linkUp ∧ !d.peerUp then
    let d := (d.wrF R.PAR_ROLE F.PAR_ROLE_PEERUP 1).setPair (fun p => { p with healthAge := 0 })
    d.formPair 0x8 (leBytes 8 (agreed - 1) ++ leBytes 6 turn)
  else d

/-! A turn of a device that has no latch of its own (R356) -/

/-- The number of the turn that a turn-start set names: the first after the turn in hand with its low 16 bits. -/
def nextTurn (cur low : Nat) : Nat := cur + 1 + (low + 65536 * (cur / 65536 + 2) - (cur + 1)) % 65536

/-- One turn period of the device's own PB0: the ages of the heartbeat and of the peer's report (R365, R375). -/
def Dev.agePeriod (d : Dev) : Dev :=
  (d.incF R.PAR_HBAGE F.PAR_HBAGE_TURNS).setPair (fun p => { p with healthAge := p.healthAge + 1 })

/-- The host's levels and setpoints pending at a device that is not the holder, at its own latch (R43, R204, R218): a
standby's are then those of the active's input image. -/
def Dev.hostWrites (d : Dev) : Dev :=
  let d := (d.hostsetLatch false).hostsetLatch true
  (List.range 4).foldl (fun d n =>
    let x := d.loLatch n (d.lo n).sel
    match x.2 with
    | some e => x.1.happen e
    | none => x.1) d

/-- TURN_START_SET (R15, R43, R356, R363, R368): a standby, or a rejoiner, starts its turn with the active's. -/
def Dev.turnStartSet (d : Dev) (low : BitVec 16) : Dev :=
  if !(d.role = 3 ∨ d.role = 4) ∨ d.pwr.boot ≠ 3 ∨ !d.linkUp then d
  else
    let d := d.commitDeadline
    let d := if d.standby then d.mirrorCheck else d
    let d := ((d.turnBegin (nextTurn d.turn.number low.toNat)).agePeriod).hostWrites
    let d := d.sendHappenings.send63 d.roleMessage
    if d.role = 4 then d.sendHealth
    else if d.pair.castle = 1 then d.setPair (fun p => { p with castle := 2 })
    else d.castlingDecide

end Sys2Proof.Machine
end

