-- ==== Sys2Proof/Machine/Apply.lean ====
section
/-!
DEFINITION. An image applies: at start-up to a device without one, or at a swap latch, where each subsystem
carries or restarts its state (R46, R95, R129, R160, R178, R208, R222, R248, R275, R342, R415, R459).
-/
namespace Sys2Proof.Machine

/-! What the lattice carries (R248, R275) -/

/-- The index of the used point, node or timer cell that carries an IDENT. -/
def identPoint (img : Image) (id : Word) : Option Nat :=
  (List.range img.latp.points.length).find? (fun p => match img.latp.points[p]? with
    | some r => r.srck != 0 && r.ident == id
    | none => false)

def identNode (img : Image) (id : Word) : Option Nat := img.latg.nodes.findIdx? (fun r => r.ident == id)

def identTimer (img : Image) (id : Word) : Option Nat := img.latt.findIdx? (fun r => r.ident == id)

/-- The point of the old image whose state a record of the new image takes (R248). -/
def PointRec.source (r : PointRec) (old : Image) : Option Nat :=
  if r.srck = 0 then none else identPoint old r.ident

/-- An alarm carried from one record to another (R248): disabled kinds are UNUSED, new ones NORMAL. -/
def carryAlarm (r : PointRec) (x : Alarm) (k : Nat) : Alarm :=
  let fresh : Alarm := ⟨if (ckRec r k).en then stNormal else stUnused, false, false, false, 0⟩
  if !(ckRec r k).en then { fresh with inh := x.inh }
  else if x.st = stUnused then { fresh with inh := x.inh }
  else x

/-- A point's state under its new record (R248). -/
def carryPoint (old : Image) (pts : List Pt) (r : PointRec) : Pt :=
  match r.source old with
  | none => ptStart r
  | some i =>
    let s := pts.getD i Pt.empty
    { s with
      al := (List.range 9).map (fun k => carryAlarm r (s.al.getD k ⟨stUnused, false, false, false, 0⟩) k)
      was := some ((List.range 9).map (alarmWas (ptRec old i) s)) }

/-- The alarm states that the emissions follow, under the new records. -/
def carryView (old : Image) (al : List (List Nat)) (r : PointRec) : List Nat :=
  match r.source old with
  | none => (ptStart r).al.map Alarm.st
  | some i => (List.range 9).map (fun k =>
      (carryAlarm r ⟨(al.getD i []).getD k stUnused, false, false, false, 0⟩ k).st)

/-- A node's state under its new record (R275). -/
def carryNode (old : Image) (ns : List Node) (r : NodeRec) : Node :=
  match identNode old r.ident with
  | none => Node.empty
  | some i => ns.getD i Node.empty

/-- A timer cell's state under its new record (R275). -/
def carryTimer (old : Image) (ts : List Timer) (r : TimerRec) : Timer :=
  match identTimer old r.ident with
  | none => Timer.empty
  | some i => ts.getD i Timer.empty

/-- The chains under the new section: a chain whose record changed is reset to IDLE (R275). -/
def carryChains (old new : BelfSec) (cs : List Chain) : List Chain :=
  (List.range new.chains.length).map (fun c =>
    if old.chains[c]? = new.chains[c]? then cs.getD c Chain.empty else Chain.empty)

/-- The presence flags under the new section: kept below the new NENG, from the section above the old one. -/
def carryPresence (old new : BelfSec) (ps : List Bool) : List Bool :=
  (List.range 16).map (fun e =>
    if e ≥ new.neng then false
    else if e < old.neng then ps.getD e false
    else (new.engineers.getD e ⟨0xFF, false⟩).present)

/-- The duty under the new section: kept below the new NENG. -/
def carryDuty (new : BelfSec) (duty : Option Nat) : Option Nat := duty.filter (fun e => decide (e < new.neng))

/-- The belfry under the new section (R275). -/
def carryBelfry (old new : BelfSec) (b : Belfry) : Belfry :=
  if old = new then b
  else { b with
    duty := carryDuty new b.duty, present := carryPresence old new b.present
    chains := carryChains old new b.chains
    nodutyChain := (List.range new.chains.length).map (fun c => b.nodutyChain.getD c false)
    wc := if old.wtime = new.wtime ∧ old.wpre = new.wpre then b.wc else 0 }

/-- The transmit entries under the new map: an entry that is new or changed forms its frame afresh (R343). -/
def carryTx (old new : CanmSec) (xs : List TxState) : List TxState :=
  (List.range new.tx.length).map (fun i =>
    if old.tx[i]? = new.tx[i]? then xs.getD i ⟨[], true⟩
    else match new.tx[i]? with
      | some r => (old.tx.findIdx? (fun q => q == r)).elim ⟨[], true⟩ (fun j => xs.getD j ⟨[], true⟩)
      | none => ⟨[], true⟩)

/-- The evaluation state under a new image; host points count as never written since the swap (R228). -/
def carryState (old new : Image) (s : EvalState) : EvalState :=
  { s with
    pts := new.latp.points.map (carryPoint old s.pts)
    devs := new.latp.devsets.map (fun _ => ⟨0, 0, false⟩)
    nodes := new.latg.nodes.map (carryNode old s.nodes)
    timers := new.latt.map (carryTimer old s.timers)
    hps := List.replicate 512 HostPt.empty
    bel := carryBelfry old.belf new.belf s.bel
    tx := carryTx old.canm new.canm s.tx }

/-- What the emissions follow, under a new image. -/
def carryEmit (old new : Image) (v : EmitView) : EmitView :=
  let v := { v with alarms := new.latp.points.map (carryView old v.alarms)
                    nodes := new.latg.nodes.map (carryNode old v.nodes) }
  if old.belf = new.belf then v
  else { v with chains := carryChains old.belf new.belf v.chains, duty := carryDuty new.belf v.duty
                present := carryPresence old.belf new.belf v.present }

/-- The points carried and restarted by a swap, as the IMGSWAP entry counts them (R426). -/
def swapCounts (old new : Image) : Nat × Nat :=
  let used := new.latp.points.filter (fun r => r.srck != 0)
  let n := (used.filter (fun r => (r.source old).isSome)).length
  (n, used.length - n)

/-- Whether an old point, and whether an old node or timer cell, finds no match (R248, R275). -/
def swapLosses (old new : Image) : Bool × Bool :=
  (old.latp.points.any (fun r => r.srck != 0 && (identPoint new r.ident).isNone),
    old.latg.nodes.any (fun r => (identNode new r.ident).isNone)
      || old.latt.any (fun r => (identTimer new r.ident).isNone))

/-- The lattice, the belfry and the transmit schedule at a swap (R248, R275, R343); its flags and what the host points
showed wait for the emit (R41, R280). -/
def Dev.swapLattice (d : Dev) (old : Image) : Dev :=
  let gone := d.hostPointsShown
  let chg := (List.range old.belf.chains.length).any (fun c => old.belf.chains[c]? != d.image.belf.chains[c]?)
    || old.belf.wtime != d.image.belf.wtime || old.belf.wpre != d.image.belf.wpre
  let new := d.image
  let l := swapLosses old new
  let flags := (if l.1 then [(R.LAT_STAT, 0)] else []) ++ (if l.2 then [(R.LAT_GSTAT, 1)] else [])
    ++ (if old.belf ≠ new.belf ∧ chg then [(R.BEL_STAT, 0)] else [])
  let d := d.setTurn (fun t => { t with
    cur := carryState old new t.cur, view := carryEmit old new t.view, hpGone := gone
    swapFlags := t.swapFlags ++ flags })
  d.setCan (fun c => { c with remote := [] })

/-! The functions and the channels -/

/-- The enable of a changed function under its new record: it starts where its role and the forces on it let
it, or it waits for the end of the shutdown (R55, R178, R208). -/
def Dev.fReload (d : Dev) (f : Func) : Dev :=
  if d.fState f = 3 then
    let on := match f with
      | .xch n => (d.xrec n.val).drven
      | .supply n => (d.lrec n.val).supen && (d.lrec n.val).mode == 1
      | .qch n => (d.qrec n.val).acq.pwren
      | .panel => d.image.panl.pwren
      | .link => d.fEn .link
    if (f.byToken && !d.holder) || (f.byPfw && d.pfw) then d.fLoad f
    else (d.wrF f.reg fEN (b2n on)).wrF f.reg fPEND (b2n on)
  else d.fLoad f

/-- The configuration register of a charge channel (R161). -/
def Dev.qchRegs (d : Dev) : Dev :=
  (List.range 12).foldl (fun d n =>
    let a := (d.qrec n).acq
    let c := (d.qrec n).comp
    d.wr (R.QCH_CFG n) (packF [(F.QCH_CFG_SMODE, b2n a.timeMode), (F.QCH_CFG_BASE, a.base),
      (F.QCH_CFG_RES, a.res), (F.QCH_CFG_AUTO, b2n a.auto), (F.QCH_CFG_VTABSEL, min 3 c.vtabsel),
      (F.QCH_CFG_AUTOCNT, a.autocnt), (F.QCH_CFG_INVLIM, a.invlim), (F.QCH_CFG_PEGSRC, c.pegsrc),
      (F.QCH_CFG_TPER, a.tper)])) d

/-- Whether a charge channel's record or schedule entries differ between two images (R95, R160). -/
def qchChanged (old new : Image) (n : Nat) : Bool :=
  let mine := fun (i : Image) => i.schd.filter (fun e => e.target == 0x40 + n)
  old.qccf.chans[n]? != new.qccf.chans[n]? || mine old != mine new

/-- The charge channels: ranges of their records at the first image, at the next RANGE entry after a swap. -/
def Dev.qchApply (d : Dev) (first : Bool) (old : Image) : Dev :=
  let d := d.qchRegs
  Dev.qSwitches <| allFuncs.foldl (fun d f => match f with
    | .qch n =>
      let r := (d.qrec n.val).acq.range
      if first then (d.wrF (R.QCH_RANGE n.val) F.QCH_RANGE_RANGE r).fLoad f
      else if qchChanged old d.image n.val then
        let d := d.wbWrite (R.QCH_RANGE n.val) qRangeMask (BitVec.ofNat 32 r)
        if (d.qrec n.val).acq.pwren then d.fReload f
        else (d.wrF f.reg fPEND 0).fEnable f false
      else d
    | _ => d) d

/-- The excitation channels (R177, R178). -/
def Dev.xchApply (d : Dev) (first : Bool) (old : Image) : Dev :=
  let d := d.xchRegs
  allFuncs.foldl (fun d f => match f with
    | .xch n =>
      if first then d.fLoad f
      else if old.xccf[n.val]? != d.image.xccf[n.val]? then
        ((d.fForce f).xChange n.val).fReload f
      else d
    | _ => d) d

/-- The loops (R207, R208). -/
def Dev.lopApply (d : Dev) (first : Bool) (old : Image) : Dev :=
  let d := allFuncs.foldl (fun d f => match f with
    | .supply n =>
      let d := d.liRegs n.val
      if first then
        let d := if (d.lrec n.val).mode = 0 then d.lRelease n.val 9 0 0 else d
        d.fLoad f
      else if old.loopIn[n.val]? != d.image.loopIn[n.val]? then
        (((d.hartCancel n.val).fForce f).liRestart n.val).fReload f
      else d
    | _ => d) d
  (List.range 4).foldl (fun d n => d.loRegs n (first || old.loopOut[n]? != d.image.loopOut[n]?)) d

/-- The panel's enable (R447), loaded when its section is new. -/
def Dev.panelApply (d : Dev) (first : Bool) (old : Image) : Dev :=
  let d := d.pnlApply first old
  if first then d.fLoad .panel
  else if old.panl.pwren = d.image.panl.pwren then d
  else if d.image.panl.pwren then d.fReload .panel
  else (d.wrF Func.panel.reg fPEND 0).fEnable .panel false

/-- The vault's registers of the active image (chapter 15). -/
def Dev.vltShow (d : Dev) : Dev :=
  let img := d.image
  let d := d.wr R.VLT_IMGVER (BitVec.ofNat 32 img.head.version)
  let d := (List.range 8).foldl (fun d k => d.wr (R.VLT_IMGHASH k) (BitVec.ofNat 32 (uAt img.head.hash (4 * k) 4))) d
  d.wrFs R.VLT_EPOCH [(F.VLT_EPOCH_CUR, img.keys.epoch), (F.VLT_EPOCH_OLD, img.keys.oldepoch)]

/-- An image applies to every subsystem. -/
def Dev.applyImage (d : Dev) (first : Bool) (img : Image) : Dev :=
  let old := d.image
  let d := if first then d else d.wbDiscard
  let d := if first then d else
    ((List.range 12).foldl (fun d n => if qchChanged old img n then d.qSwapOut n else d) d).phsLeave img
  let d := { d with image := img }
  let d := ((d.phsApply first old).uinApply first old).canApply first old
  let d := ((d.qchApply first old).xchApply first old).lopApply first old
  let d := (d.dioApply first old).panelApply first old
  let d := if first then d.fLoad .link else d
  let d := if first then
      d.setTurn (fun t => { t with cur := evalStart img, view := viewOf (evalStart img) })
    else d.swapLattice old
  (((d.latRegs old).wtcRegs).jrnRegs).vltShow

end Sys2Proof.Machine
end

