-- ==== Sys2Proof/Machine/ImageParse.lean ====
section
/-!
DEFINITION. The image sections read from their bytes: one function per record of the section tables (R96, R97,
R130, R161, R180, R209, R223, R249, R254, R276 to R278, R311, R343, R382, R401, R427, R428, R465). Every
function answers a record for any bytes; what the vault refuses is in Machine/ImageCheck.lean.
-/
namespace Sys2Proof.Machine

/-- `n` records of `k` bytes from an offset. -/
def records (bs : List Byte) (off k n : Nat) : List (List Byte) :=
  (List.range n).map (fun i => slice bs (off + k * i) k)

/-- Bit `i` of the byte at an offset. -/
def bitAt (bs : List Byte) (off i : Nat) : Bool := bitOf (byteAt bs off) i

/-- Base record (R96). -/
def readBase (r : List Byte) : BaseRec :=
  { kind := byteAt r 0, tpin := byteAt r 1, ipin := byteAt r 2, camsrc := byteAt r 3, slots := uAt r 4 2
    missing := byteAt r 6, cycrev := byteAt r 7, gapr := byteAt r 8, acc := byteAt r 9, syncerr := byteAt r 10
    camerr := byteAt r 11, stillt := uAt r 12 2, minspd := uAt r 14 2, refpos := uAt r 16 4
    camlo := uAt r 20 4, camhi := uAt r 24 4 }

/-- The PHSB section (R96). -/
def readPhsb (bs : List Byte) : PhsbSec :=
  { tlen := uAt bs 0 2, emit := uAt bs 2 2, bases := (records bs 8 32 3).map readBase
    inputs := (records bs 104 4 6).map (fun r => ⟨byteAt r 0, byteAt r 1, byteAt r 2⟩) }

/-- One entry of the SCHD section (R97). -/
def readSched (r : List Byte) : SchedEntry :=
  let w0 := uAt r 0 4
  let w2 := uAt r 8 4
  { fb := bitOf w0 26, act := w0 / 2 ^ 22 % 16, base := w0 / 2 ^ 20 % 4, pos := w0 % 2 ^ 20
    arg := byteAt r 5, target := byteAt r 4, fbdiv := w2 / 2 ^ 20 % 256, fbpos := w2 % 2 ^ 20 }

/-- The SCHD section (R97). -/
def readSchd (bs : List Byte) : List SchedEntry := (records bs 8 12 (uAt bs 0 2)).map readSched

/-- Channel record of the UICF section (R130). -/
def readUiChan (r : List Byte) : UiChan :=
  { mode := byteAt r 0, subtype := byteAt r 1, wires := byteAt r 2, gain := byteAt r 3, iexi := byteAt r 4
    cjsrc := byteAt r 5, cjch := byteAt r 6, rate := byteAt r 7, settle := uAt r 8 2, ipc := byteAt r 10
    openr := byteAt r 11, fixcj := sAt r 12 4 }

/-- A step word, in the layout of UIN_STEPn_k. -/
def readUiStep (r : List Byte) : UiStep :=
  let w := uAt r 0 4
  { kind := w / 2 ^ 30, entryStart := bitOf w 29, rate := w / 2 ^ 20 % 16, settle := w / 2 ^ 10 % 1024
    chan := w % 64 }

/-- Converter record of the UICF section (R130). -/
def readUiConv (r : List Byte) : UiConv :=
  { mode := byteAt r 0, len := byteAt r 1, exvlvl := byteAt r 2
    steps := (records r 4 4 (min 48 (byteAt r 1))).map readUiStep }

/-- The UICF section (R130). -/
def readUicf (bs : List Byte) : UicfSec :=
  { chans := (records bs 0 16 48).map readUiChan, convs := (records bs 768 196 4).map readUiConv
    rrefval := (records bs 1552 8 12).map (fun r => uAt r 0 4)
    cjs := (records bs 1648 8 4).map (fun r => ⟨byteAt r 0 == 1, uAt r 2 2⟩)
    amon := (records bs 1680 4 2).map (fun r => byteAt r 0) }

/-- Sampling part of a channel record of the QCCF section (R161). -/
def readQcAcq (r : List Byte) : QcAcq :=
  { pwren := byteAt r 0 == 1, timeMode := byteAt r 1 == 1, base := byteAt r 2, res := byteAt r 3
    range := byteAt r 4, auto := byteAt r 5 == 1, autocnt := byteAt r 6, invlim := byteAt r 7
    wkind := (List.range 8).map (fun w => byteAt r (8 + w)), sens := sAt r 16 4, tdca := uAt r 20 2
    tper := uAt r 22 2, rstt := byteAt r 31, cmin := uAt r 72 2, cmax := uAt r 74 2, leakq := uAt r 76 4 }

/-- Computation part of a channel record of the QCCF section (R161). -/
def readQcComp (r : List Byte) : QcComp :=
  { pega := sAt r 24 2, pegw := uAt r 26 2, pegsrc := byteAt r 28, pegch := byteAt r 29, vtabsel := byteAt r 30
    pfix := sAt r 32 4, pscl := sAt r 36 4, pofs := sAt r 40 4, compa := sAt r 44 2, imlo := sAt r 46 2
    imhi := sAt r 48 2, dplo := sAt r 50 2, dphi := sAt r 52 2, kskip := uAt r 54 2, kb0 := sAt r 56 2
    kb1 := sAt r 58 2, kb2 := sAt r 60 2, ka1 := sAt r 62 2, ka2 := sAt r 64 2, ksh := byteAt r 66
    misimep := sAt r 68 4 }

/-- A volume table of the QCCF section (R161). -/
def readVtab (bs : List Byte) (off : Nat) : List Nat := (records bs off 4 7200).map (fun r => ofLe r)

/-- The QCCF section (R161). -/
def readQccf (bs : List Byte) : QccfSec :=
  { chans := (records bs 0 96 12).map (fun r => ⟨readQcAcq r, readQcComp r⟩)
    vtab := [readVtab bs 1152, readVtab bs 29952] }

/-- Channel record of the XCCF section (R180). -/
def readXc (r : List Byte) : XcRec :=
  { drven := byteAt r 0 == 1, mode := byteAt r 1, demn := byteAt r 2, freq := uAt r 4 2, amp := uAt r 6 2
    phofs := uAt r 8 2, ilim := byteAt r 10, imin := byteAt r 11, rref := uAt r 12 4, lo := sAt r 16 4
    hi := sAt r 20 4, qmax := uAt r 24 4 }

/-- Input record of the LPCF section (R209). -/
def readLi (r : List Byte) : LiRec :=
  { mode := byteAt r 0, supen := byteAt r 1 == 1, tli := byteAt r 2, hart := byteAt r 3, td := uAt r 4 2
    tstart := byteAt r 6, retry := byteAt r 7, pcmd := byteAt r 8, pream := byteAt r 9, pper := uAt r 10 2
    hstale := uAt r 12 2, hexp := (List.range 4).map (fun i => sAt r (14 + i) 1)
    hostcopy := byteAt r 18 == 1, burst := byteAt r 19 == 1, long := byteAt r 20 == 1, uid := slice r 21 5 }

/-- Output record of the LPCF section (R209). -/
def readLo (r : List Byte) : LoRec :=
  { oen := byteAt r 0 == 1, almlvl := byteAt r 1, safe := byteAt r 2, trksrc := uAt r 4 2, almsrc := uAt r 6 2
    trklo := sAt r 8 4, trkhi := sAt r 12 4, hset := uAt r 16 2 }

/-- The DIOC section (R223). -/
def readDioc (bs : List Byte) : DiocSec :=
  { ptper := uAt bs 0 2
    inputs := (records bs 4 4 32).map (fun r => ⟨byteAt r 0, byteAt r 1, byteAt r 2 == 1⟩)
    outputs := (records bs 132 8 32).map (fun r =>
      { oen := byteAt r 0 == 1, safe := byteAt r 1, srck := byteAt r 2, pten := bitAt r 3 0, inv := bitAt r 3 1
        src := uAt r 4 2, ptw := byteAt r 6, fbt := byteAt r 7 }) }

/-- A suppression word (R249). -/
def readSup (w : Nat) : SupRec := ⟨w / 2 ^ 13, bitOf w 12, w % 4096⟩

/-- A check record of 16 bytes, or with `sf` the 4-byte SF record (R249). -/
def readCheck (r : List Byte) (sf : Bool) : CheckRec :=
  let h := if sf then r else r.drop 12
  { en := bitAt h 0 7, cls := byteAt h 0 % 4, lim := if sf then 0 else sAt r 0 4
    hys := if sf then 0 else sAt r 4 4, db := if sf then 0 else sAt r 8 4, ondly := byteAt h 1
    offdly := byteAt h 2 }

/-- Point record of the LATP section (R249): kinds 0 to 7, then SF as kind 8. -/
def readPoint (r : List Byte) : PointRec :=
  { srck := byteAt r 0, scale := byteAt r 1, srci := uAt r 2 2, srcf := byteAt r 4, devset := byteAt r 5
    rwin := byteAt r 6, noinh := bitAt r 7 0, excl := bitAt r 7 1, hplog := bitAt r 7 2, mul := sAt r 8 4
    ofs := sAt r 12 4, sup0 := readSup (uAt r 16 2), sup1 := readSup (uAt r 18 2)
    supmask := BitVec.ofNat 9 (uAt r 20 2), fltlim := BitVec.ofNat 8 (byteAt r 22)
    omask := BitVec.ofNat 9 (uAt r 24 2), hptmo := uAt r 26 2, ident := BitVec.ofNat 32 (uAt r 28 4)
    checks := (records r 48 16 8).map (fun c => readCheck c false) ++ [readCheck (slice r 32 4) true] }

/-- A segment table of 17 pairs (R249). -/
def readTab (r : List Byte) : List (Int × Int) := (records r 0 8 17).map (fun p => (sAt p 0 4, sAt p 4 4))

/-- A deviation set (R249). -/
def readDev (r : List Byte) : DevSet :=
  ⟨byteAt r 0, (records r 4 2 (min 32 (byteAt r 1))).map (fun m => ofLe m)⟩

/-- The LATP section (R249). -/
def readLatp (bs : List Byte) : LatpSec :=
  let n := uAt bs 0 2
  let t := uAt bs 2 2
  { points := (records bs 16 176 n).map readPoint, tabs := (records bs (16 + 176 * n) 136 t).map readTab
    devsets := (records bs (16 + 176 * n + 136 * t) 68 (uAt bs 4 2)).map readDev }

/-- An input word (R254). -/
def readIn (r : List Byte) : InWord :=
  let w := uAt r 0 4
  ⟨w / 2 ^ 28, w / 2 ^ 23 % 32, bitOf w 22, w % 4096⟩

/-- Node record (R276). -/
def readNode (r : List Byte) : NodeRec :=
  { func := byteAt r 0, level := byteAt r 1, nin := byteAt r 2, k := byteAt r 3, first := uAt r 4 2
    failb := byteAt r 6 == 1, failv := sAt r 8 4, ident := BitVec.ofNat 32 (uAt r 12 4) }

/-- The LATG section (R276). -/
def readLatg (bs : List Byte) : LatgSec :=
  let n := uAt bs 0 2
  { nodes := (records bs 16 16 n).map readNode
    inputs := (records bs (16 + 16 * n) 4 (uAt bs 2 2)).map readIn }

/-- Timer record (R277). -/
def readTimer (r : List Byte) : TimerRec :=
  { kind := byteAt r 0, pt := uAt r 4 4, inw := readIn (slice r 8 4), rst := readIn (slice r 12 4)
    ident := BitVec.ofNat 32 (uAt r 16 4) }

/-- The LATT section (R277). -/
def readLatt (bs : List Byte) : List TimerRec := (records bs 16 24 (uAt bs 0 2)).map readTimer

/-- Station record (R278). -/
def readStation (r : List Byte) : StationRec :=
  { ackdi := byteAt r 0, clsmask := BitVec.ofNat 4 (byteAt r 1), chmask := BitVec.ofNat 16 (uAt r 2 2)
    force := uAt r 4 2, ranges := (records r 8 4 4).map (fun x => (uAt x 0 2, uAt x 2 2)) }

/-- A stage of a chain record (R278). -/
def readStage (r : List Byte) : StageRec :=
  { stmask := BitVec.ofNat 8 (byteAt r 0), present := bitAt r 1 7, alleng := bitAt r 1 1, duty := bitAt r 1 0
    tmo := uAt r 2 2 }

/-- Chain record (R278). -/
def readChain (r : List Byte) : ChainRec :=
  { trig := uAt r 0 2, cls := byteAt r 2, cumul := bitAt r 3 0, retrig := bitAt r 3 1, rearm := uAt r 4 4
    stages := (records r 8 4 4).map readStage }

/-- The BELF section (R278): NENG engineers, NSCHED schedule entries, eight stations, NCHAIN chains. -/
def readBelf (bs : List Byte) : BelfSec :=
  { neng := byteAt bs 0, dutysel := byteAt bs 1, defduty := byteAt bs 2, swdi := byteAt bs 3
    wchain := byteAt bs 6, wcls := byteAt bs 7, wtime := uAt bs 8 4, wpre := uAt bs 12 4
    wdi := (List.range 4).map (fun i => byteAt bs (16 + i)), wondi := byteAt bs 20
    engineers := (records bs 32 4 (min 16 (byteAt bs 0))).map (fun r => ⟨byteAt r 0, byteAt r 1 == 1⟩)
    schedule := (records bs 96 4 (min 8 (byteAt bs 4))).map (fun r => (uAt r 0 2, byteAt r 2))
    stations := (records bs 128 24 8).map readStation
    chains := (records bs 320 24 (min 16 (byteAt bs 5))).map readChain }

/-- Channel record of the CANM section (R343). -/
def readCanChan (r : List Byte) : CanChan :=
  { en := byteAt r 0 == 1, fden := byteAt r 1 == 1, txord := byteAt r 2, triple := byteAt r 3 == 1
    nbt := BitVec.ofNat 32 (uAt r 4 4), dbt := BitVec.ofNat 32 (uAt r 8 4), tdc := BitVec.ofNat 32 (uAt r 12 4)
    hbid := BitVec.ofNat 32 (uAt r 16 4), wakemode := byteAt r 20, wdlen := byteAt r 21
    wakeid := BitVec.ofNat 32 (uAt r 24 4), wakemask := BitVec.ofNat 32 (uAt r 28 4), wakedata := slice r 32 8 }

/-- Transmit entry of the CANM section (R343): the fields that have a kind. -/
def readTx (r : List Byte) : TxRec :=
  { cls := byteAt r 0, chmask := BitVec.ofNat 4 (byteAt r 1), stream := byteAt r 2, mac := bitAt r 3 0
    fd := bitAt r 3 1, brs := bitAt r 3 2, id := BitVec.ofNat 32 (uAt r 4 4), len := byteAt r 8
    trig := byteAt r 9, per := uAt r 10 2
    fields := ((records r 16 8 6).map (fun f =>
      { fkind := byteAt f 0, off := byteAt f 1, bit := byteAt f 2, width := byteAt f 3
        obj := uAt f 4 4 : TxField })).filter (fun f => f.fkind ≠ 0) }

/-- Receive entry of the CANM section (R343). -/
def readRx (r : List Byte) : RxRec :=
  { command := byteAt r 0 == 1, chmask := BitVec.ofNat 4 (byteAt r 1), sender := byteAt r 2
    stream := byteAt r 3, id := BitVec.ofNat 32 (uAt r 4 4), idmask := BitVec.ofNat 32 (uAt r 8 4)
    seq := bitAt r 12 0, mac := bitAt r 12 1, sgn := bitAt r 12 2, be := bitAt r 12 3, offset := byteAt r 13
    width := byteAt r 14, point := uAt r 16 2, stalet := uAt r 18 2 }

/-- The CANM section (R343). -/
def readCanm (bs : List Byte) : CanmSec :=
  { sender := byteAt bs 0, hbmask := BitVec.ofNat 4 (byteAt bs 1), agelim := uAt bs 2 2
    buspair := BitVec.ofNat 2 (byteAt bs 8), chans := (records bs 32 48 4).map readCanChan
    tx := (records bs 224 64 (uAt bs 4 2)).map readTx
    rx := (records bs (224 + 64 * uAt bs 4 2) 32 (uAt bs 6 2)).map readRx }

/-- The elements of a region mask (R465). -/
def readMask (r : List Byte) : List Nat := (List.range 768).filter (fun e => bitAt r (e / 8) (e % 8))

/-- The PANL section (R465). -/
def readPanl (bs : List Byte) : PanlSec :=
  { pwren := byteAt bs 0 == 1, polmode := byteAt bs 1, frame := byteAt bs 2, nreg := byteAt bs 3
    defband := byteAt bs 4, crkstop := byteAt bs 5 == 1, crkr := byteAt bs 6
    unkold := (List.range 4).map (fun i => byteAt bs (8 + i))
    bth := (records bs 12 2 15).map (fun r => ofLe r), vset := (records bs 48 2 16).map (fun r => ofLe r)
    waves := (records bs 112 68 256).map (fun r => ⟨byteAt r 0, byteAt r 1, byteAt r 2, r.drop 4⟩)
    regions := (records bs 17520 112 16).map (fun r => (readMask r, bitAt r 96 0))
    elems := (records bs 19312 8 768).map (fun r =>
      ⟨byteAt r 0, byteAt r 1, uAt r 2 2, BitVec.ofNat 16 (uAt r 4 2), byteAt r 6⟩) }

/-- The JRNL section (R311). -/
def readJrnl (bs : List Byte) : JrnlSec := ⟨uAt bs 0 2, byteAt bs 2, uAt bs 4 4⟩

/-- The PAIR section (R382). -/
def readPair (bs : List Byte) : PairSec :=
  { mode := byteAt bs 0, xpers := byteAt bs 1, mirlim := byteAt bs 2, rejlim := byteAt bs 3
    xact := BitVec.ofNat 8 (uAt bs 4 2), toltc := uAt bs 8 4, tolv := uAt bs 12 4, tolbr := uAt bs 16 4
    tolxc := uAt bs 20 4, tolli := uAt bs 24 4, tollo := uAt bs 28 4, tolpb := uAt bs 32 4
    tolspd := uAt bs 36 4 }

/-- The WTCH section (R401). -/
def readWtch (bs : List Byte) : WtchSec :=
  { react := byteAt bs 0, rstlim := byteAt bs 1, rstdly := uAt bs 2 2, safemask := BitVec.ofNat 3 (byteAt bs 4)
    hltper := uAt bs 6 2, tempwarn := uAt bs 8 2 }

/-- The OWNR section (R427). -/
def readOwnr (bs : List Byte) : List OwnRec :=
  (records bs 0 72 4).map (fun r => ⟨byteAt r 0, r.drop 8⟩)

/-- The KEYS section (R428). -/
def readKeys (bs : List Byte) : KeysSec :=
  { epoch := uAt bs 0 2, oldepoch := uAt bs 2 2, oldturns := uAt bs 4 4, fs := slice bs 8 32
    oldfs := slice bs 40 32
    hostkeys := (records bs 72 40 8).map (fun r => ⟨BitVec.ofNat 5 (byteAt r 0), byteAt r 1 == 1, r.drop 8⟩) }

/-- The eighteen tags of R410, in the order of its table. -/
def sectionTags : List (List Byte) :=
  [[0x50, 0x48, 0x53, 0x42], [0x53, 0x43, 0x48, 0x44], [0x55, 0x49, 0x43, 0x46], [0x51, 0x43, 0x43, 0x46],
   [0x58, 0x43, 0x43, 0x46], [0x4C, 0x50, 0x43, 0x46], [0x44, 0x49, 0x4F, 0x43], [0x4C, 0x41, 0x54, 0x50],
   [0x4C, 0x41, 0x54, 0x47], [0x4C, 0x41, 0x54, 0x54], [0x42, 0x45, 0x4C, 0x46], [0x43, 0x41, 0x4E, 0x4D],
   [0x50, 0x41, 0x4E, 0x4C], [0x4A, 0x52, 0x4E, 0x4C], [0x50, 0x41, 0x49, 0x52], [0x57, 0x54, 0x43, 0x48],
   [0x4F, 0x57, 0x4E, 0x52], [0x4B, 0x45, 0x59, 0x53]]

/-- A directory entry (R410): tag, offset, length, and the four zero bytes. -/
structure DirEntry where
  tag : List Byte
  off : Nat
  len : Nat
  zero : Bool
  deriving DecidableEq, Repr

/-- The directory of a payload (R410). -/
def readDir (p : List Byte) : List DirEntry :=
  (records p 0 16 18).map (fun r => ⟨slice r 0 4, uAt r 4 4, uAt r 8 4, uAt r 12 4 == 0⟩)

/-- The directory index of a section, by its place in the table of R410. -/
def dirIndex (dir : List DirEntry) (i : Nat) : Nat :=
  dir.findIdx (fun e => e.tag == sectionTags.getD i [])

/-- The bytes of a section, by its place in the table of R410. -/
def dirBytes (p : List Byte) (dir : List DirEntry) (i : Nat) : List Byte :=
  match dir.find? (fun e => e.tag == sectionTags.getD i []) with
  | some e => slice p e.off e.len
  | none => []

/-- The image of the section bytes, in the order of the table of R410. -/
def readImage (head : ImageHead) (sec : Nat → List Byte) : Image :=
  { head := head, phsb := readPhsb (sec 0), schd := readSchd (sec 1), uicf := readUicf (sec 2)
    qccf := readQccf (sec 3), xccf := (records (sec 4) 0 64 8).map readXc
    loopIn := (records (sec 5) 0 32 16).map readLi, loopOut := (records (sec 5) 512 32 4).map readLo
    dioc := readDioc (sec 6), latp := readLatp (sec 7), latg := readLatg (sec 8), latt := readLatt (sec 9)
    belf := readBelf (sec 10), canm := readCanm (sec 11), panl := readPanl (sec 12), jrnl := readJrnl (sec 13)
    pair := readPair (sec 14), wtch := readWtch (sec 15), ownr := readOwnr (sec 16), keys := readKeys (sec 17) }

end Sys2Proof.Machine
end

