-- ==== Sys2Proof/Machine/ImageCheck.lean ====
section
/-!
DEFINITION. The rules by which the vault refuses the acquisition sections of an image (R412, step 0x08): PHSB,
SCHD, UICF, QCCF, XCCF, LPCF and DIOC. A value that a section's table excludes counts as a rule of the section.
-/
namespace Sys2Proof.Machine

/-- Whether a number lies in a closed range. -/
def inR (lo hi x : Nat) : Bool := decide (lo ≤ x ∧ x ≤ hi)

/-- Whether `k` bytes from an offset are zero. -/
def zeros (bs : List Byte) (off k : Nat) : Bool := (slice bs off k).all (fun b => b == 0)

/-- A byte that holds 0 or 1. -/
def flagByte (bs : List Byte) (off : Nat) : Bool := byteAt bs off ≤ 1

/-- The counts of a full cycle of a base. -/
def cycleCounts : Nat := 2 ^ 20

/-- The counts from one position to another, going forward; a full cycle for equal ones. -/
def spanTo (a b : Nat) : Nat :=
  let d := (b + cycleCounts - a % cycleCounts) % cycleCounts
  if d = 0 then cycleCounts else d

/-! PHSB and SCHD -/

/-- The ranges of a base record (R73, R74, R80, R81, R96). -/
def baseOk (s : PhsbSec) (r : BaseRec) : Bool :=
  let mains := (s.inputs.getD r.tpin ⟨0, 0, 0⟩).mode
  inR 0 5 r.kind && inR 0 5 r.tpin && (inR 0 5 r.ipin || r.ipin == 0xFF) && inR 0 3 r.camsrc
    && inR 1 720 r.slots && inR 0 2 r.missing && inR 1 2 r.cycrev && inR 20 64 r.gapr && inR 0 4 r.acc
    && inR 1 8 r.syncerr && inR 1 8 r.camerr && inR 1 1023 r.stillt && inR 10 4000 r.minspd
    && decide (r.refpos < 2 ^ 20) && decide (r.camlo < 2 ^ 20) && decide (r.camhi < 2 ^ 20)
    && decide ((r.camhi + 2 ^ 20 - r.camlo) % 2 ^ 20 < 2 ^ 19)
    && (match r.kind with
      | 1 => inR 8 720 r.slots && inR 1 2 r.missing
      | 2 => inR 8 720 r.slots && r.missing == 0 && r.ipin != 0xFF
      | 3 => inR 1 8 r.slots
      | 4 => r.slots == 1 && mains == 3
      | 5 => r.missing == 0
      | _ => true)
    && (r.kind == 0 || r.cycrev == 1
      || (decide (r.camsrc ≠ 0) && ((s.bases[r.camsrc - 1]?).map BaseRec.kind == some 3)))
    && (r.kind == 0 || decide (6000 * (1 + r.missing) ≤ r.stillt * r.minspd * r.slots))

/-- The PHSB section (R13, R71, R96). -/
def phsbOk (bs : List Byte) (s : PhsbSec) : Bool :=
  bs.length == 128 && zeros bs 4 4 && inR 100 5000 s.tlen && inR 100 2000 s.emit && s.emit % 10 == 0
    && decide (s.emit + 400 ≤ 10 * s.tlen) && (records bs 8 32 3).all (fun r => zeros r 28 4)
    && (records bs 104 4 6).all (fun r => zeros r 3 1) && s.bases.all (baseOk s)
    && s.inputs.all (fun i => inR 0 3 i.mode)

/-- The target kinds of R88. -/
def targetUi (t : Nat) : Bool := inR 0 0x2F t
def targetQc (t : Nat) : Bool := inR 0x40 0x4B t
def targetSc (t : Nat) : Bool := inR 0x60 0x63 t

/-- One schedule entry: action, target and argument (R88, R89, R97), and the base of converter entries (R108). -/
def schedOk (u : UicfSec) (e : SchedEntry) : Bool :=
  let conv := u.convs.getD (e.target - 0x60) ⟨0, 0, 0, []⟩
  (match e.act with
    | 0 => true
    | 1 => (targetUi e.target && e.base == 0 || targetQc e.target) && e.arg == 0
    | 2 | 3 => targetQc e.target && inR 0 7 e.arg
    | 4 | 5 | 6 => targetQc e.target && e.arg == 0
    | 7 => targetSc e.target && e.base == 0 && conv.mode == 2 && (decide (e.arg < conv.len) || e.arg == 0xFF)
    | _ => false)
    && (if e.fb then inR 1 255 e.fbdiv else e.fbdiv == 0)

/-- The SCHD section (R89, R97, R108). -/
def schdOk (bs : List Byte) (img : Image) : Bool :=
  let n := uAt bs 0 2
  inR 0 4094 n && bs.length == 8 + 12 * n && zeros bs 2 6
    && (records bs 8 12 n).all (fun r => decide (uAt r 0 4 < 2 ^ 27) && zeros r 6 2 && decide (uAt r 8 4 < 2 ^ 28))
    && img.schd.all (schedOk img.uicf)
    && img.schd.all (fun e => decide ((img.schd.filter (fun x => x.base == e.base && x.pos == e.pos)).length ≤ 64))
    && img.uicf.convs.all (fun c => c.mode != 1 || c.steps.all (fun s => !s.entryStart))

/-! UICF -/

/-- The ranges of a channel record (R130). -/
def uiChanOk (c : UiChan) : Bool :=
  let rtd := c.mode == 2
  inR 0 4 c.mode
    && (match c.mode with
      | 1 => inR 0 7 c.subtype
      | 2 => inR 0 1 c.subtype
      | 3 => inR 0 2 c.subtype
      | _ => c.subtype == 0)
    && (if rtd then inR 1 3 c.wires && inR 0 4 c.iexi else c.wires == 0 && c.iexi == 0)
    && (if rtd then inR 0 3 c.gain else if c.mode == 4 then inR 0 7 c.gain else c.gain == 0)
    && (if c.mode == 1 then inR 0 5 c.cjsrc else c.cjsrc == 7) && inR 0 47 c.cjch && inR 0 10 c.rate
    && inR 0 1000 c.settle && inR 0 2 c.ipc && inR 1 255 c.openr
    && (c.fixcj == 0 || c.mode == 1 && c.cjsrc == 5 || rtd && c.wires == 1)

/-- A step word: its reserved bits, its fields and its channel (R130, R131). CHAN of a CJ step is 0, as the step table
says; such a step converts its own converter's CJ input (DEDUCED, log entry 48). -/
def uiStepOk (u : UicfSec) (m w : Nat) : Bool :=
  let s := readUiStep (leBytes 4 w)
  w / 2 ^ 24 % 32 == 0 && w / 2 ^ 6 % 16 == 0
    && (match s.kind with
      | 0 => s.rate == 0 && s.settle == 0 && s.chan / 12 == m
        && decide (((u.chans[s.chan]?).map UiChan.mode).getD 0 ≠ 0)
      | 1 => inR 0 10 s.rate && inR 0 1000 s.settle && s.chan == 0
      | 2 => inR 0 10 s.rate && s.settle == 0 && s.chan == 0
      | _ => false)

/-- A converter record (R103, R130, R131). -/
def uiConvOk (img : Image) (m : Nat) (r : List Byte) (c : UiConv) : Bool :=
  let chans := (img.uicf.chans.drop (12 * m)).take 12
  let reach := fun k => img.schd.any (fun e => e.act == 7 && e.target == 0x60 + m && (e.arg == 0xFF || e.arg == k))
  inR 0 2 c.mode && inR 1 48 c.len && inR 0 2 c.exvlvl && zeros r 3 1 && zeros r (4 + 4 * c.len) 192
    && (records r 4 4 c.len).all (fun s => uiStepOk img.uicf m (ofLe s))
    && (if c.mode = 0 then chans.all (fun x => x.mode == 0)
      else (List.range c.len).any (fun k =>
        (c.steps.getD k ⟨0, false, 0, 0, 0⟩).kind == 2 && (c.mode == 1 || reach k)))
    && (decide (c.exvlvl ≠ 0) || chans.all (fun x => x.mode != 4))

/-- The RTD channels of a group. -/
def groupRtd (u : UicfSec) (g : Nat) : List UiChan :=
  ((u.chans.drop (4 * g)).take 4).filter (fun c => c.mode == 2)

/-- The cold junction, wiring and companion rules of a channel (R110, R131). -/
def uiWiringOk (u : UicfSec) (n : Nat) (c : UiChan) : Bool :=
  let modeOf := fun k => ((u.chans[k]?).map UiChan.mode).getD 0
  (c.mode != 1 || (if c.cjsrc ≤ 3 then (u.cjs.getD c.cjsrc ⟨false, 0⟩).en
      else if c.cjsrc = 4 then modeOf c.cjch == 2 else true))
    && (!(c.mode == 2 && c.wires == 3) || (n % 2 == 0 && modeOf (n + 1) == 0))

/-- The AMON sources of R125 and R127. -/
def amonOk (u : UicfSec) (src : Nat) : Bool :=
  (inR 0 0x2F src || inR 0x40 0x4B src || inR 0x50 0x57 src || inR 0x70 0x7F src || src == 0xFF)
    && (!(decide (src < 48) && ((u.chans[src]?).map UiChan.mode == some 2))
      || (groupRtd u (src / 4)).length == 1)

/-- The UICF section (R130, R131). -/
def uicfOk (bs : List Byte) (img : Image) : Bool :=
  let u := img.uicf
  bs.length == 1688 && u.chans.all uiChanOk
    && (List.range 4).all (fun m => uiConvOk img m (slice bs (768 + 196 * m) 196) (u.convs.getD m ⟨0, 0, 0, []⟩))
    && (records bs 1552 8 12).all (fun r => zeros r 4 4)
    && (records bs 1648 8 4).all (fun r => flagByte r 0 && zeros r 1 1 && zeros r 4 4)
    && (records bs 1680 4 2).all (fun r => zeros r 1 3)
    && (List.range 48).all (fun n => match u.chans[n]? with
      | some c => uiWiringOk u n c
      | none => false)
    && (List.range 12).all (fun g => (groupRtd u g).all (fun c =>
      inR 500000000 2500000000 (iexiAmps c.iexi * u.rrefval.getD g 0)))
    && u.amon.all (amonOk u)

/-! QCCF -/

/-- The ranges of a channel record (R161); `c10` is the cycle length in tenths of °CA. -/
def qcRangesOk (r : List Byte) (q : QcRec) (c10 : Nat) : Bool :=
  let a := q.acq
  let c := q.comp
  flagByte r 0 && flagByte r 1 && flagByte r 5
    && (if a.timeMode then a.base == 0 && inR 1 1000 a.tper && c.vtabsel == 0xFF
      else inR 1 3 a.base && a.tper == 0 && inR 0 1 c.vtabsel)
    && inR 0 3 a.res && inR 0 3 a.range && inR 1 15 a.autocnt && a.wkind.all (inR 0 3) && a.sens != 0
    && decide (a.tdca < c10) && inR 1 3600 c.pegw && inR 0 2 c.pegsrc
    && (if c.pegsrc = 2 then inR 0 15 c.pegch else inR 0 47 c.pegch) && inR 1 255 a.rstt
    && inR 0 7199 c.kskip && inR 0 63 c.ksh && zeros r 67 1 && zeros r 80 16 && decide (a.cmin < a.cmax)

/-- The entries of a channel's windows of one kind on a base: for each WINOPEN its position and the counts to the
next WINCLOSE of that window, none where no WINCLOSE follows (R136). -/
def windowSpans (sch : List SchedEntry) (n b : Nat) (wkind : List Nat) (kind : Nat) : List (Nat × Option Nat) :=
  let mine := sch.filter (fun e => e.target == 0x40 + n && e.base == b)
  (mine.filter (fun e => e.act == 2 && wkind.getD e.arg 0 == kind)).map (fun o =>
    (o.pos, ((mine.filter (fun e => e.act == 3 && e.arg == o.arg)).map (fun e => spanTo o.pos e.pos)).min?))

/-- Whether two spans share a count. -/
def spansMeet (x y : Nat × Option Nat) : Bool :=
  let off := fun (p q : Nat) => (q + cycleCounts - p % cycleCounts) % cycleCounts
  decide (off x.1 y.1 < x.2.getD cycleCounts) || decide (off y.1 x.1 < y.2.getD cycleCounts)

/-- Whether every QRESET follows a CYCLE entry of the channel within one QUIET window (R162). -/
def qresetOk (sch : List SchedEntry) (n b : Nat) (quiet : List (Nat × Option Nat)) : Bool :=
  let idx := (List.range sch.length).filterMap (fun i => (sch[i]?).map (fun e => (i, e)))
  let mine := idx.filter (fun x => x.2.target == 0x40 + n && x.2.base == b)
  (mine.filter (fun x => x.2.act == 4)).all (fun q => quiet.any (fun s =>
    let off := fun (p : Nat) => (p + cycleCounts - s.1 % cycleCounts) % cycleCounts
    let len := s.2.getD cycleCounts
    decide (off q.2.pos < len) && mine.any (fun c => c.2.act == 6 && decide (off c.2.pos < len)
      && (decide (off c.2.pos < off q.2.pos) || c.2.pos == q.2.pos && decide (c.1 < q.1)))))

/-- Whether an angle in tenths of °CA relative to TDC lies in the ACQ window's span (R150, R162). -/
def inAcqSpan (c10 tdca : Nat) (s : Nat × Option Nat) (v : Int) : Bool :=
  let one : Int := (cycleCounts : Nat)
  let full : Int := one * (c10 : Nat)
  let st : Int := (((s.1 * c10 : Nat) : Int) - one * (tdca : Nat)) % full
  let st := if 2 * st > full then st - full else st
  decide (st ≤ v * one) && decide (v * one ≤ st + ((s.2.getD cycleCounts * c10 : Nat) : Int))

/-- What a powered channel needs (R162): its windows and its entries. -/
def qcPoweredOk (img : Image) (n : Nat) (q : QcRec) : Bool :=
  let a := q.acq
  let onBase := fun (e : SchedEntry) => a.timeMode || e.base == a.base
  let has := fun k => img.schd.any (fun e => e.act == k && e.target == 0x40 + n && onBase e)
  let cnt := fun k => (a.wkind.filter (fun w => w == k)).length
  cnt 1 == 1 && decide (1 ≤ cnt 2) && decide (cnt 3 ≤ 1) && has 6 && has 5 && has 4

/-- The schedule and angle rules of every channel (R162): on each base its ACQ window closes within the cycle and meets
no QUIET window, and each QRESET follows a CYCLE in its QUIET window; in ANGLE mode the angles lie in the ACQ window. -/
def qcScheduleOk (img : Image) (n : Nat) (q : QcRec) (c10 : Nat) : Bool :=
  let a := q.acq
  let c := q.comp
  let acq := windowSpans img.schd n a.base a.wkind 1
  [0, 1, 2, 3].all (fun b =>
      let quiet := windowSpans img.schd n b a.wkind 2
      (windowSpans img.schd n b a.wkind 1).all (fun x => x.2.isSome && quiet.all (fun y => !spansMeet x y))
        && qresetOk img.schd n b quiet)
    && decide (c.imlo < c.imhi)
    && (a.timeMode || !a.pwren && acq.isEmpty
      || [c.pega, c.compa, c.imlo, c.imhi, c.dplo, c.dphi].all (fun v => acq.any (fun s => inAcqSpan c10 a.tdca s v)))

/-- A channel of the QCCF section (R161, R162). -/
def qcOk (img : Image) (n : Nat) (r : List Byte) (q : QcRec) : Bool :=
  let rev := ((img.phsb.bases[q.acq.base - 1]?).map BaseRec.cycrev).getD 2
  let c10 := if q.acq.timeMode then 7200 else 3600 * rev
  let tab := (img.qccf.vtab.getD q.comp.vtabsel []).drop 3600
  let short := tab.all (fun v => v == 0)
  qcRangesOk r q c10 && (!q.acq.pwren || qcPoweredOk img n q) && qcScheduleOk img n q c10
    && (match q.comp.pegsrc with
      | 1 => decide (((img.uicf.chans[q.comp.pegch]?).map UiChan.mode).getD 0 ≠ 0)
      | 2 => decide (((img.loopIn[q.comp.pegch]?).map LiRec.mode).getD 0 ≠ 0)
      | _ => true)
    && (q.acq.timeMode || short == (rev == 1))

/-- The QCCF section (R152, R161, R162). -/
def qccfOk (bs : List Byte) (img : Image) : Bool :=
  bs.length == 58752
    && (List.range 12).all (fun n => match img.qccf.chans[n]? with
      | some q => qcOk img n (slice bs (96 * n) 96) q
      | none => false)
    && img.schd.all (fun e => !(e.fb && targetQc e.target && [1, 2, 3, 6].contains e.act))

/-! XCCF, LPCF and DIOC -/

/-- A channel of the XCCF section (R169, R180, R181). -/
def xcOk (r : List Byte) (x : XcRec) : Bool :=
  flagByte r 0 && inR 0 3 x.mode && inR 1 64 x.demn && zeros r 3 1 && inR 100 2000 x.freq && inR 50 700 x.amp
    && inR 10 80 x.ilim && inR 1 255 x.imin && decide (x.lo < x.hi) && zeros r 28 36
    && !(x.drven && x.mode == 0)
    && (if x.mode = 2 ∨ x.mode = 3 then decide (x.rref ≠ 0) && x.qmax == 0 else x.rref == 0 || x.mode != 1)

/-- The XCCF section. -/
def xccfOk (bs : List Byte) : Bool :=
  bs.length == 512 && (records bs 0 64 8).all (fun r => xcOk r (readXc r))

/-- An input record of the LPCF section (R209, R210). -/
def liOk (r : List Byte) (l : LiRec) : Bool :=
  inR 0 2 l.mode && flagByte r 1 && (!l.supen || l.mode == 1) && inR 0 1 l.tli && inR 0 2 l.hart && inR 0 320 l.td
    && inR 0 100 l.tstart && inR 0 3 l.retry && (inR 0 253 l.pcmd || l.pcmd == 0xFF) && inR 5 20 l.pream
    && inR 1 600 l.pper && inR 1 6000 l.hstale && l.hexp.all (fun h => decide (-6 ≤ h ∧ h ≤ 6))
    && flagByte r 18 && flagByte r 19 && flagByte r 20 && zeros r 26 6
    && (l.hart == 0 || l.mode != 0) && (l.pcmd == 0xFF || l.hart != 0)
    && (l.long == !zeros r 21 5)

/-- An output record of the LPCF section (R209, R210). -/
def loOk (img : Image) (r : List Byte) (l : LoRec) : Bool :=
  let alm := l.almsrc
  flagByte r 0 && inR 0 1 l.almlvl && inR 0 3 l.safe && zeros r 3 1 && zeros r 18 14
    && (l.trksrc == 0xFFFF || decide (l.trksrc < img.latp.points.length) && l.trklo != l.trkhi)
    && (alm == 0xFFFF || alm / 2 ^ 13 == 0
      && decide (alm % 2 ^ 12 < (if bitOf alm 12 then img.latg.nodes.length else img.latp.points.length)))
    && (l.hset == 3500 || l.hset == 21750 || inR 3800 20500 l.hset)

/-- The LPCF section. -/
def lpcfOk (bs : List Byte) (img : Image) : Bool :=
  bs.length == 640 && (records bs 0 32 16).all (fun r => liOk r (readLi r))
    && (records bs 512 32 4).all (fun r => loOk img r (readLo r))

/-- An output record of the DIOC section (R223, R224, R270). -/
def doOk (img : Image) (r : List Byte) (o : DoRec) : Bool :=
  flagByte r 0 && inR 0 2 o.safe && inR 0 3 (byteAt r 2) && inR 0 3 (byteAt r 3) && inR 5 50 o.ptw
    && inR 1 255 o.fbt
    && (match o.srck with
      | 1 => decide (o.src < img.latp.points.length)
      | 2 => decide (o.src < img.latg.nodes.length)
      | 3 => inR 0 10 o.src
      | _ => o.src == 0)

/-- The DIOC section. -/
def diocOk (bs : List Byte) (img : Image) : Bool :=
  bs.length == 388 && zeros bs 2 2 && inR 1 3600 img.dioc.ptper
    && (records bs 4 4 32).all (fun r => inR 0 2 (byteAt r 0) && flagByte r 2 && zeros r 3 1)
    && (List.range 32).all (fun m => match img.dioc.outputs[m]? with
      | some o => doOk img (slice bs (132 + 8 * m) 8) o
      | none => false)

end Sys2Proof.Machine
end

