-- ==== Sys2Proof/Machine/ImageRules.lean ====
section
/-!
DEFINITION. The rules by which the vault refuses the remaining sections (R412, step 0x08): LATP, LATG, LATT,
BELF, CANM, PANL, JRNL, PAIR, WTCH, OWNR and KEYS, and the class A count of R33; then the directory rules of
R410 and the judgement of a whole payload.
-/
namespace Sys2Proof.Machine

/-- Whether a list of numbers holds no number twice. -/
def distinct : List Nat → Bool
  | [] => true
  | x :: t => !t.contains x && distinct t

/-- Whether a list of integers rises strictly. -/
def rising : List Int → Bool
  | x :: y :: t => decide (x < y) && rising (y :: t)
  | _ => true

/-- Whether a list of integers never falls. -/
def notFalling : List Int → Bool
  | x :: y :: t => decide (x ≤ y) && notFalling (y :: t)
  | _ => true

/-- Whether a point of the image is used (R226). -/
def Image.usedPoint (img : Image) (p : Nat) : Bool :=
  match img.latp.points[p]? with
  | some r => r.srck != 0
  | none => false

/-! The class A count -/

/-- Enabled class A alarm slots (R33). -/
def classAAlarms (img : Image) : Nat :=
  ((img.latp.points.filter (fun r => r.srck != 0)).flatMap (fun r =>
    r.checks.filter (fun c => c.en && c.cls == 0))).length

/-- Class A chains, and the watch when WCLS is A (R33, R272). -/
def classABelfry (img : Image) : Nat :=
  (img.belf.chains.filter (fun c => c.cls == 0)).length + b2n (img.belf.wcls == 0)

/-- Class A transmit entries (R33). -/
def classATx (img : Image) : Nat := (img.canm.tx.filter (fun t => t.cls == 0)).length

/-! LATP -/

/-- The source of a point (R227). -/
def sourceOk (img : Image) (r : PointRec) : Bool :=
  match r.srck with
  | 0 => true
  | 1 => inR 0 47 r.srci && r.srcf == 0
  | 2 => inR 0 11 r.srci && inR 0 6 r.srcf
  | 3 => inR 0 7 r.srci && inR 0 1 r.srcf
  | 4 => inR 0 15 r.srci && inR 0 6 r.srcf
  | 5 => inR 0 31 r.srci && r.srcf == 0
  | 6 => (r.srcf == 0 && inR 0 31 r.srci) || (r.srcf == 1 && inR 0 3 r.srci)
  | 7 => inR 0 3 r.srci && inR 0 1 r.srcf
  | 8 => inR 0 4095 r.srci && r.srcf == 0
  | 9 => inR 0 511 r.srci && r.srcf == 0
  | 10 => decide (r.srci < img.latg.nodes.length) && r.srcf == 0
  | _ => false

/-- A suppression word (R236, R250). -/
def supOk (img : Image) (s : SupRec) : Bool :=
  match s.kind with
  | 0 => true
  | 1 => decide (s.ref < img.latp.points.length)
  | 2 => decide (s.ref < img.latg.nodes.length)
  | 3 => inR 0 31 s.ref
  | 4 => inR 1 3 s.ref
  | 5 => inR 0 511 s.ref
  | _ => false

/-- The bytes of a point record that the table fixes (R249). -/
def pointRawOk (r : List Byte) : Bool :=
  let head := fun (c : List Byte) (at_ : Nat) => (byteAt c at_ / 4 % 32 == 0) && zeros c (at_ + 3) 1
  inR 0 7 (byteAt r 7) && decide (uAt r 20 2 < 512) && zeros r 23 1 && decide (uAt r 24 2 < 512)
    && head r 32 && zeros r 36 12 && (records r 48 16 8).all (fun c => head c 12)

/-- A point record (R249, R250). -/
def pointOk (img : Image) (r : PointRec) : Bool :=
  let en := fun k => ((r.checks[k]?).map CheckRec.en).getD false
  let lim := fun k => ((r.checks[k]?).map CheckRec.lim).getD 0
  sourceOk img r && inR 0 2 r.scale && (r.devset == 0xFF || decide (r.devset < img.latp.devsets.length))
    && (if en 4 || en 5 then r.rwin != 0 else r.rwin == 0) && (!(en 6 || en 7) || r.devset != 0xFF)
    && (r.scale != 2 || decide (0 ≤ r.mul ∧ r.mul.toNat < img.latp.tabs.length))
    && (r.scale == 1 || r.ofs == 0) && supOk img r.sup0 && supOk img r.sup1 && (r.srck == 9 || r.hptmo == 0)
    && r.ident != 0 && r.checks.all (fun c => decide (0 ≤ c.hys ∧ 0 ≤ c.db))
    && notFalling (([3, 2, 1, 0].filter en).map lim)

/-- A deviation set (R233, R250). -/
def devOk (img : Image) (r : List Byte) (s : DevSet) : Bool :=
  inR 1 32 (byteAt r 1) && inR 1 s.members.length s.minn && zeros r 2 2 && distinct s.members
    && s.members.all img.usedPoint
    && ((records r 4 2 32).drop (byteAt r 1)).all (fun m => ofLe m == 0xFFFF)

/-- The LATP section (R249, R250). -/
def latpOk (bs : List Byte) (img : Image) : Bool :=
  let n := uAt bs 0 2
  let t := uAt bs 2 2
  let v := uAt bs 4 2
  inR 0 4096 n && inR 0 256 t && inR 0 128 v && zeros bs 6 10 && bs.length == 16 + 176 * n + 136 * t + 68 * v
    && (records bs 16 176 n).all pointRawOk && img.latp.points.all (pointOk img)
    && distinct ((img.latp.points.filter (fun r => r.srck != 0)).map (fun r => r.ident.toNat))
    && img.latp.tabs.all (fun x => rising (x.map (fun p => p.1)))
    && (records bs (16 + 176 * n + 136 * t) 68 v).all (fun r => devOk img r (readDev r))
    && decide (classAAlarms img ≤ commitK img.phsb.emit)

/-! LATG, LATT and BELF -/

/-- An input word (R254): reserved bits, kinds, attributes and the image's used cells. -/
def inWordOk (img : Image) (w : Nat) : Bool :=
  let i := readIn (leBytes 4 w)
  w / 2 ^ 12 % 1024 == 0 &&
    match i.ikind with
    | 0 => i.attr == 0
    | 1 => (inR 0 3 i.attr || inR 16 24 i.attr) && decide (i.index < img.latp.points.length)
    | 2 => i.attr == 0 && decide (i.index < img.latg.nodes.length)
    | 3 => inR 0 1 i.attr && decide (i.index < img.latt.length)
    | 4 => i.attr == 0 && inR 0 31 i.index
    | 5 => i.attr == 0 && inR 0 511 i.index
    | 6 => inR 0 1 i.attr && inR 0 3 i.index
    | 7 => inR 0 1 i.attr && inR 1 3 i.index
    | _ => false

/-- A node record (R276, R279). -/
def nodeOk (img : Image) (r : List Byte) (x : NodeRec) : Bool :=
  let ins := (img.latg.inputs.drop x.first).take x.nin
  inR 0 6 x.func && inR 1 8 x.level && inR 1 64 x.nin && flagByte r 6 && zeros r 7 1 && x.ident != 0
    && (if x.func = 2 ∨ 4 ≤ x.func then inR 1 x.nin x.k else x.k == 0)
    && decide (x.first + x.nin ≤ img.latg.inputs.length)
    && ins.all (fun i => i.ikind != 2 || decide (((img.latg.nodes[i.index]?).map NodeRec.level).getD 9 < x.level))
    && (decide (x.func < 4) || ins.all (fun i => !i.inv))

/-- The LATG section (R276, R279). -/
def latgOk (bs : List Byte) (img : Image) : Bool :=
  let n := uAt bs 0 2
  let k := uAt bs 2 2
  inR 0 1024 n && inR 0 8192 k && zeros bs 4 12 && bs.length == 16 + 16 * n + 4 * k
    && (records bs 16 16 n).all (fun r => nodeOk img r (readNode r))
    && (records bs (16 + 16 * n) 4 k).all (fun r => inWordOk img (ofLe r))
    && distinct (img.latg.nodes.map (fun x => x.ident.toNat))

/-- The LATT section (R257, R277, R279). -/
def lattOk (bs : List Byte) (img : Image) : Bool :=
  let n := uAt bs 0 2
  inR 0 2048 n && zeros bs 2 14 && bs.length == 16 + 24 * n
    && (records bs 16 24 n).all (fun r =>
      let x := readTimer r
      inR 0 5 x.kind && zeros r 1 3 && zeros r 20 4 && x.ident != 0 && inWordOk img (uAt r 8 4)
        && inWordOk img (uAt r 12 4) && (if x.kind = 5 then x.pt == 0 else inR 1 16777215 x.pt))
    && distinct (img.latt.map (fun x => x.ident.toNat))

/-- A contact input or 0xFF for none. -/
def diOrNone (n : Nat) : Bool := inR 0 31 n || n == 0xFF

/-- A station record (R278, R279). -/
def stationOk (img : Image) (r : List Byte) (x : StationRec) : Bool :=
  diOrNone x.ackdi && inR 0 15 (byteAt r 1) && decide (x.chmask.toNat < 2 ^ img.belf.chains.length)
    && (x.force == 0xFFFF || decide (x.force < img.latg.nodes.length)) && zeros r 6 2
    && x.ranges.all (fun g => g.1 == 0xFFFF || decide (g.1 ≤ g.2) && inR 0 4095 g.2)

/-- The fields of a chain record (R278), of one at or above NCHAIN too. -/
def chainFieldsOk (r : List Byte) (x : ChainRec) : Bool :=
  inR 0 3 x.cls && inR 0 3 (byteAt r 3) && inR 0 16777215 x.rearm && (inR 0 1023 x.trig || x.trig == 0xFFFF)
    && (records r 8 4 4).all (fun s => byteAt s 1 / 4 % 32 == 0 && (bitAt s 1 7 || zeros s 0 4))

/-- A chain (R266, R278, R279): the chain named WCHAIN has no trigger node. -/
def chainOk (img : Image) (c : Nat) (x : ChainRec) : Bool :=
  let n := (x.stages.filter StageRec.present).length
  (if img.belf.wchain = c then x.trig == 0xFFFF else decide (x.trig < img.latg.nodes.length))
    && decide (1 ≤ n) && (x.stages.take n).all StageRec.present
    && (x.stages.take (n - 1)).all (fun s => s.tmo != 0)
    && (((x.stages[n - 1]?).map StageRec.tmo).getD 0 == 0)

/-- The BELF section (R261, R278, R279). -/
def belfOk (bs : List Byte) (img : Image) : Bool :=
  let b := img.belf
  let ns := byteAt bs 4
  bs.length == 704 && inR 0 16 b.neng && inR 0 2 b.dutysel && (decide (b.defduty < b.neng) || b.defduty == 0xFF)
    && (if b.dutysel = 1 then inR 0 28 b.swdi else b.swdi == 0) && inR 0 8 ns
    && (b.dutysel != 2 || decide (1 ≤ ns)) && inR 0 16 (byteAt bs 5)
    && (decide (b.wchain < b.chains.length) || b.wchain == 0xFF) && inR 0 3 b.wcls && b.wtime != 0
    && decide (b.wpre < b.wtime) && b.wdi.all diOrNone && diOrNone b.wondi && zeros bs 21 11
    && (records bs 32 4 16).all (fun r =>
      (inR 0 7 (byteAt r 0) || byteAt r 0 == 0xFF) && flagByte r 1 && zeros r 2 2)
    && (records bs 96 4 8).all (fun r => inR 0 1439 (uAt r 0 2) && zeros r 3 1)
    && b.schedule.all (fun e => decide (e.2 < b.neng)) && distinct (b.schedule.map (fun e => e.1))
    && (records bs 128 24 8).all (fun r => stationOk img r (readStation r))
    && (records bs 320 24 16).all (fun r => chainFieldsOk r (readChain r))
    && (List.range b.chains.length).all (fun c => (b.chains[c]?).any (chainOk img c))
    && decide (classAAlarms img + classABelfry img ≤ commitK img.phsb.emit)

/-! CANM -/

/-- Nominal and data timing (R313, R316), in quanta of CK_CAN at 80 MHz. -/
def nbtOk (w : Nat) : Bool :=
  let brp := w % 256 + 1
  let t1 := w / 2 ^ 10 % 256 + 1
  let t2 := w / 2 ^ 18 % 128 + 1
  let sjw := w / 2 ^ 25 + 1
  w / 256 % 4 == 0 && decide (2 ≤ t1) && decide (sjw ≤ t2) && decide (8 ≤ 1 + t1 + t2)
    && decide (80 ≤ brp * (1 + t1 + t2))

def dbtOk (w : Nat) : Bool :=
  let brp := w % 32 + 1
  let t1 := w / 2 ^ 19 % 32 + 1
  let t2 := w / 2 ^ 24 % 16 + 1
  let sjw := w / 2 ^ 28 + 1
  w / 2 ^ 5 % 2 ^ 14 == 0 && decide (sjw ≤ t2) && decide (5 ≤ 1 + t1 + t2) && decide (10 ≤ brp * (1 + t1 + t2))

/-- Whether an ID word that the device sends is one: no remote frame, a base identifier in [10:0]. -/
def idWordOk (w : Nat) : Bool := !bitOf w 30 && (bitOf w 29 || w % 2 ^ 29 / 2 ^ 11 == 0)

/-- A channel record (R343, with R316 for an enabled channel). -/
def canChanOk (n : Nat) (r : List Byte) (c : CanChan) : Bool :=
  flagByte r 0 && flagByte r 1 && flagByte r 2 && flagByte r 3 && decide (c.tdc.toNat < 256)
    && inR 0 2 c.wakemode && (decide (n < 2) || c.wakemode == 0) && inR 0 8 c.wdlen && zeros r 22 2 && zeros r 40 8
    && idWordOk c.hbid.toNat && (!c.en || nbtOk c.nbt.toNat) && (!(c.en && c.fden) || dbtOk c.dbt.toNat)

/-- The data lengths of R313. -/
def canLens (fd : Bool) : List Nat :=
  [0, 1, 2, 3, 4, 5, 6, 7, 8] ++ (if fd then [12, 16, 20, 24, 32, 48, 64] else [])

/-- A field of a transmit entry (R343, R344). -/
def txFieldOk (img : Image) (cls pay : Nat) (f : TxField) : Bool :=
  (if f.fkind = 6 then inR 0 7 f.bit && decide (f.off < pay)
    else [1, 2, 4].contains f.width && decide (f.off + f.width ≤ pay))
    && (match f.fkind with
      | 1 | 2 => decide (f.obj < img.latp.points.length)
      | 3 => decide (f.obj < img.latg.nodes.length)
      | 4 => f.obj == 0
      | 5 => ((img.belf.chains[f.obj]?).map ChainRec.cls) == some cls
      | 6 => inWordOk img f.obj
      | _ => false)

/-- A transmit entry (R313, R326, R343, R344). -/
def txOk (img : Image) (r : List Byte) (t : TxRec) : Bool :=
  let d := t.cls == 3
  let tag := if t.mac then 8 else 0
  inR 0 3 t.cls && inR 0 15 (byteAt r 1) && inR 0 254 t.stream && inR 0 7 (byteAt r 3) && idWordOk t.id.toNat
    && (canLens t.fd).contains t.len && inR 0 1 t.trig && (t.trig == 0 || d && inR 1 65535 t.per) && zeros r 12 4
    && (!d || !t.mac && t.stream == 0) && (!t.mac || t.fd)
    && (d || inR (4 + tag) (24 + tag) t.len)
    && t.fields.all (txFieldOk img t.cls (if d then t.len else t.len - 4 - tag))

/-- A receive entry (R343, R344). -/
def rxOk (r : List Byte) (x : RxRec) : Bool :=
  flagByte r 0 && inR 0 15 (byteAt r 1) && (if x.seq then inR 1 254 x.sender else x.sender == 0 && !x.mac)
    && inR 0 254 x.stream && inR 0 15 (byteAt r 12) && zeros r 15 1 && zeros r 20 12
    && (if x.command then x.width == 0 && x.point == 0 else [1, 2, 4].contains x.width && inR 0 4095 x.point)

/-- Whether the identifier sets of two receive entries overlap (R344). -/
def idsMeet (x y : RxRec) : Bool := (x.id ^^^ y.id) &&& (x.idmask &&& y.idmask) == 0

/-- The class A rules of a channel (R32, R322, R339): eight frames with the heartbeat, identifiers above all others
of the map; the heartbeat is a class A frame. -/
def classAChanOk (m : CanmSec) (n : Nat) : Bool :=
  let on := m.tx.filter (fun t => bitOf t.chmask.toNat n)
  let a := on.filter (fun t => t.cls == 0)
  let c := m.chans.getD n ⟨false, false, 0, false, 0, 0, 0, 0, 0, 0, 0, 0, []⟩
  let ids := a.map (fun t => t.id.toNat) ++ (if bitOf m.hbmask.toNat n then [c.hbid.toNat] else [])
  let others := (on.filter (fun t => t.cls != 0)).map (fun t => t.id.toNat)
  decide (ids.length ≤ 8) && (a.isEmpty || c.txord == 0)
    && ids.all (fun t => others.all (fun o => decide (arbKey t < arbKey o)))

/-- The bus pairs of a class A mask (R330). -/
def busPairOk (pair mask : Nat) : Bool :=
  let sets := ([0, 1].filter (bitOf pair)).map (fun k => (bitOf mask (2 * k), bitOf mask (2 * k + 1)))
  sets.isEmpty || (sets.any (fun s => s.1 && s.2) && sets.all (fun s => s.1 == s.2))

/-- The CANM section (R343, R344). -/
def canmOk (bs : List Byte) (img : Image) : Bool :=
  let m := img.canm
  let nt := uAt bs 4 2
  let nr := uAt bs 6 2
  let sq := m.rx.filter RxRec.seq
  let remotes := m.rx.filter (fun x => !x.command)
  inR 1 254 m.sender && inR 0 15 (byteAt bs 1) && inR 8 4095 m.agelim && inR 0 512 nt && inR 0 1024 nr
    && inR 0 3 (byteAt bs 8) && zeros bs 9 23 && bs.length == 224 + 64 * nt + 32 * nr
    && (List.range 4).all (fun n =>
      let r := slice bs (32 + 48 * n) 48
      canChanOk n r (readCanChan r) && classAChanOk m n)
    && (records bs 224 64 nt).all (fun r => (records r 16 8 6).all (fun f => inR 0 6 (byteAt f 0)) && txOk img r (readTx r))
    && (records bs (224 + 64 * nt) 32 nr).all (fun r => rxOk r (readRx r))
    && m.tx.all (fun t => t.cls != 0 || busPairOk m.buspair.toNat t.chmask.toNat)
    && m.tx.all (fun t => m.tx.all (fun u => t.cls == 3 || u.cls == 3 || t.stream != u.stream
      || t.cls == u.cls && t.chmask == u.chmask))
    && sq.all (fun x => sq.all (fun y => x.stream != y.stream || x.sender == y.sender
      || (x.chmask &&& y.chmask) == 0 || !idsMeet x y))
    && decide (((sq.map (fun x => (x.sender, x.stream))).eraseDups).length ≤ 512)
    && remotes.all (fun x => remotes.all (fun y => x.point != y.point || x.width == y.width))
    && decide (classAAlarms img + classABelfry img + classATx img ≤ commitK img.phsb.emit)

/-! PANL, JRNL, PAIR and WTCH -/

/-- An element record (R453, R465, R466). -/
def elemOk (img : Image) (r : List Byte) (e : ElemRec) : Bool :=
  inR 0 9 e.ckind && inR 0 3 e.level && zeros r 7 1
    && (match e.ckind with
      | 1 => inR 0 8 e.kindSig && decide (e.index < img.latp.points.length)
      | 2 => decide (e.index < img.latp.points.length)
      | 3 => decide (e.index < img.latg.nodes.length)
      | 4 => inR 0 10 e.kindSig
      | 6 | 7 => decide (e.index < img.belf.neng)
      | 8 => decide (e.index < img.belf.chains.length)
      | _ => true)

/-- The PANL section (R450, R465, R466). -/
def panlOk (bs : List Byte) (img : Image) : Bool :=
  let p := img.panl
  bs.length == 25456 && flagByte bs 0 && inR 0 2 p.polmode && inR 1 20 p.frame && inR 0 16 p.nreg
    && inR 0 15 p.defband && flagByte bs 5 && inR 1 255 p.crkr && zeros bs 7 1 && p.unkold.all (inR 0 3)
    && rising (p.bth.map (fun (n : Nat) => (n : Int))) && zeros bs 42 6 && p.vset.all (inR 100 400) && zeros bs 80 32
    && (records bs 112 68 256).all (fun r => inR 0 64 (byteAt r 0) && inR 0 15 (byteAt r 1)
      && inR 0 63 (byteAt r 2) && zeros r 3 1 && (r.drop 4).all (fun b => decide (b.toNat < 128)))
    && (records bs 17520 112 16).all (fun r => flagByte r 96 && zeros r 97 15)
    && (p.regions.drop p.nreg).all (fun g => g.1.isEmpty) && distinct (p.regions.flatMap (fun g => g.1))
    && (records bs 19312 8 768).all (fun r =>
      elemOk img r ⟨byteAt r 0, byteAt r 1, uAt r 2 2, 0, byteAt r 6⟩)

/-- The JRNL section (R311). -/
def jrnlOk (bs : List Byte) (j : JrnlSec) : Bool :=
  bs.length == 16 && inR 8 4095 j.agelim && inR 1 255 j.holdlim && zeros bs 3 1
    && inR 65536 1835008 j.warnfree && zeros bs 8 8

/-- The PAIR section (R382). -/
def pairOk (bs : List Byte) (p : PairSec) : Bool :=
  bs.length == 64 && inR 0 1 p.mode && inR 1 255 p.xpers && inR 1 16 p.mirlim && inR 1 15 p.rejlim
    && zeros bs 5 1 && zeros bs 6 2 && zeros bs 40 24
    && (p.mode == 0 || [p.toltc, p.tolv, p.tolbr, p.tolxc, p.tolli, p.tollo, p.tolpb, p.tolspd].all (fun t => t != 0))

/-- The WTCH section (R401). -/
def wtchOk (bs : List Byte) (w : WtchSec) : Bool :=
  bs.length == 16 && inR 0 1 w.react && inR 1 15 w.rstlim && inR 1 1000 w.rstdly && inR 0 7 (byteAt bs 4)
    && zeros bs 5 1 && inR 850 1300 w.tempwarn && zeros bs 10 6

/-! OWNR and KEYS -/

/-- The OWNR section (R427). -/
def ownrOk (bs : List Byte) : Bool :=
  bs.length == 288 && (records bs 0 72 4).all (fun r =>
    inR 0 2 (byteAt r 0) && zeros r 1 7 && (byteAt r 0 == 1 || zeros r 8 64))

/-- The KEYS section (R428), after the epoch of the active image. -/
def keysOk (bs : List Byte) (k : KeysSec) (active : Nat) : Bool :=
  bs.length == 392 && k.epoch != 0 && k.epoch != k.oldepoch && decide (active ≤ k.epoch)
    && (k.oldepoch != 0 || k.oldturns == 0 && zeros bs 40 32) && !zeros bs 8 32
    && (records bs 72 40 8).all (fun r => inR 0 31 (byteAt r 0) && flagByte r 1 && zeros r 2 6)
    && k.hostkeys.any (fun h => h.en && bitOf h.perm.toNat 0)

/-! The payload -/

/-- The directory rules of R410: tags, offsets, zero bytes, no overlap, nothing beyond the payload. -/
def dirOk (p : List Byte) (dir : List DirEntry) : Bool :=
  decide (288 ≤ p.length) && sectionTags.all (fun t => (dir.filter (fun e => e.tag == t)).length == 1)
    && dir.all (fun e => e.zero && e.off % 8 == 0 && decide (288 ≤ e.off) && decide (e.off + e.len ≤ p.length))
    && (List.range dir.length).all (fun i => (List.range i).all (fun j =>
      match dir[i]?, dir[j]? with
      | some x, some y => decide (x.off + x.len ≤ y.off) || decide (y.off + y.len ≤ x.off)
      | _, _ => false))

/-- Whether a section passes, by its place in the table of R410. -/
def sectionOk (img : Image) (sec : Nat → List Byte) (epoch i : Nat) : Bool :=
  match i with
  | 0 => phsbOk (sec 0) img.phsb
  | 1 => schdOk (sec 1) img
  | 2 => uicfOk (sec 2) img
  | 3 => qccfOk (sec 3) img
  | 4 => xccfOk (sec 4)
  | 5 => lpcfOk (sec 5) img
  | 6 => diocOk (sec 6) img
  | 7 => latpOk (sec 7) img
  | 8 => latgOk (sec 8) img
  | 9 => lattOk (sec 9) img
  | 10 => belfOk (sec 10) img
  | 11 => canmOk (sec 11) img
  | 12 => panlOk (sec 12) img
  | 13 => jrnlOk (sec 13) img.jrnl
  | 14 => pairOk (sec 14) img.pair
  | 15 => wtchOk (sec 15) img.wtch
  | 16 => ownrOk (sec 16)
  | _ => keysOk (sec 17) img.keys epoch

/-- What the vault makes of a payload: the image, or the directory index of the first section in directory order
that a rule refuses (0 for the directory itself). -/
def judgePayload (head : ImageHead) (p : List Byte) (epoch : Nat) : Image ⊕ Nat :=
  let dir := readDir p
  if !dirOk p dir then .inr 0
  else
    let sec := dirBytes p dir
    let img := readImage head sec
    let bad := ((List.range 18).filter (fun i => !sectionOk img sec epoch i)).map (dirIndex dir)
    match bad.min? with
    | some i => .inr i
    | none => .inl img

end Sys2Proof.Machine
end

