-- ==== Sys2Proof/Machine/Power.lean ====
section
/-!
DEFINITION. The power block (R487 to R510): the feeds, the power-fail warning, resets and power-good, sleep and
wake, EJECT_N.
-/
namespace Sys2Proof.Machine

/-- The device with the power block's state changed. -/
def Dev.setPwr (d : Dev) (f : Power → Power) : Dev := { d with pwr := f d.pwr }

/-- Whether the digital die runs or starts up: its flags, events and happenings can form. -/
def Dev.awake (d : Dev) : Bool := d.pwr.boot == 2 || d.pwr.boot == 3

/-- An event, a flag with its event, or an entry of a device whose digital die runs. -/
def Dev.raiseOn (d : Dev) (ev : Nat) : Dev := if d.awake then d.raise ev else d
def Dev.flagOn (d : Dev) (a b ev : Nat) : Dev := if d.awake then d.flagEv a b ev else d
def Dev.happenOn (d : Dev) (e : Entry) : Dev := if d.awake then d.happen e else d

/-! The feeds (R487, R489) -/

/-- The flags of a feed (PWR_FEEDFLG): feed A, or feed B. -/
def feedField (b : Bool) : Field := if b then F.PWR_FEEDFLG_FB else F.PWR_FEEDFLG_FA

/-- The flags of a feed as a number: 0 INRANGE, 1 UV, 2 OV, 3 REV, 4 GATE. -/
def Dev.feed (d : Dev) (b : Bool) : Nat := d.rdF R.PWR_FEEDFLG (feedField b)

/-- A flag of a feed set or cleared. -/
def Dev.setFeed (d : Dev) (b : Bool) (bit : Nat) (v : Bool) : Dev :=
  d.wrF R.PWR_FEEDFLG (feedField b) (putBit (d.feed b) bit v)

/-- Whether the gate of a feed is held off: it shows OV while the other is INRANGE (R489). -/
def Dev.gateHeld (d : Dev) (b : Bool) : Bool := bitOf (d.feed b) 2 && bitOf (d.feed (!b)) 0

/-- IDEAL_DIODE_REVERSE (R487, R510): the gate goes off and REV sets. -/
def Dev.diodeReverse (d : Dev) (b : Bool) : Dev :=
  let was := bitOf (d.feed b) 3
  let d := (d.setFeed b 4 false).setFeed b 3 true
  if was then d else d.raiseOn 254

/-- FEED_GATE_ON (R487): the gate goes on again, unless it is held off; REV ends with the reverse voltage. -/
def Dev.gateOn (d : Dev) (b : Bool) : Dev := (d.setFeed b 3 false).setFeed b 4 (!d.gateHeld b)

/-- The gate of a feed after a change of the feeds' ranges: a hold turns it off, its end gives it back to R487. -/
def Dev.gateRange (before d : Dev) (b : Bool) : Dev :=
  if d.gateHeld b then d.setFeed b 4 false
  else if before.gateHeld b then d.setFeed b 4 (!bitOf (d.feed b) 3)
  else d

/-- FEED_RANGE_CHANGE (R489): a change of INRANGE has its flag, event and FEED entry. -/
def Dev.feedRange (d : Dev) (b inrange ov uv : Bool) : Dev :=
  let old := d.feed b
  let e := ((d.setFeed b 0 inrange).setFeed b 2 ov).setFeed b 1 uv
  let e := Dev.gateRange d (Dev.gateRange d e false) true
  if bitOf old 0 = inrange then e
  else (e.flagOn R.PWR_STAT 2 254).happenOn (sysEntry 0x0041 [byteOf (b2n b), byteOf old, byteOf (e.feed b)])

/-- VHVLOW_CHANGE (R491). -/
def Dev.vhvChange (d : Dev) (low : Bool) : Dev :=
  if low = d.vhvlow then d
  else
    let d := d.wrF R.PWR_STAT F.PWR_STAT_VHVLOW (b2n low)
    if low then d.flagOn R.PWR_STAT 1 254 else (d.raiseOn 254).fHeld

/-- COMB_CLR (R492): VMIN becomes the present VCOMB, a measured value that no row gives (log entry 18). -/
def Dev.combClr (d : Dev) : Dev :=
  let v := d.freeVal 15
  v.2.wrFs R.PWR_COMB [(F.PWR_COMB_VMIN, v.1), (F.PWR_COMB_VCOMB, v.1)]

/-! The warning (R492 to R495) -/

/-- POWER_FAIL_WARNING (R493, R495): write-through begins, functions and excitation voltages go off, a planned
castling that has not sent YIELD is abandoned. -/
def Dev.powerFail (d : Dev) (pres : Bool) : Dev :=
  if d.pwr.boot = 0 then d
  else if d.pfw then (if pres then d.wrF R.PWR_STAT F.PWR_STAT_PRES 0 else d)
  else
    let now := d.clk
    let d := d.wrF R.PWR_STAT F.PWR_STAT_PFW 1
    let d := if pres then d.wrF R.PWR_STAT F.PWR_STAT_PRES 0 else d
    let d := d.setPwr (fun p => { p with pfwAt := some now, pfwPres := pres, warned := true })
    let d := d.incF R.PWR_PFW F.PWR_PFW_COUNT
    if !d.awake then d
    else
      let d := if pres then d.flag R.PWR_STAT 3 else d
      let d := d.flagEv R.PWR_STAT 0 252
      let d := if d.role = 2 then d.setPair (fun p => { p with planned := none, plannedTurn := none }) else d
      ((d.writeThrough true).fPfw).exvUpdate

/-- PFW_CLEAR (R494): write-through ends unless EJECT_N keeps it, enables are written back, PFWARN is formed; its
lowest VCOMB is a measured value that no row gives (log entry 18). -/
def Dev.pfwClear (d : Dev) : Dev :=
  if !d.pfw then d
  else
    let dur := min 65535 ((d.clk - d.pwr.pfwAt.getD d.clk) / 40000)
    let pres := d.pwr.pfwPres
    let d := (d.wrF R.PWR_STAT F.PWR_STAT_PFW 0).wrF R.PWR_STAT F.PWR_STAT_PRES 1
    let d := (d.wrF R.PWR_PFW F.PWR_PFW_LASTDUR dur).setPwr (fun p => { p with pfwAt := none, pfwPres := false })
    let v := d.freeVal 16
    let d := v.2.raiseOn 253
    let d := d.happenOn (sysEntry 0x0040 (leBytes 2 dur ++ leBytes 2 v.1 ++ [byteOf (b2n pres)]))
    if d.awake then
      let d := if d.ejected ∧ !d.standby then d else d.writeThrough false
      d.fRestore.exvUpdate
    else d

/-- Whether the warning has stood for 10 ms (R495). -/
def Dev.pfwLong (d : Dev) : Bool := d.pfw && d.pwr.pfwAt.any (fun t => decide (t + tenMs ≤ d.clk))

/-- FEEDLOSS_RESET (R495, R499): 10 ms after the onset of a warning that stands. -/
def Dev.feedlossReset (d : Dev) : Dev :=
  if d.pfwLong ∧ d.awake then d.resetAs 2 (if d.pwr.pfwPres then 2 else 1) else d

/-! Resets (R490, R499, R500, R506) -/

/-- RAIL_RESET (R490): the digital die enters reset at once; accepted entries in the write buffer are lost. -/
def Dev.railReset (d : Dev) : Dev :=
  let held := d.rdF R.PAR_ROLE F.PAR_ROLE_TOKEN == 1
  let d := (d.resetDie false).setPwr (fun p => { p with boot := 0 })
  if held then d.wrF R.PAR_ROLE F.PAR_ROLE_HOLD 1 else d

/-- POWER_GOOD (R499, R506): the device starts up with cause POWERON. -/
def Dev.powerGood (d : Dev) : Dev :=
  if d.pwr.boot ≠ 0 then d
  else
    let d := d.setCause 1 0 (!d.pwr.warned)
    let d := (d.wrF R.PWR_STAT F.PWR_STAT_PRES 1).wrF R.PWR_STAT F.PWR_STAT_PFW 0
    d.setPwr (fun p => { p with boot := 2, warned := false, pfwAt := none, pfwPres := false })

/-- RESET_RELEASE (R495, R500): a feed-loss reset holds until the warning clears. -/
def Dev.resetRelease (d : Dev) : Dev :=
  if d.pwr.boot = 1 ∧ !(d.pfw ∧ d.rdF R.PWR_RSTCAUSE F.PWR_RSTCAUSE_CAUSE = 2) then d.setPwr (fun p => { p with boot := 2 })
  else d

/-- HOST_RESET (R500): a key-gated write. -/
def Dev.hostReset (d : Dev) (sess : Nat) : Dev :=
  let g := d.passGate sess R.PWR_RSTCMD
  if g.1 then g.2.resetAs 4 sess else g.2

/-- WATCHTOWER_RESET (R395): the fault is kept in WTC_LASTFAULT and counted. -/
def Dev.watchtowerReset (d : Dev) : Dev :=
  match d.wtc.resetAt with
  | none => d
  | some t =>
    if d.clk < t then d
    else
      let now := d.clk
      let recent := now :: d.wtc.resets.filter (fun x => decide (now < x + hourCycles))
      let d := d.wr R.WTC_LASTFAULT (d.rd R.WTC_FAULT)
      let d := (d.wrF R.WTC_COUNT F.WTC_COUNT_RSTHOUR (min 255 recent.length)).incF R.WTC_COUNT F.WTC_COUNT_RSTTOTAL
      (d.setWtc (fun w => { w with resets := recent })).resetAs 3 (d.rdF R.WTC_FAULT F.WTC_FAULT_CODE)

/-! Sleep and wake (R502, R503) -/

/-- SLEEP_REQUEST: a key-gated write of WAKEMSK and REQ; REQ waits for the latch (R43, R502). -/
def Dev.sleepRequest (d : Dev) (sess : Nat) (mask : BitVec 4) : Dev :=
  let g := d.passGate sess R.PWR_SLEEP
  if g.1 then (g.2.wrF R.PWR_SLEEP F.PWR_SLEEP_WAKEMSK mask.toNat).wbWrite R.PWR_SLEEP 1 1 sess else g.2

/-- Whether a sleep request is refused (R502). -/
def Dev.sleepBarred (d : Dev) : Bool :=
  let st := d.rdF R.VLT_STGSTAT F.VLT_STGSTAT_STATE
  d.role != 1 || d.pfw || d.danger || !(st == 0 || st == 3) || d.rdF (R.LAT_CNT 0) F.LAT_CNT_ACTIVE != 0
    || d.rdF (R.LAT_CNT 0) F.LAT_CNT_UNACK != 0 || d.rdF R.PWR_SLEEP F.PWR_SLEEP_WAKEMSK == 0

/-- A pending sleep request at the sample latch (R502): the turn forms the SLEEP entry. -/
def Dev.sleepLatch (d : Dev) : Dev :=
  if d.wbWord R.PWR_SLEEP = none then d
  else
    let d := d.wbDrop R.PWR_SLEEP
    let mask := d.rdF R.PWR_SLEEP F.PWR_SLEEP_WAKEMSK
    if d.sleepBarred then d.flag R.PWR_STAT 4
    else (d.setPwr (fun p => { p with sleepMask := some mask })).happen (sysEntry 0x0043 [byteOf mask])

/-- Whether the turn of an accepted sleep request has completed with its emit: no further turn starts (R502). -/
def Dev.sleepReady (d : Dev) : Bool :=
  d.pwr.sleepMask.isSome && d.turn.run.any (fun r => r.phase == .completed && r.emitted)

/-- SLEEP_ENTER (R501, R502): every function is forced off, the journal drained and sealed, and the digital die
held in reset; the wake detectors keep their records (R341). -/
def Dev.sleepEnter (d : Dev) : Dev :=
  if !d.sleepReady ∨ d.pwr.boot ≠ 3 then d
  else
    let mask := d.pwr.sleepMask
    let d := (d.fForceAll (fun _ => true)).flush
    let bus := d.image.canm
    let d := (d.resetDie true).setPwr (fun p => { p with boot := 4, sleepMask := mask })
    { d with image := { d.image with canm := bus } }

/-- WAKE (R503): an enabled source starts the device up with cause WAKE. -/
def Dev.wake (d : Dev) (source : BitVec 4) : Dev :=
  let hit := source.toNat &&& d.pwr.sleepMask.getD 0
  if d.pwr.boot ≠ 4 ∨ hit = 0 then d
  else (d.setCause 6 hit false).setPwr (fun p => { p with boot := 2, sleepMask := none })

/-! EJECT_N (R507, R508) -/

/-- A debounced change of EJECT_N: bits, event and entry. -/
def Dev.ejectChange (d : Dev) (on : Bool) : Dev :=
  let d := (d.wrF R.PWR_STAT F.PWR_STAT_EJECT (b2n on)).wrF R.PAR_ROLE F.PAR_ROLE_EJECT (b2n on)
  (d.raiseOn 255).happenOn (sysEntry 0x0042 [byteOf (b2n on)])

/-- EJECT_ASSERT (R374, R507, R508): in castling its effect waits for the end. -/
def Dev.ejectAssert (d : Dev) : Dev :=
  if d.ejected then d
  else
    let d := d.ejectChange true
    if !d.awake then d
    else
      let d := if d.standby then d else d.writeThrough true
      if d.pair.castle ≠ 0 then d.setPair (fun p => { p with ejectWaits := true }) else d.ejectEffect

/-- EJECT_RELEASE (R508). -/
def Dev.ejectRelease (d : Dev) : Dev :=
  if !d.ejected then d
  else
    let d := (d.ejectChange false).setPair (fun p => { p with ejectWaits := false })
    if d.awake ∧ !d.pfw then d.writeThrough false else d

end Sys2Proof.Machine
end

