-- ==== Sys2Proof/Machine/Vault.lean ====
section
/-!
DEFINITION. The vault (chapter 15): owner slots and the actions of an image, verification of an envelope,
staging, the swap, attestation, owner tokens, ownership reset and decommissioning.
-/
namespace Sys2Proof.Machine

/-- The device with the vault changed. -/
def Dev.setVault (d : Dev) (f : Vault → Vault) : Dev := { d with vault := f d.vault }

/-- LIFE (R406): 0 BLANK, 1 OWNED, 2 DECOMMISSIONED, 3 OWNCLR. -/
def Dev.life (d : Dev) : Nat := d.rdF R.VLT_STAT F.VLT_STAT_LIFE

/-- LIFE changed (R429). -/
def Dev.setLife (d : Dev) (n : Nat) : Dev :=
  if d.life = n then d else (d.wrF R.VLT_STAT F.VLT_STAT_LIFE n).raise 230

/-- STATE of staging (VLT_STGSTAT): 0 IDLE, 1 LOADING, 2 VERIFYING, 3 READY, 4 FAILED, 5 SWAPPING. -/
def Dev.staging (d : Dev) : Nat := d.rdF R.VLT_STGSTAT F.VLT_STGSTAT_STATE

/-- The active image slot, and the slot that staging fills. -/
def Dev.actSlot (d : Dev) : Nat := d.rdF R.VLT_STAT F.VLT_STAT_ACTSLOT
def Dev.stageSlot (d : Dev) : Nat := 1 - d.actSlot

/-- An image slot. -/
def Dev.imgSlot (d : Dev) (s : Nat) : ImgSlot := d.vault.images.getD s ⟨[], [], none⟩

/-- The device with an image slot changed. -/
def Dev.setImgSlot (d : Dev) (s : Nat) (f : ImgSlot → ImgSlot) : Dev :=
  d.setVault (fun v => { v with images := upd v.images s f })

/-- The first 8 bytes of the SHA-256 of a key. -/
def keyHash8 (k : List Byte) : List Byte := (sha256 k).take 8

/-- DEVID (R404). -/
def devId : List Byte := (sha256 Config.certificate).take 16

/-- A TRNG health test fails (R405). -/
def Dev.trngBad (d : Dev) : Bool := d.rdF R.VLT_STAT F.VLT_STAT_TRNGFLT == 1

/-- `k` times 8 bytes from the TRNG: free values. -/
def Dev.trng (d : Dev) : Nat → List Byte × Dev
  | 0 => ([], d)
  | k + 1 =>
    let x := d.freeVal 64
    let y := x.2.trng k
    (leBytes 8 x.1 ++ y.1, y.2)

/-- A fresh token nonce (R423); while the TRNG fails, none is issued and no nonce is valid (R405). -/
def Dev.newNonce (d : Dev) : Dev :=
  if d.trngBad then d.setVault (fun v => { v with nonce := [] })
  else
    let x := d.trng 4
    let d := x.2.setVault (fun v => { v with nonce := x.1 })
    (List.range 8).foldl (fun d k => d.wr (R.VLT_NONCE k) (BitVec.ofNat 32 (uAt x.1 (4 * k) 4))) d

/-! Owner slots (R407, R408) -/

/-- The registers of the owner slots. -/
def Dev.ownShow (d : Dev) : Dev :=
  (List.range 4).foldl (fun d s =>
    let o := d.vault.slots.getD s ⟨0, []⟩
    d.wrFs (R.VLT_OWN s) [(F.VLT_OWN_STATE, o.state),
      (F.VLT_OWN_KEYID, if o.state = 0 ∨ o.key = [] then 0 else uAt (sha256 o.key) 0 3)]) d

/-- A key enters the revocation list of the last 64 (R408). -/
def revoke (l : List (List Byte)) (key : List Byte) : List (List Byte) :=
  let l := l ++ [sha256 key]
  l.drop (l.length - 64)

/-- A security happening of a swap or start-up: a standby's comes with the active's entries (R293). -/
def Dev.security (d : Dev) (code : Nat) (data : List Byte) : Dev :=
  if d.standby then d else d.happen (secEntry code data)

/-- One owner action takes effect (R408). A SET of the key that the slot holds replaces none. -/
def Dev.ownerAction (d : Dev) (s : Nat) (r : OwnRec) : Dev :=
  let o := d.vault.slots.getD s ⟨0, []⟩
  let put := fun (d : Dev) (x : OwnSlot) => d.setVault (fun v => { v with slots := upd v.slots s (fun _ => x) })
  let drop := fun (d : Dev) => d.setVault (fun v => { v with revoked := revoke v.revoked o.key })
  if r.action = 1 then
    let old := o.state = 1 && o.key != r.key
    let d := put (if old then drop d else d) ⟨1, r.key⟩
    (d.security 0x0002 ([byteOf s] ++ keyHash8 r.key ++ (if old then keyHash8 o.key else List.replicate 8 0))).raiseIf
      (o.state != 1 || old) 228
  else if r.action = 2 ∧ o.state ≠ 2 then
    let d := put (if o.state = 1 then drop d else d) ⟨2, o.key⟩
    (d.security 0x0003 ([byteOf s] ++ (if o.state = 1 then keyHash8 o.key else List.replicate 8 0))).raise 228
  else d

/-- The actions of an image take effect. -/
def Dev.ownerActions (d : Dev) (img : Image) : Dev :=
  ((List.range 4).foldl (fun d s => match img.ownr[s]? with
    | some r => d.ownerAction s r
    | none => d) d).ownShow

/-- The rules of R408 against the slots as they stand (step 0x09). -/
def Dev.ownerOk (d : Dev) (img : Image) : Bool :=
  let act := fun s => img.ownr.getD s ⟨0, []⟩
  (act img.head.sigslot).action != 2
    && (List.range 4).any (fun s => (act s).action == 1
      || ((act s).action == 0 && (d.vault.slots.getD s ⟨0, []⟩).state == 1))
    && (List.range 4).all (fun s => (act s).action != 1 || !d.vault.revoked.contains (sha256 (act s).key))

/-! Verification (R409 to R412) -/

/-- HKDF-SHA-256 to 44 bytes (R411). -/
def hkdf44 (salt ikm info : List Byte) : List Byte :=
  let prk := hmac salt ikm
  let t := hmac prk (info ++ [1])
  t ++ (hmac prk (t ++ info ++ [2])).take 12

/-- The header rules of R409: step 0x01. -/
def headerOk (b : List Byte) : Bool :=
  let n := byteAt b 34
  decide (1088 ≤ b.length) && slice b 0 4 == [0x46, 0x5A, 0x49, 0x4D] && uAt b 4 2 == 1 && uAt b 6 2 == 512
    && uAt b 8 4 == b.length && decide (b.length ≤ 8388608) && uAt b 12 4 != 0 && byteAt b 33 == 18 && inR 1 4 n
    && decide (byteAt b 35 ≤ 1) && zeros b (128 + 64 * n) (64 * (4 - n)) && zeros b 384 128

/-- The recipient block of this device: step 0x03. -/
def recipient (b : List Byte) : Option (List Byte) :=
  ((List.range (byteAt b 34)).map (fun i => slice b (128 + 64 * i) 64)).find? (fun r => r.take 16 == devId)

/-- The payload of an envelope (R411): none when either GCM tag fails. -/
def openPayload (b rcp : List Byte) : Option (List Byte) :=
  let z := Config.ecdhX (slice b 64 64)
  let okm := hkdf44 (slice b 16 16) z ([0x66, 0x7A, 0x77] ++ devId)
  match Config.gcmDecrypt (okm.take 32) (okm.drop 32) (b.take 64) (slice rcp 16 32) (slice rcp 48 16) with
  | none => none
  | some ck => Config.gcmDecrypt ck (slice b 36 12) (b.take 48) (slice b 512 (b.length - 576)) (slice b 48 16)

/-- Header facts of an envelope, with IMGHASH (R411). -/
def imageHead (b : List Byte) : ImageHead :=
  { version := uAt b 12 4, imgid := slice b 16 16, sigslot := byteAt b 32, enrol := byteAt b 35 == 1
    hash := sha256 (b.take (b.length - 64)) }

/-- A failed verification: REASON and DETAIL (R412), with the first 8 bytes of IMGHASH from step 0x05 on (R426). -/
structure Reject where
  reason : Nat
  detail : Nat
  hash : List Byte
  deriving DecidableEq, Repr

/-- The signature key of an image: the ACTIVE slot's, or with ENROL on a device that is not OWNED the one that
its own OWNR section sets (R407; log entry 29). -/
def Dev.signKey (d : Dev) (h : ImageHead) (b rcp : List Byte) (epoch : Nat) : Option (List Byte) :=
  if h.enrol ∧ d.life ≠ 1 then
    match openPayload b rcp with
    | none => none
    | some p => match judgePayload h p epoch with
      | .inl img => (img.ownr[h.sigslot]?).bind (fun r => if r.action = 1 then some r.key else none)
      | .inr _ => none
  else (d.vault.slots[h.sigslot]?).bind (fun o => if o.state = 1 then some o.key else none)

/-- Verification of an envelope in the order of R412. `active` says that it stands in the active slot, whose
ENROL image fits an OWNED device (log entry 29). -/
def Dev.verify (d : Dev) (b : List Byte) (active : Bool) : Image ⊕ Reject :=
  let h := imageHead b
  let life := d.life
  let h8 := h.hash.take 8
  let epoch := d.image.keys.epoch
  let none8 := List.replicate 8 (0 : Byte)
  if !headerOk b then .inr ⟨1, 0, none8⟩
  else if !(if h.enrol then life == 0 || (active && life == 1) else life == 1) then .inr ⟨2, 0, none8⟩
  else match recipient b with
    | none => .inr ⟨3, 0, none8⟩
    | some rcp =>
      if !(h.enrol && life == 0) && !((d.vault.slots[h.sigslot]?).any (fun o => o.state == 1)) then .inr ⟨4, 0, none8⟩
      else
        let sig := b.drop (b.length - 64)
        let good := match d.signKey h b rcp epoch with
          | some k => Config.ecdsaVerify k (b.take (b.length - 64)) sig
          | none => false
        if !good then .inr ⟨5, 0, h8⟩
        else if h.version < d.vault.counter then .inr ⟨6, 0, h8⟩
        else match openPayload b rcp with
          | none => .inr ⟨7, 0, h8⟩
          | some p => match judgePayload h p epoch with
            | .inr i => .inr ⟨8, i, h8⟩
            | .inl img => if d.ownerOk img then .inl img else .inr ⟨9, 0, h8⟩

/-- The bytes of the envelope in a slot, as its own TOTLEN gives them. -/
def ImgSlot.bytes (s : ImgSlot) : List Byte :=
  (List.range (min 8388608 (ofLe (memRead s.mem 8 4)))).map (fun i => memGet s.mem i)

/-- A rejected image (R412, R426, R429). -/
def Dev.rejected (d : Dev) (r : Reject) : Dev :=
  (d.flagEv R.VLT_STAT 3 225).happen (secEntry 0x0005 ([byteOf r.reason, byteOf r.detail] ++ r.hash))

/-! Staging (R414) -/

/-- The report of a standby's staging (R414; log entry 20). -/
def Dev.reportStaging (d : Dev) (ready : Bool) (reason : Nat) : Dev :=
  if d.standby then d.send63 [0x0A, byteOf (b2n ready), byteOf reason] else d

/-- IMAGE_VERIFIED (R412, R414): READY, or FAILED with the reason. -/
def Dev.imageVerified (d : Dev) : Dev :=
  if d.staging ≠ 2 then d
  else match d.verify (d.imgSlot d.stageSlot).bytes false with
    | .inl img =>
      let d := d.setImgSlot d.stageSlot (fun s => { s with ok := some img })
      let d := d.wrFs R.VLT_STGSTAT [(F.VLT_STGSTAT_STATE, 3), (F.VLT_STGSTAT_PROGRESS, 255)]
      let d := ((d.raise 224).happen (secEntry 0x0004 (img.head.hash.take 8 ++ leBytes 4 img.head.version))).reportStaging true 0
      if d.role = 2 ∧ d.peerUp then d.forwardStart d.stageSlot else d
    | .inr r =>
      let d := d.wrFs R.VLT_STGSTAT [(F.VLT_STGSTAT_STATE, 4), (F.VLT_STGSTAT_REASON, r.reason), (F.VLT_STGSTAT_DETAIL, r.detail)]
      (d.rejected r).reportStaging false r.reason

/-- PEER_READY (R414): the standby's report on the image that the active holds READY. -/
def Dev.peerReady (d : Dev) (ready : Bool) : Dev :=
  if d.role = 2 ∧ d.peerUp ∧ d.staging = 3 then d.wrF R.VLT_STGSTAT F.VLT_STGSTAT_PEERRDY (b2n ready) else d

/-- Staging abandoned: the slot becomes EMPTY (ABORT, R416). -/
def Dev.stageClear (d : Dev) : Dev :=
  let d := (d.swapAbandon).setImgSlot d.stageSlot (fun _ => ⟨[], [], none⟩)
  (d.wr R.VLT_STGSTAT 0).setVault (fun v => { v with bootnext := false, forward := none })

/-- ABORT past the gate: nothing is abandoned while staging is IDLE (log entry 37). -/
def Dev.abortBit (d : Dev) : Dev := if d.staging = 0 then d else d.stageClear

/-- ABORT: a key-gated write. -/
def Dev.abort (d : Dev) (sess : Nat) : Dev :=
  let g := d.passGate sess R.VLT_CMD
  if g.1 then g.2.abortBit else g.2

/-- BOOTNEXT past the gate (R417). -/
def Dev.bootnextBit (d : Dev) : Dev :=
  if d.staging = 3 then d.setVault (fun v => { v with bootnext := true }) else d

/-- BOOTNEXT (R417): a key-gated write. -/
def Dev.bootnext (d : Dev) (sess : Nat) : Dev :=
  let g := d.passGate sess R.VLT_CMD
  if g.1 then g.2.bootnextBit else g.2

/-- Whether a written range list covers the bytes from 0 to `n` (R483). -/
def coversTo (n : Nat) : Nat → List (Nat × Nat) → Bool
  | 0, _ => false
  | fuel + 1, l =>
    match l.find? (fun r => decide (r.1 = 0)) with
    | none => false
    | some r =>
      if n ≤ r.2 then true
      else match l.find? (fun x => decide (0 < x.1 ∧ x.1 ≤ r.2 ∧ r.2 < x.2)) with
        | some x => coversTo n fuel ((0, x.2) :: l.filter (fun y => y ≠ r ∧ y ≠ x))
        | none => false

/-- Envelope bytes loaded into the slot that is not active (R414, R416, R483). -/
def Dev.imageBytes (d : Dev) (off : Nat) (bs : List Byte) : Dev :=
  let fresh := d.staging ≠ 1
  let d := if fresh then d.stageClear.wrF R.VLT_STGSTAT F.VLT_STGSTAT_STATE 1 else d
  let d := d.setImgSlot d.stageSlot (fun s =>
    { s with mem := memWrite s.mem off bs, written := (off, off + bs.length) :: s.written })
  let s := d.imgSlot d.stageSlot
  let tot := ofLe (memRead s.mem 8 4)
  let n := s.written.length + 1
  if coversTo 12 n s.written && coversTo tot n s.written then d.wrF R.VLT_STGSTAT F.VLT_STGSTAT_STATE 2 else d

/-! The swap (R415, R416) -/

/-- SWAP past the gate, refused under R416; a second one before the swap turn is ignored. -/
def Dev.swapBit (d : Dev) : Dev :=
  let mode := ((d.imgSlot d.stageSlot).ok.map (fun i => i.pair.mode)).getD d.image.pair.mode
  if d.vault.swapReq ∨ d.vault.swapTurn ≠ none then d
  else if !d.holder ∨ d.staging ≠ 3 ∨ d.safe ∨ mode ≠ d.image.pair.mode
      ∨ (d.image.pair.mode = 1 ∧ d.rdF R.VLT_STGSTAT F.VLT_STGSTAT_PEERRDY = 0) then d.flag R.VLT_STAT 4
  else d.setVault (fun v => { v with swapReq := true })

/-- SWAP: a key-gated write. -/
def Dev.swap (d : Dev) (sess : Nat) : Dev :=
  let g := d.passGate sess R.VLT_CMD
  if g.1 then g.2.swapBit else g.2

/-- A write of VLT_CMD: one pass of the gate, then each bit written as 1, from bit 0 up (R4, R47). -/
def Dev.vltCmd (d : Dev) (sess : Nat) (v : Word) : Dev :=
  let g := d.passGate sess R.VLT_CMD
  if !g.1 then g.2
  else
    let d := if getF F.VLT_CMD_SWAP v = 1 then g.2.swapBit else g.2
    let d := if getF F.VLT_CMD_ABORT v = 1 then d.abortBit else d
    if getF F.VLT_CMD_BOOTNEXT v = 1 then d.bootnextBit else d

/-- An accepted SWAP at the latch of turn t: the swap turn is t + 1, or t + 2 with notice to the standby (R415). -/
def Dev.swapBegin (d : Dev) : Dev :=
  if !d.vault.swapReq then d
  else
    let t := d.turn.number
    let w := if d.peerUp then t + 2 else t + 1
    let solo := !d.peerUp
    let d := (d.wrF R.VLT_STGSTAT F.VLT_STGSTAT_STATE 5).setVault (fun v => { v with
      swapReq := false, swapTurn := some w, swapOk := solo })
    let hash := ((d.imgSlot d.stageSlot).ok.map (fun i => i.head.hash)).getD []
    d.send63 ([0x0B, 0] ++ leBytes 6 w ++ hash)

/-- SWAP_NOTICE (R415): a standby with the same image READY confirms the swap turn. -/
def Dev.swapNotice (d : Dev) (turn : Nat) (hash : List Byte) : Dev :=
  let own := (d.imgSlot d.stageSlot).ok.map (fun i => i.head.hash)
  if d.standby ∧ d.staging = 3 ∧ own = some hash ∧ d.turn.number < turn then
    let d := (d.wrF R.VLT_STGSTAT F.VLT_STGSTAT_STATE 5).setVault (fun v => { v with swapTurn := some turn, swapOk := true })
    d.send63 ([0x0C, 0] ++ leBytes 6 turn)
  else d

/-- OLDFS is erased (R419). -/
def Dev.oldfsErase (d : Dev) : Dev :=
  let d := (d.setVault (fun v => { v with oldTurns := 0 })).wrF R.VLT_EPOCH F.VLT_EPOCH_OLD 0
  { d with image := { d.image with keys := { d.image.keys with oldfs := [] } } }

/-- The vault's share of an image that becomes active: actions, keys, counter (R408, R413, R419). -/
def Dev.vaultTakes (d : Dev) (img : Image) (oldEpoch : Nat) (actions : Bool) : Dev :=
  let d := if actions then d.ownerActions img else d
  let ctr := max d.vault.counter img.head.version
  let first := d.turn.number + 1
  let d := (d.setVault (fun v => { v with
    counter := ctr, oldTurns := if actions then img.keys.oldturns else v.oldTurns
    oldFrom := if actions then first else v.oldFrom })).wr R.VLT_CTR (BitVec.ofNat 32 ctr)
  let d := if d.vault.oldTurns = 0 then d.oldfsErase else d
  if actions ∧ img.keys.epoch ≠ oldEpoch then
    (d.security 0x0010 (leBytes 2 img.keys.epoch ++ leBytes 2 oldEpoch)).raise 228
  else d

/-- The staged image becomes the active one: at the latch of its swap turn `w` with the IMGSWAP entry of that
turn (R415), or in a rejoiner at once (R422). -/
def Dev.swapNow (d : Dev) (w : Option Nat) : Dev :=
  let old := d.image
  let from_ := d.actSlot
  let slot := d.stageSlot
  match (d.imgSlot slot).ok with
  | none => d.swapAbandon
  | some img =>
    let d := d.applyImage false img
    let d := d.vaultTakes img old.keys.epoch true
    let d := (d.wrF R.VLT_STAT F.VLT_STAT_ACTSLOT slot).wr R.VLT_STGSTAT 0
    let d := d.setVault (fun v => { v with
      swapTurn := none, swapOk := false, swapFrom := w.map (fun _ => from_), bootnext := false })
    match w with
    | none => d
    | some t =>
      let n := swapCounts old img
      let d := d.wr R.VLT_SWAPTURN (BitVec.ofNat 32 t)
      let d := d.security 0x0006 (old.head.hash.take 8 ++ img.head.hash.take 8 ++ leBytes 4 img.head.version
        ++ leBytes 2 n.1 ++ leBytes 2 n.2)
      d.raise 226

/-- The sample latch of turn `n` (R415): that of the swap turn applies the image; without the standby's
confirmation the swap is abandoned. -/
def Dev.swapAt (d : Dev) (n : Nat) : Dev :=
  match d.vault.swapTurn with
  | none => d
  | some w =>
    if n ≠ w then d
    else if d.vault.swapOk then d.swapNow (some w)
    else d.swapAbandon

/-! Attestation and vault commands (R418, R479) -/

/-- The result of a vault command, kept for its session: the last eight (R479, R480). -/
def Dev.vaultResult (d : Dev) (ref : HostRef) (res : Nat) : Dev :=
  let mine := (d.host.vaultRes.filter (fun x => x.1 = ref.sess)).take 7
  let rest := d.host.vaultRes.filter (fun x => x.1 ≠ ref.sess)
  ({ d with host := { d.host with vaultRes := (ref.sess, ref.cmdid.toNat, res) :: mine ++ rest } }).raise 250

/-- A vault command without its permission: REFUSED at once, with its PERMDENY entry (R420, R479). -/
def Dev.vaultDenied (d : Dev) (ref : HostRef) (opc : Nat) : Dev :=
  d.happen (secEntry 0x000A [byteOf ref.sess, byteOf opc])

/-- The attestation report without its signature (R418). -/
def Dev.attestBody (d : Dev) (ref : HostRef) (nonce : List Byte) : List Byte :=
  let slots := (List.range 4).flatMap (fun s =>
    let o := d.vault.slots.getD s ⟨0, []⟩
    if o.state = 0 ∨ o.key = [] then List.replicate 8 0 else keyHash8 o.key)
  padTo 192 ([1, 0, byteOf d.life, byteOf d.role] ++ leBytes 4 ref.cmdid.toNat ++ padTo 32 nonce ++ devId
    ++ padTo 32 d.image.head.hash ++ leBytes 4 d.image.head.version ++ leBytes 4 d.vault.counter ++ slots
    ++ leBytes 8 (d.jrn.next - 1) ++ d.jrn.chain ++ leBytes 6 (d.pair.doneTurn.getD 0)
    ++ leBytes 2 d.image.keys.epoch ++ [byteOf d.healthFlags, byteOf (d.rdF R.WTC_FAULT F.WTC_FAULT_CODE)])

/-- ATTEST (R405, R418): the report in four elements of Q53; refused without room for them (log entry 30). -/
def Dev.attest (d : Dev) (ref : HostRef) (ok : Bool) (nonce : List Byte) : Dev :=
  if !ok then d.vaultDenied ref 0x33
  else if d.trngBad ∨ (d.queue 53).length + 4 > queueDepth 53 then d.vaultResult ref resRefused
  else
    let m := d.attestBody ref nonce
    let r := m ++ padTo 64 (Config.ecdsaSign m)
    let d := (List.range 4).foldl (fun d i => d.push 53 (slice r (64 * i) 64) (some ref)) d
    (d.raise 227).vaultResult ref resOk

/-! Owner tokens, erasure, decommissioning (R423 to R425) -/

/-- No image is active: every register of it reads 0, and every function goes off (R406, R417). -/
def Dev.noImage (d : Dev) : Dev :=
  let d := if d.holder then d.tokenLoss else d.setRole 0
  let d := (d.fForceAll (fun _ => true)).setTurn (fun t => { t with
    run := none, starts := false, cur := EvalState.empty, view := viewOf EvalState.empty })
  let d := { d with image := Image.empty }
  (d.wrF R.VLT_STAT F.VLT_STAT_NOIMG 1).vltShow

/-- Both image slots and the KEYS content erased (R424, R425). -/
def Dev.eraseImages (d : Dev) : Dev :=
  (d.noImage.wr R.VLT_STGSTAT 0).setVault (fun v => { v with
    images := List.replicate 2 ⟨[], [], none⟩, swapReq := false, swapTurn := none, swapOk := false
    bootnext := false, swapFrom := none, oldTurns := 0 })

/-- A token that is refused (R423): 1 form, 2 DEVID, 3 nonce, 4 slot or signature, 5 lifecycle (log entry 31). Only the
ERASE way leaves DECOMMISSIONED (R425). -/
def Dev.tokenCause (d : Dev) (t : List Byte) : Nat :=
  let act := byteAt t 4
  let key := (d.vault.slots[byteAt t 5]?).bind (fun o => if o.state = 1 then some o.key else none)
  if t.length ≠ 120 ∨ slice t 0 4 ≠ [0x46, 0x5A, 0x54, 0x4B] ∨ !(act == 1 || act == 2) ∨ !zeros t 6 2 then 1
  else if slice t 8 16 ≠ devId then 2
  else if d.vault.nonce.length ≠ 32 ∨ slice t 24 32 ≠ d.vault.nonce then 3
  else if !(key.any (fun k => Config.ecdsaVerify k (t.take 56) (t.drop 56))) then 4
  else if (act = 1 ∧ d.life = 3 ∧ d.vault.lifeWas ≠ 2 ∧ !d.vault.erasing) ∨ (act = 2 ∧ d.life = 1) then 0
  else 5

/-- A RESET token in OWNCLR (R424): the journal is kept, and its entry waits for the next enrolment. -/
def Dev.ownerReset (d : Dev) : Dev :=
  let d := d.eraseImages
  let d := d.setVault (fun v => { v with slots := List.replicate 4 ⟨0, []⟩, ownclrWay := some 1 })
  (d.ownShow).setLife 0

/-- OWNTOKEN (R416, R423): a fresh nonce follows every token judged. -/
def Dev.owntoken (d : Dev) (ref : HostRef) (ok : Bool) (token : List Byte) : Dev :=
  if !ok then d.vaultDenied ref 0x34
  else
    let c := d.tokenCause token
    let d := if c ≠ 0 then
        (d.happen (secEntry 0x000B [byteOf (byteAt token 4), byteOf c])).vaultResult ref resRefused
      else
        let d := if d.staging = 0 then d else d.stageClear
        let d := if byteAt token 4 = 1 then d.ownerReset
          else d.setVault (fun v => { v with decomm := some (byteAt token 5) })
        d.vaultResult ref resOk
    d.newNonce

/-- A decommissioning at the sample latch (R425): turns stop, DECOMM is committed, images and keys are erased. -/
def Dev.decommission (d : Dev) (slot : Nat) : Dev :=
  let tick := max d.dom.count d.dom.lastTick
  let e := { secEntry 0x000D [byteOf slot] with turn := d.turn.number, tick := tick, outside := false }
  let es := d.formEntries tick [e]
  let d := (((d.acceptAll es).flush).exportAll).jrnShow
  let d := d.setVault (fun v => { v with decomm := none })
  (d.eraseImages).setLife 2

/-- ERASE (R424): in OWNCLR. -/
def Dev.erase (d : Dev) (ref : HostRef) (ok : Bool) : Dev :=
  if !ok then d.vaultDenied ref 0x35
  else if d.life ≠ 3 then d.vaultResult ref resRefused
  else (d.setVault (fun v => { v with erasing := true })).vaultResult ref resOk

/-- GENESIS of an erased journal (R289, R424). -/
def Dev.genesis (d : Dev) : Dev :=
  let e := direct (max d.dom.count d.dom.lastTick) d.turn.number 0 0x7D (List.replicate 8 0) (sha256 Config.certificate)
  ((d.acceptAll [e]).flush).jrnShow

/-- ERASE_DONE (R424): the journal, the control area, the images, the owner slots and the revocation list are
gone; the version counter stays. -/
def Dev.eraseDone (d : Dev) : Dev :=
  if !d.vault.erasing then d
  else
    let d := d.eraseImages
    let d := d.setVault (fun v => { v with
      slots := List.replicate 4 ⟨0, []⟩, revoked := [], erasing := false, ownclrWay := none })
    let chans := d.can.chans.map (fun c => { c with owed := [], backlog := [] })
    let d := { d with jrn := Journal.empty, host := { d.host with written := [] }, can := { d.can with chans := chans } }
    ((d.genesis).ownShow).setLife 0

/-- OWNCLR_ENTER (R424). -/
def Dev.ownclrEnter (d : Dev) : Dev :=
  if !d.awake ∨ d.life = 3 then d
  else
    let was := d.life
    let d := if d.pwr.boot = 2 then (d.jrnStart).setPwr (fun p => { p with boot := 3 }) else d
    let now := d.clk
    let d := (d.noImage).setVault (fun v => { v with lifeWas := was, ownclrAt := now })
    d.setLife 3

/-- OWNCLR_TIMEOUT (R424): 10 minutes after the entry a normal start-up follows. -/
def Dev.ownclrTimeout (d : Dev) : Dev :=
  if d.life ≠ 3 ∨ d.vault.erasing ∨ d.clk < d.vault.ownclrAt + 60000 * tenMs then d
  else
    let was := d.vault.lifeWas
    (d.setLife was).setPwr (fun p => { p with boot := 2 })

/-! Locks, keys and the TRNG -/

/-- The cycles of CK_SYS in one minute. -/
def minuteCycles : Nat := 60 * 400000000

/-- SESSION_LOCK_END (R420): LOCK ends after one minute. -/
def Dev.sessionLockEnd (d : Dev) : Dev :=
  if d.clk < d.host.lockAt + minuteCycles then d else d.wrF R.VLT_STAT F.VLT_STAT_LOCK 0

/-- OLDFS_EXPIRE (R419): OLDTURNS turns after the swap the vault erases OLDFS. -/
def Dev.oldfsExpire (d : Dev) : Dev :=
  if d.vault.oldTurns = 0 ∨ d.turn.number < d.vault.oldFrom + d.vault.oldTurns then d else d.oldfsErase

/-- TRNG_FAULT (R405). -/
def Dev.trngFault (d : Dev) (failing : Bool) : Dev :=
  let was := d.trngBad
  (d.wrF R.VLT_STAT F.VLT_STAT_TRNGFLT (b2n failing)).raiseIf (failing && !was) 231

end Sys2Proof.Machine
end

