-- ==== Sys2Proof/Machine/Latch.lean ====
section
/-!
DEFINITION. The sample latch of each role (R16, R368, R370, R415, R425, R502): what comes before a turn's own
latch, and the turns of devices that do not run the plant.
-/
namespace Sys2Proof.Machine

/-- Whether an accepted entry records the swap to an image (R416, R426). -/
def LEntry.names (e : LEntry) (img : Image) : Bool :=
  e.kind == 0x40 && uAt e.payload 0 2 == 0x0006 && slice e.payload 10 8 == img.head.hash.take 8

/-- The last swap is settled once its IMGSWAP entry has been accepted (R416). -/
def Dev.swapSettled (d : Dev) : Dev :=
  if d.vault.swapFrom.isSome ∧ (d.jrn.wbuf ++ d.jrn.ledger).any (fun e => e.names d.image) then
    d.setVault (fun v => { v with swapFrom := none })
  else d

/-- A holder's ordinary turn: the swap, the turn start, an accepted SWAP, a sleep request, the latch. -/
def Dev.ordinaryTurn (d : Dev) (evalUs commitUs : Nat) : Dev :=
  let d := d.swapSettled.swapAt (d.turn.number + 1)
  let d := d.turnBegin (d.turn.number + 1)
  let d := (d.swapBegin.sleepLatch).setPair (fun p => { p with healthAge := p.healthAge + 1 })
  d.ownLatch evalUs commitUs

/-- The latch of turn n + 2 of a castling (R368, R370): the results decide who runs it. -/
def Dev.decidingTurn (d : Dev) (evalUs commitUs : Nat) : Dev :=
  let d := (d.turnBegin (d.turn.number + 1)).castlingDecide
  if d.holder ∧ d.turnsRun then d.ownLatch evalUs commitUs else d

/-- A holder's sample latch: a turn in hand that has not committed ends first (R27). -/
def Dev.holderLatch (d : Dev) (evalUs commitUs : Nat) : Dev :=
  let d := d.commitDeadline
  match d.vault.decomm with
  | some slot => d.decommission slot
  | none =>
    if d.sleepReady ∨ !d.turnsRun then d
    else match d.pair.castle with
      | 0 => d.ordinaryTurn evalUs commitUs
      | 1 => (d.turnBegin (d.turn.number + 1)).setPair (fun p => { p with castle := 2 })
      | _ => d.decidingTurn evalUs commitUs

/-- A standby whose link is down runs the swap turn and its ages by its own PB0 (R375, R416). -/
def Dev.aloneLatch (d : Dev) : Dev := (((d.swapAt (d.turn.number + 1)).agePeriod).hostWrites).periodStart

/-- SAMPLE_LATCH (R9, R16): the TURN entry at PB0 count 0. A standby and a rejoiner start their turns with the
active's while the link is up (R356); a device without turns only starts its acquisition. -/
def Dev.sampleLatch (d : Dev) (evalUs commitUs : Nat) : Dev :=
  if d.pwr.boot ≠ 3 then d
  else if d.holder then (if d.turnsRun then d.holderLatch evalUs commitUs else d.periodStart)
  else if (d.role = 3 ∨ d.role = 4) ∧ d.linkUp then d
  else match d.vault.decomm with
    | some slot => d.decommission slot
    | none => if d.role = 3 then d.aloneLatch else d.hostWrites.periodStart

/-- TURN_START_SET with what a standby's latch does first (R356, R415). -/
def Dev.turnStart (d : Dev) (low : BitVec 16) : Dev :=
  let n := nextTurn d.turn.number low.toNat
  let d := if d.standby && d.linkUp && d.vault.swapTurn == some n then d.commitDeadline.swapAt n else d
  d.turnStartSet low

/-- SWAP_LATCH (R415): the latch of the swap turn, ahead of its turn. -/
def Dev.swapLatch (d : Dev) : Dev :=
  let n := d.turn.number + 1
  if d.vault.swapTurn = some n then d.commitDeadline.swapAt n else d

end Sys2Proof.Machine
end

