-- ==== Sys2Proof/Machine/Boot.lean ====
section
/-!
DEFINITION. The start-up (R306, R337, R379, R417, R497), the training of the link with its authentication
(R354, R422), and the envelope that an active forwards (R414).
-/
namespace Sys2Proof.Machine

/-! Slot selection (R416, R417) -/

/-- Power was lost before the IMGSWAP entry of the last swap was accepted: the slot before is active (R416). -/
def Dev.swapUndone (d : Dev) : Dev :=
  match d.vault.swapFrom, (d.imgSlot d.actSlot).ok with
  | some old, some img =>
    let d := d.setVault (fun v => { v with swapFrom := none })
    if d.jrn.ledger.any (fun e => e.names img) then d else d.wrF R.VLT_STAT F.VLT_STAT_ACTSLOT old
  | _, _ => d

/-- A slot that holds bytes and fails verification at start-up is a rejected image; an EMPTY slot is none. -/
def Dev.bootReject (d : Dev) (slot : Nat) (r : Reject) : Dev :=
  if (d.imgSlot slot).mem = [] then d else d.rejected r

/-- The slot selection of R417: the slot and its image; the other slot is taken with FALLBACK. -/
def Dev.selectImage (d : Dev) : Option (Nat × Image) × Dev :=
  let act := d.actSlot
  let first := if d.vault.bootnext then 1 - act else act
  let d := d.setVault (fun v => { v with bootnext := false })
  match d.verify (d.imgSlot first).bytes (first == act) with
  | .inl img => (some (first, img), d)
  | .inr r =>
    let d := d.bootReject first r
    let other := 1 - first
    match d.verify (d.imgSlot other).bytes (other == act) with
    | .inl img =>
      (some (other, img), (d.flag R.VLT_STAT 5).happen (secEntry 0x000E [byteOf other, byteOf r.reason]))
    | .inr r2 => (none, d.bootReject other r2)

/-- The enrolment of the owner by the first image (R289, R407, R424). -/
def Dev.enrol (d : Dev) (img : Image) : Dev :=
  let key := ((img.ownr[img.head.sigslot]?).map OwnRec.key).getD []
  let d := (d.setLife 1).setJrn (fun j => { j with genesis := j.next == 0 })
  let d := d.happen (secEntry 0x0001 (byteOf img.head.sigslot :: keyHash8 key))
  match d.vault.ownclrWay with
  | some w => (d.happen (secEntry 0x000C [byteOf w])).setVault (fun v => { v with ownclrWay := none })
  | none => d

/-- The selected image becomes active at the start-up (R408, R413, R417, R497 step 5). -/
def Dev.startImage (d : Dev) (slot : Nat) (img : Image) : Dev :=
  let fresh := slot != d.actSlot || d.life == 0
  let was := (((d.imgSlot d.actSlot).ok.filter (fun _ => d.life == 1)).map (fun i => i.keys.epoch)).getD img.keys.epoch
  let d := (d.wrF R.VLT_STAT F.VLT_STAT_ACTSLOT slot).wrF R.VLT_STAT F.VLT_STAT_NOIMG 0
  let d := if img.head.enrol ∧ d.life = 0 then d.enrol img else d
  let d := d.setImgSlot slot (fun s => { s with ok := some img })
  (d.applyImage true img).vaultTakes img was fresh

/-- The turn number goes on above the larger of the seal's and that of entry H (SYS_TURNNUM). -/
def Dev.turnResume (d : Dev) : Dev :=
  let a := (d.jrn.sealed.map Seal.turn).getD 0
  let b := (d.jrn.ledger.head?.map LEntry.turn).getD 0
  let n := max a b
  (d.setTurn (fun t => { t with number := n })).wr R.SYS_TURNNUM_LO (BitVec.ofNat 32 (n + 1))

/-- Write-through by a warning or EJECT_N that still stands (R495, R508). -/
def Dev.startThrough (d : Dev) : Dev :=
  if (d.pfw ∨ d.ejected) ∧ !d.standby then d.writeThrough true else d

/-- The role of a device that has started up: SOLO, or in a pair NONE until its claim (R346, R379). -/
def Dev.startRole (d : Dev) : Dev :=
  let d := d.setTurn (fun t => { t with starts := true })
  if d.image.pair.mode = 0 then (d.setRole 1).holderStart true
  else
    let now := d.clk
    d.setPair (fun p => { p with claim := true, claimAt := now })

/-- The RESET entry (R499, R509). -/
def Dev.resetEntry (d : Dev) : Entry :=
  sysEntry 0x0002 [byteOf (d.rdF R.PWR_RSTCAUSE F.PWR_RSTCAUSE_CAUSE),
    byteOf (d.rdF R.PWR_RSTCAUSE F.PWR_RSTCAUSE_DETAIL), byteOf (d.rdF R.PWR_RSTCAUSE F.PWR_RSTCAUSE_NOWARN)]

/-- The steps of R497 after the resumption of an erasure has been ruled out. -/
def Dev.startSteps (d : Dev) : Dev :=
  let d := if d.life = 3 then d.setLife d.vault.lifeWas else d
  let d := (d.happen d.resetEntry).newNonce.swapUndone
  let sel := d.selectImage
  let d := (sel.2.jrnStart.turnResume).domStart
  match sel.1 with
  | none => (d.wrF R.VLT_STAT F.VLT_STAT_NOIMG 1).startThrough
  | some x => (((d.startImage x.1 x.2).marksStart).startThrough).startRole

/-- START_UP (R424, R497): an interrupted erasure resumes in its place. -/
def Dev.startUp (d : Dev) : Dev :=
  if d.pwr.boot ≠ 2 then d
  else
    let now := d.clk
    let d := (d.setPwr (fun p => { p with boot := 3 })).setWtc (fun w => { w with startAt := now, heldAt := now })
    if d.vault.erasing then d.wrF R.VLT_STAT F.VLT_STAT_NOIMG 1
    else d.startSteps

/-! The claim (R351, R379) -/

/-- The new active: it starts its lattice under R247. -/
def Dev.becomeActive (d : Dev) : Dev :=
  let st := evalStart d.image
  let cur := { st with streams := d.turn.cur.streams }
  let d := d.setTurn (fun t => { t with cur := cur, view := viewOf cur, run := none, prev := none })
  let d := d.wrFs R.PAR_ROLE [(F.PAR_ROLE_TOKEN, 1), (F.PAR_ROLE_LINE, 0), (F.PAR_ROLE_PEERUP, 0)]
  ((d.setRole 2).setPair (fun p => { p with claim := false, rejReady := false })).holderStart true

/-- The claim lost: the device rejoins. -/
def Dev.claimLost (d : Dev) : Dev := (d.setPair (fun p => { p with claim := false })).toRejoin

/-- Whether a claim is due: after a start-up once the link is UP or 50 ms have passed (R379), and in a rejoiner whose
link has been down for 50 ms (R351). -/
def Dev.claimDue (d : Dev) : Bool :=
  (d.pair.claim && (d.linkUp || decide (d.clk ≥ d.pair.claimAt + 5 * tenMs)))
    || (d.role == 4 && !d.linkUp && decide (d.clk ≥ d.pair.downAt + 5 * tenMs))

/-- START_CLAIM (R351, R379). -/
def Dev.startClaim (d : Dev) (lineFree idHigh : Bool) (peerNext : BitVec 48) : Dev :=
  if d.pwr.boot ≠ 3 ∨ !d.claimDue then d
  else
    let d := d.wrFs R.PAR_ROLE [(F.PAR_ROLE_IDHI, b2n idHigh), (F.PAR_ROLE_LINE, b2n lineFree)]
    if !lineFree then (if d.role = 4 then d else d.claimLost)
    else if !d.linkUp then d.becomeActive
    else
      let peer := peerNext.toNat
      if peer < d.jrn.next ∨ (peer = d.jrn.next ∧ !idHigh) then d.becomeActive else d.claimLost

/-! The link (R350, R354, R380 step 1, R422; the order of the peer's authentication is the model's own: log
entry 32) -/

/-- The hashes of the ACTIVE slots' keys, in slot order. -/
def Dev.slotHashes (d : Dev) : List Byte :=
  (List.range 4).flatMap (fun s => match d.vault.slots[s]? with
    | some o => if o.state = 1 then sha256 o.key else List.replicate 32 0
    | none => List.replicate 32 0)

/-- The authentication fails: OFF, and DETECT again while EN is 1 and STATE is ON (R354, R380). -/
def Dev.authFail (d : Dev) : Dev :=
  let again := d.fEn .link && d.fState .link == 2
  let d := (d.linkGone (if again then 1 else 0)).flagEv R.PAR_STAT 10 206
  let d := d.setPair (fun p => { p with wantHash := none })
  if d.role = 4 then d.rejoinFailed else d

/-- The link is UP with the lanes trained. -/
def Dev.linkTrained (d : Dev) (lanes : Nat) (cert : List Byte) : Dev :=
  let d := d.wrFs R.PAR_LNKSTAT [(F.PAR_LNKSTAT_LSTATE, 5), (F.PAR_LNKSTAT_LANE0, lanes % 2),
    (F.PAR_LNKSTAT_LANE1, lanes / 2)]
  let d := d.setPair (fun p => { p with
    blocks := [], txSeq := 0, rxSeq := 0, healthAge := 0, wantHash := none, lostNow := false })
  let d := ((d.raise 197).formPair 0x1 ((sha256 cert).take 16)).formPair 0x6 []
  if d.role = 4 then d.wrF R.PAR_REJOIN F.PAR_REJOIN_STEP 2
  else if d.standby ∧ !d.peerUp then d.toRejoin
  else d

/-- LINK_TRAINING_DONE (R354, R422). A peer whose IMGHASH alone differs leaves the link in AUTH until the
rejoiner has taken over the active's image. -/
def Dev.linkTrainingDone (d : Dev) (lanes : BitVec 2) (auth : List Byte) : Dev :=
  if d.lstate = 0 ∨ d.lstate = 5 ∨ lanes = 0 then d
  else
    let cert := auth.drop 225
    let x := d.trng 4
    let d := x.2
    let same := d.slotHashes == slice auth 32 128
    let strap := byteAt auth 160 != d.rdF R.PAR_ROLE F.PAR_ROLE_IDHI
    if !(Config.peerAuthentic cert x.1 (slice auth 161 64)) ∨ !same ∨ !strap then d.authFail
    else if slice auth 0 32 = padTo 32 d.image.head.hash then d.linkTrained lanes.toNat cert
    else
      let want := if d.role = 2 then none else some (slice auth 0 32)
      let d := (d.wrF R.PAR_LNKSTAT F.PAR_LNKSTAT_LSTATE 4).setPair (fun p => { p with wantHash := want })
      if d.role = 2 then d.forwardStart d.actSlot else d

/-- The staged image of a rejoiner is judged (R422): the active's image becomes its own at once. -/
def Dev.adopt (d : Dev) (want : List Byte) : Dev :=
  if d.staging = 4 then d.authFail
  else if d.staging ≠ 3 then d
  else if ((d.imgSlot d.stageSlot).ok.any (fun i => padTo 32 i.head.hash == want)) then
    (d.swapNow none).setPair (fun p => { p with wantHash := none })
  else d.authFail

/-- IMAGE_VERIFIED (R412, R414, R422). -/
def Dev.imageJudged (d : Dev) : Dev :=
  let was := d.staging
  let d := d.imageVerified
  match d.pair.wantHash with
  | some h => if was = 2 then d.adopt h else d
  | none => d

/-- LINK_BLOCK_RECEIVED with the blocks of a forwarded envelope (R355, R414, R422; log entry 20). -/
def Dev.linkBlock (d : Dev) (q : Nat) (seq : BitVec 16) (crcOk : Bool) (bytes : List Byte)
    (ack : Option (BitVec 16)) : Dev :=
  let rejoins := d.lstate == 4 && d.pair.wantHash.isSome
  let good := crcOk && ack.isNone && (rejoins || (d.standby && d.linkUp && seq.toNat == d.pair.rxSeq))
  let d := d.blockReceived q seq crcOk bytes ack
  if good && q == 0 && byteAt bytes 0 == 0x0D && decide (8 < bytes.length) then
    d.imageBytes (uAt bytes 4 4) (bytes.drop 8)
  else d

end Sys2Proof.Machine
end

