-- ==== Sys2Proof/Machine/Port.lean ====
section
/-!
DEFINITION. What the port does to a register word: writes by access type (R4, R43 to R60), each special
register's own act, reads with their effects, and the SRAM windows (R477, R482).
-/
namespace Sys2Proof.Machine

/-- The index of an address among the first `n` registers of a family. -/
def regIndex (f : Nat → Nat) (n a : Nat) : Option Nat := (List.range n).find? (fun i => f i == a)

/-! The key gate (R47, R48) -/

/-- The value that opens the key gate. -/
def keyValue : BitVec 16 := 0xB71E

/-- The cycles of CK_SYS in the gate's 1 ms. -/
def gateCycles : Nat := 400000

/-- The gate open for a session from now on. -/
def Dev.openGate (d : Dev) (sess : Nat) : Dev :=
  { d.wrF R.SYS_KEYGATE F.SYS_KEYGATE_OPEN 1 with gate := some ⟨sess, d.clk⟩ }

/-- A write to KEY (R47, R48): while the gate is open, only its opener's acts. -/
def Dev.keyWrite (d : Dev) (sess : Nat) (key : BitVec 16) : Dev :=
  match d.gate with
  | some g =>
    if g.opener ≠ sess then d
    else if key = keyValue then d.openGate sess
    else d.closeGate
  | none => if key = keyValue then d.openGate sess else d

/-- KEYGATE_TIMEOUT (R48): 1 ms without a key-gated write. -/
def Dev.keyTimeout (d : Dev) : Dev :=
  match d.gate with
  | some g => if g.since + gateCycles ≤ d.clk then d.closeGate else d
  | none => d

/-! Clearing writes -/

/-- A write to a register with SQ flags (R51). An event of the register in the same clock cycle advances SEQ first,
so the write is ignored as a whole (R52). -/
def Dev.sqWrite (d : Dev) (a : Nat) (v : Word) (same : Bool) : Dev :=
  match findRow a with
  | some r => if same then d else d.clearFlags a r.sq v
  | none => d

/-- A write to HST_EVCLRm (R60): an event raised in the same clock cycle leaves its bit pending. A record of a bit
that clears counts no more (R58). -/
def Dev.evClear (d : Dev) (m : Nat) (v same : Word) : Dev :=
  let gone := v &&& ~~~ same
  (d.wr (R.HST_EVPEND m) (d.rd (R.HST_EVPEND m) &&& ~~~ gone)).setCounts (fun l =>
    l.filter (fun n => !(n / 32 == m && bitOf gone.toNat (n % 32))))

/-- LATECNT_CLR. -/
def Dev.latecntClr (d : Dev) : Dev := d.wrF R.PHS_LATECNT F.PHS_LATECNT_COUNT 0

/-- JUMP_CLR. -/
def Dev.jumpClr (d : Dev) (b : Nat) : Dev := d.wrF (R.PHS_JUMP b) F.PHS_JUMP_MAXJ 0

/-! Guarded and buffered writes -/

/-- A write to a register with a WK bit that acts when written as 1; written as 0, it still passes the
gate (R47). -/
def Dev.gatedBit (d : Dev) (sess a : Nat) (on : Bool) (act : Dev → Dev) : Dev :=
  if on then act d else (d.passGate sess a).2

/-- A setpoint write of a loop output: it waits for the latch that judges it (R204). -/
def Dev.osetWrite (d : Dev) (sess n : Nat) (v : BitVec 15) : Dev :=
  d.wbWrite (R.LOP_OSET n) osetMask (BitVec.ofNat 32 v.toNat) sess

/-- A range write of a charge channel: it waits for the channel's cycle boundary (R143). -/
def Dev.qRangeWrite (d : Dev) (sess n : Nat) (v : Word) : Dev := d.wbWrite (R.QCH_RANGE n) qRangeMask v sess

/-- A write to PWR_SLEEP: with REQ it is a sleep request, without it only WAKEMSK changes (R4, R502). -/
def Dev.sleepWrite (d : Dev) (sess : Nat) (v : Word) : Dev :=
  if getF F.PWR_SLEEP_REQ v = 1 then d.sleepRequest sess (BitVec.ofNat 4 (getF F.PWR_SLEEP_WAKEMSK v))
  else
    let g := d.passGate sess R.PWR_SLEEP
    if g.1 then g.2.wrF R.PWR_SLEEP F.PWR_SLEEP_WAKEMSK (getF F.PWR_SLEEP_WAKEMSK v) else g.2

/-- Writes to the registers of functions with a shutdown sequence (R53, R54). -/
def Dev.writeFunc (d : Dev) (sess a : Nat) (v : Word) : Option Dev :=
  (allFuncs.find? (fun f => f.reg == a)).map (fun f => d.fEnWrite sess f (getF fEN v == 1) false)

/-- Writes to the system, event and queue registers with an act of their own. -/
def Dev.writeSys (d : Dev) (sess a : Nat) (v : Word) : Option Dev :=
  if a = R.SYS_KEYGATE then some (d.keyWrite sess (BitVec.ofNat 16 (getF F.SYS_KEYGATE_KEY v)))
  else if a = R.SYS_TIMINGMAX then some (if getF F.SYS_TIMINGMAX_CLR v = 1 then d.timingmaxClr else d)
  else if a = R.HST_QPROMOCNT then some (if getF F.HST_QPROMOCNT_CLR v = 1 then d.promocntClr else d)
  else if a = R.PHS_LATECNT then some (if getF F.PHS_LATECNT_CLR v = 1 then d.latecntClr else d)
  else if a = R.HST_EVTCFG then
    some { d.wrF a F.HST_EVTCFG_MODE (getF F.HST_EVTCFG_MODE v) with host := { d.host with evtOn := true } }
  else match regIndex R.HST_EVCLR 8 a with
    | some m => some (d.evClear m v 0)
    | none => (regIndex R.PHS_JUMP 4 a).map (fun b => if getF F.PHS_JUMP_CLR v = 1 then d.jumpClr b else d)

/-- Writes to the acquisition and output registers with an act of their own. -/
def Dev.writeChan (d : Dev) (sess a : Nat) (v : Word) : Option Dev :=
  match regIndex R.UIN_DIAG 48 a with
  | some n => some (d.uDiagRequest n (getF F.UIN_DIAG_REQ v == 1))
  | none => match regIndex R.QCH_RANGE 12 a with
    | some n => some (d.qRangeWrite sess n v)
    | none => match regIndex R.XCH_TRIM 8 a with
      | some n => some (d.xTrimWrite n (BitVec.ofNat 16 (getF F.XCH_TRIM_TRIM v)))
      | none => match regIndex R.LOP_OSET 4 a with
        | some n => some (d.osetWrite sess n (BitVec.ofNat 15 (getF F.LOP_OSET_SETPT v)))
        | none =>
          if a = R.DIO_HOSTSET then some (d.hostsetWrite sess false v)
          else if a = R.DIO_HOSTSET31 then some (d.hostsetWrite sess true v)
          else none

/-- Writes to the journal, bus, pair, vault and power registers with an act of their own. A host cancel by this
path meets a frame in the state that its buffer shows. -/
def Dev.writeUnit (d : Dev) (sess a : Nat) (v : Word) : Option Dev :=
  if a = R.JRN_POOL then some (if getF F.JRN_POOL_CLR v = 1 then d.poolClr else d)
  else if a = R.JRN_HOLDCNT then some (if getF F.JRN_HOLDCNT_CLR v = 1 then d.holdcntClr else d)
  else if a = R.JRN_EXPACK then some (d.expackWrite sess v)
  else if a = R.PAR_CMD then
    some (d.gatedBit sess a (getF F.PAR_CMD_HANDOVER v == 1) (fun d => d.handover sess))
  else if a = R.VLT_CMD then some (d.vltCmd sess v)
  else if a = R.PWR_COMB then some (if getF F.PWR_COMB_CLR v = 1 then d.combClr else d)
  else if a = R.PWR_RSTCMD then
    some (d.gatedBit sess a (getF F.PWR_RSTCMD_RESET v == 1) (fun d => d.hostReset sess))
  else if a = R.PWR_SLEEP then some (d.sleepWrite sess v)
  else match regIndex R.CAN_RXUNLOCK 4 a with
    | some n => some (if getF F.CAN_RXUNLOCK_UNLOCK v = 1 then d.rxUnlock n else d)
    | none => (regIndex R.CAN_TXCANCEL 4 a).map (fun n =>
        let st := (((d.canCh n).bufs.filterMap id).find? (fun b => b.elem.ref.isSome && uAt b.elem.bytes 0 4 == v.toNat))
        d.txCancel n v.toNat ((st.map TxBuf.state).getD 0))

/-- Writes to the dome's registers with an act of their own. -/
def Dev.writeDome (d : Dev) (sess a : Nat) (v : Word) : Option Dev :=
  if a = R.DOM_ZONE then some (d.domZoneWrite sess (BitVec.ofNat 12 (getF F.DOM_ZONE_ZONE v)))
  else if a = R.DOM_ZCMD then some (if v.toNat % 4 = 0 then d else d.domZcmd (v.toNat % 4))
  else if a = R.DOM_SHIFT then some (d.domShift (BitVec.ofNat 16 (getF F.DOM_SHIFT_SHIFT v)))
  else if a = R.DOM_SET_HI then some (d.domSet sess (BitVec.ofNat 16 (getF F.DOM_SET_HI_S_HI v)))
  else if a = R.DOM_CAPCMD then some (if getF F.DOM_CAPCMD_CAPTURE v = 1 then d.domCapture else d)
  else (regIndex R.DOM_ALMCMP_HI 2 a).map (fun k => d.domArm k (BitVec.ofNat 16 (getF F.DOM_ALMCMP_HI_C_HI v)))

/-- The bits of a register that the port may write, by any access type (R4). -/
def RegRow.writable (r : RegRow) : Word := r.rw ||| r.wb ||| r.wk ||| r.sq ||| r.w1 ||| r.wo

/-- A write of one word (R4, R477): none where the word is unmapped or has no writable field. A word without an
act of its own clears its SQ flags (R51) or takes its RW fields. -/
def Dev.writeWord (d : Dev) (sess a : Nat) (v : Word) : Option Dev :=
  match findRow a with
  | none => none
  | some r =>
    if r.writable = 0 then none
    else some ((((((d.writeFunc sess a v).or (d.writeSys sess a v)).or (d.writeChan sess a v)).or
      (d.writeUnit sess a v)).or (d.writeDome sess a v)).getD
        (if r.sq ≠ 0 then d.clearFlags a r.sq v else d.wr a ((d.rd a &&& ~~~ r.rw) ||| (v &&& r.rw))))

/-- A WRITE of consecutive words (R477): it stops at a word that it may not write, and at a reset that a word
makes; whether no word stopped it. -/
def Dev.writeWords (d : Dev) (sess : Nat) : Nat → List Word → Dev × Bool
  | _, [] => (d, true)
  | a, v :: vs =>
    if d.pwr.boot ≠ 3 then (d, true)
    else match d.writeWord sess a v with
      | none => (d, false)
      | some d => d.writeWords sess (a + 4) vs

/-! Reading -/

/-- Milliseconds since a cycle of CK_SYS, saturating; the largest value where there is none. -/
def Dev.ageMs (d : Dev) (max : Nat) (since : Option Nat) : Nat :=
  match since with | some t => min max ((d.clk - t) / 400000) | none => max

/-- How many of some instants lie within the last hour. -/
def Dev.lastHour (d : Dev) (l : List Nat) : Nat := (l.filter (fun t => decide (d.clk < t + hourCycles))).length

/-- A register with a field that is read live. -/
def Dev.shown (d : Dev) (a : Nat) (f : Field) (v : Nat) : Word := putF f (d.rd a) v

/-- The live position of a base (PHS_POSn). -/
def Dev.posWord (d : Dev) (b : Nat) : Word :=
  let pos := if b = 0 then d.pb0 else (d.base b).acc / 4096
  let cyc := if b = 0 then d.turn.number else (d.base b).cyc
  packF [(F.PHS_POS_CYC, cyc), (F.PHS_POS_POS, pos)]

/-- The elements of a queue now: Q32 to Q39 share the pool (HST_QSTATn). -/
def Dev.queueCount (d : Dev) (q : Nat) : Nat :=
  if 32 ≤ q ∧ q < 40 then (d.jrn.ing.getD (q - 32) []).length else (d.queue q).length

/-- Registers with fields that are read live, from the state. -/
def Dev.liveWord (d : Dev) (a : Nat) : Option Word :=
  match regIndex R.PHS_POS 4 a with
  | some b => some (d.posWord b)
  | none => match regIndex R.UIN_STS 48 a with
    | some n => some (d.shown a F.UIN_STS_AGE (d.ageMs 4095 (d.uin.chans.getD n UChan.empty).relClk))
    | none => match regIndex R.LOP_STS 16 a with
      | some n => some (d.shown a F.LOP_STS_AGE (d.ageMs 4095 (d.lop.ins.getD n LoopIn.empty).relClk))
      | none => match regIndex R.LOP_OSTS 4 a with
        | some n => some (d.shown a F.LOP_OSTS_HANDOVER (b2n (d.loHandover n)))
        | none => match regIndex R.UIN_AMON 2 a with
          | some m => some (d.shown a F.UIN_AMON_VALID (b2n (d.amonDrives m)))
          | none => match regIndex R.HST_QSTAT 64 a with
            | some q => some (d.shown a F.HST_QSTAT_COUNT (d.queueCount q))
            | none => none

/-- Registers of the bus, the pair, the watchtower, the vault and the dome that are read live. -/
def Dev.liveUnit (d : Dev) (a : Nat) : Option Word :=
  match regIndex R.CAN_RXSTAT 4 a with
  | some n => some (d.shown a F.CAN_RXSTAT_COUNT (d.queue n).length)
  | none => match regIndex R.CAN_TSC 4 a with
    | some _ => some (BitVec.ofNat 32 d.canTsc)
    | none => match regIndex R.CAN_MARK_LO 4 a with
      | some n => some (BitVec.ofNat 32 (d.canMark n))
      | none => match (List.range 4).find? (fun n => R.CAN_RXWIN n 0 ≤ a ∧ a ≤ R.CAN_RXWIN n 19) with
        | some n => some (d.rxWord n ((a - R.CAN_RXWIN n 0) / 4))
        | none =>
          if a = R.PAR_REJOIN then
            let w := d.shown a F.PAR_REJOIN_REJCNT (min 15 (d.lastHour d.pair.rejFails))
            some (if d.rdF a F.PAR_REJOIN_STEP = 0 then w
              else putF F.PAR_REJOIN_ELAPSED w (d.ageMs 0xFFFF (some d.pair.rejSince)))
          else if a = R.WTC_LATCOV then some (BitVec.ofNat 32 d.latDone)
          else if a = R.WTC_COUNT then some (d.shown a F.WTC_COUNT_RSTHOUR (min 255 (d.lastHour d.wtc.resets)))
          else if a = R.VLT_CERTLEN then some (BitVec.ofNat 32 Config.certificate.length)
          else if a = R.DOM_TICK_LO then some (BitVec.ofNat 32 d.dom.count)
          else match regIndex R.VLT_DEVID 4 a with
            | some k => some (BitVec.ofNat 32 (uAt devId (4 * k) 4))
            | none => (regIndex R.VLT_CERT 256 a).map (fun k => BitVec.ofNat 32 (uAt Config.certificate (4 * k) 4))

/-- Registers of measured quantities that no command gives: free values (log entry 18). VMIN and MAX keep the
extreme of what has been read. -/
def Dev.measuredWord (d : Dev) (a : Nat) : Option (Word × Dev) :=
  if a = R.PWR_FEEDA ∨ a = R.PWR_FEEDB ∨ a = R.PWR_RAILS then
    let v := d.freeVal 32
    some (BitVec.ofNat 32 v.1, v.2)
  else if a = R.PWR_COMB then
    let v := d.freeVal 15
    let m := v.2.freeVal 15
    let d := m.2.wrFs a [(F.PWR_COMB_VMIN, min (min v.1 m.1) (d.rdF a F.PWR_COMB_VMIN)), (F.PWR_COMB_VCOMB, v.1)]
    some (d.rd a, d)
  else if a = R.WTC_TEMP then
    let v := d.freeVal 16
    let m := v.2.freeVal 16
    let top := max (max (signed 16 v.1) (signed 16 m.1)) (signed 16 (d.rdF a F.WTC_TEMP_MAX))
    let d := m.2.wrFs a [(F.WTC_TEMP_NOW, v.1), (F.WTC_TEMP_MAX, pattern 16 top)]
    some (d.rd a, d)
  else match regIndex R.LOP_HSTAT 16 a with
    | some _ =>
      let v := d.freeVal 1
      some (d.shown a F.LOP_HSTAT_CD v.1, v.2)
    | none => (regIndex R.CAN_TDC 4 a).map (fun _ =>
        let v := d.freeVal 7
        (d.shown a F.CAN_TDC_TDCV v.1, v.2))

/-- What a read does before its word is taken: the low words latch their high words, and word 0 of a receive
window locks it (R41, R320, R435). -/
def Dev.readBefore (d : Dev) (a : Nat) : Dev :=
  if a = R.SYS_TURNNUM_LO then d.turnnumLoRead
  else if a = R.JRN_HEAD_LO then d.headLoRead
  else if a = R.JRN_WMARK_LO then d.wmarkLoRead
  else if a = R.JRN_CKPT_LO then d.ckptLoRead
  else if a = R.DOM_TICK_LO then d.domTickRead
  else match regIndex R.CAN_MARK_LO 4 a with
    | some n => d.markLoRead n
    | none => match regIndex (fun n => R.CAN_RXWIN n 0) 4 a with
      | some n => d.rxLock n
      | none => d

/-- What a read does after its word is taken: word 19 of a receive window releases it (R320). -/
def Dev.readAfter (d : Dev) (a : Nat) : Dev :=
  match regIndex (fun n => R.CAN_RXWIN n 19) 4 a with
  | some n => d.rxRelease n
  | none => d

/-- Bits that no read returns: WO fields and W1 bits read 0 (R4). -/
def RegRow.hidden (r : RegRow) : Word := r.wo ||| r.w1

/-- A mapped register read. -/
def Dev.readReg (d : Dev) (a : Nat) : Word × Dev :=
  let d := d.readBefore a
  match d.measuredWord a with
  | some x => x
  | none => (((d.liveWord a).or (d.liveUnit a)).getD (d.rd a), d.readAfter a)

/-! The SRAM windows (R482) -/

/-- The word of a schedule entry (R97). -/
def SchedEntry.word (e : SchedEntry) (k : Nat) : Nat :=
  if k = 0 then b2n e.fb * 2 ^ 26 + e.act % 16 * 2 ^ 22 + e.base % 4 * 2 ^ 20 + e.pos % 2 ^ 20
  else if k = 1 then e.arg % 256 * 256 + e.target % 256
  else e.fbdiv % 256 * 2 ^ 20 + e.fbpos % 2 ^ 20

/-- The schedule table: the two turn entries of R69, then the image's. -/
def Dev.schedTable (d : Dev) : List SchedEntry :=
  let p := d.image.phsb
  if p.tlen = 0 then []
  else ⟨false, 15, 0, 0, 0, 0, 0, 0⟩ :: ⟨false, 15, 0, pb0Count p.tlen (400 * p.emit), 0, 0, 0, 0⟩ :: d.image.schd

/-- A word of a window, if the address lies in one. -/
def Dev.windowWord (d : Dev) (a : Nat) : Option Word :=
  if 0x01000000 ≤ a ∧ a < 0x01546000 then some (BitVec.ofNat 32 (ofLe (memRead d.qch.ring (a - 0x01000000) 4)))
  else if 0x01550000 ≤ a ∧ a < 0x01556000 then
    some (BitVec.ofNat 32 (ofLe (memRead d.qch.desc (a - 0x01550000) 4)))
  else if 0x01560000 ≤ a ∧ a < 0x0156C000 then
    let o := a - 0x01560000
    some (BitVec.ofNat 32 (((d.schedTable[o / 12]?).map (fun e => e.word (o % 12 / 4))).getD 0))
  else none

/-- A word read by the port: an unmapped word reads 0 (R477). -/
def Dev.readWord (d : Dev) (a : Nat) : Word × Dev :=
  match findRow a with
  | some r =>
    let x := d.readReg a
    (x.1 &&& ~~~ r.hidden, x.2)
  | none => ((d.windowWord a).getD 0, d)

/-- Consecutive words read in ascending address (R477). -/
def Dev.readWords (d : Dev) : Nat → Nat → List Byte × Dev
  | _, 0 => ([], d)
  | a, n + 1 =>
    let x := d.readWord a
    let y := x.2.readWords (a + 4) n
    (leBytes 4 x.1.toNat ++ y.1, y.2)

/-! The event pins (R59) -/

/-- The level of event pin EVTk. -/
def Dev.evtPin (d : Dev) (k : Nat) : Bool :=
  d.host.evtOn && (if bitOf (d.rdF R.HST_EVTCFG F.HST_EVTCFG_MODE) k then decide (d.clk < d.pulse.getD k 0)
    else (List.range 256).any (fun n => d.evPending n && d.rdF (R.HST_EVCFG n) F.HST_EVCFG_EN == 1
      && d.rdF (R.HST_EVCFG n) F.HST_EVCFG_PIN == k))

end Sys2Proof.Machine
end

