-- ==== Sys2Proof/Machine/Host.lean ====
section
/-!
DEFINITION. The host port (chapter 18): request and response frames, sessions, and what each opcode does.
Log entry 35 names the choices that the chapter leaves open.
-/
namespace Sys2Proof.Machine

/-! Frames (R471 to R474) -/

/-- A request frame: its fields, its bytes before the TAG, the TAG, and the CRC's verdict. -/
structure Req where
  opc : Nat
  hc : Nat
  sess : Nat
  ctr : Nat
  cmdid : Nat
  addr : Nat
  len : Nat
  payload : List Byte
  body : List Byte
  tag : Option (List Byte)
  crcOk : Bool
  deriving DecidableEq, Repr

/-- The payload bytes that follow the header: LEN of READ, QPEEK and QPOP counts what is asked for. -/
def payloadBytes (opc len : Nat) : Nat := if opc = 0x10 ∨ opc = 0x30 ∨ opc = 0x31 then 0 else len

/-! The lines of the port (R468, R469) -/

/-- The levels that HST_IO0 to HST_IO3 carry in one cycle of HST_SCK; none on a line that is not driven. -/
abbrev IoCycle : Type := List (Option Bool)

/-- A byte on the data lines, most significant bit first: on line `io` alone, or on all four with HST_IO0 the least
significant bit of each nibble. -/
def byteCycles (quad : Bool) (io : Nat) (b : Byte) : List IoCycle :=
  if quad then [b.toNat / 16, b.toNat % 16].map (fun n => (List.range 4).map (fun i => some (bitOf n i)))
  else (List.range 8).map (fun k => (List.range 4).map (fun i => if i = io then some (bitOf b.toNat (7 - k)) else none))

/-- QUAD of a request: bit 7 of its byte 0. -/
def quadOf (frame : List Byte) : Bool := bitOf (byteAt frame 0) 7

/-- The cycles in which the host sends a request: byte 0 on HST_IO0 alone. -/
def requestCycles (frame : List Byte) : List IoCycle :=
  (frame.take 1).flatMap (byteCycles false 0) ++ (frame.drop 1).flatMap (byteCycles (quadOf frame) 0)

/-- The 32 turnaround cycles: no line is driven. -/
def turnaround : List IoCycle := List.replicate 32 [none, none, none, none]

/-- What the device drives after a request: the turnaround, then its response, on HST_IO1 or on four lines. -/
def Dev.respCycles (d : Dev) : List IoCycle := turnaround ++ d.host.resp.flatMap (byteCycles d.host.quad 1)

/-- A request whose CRC is complete; none for a shorter one, which has no effect (R470). -/
def parseReq (bs : List Byte) : Option Req :=
  let opc := byteAt bs 0 % 128
  let len := uAt bs 16 2
  let n := 20 + payloadBytes opc len
  let tagged := bitOf (byteAt bs 1) 0
  let t := if tagged then 8 else 0
  if bs.length < n + t + 2 ∨ bs.length < 20 then none
  else some {
    opc := opc, hc := byteAt bs 1 / 2 % 8, sess := byteAt bs 2, ctr := uAt bs 4 4, cmdid := uAt bs 8 4
    addr := uAt bs 12 4, len := len, payload := slice bs 20 (payloadBytes opc len), body := bs.take n
    tag := if tagged then some (slice bs n 8) else none
    crcOk := crc16 (bs.take (n + t)) == ofBe (slice bs (n + t) 2) }

/-- Statuses of a response (R474). -/
def stOk : Nat := 0x00
def stQueued : Nat := 0x01
def stPending : Nat := 0x02
def stResult : Nat := 0x03
def stBusy : Nat := 0x04
def stStale : Nat := 0x05
def stUnknown : Nat := 0x06
def stCrcErr : Nat := 0x07
def stAuthErr : Nat := 0x08
def stDenied : Nat := 0x09
def stBadAddr : Nat := 0x0A
def stBadLen : Nat := 0x0B
def stNotActive : Nat := 0x0C
def stBadOpc : Nat := 0x0D

/-- The place of a session number: 0 to 7, and 8 for the unauthenticated session. -/
def sessIdx (s : Nat) : Option Nat := if s = 0xFF then some 8 else if s < 8 then some s else none

/-- A session's state; a closed one. -/
def Session.closed : Session := ⟨false, 0, 0, 0, 0, []⟩
def Dev.sessAt (d : Dev) (i : Nat) : Session := d.host.sessions.getD i Session.closed

/-- The device with the host port changed. -/
def Dev.setHost (d : Dev) (f : HostPort → HostPort) : Dev := { d with host := f d.host }

/-- The session registers written from the sessions' state. -/
def Dev.showSess (d : Dev) (i : Nat) : Dev :=
  if i ≥ 8 then d
  else
    let s := d.sessAt i
    let d := d.wr (R.HST_SESS i) (packF [(F.HST_SESS_OPEN, b2n s.isOpen), (F.HST_SESS_KEY, s.key),
      (F.HST_SESS_PERM, s.perm), (F.HST_SESS_CTR, s.ctrIn)])
    d.wrF R.VLT_SESS ⟨i, 1⟩ (b2n s.isOpen)

/-- The device with a session changed. -/
def Dev.setSess (d : Dev) (i : Nat) (f : Session → Session) : Dev :=
  (d.setHost (fun h => { h with sessions := upd h.sessions i f })).showSess i

/-- A response frame with its CRC, and with its TAG under a session key (R472 to R474). -/
def respFrame (status result ctr : Nat) (r : Req) (payload : List Byte) (sk : Option (List Byte)) : List Byte :=
  let m := [byteOf status, byteOf (b2n sk.isSome), byteOf r.sess, byteOf result] ++ leBytes 4 ctr
    ++ leBytes 4 r.cmdid ++ leBytes 2 payload.length ++ [0, 0] ++ payload
  let m := match sk with
    | some k => m ++ (hmac k (1 :: m)).take 8
    | none => m
  m ++ beBytes 2 (crc16 m)

/-- What the port's registers keep of a response (HST_STAT, HST_CNT, HST_LASTERR, R473, R474, R485). -/
def Dev.noteStatus (d : Dev) (status : Nat) (r : Req) : Dev :=
  let d := if status = stCrcErr then (d.incF R.HST_CNT F.HST_CNT_CRCERRS).flagEv R.HST_STAT 0 251
    else if status = stAuthErr then (d.incF R.HST_CNT F.HST_CNT_AUTHERRS).flagEv R.HST_STAT 1 251
    else if status = stDenied then d.flagEv R.HST_STAT 2 251
    else if status = stBadAddr then d.flagEv R.HST_STAT 3 251
    else d
  if status ≤ stResult then d
  else d.wr R.HST_LASTERR (packF [(F.HST_LASTERR_STATUS, status), (F.HST_LASTERR_OPC, r.opc), (F.HST_LASTERR_SESS, r.sess)])

/-- A response outside a session: CTR 0 and no TAG. -/
def Dev.answerBare (d : Dev) (r : Req) (status : Nat) (payload : List Byte) : Dev :=
  (d.noteStatus status r).setHost (fun h => { h with resp := respFrame status 0 0 r payload none })

/-- A response of session place `i` (R474). A device that the request has reset answers nothing. -/
def Dev.answer (d : Dev) (i : Nat) (r : Req) (status : Nat) (payload : List Byte) (result : Nat := 0) : Dev :=
  if d.pwr.boot ≠ 3 then d
  else
    let s := d.sessAt i
    let sk := if i < 8 then some s.sk else none
    let d := (d.noteStatus status r).setSess i (fun s => { s with ctrOut := (s.ctrOut + 1) % 2 ^ 32 })
    d.setHost (fun h => { h with resp := respFrame status result s.ctrOut r payload sk })

/-- The session that a request belongs to, when its TAG and CTR are right (R474). -/
def Dev.taken (d : Dev) (r : Req) : Option Nat :=
  match sessIdx r.sess with
  | none => none
  | some i =>
    let s := d.sessAt i
    let tagOk := if i < 8 then r.tag == some ((hmac s.sk (0 :: r.body)).take 8) else r.tag.isNone
    if s.isOpen && tagOk && decide (s.ctrIn < r.ctr) then some i else none

/-- A request of an opcode that needs a session: its CRC, its session, TAG and CTR come before its effect. -/
def Dev.request (d : Dev) (frame : List Byte) (opc : Nat → Bool) (act : Dev → Nat → Req → Dev) : Dev :=
  if d.pwr.boot ≠ 3 then d
  else match parseReq frame with
    | none => d
    | some r =>
      if !opc r.opc then d
      else
      let d := d.setHost (fun h => { h with quad := quadOf frame })
      if !r.crcOk then d.answerBare r stCrcErr []
      else match d.taken r with
        | none => d.answerBare r stAuthErr []
        | some i => act (d.setSess i (fun s => { s with ctrIn := r.ctr })) i r

/-- A request that opens a session: it belongs to none yet. -/
def Dev.requestOpen (d : Dev) (frame : List Byte) (opc : Nat) (act : Dev → Req → Dev) : Dev :=
  if d.pwr.boot ≠ 3 then d
  else match parseReq frame with
    | none => d
    | some r =>
      if r.opc ≠ opc then d
      else
      let d := d.setHost (fun h => { h with quad := quadOf frame })
      if !r.crcOk then d.answerBare r stCrcErr [] else act d r

/-- Whether a session holds a permission (R420): 0 READ, 1 OPERATE, 2 CONFIG, 3 IMAGE, 4 OWNER. -/
def Dev.may (d : Dev) (i p : Nat) : Bool := bitOf (d.sessAt i).perm p

/-! Sessions (R420, R421, R475) -/

/-- LOCK stands (R420). -/
def Dev.locked (d : Dev) : Bool := d.rdF R.VLT_STAT F.VLT_STAT_LOCK == 1

/-- The permissions of the unauthenticated session, where R421 allows one. -/
def Dev.openPerm (d : Dev) : Option Nat :=
  if d.life = 3 then some 17
  else if d.life = 2 then some 1
  else if d.life = 0 ∨ d.rdF R.VLT_STAT F.VLT_STAT_NOIMG = 1 then some 9
  else none

/-- OPEN1 (R405, R420, R421, R475). -/
def Dev.open1 (d : Dev) (r : Req) : Dev :=
  let k := byteAt r.payload 0
  if r.len ≠ 18 then d.answerBare r stBadLen []
  else if d.locked ∨ d.trngBad then d.answerBare r stAuthErr []
  else if k = 0xFF then
    match d.openPerm with
    | some p =>
      if byteAt r.payload 1 ≠ 0xFF then d.answerBare r stDenied []
      else
        let x := d.trng 2
        let d := x.2.setSess 8 (fun _ => ⟨true, 0, p, 0, 1, []⟩)
        d.answer 8 r stOk x.1
    | none => d.answerBare r stDenied []
  else
    let x := d.trng 2
    let d := x.2.setHost (fun h => { h with
      opening := some ⟨byteAt r.payload 1, k, slice r.payload 2 16, x.1⟩ })
    d.answerBare r stOk x.1

/-- A failed opening (R420): its entry and count; the eighth within a minute sets LOCK. -/
def Dev.openFailed (d : Dev) (r : Req) (key cause : Nat) : Dev :=
  let now := d.clk
  let fails := now :: d.host.fails.filter (fun t => decide (now < t + minuteCycles))
  let lock := decide (fails.length ≥ 8)
  let d := d.setHost (fun h => { h with fails := if lock then [] else fails, opening := none, lockAt := if lock then now else h.lockAt })
  let d := if lock then d.wrF R.VLT_STAT F.VLT_STAT_LOCK 1 else d
  let d := (d.happen (secEntry 0x0009 [byteOf key, byteOf cause])).raise 229
  (d.incF R.VLT_SESS F.VLT_SESS_FAILS).answerBare r stAuthErr []

/-- The key of an index, while it is enrolled (R420, R428). -/
def Dev.hostKey (d : Dev) (k : Nat) : Option HostKey :=
  match d.image.keys.hostkeys[k]? with
  | some h => if h.en then some h else none
  | none => none

/-- The session key (R420): "vzhst", the key index and the session number as info. -/
def sessionKey (o : Opening) (h : HostKey) : List Byte :=
  hkdf (o.nh ++ o.nd) h.key [0x76, 0x7A, 0x68, 0x73, 0x74, byteOf o.key, byteOf o.sess]

/-- OPEN2 (R420, R475). -/
def Dev.open2 (d : Dev) (r : Req) : Dev :=
  if r.len ≠ 8 then d.answerBare r stBadLen []
  else if d.locked then d.answerBare r stAuthErr []
  else match d.host.opening with
    | none => d.openFailed r 0xFF 3
    | some o =>
      match d.hostKey o.key with
      | none => d.openFailed r o.key 2
      | some h =>
        let sk := sessionKey o h
        if o.sess ≥ 8 then d.openFailed r o.key 4
        else if r.payload ≠ (hmac sk ([0x6F, 0x70, 0x65, 0x6E] ++ o.nh ++ o.nd)).take 8 then d.openFailed r o.key 1
        else
          let d := (d.setHost (fun x => { x with opening := none })).setSess o.sess
            (fun _ => ⟨true, o.key, h.perm.toNat, 0, 1, sk⟩)
          let d := d.happen (secEntry 0x0008 [byteOf o.sess, byteOf o.key])
          d.answer o.sess { r with sess := o.sess } stOk ((hmac sk ([0x61, 0x63, 0x6B] ++ o.nd ++ o.nh)).take 8)

/-- CLOSE (R475). -/
def Dev.closeSess (d : Dev) (i : Nat) (r : Req) : Dev :=
  (d.answer i r stOk []).setSess i (fun _ => Session.closed)

/-! Register access (R477) -/

/-- READ. -/
def Dev.portRead (d : Dev) (i : Nat) (r : Req) : Dev :=
  if !d.may i 0 then d.answer i r stDenied []
  else if r.len < 4 ∨ 4096 < r.len ∨ r.len % 4 ≠ 0 then d.answer i r stBadLen []
  else if r.addr % 4 ≠ 0 then d.answer i r stBadAddr []
  else
    let x := d.readWords r.addr (r.len / 4)
    x.2.answer i r stOk x.1

/-- The words of a payload. -/
def payloadWords (bs : List Byte) : List Word :=
  (List.range (bs.length / 4)).map (fun k => BitVec.ofNat 32 (uAt bs (4 * k) 4))

/-- WRITE. The bits of VLT_CMD belong to the IMAGE permission (R420; log entry 34). -/
def Dev.portWrite (d : Dev) (i : Nat) (r : Req) : Dev :=
  let image := decide (r.addr ≤ R.VLT_CMD ∧ R.VLT_CMD < r.addr + r.len)
  if !d.may i 2 ∨ (image ∧ !d.may i 3) then d.answer i r stDenied []
  else if r.len < 4 ∨ 512 < r.len ∨ r.len % 4 ≠ 0 then d.answer i r stBadLen []
  else if r.addr % 4 ≠ 0 then d.answer i r stBadAddr []
  else
    let x := d.writeWords r.sess r.addr (payloadWords r.payload)
    x.1.answer i r (if x.2 then stOk else stBadAddr) []

/-! Commands (R300, R479, R480) -/

/-- The permission that a command needs (R420, R479). -/
def cmdPerm (opc : Nat) : Nat :=
  if opc = 0x22 ∨ opc = 0x31 ∨ opc = 0x32 then 2
  else if opc = 0x33 then 0
  else if opc = 0x34 ∨ opc = 0x35 then 4
  else 1

/-- Whether an entry records a command ID of a session. -/
def Entry.ofCommand (e : Entry) (sess id : Nat) : Bool :=
  e.kind == 0x10 && uAt e.payload 0 4 == id && uAt e.payload 4 2 == sess

/-- Whether a command is queued, latched, or waits for the acceptance of its entry (R300, R480). -/
def Dev.cmdPending (d : Dev) (sess id : Nat) : Bool :=
  let isRef := fun (x : HostRef) => x.sess == sess && x.cmdid.toNat == id
  (List.range 8).any (fun c => (d.queue (40 + c)).any (fun e => e.ref.any isRef))
    || d.turn.arrived.any (fun c => match c.src with | .host x _ => isRef x | _ => false)
    || d.jrn.ing.flatten.any (fun e => e.ofCommand sess id)

/-- The result of a vault command that its session still keeps (R479). -/
def Dev.vaultKept (d : Dev) (sess id : Nat) : Option Nat :=
  (d.host.vaultRes.find? (fun x => x.1 == sess && x.2.1 == id)).map (·.2.2)

/-- ATTEST, OWNTOKEN or ERASE by its OPC. -/
def Dev.vaultCommand (d : Dev) (ref : HostRef) (ok : Bool) (opc : Nat) (args : List Byte) : Dev :=
  if opc = 0x33 then d.attest ref ok (args.take 32)
  else if opc = 0x34 then d.owntoken ref ok (args.take 120)
  else d.erase ref ok

/-- CMD (R300, R478, R479). -/
def Dev.portCmd (d : Dev) (i : Nat) (r : Req) : Dev :=
  let opc := byteAt r.payload 6
  let ok := d.may i (cmdPerm opc)
  let ref : HostRef := ⟨r.sess, BitVec.ofNat 32 r.cmdid, r.hc⟩
  if r.len < 8 ∨ 512 < r.len then d.answer i r stBadLen []
  else if 0x33 ≤ opc ∧ opc ≤ 0x35 then
    match d.vaultKept r.sess r.cmdid with
    | some res => d.answer i r stResult [] res
    | none =>
      let d := d.vaultCommand ref ok opc (r.payload.drop 8)
      if ok then d.answer i r stQueued [] else d.answer i r stResult [] resRefused
  else if !d.holder then d.answer i r stNotActive []
  else match d.replayed r.sess r.cmdid with
    | some res => (d.incF R.JRN_REPLAY F.JRN_REPLAY_REPLAYS).answer i r stResult [] res
    | none =>
      if d.replayStale r.sess r.cmdid then (d.incF R.JRN_REPLAY F.JRN_REPLAY_STALES).answer i r stStale []
      else if d.cmdPending r.sess r.cmdid then d.answer i r stPending []
      else if !d.hasRoom (40 + r.hc) then (d.refuse (40 + r.hc)).answer i r stBusy []
      else
        let bytes := padTo 512 (leBytes 4 r.cmdid ++ leBytes 2 r.sess ++ r.payload.drop 6)
        let e := { d.elem bytes (some ref) with permitted := ok }
        (d.setQueue (40 + r.hc) (d.queue (40 + r.hc) ++ [e])).answer i r stQueued []

/-- POLL (R480). -/
def Dev.portPoll (d : Dev) (i : Nat) (r : Req) : Dev :=
  if !d.may i 0 then d.answer i r stDenied []
  else match (d.replayed r.sess r.cmdid).or (d.vaultKept r.sess r.cmdid) with
    | some res => d.answer i r stResult [] res
    | none => d.answer i r (if d.cmdPending r.sess r.cmdid then stPending else stUnknown) []

/-! Queues and images (R481, R483) -/

/-- Whether the device serves its notification queues: R478, and a DECOMMISSIONED device's journal (R425; log
entry 38). -/
def Dev.servesQueues (d : Dev) : Bool := d.exports

/-- The conditions of QPEEK and QPOP, and what each does with the elements asked for. -/
def Dev.portQueue (d : Dev) (i : Nat) (r : Req) (act : Dev → List QElem → Dev) : Dev :=
  if !d.may i 0 then d.answer i r stDenied []
  else if r.len < 1 ∨ 64 < r.len then d.answer i r stBadLen []
  else if !d.servesQueues then d.answer i r stNotActive []
  else if r.addr < 48 ∨ 55 < r.addr then d.answer i r stBadAddr []
  else act d ((d.queue r.addr).take r.len)

/-- QPEEK (R481). -/
def Dev.portPeek (d : Dev) (i : Nat) (r : Req) : Dev :=
  d.portQueue i r (fun d es => d.answer i r stOk (es.flatMap QElem.bytes))

/-- QPOP (R481): one of more elements than the queue holds tells their number first. -/
def Dev.portPop (d : Dev) (i : Nat) (r : Req) : Dev :=
  d.portQueue i r (fun d es =>
    let head := if es.length < r.len then leBytes 2 es.length else []
    ((List.range es.length).foldl (fun d _ => d.pop r.addr) d).answer i r stOk (head ++ es.flatMap QElem.bytes))

/-- The bytes that an envelope may have (R483). -/
def envelopeMax : Nat := 8388608

/-- Whether the device takes image bytes from its host: R478, and a device without an image (R417, R421; log
entry 35). -/
def Dev.takesImages (d : Dev) : Bool :=
  d.holder || (d.role == 0 && (d.life == 0 || (d.life == 1 && d.rdF R.VLT_STAT F.VLT_STAT_NOIMG == 1)))

/-- IMGLOAD (R483). -/
def Dev.portImage (d : Dev) (i : Nat) (r : Req) : Dev :=
  if !d.may i 3 then d.answer i r stDenied []
  else if r.len < 1 ∨ 4096 < r.len ∨ envelopeMax < r.addr + r.len then d.answer i r stBadLen []
  else if !d.takesImages then d.answer i r stNotActive []
  else (d.imageBytes r.addr r.payload).answer i r stOk []

/-! Commands as they arrive (R35, R242, R262, R335, R479) -/

/-- Whether a command arrives: a host command whose ID is known already is answered, not latched again (R300). -/
def Dev.fresh (d : Dev) (src : CmdSrc) : Bool :=
  match src with
  | .host ref _ => (d.replayed ref.sess ref.cmdid.toNat).isNone && !d.replayStale ref.sess ref.cmdid.toNat
      && !d.cmdPending ref.sess ref.cmdid.toNat
  | _ => true

/-- A command takes its place for the next sample latch of a token holder (R35, R246, R478). -/
def Dev.opCommand (d : Dev) (src : CmdSrc) (opc : Nat) (args : List Byte) : Dev :=
  if d.holder && d.fresh src then d.arrive ⟨src, opc, args⟩ else d

/-! The rows of the port -/

/-- The opcodes of R477. -/
def knownOpcodes : List Nat := [0x01, 0x02, 0x03, 0x10, 0x11, 0x20, 0x21, 0x30, 0x31, 0x40]

/-- The rows: each serves the frames of its own opcode. -/
def Dev.hostOpen1 (d : Dev) (f : List Byte) : Dev := d.requestOpen f 0x01 Dev.open1
def Dev.hostOpen2 (d : Dev) (f : List Byte) : Dev := d.requestOpen f 0x02 Dev.open2
def Dev.hostClose (d : Dev) (f : List Byte) : Dev := d.request f (· == 0x03) Dev.closeSess
def Dev.hostRead (d : Dev) (f : List Byte) : Dev := d.request f (· == 0x10) Dev.portRead
def Dev.hostWrite (d : Dev) (f : List Byte) : Dev := d.request f (· == 0x11) Dev.portWrite
def Dev.hostCmd (d : Dev) (f : List Byte) : Dev := d.request f (· == 0x20) Dev.portCmd
def Dev.hostPoll (d : Dev) (f : List Byte) : Dev := d.request f (· == 0x21) Dev.portPoll
def Dev.hostPeek (d : Dev) (f : List Byte) : Dev := d.request f (· == 0x30) Dev.portPeek
def Dev.hostPop (d : Dev) (f : List Byte) : Dev := d.request f (· == 0x31) Dev.portPop
def Dev.hostImage (d : Dev) (f : List Byte) : Dev := d.request f (· == 0x40) Dev.portImage

/-- BADOPC: a reserved opcode (R477). -/
def Dev.hostBadOpc (d : Dev) (f : List Byte) : Dev :=
  d.request f (fun o => !knownOpcodes.contains o) (fun d i r => d.answer i r stBadOpc [])

/-- TRANSACTION_ABORT (R470): before the CRC is complete nothing happens; during the response only the response
is lost. -/
def Dev.hostAbort (d : Dev) (afterCrc : Bool) : Dev :=
  if afterCrc then d.setHost (fun h => { h with resp := [] }) else d

end Sys2Proof.Machine
end

