-- ==== Sys2Proof/Machine/BelfryRows.lean ====
section
/-!
DEFINITION. The commands of the belfry (chapter 10).
-/
namespace Sys2Proof.Machine

/-- SETDUTY (R262). -/
def execSetduty (src : CmdSrc) (eng : BitVec 8) (s : State) : Host.Outcome State Fault Refusal :=
  .next (s.onDev (fun d => d.whenUp (fun d => d.opCommand src 0x11 [eng])))

/-- ACCEPT (R265). -/
def execAccept (src : CmdSrc) (station : BitVec 8) (s : State) : Host.Outcome State Fault Refusal :=
  .next (s.onDev (fun d => d.whenUp (fun d => d.opCommand src 0x12 [station])))

/-- STATIONACK (R265). -/
def execStationack (src : CmdSrc) (station : BitVec 8) (s : State) : Host.Outcome State Fault Refusal :=
  .next (s.onDev (fun d => d.whenUp (fun d => d.opCommand src 0x13 [station])))

/-- PRESENCE (R262). -/
def execPresence (src : CmdSrc) (eng : BitVec 8) (present : BitVec 8) (s : State) : Host.Outcome State Fault Refusal :=
  .next (s.onDev (fun d => d.whenUp (fun d => d.opCommand src 0x14 [eng, present])))

/-- WATCH (R269). -/
def execWatch (src : CmdSrc) (on : BitVec 8) (s : State) : Host.Outcome State Fault Refusal :=
  .next (s.onDev (fun d => d.whenUp (fun d => d.opCommand src 0x15 [on])))

/-- WATCHRESET (R269). -/
def execWatchreset (src : CmdSrc) (s : State) : Host.Outcome State Fault Refusal :=
  .next (s.onDev (fun d => d.whenUp (fun d => d.opCommand src 0x16 [])))

/-- STATION_PRESS (R264). -/
def execStationPress (k : Fin 8) (s : State) : Host.Outcome State Fault Refusal :=
  .next (s.onDev (fun d => d.whenUp (fun d => d.stationPress k.val)))

/-- WATCH_CONTACT_RESET (R269): whichever contact it was, the watch of the turn's evaluation. -/
def execWatchContactReset (_k : Fin 4) (s : State) : Host.Outcome State Fault Refusal :=
  .next (s.onDev (fun d => d.whenUp (fun d => d.watchDue)))

/-- DUTY_SWITCH_ACT (R261). -/
def execDutySwitchAct (s : State) : Host.Outcome State Fault Refusal :=
  .next (s.onDev (fun d => d.whenUp (fun d => d.dutySwitchAct)))

/-- DUTY_SCHEDULE_ACT (R263). -/
def execDutyScheduleAct (s : State) : Host.Outcome State Fault Refusal :=
  .next (s.onDev (fun d => d.whenUp (fun d => d.dutyScheduleAct)))

/-- CHAIN_ESCALATE (R267). -/
def execChainEscalate (c : Fin 16) (s : State) : Host.Outcome State Fault Refusal :=
  .next (s.onDev (fun d => d.whenUp (fun d => d.chainDue c.val)))

/-- CHAIN_REARM (R267). -/
def execChainRearm (c : Fin 16) (s : State) : Host.Outcome State Fault Refusal :=
  .next (s.onDev (fun d => d.whenUp (fun d => d.chainDue c.val)))

/-- WATCH_PRE (R269). -/
def execWatchPre (s : State) : Host.Outcome State Fault Refusal :=
  .next (s.onDev (fun d => d.whenUp (fun d => d.watchDue)))

/-- WATCH_EXPIRE (R269). -/
def execWatchExpire (s : State) : Host.Outcome State Fault Refusal :=
  .next (s.onDev (fun d => d.whenUp (fun d => d.watchDue)))

end Sys2Proof.Machine
end

