-- ==== Sys2Proof/Machine/BusRows.lean ====
section
/-!
DEFINITION. The commands of the message bus (chapter 12).
-/
namespace Sys2Proof.Machine

/-- CAN_FRAME_RECEIVED (R318). -/
def execCanFrameReceived (ch : Fin 4) (stamp : Word) (esi : Bool) (frame : Frame) (s : State) : Host.Outcome State Fault Refusal :=
  .next (s.onDev (fun d => d.whenUp (fun d => d.canFrame ch.val stamp esi frame)))

/-- TX_BUFFER_LOAD (R322). -/
def execTxBufferLoad (ch : Fin 4) (k : Fin 3) (s : State) : Host.Outcome State Fault Refusal :=
  .next (s.onDev (fun d => d.whenUp (fun d => d.txLoad ch.val k.val)))

/-- TX_COMPLETE (R336). -/
def execTxComplete (ch : Fin 4) (k : Fin 3) (stamp : Word) (s : State) : Host.Outcome State Fault Refusal :=
  .next (s.onDev (fun d => d.whenUp (fun d => d.txComplete ch.val k.val stamp)))

/-- TX_ERROR (R323). -/
def execTxError (ch : Fin 4) (k : Fin 3) (lec : BitVec 3) (arb quiet : Bool) (s : State) : Host.Outcome State Fault Refusal :=
  .next (s.onDev (fun d => d.whenUp (fun d => d.txError ch.val k.val lec arb quiet)))

/-- BUSOFF_RECOVERY (R323). -/
def execBusoffRecovery (ch : Fin 4) (s : State) : Host.Outcome State Fault Refusal :=
  .next (s.onDev (fun d => d.whenUp (fun d => d.busoffRecovery ch.val)))

/-- CAN_RX_ERROR (R345). -/
def execCanRxError (ch : Fin 4) (lec : BitVec 3) (primary : Bool) (s : State) : Host.Outcome State Fault Refusal :=
  .next (s.onDev (fun d => d.whenUp (fun d => d.canRxError ch.val lec primary)))

/-- TXCANCEL (R324). -/
def execTxcancel (ch : Fin 4) (cmdid : Word) (phase : Fin 4) (s : State) : Host.Outcome State Fault Refusal :=
  .next (s.onDev (fun d => d.whenUp (fun d => d.txCancel ch.val cmdid.toNat phase.val)))

/-- RXWIN_LOCK (R320). -/
def execRxwinLock (ch : Fin 4) (s : State) : Host.Outcome State Fault Refusal :=
  .next (s.onDev (fun d => d.whenUp (fun d => d.rxLock ch.val)))

/-- RXWIN_RELEASE (R320). -/
def execRxwinRelease (ch : Fin 4) (s : State) : Host.Outcome State Fault Refusal :=
  .next (s.onDev (fun d => d.whenUp (fun d => d.rxRelease ch.val)))

/-- RXUNLOCK (R320). -/
def execRxunlock (ch : Fin 4) (s : State) : Host.Outcome State Fault Refusal :=
  .next (s.onDev (fun d => d.whenUp (fun d => d.rxUnlock ch.val)))

/-- BACKLOG_PLACE (R336). -/
def execBacklogPlace (ch : Fin 4) (s : State) : Host.Outcome State Fault Refusal :=
  .next (s.onDev (fun d => d.whenUp (fun d => d.backlogPlace ch.val)))

/-- MARK_LO_READ (R336). -/
def execMarkLoRead (ch : Fin 4) (s : State) : Host.Outcome State Fault Refusal :=
  .next (s.onDev (fun d => d.whenUp (fun d => d.markLoRead ch.val)))

/-- REMOTE_POINT_STALE (R334). -/
def execRemotePointStale (p : Fin 4096) (s : State) : Host.Outcome State Fault Refusal :=
  .next (s.onDev (fun d => d.whenUp (fun d => d.remoteStale p.val)))

/-- CAN_WAKE (R341). -/
def execCanWake (w : WakeSeen) (s : State) : Host.Outcome State Fault Refusal :=
  .next (s.onDev (fun d => d.canWake w.ch.val w.dominant.toNat w.frame))

/-- CAN_INTEGRATED (R342). -/
def execCanIntegrated (ch : Fin 4) (s : State) : Host.Outcome State Fault Refusal :=
  .next (s.onDev (fun d => d.whenUp (fun d => d.canIntegrated ch.val)))

/-- CANFRAME (R479). -/
def execCanframe (ref : HostRef) (ok : Bool) (ch flags : BitVec 8) (id : Word) (data : List Byte) (s : State) : Host.Outcome State Fault Refusal :=
  .next (s.onDev (fun d => d.whenUp (fun d => d.opCommand (.host ref ok) 0x32 ([ch, flags] ++ leBytes 4 id.toNat ++ byteOf data.length :: data))))

end Sys2Proof.Machine
end

