-- ==== Sys2Proof/Machine/ChargeRows.lean ====
section
/-!
DEFINITION. The commands of the charge channels (chapter 05).
-/
namespace Sys2Proof.Machine

/-- WINOPEN (R136). -/
def execWinopen (n : Fin 12) (arg : BitVec 8) (late : Bool) (s : State) : Host.Outcome State Fault Refusal :=
  .next (s.onDev (fun d => d.whenUp (fun d =>
    d.whenRuns 2 (64 + n.val) (some arg.toNat) none (fun d => (d.lateMark late).qWinOpen n.val arg.toNat late))))

/-- WINCLOSE (R136). -/
def execWinclose (n : Fin 12) (arg : BitVec 8) (late : Bool) (s : State) : Host.Outcome State Fault Refusal :=
  .next (s.onDev (fun d => d.whenUp (fun d =>
    d.whenRuns 3 (64 + n.val) (some arg.toNat) none (fun d => (d.lateMark late).qWinClose n.val arg.toNat late))))

/-- QRESET (R145). -/
def execQreset (n : Fin 12) (fb late : Bool) (s : State) : Host.Outcome State Fault Refusal :=
  .next (s.onDev (fun d => d.whenUp (fun d =>
    d.whenRuns 4 (64 + n.val) none (some fb) (fun d => (d.lateMark late).qReset n.val fb late))))

/-- RANGE (R143). -/
def execRange (n : Fin 12) (fb late : Bool) (s : State) : Host.Outcome State Fault Refusal :=
  .next (s.onDev (fun d => d.whenUp (fun d =>
    d.whenRuns 5 (64 + n.val) none (some fb) (fun d => (d.lateMark late).qRange n.val fb late))))

/-- CYCLE (R147). -/
def execCycle (n : Fin 12) (late : Bool) (s : State) : Host.Outcome State Fault Refusal :=
  .next (s.onDev (fun d => d.whenUp (fun d =>
    d.whenRuns 6 (64 + n.val) none none (fun d => (d.lateMark late).qCycle n.val late))))

/-- GRID_POINT (R137). -/
def execGridPoint (n : Fin 12) (j : Nat) (s : State) : Host.Outcome State Fault Refusal :=
  .next (s.onDev (fun d => d.whenUp (fun d => d.gridPoint n.val j)))

/-- TIME_SAMPLE (R138). -/
def execTimeSample (n : Fin 12) (s : State) : Host.Outcome State Fault Refusal :=
  .next (s.onDev (fun d => d.whenUp (fun d => d.timeSample n.val)))

/-- QCH_CONVERSION_DONE (R140). -/
def execQchConversionDone (n : Fin 12) (code : BitVec 16) (ovl : Bool) (s : State) : Host.Outcome State Fault Refusal :=
  .next (s.onDev (fun d => d.whenUp (fun d => d.qConvDone n.val code ovl)))

/-- RANGE_RESET_END (R143). -/
def execRangeResetEnd (n : Fin 12) (s : State) : Host.Outcome State Fault Refusal :=
  .next (s.onDev (fun d => d.whenUp (fun d => d.qRangeEnd n.val)))

/-- CYCLE_COMPUTED (R147). -/
def execCycleComputed (n : Fin 12) (s : State) : Host.Outcome State Fault Refusal :=
  .next (s.onDev (fun d => d.whenUp (fun d => d.qComputed n.val)))

/-- TEST_SEQUENCE_DONE (R146). -/
def execTestSequenceDone (n : Fin 12) (c0 c1a c1 c2 : BitVec 16) (s : State) : Host.Outcome State Fault Refusal :=
  .next (s.onDev (fun d => d.whenUp (fun d => d.qTestDone n.val c0 c1a c1 c2)))

/-- FEED_ELEMENT (R359). -/
def execFeedElement (bytes : List Byte) (s : State) : Host.Outcome State Fault Refusal :=
  .next (s.onDev (fun d => d.whenUp (fun d => d.qFeedIn bytes)))

end Sys2Proof.Machine
end

