-- ==== Sys2Proof/Machine/ContactRows.lean ====
section
/-!
DEFINITION. The commands of the contacts and actuated outputs (chapter 08).
-/
namespace Sys2Proof.Machine

/-- CONTACT_ACCEPT (R214): the samples up to the one that accepts a state. -/
def execContactAccept (n : Fin 32) (before : List Int) (last : Int) (s : State) : Host.Outcome State Fault Refusal :=
  .next (s.onDev (fun d => d.whenUp (fun d => d.diRun n.val (before ++ [last]))))

/-- LINE_FAULT (R214): the samples up to the one that declares the fault. -/
def execLineFault (n : Fin 32) (before : List Int) (last : Int) (s : State) : Host.Outcome State Fault Refusal :=
  .next (s.onDev (fun d => d.whenUp (fun d => d.diRun n.val (before ++ [last]))))

/-- CONTACT_CLAMP (R214). -/
def execContactClamp (n : Fin 32) (on : Bool) (s : State) : Host.Outcome State Fault Refusal :=
  .next (s.onDev (fun d => d.whenUp (fun d => d.diClamp n.val on)))

/-- FEEDBACK_TIMEOUT (R219). -/
def execFeedbackTimeout (m : Fin 32) (mismatch : Bool) (s : State) : Host.Outcome State Fault Refusal :=
  .next (s.onDev (fun d => d.whenUp (fun d => d.doFeedback m.val mismatch)))

/-- PULSE_TEST_START (R220). -/
def execPulseTestStart (m : Fin 32) (s : State) : Host.Outcome State Fault Refusal :=
  .next (s.onDev (fun d => d.whenUp (fun d => d.ptStart m.val)))

/-- PULSE_TEST_END (R220). -/
def execPulseTestEnd (m : Fin 32) (fb : Bool) (s : State) : Host.Outcome State Fault Refusal :=
  .next (s.onDev (fun d => d.whenUp (fun d => d.ptEnd m.val fb)))

/-- PULSE_TEST_VERDICT (R220). -/
def execPulseTestVerdict (m : Fin 32) (fb : Bool) (s : State) : Host.Outcome State Fault Refusal :=
  .next (s.onDev (fun d => d.whenUp (fun d => d.ptVerdict m.val fb)))

/-- HOSTSET_WRITE (R218). -/
def execHostsetWrite (sess : Nat) (reg31 : Bool) (value : Word) (s : State) : Host.Outcome State Fault Refusal :=
  .next (s.onDev (fun d => d.whenUp (fun d => d.hostsetWrite sess reg31 value)))

end Sys2Proof.Machine
end

