-- ==== Sys2Proof/Machine/DomeRows.lean ====
section
/-!
DEFINITION. The commands of the backup dome (chapter 16).
-/
namespace Sys2Proof.Machine

/-- DOME_SUPPLY_SWITCH (R430). -/
def execDomeSupplySwitch (onbat : Bool) (s : State) : Host.Outcome State Fault Refusal :=
  .next (s.onDev (fun d => d.domSupply onbat))

/-- DOME_RETENTION_LOSS (R431). -/
def execDomeRetentionLoss (s : State) : Host.Outcome State Fault Refusal :=
  .next (s.onDev (fun d => d.domLost))

/-- OSC_STOP (R433). -/
def execOscStop (s : State) : Host.Outcome State Fault Refusal :=
  .next (s.onDev (fun d => d.oscStop))

/-- OSC_RESTART (R433). -/
def execOscRestart (s : State) : Host.Outcome State Fault Refusal :=
  .next (s.onDev (fun d => d.oscRestart))

/-- SET (R437). -/
def execSet (sess : Nat) (hi : BitVec 16) (s : State) : Host.Outcome State Fault Refusal :=
  .next (s.onDev (fun d => d.whenUp (fun d => d.domSet sess hi)))

/-- ZONE (R437). -/
def execZone (sess : Nat) (zone : BitVec 12) (s : State) : Host.Outcome State Fault Refusal :=
  .next (s.onDev (fun d => d.whenUp (fun d => d.domZoneWrite sess zone)))

/-- HOUR_ADD (R437). -/
def execHourAdd (s : State) : Host.Outcome State Fault Refusal :=
  .next (s.onDev (fun d => d.whenUp (fun d => d.domZcmd 1)))

/-- HOUR_SUB (R437). -/
def execHourSub (s : State) : Host.Outcome State Fault Refusal :=
  .next (s.onDev (fun d => d.whenUp (fun d => d.domZcmd 2)))

/-- SHIFT (R437). -/
def execShift (value : BitVec 16) (s : State) : Host.Outcome State Fault Refusal :=
  .next (s.onDev (fun d => d.whenUp (fun d => d.domShift value)))

/-- SLEW_INCREMENT (R438). -/
def execSlewIncrement (s : State) : Host.Outcome State Fault Refusal :=
  .next (s.onDev (fun d => d.domSlew))

/-- CAPTURE (R436). -/
def execCapture (s : State) : Host.Outcome State Fault Refusal :=
  .next (s.onDev (fun d => d.whenUp (fun d => d.domCapture)))

/-- TICK_LO_READ (R436). -/
def execTickLoRead (s : State) : Host.Outcome State Fault Refusal :=
  .next (s.onDev (fun d => d.whenUp (fun d => d.domTickRead)))

/-- ALARM_ARM (R439). -/
def execAlarmArm (a : Fin 2) (hi : BitVec 16) (s : State) : Host.Outcome State Fault Refusal :=
  .next (s.onDev (fun d => d.whenUp (fun d => d.domArm a.val hi)))

/-- ALARM_FIRE (R439). -/
def execAlarmFire (a : Fin 2) (s : State) : Host.Outcome State Fault Refusal :=
  .next (s.onDev (fun d => d.domAlarm false a.val))

/-- BATLOW (R445). -/
def execBatlow (vbat : BitVec 16) (s : State) : Host.Outcome State Fault Refusal :=
  .next (s.onDev (fun d => d.whenUp (fun d => d.domBat vbat)))

end Sys2Proof.Machine
end

