-- ==== Sys2Proof/Machine/ExcitationRows.lean ====
section
/-!
DEFINITION. The commands of the excitation channels (chapter 06).
-/
namespace Sys2Proof.Machine

/-- DRIVE_PERIOD_END (R170). -/
def execDrivePeriodEnd (n : Fin 8) (samples : List (BitVec 16 × BitVec 16 × BitVec 16)) (irms : BitVec 16) (limit : Fin 3) (lockPhase : Word) (err : Nat) (s : State) : Host.Outcome State Fault Refusal :=
  .next (s.onDev (fun d => d.whenUp (fun d => d.xPeriod n.val samples irms limit.val lockPhase err)))

/-- DEMOD_PERIOD_END (R172). -/
def execDemodPeriodEnd (n : Fin 8) (s : State) : Host.Outcome State Fault Refusal :=
  .next (s.onDev (fun d => d.whenUp (fun d => d.xDemod n.val)))

/-- TRIM_WRITE (R179). -/
def execTrimWrite (n : Fin 8) (value : BitVec 16) (s : State) : Host.Outcome State Fault Refusal :=
  .next (s.onDev (fun d => d.whenUp (fun d => d.xTrimWrite n.val value)))

end Sys2Proof.Machine
end

