-- ==== Sys2Proof/Machine/HostRows.lean ====
section
/-!
DEFINITION. The commands of the host port (chapter 18).
-/
namespace Sys2Proof.Machine

/-- WRITE (R477). -/
def execWrite (frame : List Byte) (s : State) : Host.Outcome State Fault Refusal :=
  .next (s.onDev (fun d => d.whenUp (fun d => d.hostWrite frame)))

/-- OPEN1 (R475). -/
def execOpen1 (frame : List Byte) (s : State) : Host.Outcome State Fault Refusal :=
  .next (s.onDev (fun d => d.whenUp (fun d => d.hostOpen1 frame)))

/-- OPEN2 (R475). -/
def execOpen2 (frame : List Byte) (s : State) : Host.Outcome State Fault Refusal :=
  .next (s.onDev (fun d => d.whenUp (fun d => d.hostOpen2 frame)))

/-- CLOSE (R475). -/
def execClose (frame : List Byte) (s : State) : Host.Outcome State Fault Refusal :=
  .next (s.onDev (fun d => d.whenUp (fun d => d.hostClose frame)))

/-- READ (R477). -/
def execRead (frame : List Byte) (s : State) : Host.Outcome State Fault Refusal :=
  .next (s.onDev (fun d => d.whenUp (fun d => d.hostRead frame)))

/-- CMD (R479). -/
def execCmd (frame : List Byte) (s : State) : Host.Outcome State Fault Refusal :=
  .next (s.onDev (fun d => d.whenUp (fun d => d.hostCmd frame)))

/-- POLL (R480). -/
def execPoll (frame : List Byte) (s : State) : Host.Outcome State Fault Refusal :=
  .next (s.onDev (fun d => d.whenUp (fun d => d.hostPoll frame)))

/-- QPEEK (R481). -/
def execQpeek (frame : List Byte) (s : State) : Host.Outcome State Fault Refusal :=
  .next (s.onDev (fun d => d.whenUp (fun d => d.hostPeek frame)))

/-- QPOP (R481). -/
def execQpop (frame : List Byte) (s : State) : Host.Outcome State Fault Refusal :=
  .next (s.onDev (fun d => d.whenUp (fun d => d.hostPop frame)))

/-- BADOPC (R477). -/
def execBadopc (frame : List Byte) (s : State) : Host.Outcome State Fault Refusal :=
  .next (s.onDev (fun d => d.whenUp (fun d => d.hostBadOpc frame)))

/-- TRANSACTION_ABORT (R470). -/
def execTransactionAbort (afterCrc : Bool) (s : State) : Host.Outcome State Fault Refusal :=
  .next (s.onDev (fun d => d.whenUp (fun d => d.hostAbort afterCrc)))

end Sys2Proof.Machine
end

