-- ==== Sys2Proof/Machine/JournalRows.lean ====
section
/-!
DEFINITION. The commands of the journal (chapter 11).
-/
namespace Sys2Proof.Machine

/-- LEDGER_DRAIN (R294). -/
def execLedgerDrain (s : State) : Host.Outcome State Fault Refusal :=
  .next (s.onDev (fun d => d.whenUp (fun d => d.drain)))

/-- CHECKPOINT_SIGNED (R290). -/
def execCheckpointSigned (s : State) : Host.Outcome State Fault Refusal :=
  .next (s.onDev (fun d => d.whenUp (fun d => d.checkpointSigned)))

/-- SEAL_WRITE (R295). -/
def execSealWrite (us : BitVec 10) (s : State) : Host.Outcome State Fault Refusal :=
  .next (s.onDev (fun d => d.whenUp (fun d => d.sealWrite us)))

/-- JOURNAL_EXPORT (R302). -/
def execJournalExport (s : State) : Host.Outcome State Fault Refusal :=
  .next (s.onDev (fun d => d.whenUp (fun d => d.exportAll)))

/-- EXPACK_WRITE (R303). -/
def execExpackWrite (seqlo : BitVec 30) (s : State) : Host.Outcome State Fault Refusal :=
  .next (s.onDev (fun d => d.whenUp (fun d => d.expackWrite 0 (BitVec.ofNat 32 seqlo.toNat))))

/-- POOL_CLR (R297). -/
def execPoolClr (s : State) : Host.Outcome State Fault Refusal :=
  .next (s.onDev (fun d => d.whenUp (fun d => d.poolClr)))

/-- HOLDCNT_CLR (R298). -/
def execHoldcntClr (s : State) : Host.Outcome State Fault Refusal :=
  .next (s.onDev (fun d => d.whenUp (fun d => d.holdcntClr)))

/-- HEAD_LO_READ (R283). -/
def execHeadLoRead (s : State) : Host.Outcome State Fault Refusal :=
  .next (s.onDev (fun d => d.whenUp (fun d => d.headLoRead)))

/-- WMARK_LO_READ (R283). -/
def execWmarkLoRead (s : State) : Host.Outcome State Fault Refusal :=
  .next (s.onDev (fun d => d.whenUp (fun d => d.wmarkLoRead)))

/-- CKPT_LO_READ (R290). -/
def execCkptLoRead (s : State) : Host.Outcome State Fault Refusal :=
  .next (s.onDev (fun d => d.whenUp (fun d => d.ckptLoRead)))

end Sys2Proof.Machine
end

