-- ==== Sys2Proof/Machine/LatticeRows.lean ====
section
/-!
DEFINITION. The commands of the alarm lattice (chapters 09 and 10).
-/
namespace Sys2Proof.Machine

/-- ACK (R240). -/
def execAck (src : CmdSrc) (point : BitVec 16) (kind : BitVec 8) (s : State) : Host.Outcome State Fault Refusal :=
  .next (s.onDev (fun d => d.whenUp (fun d => d.opCommand src 0x01 (leBytes 2 point.toNat ++ [kind]))))

/-- ACKPOINT (R242). -/
def execAckpoint (src : CmdSrc) (point : BitVec 16) (s : State) : Host.Outcome State Fault Refusal :=
  .next (s.onDev (fun d => d.whenUp (fun d => d.opCommand src 0x02 (leBytes 2 point.toNat))))

/-- INHIBIT (R237). -/
def execInhibit (src : CmdSrc) (point : BitVec 16) (mask : BitVec 9) (s : State) : Host.Outcome State Fault Refusal :=
  .next (s.onDev (fun d => d.whenUp (fun d => d.opCommand src 0x03 (leBytes 2 point.toNat ++ leBytes 2 mask.toNat))))

/-- UNINHIBIT (R242). -/
def execUninhibit (src : CmdSrc) (point : BitVec 16) (mask : BitVec 9) (s : State) : Host.Outcome State Fault Refusal :=
  .next (s.onDev (fun d => d.whenUp (fun d => d.opCommand src 0x04 (leBytes 2 point.toNat ++ leBytes 2 mask.toNat))))

/-- OOS (R237). -/
def execOos (src : CmdSrc) (point : BitVec 16) (s : State) : Host.Outcome State Fault Refusal :=
  .next (s.onDev (fun d => d.whenUp (fun d => d.opCommand src 0x05 (leBytes 2 point.toNat))))

/-- RTS (R242). -/
def execRts (src : CmdSrc) (point : BitVec 16) (s : State) : Host.Outcome State Fault Refusal :=
  .next (s.onDev (fun d => d.whenUp (fun d => d.opCommand src 0x06 (leBytes 2 point.toNat))))

/-- WRITEPT (R245). -/
def execWritept (src : CmdSrc) (point : BitVec 16) (value : BitVec 32) (status : BitVec 8) (s : State) : Host.Outcome State Fault Refusal :=
  .next (s.onDev (fun d => d.whenUp (fun d => d.opCommand src 0x07 (leBytes 2 point.toNat ++ leBytes 4 value.toNat ++ [status]))))

/-- HOST_POINT_STALE (R245). -/
def execHostPointStale (h : Fin 512) (s : State) : Host.Outcome State Fault Refusal :=
  .next (s.onDev (fun d => d.whenUp (fun d => d.hostPointStale h.val)))

/-- ALARM_DELAY_EXPIRE (R234). -/
def execAlarmDelayExpire (p : Fin 4096) (k : Fin 9) (s : State) : Host.Outcome State Fault Refusal :=
  .next (s.onDev (fun d => d.whenUp (fun d => d.alarmDelay p.val k.val)))

/-- RATE_WINDOW (R234). -/
def execRateWindow (p : Fin 4096) (s : State) : Host.Outcome State Fault Refusal :=
  .next (s.onDev (fun d => d.whenUp (fun d => d.rateWindow p.val)))

/-- TIMER_CELL_EXPIRE (R258). -/
def execTimerCellExpire (t : Fin 2048) (s : State) : Host.Outcome State Fault Refusal :=
  .next (s.onDev (fun d => d.whenUp (fun d => d.timerExpire t.val)))

end Sys2Proof.Machine
end

