-- ==== Sys2Proof/Machine/LoopRows.lean ====
section
/-!
DEFINITION. The commands of the current loops and HART (chapter 07).
-/
namespace Sys2Proof.Machine

/-- LOOP_CONVERSION_END (R185). -/
def execLoopConversionEnd (n : Fin 16) (raw isup : Int) (limUs : Nat) (s : State) : Host.Outcome State Fault Refusal :=
  .next (s.onDev (fun d => d.whenUp (fun d => d.lConvEnd n.val raw isup limUs)))

/-- TSTART_END (R193). -/
def execTstartEnd (n : Fin 16) (s : State) : Host.Outcome State Fault Refusal :=
  .next (s.onDev (fun d => d.whenUp (fun d => d.lTstartEnd n.val)))

/-- LOP_CLAMP (R183). -/
def execLopClamp (n : Fin 20) (s : State) : Host.Outcome State Fault Refusal :=
  .next (s.onDev (fun d => d.whenUp (fun d => d.lClamp n.val)))

/-- HART_TRANSACTION_START (R197). -/
def execHartTransactionStart (n : Fin 16) (s : State) : Host.Outcome State Fault Refusal :=
  .next (s.onDev (fun d => d.whenUp (fun d => d.hartStart n.val)))

/-- HART_FRAME_RECEIVED (R198). -/
def execHartFrameReceived (n : Fin 16) (frame : List Byte) (bad : Bool) (s : State) : Host.Outcome State Fault Refusal :=
  .next (s.onDev (fun d => d.whenUp (fun d => d.hartFrame n.val frame bad)))

/-- HART_RESPONSE_TIMEOUT (R197). -/
def execHartResponseTimeout (n : Fin 16) (s : State) : Host.Outcome State Fault Refusal :=
  .next (s.onDev (fun d => d.whenUp (fun d => d.hartTimeout n.val)))

/-- HART_POLL (R198). -/
def execHartPoll (n : Fin 16) (s : State) : Host.Outcome State Fault Refusal :=
  .next (s.onDev (fun d => d.whenUp (fun d => d.hartPoll n.val)))

/-- HART_STALE (R199). -/
def execHartStale (n : Fin 16) (s : State) : Host.Outcome State Fault Refusal :=
  .next (s.onDev (fun d => d.whenUp (fun d => d.hartStale n.val)))

/-- HARTCMD (R200). -/
def execHartcmd (ref : HostRef) (ok : Bool) (n : BitVec 8) (elem : List Byte) (s : State) : Host.Outcome State Fault Refusal :=
  .next (s.onDev (fun d => d.whenUp (fun d => d.opCommand (.host ref ok) 0x31 (byteOf n.toNat :: elem))))

/-- OSET_WRITE (R204). -/
def execOsetWrite (sess : Nat) (n : Fin 4) (value : BitVec 15) (s : State) : Host.Outcome State Fault Refusal :=
  .next (s.onDev (fun d => d.whenUp (fun d => d.osetWrite sess n.val value)))

/-- COMPL_TIMER (R205). -/
def execComplTimer (n : Fin 4) (deviates : Bool) (actual : BitVec 16) (s : State) : Host.Outcome State Fault Refusal :=
  .next (s.onDev (fun d => d.whenUp (fun d => d.loCompl n.val deviates actual)))

end Sys2Proof.Machine
end

