-- ==== Sys2Proof/Machine/PairRows.lean ====
section
/-!
DEFINITION. The commands of the pair and of castling (chapter 13).
-/
namespace Sys2Proof.Machine

/-- TOKEN_FREE (R373). -/
def execTokenFree (granted : Bool) (s : State) : Host.Outcome State Fault Refusal :=
  .next (s.onDev (fun d => d.whenUp (fun d => d.tokenFree granted)))

/-- PAIR_HOLD_RELEASE (R371). -/
def execPairHoldRelease (s : State) : Host.Outcome State Fault Refusal :=
  .next (s.onDev (fun d => d.holdRelease))

/-- ROLE_MSG (R349). -/
def execRoleMsg (bytes : List Byte) (s : State) : Host.Outcome State Fault Refusal :=
  .next (s.onDev (fun d => d.whenUp (fun d => d.roleMsg bytes)))

/-- LINK_TRAINING_DONE (R354). -/
def execLinkTrainingDone (lanes : BitVec 2) (auth : List Byte) (s : State) : Host.Outcome State Fault Refusal :=
  .next (s.onDev (fun d => d.whenUp (fun d => d.linkTrainingDone lanes auth)))

/-- LINK_LOST (R357). -/
def execLinkLost (s : State) : Host.Outcome State Fault Refusal :=
  .next (s.onDev (fun d => d.whenUp (fun d => d.linkLostRow)))

/-- LANE_DEGRADED (R357). -/
def execLaneDegraded (lane : Fin 2) (s : State) : Host.Outcome State Fault Refusal :=
  .next (s.onDev (fun d => d.whenUp (fun d => d.laneDegraded lane.val)))

/-- LINK_BLOCK_RECEIVED (R355). -/
def execLinkBlockReceived (q : Fin 4) (seq : BitVec 16) (crcOk : Bool) (bytes : List Byte) (ack : Option (BitVec 16)) (s : State) : Host.Outcome State Fault Refusal :=
  .next (s.onDev (fun d => d.whenUp (fun d => d.linkBlock q.val seq crcOk bytes ack)))

/-- LINK_BLOCK_TIMEOUT (R355). -/
def execLinkBlockTimeout (q : Fin 4) (s : State) : Host.Outcome State Fault Refusal :=
  .next (s.onDev (fun d => d.whenUp (fun d => d.blockTimeout q.val)))

/-- TURN_START_SET (R356). -/
def execTurnStartSet (turn : BitVec 16) (s : State) : Host.Outcome State Fault Refusal :=
  .next (s.onDev (fun d => d.whenUp (fun d => d.turnStart turn)))

/-- INPUT_DELTA (R360). -/
def execInputDelta (image : InImage) (rel : List Release) (s : State) : Host.Outcome State Fault Refusal :=
  .next (s.onDev (fun d => d.whenUp (fun d => d.inputDelta image rel)))

/-- COMMITEND (R360). -/
def execCommitend (turn : BitVec 48) (entries : List (List Byte)) (digest : List Byte) (s : State) : Host.Outcome State Fault Refusal :=
  .next (s.onDev (fun d => d.whenUp (fun d => d.commitEnd turn.toNat entries digest)))

/-- ACK_MSG (R362). -/
def execAckMsg (bytes : List Byte) (s : State) : Host.Outcome State Fault Refusal :=
  .next (s.onDev (fun d => d.whenUp (fun d => d.ackMsg bytes)))

/-- NAK_MSG (R368). -/
def execNakMsg (bytes : List Byte) (s : State) : Host.Outcome State Fault Refusal :=
  .next (s.onDev (fun d => d.whenUp (fun d => d.nakMsg bytes)))

/-- MIRROR_BLOCK (R363). -/
def execMirrorBlock (turn : BitVec 48) (mirror : Mirror) (s : State) : Host.Outcome State Fault Refusal :=
  .next (s.onDev (fun d => d.whenUp (fun d => d.mirrorBlock turn.toNat mirror)))

/-- HEALTH_MSG (R391). -/
def execHealthMsg (bytes : List Byte) (s : State) : Host.Outcome State Fault Refusal :=
  .next (s.onDev (fun d => d.whenUp (fun d => d.healthMsg bytes)))

/-- HEALTH_TIMEOUT (R367). -/
def execHealthTimeout (s : State) : Host.Outcome State Fault Refusal :=
  .next (s.onDev (fun d => d.whenUp (fun d => d.healthTimeout)))

/-- FAST_SELFTEST_DONE (R369). -/
def execFastSelftestDone (res : BitVec 6) (s : State) : Host.Outcome State Fault Refusal :=
  .next (s.onDev (fun d => d.whenUp (fun d => d.selftestDone res)))

/-- STRES_MSG (R370). -/
def execStresMsg (bytes : List Byte) (s : State) : Host.Outcome State Fault Refusal :=
  .next (s.onDev (fun d => d.whenUp (fun d => d.stresMsg bytes)))

/-- CASTLING_DECIDE (R370). -/
def execCastlingDecide (s : State) : Host.Outcome State Fault Refusal :=
  .next (s.onDev (fun d => d.whenUp (fun d => d.castlingDecide)))

/-- YIELD_MSG (R377). -/
def execYieldMsg (bytes : List Byte) (s : State) : Host.Outcome State Fault Refusal :=
  .next (s.onDev (fun d => d.whenUp (fun d => d.yieldMsg bytes)))

/-- RESETCMD_MSG (R367). -/
def execResetcmdMsg (s : State) : Host.Outcome State Fault Refusal :=
  .next (s.onDev (fun d => d.whenUp (fun d => d.resetcmdMsg)))

/-- HAPPEN_MSG (R293). -/
def execHappenMsg (kind : BitVec 8) (payload : List Byte) (s : State) : Host.Outcome State Fault Refusal :=
  .next (s.onDev (fun d => d.whenUp (fun d => d.happenMsg kind payload)))

/-- HEARTBEAT_LOSS (R375). -/
def execHeartbeatLoss (s : State) : Host.Outcome State Fault Refusal :=
  .next (s.onDev (fun d => d.whenUp (fun d => d.heartbeatLoss)))

/-- START_CLAIM (R379). -/
def execStartClaim (lineFree idHigh : Bool) (peerNext : BitVec 48) (s : State) : Host.Outcome State Fault Refusal :=
  .next (s.onDev (fun d => d.whenUp (fun d => d.startClaim lineFree idHigh peerNext)))

/-- REJOIN_STATE (R380). -/
def execRejoinState (mirror : Mirror) (agreed : BitVec 48) (tail : List LEntry) (dups : List (Nat × Nat × Nat × Nat)) (marks : List Nat) (s : State) : Host.Outcome State Fault Refusal :=
  .next (s.onDev (fun d => d.whenUp (fun d => d.rejoinState mirror agreed.toNat tail (dups.map (fun x => ⟨x.1, x.2.1, x.2.2.1, x.2.2.2⟩)) marks)))

/-- REJOIN_CUTOVER (R380). -/
def execRejoinCutover (turn agreed : BitVec 48) (pool : List (List Entry)) (s : State) : Host.Outcome State Fault Refusal :=
  .next (s.onDev (fun d => d.whenUp (fun d => d.rejoinCutover turn.toNat agreed.toNat pool)))

/-- HANDOVER (R377). -/
def execHandover (sess : Nat) (s : State) : Host.Outcome State Fault Refusal :=
  .next (s.onDev (fun d => d.whenUp (fun d => d.handover sess)))

end Sys2Proof.Machine
end

