-- ==== Sys2Proof/Machine/PanelRows.lean ====
section
/-!
DEFINITION. The commands of the panel driver (chapter 17).
-/
namespace Sys2Proof.Machine

/-- PANEL_FRAME (R457). -/
def execPanelFrame (vlcd : BitVec 16) (s : State) : Host.Outcome State Fault Refusal :=
  .next (s.onDev (fun d => d.whenUp (fun d => d.pnlFrame vlcd)))

/-- UPDATE_COMPLETE (R458). -/
def execUpdateComplete (r : Fin 16) (s : State) : Host.Outcome State Fault Refusal :=
  .next (s.onDev (fun d => d.whenUp (fun d => d.pnlComplete r.val)))

/-- TPAN_SAMPLE (R450). -/
def execTpanSample (code : BitVec 12) (s : State) : Host.Outcome State Fault Refusal :=
  .next (s.onDev (fun d => d.whenUp (fun d => d.pnlTpan code)))

/-- VLCD_FAULT (R451). -/
def execVlcdFault (fault : Bool) (vmeas : BitVec 16) (s : State) : Host.Outcome State Fault Refusal :=
  .next (s.onDev (fun d => d.whenUp (fun d => d.pnlVflt fault vmeas)))

/-- CRACK (R463). -/
def execCrack (rcrk : BitVec 16) (s : State) : Host.Outcome State Fault Refusal :=
  .next (s.onDev (fun d => d.whenUp (fun d => d.pnlCrack rcrk)))

/-- PANEL_REQUEST (R456). -/
def execPanelRequest (k : Fin 4) (s : State) : Host.Outcome State Fault Refusal :=
  .next (s.onDev (fun d => d.whenUp (fun d => d.pnlRequest k.val)))

/-- PNLHOST (R455). -/
def execPnlhost (ref : HostRef) (ok : Bool) (args : List Byte) (s : State) : Host.Outcome State Fault Refusal :=
  .next (s.onDev (fun d => d.whenUp (fun d => d.opCommand (.host ref ok) 0x21 args)))

/-- PNLMAINT_TEST (R455). -/
def execPnlmaintTest (ref : HostRef) (ok : Bool) (region level : BitVec 8) (s : State) : Host.Outcome State Fault Refusal :=
  .next (s.onDev (fun d => d.whenUp (fun d => d.opCommand (.host ref ok) 0x22 [region, 1, level])))

/-- PNLMAINT_RESTORE (R455). -/
def execPnlmaintRestore (ref : HostRef) (ok : Bool) (region : BitVec 8) (s : State) : Host.Outcome State Fault Refusal :=
  .next (s.onDev (fun d => d.whenUp (fun d => d.opCommand (.host ref ok) 0x22 [region, 2, 0])))

/-- PNLMAINT_REDRAW (R455). -/
def execPnlmaintRedraw (ref : HostRef) (ok : Bool) (region : BitVec 8) (s : State) : Host.Outcome State Fault Refusal :=
  .next (s.onDev (fun d => d.whenUp (fun d => d.opCommand (.host ref ok) 0x22 [region, 3, 0])))

end Sys2Proof.Machine
end

