-- ==== Sys2Proof/Machine/PhaseRows.lean ====
section
/-!
DEFINITION. The commands of the phase bases and the schedule engine (chapter 03).
-/
namespace Sys2Proof.Machine

/-- ANGLE_EDGE (R75). -/
def execAngleEdge (m : Fin 6) (peak : Nat) (level : Bool) (s : State) : Host.Outcome State Fault Refusal :=
  .next (s.onDev (fun d => d.whenUp (fun d => d.angleEdge m.val peak level)))

/-- STANDSTILL_TIMEOUT (R79). -/
def execStandstillTimeout (b : Fin 4) (s : State) : Host.Outcome State Fault Refusal :=
  .next (s.onDev (fun d => d.whenUp (fun d => d.standstill b.val)))

/-- NOP (R88). -/
def execNop (late : Bool) (s : State) : Host.Outcome State Fault Refusal :=
  .next (s.onDev (fun d => d.whenUp (fun d => d.whenRuns 0 0 none none (fun d => d.schedNop late))))

/-- SAMPLE (R107). -/
def execSample (target : Nat) (code : BitVec 16) (late : Bool) (s : State) : Host.Outcome State Fault Refusal :=
  .next (s.onDev (fun d => d.whenUp (fun d => d.whenRuns 1 target none none (fun d => d.schedSample target code late))))

/-- LATECNT_CLR (R84). -/
def execLatecntClr (s : State) : Host.Outcome State Fault Refusal :=
  .next (s.onDev (fun d => d.whenUp (fun d => d.latecntClr)))

/-- JUMP_CLR (R76). -/
def execJumpClr (b : Fin 4) (s : State) : Host.Outcome State Fault Refusal :=
  .next (s.onDev (fun d => d.whenUp (fun d => d.jumpClr b.val)))

end Sys2Proof.Machine
end

