-- ==== Sys2Proof/Machine/PowerRows.lean ====
section
/-!
DEFINITION. The commands of the feeds, resets, sleep and hot plug (chapter 19).
-/
namespace Sys2Proof.Machine

/-- IDEAL_DIODE_REVERSE (R487). -/
def execIdealDiodeReverse (b : Bool) (s : State) : Host.Outcome State Fault Refusal :=
  .next (s.onDev (fun d => d.diodeReverse b))

/-- FEED_GATE_ON (R487). -/
def execFeedGateOn (b : Bool) (s : State) : Host.Outcome State Fault Refusal :=
  .next (s.onDev (fun d => d.gateOn b))

/-- FEED_RANGE_CHANGE (R489). -/
def execFeedRangeChange (b inrange ov uv : Bool) (s : State) : Host.Outcome State Fault Refusal :=
  .next (s.onDev (fun d => d.feedRange b inrange ov uv))

/-- POWER_FAIL_WARNING (R493). -/
def execPowerFailWarning (pres : Bool) (s : State) : Host.Outcome State Fault Refusal :=
  .next (s.onDev (fun d => d.powerFail pres))

/-- PFW_CLEAR (R494). -/
def execPfwClear (s : State) : Host.Outcome State Fault Refusal :=
  .next (s.onDev (fun d => d.pfwClear))

/-- FEEDLOSS_RESET (R495). -/
def execFeedlossReset (s : State) : Host.Outcome State Fault Refusal :=
  .next (s.onDev (fun d => d.feedlossReset))

/-- RAIL_RESET (R490). -/
def execRailReset (s : State) : Host.Outcome State Fault Refusal :=
  .next (s.onDev (fun d => d.railReset))

/-- HOST_RESET (R500). -/
def execHostReset (sess : Nat) (s : State) : Host.Outcome State Fault Refusal :=
  .next (s.onDev (fun d => d.whenUp (fun d => d.hostReset sess)))

/-- VHVLOW_CHANGE (R491). -/
def execVhvlowChange (low : Bool) (s : State) : Host.Outcome State Fault Refusal :=
  .next (s.onDev (fun d => d.vhvChange low))

/-- POWER_GOOD (R506). -/
def execPowerGood (s : State) : Host.Outcome State Fault Refusal :=
  .next (s.onDev (fun d => d.powerGood))

/-- RESET_RELEASE (R500). -/
def execResetRelease (s : State) : Host.Outcome State Fault Refusal :=
  .next (s.onDev (fun d => d.resetRelease))

/-- START_UP (R497). -/
def execStartUp (s : State) : Host.Outcome State Fault Refusal :=
  .next (s.onDev (fun d => d.startUp))

/-- COMB_CLR (R492). -/
def execCombClr (s : State) : Host.Outcome State Fault Refusal :=
  .next (s.onDev (fun d => d.whenUp (fun d => d.combClr)))

/-- SLEEP_REQUEST (R502). -/
def execSleepRequest (sess : Nat) (mask : BitVec 4) (s : State) : Host.Outcome State Fault Refusal :=
  .next (s.onDev (fun d => d.whenUp (fun d => d.sleepRequest sess mask)))

/-- SLEEP_ENTER (R502). -/
def execSleepEnter (s : State) : Host.Outcome State Fault Refusal :=
  .next (s.onDev (fun d => d.whenUp (fun d => d.sleepEnter)))

/-- WAKE (R503). -/
def execWake (source : BitVec 4) (s : State) : Host.Outcome State Fault Refusal :=
  .next (s.onDev (fun d => d.wake source))

/-- EJECT_ASSERT (R507). -/
def execEjectAssert (s : State) : Host.Outcome State Fault Refusal :=
  .next (s.onDev (fun d => d.ejectAssert))

/-- EJECT_RELEASE (R508). -/
def execEjectRelease (s : State) : Host.Outcome State Fault Refusal :=
  .next (s.onDev (fun d => d.ejectRelease))

end Sys2Proof.Machine
end

