-- ==== Sys2Proof/Machine/RegisterRows.lean ====
section
/-!
DEFINITION. The commands that write or clear a register under the rules of chapter 02, and the functions
with a shutdown sequence.
-/
namespace Sys2Proof.Machine

/-- KEYGATE_OPEN (R47). -/
def execKeygateOpen (sess : Nat) (s : State) : Host.Outcome State Fault Refusal :=
  .next (s.onDev (fun d => d.whenUp (fun d => d.keyWrite sess keyValue)))

/-- KEYGATE_CLOSE (R48). -/
def execKeygateClose (sess : Nat) (key : BitVec 16) (s : State) : Host.Outcome State Fault Refusal :=
  .next (s.onDev (fun d => d.whenUp (fun d => d.keyWrite sess key)))

/-- KEYGATE_TIMEOUT (R48). -/
def execKeygateTimeout (s : State) : Host.Outcome State Fault Refusal :=
  .next (s.onDev (fun d => d.whenUp (fun d => d.keyTimeout)))

/-- SQ_CLEAR (R51). -/
def execSqClear (addr : Nat) (w : SqWrite) (s : State) : Host.Outcome State Fault Refusal :=
  .next (s.onDev (fun d => d.whenUp (fun d => d.sqWrite addr w.value w.same)))

/-- EVENT_CLEAR (R60). -/
def execEventClear (m : Fin 8) (w : EvWrite) (s : State) : Host.Outcome State Fault Refusal :=
  .next (s.onDev (fun d => d.whenUp (fun d => d.evClear m.val w.value w.same)))

/-- XCH_EN_WRITE (R54). -/
def execXchEnWrite (sess : Nat) (n : Fin 8) (w : EnWrite) (s : State) : Host.Outcome State Fault Refusal :=
  .next (s.onDev (fun d => d.whenUp (fun d => d.fEnWrite sess (.xch n) w.en w.same)))

/-- LOOP_SUPPLY_EN_WRITE (R54). -/
def execLoopSupplyEnWrite (sess : Nat) (n : Fin 16) (w : EnWrite) (s : State) : Host.Outcome State Fault Refusal :=
  .next (s.onDev (fun d => d.whenUp (fun d => d.fEnWrite sess (.supply n) w.en w.same)))

/-- QCH_PWR_EN_WRITE (R54). -/
def execQchPwrEnWrite (sess : Nat) (n : Fin 12) (w : EnWrite) (s : State) : Host.Outcome State Fault Refusal :=
  .next (s.onDev (fun d => d.whenUp (fun d => d.fEnWrite sess (.qch n) w.en w.same)))

/-- PANEL_EN_WRITE (R54). -/
def execPanelEnWrite (sess : Nat) (w : EnWrite) (s : State) : Host.Outcome State Fault Refusal :=
  .next (s.onDev (fun d => d.whenUp (fun d => d.fEnWrite sess .panel w.en w.same)))

/-- LINK_EN_WRITE (R54). -/
def execLinkEnWrite (sess : Nat) (w : EnWrite) (s : State) : Host.Outcome State Fault Refusal :=
  .next (s.onDev (fun d => d.whenUp (fun d => d.fEnWrite sess .link w.en w.same)))

/-- STARTUP_SEQ_DONE (R53). -/
def execStartupSeqDone (f : Func) (s : State) : Host.Outcome State Fault Refusal :=
  .next (s.onDev (fun d => d.whenUp (fun d => d.fStartDone f)))

/-- SHUTDOWN_SEQ_DONE (R55). -/
def execShutdownSeqDone (f : Func) (s : State) : Host.Outcome State Fault Refusal :=
  .next (s.onDev (fun d => d.whenUp (fun d => d.fShutDone f)))

end Sys2Proof.Machine
end

