-- ==== Sys2Proof/Machine/TurnRows.lean ====
section
/-!
DEFINITION. The commands of the turn engine and of the queue engine (chapters 01 and 02).
-/
namespace Sys2Proof.Machine

/-- SAMPLE_LATCH (R16). -/
def execSampleLatch (evalUs commitUs : Nat) (s : State) : Host.Outcome State Fault Refusal :=
  .next (s.onDev (fun d => d.whenUp (fun d => d.sampleLatch evalUs commitUs)))

/-- EVAL_DEADLINE (R27). -/
def execEvalDeadline (s : State) : Host.Outcome State Fault Refusal :=
  .next (s.onDev (fun d => d.whenUp (fun d => d.evalDeadline)))

/-- COMMIT_DEADLINE (R27). -/
def execCommitDeadline (s : State) : Host.Outcome State Fault Refusal :=
  .next (s.onDev (fun d => d.whenUp (fun d => d.commitDeadline)))

/-- EMIT (R23). -/
def execEmit (s : State) : Host.Outcome State Fault Refusal :=
  .next (s.onDev (fun d => d.whenUp (fun d => d.emit)))

/-- MIRROR_DONE (R26). -/
def execMirrorDone (s : State) : Host.Outcome State Fault Refusal :=
  .next (s.onDev (fun d => d.whenUp (fun d => d.mirrorDone)))

/-- CLOCK_WINDOW (R37). -/
def execClockWindow (measured outOfLimit : BitVec 11) (s : State) : Host.Outcome State Fault Refusal :=
  .next (s.onDev (fun d => d.whenUp (fun d => d.clockWindow measured outOfLimit)))

/-- TIMINGMAX_CLR (R4). -/
def execTimingmaxClr (s : State) : Host.Outcome State Fault Refusal :=
  .next (s.onDev (fun d => d.whenUp (fun d => d.timingmaxClr)))

/-- TURNNUM_LO_READ (R41). -/
def execTurnnumLoRead (s : State) : Host.Outcome State Fault Refusal :=
  .next (s.onDev (fun d => d.whenUp (fun d => d.turnnumLoRead)))

/-- QUEUE_GRANT (R66). -/
def execQueueGrant (ready : BitVec 64) (s : State) : Host.Outcome State Fault Refusal :=
  .next (s.onDev (fun d => d.whenUp (fun d => d.queueGrant ready)))

/-- QUEUE_PROMOTE (R67). -/
def execQueuePromote (q : Fin 64) (s : State) : Host.Outcome State Fault Refusal :=
  .next (s.onDev (fun d => d.whenUp (fun d => d.queuePromote q.val)))

/-- PROMOCNT_CLR (R67). -/
def execPromocntClr (s : State) : Host.Outcome State Fault Refusal :=
  .next (s.onDev (fun d => d.whenUp (fun d => d.promocntClr)))

end Sys2Proof.Machine
end

