-- ==== Sys2Proof/Machine/UniversalRows.lean ====
section
/-!
DEFINITION. The commands of the universal inputs (chapter 04).
-/
namespace Sys2Proof.Machine

/-- MUX (R106). -/
def execMux (sc : Fin 4) (arg : BitVec 8) (late : Bool) (s : State) : Host.Outcome State Fault Refusal :=
  .next (s.onDev (fun d => d.whenUp (fun d =>
    d.whenRuns 7 (96 + sc.val) (some arg.toNat) none (fun d => (d.lateMark late).uMux sc.val arg.toNat))))

/-- SETTLE_END (R104). -/
def execSettleEnd (sc : Fin 4) (s : State) : Host.Outcome State Fault Refusal :=
  .next (s.onDev (fun d => d.whenUp (fun d => d.uSettleEnd sc.val)))

/-- UIN_CONVERSION_END (R104). -/
def execUinConversionEnd (sc : Fin 4) (code : BitVec 24) (s : State) : Host.Outcome State Fault Refusal :=
  .next (s.onDev (fun d => d.whenUp (fun d => d.uConvEnd sc.val code)))

/-- LEAD_CONVERSION_END (R110). -/
def execLeadConversionEnd (sc : Fin 4) (code : BitVec 24) (s : State) : Host.Outcome State Fault Refusal :=
  .next (s.onDev (fun d => d.whenUp (fun d => d.uLeadEnd sc.val code)))

/-- POSTCHECK_END (R117). -/
def execPostcheckEnd (sc : Fin 4) (rloop : Nat) (checks : BitVec 4) (s : State) : Host.Outcome State Fault Refusal :=
  .next (s.onDev (fun d => d.whenUp (fun d => d.uPostEnd sc.val rloop checks)))

/-- REFCHK_END (R121). -/
def execRefchkEnd (sc : Fin 4) (code : BitVec 24) (s : State) : Host.Outcome State Fault Refusal :=
  .next (s.onDev (fun d => d.whenUp (fun d => d.uRefEnd sc.val code)))

/-- UIN_CLAMP (R100). -/
def execUinClamp (n : Fin 48) (s : State) : Host.Outcome State Fault Refusal :=
  .next (s.onDev (fun d => d.uClamp n.val))

/-- DIAG_REQUEST (R43). -/
def execDiagRequest (n : Fin 48) (req : Bool) (s : State) : Host.Outcome State Fault Refusal :=
  .next (s.onDev (fun d => d.whenUp (fun d => d.uDiagRequest n.val req)))

end Sys2Proof.Machine
end

