-- ==== Sys2Proof/Machine/VaultRows.lean ====
section
/-!
DEFINITION. The commands of the vault (chapter 15).
-/
namespace Sys2Proof.Machine

/-- IMGLOAD (R483). -/
def execImgload (frame : List Byte) (s : State) : Host.Outcome State Fault Refusal :=
  .next (s.onDev (fun d => d.whenUp (fun d => d.hostImage frame)))

/-- IMAGE_VERIFIED (R412). -/
def execImageVerified (s : State) : Host.Outcome State Fault Refusal :=
  .next (s.onDev (fun d => d.whenUp (fun d => d.imageJudged)))

/-- PEER_READY (R414). -/
def execPeerReady (ready : Bool) (s : State) : Host.Outcome State Fault Refusal :=
  .next (s.onDev (fun d => d.whenUp (fun d => d.peerReady ready)))

/-- SWAP (R415). -/
def execSwap (sess : Nat) (s : State) : Host.Outcome State Fault Refusal :=
  .next (s.onDev (fun d => d.whenUp (fun d => d.swap sess)))

/-- SWAP_NOTICE (R415). -/
def execSwapNotice (turn : BitVec 48) (hash : List Byte) (s : State) : Host.Outcome State Fault Refusal :=
  .next (s.onDev (fun d => d.whenUp (fun d => d.swapNotice turn.toNat hash)))

/-- SWAP_LATCH (R415). -/
def execSwapLatch (s : State) : Host.Outcome State Fault Refusal :=
  .next (s.onDev (fun d => d.whenUp (fun d => d.swapLatch)))

/-- BOOTNEXT (R417). -/
def execBootnext (sess : Nat) (s : State) : Host.Outcome State Fault Refusal :=
  .next (s.onDev (fun d => d.whenUp (fun d => d.bootnext sess)))

/-- ABORT (R414). -/
def execAbort (sess : Nat) (s : State) : Host.Outcome State Fault Refusal :=
  .next (s.onDev (fun d => d.whenUp (fun d => d.abort sess)))

/-- ATTEST (R418). -/
def execAttest (ref : HostRef) (ok : Bool) (nonce : List Byte) (s : State) : Host.Outcome State Fault Refusal :=
  .next (s.onDev (fun d => d.whenUp (fun d => d.attest ref ok nonce)))

/-- OWNTOKEN (R423). -/
def execOwntoken (ref : HostRef) (ok : Bool) (token : List Byte) (s : State) : Host.Outcome State Fault Refusal :=
  .next (s.onDev (fun d => d.whenUp (fun d => d.owntoken ref ok token)))

/-- ERASE (R424). -/
def execErase (ref : HostRef) (ok : Bool) (s : State) : Host.Outcome State Fault Refusal :=
  .next (s.onDev (fun d => d.whenUp (fun d => d.erase ref ok)))

/-- ERASE_DONE (R424). -/
def execEraseDone (s : State) : Host.Outcome State Fault Refusal :=
  .next (s.onDev (fun d => d.eraseDone))

/-- OWNCLR_ENTER (R424). -/
def execOwnclrEnter (s : State) : Host.Outcome State Fault Refusal :=
  .next (s.onDev (fun d => d.ownclrEnter))

/-- OWNCLR_TIMEOUT (R424). -/
def execOwnclrTimeout (s : State) : Host.Outcome State Fault Refusal :=
  .next (s.onDev (fun d => d.ownclrTimeout))

/-- SESSION_LOCK_END (R420). -/
def execSessionLockEnd (s : State) : Host.Outcome State Fault Refusal :=
  .next (s.onDev (fun d => d.whenUp (fun d => d.sessionLockEnd)))

/-- OLDFS_EXPIRE (R419). -/
def execOldfsExpire (s : State) : Host.Outcome State Fault Refusal :=
  .next (s.onDev (fun d => d.whenUp (fun d => d.oldfsExpire)))

/-- TRNG_FAULT (R405). -/
def execTrngFault (failing : Bool) (s : State) : Host.Outcome State Fault Refusal :=
  .next (s.onDev (fun d => d.whenUp (fun d => d.trngFault failing)))

end Sys2Proof.Machine
end

