-- ==== Sys2Proof/Machine/WatchtowerRows.lean ====
section
/-!
DEFINITION. The commands of the watchtower (chapter 14).
-/
namespace Sys2Proof.Machine

/-- DANGEROUS_FAULT (R384). -/
def execDangerousFault (code detail : BitVec 8) (s : State) : Host.Outcome State Fault Refusal :=
  .next (s.onDev (fun d => d.whenUp (fun d => d.dangerousFault code detail)))

/-- WATCHTOWER_RESET (R395). -/
def execWatchtowerReset (s : State) : Host.Outcome State Fault Refusal :=
  .next (s.onDev (fun d => d.whenUp (fun d => d.watchtowerReset)))

/-- LATENT_TEST_DONE (R396). -/
def execLatentTestDone (t : Fin 12) (pass : Bool) (s : State) : Host.Outcome State Fault Refusal :=
  .next (s.onDev (fun d => d.whenUp (fun d => d.latentDone t.val pass)))

/-- LATENT_TEST_OVERDUE (R397). -/
def execLatentTestOverdue (t : Fin 12) (s : State) : Host.Outcome State Fault Refusal :=
  .next (s.onDev (fun d => d.whenUp (fun d => d.latentOverdue t.val)))

/-- TEMPHI (R401). -/
def execTemphi (temp : BitVec 16) (s : State) : Host.Outcome State Fault Refusal :=
  .next (s.onDev (fun d => d.whenUp (fun d => d.tempHi temp)))

/-- ECCCOR (R402). -/
def execEcccor (ledger : Bool) (s : State) : Host.Outcome State Fault Refusal :=
  .next (s.onDev (fun d => d.whenUp (fun d => d.eccCor ledger)))

end Sys2Proof.Machine
end

