-- ==== Sys2Proof/Machine/Dispatch.lean ====
section
/-!
DEFINITION. One arm for every command: a direct call of its meaning.
-/
namespace Sys2Proof.Machine

/-- The effect of a command on everything but the queue. -/
def exec (i : Instr) (s : State) : Host.Outcome State Fault Refusal :=
  match i with
  | .sampleLatch evalUs commitUs => Sys2Proof.Machine.execSampleLatch evalUs commitUs s
  | .evalDeadline => Sys2Proof.Machine.execEvalDeadline s
  | .commitDeadline => Sys2Proof.Machine.execCommitDeadline s
  | .emit => Sys2Proof.Machine.execEmit s
  | .mirrorDone => Sys2Proof.Machine.execMirrorDone s
  | .clockWindow measured outOfLimit => Sys2Proof.Machine.execClockWindow measured outOfLimit s
  | .timingmaxClr => Sys2Proof.Machine.execTimingmaxClr s
  | .turnnumLoRead => Sys2Proof.Machine.execTurnnumLoRead s
  | .write frame => Sys2Proof.Machine.execWrite frame s
  | .keygateOpen sess => Sys2Proof.Machine.execKeygateOpen sess s
  | .keygateClose sess key => Sys2Proof.Machine.execKeygateClose sess key s
  | .keygateTimeout => Sys2Proof.Machine.execKeygateTimeout s
  | .sqClear addr w => Sys2Proof.Machine.execSqClear addr w s
  | .eventClear m w => Sys2Proof.Machine.execEventClear m w s
  | .xchEnWrite sess n w => Sys2Proof.Machine.execXchEnWrite sess n w s
  | .loopSupplyEnWrite sess n w => Sys2Proof.Machine.execLoopSupplyEnWrite sess n w s
  | .qchPwrEnWrite sess n w => Sys2Proof.Machine.execQchPwrEnWrite sess n w s
  | .panelEnWrite sess w => Sys2Proof.Machine.execPanelEnWrite sess w s
  | .linkEnWrite sess w => Sys2Proof.Machine.execLinkEnWrite sess w s
  | .startupSeqDone f => Sys2Proof.Machine.execStartupSeqDone f s
  | .shutdownSeqDone f => Sys2Proof.Machine.execShutdownSeqDone f s
  | .queueGrant ready => Sys2Proof.Machine.execQueueGrant ready s
  | .queuePromote q => Sys2Proof.Machine.execQueuePromote q s
  | .promocntClr => Sys2Proof.Machine.execPromocntClr s
  | .angleEdge m peak level => Sys2Proof.Machine.execAngleEdge m peak level s
  | .standstillTimeout b => Sys2Proof.Machine.execStandstillTimeout b s
  | .nop late => Sys2Proof.Machine.execNop late s
  | .sample target code late => Sys2Proof.Machine.execSample target code late s
  | .winopen n arg late => Sys2Proof.Machine.execWinopen n arg late s
  | .winclose n arg late => Sys2Proof.Machine.execWinclose n arg late s
  | .qreset n fb late => Sys2Proof.Machine.execQreset n fb late s
  | .range n fb late => Sys2Proof.Machine.execRange n fb late s
  | .cycle n late => Sys2Proof.Machine.execCycle n late s
  | .mux sc arg late => Sys2Proof.Machine.execMux sc arg late s
  | .latecntClr => Sys2Proof.Machine.execLatecntClr s
  | .jumpClr b => Sys2Proof.Machine.execJumpClr b s
  | .settleEnd sc => Sys2Proof.Machine.execSettleEnd sc s
  | .uinConversionEnd sc code => Sys2Proof.Machine.execUinConversionEnd sc code s
  | .leadConversionEnd sc code => Sys2Proof.Machine.execLeadConversionEnd sc code s
  | .postcheckEnd sc rloop checks => Sys2Proof.Machine.execPostcheckEnd sc rloop checks s
  | .refchkEnd sc code => Sys2Proof.Machine.execRefchkEnd sc code s
  | .uinClamp n => Sys2Proof.Machine.execUinClamp n s
  | .diagRequest n req => Sys2Proof.Machine.execDiagRequest n req s
  | .gridPoint n j => Sys2Proof.Machine.execGridPoint n j s
  | .timeSample n => Sys2Proof.Machine.execTimeSample n s
  | .qchConversionDone n code ovl => Sys2Proof.Machine.execQchConversionDone n code ovl s
  | .rangeResetEnd n => Sys2Proof.Machine.execRangeResetEnd n s
  | .cycleComputed n => Sys2Proof.Machine.execCycleComputed n s
  | .testSequenceDone n c0 c1a c1 c2 => Sys2Proof.Machine.execTestSequenceDone n c0 c1a c1 c2 s
  | .feedElement bytes => Sys2Proof.Machine.execFeedElement bytes s
  | .drivePeriodEnd n samples irms limit lockPhase err => Sys2Proof.Machine.execDrivePeriodEnd n samples irms limit lockPhase err s
  | .demodPeriodEnd n => Sys2Proof.Machine.execDemodPeriodEnd n s
  | .trimWrite n value => Sys2Proof.Machine.execTrimWrite n value s
  | .loopConversionEnd n raw isup limUs => Sys2Proof.Machine.execLoopConversionEnd n raw isup limUs s
  | .tstartEnd n => Sys2Proof.Machine.execTstartEnd n s
  | .hartTransactionStart n => Sys2Proof.Machine.execHartTransactionStart n s
  | .hartFrameReceived n frame bad => Sys2Proof.Machine.execHartFrameReceived n frame bad s
  | .hartResponseTimeout n => Sys2Proof.Machine.execHartResponseTimeout n s
  | .hartPoll n => Sys2Proof.Machine.execHartPoll n s
  | .hartStale n => Sys2Proof.Machine.execHartStale n s
  | .hartcmd ref ok n elem => Sys2Proof.Machine.execHartcmd ref ok n elem s
  | .osetWrite sess n value => Sys2Proof.Machine.execOsetWrite sess n value s
  | .complTimer n deviates actual => Sys2Proof.Machine.execComplTimer n deviates actual s
  | .contactAccept n before last => Sys2Proof.Machine.execContactAccept n before last s
  | .lineFault n before last => Sys2Proof.Machine.execLineFault n before last s
  | .contactClamp n on => Sys2Proof.Machine.execContactClamp n on s
  | .feedbackTimeout m mismatch => Sys2Proof.Machine.execFeedbackTimeout m mismatch s
  | .pulseTestStart m => Sys2Proof.Machine.execPulseTestStart m s
  | .pulseTestEnd m fb => Sys2Proof.Machine.execPulseTestEnd m fb s
  | .pulseTestVerdict m fb => Sys2Proof.Machine.execPulseTestVerdict m fb s
  | .hostsetWrite sess reg31 value => Sys2Proof.Machine.execHostsetWrite sess reg31 value s
  | .ack src point kind => Sys2Proof.Machine.execAck src point kind s
  | .ackpoint src point => Sys2Proof.Machine.execAckpoint src point s
  | .inhibit src point mask => Sys2Proof.Machine.execInhibit src point mask s
  | .uninhibit src point mask => Sys2Proof.Machine.execUninhibit src point mask s
  | .oos src point => Sys2Proof.Machine.execOos src point s
  | .rts src point => Sys2Proof.Machine.execRts src point s
  | .writept src point value status => Sys2Proof.Machine.execWritept src point value status s
  | .hostPointStale h => Sys2Proof.Machine.execHostPointStale h s
  | .alarmDelayExpire p k => Sys2Proof.Machine.execAlarmDelayExpire p k s
  | .rateWindow p => Sys2Proof.Machine.execRateWindow p s
  | .timerCellExpire t => Sys2Proof.Machine.execTimerCellExpire t s
  | .setduty src eng => Sys2Proof.Machine.execSetduty src eng s
  | .accept src station => Sys2Proof.Machine.execAccept src station s
  | .stationack src station => Sys2Proof.Machine.execStationack src station s
  | .presence src eng present => Sys2Proof.Machine.execPresence src eng present s
  | .watch src on => Sys2Proof.Machine.execWatch src on s
  | .watchreset src => Sys2Proof.Machine.execWatchreset src s
  | .stationPress k => Sys2Proof.Machine.execStationPress k s
  | .watchContactReset k => Sys2Proof.Machine.execWatchContactReset k s
  | .dutySwitchAct => Sys2Proof.Machine.execDutySwitchAct s
  | .dutyScheduleAct => Sys2Proof.Machine.execDutyScheduleAct s
  | .chainEscalate c => Sys2Proof.Machine.execChainEscalate c s
  | .chainRearm c => Sys2Proof.Machine.execChainRearm c s
  | .watchPre => Sys2Proof.Machine.execWatchPre s
  | .watchExpire => Sys2Proof.Machine.execWatchExpire s
  | .ledgerDrain => Sys2Proof.Machine.execLedgerDrain s
  | .checkpointSigned => Sys2Proof.Machine.execCheckpointSigned s
  | .sealWrite us => Sys2Proof.Machine.execSealWrite us s
  | .journalExport => Sys2Proof.Machine.execJournalExport s
  | .expackWrite seqlo => Sys2Proof.Machine.execExpackWrite seqlo s
  | .poolClr => Sys2Proof.Machine.execPoolClr s
  | .holdcntClr => Sys2Proof.Machine.execHoldcntClr s
  | .headLoRead => Sys2Proof.Machine.execHeadLoRead s
  | .wmarkLoRead => Sys2Proof.Machine.execWmarkLoRead s
  | .ckptLoRead => Sys2Proof.Machine.execCkptLoRead s
  | .canFrameReceived ch stamp esi frame => Sys2Proof.Machine.execCanFrameReceived ch stamp esi frame s
  | .txBufferLoad ch k => Sys2Proof.Machine.execTxBufferLoad ch k s
  | .txComplete ch k stamp => Sys2Proof.Machine.execTxComplete ch k stamp s
  | .txError ch k lec arb quiet => Sys2Proof.Machine.execTxError ch k lec arb quiet s
  | .busoffRecovery ch => Sys2Proof.Machine.execBusoffRecovery ch s
  | .txcancel ch cmdid phase => Sys2Proof.Machine.execTxcancel ch cmdid phase s
  | .rxwinLock ch => Sys2Proof.Machine.execRxwinLock ch s
  | .rxwinRelease ch => Sys2Proof.Machine.execRxwinRelease ch s
  | .rxunlock ch => Sys2Proof.Machine.execRxunlock ch s
  | .backlogPlace ch => Sys2Proof.Machine.execBacklogPlace ch s
  | .markLoRead ch => Sys2Proof.Machine.execMarkLoRead ch s
  | .remotePointStale p => Sys2Proof.Machine.execRemotePointStale p s
  | .canWake w => Sys2Proof.Machine.execCanWake w s
  | .canIntegrated ch => Sys2Proof.Machine.execCanIntegrated ch s
  | .canframe ref ok ch flags id data => Sys2Proof.Machine.execCanframe ref ok ch flags id data s
  | .tokenFree granted => Sys2Proof.Machine.execTokenFree granted s
  | .pairHoldRelease => Sys2Proof.Machine.execPairHoldRelease s
  | .roleMsg bytes => Sys2Proof.Machine.execRoleMsg bytes s
  | .linkTrainingDone lanes auth => Sys2Proof.Machine.execLinkTrainingDone lanes auth s
  | .linkLost => Sys2Proof.Machine.execLinkLost s
  | .laneDegraded lane => Sys2Proof.Machine.execLaneDegraded lane s
  | .linkBlockReceived q seq crcOk bytes ack => Sys2Proof.Machine.execLinkBlockReceived q seq crcOk bytes ack s
  | .linkBlockTimeout q => Sys2Proof.Machine.execLinkBlockTimeout q s
  | .turnStartSet turn => Sys2Proof.Machine.execTurnStartSet turn s
  | .inputDelta image rel => Sys2Proof.Machine.execInputDelta image rel s
  | .commitend turn entries digest => Sys2Proof.Machine.execCommitend turn entries digest s
  | .ackMsg bytes => Sys2Proof.Machine.execAckMsg bytes s
  | .nakMsg bytes => Sys2Proof.Machine.execNakMsg bytes s
  | .mirrorBlock turn mirror => Sys2Proof.Machine.execMirrorBlock turn mirror s
  | .healthMsg bytes => Sys2Proof.Machine.execHealthMsg bytes s
  | .healthTimeout => Sys2Proof.Machine.execHealthTimeout s
  | .fastSelftestDone res => Sys2Proof.Machine.execFastSelftestDone res s
  | .stresMsg bytes => Sys2Proof.Machine.execStresMsg bytes s
  | .castlingDecide => Sys2Proof.Machine.execCastlingDecide s
  | .yieldMsg bytes => Sys2Proof.Machine.execYieldMsg bytes s
  | .resetcmdMsg => Sys2Proof.Machine.execResetcmdMsg s
  | .happenMsg kind payload => Sys2Proof.Machine.execHappenMsg kind payload s
  | .heartbeatLoss => Sys2Proof.Machine.execHeartbeatLoss s
  | .startClaim lineFree idHigh peerNext => Sys2Proof.Machine.execStartClaim lineFree idHigh peerNext s
  | .rejoinState mirror agreed tail dups marks => Sys2Proof.Machine.execRejoinState mirror agreed tail dups marks s
  | .rejoinCutover turn agreed pool => Sys2Proof.Machine.execRejoinCutover turn agreed pool s
  | .handover sess => Sys2Proof.Machine.execHandover sess s
  | .ejectAssert => Sys2Proof.Machine.execEjectAssert s
  | .ejectRelease => Sys2Proof.Machine.execEjectRelease s
  | .dangerousFault code detail => Sys2Proof.Machine.execDangerousFault code detail s
  | .watchtowerReset => Sys2Proof.Machine.execWatchtowerReset s
  | .latentTestDone t pass => Sys2Proof.Machine.execLatentTestDone t pass s
  | .latentTestOverdue t => Sys2Proof.Machine.execLatentTestOverdue t s
  | .imgload frame => Sys2Proof.Machine.execImgload frame s
  | .imageVerified => Sys2Proof.Machine.execImageVerified s
  | .peerReady ready => Sys2Proof.Machine.execPeerReady ready s
  | .swap sess => Sys2Proof.Machine.execSwap sess s
  | .swapNotice turn hash => Sys2Proof.Machine.execSwapNotice turn hash s
  | .swapLatch => Sys2Proof.Machine.execSwapLatch s
  | .bootnext sess => Sys2Proof.Machine.execBootnext sess s
  | .abort sess => Sys2Proof.Machine.execAbort sess s
  | .attest ref ok nonce => Sys2Proof.Machine.execAttest ref ok nonce s
  | .owntoken ref ok token => Sys2Proof.Machine.execOwntoken ref ok token s
  | .erase ref ok => Sys2Proof.Machine.execErase ref ok s
  | .eraseDone => Sys2Proof.Machine.execEraseDone s
  | .ownclrEnter => Sys2Proof.Machine.execOwnclrEnter s
  | .ownclrTimeout => Sys2Proof.Machine.execOwnclrTimeout s
  | .sessionLockEnd => Sys2Proof.Machine.execSessionLockEnd s
  | .oldfsExpire => Sys2Proof.Machine.execOldfsExpire s
  | .trngFault failing => Sys2Proof.Machine.execTrngFault failing s
  | .domeSupplySwitch onbat => Sys2Proof.Machine.execDomeSupplySwitch onbat s
  | .domeRetentionLoss => Sys2Proof.Machine.execDomeRetentionLoss s
  | .oscStop => Sys2Proof.Machine.execOscStop s
  | .oscRestart => Sys2Proof.Machine.execOscRestart s
  | .set sess hi => Sys2Proof.Machine.execSet sess hi s
  | .zone sess zone => Sys2Proof.Machine.execZone sess zone s
  | .hourAdd => Sys2Proof.Machine.execHourAdd s
  | .hourSub => Sys2Proof.Machine.execHourSub s
  | .shift value => Sys2Proof.Machine.execShift value s
  | .slewIncrement => Sys2Proof.Machine.execSlewIncrement s
  | .capture => Sys2Proof.Machine.execCapture s
  | .tickLoRead => Sys2Proof.Machine.execTickLoRead s
  | .alarmArm a hi => Sys2Proof.Machine.execAlarmArm a hi s
  | .alarmFire a => Sys2Proof.Machine.execAlarmFire a s
  | .panelFrame vlcd => Sys2Proof.Machine.execPanelFrame vlcd s
  | .updateComplete r => Sys2Proof.Machine.execUpdateComplete r s
  | .tpanSample code => Sys2Proof.Machine.execTpanSample code s
  | .vlcdFault fault vmeas => Sys2Proof.Machine.execVlcdFault fault vmeas s
  | .crack rcrk => Sys2Proof.Machine.execCrack rcrk s
  | .panelRequest k => Sys2Proof.Machine.execPanelRequest k s
  | .pnlhost ref ok args => Sys2Proof.Machine.execPnlhost ref ok args s
  | .pnlmaintTest ref ok region level => Sys2Proof.Machine.execPnlmaintTest ref ok region level s
  | .pnlmaintRestore ref ok region => Sys2Proof.Machine.execPnlmaintRestore ref ok region s
  | .pnlmaintRedraw ref ok region => Sys2Proof.Machine.execPnlmaintRedraw ref ok region s
  | .open1 frame => Sys2Proof.Machine.execOpen1 frame s
  | .open2 frame => Sys2Proof.Machine.execOpen2 frame s
  | .close frame => Sys2Proof.Machine.execClose frame s
  | .read frame => Sys2Proof.Machine.execRead frame s
  | .cmd frame => Sys2Proof.Machine.execCmd frame s
  | .poll frame => Sys2Proof.Machine.execPoll frame s
  | .qpeek frame => Sys2Proof.Machine.execQpeek frame s
  | .qpop frame => Sys2Proof.Machine.execQpop frame s
  | .badopc frame => Sys2Proof.Machine.execBadopc frame s
  | .transactionAbort afterCrc => Sys2Proof.Machine.execTransactionAbort afterCrc s
  | .idealDiodeReverse b => Sys2Proof.Machine.execIdealDiodeReverse b s
  | .feedRangeChange b inrange ov uv => Sys2Proof.Machine.execFeedRangeChange b inrange ov uv s
  | .powerFailWarning pres => Sys2Proof.Machine.execPowerFailWarning pres s
  | .pfwClear => Sys2Proof.Machine.execPfwClear s
  | .feedlossReset => Sys2Proof.Machine.execFeedlossReset s
  | .railReset => Sys2Proof.Machine.execRailReset s
  | .vhvlowChange low => Sys2Proof.Machine.execVhvlowChange low s
  | .powerGood => Sys2Proof.Machine.execPowerGood s
  | .resetRelease => Sys2Proof.Machine.execResetRelease s
  | .startUp => Sys2Proof.Machine.execStartUp s
  | .hostReset sess => Sys2Proof.Machine.execHostReset sess s
  | .combClr => Sys2Proof.Machine.execCombClr s
  | .sleepRequest sess mask => Sys2Proof.Machine.execSleepRequest sess mask s
  | .sleepEnter => Sys2Proof.Machine.execSleepEnter s
  | .wake source => Sys2Proof.Machine.execWake source s
  | .lopClamp n => Sys2Proof.Machine.execLopClamp n s
  | .canRxError ch lec primary => Sys2Proof.Machine.execCanRxError ch lec primary s
  | .feedGateOn b => Sys2Proof.Machine.execFeedGateOn b s
  | .batlow vbat => Sys2Proof.Machine.execBatlow vbat s
  | .temphi temp => Sys2Proof.Machine.execTemphi temp s
  | .ecccor ledger => Sys2Proof.Machine.execEcccor ledger s

end Sys2Proof.Machine
end

