-- ==== Sys2Proof/Machine/Step.lean ====
section
/-!
DEFINITION. The step: the command at the front of the queue runs on the device, with the queue's rest; on an
empty queue the schedule engine puts in the commands of the entries and grid points that are due, and when there are
none one CK_SYS cycle passes (log entry 4).
-/
namespace Sys2Proof.Machine

/-- What happens on an empty queue (R88, R90, R438): the slew that is due, the engine's commands of the present cycle, or
the next cycle. -/
def State.idle (s : State) : State :=
  if s.dev.dom.slewDue then ⟨s.dev, [.slewIncrement]⟩
  else
    let e := s.dev.engine
    if e.1.isEmpty then ⟨e.2.tick, []⟩ else ⟨e.2, e.1⟩

/-- One step of the machine. -/
def step (s : State) : Host.Outcome State Fault Refusal :=
  match s.pending with
  | c :: cs => exec c { s with pending := cs }
  | [] => .next s.idle

/-- The machine with the command that a word spells put at the front of its queue; unchanged where the word
spells none. -/
def State.withFetchWord (s : State) (nbits w : Nat) : State :=
  match decodeTableWord nbits w with
  | some c => { s with pending := c :: s.pending }
  | none => s

end Sys2Proof.Machine
end

