-- ==== Sys2Proof/WellFormed.lean ====
section
/-!
DEFINITION. The well-formedness of a command: the bounds that the spec gives its operands where their types leave more
room. The machine gives every command a meaning, well-formed or not; the bounds say which commands the hardware can
meet.
-/
namespace Sys2Proof

open Sys2Proof.Machine

/-- A frame: a length of its format, no bit-rate switch outside FD, no remote request in FD (R319). -/
def wfFrame (f : Frame) : Bool :=
  if f.fd then [0, 1, 2, 3, 4, 5, 6, 7, 8, 12, 16, 20, 24, 32, 48, 64].contains f.data.length && !f.rtr
  else decide (f.data.length ≤ 8) && !f.brs

/-- A session number as a request's header carries it: 0 to 7, or 0xFF for the unauthenticated session (R471, R475). -/
def wfSess (s : Nat) : Bool := s < 8 || s == 0xFF

/-- A host command's session and command channel (R479). -/
def wfRef (r : HostRef) : Bool := wfSess r.sess && r.hc < 8

/-- A source: a host session, a CAN channel with a 16-bit sequence, or the belfry (R265, R335, R479). -/
def wfSrc : CmdSrc → Bool
  | .host ref _ => wfRef ref
  | .can ch sender stream seq => ch < 4 && sender < 256 && stream < 256 && seq < 65536
  | .belfry => true

/-- The well-formedness of a command. -/
def Instr.wf : Instr → Bool
  | .clockWindow measured outOfLimit => (outOfLimit &&& ~~~measured) == 0
  | .standstillTimeout b => b != 0
  | .sample target _ _ => target < 48 || (64 ≤ target && target < 76)
  | .sqClear addr _ => addr % 4 == 0
  | .keygateOpen s => wfSess s
  | .keygateClose s _ => wfSess s
  | .xchEnWrite s _ _ => wfSess s
  | .loopSupplyEnWrite s _ _ => wfSess s
  | .qchPwrEnWrite s _ _ => wfSess s
  | .panelEnWrite s _ => wfSess s
  | .linkEnWrite s _ => wfSess s
  | .osetWrite s _ _ => wfSess s
  | .hostsetWrite s _ _ => wfSess s
  | .handover s => wfSess s
  | .swap s => wfSess s
  | .bootnext s => wfSess s
  | .abort s => wfSess s
  | .set s _ => wfSess s
  | .zone s _ => wfSess s
  | .hostReset s => wfSess s
  | .sleepRequest s _ => wfSess s
  | .ack c _ _ => wfSrc c
  | .ackpoint c _ => wfSrc c
  | .inhibit c _ _ => wfSrc c
  | .uninhibit c _ _ => wfSrc c
  | .oos c _ => wfSrc c
  | .rts c _ => wfSrc c
  | .writept c _ _ _ => wfSrc c
  | .setduty c _ => wfSrc c
  | .accept c _ => wfSrc c
  | .stationack c _ => wfSrc c
  | .presence c _ _ => wfSrc c
  | .watch c _ => wfSrc c
  | .watchreset c => wfSrc c
  | .hartcmd r _ _ elem => wfRef r && elem.length ≤ 252
  | .canframe r _ _ _ _ data => wfRef r && data.length ≤ 64
  | .pnlhost r _ _ => wfRef r
  | .pnlmaintTest r _ _ _ => wfRef r
  | .pnlmaintRestore r _ _ => wfRef r
  | .pnlmaintRedraw r _ _ => wfRef r
  | .attest r _ nonce => wfRef r && nonce.length == 32
  | .owntoken r _ token => wfRef r && token.length == 120
  | .erase r _ => wfRef r
  | .feedElement bytes => bytes.length ≤ 4096
  | .drivePeriodEnd _ samples _ _ _ _ => samples != []
  | .canFrameReceived _ _ _ f => wfFrame f
  | .canWake w => w.frame.all wfFrame
  | .roleMsg bytes => bytes.length ≤ 64
  | .ackMsg bytes => bytes.length ≤ 64
  | .nakMsg bytes => bytes.length ≤ 64
  | .healthMsg bytes => bytes.length ≤ 64
  | .stresMsg bytes => bytes.length ≤ 64
  | .yieldMsg bytes => bytes.length ≤ 64
  | .happenMsg _ payload => payload.length ≤ 32
  | .linkBlockReceived q _ _ bytes _ => bytes.length ≤ (if q == 0 || q == 2 then 4096 else 64)
  | .commitend _ entries _ => entries.all (fun e => e.length == 64)
  | .rejoinCutover _ _ pool => pool.length == 8
  | .swapNotice _ hash => hash.length == 32
  | .feedRangeChange _ inrange ov uv => !(ov && uv) && !(inrange && (ov || uv))
  | .wake source => source != 0
  | .sampleLatch .. | .evalDeadline .. | .commitDeadline .. | .emit .. | .mirrorDone .. | .timingmaxClr ..
  | .turnnumLoRead .. | .write .. | .keygateTimeout .. | .eventClear .. | .startupSeqDone ..
  | .shutdownSeqDone .. | .queueGrant .. | .queuePromote .. | .promocntClr .. | .angleEdge .. | .nop ..
  | .winopen .. | .winclose .. | .qreset .. | .range .. | .cycle .. | .mux .. | .latecntClr .. | .jumpClr ..
  | .settleEnd .. | .uinConversionEnd .. | .leadConversionEnd .. | .postcheckEnd .. | .refchkEnd ..
  | .uinClamp .. | .diagRequest .. | .gridPoint .. | .timeSample .. | .qchConversionDone .. | .rangeResetEnd ..
  | .cycleComputed .. | .testSequenceDone .. | .demodPeriodEnd .. | .trimWrite .. | .loopConversionEnd ..
  | .tstartEnd .. | .hartTransactionStart .. | .hartFrameReceived .. | .hartResponseTimeout .. | .hartPoll ..
  | .hartStale .. | .complTimer .. | .contactAccept .. | .lineFault .. | .contactClamp .. | .feedbackTimeout ..
  | .pulseTestStart .. | .pulseTestEnd .. | .pulseTestVerdict .. | .hostPointStale .. | .alarmDelayExpire ..
  | .rateWindow .. | .timerCellExpire .. | .stationPress .. | .watchContactReset .. | .dutySwitchAct ..
  | .dutyScheduleAct .. | .chainEscalate .. | .chainRearm .. | .watchPre .. | .watchExpire .. | .ledgerDrain ..
  | .checkpointSigned .. | .sealWrite .. | .journalExport .. | .expackWrite .. | .poolClr .. | .holdcntClr ..
  | .headLoRead .. | .wmarkLoRead .. | .ckptLoRead .. | .txBufferLoad .. | .txComplete .. | .txError ..
  | .busoffRecovery .. | .txcancel .. | .rxwinLock .. | .rxwinRelease .. | .rxunlock .. | .backlogPlace ..
  | .markLoRead .. | .remotePointStale .. | .canIntegrated .. | .tokenFree .. | .pairHoldRelease ..
  | .linkTrainingDone .. | .linkLost .. | .laneDegraded .. | .linkBlockTimeout .. | .turnStartSet ..
  | .inputDelta .. | .mirrorBlock .. | .healthTimeout .. | .fastSelftestDone .. | .castlingDecide ..
  | .resetcmdMsg .. | .heartbeatLoss .. | .startClaim .. | .rejoinState .. | .ejectAssert .. | .ejectRelease ..
  | .dangerousFault .. | .watchtowerReset .. | .latentTestDone .. | .latentTestOverdue .. | .imgload ..
  | .imageVerified .. | .peerReady .. | .swapLatch .. | .eraseDone .. | .ownclrEnter .. | .ownclrTimeout ..
  | .sessionLockEnd .. | .oldfsExpire .. | .trngFault .. | .domeSupplySwitch .. | .domeRetentionLoss ..
  | .oscStop .. | .oscRestart .. | .hourAdd .. | .hourSub .. | .shift .. | .slewIncrement .. | .capture ..
  | .tickLoRead .. | .alarmArm .. | .alarmFire .. | .panelFrame .. | .updateComplete .. | .tpanSample ..
  | .vlcdFault .. | .crack .. | .panelRequest .. | .open1 .. | .open2 .. | .close .. | .read .. | .cmd ..
  | .poll .. | .qpeek .. | .qpop .. | .badopc .. | .transactionAbort .. | .idealDiodeReverse ..
  | .powerFailWarning .. | .pfwClear .. | .feedlossReset .. | .railReset .. | .vhvlowChange .. | .powerGood ..
  | .resetRelease .. | .startUp .. | .combClr .. | .sleepEnter .. | .lopClamp .. | .canRxError ..
  | .feedGateOn .. | .batlow .. | .temphi .. | .ecccor .. => true

end Sys2Proof
end

