-- ==== Sys2Proof/Safety.lean ====
section
/-!
DEFINITION. The terms that statements about the machine use: the forms of stored data that every step keeps, the
conditions under which a command runs, and what it means that a command completes.
-/
namespace Sys2Proof.Machine

/-- The register file and the addressed buffers stand in their canonical forms. -/
def Dev.Canonical (d : Dev) : Prop := regsWf d.regs = true ∧ memWf d.qch.ring = true ∧ memWf d.qch.desc = true

/-- The shape of the device: as many queues, sessions, image slots, channels, bases, pins and buffers as it has, and
image slots whose bytes stand in canonical form. -/
structure Dev.Shaped (d : Dev) : Prop where
  queues : d.queues.q.length = 64
  windows : d.turn.clkRuns.length = 11
  sessions : d.host.sessions.length = 9
  slots : d.vault.images.length = 2
  slotBytes : ∀ x ∈ d.vault.images, memWf x.mem = true
  bases : d.phs.bases.length = 3
  charge : d.qch.chans.length = 12
  scans : d.uin.scans.length = 4
  inputs : d.uin.chans.length = 48
  drives : d.xch.length = 8
  loops : d.lop.ins.length = 16
  pulses : d.dio.ptPhase.length = 32
  bus : d.can.chans.length = 4
  buffers : ∀ c ∈ d.can.chans, c.bufs.length = 3
  tests : d.wtc.latDone.length = 12
  updates : d.pnl.runs.length = 16

/-- What every step keeps: the canonical forms, the shape, and a version counter that no image in use exceeds
(R413). -/
def Dev.Sane (d : Dev) : Prop := d.Canonical ∧ d.Shaped ∧ d.image.head.version ≤ d.vault.counter

/-- The digital die runs: out of reset, started up, awake (R497, R500, R502). -/
def State.Up (s : State) : Prop := s.dev.pwr.boot = 3

/-- The device with a change made to it, beside the same queue. -/
def State.on (s : State) (d : Dev) : State := { s with dev := d }

/-- A command completes: `exec` answers a next state, the queue is as it was, and the device is as `P` says. -/
def Completes (c : Instr) (s : State) (P : Dev → Prop) : Prop :=
  ∃ t, exec c s = .next t ∧ t.pending = s.pending ∧ P t.dev

/-- The key gate is open for a session (R48). -/
def Dev.GateFor (d : Dev) (sess : Nat) : Prop := ∃ since, d.gate = some ⟨sess, since⟩

/-- Only the registers at the addresses listed may read otherwise than before, and nothing but registers has
changed. -/
def Dev.OnlyRegs (d d' : Dev) (as : List Nat) : Prop :=
  d' = { d with regs := d'.regs } ∧ ∀ a, a ∉ as → d'.rd a = d.rd a

/-- The registers that raising an event may change: its pending bits, those of EV249, and the status of Q49 (R58,
R64). -/
def eventRegs (n : Nat) : List Nat := [R.HST_EVPEND (n / 32), R.HST_EVPEND 7, R.HST_QSTAT 49]

end Sys2Proof.Machine
end

