-- ==== Sys2Proof/Certificates/Slice0/Obligations.lean ====
section
/-!
DEFINITION. The statements about the machine, for the provers: each one's docstring names the rule of spec/ that it
formalises, or says that it is a choice of the model.
-/

open Sys2Proof Sys2Proof.Machine

/-! The machine's step -/

/-- A step runs the command at the front of the queue, with the queue's rest behind it. On an empty queue the slew
increment that is due, or else the commands of the schedule entries and grid points that are due, come into the
queue, in no time; with none due one cycle of CK_SYS passes. A choice of the model (log entry 4). -/
def Obligations.StepRunsTheFrontCommand : Prop :=
  (∀ (s : State) (c : Instr) (cs : List Instr), s.pending = c :: cs → step s = exec c { s with pending := cs }) ∧
  (∀ s : State, s.pending = [] →
     (s.dev.dom.slewDue = true → step s = .next ⟨s.dev, [.slewIncrement]⟩) ∧
     (s.dev.dom.slewDue = false → s.dev.engine.1 ≠ [] →
       step s = .next ⟨s.dev.engine.2, s.dev.engine.1⟩ ∧ s.dev.engine.2.clk = s.dev.clk) ∧
     (s.dev.dom.slewDue = false → s.dev.engine.1 = [] →
       step s = .next ⟨s.dev.engine.2.tick, []⟩ ∧ s.dev.engine.2.tick.clk = s.dev.clk + 1))

/-- Every command answers a next state, and leaves the queue of waiting commands alone: no command stops the
block. -/
def Obligations.EveryCommandAnswersNext : Prop :=
  ∀ (c : Instr) (s : State), Completes c s (fun _ => True)

/-- The commands that act while the digital die does not run: feeds and power, resets and the start-up, the dome,
OWNCLR and the erasure of the vault, a wake frame, the hold release, a clamp current on an analog input (R500, R502,
R424, R431 to R440, R100). -/
def actsWhileDown : Instr → Bool
  | .idealDiodeReverse _ | .feedGateOn _ | .feedRangeChange _ _ _ _ | .powerFailWarning _ | .pfwClear
  | .feedlossReset | .railReset | .vhvlowChange _ | .powerGood | .resetRelease | .startUp | .sleepEnter
  | .wake _ | .ejectAssert | .ejectRelease | .eraseDone | .ownclrEnter | .ownclrTimeout
  | .domeSupplySwitch _ | .domeRetentionLoss | .oscStop | .oscRestart | .slewIncrement | .alarmFire _
  | .canWake .. | .pairHoldRelease | .uinClamp _ => true
  | _ => false

/-- In reset, before its start-up and asleep, the digital die does nothing: every other command then changes
nothing (R500, R502; log entry 5). -/
def Obligations.DownDeviceDoesNothing : Prop :=
  ∀ (c : Instr) (s : State), actsWhileDown c = false → ¬ s.Up → exec c s = .next s

/-- Power-on leaves no command waiting, every register at its reset word, every queue empty, the key gate closed
and no turn in hand (R6, R48, R66). -/
def Obligations.ResetLeavesResetWords : Prop :=
  State.reset.pending = [] ∧ (∀ a, State.reset.dev.rd a = resetWord a) ∧ (∀ q, State.reset.dev.queue q = []) ∧
    State.reset.dev.gate = none ∧ State.reset.dev.turn.run = none ∧ State.reset.dev.wb = [] ∧
    State.reset.dev.jrn.ing = List.replicate 8 []

/-! Registers, the key gate, flags, events (chapter 02) -/

/-- A register reads as last written, and every other register reads as before; nothing but registers changes. -/
def Obligations.RegisterReadAfterWrite : Prop :=
  ∀ (d : Dev) (a : Nat) (w : Word), (d.wr a w).rd a = w ∧ d.OnlyRegs (d.wr a w) [a]

/-- The key-gated commands: the session that writes, and the byte address of the register written. -/
def gatedWrite : Instr → Option (Nat × Nat)
  | .xchEnWrite sess n _ => some (sess, R.XCH_CTRL n.val)
  | .loopSupplyEnWrite sess n _ => some (sess, R.LOP_SUPCTRL n.val)
  | .qchPwrEnWrite sess n _ => some (sess, R.QCH_PWR n.val)
  | .panelEnWrite sess _ => some (sess, R.PNL_CTRL)
  | .linkEnWrite sess _ => some (sess, R.PAR_LNKCTRL)
  | .handover sess => some (sess, R.PAR_CMD)
  | .swap sess => some (sess, R.VLT_CMD)
  | .bootnext sess => some (sess, R.VLT_CMD)
  | .abort sess => some (sess, R.VLT_CMD)
  | .set sess _ => some (sess, R.DOM_SET_HI)
  | .zone sess _ => some (sess, R.DOM_ZONE)
  | .hostReset sess => some (sess, R.PWR_RSTCMD)
  | .sleepRequest sess _ => some (sess, R.PWR_SLEEP)
  | _ => none

/-- What a refused key-gated write leaves (R49): SYS_GUARD holds bits 23 to 1 of the address, REFUSED is set with
SEQ advanced, EV5 is raised, and a GUARD entry with the full address waits; nothing else. -/
def guarded (d : Dev) (sess addr : Nat) : Dev :=
  (((d.wrF R.SYS_GUARD F.SYS_GUARD_ADDR (addr / 2)).flag R.SYS_GUARD 0).raise 5).happen
    (secEntry 0x0007 (leBytes 4 addr ++ [byteOf sess]))

/-- A key-gated write while the gate is closed, or from a session that did not open it, is ignored as a whole and
recorded (R48, R49). The key gate (R47, R48): the key opens it for the writing session, or restarts its 1 ms
when its opener writes it again; its opener's any other value closes it, and so do 1 ms without a key-gated
write. While the gate is open, a write to KEY from any other session has no effect (R48). The opener's key-gated
write passes once: the gate is closed after it, whatever becomes of the write (R47). -/
def Obligations.KeyGateRules : Prop :=
  (∀ (c : Instr) (s : State) (sess addr : Nat), s.Up → gatedWrite c = some (sess, addr) →
     (∀ g, s.dev.gate = some g → g.opener ≠ sess) → exec c s = .next (s.on (guarded s.dev sess addr))) ∧
  ((∀ (s : State) (sess : Nat), s.Up → (s.dev.gate = none ∨ s.dev.GateFor sess) →
     exec (.keygateOpen sess) s = .next (s.on { s.dev.wrF R.SYS_KEYGATE F.SYS_KEYGATE_OPEN 1 with
       gate := some ⟨sess, s.dev.clk⟩ })) ∧
   (∀ (s : State) (sess : Nat) (key : BitVec 16), s.Up → s.dev.GateFor sess → key ≠ 0xB71E →
     exec (.keygateClose sess key) s = .next (s.on { s.dev.wrF R.SYS_KEYGATE F.SYS_KEYGATE_OPEN 0 with
       gate := none })) ∧
   (∀ (s : State) (g : KeyGate), s.Up → s.dev.gate = some g → g.since + 400000 ≤ s.dev.clk →
     exec .keygateTimeout s = .next (s.on { s.dev.wrF R.SYS_KEYGATE F.SYS_KEYGATE_OPEN 0 with gate := none }))) ∧
  (∀ (s : State) (g : KeyGate) (sess : Nat) (key : BitVec 16), s.dev.gate = some g → g.opener ≠ sess →
     exec (.keygateOpen sess) s = .next s ∧ exec (.keygateClose sess key) s = .next s) ∧
  (∀ (c : Instr) (s : State) (sess addr : Nat), s.Up → gatedWrite c = some (sess, addr) → s.dev.GateFor sess →
     Completes c s (fun d => d.gate = none))

/-- A flag event (R50): SEQ advances by one, from 255 to 1, the flag's bit is set, every other bit of the register
and every other register stay. A clearing write (R51): with the current SEQ it clears exactly the SQ flags
written as 1; with any other SEQ it clears nothing, and where an event of the register falls in the same cycle
the event goes first, so it clears nothing either (R52). Everything else stays. Writing 1 to bits of HST_EVCLRm
clears their pending bits, those of events raised in the same cycle apart, and no other bit of any register
(R60). -/
def Obligations.FlagsAndTheirClearing : Prop :=
  (∀ (d : Dev) (a b : Nat), b < 24 →
     (d.flag a b).rdF a ⟨24, 8⟩ = (if d.rdF a ⟨24, 8⟩ = 255 then 1 else d.rdF a ⟨24, 8⟩ + 1) ∧
     (∀ i, i < 24 → ((d.flag a b).rd a).getLsbD i = (i == b || (d.rd a).getLsbD i)) ∧
     d.OnlyRegs (d.flag a b) [a]) ∧
  (∀ (s : State) (addr : Nat) (value : Word) (r : RegRow), s.Up → findRow addr = some r →
     Completes (.sqClear addr ⟨value, false⟩) s (fun d =>
       (∀ i, i < 32 → (d.rd addr).getLsbD i = ((s.dev.rd addr).getLsbD i &&
         !(getF ⟨24, 8⟩ value == s.dev.rdF addr ⟨24, 8⟩ && i < 24 && value.getLsbD i && r.sq.getLsbD i))) ∧
       s.dev.OnlyRegs d [addr]) ∧
     exec (.sqClear addr ⟨value, true⟩) s = .next s) ∧
  (∀ (s : State) (m : Fin 8) (value same : Word), s.Up →
     Completes (.eventClear m ⟨value, same⟩) s (fun d =>
       (∀ i, i < 32 → (d.rd (R.HST_EVPEND m.val)).getLsbD i
         = ((s.dev.rd (R.HST_EVPEND m.val)).getLsbD i && !(value.getLsbD i && !same.getLsbD i))) ∧
       (∀ a, a ≠ R.HST_EVPEND m.val → d.rd a = s.dev.rd a) ∧ (∀ q, d.queue q = s.dev.queue q) ∧
       d = { s.dev with regs := d.regs, queues := d.queues }))

/-- Raising an event (R58): its pending bit is set, enabled or not; with QUE, an event that was not pending writes
one record to Q49 if there is room; one that was pending writes no second one, and raises the count of the newest of
its records, saturating at 255, where the present pending bit has written one. -/
def Obligations.RaisingAnEvent : Prop :=
  ∀ (d : Dev) (n : Nat), n < 256 → d.queues.q.length = 64 →
    (d.raise n).evPending n = true ∧
    (d.evPending n = true → n ∉ d.queues.counts → (d.raise n).queue 49 = d.queue 49) ∧
    (d.evPending n = true → n ∈ d.queues.counts → ∀ (before behind : List QElem) (e : QElem),
      d.queue 49 = before ++ e :: behind → byteAt e.bytes 0 = n → (∀ x ∈ behind, byteAt x.bytes 0 ≠ n) →
      (d.raise n).queue 49
        = before ++ { e with bytes := upd e.bytes 2 (fun b => byteOf (min 255 (b.toNat + 1))) } :: behind) ∧
    (d.evPending n = false → d.rdF (R.HST_EVCFG n) F.HST_EVCFG_QUE = 0 → (d.raise n).queue 49 = d.queue 49) ∧
    (d.evPending n = false → d.rdF (R.HST_EVCFG n) F.HST_EVCFG_QUE = 1 → (d.queue 49).length < 1536 →
      (d.raise n).queue 49 = d.queue 49 ++ [⟨padTo 64 ([byteOf n, 0, 1, 0] ++ leBytes 4 d.turn.number),
        d.turn.number, d.clk, none, none, true⟩]) ∧
    (∀ q, q ≠ 49 → (d.raise n).queue q = d.queue q) ∧
    (∀ a, a ∉ eventRegs n → (d.raise n).rd a = d.rd a)

/-! Queues (R63 to R67) -/

/-- A full queue refuses the producer's element: the queue keeps its elements, FULL is set with SEQ advanced, and
EV249 is raised (R64). A queue with room takes an element at its end, padded to the queue's element size, with
the turn and the cycle of its entry (R63, R65); no other queue and nothing else changes. -/
def Obligations.QueuePush : Prop :=
  (∀ (d : Dev) (q : Nat) (bytes : List Byte) (ref : Option HostRef), queueDepth q ≤ (d.queue q).length →
     d.push q bytes ref = (d.flag (R.HST_QSTAT q) 16).raise 249 ∧
     (q ≠ 49 → (d.push q bytes ref).queue q = d.queue q)) ∧
  (∀ (d : Dev) (q : Nat) (bytes : List Byte) (ref : Option HostRef), (d.queue q).length < queueDepth q → q < 64 →
     d.queues.q.length = 64 →
     (d.push q bytes ref).queue q
       = d.queue q ++ [⟨padTo (elemSize q) bytes, d.turn.number, d.clk, ref, none, true⟩] ∧
     (∀ p, p ≠ q → (d.push q bytes ref).queue p = d.queue p) ∧
     d.push q bytes ref = { d with queues := (d.push q bytes ref).queues })

/-- A grant never goes to a queue that is empty or whose consumer is not ready (R66). A grant to a notification
queue takes its head away, and touches no other queue (R63, R66). A head over its age limit is promoted, once:
PROMO is set, the promotion count rises, EV248 is raised (R67). A head within its limit, or promoted already,
changes nothing; writing CLR resets the count. -/
def Obligations.GrantAndPromotion : Prop :=
  (∀ (d : Dev) (ready : BitVec 64) (q : Nat), (d.nextGrant ready).1 = some q →
     q < 64 ∧ d.queue q ≠ [] ∧ ready.getLsbD q = true) ∧
  (∀ (s : State) (ready : BitVec 64) (q : Nat), s.Up → 48 ≤ q → q < 56 → (s.dev.nextGrant ready).1 = some q →
     Completes (.queueGrant ready) s (fun d =>
       d.queue q = (s.dev.queue q).tail ∧ (∀ p, p ≠ q → d.queue p = s.dev.queue p) ∧ q ∉ d.queues.promo ∧
       d = { s.dev with queues := d.queues })) ∧
  ((∀ (s : State) (q : Fin 64), s.Up → s.dev.overAge q.val = true → q.val ∉ s.dev.queues.promo →
     exec (.queuePromote q) s = .next (s.on
       ((({ s.dev with queues := { s.dev.queues with promo := q.val :: s.dev.queues.promo } } : Dev).wrF
         R.HST_QPROMOCNT F.HST_QPROMOCNT_TOTAL (min 65535 (s.dev.rdF R.HST_QPROMOCNT F.HST_QPROMOCNT_TOTAL + 1))).flag
         (R.HST_QSTAT q.val) 17 |>.raise 248))) ∧
   (∀ (s : State) (q : Fin 64), (s.dev.overAge q.val = false ∨ q.val ∈ s.dev.queues.promo) →
     exec (.queuePromote q) s = .next s) ∧
   (∀ s : State, s.Up → exec .promocntClr s = .next (s.on
     (s.dev.wrF R.HST_QPROMOCNT F.HST_QPROMOCNT_TOTAL 0))))

/-! Functions with a shutdown sequence (R53 to R56) -/

/-- The write of an enable field. -/
def enableWrite (sess : Nat) (en same : Bool) : Func → Instr
  | .xch n => .xchEnWrite sess n ⟨en, same⟩
  | .supply n => .loopSupplyEnWrite sess n ⟨en, same⟩
  | .qch n => .qchPwrEnWrite sess n ⟨en, same⟩
  | .panel => .panelEnWrite sess ⟨en, same⟩
  | .link => .linkEnWrite sess ⟨en, same⟩

/-- Writes to an enable field act on STATE as the table of R54 states, with the gate open and no force on the
function; VHVLOW holds a start-up back (R491). An enable write while a force stands, or in the cycle of a force,
has no effect but a HOSTOVR entry with the result "overridden" (R34, R56). The end of a start-up sequence turns
RAMP_UP into ON; the end of a shutdown sequence turns RAMP_DOWN into OFF, or with PEND at 1 into a new start-up
with PEND cleared, unless VHVLOW holds it back; in any other STATE they change nothing (R53, R55, R491). -/
def Obligations.FunctionSequences : Prop :=
  (∀ (s : State) (sess : Nat) (f : Func) (en : Bool), s.Up → s.dev.GateFor sess →
     s.dev.closeGate.fForced f = false → s.dev.closeGate.fExists f = true →
     Completes (enableWrite sess en false f) s (fun d =>
       d.gate = none ∧ d.fEn f = en ∧
       (s.dev.fState f = 0 → d.fState f = if en && !(f.byVhv && s.dev.vhvlow) then 1 else 0) ∧
       ((s.dev.fState f = 1 ∨ s.dev.fState f = 2) → d.fState f = if en then s.dev.fState f else 3) ∧
       (s.dev.fState f = 3 → d.fState f = 3 ∧ d.rdF f.reg ⟨31, 1⟩ = b2n en))) ∧
  (∀ (s : State) (sess : Nat) (f : Func) (en same : Bool), s.Up → s.dev.GateFor sess →
     (s.dev.closeGate.fForced f = true ∨ same = true) → exec (enableWrite sess en same f) s = .next (s.on
       (s.dev.closeGate.happen (hostOvr f.reg (BitVec.ofNat 32 (b2n en)) 1 resOverridden sess)))) ∧
  ((∀ (s : State) (f : Func), s.Up → s.dev.fState f = 1 →
     Completes (.startupSeqDone f) s (fun d => d.fState f = 2)) ∧
   (∀ (s : State) (f : Func), s.Up → s.dev.fState f = 3 → s.dev.rdF f.reg ⟨31, 1⟩ = 0 →
     Completes (.shutdownSeqDone f) s (fun d => d.fState f = 0)) ∧
   (∀ (s : State) (f : Func), s.Up → s.dev.fState f = 3 → s.dev.rdF f.reg ⟨31, 1⟩ = 1 →
     Completes (.shutdownSeqDone f) s (fun d =>
       d.rdF f.reg ⟨31, 1⟩ = 0 ∧ d.fState f = if f.byVhv && s.dev.vhvlow then 0 else 1)) ∧
   (∀ (s : State) (f : Func), s.dev.fState f ≠ 1 → exec (.startupSeqDone f) s = .next s) ∧
   (∀ (s : State) (f : Func), s.dev.fState f ≠ 3 → exec (.shutdownSeqDone f) s = .next s))

/-! The turn (chapter 01) -/

/-- A solo device whose turns run, between two turns, with nothing that its next sample latch would do first: no
swap, no decommissioning, no sleep, no castling. -/
def soloBetweenTurns (d : Dev) : Prop :=
  d.role = 1 ∧ d.turnsRun = true ∧ d.turn.run = none ∧ d.pair.castle = 0 ∧ d.vault.decomm = none ∧
    d.vault.swapReq = false ∧ d.vault.swapTurn = none ∧ d.vault.swapFrom = none ∧ d.sleepReady = false ∧
    d.wbWord R.PWR_SLEEP = none

/-- A sample latch begins the next turn: its number is one higher, PB0 counts from this cycle (R9, R69), and while
evaluation has not completed the lattice stays as the last completed turn left it (R18). -/
def Obligations.SampleLatchBeginsTheTurn : Prop :=
  ∀ (s : State) (evalUs commitUs : Nat), s.Up → soloBetweenTurns s.dev →
    Completes (.sampleLatch evalUs commitUs) s (fun d =>
      d.turn.number = s.dev.turn.number + 1 ∧ d.turn.since = s.dev.clk ∧
      (64 < evalUs → d.turn.cur = s.dev.turn.cur ∧ d.turn.run.map TurnRun.phase = some .evaluating))

/-- An overrun turn (R27, R28): a turn whose evaluation has not completed at 64 µs, or whose commit has not
completed at the commit deadline, keeps its number, leaves the lattice, what emissions follow, the ingress
queues, the commands latched and the placements as they were, counts in OVRTOTAL and sets its flags; here for a
turn that follows a completed one. A commit that lacks only the peer's acknowledgement in a turn in which the
link is declared lost completes in the solo manner at the commit deadline, and sets LINKSOLO (R27); one that
lacks the acknowledgement alone with the link up makes an overrun turn with ACKLATE. -/
def Obligations.OverrunTurnDiscardsItsWork : Prop :=
  (∀ (s : State) (r : TurnRun), s.Up → s.dev.turn.run = some r → s.dev.turn.overruns = 0 → s.dev.wtc.counted = 0 →
     ∀ (c : Instr) (bits : Nat),
       (c = .evalDeadline ∧ r.phase = .evaluating ∧ bits = 1) ∨
       (c = .commitDeadline ∧ r.phase = .evaluating ∧ bits = 3) ∨
       (c = .commitDeadline ∧ r.phase = .committing ∧ bits = 2) →
       Completes c s (fun d =>
         d.turn.number = s.dev.turn.number ∧ d.turn.cur = s.dev.turn.cur ∧ d.turn.view = s.dev.turn.view ∧
         d.turn.arrived = s.dev.turn.arrived ∧ d.turn.toEmit = s.dev.turn.toEmit ∧
         d.turn.places = s.dev.turn.places ∧ d.jrn.ing = s.dev.jrn.ing ∧ d.jrn.wbuf = s.dev.jrn.wbuf ∧
         d.turn.run = some { r with phase := .overrun } ∧ d.turn.overruns = 1 ∧
         d.rdF R.SYS_TURNSTAT F.SYS_TURNSTAT_OVRTOTAL
           = min 65535 (s.dev.rdF R.SYS_TURNSTAT F.SYS_TURNSTAT_OVRTOTAL + 1) ∧
         (∀ b, b < 3 → bitOf bits b = true → d.rdF R.SYS_TURNSTAT ⟨b, 1⟩ = 1) ∧ d.evPending 2 = true)) ∧
  (∀ (s : State) (r : TurnRun), s.Up → s.dev.turn.run = some r → r.phase = .waiting → s.dev.role = 2 →
     r.acked = false → r.commitUs ≤ s.dev.commitLimit →
     (s.dev.pair.lostNow = true → exec .commitDeadline s = .next (s.on
       ((s.dev.complete (max ((s.dev.clk - s.dev.turn.since) / 400) r.commitUs)).flag R.SYS_TURNSTAT 5))) ∧
     (s.dev.pair.lostNow = false → s.dev.peerUp = true → Completes .commitDeadline s (fun d =>
       d.turn.run = some { r with phase := .overrun } ∧ d.turn.cur = s.dev.turn.cur ∧
       d.turn.number = s.dev.turn.number ∧ d.rdF R.SYS_TURNSTAT F.SYS_TURNSTAT_ACKLATE = 1 ∧ d.jrn.ing = s.dev.jrn.ing)))

/-- The device emits nothing that its commit has not completed, and nothing twice (R23). The emit of a completed
turn applies all its emissions at once: nothing stays placed or waiting, EV1 is raised, and the turn has emitted
(R23, R42). -/
def Obligations.EmissionsAtEmit : Prop :=
  (∀ s : State, (∀ r, s.dev.turn.run = some r → r.phase ≠ .completed ∨ r.emitted = true) → exec .emit s = .next s) ∧
  (∀ (s : State) (r : TurnRun), s.Up → s.dev.turn.run = some r → r.phase = .completed → r.emitted = false →
     Completes .emit s (fun d => d.turn.toEmit = [] ∧ d.turn.places = [] ∧ d.evPending 1 = true ∧
       d.turn.run = some { r with emitted := true } ∧ d.turn.cur = s.dev.turn.cur ∧
       d.turn.number = s.dev.turn.number ∧ d.clk = s.dev.clk))

/-- Writing CLR in SYS_TIMINGMAX waits for the next turn start and changes nothing before it; the turn start then
resets both maxima (R4, register SYS_TIMINGMAX). A read of SYS_TURNNUM_LO latches the high bits of the turn
number (register SYS_TURNNUM_HI) and changes no other register. A window of the clock monitor (R37): the second
consecutive measured window outside the limit sets the domain's flag with SEQ, raises EV4 and declares the
dangerous fault; a window within the limit ends the run; a domain not measured neither counts nor breaks a run;
here with one domain outside its limit. -/
def Obligations.TimingAndClockMonitor : Prop :=
  ((∀ s : State, s.Up →
     exec .timingmaxClr s = .next (s.on { s.dev with turn := { s.dev.turn with clrMax := true } })) ∧
   (∀ d : Dev, d.turn.clrMax = true → d.timingClear.rdF R.SYS_TIMINGMAX F.SYS_TIMINGMAX_CDONE = 0 ∧
     d.timingClear.rdF R.SYS_TIMINGMAX F.SYS_TIMINGMAX_EVAL = 0 ∧ d.timingClear.turn.clrMax = false ∧
     ∀ a, a ≠ R.SYS_TIMINGMAX → d.timingClear.rd a = d.rd a) ∧
   (∀ s : State, s.Up → Completes .turnnumLoRead s (fun d =>
     d.rdF R.SYS_TURNNUM_HI F.SYS_TURNNUM_HI_TURN_HI = s.dev.turn.number / 2 ^ 32 % 65536 ∧
     s.dev.OnlyRegs d [R.SYS_TURNNUM_HI]))) ∧
  (∀ (s : State) (k : Nat), s.Up → k < 11 → k ≠ 9 → s.dev.turn.clkRuns.length = 11 →
     (s.dev.turn.clkRuns[k]? = some 1 → exec (.clockWindow (BitVec.ofNat 11 (2 ^ k)) (BitVec.ofNat 11 (2 ^ k))) s
       = .next (s.on (((({ s.dev with turn := { s.dev.turn with clkRuns := s.dev.turn.clkRuns.set k 2 } } : Dev).flag
           R.SYS_CLKSTAT k).raise 4).declare (if k ≤ 2 then 0x01 else if k = 8 then 0x03 else 0x02) k))) ∧
     (s.dev.turn.clkRuns[k]? = some 0 → exec (.clockWindow (BitVec.ofNat 11 (2 ^ k)) (BitVec.ofNat 11 (2 ^ k))) s
       = .next (s.on { s.dev with turn := { s.dev.turn with clkRuns := s.dev.turn.clkRuns.set k 1 } })) ∧
     exec (.clockWindow (BitVec.ofNat 11 (2 ^ k)) 0) s
       = .next (s.on { s.dev with turn := { s.dev.turn with clkRuns := s.dev.turn.clkRuns.set k 0 } }) ∧
     (∀ out : BitVec 11, exec (.clockWindow 0 out) s = .next s))

/-! Phase bases and the schedule (chapter 03) -/

/-- The 20 ns ticks of the edge timer since the last accepted edge of an input, in its 32 bits (R70). -/
def sinceEdge (d : Dev) (last : Nat) : Nat := (d.clk / 8 % 2 ^ 32 + 2 ^ 32 - last % 2 ^ 32) % 2 ^ 32

/-- Whether the signal's height before an edge reached what its mode asks (R71): in VR a quarter of the last peak and the
floor LEVEL, in MAINS the hysteresis LEVEL, both in units of 20 mV. -/
def ReachesLevel (d : Dev) (m : Nat) (r : AngleRec) (peak : Nat) : Prop :=
  (r.mode = 1 → 20 * r.level ≤ peak ∧ ∀ p, d.phs.lastPeak[m]? = some p → p ≤ 4 * peak) ∧
  (r.mode = 3 → 20 * r.level ≤ peak)

/-- An edge that is none in its input's mode, whose signal was too low, or that comes less than EDGEFLT after the
last accepted edge of the same input, shows only in LEVEL_NOW, and in VR its height is the last peak (R71, R72).
An accepted edge of a base at STANDSTILL takes it to SEEKING (R79), with its count kept and the edge timer's
stamp (R70) noted for the next period; here for the only base bound to the input. No accepted edge for STILLT
takes a base to STANDSTILL: STILL is set and its event raised, SPEED reads 0; out of SYNC LOSS is set too, with
its event and its count (R79). A base at STANDSTILL, and PB0, stay as they are. An entry that is not flagged
late leaves no mark; a late-flagged one that runs sets LATE with SEQ, counts in PHS_LATECNT, saturating, and
raises EV28 (R84), here seen on NOP, which does nothing else (R88); without a NOP entry that runs in the image
nothing happens. Writing CLR resets the count, and of PHS_JUMPn the largest correction, and nothing else. -/
def Obligations.EdgesAndLateEntries : Prop :=
  (∀ (s : State) (m : Fin 6) (peak : Nat) (level : Bool) (r : AngleRec), s.Up →
     s.dev.phs.lastPeak.length = 6 → s.dev.image.phsb.inputs[m.val]? = some r →
     (r.mode = 0 ∨ (r.mode = 1 ∧ level = true) ∨ ((r.mode = 2 ∨ r.mode = 3) ∧ level = false) ∨
       ¬ ReachesLevel s.dev m.val r peak ∨
       (∃ l, s.dev.phs.lastEdge[m.val]? = some (some l) ∧ sinceEdge s.dev l < 5 * r.edgeflt)) →
     let d := s.dev.wrF (R.PHS_INP m.val) F.PHS_INP_LEVEL_NOW (b2n level)
     (r.mode ≠ 1 ∨ level = true → exec (.angleEdge m peak level) s = .next (s.on d)) ∧
     (r.mode = 1 → level = false → exec (.angleEdge m peak level) s
       = .next (s.on { d with phs := { s.dev.phs with lastPeak := upd s.dev.phs.lastPeak m.val (fun _ => peak) } }))) ∧
  (∀ (s : State) (m : Fin 6) (peak : Nat) (level : Bool) (r : AngleRec) (b : Nat), s.Up → 1 ≤ b → b ≤ 3 →
     s.dev.phs.bases.length = 3 → s.dev.image.phsb.inputs[m.val]? = some r →
     ((r.mode = 1 ∧ level = false) ∨ ((r.mode = 2 ∨ r.mode = 3) ∧ level = true)) →
     s.dev.phs.lastPeak.length = 6 → ReachesLevel s.dev m.val r peak →
     (∀ l, s.dev.phs.lastEdge[m.val]? = some (some l) → 5 * r.edgeflt ≤ sinceEdge s.dev l) →
     (∀ c, 1 ≤ c → c ≤ 3 → c ≠ b → (s.dev.baseRec c).kind = 0) → (s.dev.baseRec b).kind ≠ 0 →
     (s.dev.baseRec b).tpin = m.val → (s.dev.baseRec b).ipin ≠ m.val → (s.dev.base b).state = 0 →
     Completes (.angleEdge m peak level) s (fun d =>
       (d.base b).state = 1 ∧ (d.base b).tPrev = s.dev.clk / 8 % 2 ^ 32 ∧ (d.base b).acc = (s.dev.base b).acc ∧
       d.rdF (R.PHS_STAT b) F.PHS_STAT_STATE = 1 ∧ d.rdF (R.PHS_INP m.val) F.PHS_INP_LEVEL_NOW = b2n level)) ∧
  ((∀ (s : State) (b : Fin 4), s.Up → b.val ≠ 0 → s.dev.phs.bases.length = 3 → (s.dev.base b.val).state ≠ 0 →
     Completes (.standstillTimeout b) s (fun d => (d.base b.val).state = 0)) ∧
   (∀ (s : State) (b : Fin 4), s.Up → b.val ≠ 0 → s.dev.phs.bases.length = 3 →
     ((s.dev.base b.val).state = 1 ∨ (s.dev.base b.val).state = 2) → (s.dev.base b.val).lost = false →
     Completes (.standstillTimeout b) s (fun d =>
       d.rdF (R.PHS_STAT b.val) ⟨14, 1⟩ = 1 ∧ d.rdF (R.PHS_STAT b.val) F.PHS_STAT_STATE = 0 ∧
       d.rdF (R.PHS_SPEED b.val) F.PHS_SPEED_SPEED = 0 ∧ d.evPending (21 + b.val) = true)) ∧
   (∀ (s : State) (b : Fin 4), s.Up → b.val ≠ 0 → s.dev.phs.bases.length = 3 → (s.dev.base b.val).state = 3 →
     Completes (.standstillTimeout b) s (fun d =>
       d.rdF (R.PHS_STAT b.val) ⟨14, 1⟩ = 1 ∧ d.rdF (R.PHS_STAT b.val) ⟨15, 1⟩ = 1 ∧
       d.rdF (R.PHS_STAT b.val) F.PHS_STAT_STATE = 0 ∧ d.rdF (R.PHS_SPEED b.val) F.PHS_SPEED_SPEED = 0 ∧
       d.rdF (R.PHS_CNT b.val) F.PHS_CNT_LOSSES = min 255 (s.dev.rdF (R.PHS_CNT b.val) F.PHS_CNT_LOSSES + 1) ∧
       d.evPending (21 + b.val) = true ∧ d.evPending (18 + b.val) = true ∧ (d.base b.val).angleOn = false)) ∧
   (∀ (s : State) (b : Fin 4), (b.val = 0 ∨ (s.dev.base b.val).state = 0) → exec (.standstillTimeout b) s = .next s)) ∧
  ((∀ s : State, exec (.nop false) s = .next s) ∧
   (∀ s : State, s.Up → s.dev.entryRuns 0 0 none none = true → exec (.nop true) s = .next (s.on
     (((s.dev.wrF R.PHS_LATECNT F.PHS_LATECNT_COUNT
       (min 65535 (s.dev.rdF R.PHS_LATECNT F.PHS_LATECNT_COUNT + 1))).flag R.PHS_ENGSTAT 0).raise 28))) ∧
   (∀ s : State, s.dev.entryRuns 0 0 none none = false → exec (.nop true) s = .next s) ∧
   (∀ s : State, s.Up → exec .latecntClr s = .next (s.on (s.dev.wrF R.PHS_LATECNT F.PHS_LATECNT_COUNT 0))) ∧
   (∀ (s : State) (b : Fin 4), s.Up →
     exec (.jumpClr b) s = .next (s.on (s.dev.wrF (R.PHS_JUMP b.val) F.PHS_JUMP_MAXJ 0))))

/-- Between teeth the count moves by the increment in each CK_ANG cycle and holds one count short of the next
tooth's position, and the cycle counter counts its wraps (R75). At a tooth it takes the tooth's position; a
count held ahead of the true phase stays until the phase has reached it, so it never steps back (R76, R83). The
count of PB0 (R69): 0 at the turn start, and in every CK_SYS cycle 2^32 div (400 × TLEN) units of 1/4096 count
further, TLEN in µs. A base dispatches at most four entries in a CK_ANG cycle, in the order in which they fell
due, and the rest wait (R91). -/
def Obligations.BaseCounts : Prop :=
  ((∀ x : Base, 2 ≤ x.state → x.hold = false → x.acc = x.ph → x.acc < 2 ^ 32 → x.limit < 2 ^ 32 →
     (baseTick x).acc = (x.acc + min x.incr ((x.limit + 2 ^ 32 - x.acc) % 2 ^ 32)) % 2 ^ 32 ∧
     (x.acc = x.limit → (baseTick x).acc = x.acc) ∧
     (baseTick x).cyc = if (baseTick x).acc < x.acc then (x.cyc + 1) % 2 ^ 12 else x.cyc) ∧
   (∀ x : Base, x.state < 2 → baseTick x = x) ∧
   (∀ (r : BaseRec) (x : Base) (s n t : Nat),
     (x.hold = false → (settleCount (interpolate r x s n t)).acc = r.pos s * 4096) ∧
     (x.hold = true → ahead x.acc (r.pos s * 4096) = true →
       (settleCount (interpolate r x s n t)).acc = x.acc ∧ (settleCount (interpolate r x s n t)).hold = true) ∧
     (x.hold = true → ahead x.acc (r.pos s * 4096) = false →
       (settleCount (interpolate r x s n t)).acc = r.pos s * 4096 ∧
       (settleCount (interpolate r x s n t)).hold = false))) ∧
  ((∀ d : Dev, 0 < d.image.phsb.tlen → d.turn.since ≤ d.clk →
     d.pb0 = (2 ^ 32 / (400 * (10 * d.image.phsb.tlen)) * (d.clk - d.turn.since)) / 4096 % 2 ^ 20) ∧
   (∀ (d : Dev) (b : Nat),
     (d.popDue b).1 = (d.phs.due.filter (fun u => u.base == b)).take (4 - d.phs.sent.getD b 0) ∧
     (d.popDue b).1 ++ (d.popDue b).2.phs.due.filter (fun u => u.base == b)
       = d.phs.due.filter (fun u => u.base == b) ∧
     (d.popDue b).2.phs.due.filter (fun u => u.base != b) = d.phs.due.filter (fun u => u.base != b)))

/-! Universal inputs (chapter 04) -/

/-- A device whose four converters and 48 channels have their state. -/
def uinShape (d : Dev) : Prop := d.uin.scans.length = 4 ∧ d.uin.chans.length = 48

/-- The step of a converter in progress, or its last one. -/
def stepNow (d : Dev) (m : Nat) : UiStep := (d.uconv m).stepAt (d.scan m).step

/-- A MUX entry on a SCHED converter that is idle or waiting starts the step that ARG selects, 0xFF the one after
the last, wrapping at LEN; while a step runs the entry is dropped, with MUXDROP, DROPS and EV48 (R106). Without
such an entry that runs in the schedule nothing happens. A step whose START is ENTRY begins its main conversion
at a SAMPLE entry for its channel: one in its settling delay is held until the delay ends, one in the waiting
step starts the conversion at once, and without one the step waits; a SAMPLE at any other time, the 2 µs of the
multiplexer switch among them, has no effect but SMPLSKIP, SKIPS and EV49. A step whose START is AUTO begins
when its settling delay ends (R107). Without a SAMPLE entry that runs in the schedule nothing happens. -/
def Obligations.ScanEntries : Prop :=
  ((∀ (s : State) (m : Fin 4) (arg : BitVec 8), s.Up → uinShape s.dev → (s.dev.uconv m.val).mode = 2 →
     s.dev.entryRuns 7 (96 + m.val) (some arg.toNat) none = true →
     ((s.dev.scan m.val).phase = 0 ∨ (s.dev.scan m.val).phase = 2) →
     Completes (.mux m arg false) s (fun d =>
       (d.scan m.val).phase = 1 ∧ (d.scan m.val).sampled = false ∧
       (d.scan m.val).step = (if arg = 0xFF then
         (if (s.dev.scan m.val).step + 1 ≥ (s.dev.uconv m.val).len then 0 else (s.dev.scan m.val).step + 1)
         else arg.toNat) ∧
       (∀ k, k ≠ m.val → d.scan k = s.dev.scan k) ∧ d.uin.chans = s.dev.uin.chans)) ∧
   (∀ (s : State) (m : Fin 4) (arg : BitVec 8), s.Up → (s.dev.uconv m.val).mode = 2 →
     s.dev.entryRuns 7 (96 + m.val) (some arg.toNat) none = true →
     (s.dev.scan m.val).phase ≠ 0 → (s.dev.scan m.val).phase ≠ 2 →
     exec (.mux m arg false) s = .next (s.on (((s.dev.incF (R.UIN_SCCNT m.val) F.UIN_SCCNT_DROPS).flag
       (R.UIN_SCSTAT m.val) 21).raise 48))) ∧
   (∀ (s : State) (m : Fin 4) (arg : BitVec 8) (late : Bool),
     s.dev.entryRuns 7 (96 + m.val) (some arg.toNat) none = false → exec (.mux m arg late) s = .next s)) ∧
  (∀ (s : State) (m : Fin 4) (n : Nat), s.Up → uinShape s.dev → n / 12 = m.val → n < 48 →
     ((stepNow s.dev m.val).kind = 0 → (stepNow s.dev m.val).entryStart = true → (stepNow s.dev m.val).chan = n →
       (s.dev.entryRuns 1 n none none = true → s.dev.uSettling m.val = true → Completes (.sample n 0 false) s (fun d =>
         (d.scan m.val).sampled = true ∧ (d.scan m.val).phase = 1)) ∧
       (s.dev.entryRuns 1 n none none = true → (s.dev.scan m.val).phase = 2 → Completes (.sample n 0 false) s (fun d => (d.scan m.val).phase = 3)) ∧
       ((s.dev.scan m.val).phase = 1 → Completes (.settleEnd m) s (fun d =>
         (d.scan m.val).phase = if (s.dev.scan m.val).sampled then 3 else 2))) ∧
     ((stepNow s.dev m.val).entryStart = false → (s.dev.scan m.val).phase = 1 →
       Completes (.settleEnd m) s (fun d => (d.scan m.val).phase = 3)) ∧
     (s.dev.entryRuns 1 n none none = false → exec (.sample n 0 false) s = .next s) ∧
     (s.dev.entryRuns 1 n none none = true →
       ¬ ((stepNow s.dev m.val).kind = 0 ∧ (stepNow s.dev m.val).entryStart = true ∧ (stepNow s.dev m.val).chan = n ∧
         (s.dev.uSettling m.val = true ∨ (s.dev.scan m.val).phase = 2)) →
       exec (.sample n 0 false) s = .next (s.on (((s.dev.incF (R.UIN_SCCNT m.val) F.UIN_SCCNT_SKIPS).flag
         (R.UIN_SCSTAT m.val) 20).raise 49))))

/-- The end of a channel's post-check releases one status (R117 to R119). A sensor fault replaces the status alone:
the value and its age keep counting from the last release with a value. Without a fault the value is released, here
for the VOLT mode, clipped to its range with OVER or UNDER (R113, R114). A discarded step releases nothing and
counts in DROPS (R120). -/
def Obligations.PostcheckReleases : Prop :=
  ∀ (s : State) (m : Fin 4) (rloop n : Nat) (checks : BitVec 4), s.Up → uinShape s.dev → n < 48 →
    (s.dev.scan m.val).phase = 5 → (stepNow s.dev m.val).kind = 0 → (stepNow s.dev m.val).chan = n →
    (s.dev.scan m.val).diag = false → (s.dev.uconv m.val).mode = 2 →
    (s.dev.scan m.val).step + 1 ≠ (s.dev.uconv m.val).len →
    ((s.dev.scan m.val).drop = false → s.dev.uCheck m.val n rloop checks ≠ 0 →
      Completes (.postcheckEnd m rloop checks) s (fun d =>
        d.rdF (R.UIN_STS n) F.UIN_STS_STATUS = s.dev.uCheck m.val n rloop checks % 16 ∧
        d.rd (R.UIN_VAL n) = s.dev.rd (R.UIN_VAL n) ∧
        (d.uin.chans[n]?).map UChan.relClk = (s.dev.uin.chans[n]?).map UChan.relClk ∧
        (d.uin.chans[n]?).map UChan.clamp = some false ∧ (d.scan m.val).phase = 0)) ∧
    ((s.dev.scan m.val).drop = false → s.dev.uCheck m.val n rloop checks = 0 → (s.dev.urec n).mode = 3 →
      Completes (.postcheckEnd m rloop checks) s (fun d =>
        let x := clipRange (uRange (s.dev.urec n)).1 (uRange (s.dev.urec n)).2
          (voltOut (s.dev.urec n).subtype (s.dev.scan m.val).code)
        d.rdF (R.UIN_STS n) F.UIN_STS_STATUS = x.1 ∧ d.rd (R.UIN_VAL n) = wordOfInt x.2 ∧
        (d.uin.chans[n]?).map UChan.relClk = some (some s.dev.clk) ∧ (d.scan m.val).phase = 0)) ∧
    ((s.dev.scan m.val).drop = true →
      Completes (.postcheckEnd m rloop checks) s (fun d =>
        d.rd (R.UIN_STS n) = s.dev.rd (R.UIN_STS n) ∧ d.rd (R.UIN_VAL n) = s.dev.rd (R.UIN_VAL n) ∧
        d.rdF (R.UIN_SCCNT m.val) F.UIN_SCCNT_DROPS
          = min 255 (s.dev.rdF (R.UIN_SCCNT m.val) F.UIN_SCCNT_DROPS + 1) ∧
        d.uin.chans = s.dev.uin.chans ∧ (d.scan m.val).phase = 0))

/-- The phases after the settling delay (R104): the main conversion of a CHAN or CJ step goes on to the post-check
with its code, that of a 3-wire RTD first to the lead conversion, and a lead conversion to the post-check. A
REFCHK result outside ±0.05 % of its expected code, after one within it or after none, sets REFFLT for the
converter and raises its event; later channel steps release CONVFAULT until a result lies within tolerance
(R121). -/
def Obligations.ScanConversions : Prop :=
  ((∀ (s : State) (m : Fin 4) (code : BitVec 24), s.Up → uinShape s.dev → (s.dev.scan m.val).phase = 3 →
     (stepNow s.dev m.val).kind ≠ 2 →
     Completes (.uinConversionEnd m code) s (fun d =>
       (d.scan m.val).phase = (if (stepNow s.dev m.val).kind = 0 ∧
         (s.dev.urec (stepNow s.dev m.val).chan).mode = 2 ∧ (s.dev.urec (stepNow s.dev m.val).chan).wires = 2
         then 4 else 5) ∧
       (d.scan m.val).code = code.toInt ∧ d.uin.chans = s.dev.uin.chans)) ∧
   (∀ (s : State) (m : Fin 4) (code : BitVec 24), s.Up → uinShape s.dev → (s.dev.scan m.val).phase = 4 →
     Completes (.leadConversionEnd m code) s (fun d =>
       (d.scan m.val).phase = 5 ∧ (d.scan m.val).lcode = code.toInt ∧
       (d.scan m.val).code = (s.dev.scan m.val).code ∧ d.uin.chans = s.dev.uin.chans))) ∧
  ((∀ (s : State) (m : Fin 4) (code : BitVec 24), s.Up → uinShape s.dev → (s.dev.scan m.val).phase = 3 →
     (stepNow s.dev m.val).kind = 2 → (s.dev.uconv m.val).mode = 2 →
     (s.dev.scan m.val).step + 1 ≠ (s.dev.uconv m.val).len →
     Completes (.refchkEnd m code) s (fun d =>
       (d.scan m.val).refBad = refFails code.toInt (Config.refchkCode m.val) ∧ (d.scan m.val).phase = 0 ∧
       (refFails code.toInt (Config.refchkCode m.val) = true → (s.dev.scan m.val).refBad = false →
         d.rdF R.UIN_STAT ⟨12 + m.val, 1⟩ = 1 ∧ d.evPending (36 + m.val) = true) ∧
       (refFails code.toInt (Config.refchkCode m.val) = false → d.rd R.UIN_STAT = s.dev.rd R.UIN_STAT))) ∧
   (∀ (d : Dev) (m n rloop : Nat) (checks : BitVec 4), (d.scan m).refBad = true →
     (d.uin.chans.getD n UChan.empty).clamp = false → d.uCheck m n rloop checks = 8) ∧
   (∀ code expected : Int, refFails code expected = decide (2000 * (code - expected).natAbs > expected.natAbs)))

/-- A clamp current sets CLAMP, raises EV45 and decides the channel's next release (R100, R118); its detector runs through
a reset of the digital die, after which the clamp is shown, and not without supply. A diagnostic
request acts at once on a channel that is not in conversion, and waits with PEND on one that is (R43, R44). -/
def Obligations.ClampAndDiagnosticRequest : Prop :=
  (∀ (s : State) (n : Fin 48), s.Up → exec (.uinClamp n) s = .next (s.on
    (((s.dev.setUch n.val (fun c => { c with clamp := true })).flag (R.UIN_STS n.val) 23).raise 45))) ∧
  (∀ (s : State) (n : Fin 48), s.dev.pwr.boot = 1 ∨ s.dev.pwr.boot = 2 → exec (.uinClamp n) s = .next (s.on
    (s.dev.setUch n.val (fun c => { c with clamp := true, clampDue := true })))) ∧
  (∀ (s : State) (n : Fin 48), s.dev.pwr.boot = 0 → exec (.uinClamp n) s = .next s) ∧
  (∀ (d : Dev) (m n rloop : Nat) (checks : BitVec 4), (d.uin.chans.getD n UChan.empty).clamp = true →
    d.uCheck m n rloop checks = 5) ∧
  (∀ (s : State) (n : Fin 48) (req : Bool), s.Up → s.dev.uConverting n.val = false →
    s.dev.wbWord (R.UIN_DIAG n.val) = none → s.dev.rdF (R.UIN_DIAG n.val) ⟨31, 1⟩ = 0 →
    Completes (.diagRequest n req) s (fun d =>
      d.rdF (R.UIN_DIAG n.val) F.UIN_DIAG_REQ = b2n req ∧ d.rdF (R.UIN_DIAG n.val) ⟨31, 1⟩ = 0)) ∧
  (∀ (s : State) (n : Fin 48), s.Up → s.dev.uConverting n.val = true →
    s.dev.rdF (R.UIN_DIAG n.val) F.UIN_DIAG_REQ = 0 →
    Completes (.diagRequest n true) s (fun d =>
      d.rdF (R.UIN_DIAG n.val) F.UIN_DIAG_REQ = 0 ∧ d.rdF (R.UIN_DIAG n.val) ⟨31, 1⟩ = 1))

/-! Charge channels (chapter 05) -/

/-- The windows of a channel (R136): without power the actions have no effect; one that finds its window already as
it would leave it has none but WINERR and EV74; otherwise it opens or closes exactly its window. Opening the ACQ
window cuts a test sequence (R145) and moves to the next of the 32 ring slots (R155); closing the QUIET window of a
test sequence cuts it (R145). Without such an entry that runs in the schedule nothing happens. -/
def Obligations.WindowActions : Prop :=
  ∀ (s : State) (n : Fin 12) (arg : BitVec 8), s.Up → s.dev.qch.chans.length = 12 →
    let w := arg.toNat % 8
    let c := s.dev.qc n.val
    let opens := s.dev.entryRuns 2 (64 + n.val) (some arg.toNat) none
    let closes := s.dev.entryRuns 3 (64 + n.val) (some arg.toNat) none
    (s.dev.qOn n.val = false ∨ opens = false → exec (.winopen n arg false) s = .next s) ∧
    (s.dev.qOn n.val = false ∨ closes = false → exec (.winclose n arg false) s = .next s) ∧
    (s.dev.qOn n.val = true → opens = true → closes = true → bitOf c.win w = true →
      exec (.winopen n arg false) s = .next (s.on ((s.dev.flag (R.QCH_STS n.val) 16).raise 74)) ∧
      Completes (.winclose n arg false) s (fun d =>
        (∀ k, bitOf (d.qc n.val).win k = (bitOf c.win k && k != w)) ∧
        (d.qc n.val).test = (if c.test.any (fun t => t.window == some w) then none else c.test) ∧
        (∀ k, k ≠ n.val → d.qc k = s.dev.qc k) ∧ d = { s.dev with qch := d.qch } ∧
        d.qch.ring = s.dev.qch.ring ∧ d.qch.desc = s.dev.qch.desc)) ∧
    (s.dev.qOn n.val = true → opens = true → closes = true → bitOf c.win w = false →
      exec (.winclose n arg false) s = .next (s.on ((s.dev.flag (R.QCH_STS n.val) 16).raise 74)) ∧
      ((s.dev.qrec n.val).acq.kind w ≠ 1 → Completes (.winopen n arg false) s (fun d =>
        (∀ k, bitOf (d.qc n.val).win k = (bitOf c.win k || k == w)) ∧ (d.qc n.val).test = c.test ∧
        (∀ k, k ≠ n.val → d.qc k = s.dev.qc k) ∧ d = { s.dev with qch := d.qch } ∧
        d.qch.ring = s.dev.qch.ring ∧ d.qch.desc = s.dev.qch.desc)) ∧
      ((s.dev.qrec n.val).acq.kind w = 1 → Completes (.winopen n arg false) s (fun d =>
        (∀ k, bitOf (d.qc n.val).win k = (bitOf c.win k || k == w)) ∧ (d.qc n.val).test = none ∧
        (d.qc n.val).slot = (c.slot + 1) % 32 ∧ (d.qc n.val).cyc.opened = true ∧ (d.qc n.val).blocked = false ∧
        (∀ k, k ≠ n.val → d.qc k = s.dev.qc k) ∧ d.qch.ring = s.dev.qch.ring)))

/-- QRESET and the test sequence (R136, R145 to R147): QRESET starts the sequence in an open QUIET window with the
ACQ window closed, as a fallback entry in any case, sets RSTSKIP and raises EV71 otherwise, and does nothing while one runs or without power. The
end of the sequence evaluates the codes in the order of R146: c0 or c2 off by more than 328 codes is CHFAULT; its
end stops the sequence and, in a QUIET window that has had no release, releases the held results of a good cycle as
GOOD, or a failing outcome in their place. -/
def Obligations.TestSequence : Prop :=
  (∀ (s : State) (n : Fin 12), s.Up → s.dev.qch.chans.length = 12 →
    let runs := s.dev.entryRuns 4 (64 + n.val) none (some false)
    ((s.dev.qOn n.val = false ∨ (s.dev.qc n.val).test ≠ none ∨ runs = false) →
      exec (.qreset n false false) s = .next s) ∧
    (runs = true → s.dev.qOn n.val = true → (s.dev.qc n.val).test = none →
      ((s.dev.qc n.val).open_ (s.dev.qrec n.val).acq 1 = true ∨
        (s.dev.qc n.val).open_ (s.dev.qrec n.val).acq 2 = false) →
      exec (.qreset n false false) s = .next (s.on ((s.dev.flag (R.QCH_STS n.val) 19).raise 71))) ∧
    (s.dev.entryRuns 4 (64 + n.val) none (some true) = true → s.dev.qOn n.val = true →
      (s.dev.qc n.val).test = none → exec (.qreset n true false) s
        = .next (s.on (s.dev.setQc n.val (fun c => { c with test := some ⟨s.dev.clk, none⟩ })))) ∧
    (runs = true → s.dev.qOn n.val = true → (s.dev.qc n.val).test = none →
      (s.dev.qc n.val).open_ (s.dev.qrec n.val).acq 1 = false →
      (s.dev.qc n.val).open_ (s.dev.qrec n.val).acq 2 = true →
      Completes (.qreset n false false) s (fun d =>
        ((d.qc n.val).test.map QTest.since = some s.dev.clk) ∧ d.regs = s.dev.regs))) ∧
  (∀ cmin cmax leakq c0 c1a c1 c2 q : Int,
    (c0.natAbs > 328 ∨ (c2 - c0).natAbs > 328 → testOutcome cmin cmax leakq c0 c1a c1 c2 q = 6) ∧
    (¬ (c0.natAbs > 328 ∨ (c2 - c0).natAbs > 328) →
      testOutcome cmin cmax leakq c0 c1a c1 c2 q =
        if divRound ((c1 - c0) * q) 3276800 < cmin then 4
        else if divRound ((c1 - c1a).natAbs * q) 32768 > leakq then 5
        else if divRound ((c1 - c0) * q) 3276800 > cmax then 4 else 0)) ∧
  (∀ (s : State) (n : Fin 12) (c0 c1a c1 c2 : BitVec 16) (t : QTest) (h : QHeld), s.Up →
    s.dev.qch.chans.length = 12 → s.dev.qOn n.val = true → s.dev.role = 1 → (s.dev.qc n.val).test = some t →
    (s.dev.qc n.val).comp = none → (s.dev.qc n.val).held = some h → h.status = 0 → h.res.length = 6 →
    (s.dev.qc n.val).quietRel = false →
    let a := (s.dev.qrec n.val).acq
    let out := testOutcome a.cmin a.cmax a.leakq c0.toInt c1a.toInt c1.toInt c2.toInt
      (qfs (s.dev.rdF (R.QCH_RANGE n.val) F.QCH_RANGE_RANGE))
    Completes (.testSequenceDone n c0 c1a c1 c2) s (fun d =>
      (d.qc n.val).test = none ∧ (d.qc n.val).held = none ∧
      d.rdF (R.QCH_STS n.val) F.QCH_STS_STATUS = out ∧
      (out = 0 → d.evPending 64 = true ∧ (0 ≤ h.res.getD 4 0 → h.res.getD 4 0 < 2 ^ 32 →
        (d.rd (R.QCH_RES n.val 4)).toNat = (h.res.getD 4 0).toNat)) ∧
      (out ≠ 0 → ∀ w, w < 7 → d.rd (R.QCH_RES n.val w) = s.dev.rd (R.QCH_RES n.val w))))

/-- Sampling on a channel whose first cycle a RANGE entry has opened (R137, R138, R140, R142, R143, R159): with the
ACQ window open and no conversion running a due point goes into conversion, with the state of its KNOCK window
(R150); while one runs it waits, in order, and a sixteenth waiting point makes the cycle INVALID with cause
RATE. A conversion's code enters the cycle, clipped when it overloads, and the next waiting point follows. The
end of the range change starts the waiting ones. RANGE and CYCLE (R136, R143, R147), where such an entry runs in
the schedule: a RANGE entry with the ACQ window open leaves the pending range pending, with WINERR and EV74;
else it applies it, and a range that differs closes the reset switch; it opens the first cycle of a channel that
is ON (R159). CYCLE ends a cycle whose samples are all converted: the channel starts a new one, computes, and
holds the results, INVALID under their first cause or with fewer than three samples. The feed's elements are a
standby's alone. -/
def Obligations.SamplingAndRange : Prop :=
  (∀ (s : State) (n : Fin 12), s.Up → s.dev.qch.chans.length = 12 → s.dev.qOn n.val = true → s.dev.role = 1 →
     let c := s.dev.qc n.val
     (∀ (j : Nat) (i : Instr),
       ((i = .gridPoint n j ∧ (s.dev.qrec n.val).acq.timeMode = false) ∨
         (i = .timeSample n ∧ (s.dev.qrec n.val).acq.timeMode = true ∧ j = c.taken)) →
       let p : QPoint := ⟨j, false, c.open_ (s.dev.qrec n.val).acq 3⟩
       c.open_ (s.dev.qrec n.val).acq 1 = true → c.started = true → c.blocked = false → c.cyc.noSamp = false → c.taken < 7200 → c.ranging = false →
       (c.conv = none → c.wait = [] → exec i s = .next (s.on
         (s.dev.setQc n.val (fun c => { c with conv := some p })))) ∧
       (c.conv ≠ none → c.wait.length < 15 → exec i s = .next (s.on
         (s.dev.setQc n.val (fun c => { c with wait := c.wait ++ [p] })))) ∧
       (c.conv ≠ none → c.wait.length = 15 → c.cyc.cause = 0 → Completes i s (fun d =>
         (d.qc n.val).cyc.cause = 3 ∧ (d.qc n.val).cyc.noSamp = true ∧ (d.qc n.val).wait = [] ∧
         d.rdF (R.QCH_STS n.val) ⟨20, 1⟩ = 1))) ∧
     (∀ (p : QPoint) (code : BitVec 16) (ovl : Bool), c.conv = some p → p.old = false → c.ranging = false →
       Completes (.qchConversionDone n code ovl) s (fun d =>
         let x := (d.qc n.val).cyc
         x.count = c.cyc.count + 1 ∧ x.codes = (code.toInt, p.kn) :: c.cyc.codes ∧ x.lastj = p.j ∧
         x.cause = (if (ovl || code.toInt == -32768 || code.toInt == 32767) && c.cyc.cause == 0 then 1
           else c.cyc.cause) ∧
         (d.qc n.val).conv = c.wait.head? ∧ (d.qc n.val).wait = c.wait.tail)) ∧
     (c.ranging = true → c.conv = none → Completes (.rangeResetEnd n) s (fun d =>
       (d.qc n.val).ranging = false ∧ (d.qc n.val).conv = c.wait.head? ∧ (d.qc n.val).wait = c.wait.tail ∧
       (d.qc n.val).cyc = c.cyc ∧ d = { s.dev with qch := d.qch }))) ∧
  (∀ (s : State) (n : Fin 12), s.Up → s.dev.qch.chans.length = 12 →
     let c := s.dev.qc n.val
     let a := (s.dev.qrec n.val).acq
     (s.dev.entryRuns 5 (64 + n.val) none (some false) = true → c.held = none → c.comp = none → c.open_ a 1 = true →
       Completes (.range n false false) s (fun d =>
         d.rdF (R.QCH_RANGE n.val) F.QCH_RANGE_RANGE = s.dev.rdF (R.QCH_RANGE n.val) F.QCH_RANGE_RANGE ∧
         d.wb = s.dev.wb ∧ d.rdF (R.QCH_STS n.val) F.QCH_STS_WINERR = 1 ∧ d.evPending 74 = true)) ∧
     (s.dev.entryRuns 5 (64 + n.val) none (some false) = true → c.held = none → c.comp = none →
       c.open_ a 1 = false → s.dev.qCycles n.val = true →
       ∀ w sess, s.dev.wb = [(R.QCH_RANGE n.val, w, sess)] → Completes (.range n false false) s (fun d =>
         d.rdF (R.QCH_RANGE n.val) F.QCH_RANGE_RANGE = w.toNat % 4 ∧ d.wb = [] ∧
         ((d.qc n.val).ranging = (c.ranging ||
           s.dev.rdF (R.QCH_RANGE n.val) F.QCH_RANGE_RANGE != w.toNat % 4)) ∧
         (d.qc n.val).cyc = { c.cyc with inRange := true } ∧
         (d.qc n.val).started = (c.started || s.dev.qOn n.val))) ∧
     (s.dev.entryRuns 5 (64 + n.val) none (some false) = false → exec (.range n false false) s = .next s) ∧
     (s.dev.entryRuns 6 (64 + n.val) none none = false → exec (.cycle n false) s = .next s) ∧
     (s.dev.entryRuns 6 (64 + n.val) none none = true → s.dev.role = 1 → c.started = true → c.conv = none → c.wait = [] → 0 < c.cyc.count → a.auto = false →
       (s.dev.qrec n.val).comp.pegsrc = 0 → c.open_ a 1 = false →
       Completes (.cycle n false) s (fun d =>
         (d.qc n.val).cyc.count = 0 ∧ (d.qc n.val).cyc.cause = 0 ∧
         (d.qc n.val).comp.map QCycle.codes = some c.cyc.codes ∧
         (d.qc n.val).comp.map QCycle.cause = some c.cyc.cause ∧
         (d.qc n.val).comp.map QCycle.pref = some (s.dev.qrec n.val).comp.pfix ∧
         (d.qc n.val).comp.map QCycle.tick = some s.dev.dom.count ∧
         d.rd (R.QCH_STS n.val) = s.dev.rd (R.QCH_STS n.val) ∧
         ∀ w, w < 7 → d.rd (R.QCH_RES n.val w) = s.dev.rd (R.QCH_RES n.val w))) ∧
     ((s.dev.role = 3 ∨ c.comp = none) → exec (.cycleComputed n) s = .next s) ∧
     (∀ x : QCycle, s.dev.role = 1 → c.comp = some x → x.missed = false → Completes (.cycleComputed n) s (fun d =>
       (d.qc n.val).comp = none ∧ d.regs = s.dev.regs ∧
       ∃ h : QHeld, (d.qc n.val).held = some h ∧ h.n = x.count ∧ h.cause = (if x.cause ≠ 0 then x.cause
         else if x.count < 3 then 7 else 0) ∧ (h.cause ≠ 0 → h.status = 2) ∧
         (h.cause = 0 → h.status = b2n x.coarse))) ∧
     (∀ bytes, s.dev.role ≠ 3 → exec (.feedElement bytes) s = .next s) ∧
     (∀ bytes k, s.dev.role = 3 → byteAt bytes 0 = n.val → c.comp = none → c.feedIn = some k → k ≠ uAt bytes 12 4 →
       uAt bytes 2 2 = 0 → Completes (.feedElement bytes) s (fun d =>
         (d.qc n.val).feedIn = some ((uAt bytes 12 4 + 1) % 2 ^ 32) ∧
         (d.qc n.val).cyc.cause = (if c.cyc.cause = 0 then 9 else c.cyc.cause) ∧
         d.rdF R.QCH_STAT F.QCH_STAT_FEEDGAP = 1 ∧ d.evPending 78 = true)))

/-- The first maximum of a cycle's pressures (R150): the peak is the largest of them, and APMAX names the first
sample that has it. -/
def Obligations.PeakIsTheFirstMaximum : Prop :=
  ∀ (p : List Int), p ≠ [] →
    (firstMax p).2 < p.length ∧ p[(firstMax p).2]? = some (firstMax p).1 ∧ (∀ x ∈ p, x ≤ (firstMax p).1) ∧
    (∀ k, k < (firstMax p).2 → ∀ x, p[k]? = some x → x < (firstMax p).1)

/-! Excitation channels (chapter 06) -/

/-- Excitation channels (R170 to R174, R179). A check that fails in two consecutive drive periods declares its fault,
which is released at once with its WHY and its status; one that fails for the first time releases nothing. A
demodulation period ends when its drive periods have been taken; a clean one releases a value, in mode RATIO the ratio
of its sums. At the
end of a demodulation period with a failed drive period the values and the status stand and the period counts as
discarded; TRIM written before is applied there. A write to TRIM waits, and is ignored without the token. A drive
period of a driven channel adds its samples to the sums' count and moves the phase on. A period error above 2° twice
in a row loses the lock of a device without the token, with LOCKLOSS and EV84. -/
def Obligations.ExcitationPeriods : Prop :=
  (∀ (d : Dev) (n m : Nat), n < 8 → d.xch.length = 8 → m &&& (d.xc n).lastFail = 0 →
    d.xJudge n m = d.setXc n (fun x => { x with
      lastFail := m, declared := 0, bad := x.bad || m != 0 })) ∧
  (∀ (d : Dev) (n k : Nat), n < 8 → d.xch.length = 8 → 1 ≤ k → k ≤ 12 → (d.xc n).lastFail = 2 ^ k →
    (d.xc n).declared = 0 →
    (d.xJudge n (2 ^ k)).rdF (R.XCH_STS n) F.XCH_STS_STATUS = whyStatus k ∧
    (d.xJudge n (2 ^ k)).rdF (R.XCH_STS n) F.XCH_STS_WHY = k ∧
    (d.xJudge n (2 ^ k)).rd (R.XCH_VAL n) = d.rd (R.XCH_VAL n) ∧
    (d.xJudge n (2 ^ k)).rdF (R.XCH_CNT n) F.XCH_CNT_FAULTS
      = min 255 (d.rdF (R.XCH_CNT n) F.XCH_CNT_FAULTS + 1)) ∧
  (∀ (s : State) (n : Fin 8) (samples : List (BitVec 16 × BitVec 16 × BitVec 16)) (irms : BitVec 16) (limit : Fin 3)
    (ph : Word) (err : Nat), s.Up → s.dev.xch.length = 8 → s.dev.holder = false → (s.dev.xc n.val).locked = true →
    2000 < err → (s.dev.xc n.val).badRun = 1 →
    Completes (.drivePeriodEnd n samples irms limit ph err) s (fun d =>
      (d.xc n.val).locked = false ∧ d.rdF R.XCH_STAT ⟨8 + n.val, 1⟩ = 0 ∧ d.evPending 84 = true ∧
      d.rdF (R.XCH_CNT n.val) F.XCH_CNT_LOCKLOSSES
        = min 255 (s.dev.rdF (R.XCH_CNT n.val) F.XCH_CNT_LOCKLOSSES + 1))) ∧
  (∀ (s : State) (n : Fin 8) (samples : List (BitVec 16 × BitVec 16 × BitVec 16)) (irms : BitVec 16) (limit : Fin 3)
    (ph : Word) (err : Nat), s.Up → s.dev.xch.length = 8 → s.dev.holder = true → s.dev.xRuns n.val = true →
    Completes (.drivePeriodEnd n samples irms limit ph err) s (fun d =>
      (d.xc n.val).periods = (s.dev.xc n.val).periods + 1 ∧
      (d.xc n.val).n = (s.dev.xc n.val).n + samples.length ∧
      (d.xc n.val).acc = ((s.dev.xc n.val).acc + samples.length * (s.dev.xrec n.val).incr) % 2 ^ 32 ∧
      d.rdF (R.XCH_DRVMON n.val) F.XCH_DRVMON_IRMS = irms.toNat)) ∧
  (∀ (s : State) (n : Fin 8), s.Up → s.dev.xch.length = 8 → s.dev.xRuns n.val = true →
    (s.dev.xrec n.val).demn ≤ (s.dev.xc n.val).periods → (s.dev.xc n.val).mirTrim = none →
    ((s.dev.xc n.val).bad = true → Completes (.demodPeriodEnd n) s (fun d =>
      d.rd (R.XCH_VAL n.val) = s.dev.rd (R.XCH_VAL n.val) ∧ d.rd (R.XCH_AUX n.val) = s.dev.rd (R.XCH_AUX n.val) ∧
      d.rdF (R.XCH_STS n.val) F.XCH_STS_STATUS = s.dev.rdF (R.XCH_STS n.val) F.XCH_STS_STATUS ∧
      d.rdF (R.XCH_CNT n.val) F.XCH_CNT_DISCARDS
        = min 255 (s.dev.rdF (R.XCH_CNT n.val) F.XCH_CNT_DISCARDS + 1) ∧
      (d.xc n.val).bad = false ∧ (d.xc n.val).periods = 0)) ∧
    ((s.dev.xc n.val).bad = false → Completes (.demodPeriodEnd n) s (fun d =>
      d.rdF (R.XCH_STS n.val) F.XCH_STS_STATUS ≤ 2 ∧ (d.xc n.val).faulted = false ∧ (d.xc n.val).periods = 0 ∧
      (∀ v, (s.dev.xrec n.val).mode = 1 →
        ratioValue (components (s.dev.xc n.val).sums (max (s.dev.xc n.val).n 1)) = some v →
        d.rd (R.XCH_VAL n.val) = wordOfInt (xClipValue 1 v).2))) ∧
    (∀ w sess, s.dev.wb = [(R.XCH_TRIM n.val, w, sess)] → Completes (.demodPeriodEnd n) s (fun d =>
      d.rdF (R.XCH_TRIM n.val) F.XCH_TRIM_TRIM = w.toNat % 65536 ∧ d.wb = []))) ∧
  (∀ (s : State) (n : Fin 8), s.dev.xRuns n.val = false ∨ (s.dev.xc n.val).periods < (s.dev.xrec n.val).demn →
    exec (.demodPeriodEnd n) s = .next s) ∧
  (∀ (s : State) (n : Fin 8) (v : BitVec 16), s.Up →
    (s.dev.holder = false → exec (.trimWrite n v) s = .next s) ∧
    (s.dev.holder = true → s.dev.wbWord (R.XCH_TRIM n.val) = none →
      s.dev.rdF (R.XCH_TRIM n.val) F.XCH_TRIM_TRIM ≠ v.toNat → Completes (.trimWrite n v) s (fun d =>
      d.rdF (R.XCH_TRIM n.val) F.XCH_TRIM_TRIM = s.dev.rdF (R.XCH_TRIM n.val) F.XCH_TRIM_TRIM ∧
      d.rdF (R.XCH_TRIM n.val) F.XCH_TRIM_PEND = 1 ∧
      d.wbWord (R.XCH_TRIM n.val) = some (BitVec.ofNat 32 v.toNat))))

/-! Current loops and HART (chapter 07) -/

/-- A conversion of a 4-wire loop input releases one status (R187 to R191): CLAMP, a fault band that has persisted for
50 ms, the saturation of a band outside NORM, or GOOD; a conversion outside a fault band ends its run; RAW and the
damped VALUE are replaced only by a release with a value, and VALUE is reloaded after one without. On a 2-wire input
TRANSIT restarts the runs (R190, R193). The end of TSTART ends TRANSIT's cause (R193); a clamp current sets CLAMP,
raises EV94, and marks the next release (R183, R189). -/
def Obligations.LoopInputConversions : Prop :=
  (∀ (s : State) (n : Fin 16) (raw isup : Int) (limUs : Nat), s.Up → s.dev.lop.ins.length = 16 →
    s.dev.lop.running = true → (s.dev.lrec n.val).mode = 2 →
    let x := s.dev.li n.val
    let lo := if raw ≤ 3600000 then min 255 (x.lo + 1) else 0
    let hi := if 21000000 ≤ raw then min 255 (x.hi + 1) else 0
    let ms := (s.dev.lrec n.val).tliMs
    let st := if x.clamp then 5 else if lo ≥ 1 ∧ (lo - 1) * ms ≥ 50 then 3
      else if hi ≥ 1 ∧ (hi - 1) * ms ≥ 50 then 4 else if raw < 3800000 then 2 else if raw > 20500000 then 1 else 0
    let old := signed 32 (s.dev.rd (R.LOP_VAL n.val)).toNat
    Completes (.loopConversionEnd n raw isup limUs) s (fun d =>
      d.rdF (R.LOP_STS n.val) F.LOP_STS_STATUS = st ∧ (d.li n.val).lo = lo ∧ (d.li n.val).hi = hi ∧
      (d.li n.val).clamp = false ∧ (d.li n.val).reload = decide (st > 2) ∧
      (st ≤ 2 → d.rd (R.LOP_RAW n.val) = wordOfInt raw ∧
        d.rd (R.LOP_VAL n.val) = wordOfInt (if x.reload then raw
          else damp (ms / 10) (s.dev.lrec n.val).td raw old)) ∧
      (st > 2 → d.rd (R.LOP_RAW n.val) = s.dev.rd (R.LOP_RAW n.val) ∧
        d.rd (R.LOP_VAL n.val) = s.dev.rd (R.LOP_VAL n.val)))) ∧
  (∀ (s : State) (n : Fin 16) (raw isup : Int), s.Up → s.dev.lop.ins.length = 16 → s.dev.lop.running = true →
    (s.dev.lrec n.val).mode = 1 → s.dev.role = 1 → (s.dev.li n.val).clamp = false → (s.dev.li n.val).lo = 0 →
    (s.dev.li n.val).hi = 0 → (s.dev.li n.val).mis = 0 →
    (s.dev.rdF (R.LOP_SUPCTRL n.val) F.LOP_SUPCTRL_STATE = 1 ∨ (s.dev.li n.val).tstart = true) →
    Completes (.loopConversionEnd n raw isup 0) s (fun d =>
      d.rdF (R.LOP_STS n.val) F.LOP_STS_STATUS = 8 ∧ (d.li n.val).lo = 0 ∧ (d.li n.val).hi = 0 ∧
      (d.li n.val).mis = 0 ∧ (d.li n.val).sinceTr = 0 ∧
      d.rd (R.LOP_VAL n.val) = s.dev.rd (R.LOP_VAL n.val))) ∧
  (∀ (s : State) (n : Fin 16), s.Up →
    exec (.tstartEnd n) s = .next (s.on (s.dev.setLi n.val (fun x => { x with tstart := false })))) ∧
  (∀ (s : State) (k : Fin 20), s.Up → (k.val < 16 → exec (.lopClamp k) s = .next (s.on
    (((s.dev.setLi k.val (fun x => { x with clamp := true })).flag (R.LOP_STS k.val) 23).raise 94))) ∧
    (16 ≤ k.val → exec (.lopClamp k) s = .next (s.on ((s.dev.flag (R.LOP_STS (k.val - 16)) 23).raise 94))))

/-- HART transactions of a channel, one at a time in queue order (R197, R198): the head of Q(16 + n) starts; a
time-out retries while RETRY allows it, and then completes with COMMERR set and EV98; a response to the running
request, with a right check byte, ends it and shows its field-device status; a poll takes its place in the queue, beside
the elements reserved for commands, unless one is queued or running; without
decodable frames for HSTALE the variables turn STALE, DEVMAL first (R199). -/
def Obligations.HartTransactions : Prop :=
  (∀ (s : State) (n : Fin 16) (e : QElem) (es : List QElem), s.Up → s.dev.queues.q.length = 64 →
    s.dev.lop.ins.length = 16 → s.dev.queue (16 + n.val) = e :: es → s.dev.holder = true →
    (s.dev.lrec n.val).hart ≠ 0 → (s.dev.hart n.val).run = none →
    Completes (.hartTransactionStart n) s (fun d => d.queue (16 + n.val) = es ∧
      (d.hart n.val).run = some (s.dev.hartTx n.val e.bytes e.ref false) ∧ d.regs = s.dev.regs)) ∧
  (∀ (s : State) (n : Fin 16) (tx : HartTx), s.Up → s.dev.lop.ins.length = 16 → (s.dev.hart n.val).run = some tx →
    tx.waitOnly = false → tx.ref = none →
    (tx.tries ≤ tx.retry → Completes (.hartResponseTimeout n) s (fun d =>
      (d.hart n.val).run = some { tx with tries := tx.tries + 1 } ∧
      d.rdF (R.LOP_HCNT n.val) F.LOP_HCNT_RETRIES
        = min 255 (s.dev.rdF (R.LOP_HCNT n.val) F.LOP_HCNT_RETRIES + 1))) ∧
    (tx.retry < tx.tries → Completes (.hartResponseTimeout n) s (fun d =>
      (d.hart n.val).run = (s.dev.hart n.val).waits.head? ∧ d.rdF (R.LOP_HSTAT n.val) ⟨22, 1⟩ = 1 ∧ d.evPending 98 = true))) ∧
  (∀ (s : State) (n : Fin 16) (tx : HartTx) (bytes : List Byte) (f : HartFrame), s.Up →
    s.dev.lop.ins.length = 16 → (s.dev.lrec n.val).hart ≠ 0 → tx.copy = false →
    (s.dev.hart n.val).run = some tx → tx.ref = none → hartParse bytes = some f → hartChecked bytes = true →
    f.kind = 6 → hartAnswers tx f = true → f.fd < 256 → hartOffsets f.cmd = [] →
    Completes (.hartFrameReceived n bytes false) s (fun d => (d.hart n.val).run = (s.dev.hart n.val).waits.head? ∧
      d.rdF (R.LOP_HSTAT n.val) F.LOP_HSTAT_FDSTAT = f.fd ∧
      (128 ≤ f.fd → d.rdF (R.LOP_HSTAT n.val) F.LOP_HSTAT_VSTATUS = 4))) ∧
  (∀ (s : State) (n : Fin 16), s.Up → s.dev.queues.q.length = 64 →
    let r := s.dev.lrec n.val
    ((r.hart = 0 ∨ r.pcmd = 0xFF ∨ s.dev.holder = false ∨ s.dev.hartPolling n.val = true) →
      exec (.hartPoll n) s = .next s) ∧
    (r.hart ≠ 0 → r.pcmd ≠ 0xFF → r.pcmd < 256 → s.dev.holder = true → s.dev.hartPolling n.val = false →
      s.dev.hasFree (16 + n.val) = true → Completes (.hartPoll n) s (fun d =>
        ∃ e, d.queue (16 + n.val) = s.dev.queue (16 + n.val) ++ [e] ∧ e.ref = none ∧
          hartCmd e.bytes = r.pcmd ∧ e.bytes.length = 256)) ∧
    (r.hart ≠ 0 → r.pcmd ≠ 0xFF → s.dev.holder = true → s.dev.hartPolling n.val = false →
      s.dev.hasFree (16 + n.val) = false → Completes (.hartPoll n) s (fun d =>
        d.rdF (R.LOP_HCNT n.val) F.LOP_HCNT_POLLSKIP
          = min 255 (s.dev.rdF (R.LOP_HCNT n.val) F.LOP_HCNT_POLLSKIP + 1) ∧ d.evPending 102 = true ∧
        d.queue (16 + n.val) = s.dev.queue (16 + n.val)))) ∧
  (∀ (s : State) (n : Fin 16), s.Up → s.dev.lop.ins.length = 16 → (s.dev.lrec n.val).hart ≠ 0 →
    (s.dev.hart n.val).stale = false →
    Completes (.hartStale n) s (fun d => d.rdF (R.LOP_HSTAT n.val) F.LOP_HSTAT_VSTATUS
      = (if bitOf (s.dev.rdF (R.LOP_HSTAT n.val) F.LOP_HSTAT_FDSTAT) 7 then 4 else 3) ∧
      (bitOf (s.dev.rdF (R.LOP_HSTAT n.val) F.LOP_HSTAT_FDSTAT) 7 = false →
        s.dev.rdF (R.LOP_HSTAT n.val) F.LOP_HSTAT_VSTATUS ≠ 3 → d.evPending 96 = true)))

/-- Loop outputs (R203 to R205): the selection takes the safe state first, then the alarm source, then the tracking
point, clipped to 3800 to 20500 µA, then the host's setpoint; a write to LOP_OSETn waits for its latch; COMPL sets
after 5 ms off the applied setpoint, and while 21750 µA is applied the output drives 3500 µA at once, with LOWALT and
EV105; it clears after 5 ms within 100 µA. -/
def Obligations.LoopOutputs : Prop :=
  (∀ (r : LoRec) (x : SetIn),
    (x.safe = true → selectSetpoint r x
      = (4, if r.safe = 0 then 3500 else if r.safe = 1 then 21750 else if r.safe = 2 then x.applied else 0)) ∧
    (x.safe = false → r.almsrc ≠ 0xFFFF → x.almActive = true →
      selectSetpoint r x = (2, if r.almlvl = 0 then 3500 else 21750)) ∧
    (x.safe = false → (r.almsrc = 0xFFFF ∨ x.almActive = false) → r.trksrc = 0xFFFF →
      selectSetpoint r x = (0, x.hset)) ∧
    (x.safe = false → (r.almsrc = 0xFFFF ∨ x.almActive = false) → r.trksrc ≠ 0xFFFF → x.trkFault = true →
      selectSetpoint r x = (3, if r.almlvl = 0 then 3500 else 21750)) ∧
    (x.safe = false → (r.almsrc = 0xFFFF ∨ x.almActive = false) → r.trksrc ≠ 0xFFFF → x.trkFault = false →
      (selectSetpoint r x).1 = 1 ∧ ((selectSetpoint r x).2 : Int)
        = max 3800 (min 20500 (4000 + divRound ((x.v - r.trklo) * 16000) (r.trkhi - r.trklo))))) ∧
  (∀ (s : State) (sess : Nat) (n : Fin 4) (v : BitVec 15), s.Up →
    s.dev.wbWord (R.LOP_OSET n.val) = none → s.dev.rdF (R.LOP_OSET n.val) F.LOP_OSET_SETPT ≠ v.toNat →
    Completes (.osetWrite sess n v) s (fun d =>
      d.wbWord (R.LOP_OSET n.val) = some (BitVec.ofNat 32 v.toNat) ∧
      d.rdF (R.LOP_OSET n.val) F.LOP_OSET_SETPT = s.dev.rdF (R.LOP_OSET n.val) F.LOP_OSET_SETPT)) ∧
  (∀ (s : State) (n : Fin 4) (actual : BitVec 16), s.Up → s.dev.loDrives n.val = true →
    s.dev.loHandover n.val = false →
    let applied := s.dev.rdF (R.LOP_OACT n.val) F.LOP_OACT_APPLIED
    ((((actual.toNat : Int) - applied).natAbs > 100) → s.dev.rdF (R.LOP_OSTS n.val) F.LOP_OSTS_COMPL = 0 →
      Completes (.complTimer n true actual) s (fun d =>
        d.rdF (R.LOP_OSTS n.val) F.LOP_OSTS_COMPL = 1 ∧ d.rdF (R.LOP_OACT n.val) F.LOP_OACT_ACTUAL = actual.toNat ∧
        d.evPending 103 = true ∧ d.rdF (R.LOP_OACT n.val) F.LOP_OACT_APPLIED
          = (if applied = 21750 then 3500 else applied) ∧
        (applied = 21750 → d.rdF (R.LOP_OSTS n.val) F.LOP_OSTS_LOWALT = 1 ∧ d.evPending 105 = true))) ∧
    ((((actual.toNat : Int) - applied).natAbs ≤ 100) → s.dev.rdF (R.LOP_OSTS n.val) F.LOP_OSTS_COMPL = 1 →
      Completes (.complTimer n false actual) s (fun d =>
        d.rdF (R.LOP_OSTS n.val) F.LOP_OSTS_COMPL = 0 ∧ d.evPending 104 = true ∧
        d.rdF (R.LOP_OACT n.val) F.LOP_OACT_APPLIED = applied)))

/-! Contacts and actuated outputs (chapter 08) -/

/-- The current of a sample in µA: in the device whose source is connected what was measured, else from the pin voltage in
mV (R212, R216). -/
def sampleCurrent (d : Dev) (x : Int) : Int := if d.dio.source then x else 8200 - x

/-- The band of a sample of an input by its MODE (R213): 0 OPEN, 1 state 0, 2 between, 3 state 1, 4 SHORT. -/
def sampleBand (d : Dev) (n : Nat) (x : Int) : Nat := diBand (d.direc n).mode (sampleCurrent d x)

/-- Whether neither a line fault nor a clamp stands on an input. -/
def DiClear (d : Dev) (n : Nat) : Prop :=
  (d.di n).opened = false ∧ (d.di n).shorted = false ∧ (d.di n).clamp = false ∧ bitOf d.dio.clampOn n = false

/-- Contact inputs (R212 to R216): the bands of a current by MODE; the sample that completes DEB × 10 consecutive ones of a
new state accepts and releases it as GOOD, with INV applied, an earlier one only counts and shows its current; the
twentieth consecutive sample in a line band releases OPEN or SHORT; the first sample in a state band after a fault or
clamp releases its state; while a clamp current stands a state sample releases nothing; a sample within 50 µs of the
source's change is discarded; of several samples each is taken after the ones before it. A clamp current sets CLAMP, raises EV114 and is released at once. -/
def Obligations.ContactInputs : Prop :=
  (∀ i : Int,
    diBand 1 i = (if i < 150 then 0 else if i ≤ 1200 then 1 else if i < 2100 then 2 else if i < 6000 then 3 else 4) ∧
    diBand 2 i = (if i < 300 then 0 else if i ≤ 1500 then 1 else if i < 2500 then 2 else if i < 6000 then 3 else 4)) ∧
  (∀ (s : State) (n : Fin 32) (v : Int) (c : Instr), s.Up → s.dev.dio.ins.length = 32 →
    (c = .contactAccept n [] v ∨ c = .lineFault n [] v) →
    let x := s.dev.di n.val
    let band := sampleBand s.dev n.val v
    let st : Bool := band == 3
    let level := b2n (st != (s.dev.direc n.val).inv)
    let shown := (max 0 (min 65535 (sampleCurrent s.dev v))).toNat
    ((s.dev.diSamples n.val = false ∨ s.dev.diDiscards 0 = true) → exec c s = .next s) ∧
    (s.dev.diSamples n.val = true → s.dev.diDiscards 0 = false →
      (DiClear s.dev n.val → band = 1 ∨ band = 3 → x.accepted ≠ some st → x.cand = st →
        10 * (s.dev.direc n.val).deb ≤ x.count + 1 → Completes c s (fun d =>
          d.rdF (R.DIO_ISTS n.val) F.DIO_ISTS_STATUS = 0 ∧ d.rdF (R.DIO_ISTS n.val) F.DIO_ISTS_ICUR = shown ∧
          d.rdF R.DIO_INSTATE ⟨n.val, 1⟩ = level ∧ d.rdF R.DIO_INFLT ⟨n.val, 1⟩ = 0 ∧
          (d.di n.val).accepted = some st)) ∧
      (DiClear s.dev n.val → band = 1 ∨ band = 3 → x.accepted ≠ some st → x.cand = st →
        x.count + 1 < 10 * (s.dev.direc n.val).deb → x.accepted = none ∨ s.dev.diStatus n.val = 0 →
        Completes c s (fun d =>
          d.rdF (R.DIO_ISTS n.val) F.DIO_ISTS_STATUS = s.dev.rdF (R.DIO_ISTS n.val) F.DIO_ISTS_STATUS ∧
          d.rdF (R.DIO_ISTS n.val) F.DIO_ISTS_ICUR = shown ∧ d.rd R.DIO_INSTATE = s.dev.rd R.DIO_INSTATE ∧
          (d.di n.val).accepted = x.accepted ∧ (d.di n.val).count = x.count + 1)) ∧
      (DiClear s.dev n.val → band = 0 ∨ band = 4 → x.line = (if band = 0 then 1 else 2) → 19 ≤ x.run →
        s.dev.diStatus n.val ≠ (if band = 0 then 3 else 4) → Completes c s (fun d =>
          d.rdF (R.DIO_ISTS n.val) F.DIO_ISTS_STATUS = (if band = 0 then 3 else 4) ∧
          d.rdF (R.DIO_ISTS n.val) F.DIO_ISTS_ICUR = shown ∧ d.rdF R.DIO_INFLT ⟨n.val, 1⟩ = 1 ∧
          d.rd R.DIO_INSTATE = s.dev.rd R.DIO_INSTATE ∧ (s.dev.diStatus n.val = 0 → d.evPending 112 = true))) ∧
      (x.opened = true ∨ x.shorted = true ∨ x.clamp = true → bitOf s.dev.dio.clampOn n.val = false →
        band = 1 ∨ band = 3 → diFault (s.dev.diStatus n.val) = true → Completes c s (fun d =>
          d.rdF (R.DIO_ISTS n.val) F.DIO_ISTS_STATUS = 0 ∧ d.rdF R.DIO_INSTATE ⟨n.val, 1⟩ = level ∧
          d.rdF R.DIO_INFLT ⟨n.val, 1⟩ = 0 ∧ d.evPending 113 = true ∧ DiClear d n.val)) ∧
      (bitOf s.dev.dio.clampOn n.val = true → s.dev.diStatus n.val = 5 → band = 1 ∨ band = 3 →
        Completes c s (fun d => d.rdF (R.DIO_ISTS n.val) F.DIO_ISTS_STATUS = 5 ∧
          d.rdF (R.DIO_ISTS n.val) F.DIO_ISTS_ICUR = shown ∧ d.rd R.DIO_INSTATE = s.dev.rd R.DIO_INSTATE)))) ∧
  (∀ (s : State) (n : Fin 32) (v last : Int) (before : List Int), s.Up → s.dev.diDiscards 0 = false →
    s.dev.diDiscards (before.length + 1) = false → ∃ t : State,
      exec (.contactAccept n [] v) s = .next t ∧ exec (.lineFault n [] v) s = .next t ∧
      exec (.contactAccept n (v :: before) last) s = exec (.contactAccept n before last) t ∧
      exec (.lineFault n (v :: before) last) s = exec (.lineFault n before last) t) ∧
  (∀ (s : State) (n : Fin 32), s.Up →
    (s.dev.diSamples n.val = true → Completes (.contactClamp n true) s (fun d =>
      d.rdF (R.DIO_ISTS n.val) F.DIO_ISTS_STATUS = 5 ∧ d.evPending 114 = true ∧
      bitOf d.dio.clampOn n.val = true ∧ d.rd R.DIO_INSTATE = s.dev.rd R.DIO_INSTATE)) ∧
    exec (.contactClamp n false) s = .next (s.on
      (s.dev.setDio (fun c => { c with clampOn := putBit c.clampOn n.val false }))))

/-- Outputs (R218 to R221). A readback mismatch that lasts FBT sets FBFLT and raises EV115 once; a device that does not
drive only notes it. A pulse test starts on the first output that is due, one in a turn, and drives it low; it ends
high, and its verdict needs the de-energised level seen and the energised level back; one that an emit has cut is
judged by the de-energised level alone. A write of host levels waits for its latch. -/
def Obligations.ContactsAndOutputs : Prop :=
  (∀ (s : State) (m : Fin 32), s.Up → s.dev.doDrives m.val = true → s.dev.dio.ptPhase.length = 32 →
    (∀ bad : Bool, s.dev.dio.ptPhase.getD m.val 0 = 0 → s.dev.dio.fbHold.getD m.val 0 ≤ s.dev.clk →
      Completes (.feedbackTimeout m bad) s (fun d =>
      d.rdF (R.DIO_OSTS m.val) F.DIO_OSTS_FBFLT = b2n bad ∧
      (bad = true → s.dev.rdF (R.DIO_OSTS m.val) F.DIO_OSTS_FBFLT = 0 → d.evPending 115 = true) ∧
      d.rd R.DIO_OUT = s.dev.rd R.DIO_OUT)) ∧
    (∀ bad : Bool, (s.dev.dio.ptPhase.getD m.val 0 ≠ 0 ∨ s.dev.clk < s.dev.dio.fbHold.getD m.val 0) →
      exec (.feedbackTimeout m bad) s = .next s) ∧
    (s.dev.ptDue m.val = true → (∀ k, k < m.val → s.dev.ptDue k = false) → s.dev.safe = false →
      s.dev.rdF R.PAR_ROLE F.PAR_ROLE_HOLD = 0 → s.dev.pair.castle = 0 →
      s.dev.dio.ptTurn ≠ some s.dev.turn.number → s.dev.dio.ptPhase.getD m.val 0 = 0 →
      Completes (.pulseTestStart m) s (fun d => d.rdF R.DIO_OUT ⟨m.val, 1⟩ = 0 ∧
        d.dio.ptPhase.getD m.val 0 = 1 ∧ d.dio.ptTurn = some s.dev.turn.number)) ∧
    ((s.dev.dio.ptTurn = some s.dev.turn.number ∨ s.dev.rdF R.PAR_ROLE F.PAR_ROLE_HOLD = 1 ∨ s.dev.safe = true ∨
      s.dev.ptDue m.val = false ∨ s.dev.rdF R.DIO_OUT ⟨m.val, 1⟩ = 0 ∨ (∃ k, k < m.val ∧ s.dev.ptDue k = true)) →
      exec (.pulseTestStart m) s = .next s) ∧
    (∀ fb : Bool, s.dev.dio.ptPhase.getD m.val 0 = 1 → Completes (.pulseTestEnd m fb) s (fun d =>
      d.rdF R.DIO_OUT ⟨m.val, 1⟩ = 1 ∧ d.dio.ptPhase.getD m.val 0 = 2 ∧ bitOf d.dio.ptLow m.val = !fb)) ∧
    (∀ fb : Bool, s.dev.dio.ptPhase.getD m.val 0 = 3 → Completes (.pulseTestEnd m fb) s (fun d =>
      d.dio.ptPhase.getD m.val 0 = 0 ∧ bitOf d.dio.ptFail m.val = fb ∧ (fb = true → d.evPending 116 = true) ∧
      d.rd R.DIO_OUT = s.dev.rd R.DIO_OUT)) ∧
    (∀ fb : Bool, s.dev.dio.ptPhase.getD m.val 0 = 2 → Completes (.pulseTestVerdict m fb) s (fun d =>
      d.dio.ptPhase.getD m.val 0 = 0 ∧ bitOf d.dio.ptFail m.val = !(bitOf s.dev.dio.ptLow m.val && fb) ∧
      ((bitOf s.dev.dio.ptLow m.val && fb) = true → d.rdF (R.DIO_OSTS m.val) F.DIO_OSTS_PTCNT
        = (s.dev.rdF (R.DIO_OSTS m.val) F.DIO_OSTS_PTCNT + 1) % 2 ^ F.DIO_OSTS_PTCNT.width) ∧
      ((bitOf s.dev.dio.ptLow m.val && fb) = false → d.evPending 116 = true)))) ∧
  (∀ (s : State) (m : Fin 32) (bad : Bool), s.Up → s.dev.doDrives m.val = false →
    Completes (.feedbackTimeout m bad) s (fun d => bitOf d.dio.mismatch m.val = bad ∧
      d.rd (R.DIO_OSTS m.val) = s.dev.rd (R.DIO_OSTS m.val) ∧ d.rd R.DIO_OUT = s.dev.rd R.DIO_OUT)) ∧
  (∀ (s : State) (sess : Nat) (v : Word), s.Up → s.dev.wbWord R.DIO_HOSTSET = none →
    s.dev.rd R.DIO_HOSTSET &&& 0x7FFFFFFF ≠ v &&& 0x7FFFFFFF → Completes (.hostsetWrite sess false v) s (fun d =>
      d.wbWord R.DIO_HOSTSET = some (v &&& 0x7FFFFFFF) ∧
      d.rd R.DIO_HOSTSET &&& 0x7FFFFFFF = s.dev.rd R.DIO_HOSTSET &&& 0x7FFFFFFF))

/-! The lattice and the belfry (chapters 09 and 10) -/

/-- The commands that a turn evaluates, as R35 latches them: their source, OPC and argument bytes. -/
def latchedAs : Instr → Option OpCmd
  | .ack src p k => some ⟨src, 0x01, leBytes 2 p.toNat ++ [k]⟩
  | .ackpoint src p => some ⟨src, 0x02, leBytes 2 p.toNat⟩
  | .inhibit src p m => some ⟨src, 0x03, leBytes 2 p.toNat ++ leBytes 2 m.toNat⟩
  | .uninhibit src p m => some ⟨src, 0x04, leBytes 2 p.toNat ++ leBytes 2 m.toNat⟩
  | .oos src p => some ⟨src, 0x05, leBytes 2 p.toNat⟩
  | .rts src p => some ⟨src, 0x06, leBytes 2 p.toNat⟩
  | .writept src p v st => some ⟨src, 0x07, leBytes 2 p.toNat ++ leBytes 4 v.toNat ++ [st]⟩
  | .setduty src e => some ⟨src, 0x11, [e]⟩
  | .accept src k => some ⟨src, 0x12, [k]⟩
  | .stationack src k => some ⟨src, 0x13, [k]⟩
  | .presence src e v => some ⟨src, 0x14, [e, v]⟩
  | .watch src v => some ⟨src, 0x15, [v]⟩
  | .watchreset src => some ⟨src, 0x16, []⟩
  | .pnlhost ref ok args => some ⟨.host ref ok, 0x21, args⟩
  | .pnlmaintTest ref ok r l => some ⟨.host ref ok, 0x22, [r, 1, l]⟩
  | .pnlmaintRestore ref ok r => some ⟨.host ref ok, 0x22, [r, 2, 0]⟩
  | .pnlmaintRedraw ref ok r => some ⟨.host ref ok, 0x22, [r, 3, 0]⟩
  | .hartcmd ref ok n e => some ⟨.host ref ok, 0x31, byteOf n.toNat :: e⟩
  | .canframe ref ok ch fl id data =>
    some ⟨.host ref ok, 0x32, [ch, fl] ++ leBytes 4 id.toNat ++ byteOf data.length :: data⟩
  | _ => none

/-- A command to the lattice, the belfry, the panel or an engine (R35, R242, R246, R262): the token holder puts it
behind those that arrived before it, for the next sample latch, and nothing else changes; a host command whose ID is
known already is not latched again (R300); a standby never takes one. -/
def Obligations.CommandsWaitForTheLatch : Prop :=
  ∀ (c : Instr) (o : OpCmd) (s : State), latchedAs c = some o → s.Up →
    (s.dev.holder = true → s.dev.fresh o.src = true → exec c s = .next (s.on
      ({ s.dev with turn := { s.dev.turn with arrived := s.dev.turn.arrived ++ [o] } } : Dev))) ∧
    ((s.dev.holder = false ∨ s.dev.fresh o.src = false) → exec c s = .next s)

/-- What point commands do in their turn (R237, R239, R240, R242, R243): the outcomes of an acknowledgement by the
alarm's state; INHIBIT and OOS refused on a NOINH point; a lower-ranked contrary setting superseded; the next state
of an alarm. -/
def Obligations.PointCommandOutcomes : Prop :=
  (∀ (r : PointRec) (s : Pt) (t : PtTurn) (k : Nat) (a : Alarm), s.al[k]? = some a → s.oos = false →
    a.inh = false → (ckRec r k).cls < 3 →
    (a.st = 1 → ackAlarm r s t k = (0, { s with al := s.al.set k { a with st := 2 } },
      { t with acked := k :: t.acked })) ∧
    (a.st = 3 → ackAlarm r s t k = (0, { s with al := s.al.set k { a with st := 0 } },
      { t with acked := k :: t.acked })) ∧
    (a.st = 2 → ackAlarm r s t k = (1, s, t)) ∧
    ((a.st = 4 ∨ a.st = 6 ∨ a.st = 7) → k ∉ t.acked → ackAlarm r s t k = (2, s, t)) ∧
    (a.st = 0 → ackAlarm r s t k = (if t.acked.contains k then 1 else 2, s, t))) ∧
  (∀ (r : PointRec) (s : Pt) (t : PtTurn) (k : Nat) (a : Alarm), s.al[k]? = some a →
    (s.oos = true ∨ a.inh = true ∨ (ckRec r k).cls = 3) → ackAlarm r s t k = (2, s, t)) ∧
  (∀ (r : PointRec) (s : Pt) (t : PtTurn) (m rank : Nat), r.noinh = true →
    setInhibit r s t m rank true = (3, s, t) ∧ setOos r s t rank true = (3, s, t)) ∧
  (∀ (r : PointRec) (s : Pt) (m rank rank' : Nat) (t : PtTurn), r.noinh = false → m ≠ 0 → m < 512 →
    t = ⟨[], [], []⟩ → rank < rank' →
    let x := setInhibit r s t m rank true
    x.1 = 0 ∧ (∀ (k : Nat) (a : Alarm), s.al[k]? = some a → x.2.1.al[k]? = some { a with inh := bitOf m k || a.inh }) ∧
    (setInhibit r x.2.1 x.2.2 m rank' false).1 = 4 ∧ (setInhibit r x.2.1 x.2.2 m rank' false).2.1 = x.2.1) ∧
  (∀ (st cls : Nat) (c oos inh sup : Bool), st ≤ 6 → cls ≤ 3 →
    nextState 7 c cls oos inh sup = 7 ∧
    nextState st c cls oos inh sup = (if oos then 6 else if inh then 5 else if sup then 4
      else if cls = 3 then (if c then 2 else 0)
      else if c then (if st = 2 then 2 else 1)
      else if st = 1 ∨ st = 3 then 3 else 0))

/-- A command that computes one part of the turn in hand: that part of its next state becomes what evaluation gives
from the turn's own input image and the state of the last completed turn, in a completed turn the device's own state
with it, and nothing else changes; with no turn in hand, in an overrun turn (R28) and in a held one (R297) it does
nothing. That such a part is also a command by itself is the model's choice (log entry 33). -/
def ComputesPart (c : Instr) (s : State) (part : EvalState → EvalState → EvalState) : Prop :=
  (s.dev.turn.run = none → exec c s = .next s) ∧
  ∀ r, s.dev.turn.run = some r →
    ((r.held = true ∨ r.phase = .overrun) → exec c s = .next s) ∧
    (r.held = false → r.phase ≠ .overrun →
      let new := (evaluate s.dev.image r.inp r.last).1
      exec c s = .next (s.on { s.dev with turn := { s.dev.turn with
        run := some { r with next := part new r.next }
        cur := if r.phase = .completed then part new s.dev.turn.cur else s.dev.turn.cur } }))

/-- Counts that complete in the lattice: an alarm's delay (R234, R239), a rate window (R234), a host point's timeout
(R245), a timer cell (R258). Each command computes its part of the turn in hand, as evaluation gives it; and evaluation
completes a delay when its count passes ONDLY or OFFDLY, takes the rate at every RWIN turns, makes a host point stale
when its timeout has passed since its write, and ends TON and TOF when their count has reached PT. -/
def Obligations.LatticeCountsComplete : Prop :=
  (∀ (s : State) (p : Fin 4096) (k : Fin 9), s.Up → ComputesPart (.alarmDelayExpire p k) s (fun new e =>
    { e with pts := upd e.pts p.val (fun x => { x with
        al := upd x.al k.val (fun _ =>
          (new.pts.getD p.val Pt.empty).al.getD k.val ⟨7, false, false, false, 0⟩) }) })) ∧
  (∀ (s : State) (p : Fin 4096), s.Up → ComputesPart (.rateWindow p) s (fun new e =>
    { e with pts := upd e.pts p.val (fun x => { x with
        rq := (new.pts.getD p.val Pt.empty).rq, rqv := (new.pts.getD p.val Pt.empty).rqv,
        yref := (new.pts.getD p.val Pt.empty).yref, refv := (new.pts.getD p.val Pt.empty).refv }) })) ∧
  (∀ (s : State) (h : Fin 512), s.Up → ComputesPart (.hostPointStale h) s (fun new e =>
    { e with hps := upd e.hps h.val (fun x => { x with
        status := (new.hps.getD h.val HostPt.empty).status }) })) ∧
  (∀ (s : State) (t : Fin 2048), s.Up → ComputesPart (.timerCellExpire t) s (fun new e =>
    { e with timers := upd e.timers t.val (fun _ => new.timers.getD t.val Timer.empty) })) ∧
  (∀ (ck : CheckRec) (a : Alarm),
    (a.r = a.c → delayStep ck a = { a with dc := 0 }) ∧
    (a.r = true → a.c = false → delayStep ck a = if ck.ondly < a.dc + 1 then { a with c := true, dc := 0 }
      else { a with dc := a.dc + 1 }) ∧
    (a.r = false → a.c = true → delayStep ck a = if ck.offdly < a.dc + 1 then { a with c := false, dc := 0 }
      else { a with dc := a.dc + 1 })) ∧
  (∀ (r : PointRec) (turn : Nat) (x : Pt),
    (r.rwin = 0 ∨ turn % r.rwin ≠ 0 → rateWindow r turn x = x) ∧
    (r.rwin ≠ 0 → turn % r.rwin = 0 → x.q = 0 → x.refv = true →
      rateWindow r turn x = { x with rq := sat32 (x.y - x.yref), rqv := true, yref := x.y }) ∧
    (r.rwin ≠ 0 → turn % r.rwin = 0 → x.q ≠ 0 →
      rateWindow r turn x = { x with rqv := false, refv := false })) ∧
  (∀ (img : Image) (h turn t : Nat) (x : HostPt), hostTimeout img h = some t → x.status ≤ 1 →
    (hostStale img h (x.aged turn)).status = if t ≤ min 0xFFFF (turn - x.since) then 2 else x.status) ∧
  (∀ (pt : Nat) (t : Timer),
    (pt ≤ t.et → (timerStep 0 pt true false t).q = true ∧ (timerStep 1 pt false false t).q = false) ∧
    (t.et < pt → (timerStep 0 pt true false t).q = false ∧ (timerStep 0 pt true false t).et = t.et + 1 ∧
      (t.q = true → (timerStep 1 pt false false t).q = true ∧ (timerStep 1 pt false false t).et = t.et + 1)) ∧
    (timerStep 0 pt false false t).q = false ∧ (timerStep 1 pt true false t).q = true)

/-- One chain of a belfry as in another. -/
def chainAs (new b : Belfry) (c : Nat) : Belfry :=
  { b with chains := upd b.chains c (fun _ => new.chains.getD c Chain.empty)
           nodutyChain := upd b.nodutyChain c (fun _ => new.nodutyChain.getD c false) }

/-- The belfry's own steps: the escalation and the recall of a chain (R267), the watch and its reset by a contact
(R269), acceptance by a station press (R265), the duty by the selector (R261) and by the schedule (R263). Each command
computes its part of the turn in hand, as evaluation gives it; and evaluation escalates a calling chain after TMO of its
stage, recalls an accepted one after REARM, accepts it for its station, takes the watch to PRE and to EXP at their
counts and back at a reset, and gives the duty to an engineer who exists and is present, by the schedule's latest
minute. -/
def Obligations.BelfrySteps : Prop :=
  (∀ (s : State) (c : Fin 16) (i : Instr), s.Up → (i = .chainEscalate c ∨ i = .chainRearm c) →
    ComputesPart i s (fun new e => { e with bel := chainAs new.bel e.bel c.val })) ∧
  (∀ (s : State) (k : Fin 4) (i : Instr), s.Up →
    (i = .watchPre ∨ i = .watchExpire ∨ i = .watchContactReset k) →
    ComputesPart i s (fun new e => { e with bel := { e.bel with wst := new.bel.wst, wc := new.bel.wc } })) ∧
  (∀ (s : State) (k : Fin 8), s.Up → ComputesPart (.stationPress k) s (fun new e => { e with
    bel := { ((stationChains s.dev.image (s.dev.image.belf.stations.getD k.val StationRec.empty)).foldl
      (chainAs new.bel) e.bel) with acks := new.bel.acks } })) ∧
  (∀ (s : State), s.Up → ComputesPart .dutySwitchAct s (fun new e => { e with bel := { e.bel with
    duty := new.bel.duty, lastsrc := new.bel.lastsrc, swLast := new.bel.swLast, swValid := new.bel.swValid } })) ∧
  (∀ (s : State), s.Up → ComputesPart .dutyScheduleAct s (fun new e => { e with bel := { e.bel with
    duty := new.bel.duty, lastsrc := new.bel.lastsrc, lvalid := new.bel.lvalid, lL := new.bel.lL,
    hold := new.bel.hold } })) ∧
  (∀ (r : ChainRec) (tv : Int) (x : Chain), x.st = 1 →
    (∀ station src, (chainStep r true tv (some (station, src)) x).2 = 3 ∧
      (chainStep r true tv (some (station, src)) x).1.st = 2 ∧
      (chainStep r true tv (some (station, src)) x).1.accst = station) ∧
    (x.stg < lastStage r → (r.stages.getD x.stg ⟨0, false, false, false, 0⟩).tmo ≠ 0 → x.cnt < 0xFFFFFF →
      (100 * (r.stages.getD x.stg ⟨0, false, false, false, 0⟩).tmo ≤ x.cnt + 1 →
        (chainStep r true tv none x).2 = 2 ∧ (chainStep r true tv none x).1.stg = x.stg + 1 ∧
        (chainStep r true tv none x).1.cnt = 0) ∧
      (x.cnt + 1 < 100 * (r.stages.getD x.stg ⟨0, false, false, false, 0⟩).tmo →
        (chainStep r true tv none x).2 = 0 ∧ (chainStep r true tv none x).1.stg = x.stg ∧
        (chainStep r true tv none x).1.cnt = x.cnt + 1))) ∧
  (∀ (r : ChainRec) (tv : Int) (acc : Option (Nat × Nat)) (x : Chain), x.st = 2 → r.rearm ≠ 0 → r.rearm ≤ x.cnt + 1 →
    (chainStep r true tv acc x).2 = 4 ∧ (chainStep r true tv acc x).1.st = 1 ∧
    (chainStep r true tv acc x).1.stg = 0 ∧ (chainStep r true tv acc x).1.cnt = 0) ∧
  (∀ (wtime wpre wst wc : Nat), wpre < wtime → wst ≠ 0 → wc < 0xFFFFFFFF →
    watchStep wtime wpre true true wst wc = (1, 0) ∧
    watchStep wtime wpre true false wst wc
      = (if wtime ≤ wc + 1 then 3 else if wtime - wpre ≤ wc + 1 then 2 else 1, wc + 1) ∧
    watchStep wtime wpre false false wst wc = (0, 0)) ∧
  (∀ (img : Image) (inp : InImage) (x : Belfry × BelTurn × Acc) (e cause code : Nat) (sk : Bool) (minute : Nat),
    (e < img.belf.neng → engPresent x.1 e = true → (dutyAct img inp x e cause code sk minute).1.duty = some e ∧
      (dutyAct img inp x e cause code sk minute).1.lastsrc = cause) ∧
    (img.belf.neng ≤ e ∨ engPresent x.1 e = false → (dutyAct img inp x e cause code sk minute).1 = x.1)) ∧
  (∀ (l : Int) (minute : Nat), schedTime l minute ≤ l ∧ l < schedTime l minute + 1440 ∧
    (schedTime l minute - minute) % 1440 = 0)

/-! The journal (chapter 11) -/

/-- The journal's own commands: the drain takes the oldest accepted entry to the ledger, in SEQ order, and outside
write-through the seal is no longer valid (R294, R295); the seal is written over a drained journal and records the
next SEQ and the chain (R295); a signed segment waits for its checkpoint, on a holder only (R290); an entry is
exported in SEQ order while Q48 has room, once its turn has emitted, by a holder only (R302); a standby ignores a confirmation, a holder's waits
for its latch (R303); CLR resets PEAK and TOTAL; a read of a low word latches the high one. -/
def Obligations.JournalCommands : Prop :=
  ∀ s : State, s.Up →
    let j := s.dev.jrn
    (j.wbuf = [] → exec .ledgerDrain s = .next s) ∧
    (∀ e es, j.wbuf = e :: es → Completes .ledgerDrain s (fun d =>
      d.jrn.wbuf = es ∧ d.jrn.ledger = (e :: j.ledger).take 3670016 ∧
      d.jrn.sealed = (if j.wthru then j.sealed else none) ∧ d.jrn.next = j.next ∧ d.jrn.wmark = j.wmark ∧
      d.regs = s.dev.regs)) ∧
    (∀ us : BitVec 10, Completes (.sealWrite us) s (fun d =>
      d.jrn.wbuf = [] ∧ d.jrn.sealed.map Seal.head = some j.next ∧ d.jrn.sealed.map Seal.chain = some j.chain ∧
      d.jrn.ledger = (j.wbuf.reverse ++ j.ledger).take (if j.wbuf = [] then j.ledger.length else 3670016) ∧
      d.rdF R.JRN_FLUSH F.JRN_FLUSH_LAST = us.toNat ∧ d.jrn.next = j.next)) ∧
    (∀ seg segs, j.unsigned = seg :: segs →
      (s.dev.holder = true → Completes .checkpointSigned s (fun d =>
        d.jrn.unsigned = segs ∧ d.jrn.signed = j.signed ++ [seg] ∧ d.regs = s.dev.regs)) ∧
      (s.dev.holder = false → exec .checkpointSigned s = .next s)) ∧
    (∀ e, s.dev.holder = true → j.next = j.exported + 1 → j.exported < j.shownH → j.entryAt j.exported = some e →
      (s.dev.queue 48).length < 1536 → s.dev.queues.q.length = 64 → Completes .journalExport s (fun d =>
        (d.queue 48).map QElem.bytes = (s.dev.queue 48).map QElem.bytes ++ [padTo 64 e.bytes] ∧
        d.jrn.exported = j.exported + 1 ∧ d.jrn.wmark = j.wmark ∧ d.jrn.ledger = j.ledger)) ∧
    (s.dev.exports = false → exec .journalExport s = .next s) ∧
    (∀ lo : BitVec 30, (s.dev.holder = false → exec (.expackWrite lo) s = .next s) ∧
      (s.dev.holder = true → s.dev.wbWord R.JRN_EXPACK = none →
        s.dev.rdF R.JRN_EXPACK F.JRN_EXPACK_SEQLO ≠ lo.toNat → Completes (.expackWrite lo) s (fun d =>
          d.wbWord R.JRN_EXPACK = some (BitVec.ofNat 32 lo.toNat) ∧ d.jrn = j))) ∧
    exec .poolClr s = .next (s.on (s.dev.wrF R.JRN_POOL F.JRN_POOL_PEAK 0)) ∧
    exec .holdcntClr s = .next (s.on (s.dev.wrF R.JRN_HOLDCNT F.JRN_HOLDCNT_TOTAL 0)) ∧
    exec .headLoRead s = .next (s.on (s.dev.wr R.JRN_HEAD_HI (BitVec.ofNat 32 ((j.shownH - 1) / 2 ^ 32)))) ∧
    exec .wmarkLoRead s = .next (s.on (s.dev.wr R.JRN_WMARK_HI (BitVec.ofNat 32 (j.shownW / 2 ^ 32)))) ∧
    exec .ckptLoRead s = .next (s.on (s.dev.wr R.JRN_CKPT_HI (BitVec.ofNat 32 (j.shownC / 2 ^ 32))))

/-- What a commit takes (R19, R20, R304): at most K entries; every entry is taken, refused (class D alone) or stays
in its queue; nothing but class D is refused, and class A goes first: while the journal has room, a commit that
leaves a class A entry waiting has taken class A entries only. The entries of a commit (R282, R285, R288): their
SEQ follow one another from H + 1, and each CHAIN is the first eight bytes of the SHA-256 of the CHAIN before it
and the entry's first 56 bytes; here without a GENESIS or a checkpoint to form. -/
def Obligations.CommitOrderAndChain : Prop :=
  (∀ (ing : List (List Entry)) (turn agelim free k : Nat), ing.length = 8 →
     let t := takeEntries turn agelim free (ingCount ing + 1) k 0 ⟨[], [], ing, 0, false, false⟩
     t.taken.length ≤ k ∧ t.taken.length + t.refused + ingCount t.ing = ingCount ing ∧ t.ing.length = 8 ∧
     (t.ing.getD 3 []).length + t.refused ≤ (ing.getD 3 []).length ∧
     (∀ q, q < 8 → ∃ pre, ing.getD q [] = pre ++ t.ing.getD q []) ∧
     (k + 16 ≤ free → t.ing.getD 0 [] ≠ [] → t.taken = (ing.getD 0 []).take k)) ∧
  (∀ (d : Dev) (tick : Nat) (taken : List Entry), d.jrn.genesis = false → d.jrn.signed = [] →
     let es := d.formEntries tick taken
     es.length = taken.length ∧
     ∀ (k : Nat) (e : LEntry), es[k]? = some e →
       e.seq = d.jrn.next + k ∧ e.bytes.length = 64 ∧
       e.chain = (sha256 ((if k = 0 then d.jrn.chain else ((es[k - 1]?).map LEntry.chain).getD []) ++ e.bytes.take 56)).take 8)

/-! The message bus (chapter 12) -/

/-- Transmission on a channel (R322 to R325, R336): an empty buffer of a channel in NORMAL takes the head of the class
A queue first; only the buffer in the attempt of an integrated channel outside bus-off completes or fails; a completed
sequenced frame leaves its buffer and the owed entries; a lost arbitration is retried and counts in no error counter, an
error is retried and raises TEC by 8, but not an acknowledgement error of an error-passive channel that sees no dominant
bit in its error flag (ISO 11898-1, log entry 19); the cancel of a queued host frame takes it out, one not found gets its digest too; the mark's high word is
latched by a read of its low word; backlog is placed when its queue has room. -/
def Obligations.BusTransmission : Prop :=
  ∀ (s : State) (n : Fin 4), s.Up → s.dev.queues.q.length = 64 → s.dev.can.chans.length = 4 →
    (s.dev.canCh n.val).bufs.length = 3 →
    (∀ (k : Fin 3) (e : QElem) (es : List QElem), s.dev.canMode n.val = 1 → (s.dev.canCh n.val).buf k.val = none →
      s.dev.queue (4 + 3 * n.val) = e :: es → s.dev.headFree n.val (4 + 3 * n.val) = true →
      Completes (.txBufferLoad n k) s (fun d => d.queue (4 + 3 * n.val) = es ∧
        (d.canCh n.val).buf k.val = some ⟨0, e, 1, 0, false, false, 0⟩ ∧
        (∀ i, i ≠ k.val → (d.canCh n.val).buf i = (s.dev.canCh n.val).buf i))) ∧
    (∀ (k : Fin 3) (stamp : Word) (lec : BitVec 3) (arb quiet : Bool), s.dev.sending n.val k.val = none →
      exec (.txComplete n k stamp) s = .next s ∧ exec (.txError n k lec arb quiet) s = .next s) ∧
    (∀ (k : Fin 3) (b : TxBuf) (stamp : Word) (seq : Nat), s.dev.sending n.val k.val = some b → b.elem.seq = some seq → b.elem.ref = none →
      Completes (.txComplete n k stamp) s (fun d => (d.canCh n.val).buf k.val = none ∧
        (d.canCh n.val).owed = (s.dev.canCh n.val).owed.erase seq ∧ d.canTec n.val = s.dev.canTec n.val - 1)) ∧
    (∀ (k : Fin 3) (b : TxBuf) (lec : BitVec 3) (quiet : Bool), s.dev.sending n.val k.val = some b → b.cancel = false →
      b.tooLate = false → Completes (.txError n k lec true quiet) s (fun d =>
        (d.canCh n.val).buf k.val = some { b with attempts := min 255 (b.attempts + 1), state := 1 } ∧
        d.rd (R.CAN_ERR n.val) = s.dev.rd (R.CAN_ERR n.val))) ∧
    (∀ (k : Fin 3) (b : TxBuf) (lec : BitVec 3) (quiet : Bool), s.dev.sending n.val k.val = some b → b.cancel = false →
      b.tooLate = false →
      lec.toNat ≠ 3 ∨ quiet = false ∨ s.dev.rdF (R.CAN_ERR n.val) F.CAN_ERR_ESTATE ≠ 1 →
      Completes (.txError n k lec false quiet) s (fun d =>
        (d.canCh n.val).buf k.val = some { b with attempts := min 255 (b.attempts + 1), state := 1 } ∧
        d.canTec n.val = min 255 (s.dev.canTec n.val + 8) ∧
        (255 < s.dev.canTec n.val + 8 → d.rdF (R.CAN_ERR n.val) F.CAN_ERR_ESTATE = 2))) ∧
    (∀ (k : Fin 3) (b : TxBuf) (lec : BitVec 3), s.dev.sending n.val k.val = some b → b.cancel = false →
      b.tooLate = false → lec.toNat = 3 → s.dev.rdF (R.CAN_ERR n.val) F.CAN_ERR_ESTATE = 1 →
      Completes (.txError n k lec false true) s (fun d =>
        (d.canCh n.val).buf k.val = some { b with attempts := min 255 (b.attempts + 1), state := 1 } ∧
        d.canTec n.val = s.dev.canTec n.val)) ∧
    (∀ (cmdid : Word) (e : QElem) (es : List QElem) (phase : Fin 4), s.dev.queue (6 + 3 * n.val) = e :: es →
      e.ref ≠ none → uAt e.bytes 0 4 = cmdid.toNat → (s.dev.queue 52).length < 1536 →
      Completes (.txcancel n cmdid phase) s (fun d => d.queue (6 + 3 * n.val) = es ∧
        (d.queue 52).length = (s.dev.queue 52).length + 1 ∧ d.evPending (161 + 8 * n.val) = true)) ∧
    Completes (.markLoRead n) s (fun d =>
      d.rd (R.CAN_MARK_LO n.val) = BitVec.ofNat 32 (s.dev.canMark n.val) ∧
      d.rd (R.CAN_MARK_HI n.val) = BitVec.ofNat 32 (s.dev.canMark n.val / 2 ^ 32) ∧
      s.dev.OnlyRegs d [R.CAN_MARK_LO n.val, R.CAN_MARK_HI n.val]) ∧
    (∀ (b : Backlog) (bs : List Backlog) (e : LEntry), (s.dev.canCh n.val).backlog = b :: bs → b.queue < 64 →
      s.dev.hasFree b.queue = true → s.dev.jrn.entryAt b.seq = some e → Completes (.backlogPlace n) s (fun d =>
        (d.canCh n.val).backlog = bs ∧ (d.queue b.queue).length = (s.dev.queue b.queue).length + 1 ∧
        ((d.queue b.queue).getLast?).map QElem.seq = some (some b.seq)))

/-- Reception on a channel (R318 to R321, R323, R331, R334, R341, R342): a frame that no receive entry names is
placed in its ring when there is room, and otherwise counts as dropped, with EV163 + 8n; the window's lock holds
the head until word 19 takes it or RXUNLOCK lets it go; a remote point turns stale once; a receive error raises
REC; bus-off recovery clears both counters; an integrated channel enters NORMAL in a holder and LISTEN
otherwise; a sleeping device notes a wake condition, 5 µs of dominant bus or its wake frame by WAKEMODE, and
nothing else. The duplicate window (R331): no frame of a stream is accepted twice, unless the stream restarts
with RESYNC; a frame ahead of the highest sequence is always accepted, and moves it. -/
def Obligations.BusReception : Prop :=
  (∀ (s : State) (n : Fin 4), s.dev.queues.q.length = 64 → s.dev.can.chans.length = 4 →
     (∀ (stamp : Word) (esi : Bool) (f : Frame), s.Up → s.dev.canMode n.val = 1 → s.dev.role = 1 →
       (s.dev.canCh n.val).integrated = true → f.fd = false → s.dev.rxEntries n.val f = [] →
       ((s.dev.queue n.val).length < 4096 → Completes (.canFrameReceived n stamp esi f) s (fun d =>
         (d.queue n.val).map QElem.bytes = (s.dev.queue n.val).map QElem.bytes ++
           [padTo 80 (ringElement stamp esi f 0 (((s.dev.canCh n.val).ring)) s.dev.turn.number)] ∧
         d.turn = s.dev.turn ∧ d.can.remote = s.dev.can.remote)) ∧
       (4096 ≤ (s.dev.queue n.val).length → Completes (.canFrameReceived n stamp esi f) s (fun d =>
         d.queue n.val = s.dev.queue n.val ∧ d.evPending (163 + 8 * n.val) = true ∧
         d.rdF (R.CAN_CNT n.val) F.CAN_CNT_RXDROPS
           = min 255 (s.dev.rdF (R.CAN_CNT n.val) F.CAN_CNT_RXDROPS + 1)))) ∧
     (s.Up → s.dev.queue n.val ≠ [] →
       exec (.rxwinLock n) s = .next (s.on (s.dev.wrF (R.CAN_RXSTAT n.val) F.CAN_RXSTAT_LOCK 1))) ∧
     (s.Up → exec (.rxunlock n) s = .next (s.on (s.dev.wrF (R.CAN_RXSTAT n.val) F.CAN_RXSTAT_LOCK 0))) ∧
     (s.Up → s.dev.rdF (R.CAN_RXSTAT n.val) F.CAN_RXSTAT_LOCK = 1 → Completes (.rxwinRelease n) s (fun d =>
       d.queue n.val = (s.dev.queue n.val).tail ∧ d.rdF (R.CAN_RXSTAT n.val) F.CAN_RXSTAT_LOCK = 0)) ∧
     (s.dev.rdF (R.CAN_RXSTAT n.val) F.CAN_RXSTAT_LOCK = 0 → exec (.rxwinRelease n) s = .next s) ∧
     (∀ (lec : BitVec 3) (primary : Bool), s.Up → s.dev.canMode n.val = 1 → Completes (.canRxError n lec primary) s
       (fun d => d.rdF (R.CAN_ERR n.val) F.CAN_ERR_LEC = lec.toNat ∧
         d.canRecv n.val = min 255 (s.dev.canRecv n.val + (if primary then 8 else 1)) ∧
         d.canTec n.val = s.dev.canTec n.val)) ∧
     (s.Up → s.dev.rdF (R.CAN_ERR n.val) F.CAN_ERR_ESTATE = 2 → Completes (.busoffRecovery n) s (fun d =>
       d.rdF (R.CAN_ERR n.val) F.CAN_ERR_ESTATE = 0 ∧ d.canTec n.val = 0 ∧ d.canRecv n.val = 0 ∧
       d.evPending (162 + 8 * n.val) = true ∧ d.can = s.dev.can ∧ (∀ q, q ≠ 49 → d.queue q = s.dev.queue q))) ∧
     (s.Up → (s.dev.canRec n.val).en = true → s.dev.canMode n.val ≠ 3 → s.dev.canMode n.val ≠ 4 →
       Completes (.canIntegrated n) s (fun d => (d.canCh n.val).integrated = true ∧
         d.canMode n.val = if s.dev.holder then 1 else 2)) ∧
     (∀ (dominant : BitVec 16) (frame : Option Frame),
       let w : WakeSeen := ⟨n, dominant, frame⟩
       let wakes := (s.dev.canRec n.val).wakes dominant.toNat frame
       (s.dev.pwr.boot = 4 → n.val < 2 → wakes = true → exec (.canWake w) s = .next (s.on
         ((s.dev.flag (R.CAN_STAT n.val) 9).raise (167 + 8 * n.val)))) ∧
       ((s.dev.pwr.boot ≠ 4 ∨ 2 ≤ n.val ∨ wakes = false) → exec (.canWake w) s = .next s) ∧
       ((s.dev.canRec n.val).wakemode = 0 → wakes = false) ∧
       ((s.dev.canRec n.val).wakemode = 1 → wakes = decide (50 < dominant.toNat)) ∧
       ((s.dev.canRec n.val).wakemode = 2 → wakes = frame.any (s.dev.canRec n.val).wakeFrame)) ∧
     (∀ p : Fin 4096, s.Up → (s.dev.remote p.val).q = 0 → (s.dev.remote p.val).stale = false →
       (s.dev.remote p.val).fresh = false → staleTime s.dev.image p.val ≠ 0 →
       (s.dev.remote p.val).latched + staleTime s.dev.image p.val ≤ s.dev.turn.number →
       Completes (.remotePointStale p) s (fun d => d.remote p.val = { s.dev.remote p.val with q := 3, stale := true }))) ∧
  ((∀ (st : Option DupState) (sender stream s : Nat) (resync : Bool), s < 65536 →
     (∀ x, st = some x → x.hs < 65536 ∧ x.win < 2 ^ 64) →
     (dupStep (some (dupStep st sender stream s resync).2.1) sender stream s false).1 ≠ 0) ∧
   (∀ (x : DupState) (s : Nat), x.hs < 65536 → s < 65536 → 0 < (s + 65536 - x.hs) % 65536 →
     (s + 65536 - x.hs) % 65536 < 32768 →
     (dupStep (some x) x.sender x.stream s false).1 = 0 ∧
     (dupStep (some x) x.sender x.stream s false).2.1.hs = s ∧
     (dupStep (some x) x.sender x.stream s false).2.2 = decide (1 < (s + 65536 - x.hs) % 65536)))

/-! The pair and castling (chapter 13) -/

/-- An active in service with a standby. -/
def withStandby (d : Dev) : Prop := d.role = 2 ∧ d.peerUp = true

/-- The Ivgan link (R353 to R357): with the peer authenticated and the image the same, training ends UP with the
trained lanes, and otherwise with AUTHFAIL; a loss counts, sets LINKLOST and goes back to DETECT without a standby in
service; the loss of one lane of two leaves the other; a block with a bad CRC only counts; a good block in sequence is
taken; an acknowledgement ends its block; a timeout sends again every block from the oldest of its queue on; a
turn-start set starts the turn it names. -/
def Obligations.IvganLink : Prop :=
  (∀ (s : State) (lanes : BitVec 2) (auth : List Byte), s.Up → s.dev.role = 2 → 1 ≤ s.dev.lstate → s.dev.lstate ≤ 4 →
    lanes ≠ 0 → slice auth 32 128 = s.dev.slotHashes →
    byteAt auth 160 ≠ s.dev.rdF R.PAR_ROLE F.PAR_ROLE_IDHI → slice auth 0 32 = padTo 32 s.dev.image.head.hash →
    Completes (.linkTrainingDone lanes auth) s (fun d =>
      if Config.peerAuthentic (auth.drop 225) (s.dev.trng 4).1 (slice auth 161 64) = true then
        d.lstate = 5 ∧ d.rdF R.PAR_LNKSTAT F.PAR_LNKSTAT_LANE0 = lanes.toNat % 2 ∧
        d.rdF R.PAR_LNKSTAT F.PAR_LNKSTAT_LANE1 = lanes.toNat / 2 ∧ d.evPending 197 = true ∧ d.pair.blocks = []
      else d.rdF R.PAR_STAT F.PAR_STAT_AUTHFAIL = 1 ∧ d.evPending 206 = true ∧
        d.lstate = (if s.dev.fEn .link = true ∧ s.dev.fState .link = 2 then 1 else 0))) ∧
  (∀ s : State, s.Up → s.dev.lstate = 5 → s.dev.role = 2 → s.dev.danger = false →
    Completes .linkLost s (fun d => d.lstate = 1 ∧ d.rdF R.PAR_STAT F.PAR_STAT_LINKLOST = 1 ∧ d.evPending 196 = true ∧
      d.rdF R.PAR_LNKCNT F.PAR_LNKCNT_LOSSES = min 255 (s.dev.rdF R.PAR_LNKCNT F.PAR_LNKCNT_LOSSES + 1) ∧
      d.pair.blocks = [] ∧ d.peerUp = false ∧ d.role = 2 ∧ d.turn = s.dev.turn)) ∧
  (∀ s : State, s.Up → s.dev.lstate = 5 → s.dev.rdF R.PAR_LNKSTAT F.PAR_LNKSTAT_LANE0 = 1 →
    s.dev.rdF R.PAR_LNKSTAT F.PAR_LNKSTAT_LANE1 = 1 →
    exec (.laneDegraded 0) s = .next (s.on
      (((s.dev.wrF R.PAR_LNKSTAT F.PAR_LNKSTAT_LANE0 0).flag R.PAR_STAT 4).raise 198)) ∧
    exec (.laneDegraded 1) s = .next (s.on
      (((s.dev.wrF R.PAR_LNKSTAT F.PAR_LNKSTAT_LANE1 0).flag R.PAR_STAT 4).raise 198))) ∧
  (∀ (s : State) (q : Fin 4) (seq : BitVec 16) (bytes : List Byte), s.Up → s.dev.lstate = 5 →
    exec (.linkBlockReceived q seq false bytes none) s = .next (s.on (s.dev.wrF R.PAR_LNKCNT F.PAR_LNKCNT_CRCERRS
      (min 255 (s.dev.rdF R.PAR_LNKCNT F.PAR_LNKCNT_CRCERRS + 1)))) ∧
    (q ≠ 0 → q ≠ 3 → bytes.length ≤ elemSize (60 + q.val) → seq.toNat = s.dev.pair.rxSeq →
      exec (.linkBlockReceived q seq true bytes none) s = .next (s.on
        { s.dev with pair := { s.dev.pair with rxSeq := (s.dev.pair.rxSeq + 1) % 65536 } })) ∧
    (∀ a : BitVec 16, exec (.linkBlockReceived q seq true bytes (some a)) s = .next (s.on
      { s.dev with pair := { s.dev.pair with blocks := s.dev.pair.blocks.filter (fun b => b.2.1 ≠ a.toNat) } }))) ∧
  (∀ (s : State) (q : Fin 4), s.Up → Completes (.linkBlockTimeout q) s (fun d =>
    d.rdF R.PAR_LNKCNT F.PAR_LNKCNT_RESENDS = min 65535 (s.dev.rdF R.PAR_LNKCNT F.PAR_LNKCNT_RESENDS
      + (s.dev.pair.blocks.dropWhile (fun b => b.1 ≠ 60 + q.val)).length) ∧
    s.dev.OnlyRegs d [R.PAR_LNKCNT])) ∧
  (∀ (s : State) (low : BitVec 16), s.Up → s.dev.role = 3 → s.dev.lstate = 5 → s.dev.turn.run = none →
    s.dev.pair.castle = 0 → s.dev.vault.swapTurn = none → s.dev.pair.mirTurn = s.dev.pair.doneTurn →
    Completes (.turnStartSet low) s (fun d => d.turn.number % 65536 = low.toNat ∧
      s.dev.turn.number < d.turn.number ∧ d.turn.number ≤ s.dev.turn.number + 65536 ∧
      d.turn.since = s.dev.clk ∧ d.turn.run = none ∧ d.turn.cur = s.dev.turn.cur ∧ d.role = 3))

/-- What each device hears of the other (R293, R349, R367, R375, R389): both tokens held, each sets TOKCONF, and the
device with PAIR_ID high lets its own go; a health report that shows no danger is only noted, and one that shows it
ends the standby's service; two turns without a report do so too; a standby without its link notes the missing
heartbeats once; a standby's happening enters the active's ingress; a reset command resets. -/
def Obligations.PeerMessages : Prop :=
  (∀ (s : State) (bytes : List Byte), s.Up → s.dev.role = 2 → byteAt bytes 8 = 1 →
    Completes (.roleMsg bytes) s (fun d => d.rdF R.PAR_ROLE F.PAR_ROLE_PEERROLE = byteAt bytes 1 % 8 ∧
      d.rdF R.PAR_STAT F.PAR_STAT_TOKCONF = 1 ∧ d.evPending 204 = true ∧
      (s.dev.rdF R.PAR_ROLE F.PAR_ROLE_IDHI = 1 → d.role = 0 ∧ d.rdF R.PAR_ROLE F.PAR_ROLE_TOKEN = 0 ∧
        d.rdF R.PAR_ROLE F.PAR_ROLE_LINE = 0) ∧
      (s.dev.rdF R.PAR_ROLE F.PAR_ROLE_IDHI ≠ 1 → d.role = 2 ∧ d.turn = s.dev.turn))) ∧
  (∀ (s : State) (bytes : List Byte), s.Up → s.dev.role ≠ 2 →
    exec (.roleMsg bytes) s = .next (s.on (s.dev.wrF R.PAR_ROLE F.PAR_ROLE_PEERROLE (byteAt bytes 1 % 8)))) ∧
  (∀ (s : State) (bytes : List Byte), s.Up → byteAt bytes 8 % 2 = 0 → exec (.healthMsg bytes) s = .next (s.on
    { s.dev with pair := { s.dev.pair with health := bytes, healthAge := 0 } })) ∧
  (∀ (s : State) (bytes : List Byte) (c : Instr), s.Up → withStandby s.dev → s.dev.pair.castle = 0 →
    (s.dev.turn.run.map TurnRun.phase ≠ some .waiting) →
    (c = .healthMsg bytes ∧ byteAt bytes 8 % 2 = 1 ∨ c = .healthTimeout ∧ 2 ≤ s.dev.pair.healthAge) →
    Completes c s (fun d => d.peerUp = false ∧ d.role = 2 ∧ d.evPending 203 = true ∧ d.turn = s.dev.turn)) ∧
  (∀ s : State, s.Up → s.dev.role = 3 → s.dev.lstate ≠ 5 → 2 ≤ s.dev.rdF R.PAR_HBAGE F.PAR_HBAGE_TURNS →
    s.dev.rdF R.PAR_STAT F.PAR_STAT_HBLOST = 0 →
    exec .heartbeatLoss s = .next (s.on ((s.dev.flag R.PAR_STAT 8).raise 205))) ∧
  (∀ (s : State) (kind : BitVec 8) (payload : List Byte), s.Up → s.dev.role = 2 →
    exec (.happenMsg kind payload) s = .next (s.on (s.dev.happen (outEntry kind.toNat 4 7 payload)))) ∧
  (∀ s : State, s.Up → s.dev.image.pair.mode = 1 → Completes .resetcmdMsg s (fun d => d.pwr.boot = 1 ∧ d.role = 0 ∧
    d.rdF R.PWR_RSTCAUSE F.PWR_RSTCAUSE_CAUSE = 5))

/-- The commit with a standby (R27, R360, R362, R363, R365, R368): at the standby, entries and a digest that are its own
complete the turn, and anything else makes it a castling turn that stores nothing; at the active, an ACK with its
digest completes the turn, or is noted where the active's own entries come too late, one with another digest ends the
link and completes the turn alone, one after the deadline makes an overrun turn, and a NAK a castling turn; a standby
evaluates the input image of the turn in hand and waits; its state becomes the mirror's, and a difference is a STATE
miscompare. -/
def Obligations.CommitOfAPair : Prop :=
  (∀ (s : State) (r : TurnRun) (turn : BitVec 48) (es : List (List Byte)) (digest : List Byte), s.Up →
    s.dev.role = 3 → s.dev.danger = false → s.dev.turn.run = some r → r.phase = .waiting →
    turn.toNat = s.dev.turn.number → s.dev.vault.swapReq = false → s.dev.vault.swapTurn = none →
    Completes (.commitend turn es digest) s (fun d =>
      let cause := s.dev.miscompare (received es) r digest
        ((s.dev.prospect r).digest { r with formed := received es })
      if cause = 0 then
        d.turn.run.map TurnRun.phase = some .completed ∧ d.pair.doneTurn = some s.dev.turn.number ∧
        d.turn.overruns = 0 ∧ d.jrn.lastN = es.length
      else d.turn = { s.dev.turn with run := some { r with phase := .castling } } ∧ d.jrn = s.dev.jrn ∧
        d.pair.castle = 1 ∧ d.pair.turnN = s.dev.turn.number ∧ d.pair.cause = cause ∧
        d.rdF R.PAR_STAT F.PAR_STAT_MISCOMP = 1)) ∧
  (∀ (s : State) (r : TurnRun) (bytes : List Byte), s.Up → s.dev.role = 2 → s.dev.turn.run = some r →
    r.phase = .waiting → uAt bytes 2 6 = s.dev.turn.number % 2 ^ 48 →
    (byteAt bytes 0 = 1 → s.dev.sinceStart ≤ s.dev.commitLimit →
      (slice bytes 24 8 = r.digest → exec (.ackMsg bytes) s = .next (s.on
        (if r.commitUs ≤ s.dev.commitLimit then s.dev.completeWith r.formed (max s.dev.sinceStart r.commitUs)
         else { s.dev with turn := { s.dev.turn with run := some { r with acked := true } } }))) ∧
      (slice bytes 24 8 ≠ r.digest → r.commitUs ≤ s.dev.commitLimit → r.take.classAWaits = false → Completes (.ackMsg bytes) s (fun d =>
        d.turn.run = some { r with phase := .completed } ∧ (s.dev.lstate = 5 → d.lstate = 1 ∧ d.peerUp = false) ∧
        d.rdF R.SYS_TURNSTAT F.SYS_TURNSTAT_LINKSOLO = 1))) ∧
    (byteAt bytes 0 = 1 → s.dev.commitLimit < s.dev.sinceStart → r.commitUs ≤ s.dev.commitLimit → r.acked = false →
      Completes (.ackMsg bytes) s (fun d => d.turn.run = some { r with phase := .overrun } ∧
        d.rdF R.SYS_TURNSTAT F.SYS_TURNSTAT_ACKLATE = 1 ∧ d.turn.cur = s.dev.turn.cur)) ∧
    (byteAt bytes 0 = 2 → s.dev.vault.swapReq = false → s.dev.vault.swapTurn = none →
      Completes (.nakMsg bytes) s (fun d =>
        d.turn = { s.dev.turn with run := some { r with phase := .castling } } ∧ d.jrn = s.dev.jrn ∧
        d.pair.castle = 1 ∧ d.pair.cause = byteAt bytes 1 ∧
        d.rdF R.PAR_CNT F.PAR_CNT_MISCOMPS = min 255 (s.dev.rdF R.PAR_CNT F.PAR_CNT_MISCOMPS + 1)))) ∧
  (∀ (s : State) (inp : InImage) (rel : List Release), s.Up → s.dev.role = 3 → s.dev.turnsRun = true →
    s.dev.pair.castle = 0 → inp.turn = s.dev.turn.number → s.dev.turn.run = none → s.dev.turn.prev = none →
    Completes (.inputDelta inp rel) s (fun d =>
      d.turn.run.map (fun r => (r.phase, r.inp)) = some (.waiting, inp) ∧ d.turn.number = s.dev.turn.number ∧
      d.turn.cur = s.dev.turn.cur)) ∧
  (∀ (s : State) (turn : BitVec 48) (m : Mirror), s.Up → s.dev.role = 3 →
    s.dev.pair.doneTurn = some turn.toNat → s.dev.pair.castle = 0 →
    Completes (.mirrorBlock turn m) s (fun d => d.turn.cur = m.state ∧ d.turn.view = m.view ∧
      d.pair.mirTurn = some turn.toNat ∧ d.pair.mirMiss = 0 ∧
      d.pair.found = (if s.dev.turn.cur = m.state then s.dev.pair.found else 4)))

/-- The fast self-test (R369, R370): the checks that TFST reaches count, those that fail in the device's hardware or
by its own clock, converters and channels are failed, and every one under a danger; the results of the peer are
taken for the turn of the castling alone. The outcomes of a castling at the latch of turn n + 2 (R370, R374,
R390). The active: both pass, it keeps the token without a standby, with DISAGREE; it alone passes, it keeps the
token and resets the standby; the standby alone passes, it lets the token go; both fail, it keeps the token with
a dangerous fault. The standby: both pass, it rejoins; it alone passes, it waits to take the token. -/
def Obligations.CastlingDecision : Prop :=
  ((∀ (s : State) (res : BitVec 6), s.Up → (s.dev.pair.castle = 1 ∨ s.dev.pair.castle = 2) → s.dev.pair.ownRes = none →
     Completes (.fastSelftestDone res) s (fun d => ∃ pass run, d.pair.ownRes = some (pass, run) ∧
       (∀ k, k < 6 → run.testBit k = decide (([300, 310, 410, 810, 1200, 2000] : List Nat).getD k 0 ≤ s.dev.tfst)) ∧
       (∀ k, k < 6 → pass.testBit k = (!s.dev.danger && run.testBit k && !res.getLsbD k &&
         !s.dev.checksFailed.testBit k)) ∧
       d.turn = s.dev.turn ∧ d.jrn = s.dev.jrn ∧ (∀ q, q ≠ 63 → q ≠ 49 → d.queue q = s.dev.queue q))) ∧
   (∀ (s : State) (bytes : List Byte), s.Up → (s.dev.pair.castle = 1 ∨ s.dev.pair.castle = 2) →
     (uAt bytes 2 6 = s.dev.pair.turnN % 2 ^ 48 → exec (.stresMsg bytes) s = .next (s.on
       { s.dev with pair := { s.dev.pair with
         peerRes := some (byteAt bytes 8 % 64, byteAt bytes 9 % 64) } })) ∧
     (uAt bytes 2 6 ≠ s.dev.pair.turnN % 2 ^ 48 → exec (.stresMsg bytes) s = .next s))) ∧
  (∀ (s : State) (r : Nat × Nat), s.Up → s.dev.pair.castle = 2 → s.dev.pair.peerRes = some r →
     s.dev.pair.ejectWaits = false →
     let own := verdict s.dev.pair.ownRes && !s.dev.danger
     (s.dev.role = 2 → s.dev.rdF R.PAR_ROLE F.PAR_ROLE_TOKEN = 1 → Completes .castlingDecide s (fun d =>
       d.pair.castle = 0 ∧ d.rdF R.PAR_CASTLE F.PAR_CASTLE_OUTCOME = b2n (!own) + 2 * b2n (!checksPass r) ∧
       (own = true ∨ checksPass r = false → d.role = 2 ∧ d.peerUp = false ∧ d.rdF R.PAR_ROLE F.PAR_ROLE_TOKEN = 1) ∧
       (own = true → checksPass r = true → d.rdF R.PAR_STAT F.PAR_STAT_DISAGREE = 1 ∧ d.evPending 195 = true) ∧
       (own = true → checksPass r = false → d.evPending 203 = true) ∧
       (own = false → checksPass r = false → d.danger = true) ∧
       (own = false → checksPass r = true → d.role = 0 ∧ d.rdF R.PAR_ROLE F.PAR_ROLE_TOKEN = 0 ∧
         d.rdF R.PAR_ROLE F.PAR_ROLE_LINE = 1 ∧ d.rdF R.PAR_ROLE F.PAR_ROLE_HOLD = 1 ∧ d.turn.toEmit = []))) ∧
     (s.dev.role = 3 → Completes .castlingDecide s (fun d =>
       (own = true → checksPass r = true → d.role = 4 ∧ d.pair.castle = 0) ∧
       (own = true → checksPass r = false → d.role = 3 ∧ d.pair.castle = 3 ∧ d.turn = s.dev.turn) ∧
       (own = false → d.role = 3 ∧ d.pair.castle = 0 ∧ d.turn = s.dev.turn))))

/-- The token changes hands (R349, R371, R373, R377): a standby takes the line when it has been free for 5 µs, here in
a turn whose commit it can no longer complete, and forms CASTLE; PAIR_HOLD ends by itself; a handover begins a planned
castling in an active with a standby; a mirror that has arrived leaves Q60 empty, that of the planned turn makes the
active yield, and the standby notes it. -/
def Obligations.TokenHandOver : Prop :=
  (∀ s : State, s.Up → s.dev.role = 3 → s.dev.turn.run = none → s.dev.commitLimit ≤ s.dev.sinceStart →
    Completes (.tokenFree true) s (fun d => d.role = 2 ∧ d.rdF R.PAR_ROLE F.PAR_ROLE_TOKEN = 1 ∧
      d.rdF R.PAR_ROLE F.PAR_ROLE_LINE = 0 ∧ d.rdF R.PAR_ROLE F.PAR_ROLE_HOLD = 1 ∧ d.peerUp = false ∧
      d.rdF R.PAR_STAT F.PAR_STAT_CASTLED = 1 ∧ d.evPending 194 = true ∧ d.pair.castle = 0 ∧
      d.turn.cur = s.dev.turn.cur ∧ d.turn.number = s.dev.turn.number)) ∧
  (∀ s : State, exec (.tokenFree false) s = .next s) ∧
  (∀ s : State, exec .pairHoldRelease s = .next (s.on (s.dev.wrF R.PAR_ROLE F.PAR_ROLE_HOLD 0))) ∧
  (∀ (s : State) (sess : Nat), s.Up → s.dev.GateFor sess → withStandby s.dev → s.dev.pair.castle = 0 →
    s.dev.pair.planned = none → Completes (.handover sess) s (fun d => d.pair.planned = some 2 ∧
      d.pair.plannedTurn = none ∧ d.evPending 207 = true ∧ d.turn = s.dev.turn ∧ d.jrn = s.dev.jrn)) ∧
  (∀ (s : State) (sess : Nat), s.Up → s.dev.GateFor sess → (s.dev.role ≠ 2 ∨ s.dev.pair.castle ≠ 0) →
    exec (.handover sess) s = .next (s.on (s.dev.closeGate.flag R.PAR_STAT 11))) ∧
  (∀ (s : State) (c m : Nat) (r : TurnRun), s.Up → s.dev.pair.planned = some c → s.dev.pair.plannedTurn = some m →
    s.dev.turn.run = some r → withStandby s.dev → s.dev.pair.castle = 0 → r.emitted = true → r.inp.turn = m →
    Completes .mirrorDone s (fun d => d.turn.run = none ∧ d.turn.toEmit = [] ∧ d.turn.places = [] ∧
      d.pair.planned = none ∧ d.pair.plannedTurn = none ∧ d.pair.blocks = [] ∧ d.lstate = 0 ∧ d.role = 0 ∧
      d.rdF R.PAR_ROLE F.PAR_ROLE_TOKEN = 0)) ∧
  (∀ s : State, s.Up → s.dev.pair.planned = none →
    (s.dev.pair.mirOut = none → exec .mirrorDone s = .next s) ∧
    (s.dev.pair.mirOut ≠ none → s.dev.vault.forward = none → Completes .mirrorDone s (fun d => d.pair.mirOut = none ∧
      d.queue 60 = [] ∧ (∀ q, q ≠ 60 → d.queue q = s.dev.queue q) ∧
      d.pair.blocks = s.dev.pair.blocks.filter (fun b => b.1 ≠ 60) ∧ s.dev.OnlyRegs d [] ∧ d.turn = s.dev.turn ∧
      d.jrn = s.dev.jrn))) ∧
  (∀ (s : State) (bytes : List Byte), s.Up → s.dev.role = 3 → exec (.yieldMsg bytes) s = .next (s.on
    { s.dev with pair := { s.dev.pair with
      planned := some (byteAt bytes 1), plannedTurn := some (uAt bytes 2 6) } }))

/-- Start-up and rejoin (R351, R379, R380): a starting device claims once its link is up or 50 ms have passed; a low line makes a starting device rejoin; without a link a free line makes
it the active; with one, the longer journal claims, and PAIR_ID low on equal ones; a rejoiner takes over the state and
the entries that follow on its own, and is the standby from the cutover; the active then has one in service. -/
def Obligations.StartAndRejoin : Prop :=
  (∀ (s : State) (idHigh : Bool) (peerNext : BitVec 48), s.Up → s.dev.pair.claim = true → s.dev.role = 0 →
    (∀ lineFree, s.dev.lstate ≠ 5 → s.dev.clk < s.dev.pair.claimAt + 20000000 →
      exec (.startClaim lineFree idHigh peerNext) s = .next s) ∧
    (s.dev.lstate = 5 ∨ s.dev.pair.claimAt + 20000000 ≤ s.dev.clk →
    Completes (.startClaim false idHigh peerNext) s (fun d => d.role = 4 ∧ d.pair.claim = false ∧
      d.rdF R.PAR_ROLE F.PAR_ROLE_TOKEN = s.dev.rdF R.PAR_ROLE F.PAR_ROLE_TOKEN) ∧
    (let first := s.dev.lstate ≠ 5 ∨ peerNext.toNat < s.dev.jrn.next ∨ (peerNext.toNat = s.dev.jrn.next ∧ idHigh = false)
     Completes (.startClaim true idHigh peerNext) s (fun d => d.pair.claim = false ∧
      (first → d.role = 2 ∧ d.rdF R.PAR_ROLE F.PAR_ROLE_TOKEN = 1 ∧ d.peerUp = false ∧ d.evPending 192 = true) ∧
      (¬ first → d.role = 4))))) ∧
  (∀ (s : State) (m : Mirror) (agreed : BitVec 48) (dups : List (Nat × Nat × Nat × Nat)) (marks : List Nat), s.Up →
    s.dev.role = 4 → s.dev.lstate = 5 →
    Completes (.rejoinState m agreed [] dups marks) s (fun d => d.pair.rejReady = true ∧ d.turn.cur = m.state ∧
      d.turn.view = m.view ∧ d.jrn.next = min s.dev.jrn.next agreed.toNat ∧ d.role = 4 ∧
      d.rdF R.PAR_REJOIN F.PAR_REJOIN_STEP = 5)) ∧
  (∀ (s : State) (turn agreed : BitVec 48) (pool : List (List Entry)), s.Up → s.dev.lstate = 5 →
    (s.dev.role = 4 → s.dev.pair.rejReady = true → Completes (.rejoinCutover turn agreed pool) s (fun d =>
      d.role = 3 ∧ d.peerUp = true ∧ d.turn.number = turn.toNat ∧ d.turn.run = none ∧ d.evPending 201 = true ∧
      d.pair.rejReady = false ∧ d.rdF R.PAR_REJOIN F.PAR_REJOIN_STEP = 0)) ∧
    (s.dev.role = 2 → s.dev.peerUp = false → Completes (.rejoinCutover turn agreed pool) s (fun d =>
      d.role = 2 ∧ d.peerUp = true ∧ d.evPending 201 = true ∧ d.turn = s.dev.turn)))

/-! The watchtower (chapter 14) -/

/-- A dangerous fault (R388, R389, R392, R394, R395): the first is recorded with its code, detail and turn, and raises
EV208; later ones only count, and each is reported to the peer. A device without a standby to take over goes to the safe state at once, and its turns stop
unless the code's row lets them go on; with REACT 1 a reset follows, unless RSTLIM resets have come within the hour.
An active with a standby, and a device that does not run the plant, keeps out of the safe state. -/
def Obligations.DangerousFaults : Prop :=
  ∀ (s : State) (code detail : BitVec 8), s.Up → dangerCode code.toNat = true →
    (s.dev.danger = true →
      let counted := s.dev.wrF R.WTC_COUNT F.WTC_COUNT_LATER (min 255 (s.dev.rdF R.WTC_COUNT F.WTC_COUNT_LATER + 1))
      exec (.dangerousFault code detail) s = .next (s.on (counted.send63 counted.healthReport))) ∧
    (s.dev.danger = false → s.dev.safe = false → Completes (.dangerousFault code detail) s (fun d =>
      d.danger = true ∧ d.rdF R.WTC_FAULT F.WTC_FAULT_CODE = code.toNat ∧
      d.rdF R.WTC_FAULT F.WTC_FAULT_DETAIL = detail.toNat ∧
      d.rdF R.WTC_FAULT F.WTC_FAULT_TURN = s.dev.turn.number % 65536 ∧ d.evPending 208 = true ∧
      d.role = s.dev.role ∧
      (s.dev.role = 1 ∨ (s.dev.role = 2 ∧ s.dev.peerUp = false) → d.safe = true ∧ d.evPending 209 = true ∧
        (turnsContinue code.toNat = false → d.halted = true ∧ d.turn.run = none ∧ d.evPending 210 = true) ∧
        (turnsContinue code.toNat = true → d.halted = s.dev.halted ∧ d.turn.run = s.dev.turn.run) ∧
        (s.dev.image.wtch.react = 1 →
          let recent := (s.dev.wtc.resets.filter (fun t => s.dev.clk < t + 1440000000000)).length
          (recent < s.dev.image.wtch.rstlim →
            d.wtc.resetAt = some (s.dev.clk + 4000000 * s.dev.image.wtch.rstdly)) ∧
          (s.dev.image.wtch.rstlim ≤ recent → d.wtc.resetAt = s.dev.wtc.resetAt ∧
            d.rdF R.WTC_STAT F.WTC_STAT_RSTLIMIT = 1))) ∧
      (s.dev.role = 0 ∨ 3 ≤ s.dev.role ∨ (s.dev.role = 2 ∧ s.dev.peerUp = true) → d.safe = false ∧
        d.turn = s.dev.turn ∧ d.rd R.DIO_OUT = s.dev.rd R.DIO_OUT)))

/-- Latent tests, corrected errors, the temperature, the watchtower's reset (R388, R395, R396, R397, register
WTC_TEMP): a scheduled test that is complete counts from now; a failed one sets its bit and declares code 0x25, and one
whose hour has run out 0x24, in the roles that schedule it; a temperature that reaches TEMPWARN sets its flag once; a
reset that is due keeps the fault and takes the device into reset. -/
def Obligations.LatentTestsAndReset : Prop :=
  (∀ (s : State) (t : Fin 12), s.Up → s.dev.wtc.latDone.length = 12 → (t = 8 → s.dev.holder = true) →
    (t = 10 → s.dev.holder = false) → s.dev.latCovered t.val = true →
    Completes (.latentTestDone t true) s (fun d =>
      d.wtc = { s.dev.wtc with latDone := s.dev.wtc.latDone.set t.val (some s.dev.clk) } ∧
      s.dev.rd R.WTC_LATFAIL = d.rd R.WTC_LATFAIL ∧ (d.rdF R.WTC_LATCOV F.WTC_LATCOV_DONE).testBit t.val = true)) ∧
  (∀ (s : State) (t : Fin 12), (s.dev.latCovered t.val = false → exec (.latentTestDone t true) s = .next s) ∧
    (∀ pass, (t = 8 ∧ s.dev.holder = false) ∨ (t = 10 ∧ s.dev.holder = true) →
      exec (.latentTestDone t pass) s = .next s)) ∧
  (∀ (s : State) (t : Fin 12), s.Up → s.dev.danger = false → (t = 8 → s.dev.holder = true) →
    (t = 10 → s.dev.holder = false) → Completes (.latentTestDone t false) s (fun d =>
    d.rdF R.WTC_LATFAIL ⟨t.val, 1⟩ = 1 ∧ d.evPending 211 = true ∧ d.danger = true ∧
    d.rdF R.WTC_FAULT F.WTC_FAULT_CODE = 0x25 ∧ d.rdF R.WTC_FAULT F.WTC_FAULT_DETAIL = t.val)) ∧
  (∀ (s : State) (t : Fin 12), s.Up → s.dev.danger = false → (t = 8 → s.dev.holder = true) →
    (t = 10 → s.dev.holder = false) → s.dev.latSince t.val + 1440000000000 ≤ s.dev.clk →
    (t = 8 → ∃ m, m < 32 ∧ (s.dev.doUsed m).pten = true ∧ s.dev.litHour m = true) → Completes (.latentTestOverdue t) s (fun d =>
      d.rdF R.WTC_LATOVD ⟨t.val, 1⟩ = 1 ∧ d.evPending 212 = true ∧ d.danger = true ∧
      d.rdF R.WTC_FAULT F.WTC_FAULT_CODE = 0x24 ∧ d.rdF R.WTC_FAULT F.WTC_FAULT_DETAIL = t.val)) ∧
  (∀ (s : State) (t : Fin 12), s.dev.clk < s.dev.latSince t.val + 1440000000000 →
    exec (.latentTestOverdue t) s = .next s) ∧
  (∀ s : State, (s.dev.holder = false → exec (.latentTestOverdue 8) s = .next s) ∧
    (s.dev.holder = true → exec (.latentTestOverdue 10) s = .next s)) ∧
  (∀ (s : State) (temp : BitVec 16), s.Up → Completes (.temphi temp) s (fun d =>
    d.rdF R.WTC_TEMP F.WTC_TEMP_NOW = temp.toNat ∧
    signed 16 (d.rdF R.WTC_TEMP F.WTC_TEMP_MAX) = max temp.toInt (signed 16 (s.dev.rdF R.WTC_TEMP F.WTC_TEMP_MAX)) ∧
    d.wtc = { s.dev.wtc with hot := decide (s.dev.image.wtch.tempwarn ≤ temp.toInt) } ∧
    (s.dev.image.wtch.tempwarn ≤ temp.toInt → s.dev.wtc.hot = false → d.rdF R.WTC_STAT F.WTC_STAT_TEMPHI = 1 ∧ d.evPending 214 = true) ∧
    (temp.toInt < s.dev.image.wtch.tempwarn ∨ s.dev.wtc.hot = true → s.dev.OnlyRegs d [R.WTC_TEMP]))) ∧
  (∀ s : State, s.Up → exec (.ecccor true) s = .next (s.on (((s.dev.wrF R.WTC_ECC F.WTC_ECC_LEDGER
      (min 65535 (s.dev.rdF R.WTC_ECC F.WTC_ECC_LEDGER + 1))).flag R.WTC_STAT 2).raise 213)) ∧
    exec (.ecccor false) s = .next (s.on ((({ s.dev with
      wtc := { s.dev.wtc with sram := min 4294967295 (s.dev.wtc.sram + 1) } }.wrF R.WTC_ECC F.WTC_ECC_SRAM
      (min 65535 (s.dev.rdF R.WTC_ECC F.WTC_ECC_SRAM + 1))).flag R.WTC_STAT 2).raise 213))) ∧
  (∀ (s : State) (t : Nat), s.Up → s.dev.wtc.resetAt = some t →
    (t ≤ s.dev.clk → Completes .watchtowerReset s (fun d => d.pwr.boot = 1 ∧
      d.rd R.WTC_LASTFAULT = s.dev.rd R.WTC_FAULT ∧ d.rdF R.PWR_RSTCAUSE F.PWR_RSTCAUSE_CAUSE = 3 ∧
      d.rdF R.PWR_RSTCAUSE F.PWR_RSTCAUSE_DETAIL = s.dev.rdF R.WTC_FAULT F.WTC_FAULT_CODE ∧
      d.rdF R.WTC_COUNT F.WTC_COUNT_RSTTOTAL = min 255 (s.dev.rdF R.WTC_COUNT F.WTC_COUNT_RSTTOTAL + 1) ∧
      d.role = 0 ∧ d.danger = false)) ∧
    (s.dev.clk < t → exec .watchtowerReset s = .next s))

/-! The vault (chapter 15) -/

/-- Staging and swap (R412 to R416): verification ends READY with STAGED, or FAILED with its reason; the standby's
report shows in PEERRDY; a SWAP is accepted when the slot is READY, in a pair PEERRDY set, the safe state absent and
PAIR MODE the same, else refused, and a second one is ignored; a standby with the same image READY confirms the turn;
the latch of the swap turn applies the image, raises the counter to its VERSION and makes its slot the active one, or
abandons a swap that nobody confirmed; BOOTNEXT marks a READY slot; ABORT empties it. -/
def Obligations.StagingAndSwap : Prop :=
  (∀ s : State, s.Up → s.dev.staging = 2 → s.dev.pair.wantHash = none → s.dev.stageSlot < s.dev.vault.images.length →
    Completes .imageVerified s (fun d =>
      match s.dev.verify (s.dev.imgSlot s.dev.stageSlot).bytes false with
      | .inl img => d.staging = 3 ∧ d.evPending 224 = true ∧ (d.imgSlot s.dev.stageSlot).ok = some img ∧
        d.vault.counter = s.dev.vault.counter
      | .inr r => d.staging = 4 ∧ d.rdF R.VLT_STGSTAT F.VLT_STGSTAT_REASON = r.reason % 256 ∧
        d.rdF R.VLT_STGSTAT F.VLT_STGSTAT_DETAIL = r.detail % 256 ∧ d.rdF R.VLT_STAT F.VLT_STAT_REJECT = 1 ∧
        d.evPending 225 = true ∧ d.vault = s.dev.vault)) ∧
  (∀ (s : State) (ready : Bool), s.Up → withStandby s.dev → s.dev.staging = 3 →
    exec (.peerReady ready) s = .next (s.on (s.dev.wrF R.VLT_STGSTAT F.VLT_STGSTAT_PEERRDY (b2n ready)))) ∧
  (∀ (s : State) (sess : Nat), s.Up → s.dev.GateFor sess →
    (∀ img, s.dev.vault.swapReq = false → s.dev.vault.swapTurn = none → s.dev.holder = true → s.dev.staging = 3 →
      s.dev.safe = false → (s.dev.imgSlot s.dev.stageSlot).ok = some img → img.pair.mode = s.dev.image.pair.mode →
      (s.dev.image.pair.mode = 1 → s.dev.rdF R.VLT_STGSTAT F.VLT_STGSTAT_PEERRDY ≠ 0) →
      exec (.swap sess) s = .next (s.on
        { s.dev.closeGate with vault := { s.dev.vault with swapReq := true } })) ∧
    (s.dev.vault.swapReq = false → s.dev.vault.swapTurn = none →
      (s.dev.staging ≠ 3 ∨ s.dev.safe = true ∨ s.dev.holder = false ∨
        (s.dev.image.pair.mode = 1 ∧ s.dev.rdF R.VLT_STGSTAT F.VLT_STGSTAT_PEERRDY = 0) ∨
        (∃ img, (s.dev.imgSlot s.dev.stageSlot).ok = some img ∧ img.pair.mode ≠ s.dev.image.pair.mode)) →
      exec (.swap sess) s = .next (s.on (s.dev.closeGate.flag R.VLT_STAT 4))) ∧
    (s.dev.vault.swapReq = true ∨ s.dev.vault.swapTurn ≠ none →
      exec (.swap sess) s = .next (s.on s.dev.closeGate)) ∧
    (s.dev.staging = 3 → exec (.bootnext sess) s = .next (s.on
      { s.dev.closeGate with vault := { s.dev.vault with bootnext := true } })) ∧
    (s.dev.staging ≠ 0 → Completes (.abort sess) s (fun d => d.staging = 0 ∧
      d.vault = { s.dev.vault with
        images := upd s.dev.vault.images s.dev.stageSlot (fun _ => ⟨[], [], none⟩)
        bootnext := false, forward := none, swapReq := false, swapTurn := none
        swapOk := s.dev.vault.swapOk && !s.dev.vault.swapReq && s.dev.vault.swapTurn.isNone })) ∧
    (s.dev.staging = 0 → exec (.abort sess) s = .next (s.on s.dev.closeGate))) ∧
  (∀ (s : State) (turn : BitVec 48) (hash : List Byte) (img : Image), s.Up → s.dev.role = 3 → s.dev.staging = 3 →
    (s.dev.imgSlot s.dev.stageSlot).ok = some img → img.head.hash = hash → s.dev.turn.number < turn.toNat →
    Completes (.swapNotice turn hash) s (fun d => d.staging = 5 ∧
      d.vault = { s.dev.vault with swapTurn := some turn.toNat, swapOk := true })) ∧
  (∀ (s : State) (img : Image), s.Up → s.dev.turn.run = none → s.dev.vault.swapTurn = some (s.dev.turn.number + 1) →
    (s.dev.imgSlot s.dev.stageSlot).ok = some img →
    (s.dev.vault.swapOk = true → Completes .swapLatch s (fun d =>
      d.image = (if img.keys.oldturns = 0 then { img with keys := { img.keys with oldfs := [] } } else img) ∧
      d.vault.oldTurns = img.keys.oldturns ∧ d.vault.oldFrom = s.dev.turn.number + 1 ∧ d.actSlot = s.dev.stageSlot ∧
      d.vault.counter = max s.dev.vault.counter img.head.version ∧
      d.rd R.VLT_CTR = BitVec.ofNat 32 (max s.dev.vault.counter img.head.version) ∧
      d.rd R.VLT_SWAPTURN = BitVec.ofNat 32 (s.dev.turn.number + 1) ∧ d.vault.swapTurn = none ∧
      d.vault.swapFrom = some s.dev.actSlot ∧ d.wb = [] ∧ d.evPending 226 = true ∧
      d.vault.images = s.dev.vault.images)) ∧
    (s.dev.vault.swapOk = false → exec .swapLatch s = .next (s.on
      { s.dev.wrF R.VLT_STGSTAT F.VLT_STGSTAT_STATE 3 with vault := { s.dev.vault with
        swapReq := false, swapTurn := none, swapOk := false } })))

/-- Attestation, owner tokens and the life of the device (R405, R418 to R420, R423 to R425): a report fills four
elements of Q53 when there is room and randomness, and is refused otherwise; without its permission a vault command
only forms PERMDENY; a token that is refused forms TOKFAIL, a RESET token in OWNCLR erases, a DECOMMISSION token waits
for the sample latch, which ends the device's turns for good; ERASE leaves a blank device whose journal holds GENESIS
alone. The counter survives each of them. OWNCLR ends after 10 minutes, a session lock after one, and OLDFS is erased
OLDTURNS turns after the swap. -/
def Obligations.LifeOfTheDevice : Prop :=
  (∀ (s : State) (ref : HostRef) (nonce : List Byte), s.Up → s.dev.queues.q.length = 64 →
    (s.dev.trngBad = false → (s.dev.queue 53).length + 4 ≤ queueDepth 53 →
      Completes (.attest ref true nonce) s (fun d => ∃ rep : List Byte, rep.take 192 = s.dev.attestBody ref nonce ∧
        (d.queue 53).map QElem.bytes = (s.dev.queue 53).map QElem.bytes ++
          [slice rep 0 64, slice rep 64 64, slice rep 128 64, slice rep 192 64] ∧
        d.evPending 227 = true ∧ d.host.vaultRes.head? = some (ref.sess, ref.cmdid.toNat, resOk))) ∧
    (s.dev.trngBad = true ∨ queueDepth 53 < (s.dev.queue 53).length + 4 →
      Completes (.attest ref true nonce) s (fun d => d.queue 53 = s.dev.queue 53 ∧
        d.host.vaultRes.head? = some (ref.sess, ref.cmdid.toNat, resRefused)))) ∧
  (∀ (s : State) (ref : HostRef) (bytes : List Byte), s.Up →
    exec (.attest ref false bytes) s = .next (s.on (s.dev.happen (secEntry 0x000A [byteOf ref.sess, 0x33]))) ∧
    exec (.owntoken ref false bytes) s = .next (s.on (s.dev.happen (secEntry 0x000A [byteOf ref.sess, 0x34]))) ∧
    exec (.erase ref false) s = .next (s.on (s.dev.happen (secEntry 0x000A [byteOf ref.sess, 0x35])))) ∧
  (∀ (s : State) (ref : HostRef) (token : List Byte), s.Up → Completes (.owntoken ref true token) s (fun d =>
    d.vault.counter = s.dev.vault.counter ∧ (s.dev.trngBad = false → d.vault.nonce.length = 32) ∧
    (s.dev.trngBad = true → d.vault.nonce = []) ∧
    (s.dev.tokenCause token ≠ 0 → d.vault.slots = s.dev.vault.slots ∧ d.vault.images = s.dev.vault.images ∧
      d.life = s.dev.life ∧ d.host.vaultRes.head? = some (ref.sess, ref.cmdid.toNat, resRefused)) ∧
    (s.dev.tokenCause token = 0 → d.host.vaultRes.head? = some (ref.sess, ref.cmdid.toNat, resOk) ∧
      (byteAt token 4 = 1 → d.life = 0 ∧ d.vault.slots = List.replicate 4 ⟨0, []⟩ ∧
        d.vault.images = List.replicate 2 ⟨[], [], none⟩ ∧ d.jrn.ledger = s.dev.jrn.ledger) ∧
      (byteAt token 4 ≠ 1 → d.vault.decomm = some (byteAt token 5) ∧ d.life = s.dev.life)))) ∧
  (∀ (s : State) (slot evalUs commitUs : Nat), s.Up → s.dev.role = 1 → s.dev.turnsRun = true →
    s.dev.turn.run = none → s.dev.vault.decomm = some slot →
    Completes (.sampleLatch evalUs commitUs) s (fun d => d.life = 2 ∧ d.role = 0 ∧ d.turn.starts = false ∧
      d.vault.images = List.replicate 2 ⟨[], [], none⟩ ∧ d.vault.decomm = none ∧
      d.vault.counter = s.dev.vault.counter ∧ d.jrn.next = s.dev.jrn.next + 1)) ∧
  (∀ (s : State) (ref : HostRef), s.Up →
    (s.dev.life = 3 → Completes (.erase ref true) s (fun d => d.vault = { s.dev.vault with erasing := true } ∧
      d.host.vaultRes.head? = some (ref.sess, ref.cmdid.toNat, resOk))) ∧
    (s.dev.life ≠ 3 → Completes (.erase ref true) s (fun d => d.vault = s.dev.vault ∧
      d.host.vaultRes.head? = some (ref.sess, ref.cmdid.toNat, resRefused)))) ∧
  (∀ s : State, (s.dev.vault.erasing = true → Completes .eraseDone s (fun d => d.life = 0 ∧
      d.vault.slots = List.replicate 4 ⟨0, []⟩ ∧ d.vault.images = List.replicate 2 ⟨[], [], none⟩ ∧
      d.vault.revoked = [] ∧ d.vault.erasing = false ∧ d.vault.counter = s.dev.vault.counter ∧ d.jrn.next = 1)) ∧
    (s.dev.vault.erasing = false → exec .eraseDone s = .next s)) ∧
  (∀ s : State, s.dev.awake = true → s.dev.life ≠ 3 → Completes .ownclrEnter s (fun d => d.life = 3 ∧ d.role = 0 ∧
    d.vault.lifeWas = s.dev.life ∧ d.pwr.boot = 3 ∧ d.rdF R.VLT_STAT F.VLT_STAT_NOIMG = 1)) ∧
  (∀ s : State, s.dev.life = 3 → s.dev.vault.erasing = false →
    (s.dev.vault.ownclrAt + 240000000000 ≤ s.dev.clk → Completes .ownclrTimeout s (fun d => d.pwr.boot = 2 ∧
      d.life = s.dev.vault.lifeWas % 4)) ∧
    (s.dev.clk < s.dev.vault.ownclrAt + 240000000000 → exec .ownclrTimeout s = .next s)) ∧
  (∀ s : State, s.Up →
    (s.dev.host.lockAt + 24000000000 ≤ s.dev.clk →
      exec .sessionLockEnd s = .next (s.on (s.dev.wrF R.VLT_STAT F.VLT_STAT_LOCK 0))) ∧
    (s.dev.clk < s.dev.host.lockAt + 24000000000 → exec .sessionLockEnd s = .next s) ∧
    (s.dev.vault.oldTurns ≠ 0 → s.dev.vault.oldFrom + s.dev.vault.oldTurns ≤ s.dev.turn.number →
      Completes .oldfsExpire s (fun d => d.image.keys.oldfs = [] ∧
        d.rdF R.VLT_EPOCH F.VLT_EPOCH_OLD = 0 ∧ d.vault = { s.dev.vault with oldTurns := 0 })) ∧
    (s.dev.vault.oldTurns = 0 ∨ s.dev.turn.number < s.dev.vault.oldFrom + s.dev.vault.oldTurns →
      exec .oldfsExpire s = .next s) ∧
    exec (.trngFault false) s = .next (s.on (s.dev.wrF R.VLT_STAT F.VLT_STAT_TRNGFLT 0)) ∧
    (s.dev.trngBad = false → exec (.trngFault true) s = .next (s.on
      ((s.dev.wrF R.VLT_STAT F.VLT_STAT_TRNGFLT 1).raise 231))))

/-! The backup dome (chapter 16) -/

/-- The compare value of an alarm, and the time on its base (R439). -/
def almCmp (d : Dev) (a : Nat) : Nat :=
  (d.rd (R.DOM_ALMCMP_LO a)).toNat + 2 ^ 32 * d.rdF (R.DOM_ALMCMP_HI a) F.DOM_ALMCMP_HI_C_HI

def almTime (d : Dev) (a : Nat) : Int :=
  (d.dom.count : Int) + if d.rdF (R.DOM_ALMCFG a) F.DOM_ALMCFG_BASE = 1
    then signed 12 (d.rdF R.DOM_ZONE F.DOM_ZONE_ZONE) * 1966080 else 0

/-- Changes of time (R434, R435, R437, R438, R442, R45): a device that runs the plant keeps SET, ZONE, an hour step
and SHIFT pending, and any other refuses them; a SET applied loads the count outright and makes the time
trusted; without one the latch leaves the count, and the TICK it copies never falls; a ZONE outside its range is
refused; a slew that is due on a positive remainder inserts one increment, one on a negative remainder withholds
the next, and with none due, no remainder, or the crystal standing, nothing happens. PEND of a SET that repeats
S_HI stays 0 (R45). Supply, retention, the crystal, alarms, the capture (R431, R433, R436, R439, R440): below
retention everything is lost and both flags stand; with the crystal stopped the count holds; an armed alarm
whose time has come fires once, with SKIPPED at arming, its event waiting while the die is unpowered; arming
keeps the compare value; a capture holds the count, the turn number and one more CAPCNT; a read of the count's
low word latches the high one. -/
def Obligations.DomeTime : Prop :=
  ((∀ (s : State) (sess : Nat), s.Up → s.dev.GateFor sess →
     (∀ hi : BitVec 16, s.dev.holder = true → Completes (.set sess hi) s (fun d =>
       d.wbWord R.DOM_SET_HI = some (hi.setWidth 32) ∧ d.rdF R.DOM_SET_HI F.DOM_SET_HI_PEND
         = b2n (decide (s.dev.wbWord R.DOM_SET_HI ≠ none ∨ hi.toNat ≠ s.dev.rdF R.DOM_SET_HI F.DOM_SET_HI_S_HI)) ∧
       d.dom = { s.dev.dom with setVal := (s.dev.rd R.DOM_SET_LO).toNat + 2 ^ 32 * hi.toNat })) ∧
     (∀ z : BitVec 12, s.dev.holder = true →
       (s.dev.wbWord R.DOM_ZONE ≠ none ∨ z.toNat ≠ s.dev.rdF R.DOM_ZONE F.DOM_ZONE_ZONE →
         Completes (.zone sess z) s (fun d => d.wbWord R.DOM_ZONE = some (z.setWidth 32) ∧
           d.rdF R.DOM_ZONE F.DOM_ZONE_PEND = 1 ∧ d.dom = s.dev.dom ∧ d.domZone = s.dev.domZone)) ∧
       (s.dev.wbWord R.DOM_ZONE = none → z.toNat = s.dev.rdF R.DOM_ZONE F.DOM_ZONE_ZONE →
         exec (.zone sess z) s = .next (s.on s.dev.closeGate))) ∧
     (∀ (hi : BitVec 16) (z : BitVec 12), s.dev.holder = false →
       exec (.set sess hi) s = .next (s.on ((s.dev.closeGate.flag R.DOM_STAT 3).raise 238)) ∧
       exec (.zone sess z) s = .next (s.on ((s.dev.closeGate.flag R.DOM_STAT 3).raise 238)))) ∧
   (∀ (s : State) (v : BitVec 16), s.Up →
     (s.dev.holder = true → s.dev.wbWord R.DOM_ZCMD ≠ none ∨ s.dev.rd R.DOM_ZCMD = 0 →
       Completes .hourAdd s (fun d => d.wbWord R.DOM_ZCMD = some 1 ∧ d.rdF R.DOM_ZCMD F.DOM_ZCMD_PEND = 1 ∧
         d.dom = s.dev.dom) ∧
       Completes .hourSub s (fun d => d.wbWord R.DOM_ZCMD = some 2 ∧ d.rdF R.DOM_ZCMD F.DOM_ZCMD_PEND = 1 ∧
         d.dom = s.dev.dom)) ∧
     (s.dev.holder = true → s.dev.wbWord R.DOM_SHIFT ≠ none ∨ v.toNat ≠ s.dev.rdF R.DOM_SHIFT F.DOM_SHIFT_SHIFT →
       Completes (.shift v) s (fun d => d.wbWord R.DOM_SHIFT = some (v.setWidth 32) ∧
         d.rdF R.DOM_SHIFT F.DOM_SHIFT_PEND = 1 ∧ d.dom = s.dev.dom ∧ d.domRem = s.dev.domRem)) ∧
     (s.dev.holder = false → ∀ c, c = .hourAdd ∨ c = .hourSub ∨ c = .shift v →
       exec c s = .next (s.on ((s.dev.flag R.DOM_STAT 3).raise 238)))) ∧
   (∀ d : Dev, d.wbWord R.DOM_SET_HI ≠ none → d.domApplySet.dom.count = d.dom.setVal ∧
     d.domApplySet.domTrusted = true ∧ d.domApplySet.domRem = 0 ∧ d.domApplySet.wbWord R.DOM_SET_HI = none ∧
     d.domApplySet.rdF R.DOM_STAT F.DOM_STAT_SETDONE = 1) ∧
   (∀ d : Dev, d.wbWord R.DOM_SET_HI = none → d.domLatch.dom.count = d.dom.count ∧
     d.domLatch.dom.lastTick = max d.dom.count d.dom.lastTick) ∧
   (∀ (d : Dev) (z : Int) (cause : Nat), (z < -1440 ∨ 1440 < z → d.domMoveZone z cause = d.domRefused) ∧
     (-1440 ≤ z → z ≤ 1440 → (d.domMoveZone z cause).domZone = z)) ∧
   (∀ s : State,
     (s.dev.dom.runs = true → s.dev.dom.slewDue = true → 0 < s.dev.domRem → Completes .slewIncrement s (fun d =>
       d.dom.count = (s.dev.dom.count + 1) % 2 ^ 48 ∧ d.dom.slewDue = false ∧ d.domRem = s.dev.domRem - 1)) ∧
     (s.dev.dom.runs = true → s.dev.dom.slewDue = true → s.dev.domRem < 0 → Completes .slewIncrement s (fun d =>
       d.dom.count = s.dev.dom.count ∧ d.dom.phase = s.dev.dom.phase + 1 ∧ d.dom.slewDue = false ∧ d.domRem = s.dev.domRem + 1)) ∧
     (s.dev.dom.runs = false ∨ s.dev.dom.slewDue = false ∨ s.dev.domRem = 0 → exec .slewIncrement s = .next s))) ∧
  ((∀ (s : State) (onbat : Bool), Completes (.domeSupplySwitch onbat) s (fun d =>
     d.rdF R.DOM_STAT F.DOM_STAT_ONBAT = b2n onbat ∧ d.dom = s.dev.dom ∧
     (onbat = true → s.dev.rdF R.DOM_STAT F.DOM_STAT_ONBAT = 0 → s.Up → d.evPending 235 = true))) ∧
   (∀ s : State, Completes .domeRetentionLoss s (fun d => d.dom.count = 0 ∧ d.domZone = 0 ∧ d.domRem = 0 ∧
     d.rdF R.DOM_STAT F.DOM_STAT_OSC_STOP = 1 ∧ d.rdF R.DOM_STAT F.DOM_STAT_DOME_LOST = 1 ∧
     (∀ k, k < 32 → d.rd (R.DOM_BKP k) = 0) ∧ (∀ a, a < 2 → d.rd (R.DOM_ALMCFG a) = 0))) ∧
   (∀ s : State, Completes .oscStop s (fun d => d.rdF R.DOM_STAT F.DOM_STAT_OSC_STOP = 1 ∧ d.dom.runs = false ∧
     d.dom.count = s.dev.dom.count ∧ d.rdF R.DOM_STAT F.DOM_STAT_DOME_LOST = s.dev.rdF R.DOM_STAT F.DOM_STAT_DOME_LOST ∧
     (s.Up → s.dev.rdF R.DOM_STAT F.DOM_STAT_OSC_STOP = 0 → d.rdF R.SYS_CLKSTAT ⟨9, 1⟩ = 1 ∧ d.evPending 4 = true ∧
       d.evPending 239 = true))) ∧
   (∀ s : State, exec .oscRestart s = .next (s.on { s.dev with dom := { s.dev.dom with runs := true } })) ∧
   (∀ (s : State) (a : Fin 2),
     let cfg := R.DOM_ALMCFG a.val
     (s.dev.rdF cfg F.DOM_ALMCFG_EN = 1 → s.dev.rdF cfg F.DOM_ALMCFG_ARMED = 1 →
       (almCmp s.dev a.val : Int) ≤ almTime s.dev a.val → Completes (.alarmFire a) s (fun d =>
         d.rdF cfg F.DOM_ALMCFG_ARMED = 0 ∧ d.rdF cfg F.DOM_ALMCFG_FIRED = 1 ∧ d.rdF cfg F.DOM_ALMCFG_SKIPPED = 0 ∧
         (s.Up → d.evPending (232 + a.val) = true ∧ d.rdF R.DOM_STAT ⟨a.val, 1⟩ = 1) ∧
         (¬ s.Up → d.dom.later = s.dev.dom.later ++ [232 + a.val]))) ∧
     (s.dev.rdF cfg F.DOM_ALMCFG_EN = 0 ∨ s.dev.rdF cfg F.DOM_ALMCFG_ARMED = 0 ∨
       almTime s.dev a.val < (almCmp s.dev a.val : Int) → exec (.alarmFire a) s = .next s)) ∧
   (∀ (s : State) (a : Fin 2) (hi : BitVec 16), s.Up → Completes (.alarmArm a hi) s (fun d =>
     let cfg := R.DOM_ALMCFG a.val
     let cmp := (s.dev.rd (R.DOM_ALMCMP_LO a.val)).toNat + 2 ^ 32 * hi.toNat
     almCmp d a.val = cmp ∧
     (s.dev.rdF cfg F.DOM_ALMCFG_EN = 0 ∨ almTime s.dev a.val < (cmp : Int) →
       d.rdF cfg F.DOM_ALMCFG_ARMED = 1 ∧ d.rdF cfg F.DOM_ALMCFG_FIRED = 0) ∧
     (s.dev.rdF cfg F.DOM_ALMCFG_EN = 1 → (cmp : Int) ≤ almTime s.dev a.val →
       d.rdF cfg F.DOM_ALMCFG_ARMED = 0 ∧ d.rdF cfg F.DOM_ALMCFG_FIRED = 1 ∧ d.rdF cfg F.DOM_ALMCFG_SKIPPED = 1 ∧
       d.evPending 234 = true))) ∧
   (∀ s : State, s.Up → Completes .capture s (fun d =>
     d.rd R.DOM_CAPTICK_LO = BitVec.ofNat 32 s.dev.dom.count ∧
     d.rdF R.DOM_CAPTICK_HI F.DOM_CAPTICK_HI_T_HI = s.dev.dom.count / 2 ^ 32 % 65536 ∧
     d.rdF R.DOM_CAPTICK_HI F.DOM_CAPTICK_HI_FRAC = min 12206 (s.dev.clk - s.dev.dom.lastInc) ∧
     d.rd R.DOM_CAPTURN_LO = BitVec.ofNat 32 s.dev.turn.number ∧
     d.rdF R.DOM_CAPTURN_HI F.DOM_CAPTURN_HI_TURN_HI = s.dev.turn.number / 2 ^ 32 % 65536 ∧
     d.rdF R.DOM_CAPPB0 F.DOM_CAPPB0_CAPCNT = (s.dev.rdF R.DOM_CAPPB0 F.DOM_CAPPB0_CAPCNT + 1) % 256 ∧
     d = { s.dev with regs := d.regs })) ∧
   (∀ s : State, s.Up → exec .tickLoRead s = .next (s.on
     (s.dev.wrF R.DOM_TICK_HI F.DOM_TICK_HI_T_HI (s.dev.dom.count / 2 ^ 32)))) ∧
   (∀ (s : State) (vbat : BitVec 16), s.Up → Completes (.batlow vbat) s (fun d =>
     d.rdF R.DOM_SUPPLY F.DOM_SUPPLY_VBAT = vbat.toNat ∧
     d.rdF R.DOM_STAT F.DOM_STAT_BATLOW = b2n (decide (vbat.toNat < 2200)) ∧
     (vbat.toNat < 2200 → s.dev.rdF R.DOM_STAT F.DOM_STAT_BATLOW = 0 → d.evPending 236 = true))))

/-! The panel (chapter 17) -/

/-- Updates (R448, R456, R457, R458): a frame counts only while STATE is ON, and starts every pending region of the
image that does not run, when neither VFLT nor BANDPEND stands and VLCD has reached its setpoint; at its end
every element of the region has its target as reached level and is no longer UNKNOWN; a consumed content request
makes its region pending, unless MAINT stands on it. Temperature, contrast voltage and the crack loop (R450,
R451, R452, R463): a code outside its range sets TPFLT once and keeps the band; a new band is adopted at once
while nothing runs, and waits with BANDPEND otherwise; VFLT sets outside 5 % of the setpoint and clears within 2
%; the second bad frame in a row sets CRACK, the second good one clears it. -/
def Obligations.PanelRegions : Prop :=
  ((∀ (s : State) (vlcd : BitVec 16), s.Up → s.dev.rdF R.PNL_CTRL F.PNL_CTRL_STATE = 2 → s.dev.pnl.bandNext = none →
     s.dev.image.panl.nreg ≤ 16 → s.dev.pnl.runs.length = 16 →
     Completes (.panelFrame vlcd) s (fun d =>
       d.rd R.PNL_FRAMECNT = s.dev.rd R.PNL_FRAMECNT + 1 ∧ d.rdF R.PNL_VLCD F.PNL_VLCD_VMEAS = vlcd.toNat ∧
       (∀ r, r < s.dev.image.panl.nreg → s.dev.pPending r = true → s.dev.pnl.runs.getD r none = none →
         (s.dev.pMayStart = true → d.pPending r = false ∧ (d.evPending 240 = true ∨ ∃ x, d.pnl.runs.getD r none = some x ∧
           x.start = d.pFrame ∧ x.band = s.dev.rdF R.PNL_STAT F.PNL_STAT_BAND ∧ d.rdF R.PNL_REGMAP ⟨r, 1⟩ = 1)) ∧
         (s.dev.rdF R.PNL_STAT F.PNL_STAT_VFLT = 1 ∨ s.dev.rdF R.PNL_STAT F.PNL_STAT_BANDPEND = 1 →
           d.pPending r = true ∧ d.pnl.runs.getD r none = none)))) ∧
   (∀ (s : State) (vlcd : BitVec 16), s.dev.rdF R.PNL_CTRL F.PNL_CTRL_STATE ≠ 2 →
     exec (.panelFrame vlcd) s = .next s) ∧
   (∀ (s : State) (r : Fin 16) (x : PanelRun), s.Up → s.dev.pnl.runs.length = 16 →
     s.dev.pnl.runs.getD r.val none = some x → (x.elems.map (·.1)).Nodup → (∀ e ∈ x.elems, e.1 < 768 ∧ e.2.1 < 4) →
     (x.start + x.len ≤ s.dev.pFrame + 1 → Completes (.updateComplete r) s (fun d =>
       (∀ e ∈ x.elems, d.pLev e.1 = e.2.1 ∧ d.pUnk e.1 = false) ∧ d.pnl.runs.getD r.val none = none ∧
       d.rdF R.PNL_REGMAP ⟨r.val, 1⟩ = 0 ∧ d.evPending 240 = true ∧
       d.rdF (R.PNL_REGSTS r.val) F.PNL_REGSTS_DONES
         = (s.dev.rdF (R.PNL_REGSTS r.val) F.PNL_REGSTS_DONES + 1) % 4096)) ∧
     (s.dev.pFrame + 1 < x.start + x.len → exec (.updateComplete r) s = .next s)) ∧
   (∀ (s : State) (k : Fin 4) (e : QElem) (es : List QElem), s.Up → s.dev.queues.q.length = 64 →
     s.dev.queue (56 + k.val) = e :: es → Completes (.panelRequest k) s (fun d =>
       d.queue (56 + k.val) = es ∧ (∀ q, q ≠ 56 + k.val → d.queue q = s.dev.queue q) ∧
       (k = 0 ∨ k = 2 → byteAt e.bytes 0 < 16 → s.dev.pMaint (byteAt e.bytes 0) = false →
         d.pPending (byteAt e.bytes 0) = true ∧ d.pnl = s.dev.pnl) ∧
       (k = 0 ∨ k = 2 → byteAt e.bytes 0 < 16 → s.dev.pMaint (byteAt e.bytes 0) = true →
         d.pPending (byteAt e.bytes 0) = s.dev.pPending (byteAt e.bytes 0) ∧ d.pnl = s.dev.pnl)))) ∧
  ((∀ (s : State) (code : BitVec 12), s.Up → s.dev.pnl.measured = true →
     (code.toNat < 16 ∨ 4079 < code.toNat → Completes (.tpanSample code) s (fun d =>
       d.rdF R.PNL_STAT F.PNL_STAT_TPFLT = 1 ∧ d.rdF R.PNL_MEAS F.PNL_MEAS_TPCODE = code.toNat ∧
       d.rdF R.PNL_STAT F.PNL_STAT_BAND = s.dev.rdF R.PNL_STAT F.PNL_STAT_BAND ∧
       (s.dev.rdF R.PNL_STAT F.PNL_STAT_TPFLT = 0 → d.evPending 244 = true) ∧ d.pnl = s.dev.pnl)) ∧
     (16 ≤ code.toNat → code.toNat ≤ 4079 →
       let b := bandOf s.dev.image.panl.bth (s.dev.rdF R.PNL_STAT F.PNL_STAT_BAND) code.toNat false
       Completes (.tpanSample code) s (fun d => d.rdF R.PNL_STAT F.PNL_STAT_TPFLT = 0 ∧
         d.rdF R.PNL_MEAS F.PNL_MEAS_TPCODE = code.toNat ∧
         (b ≠ s.dev.rdF R.PNL_STAT F.PNL_STAT_BAND → s.dev.pRunning = false →
           d.rdF R.PNL_STAT F.PNL_STAT_BAND = b % 16 ∧ d.rdF R.PNL_STAT F.PNL_STAT_BANDPEND = 0 ∧
           d.rdF R.PNL_VLCD F.PNL_VLCD_VSETP = 10 * s.dev.image.panl.vset.getD b 100 % 65536 ∧
           d.evPending 245 = true ∧ d.pnl.vlcdOk = false) ∧
         (b ≠ s.dev.rdF R.PNL_STAT F.PNL_STAT_BAND → s.dev.pRunning = true →
           d.rdF R.PNL_STAT F.PNL_STAT_BAND = s.dev.rdF R.PNL_STAT F.PNL_STAT_BAND ∧
           d.rdF R.PNL_STAT F.PNL_STAT_BANDPEND = 1 ∧ d.pnl.bandNext = some b)))) ∧
   (∀ (s : State) (fault : Bool) (vmeas : BitVec 16), s.Up → Completes (.vlcdFault fault vmeas) s (fun d =>
     let off := ((vmeas.toNat : Int) - s.dev.rdF R.PNL_VLCD F.PNL_VLCD_VSETP).natAbs
     let set := s.dev.rdF R.PNL_VLCD F.PNL_VLCD_VSETP
     let was := s.dev.rdF R.PNL_STAT F.PNL_STAT_VFLT = 1
     let now := if fault then was ∨ set < 20 * off else was ∧ set < 50 * off
     d.rdF R.PNL_STAT F.PNL_STAT_VFLT = b2n (decide now) ∧ d.rdF R.PNL_VLCD F.PNL_VLCD_VMEAS = vmeas.toNat ∧
     (now → s.dev.rdF R.PNL_STAT F.PNL_STAT_VFLT = 0 →
       d.rdF R.PNL_STAT F.PNL_STAT_VFLTSEEN = 1 ∧ d.evPending 243 = true) ∧ d.pnl = s.dev.pnl)) ∧
   (∀ (s : State) (rcrk : BitVec 16), s.Up → s.dev.rdF R.PNL_CTRL F.PNL_CTRL_STATE = 2 →
     s.dev.image.panl.crkstop = false →
     (10 * s.dev.image.panl.crkr < rcrk.toNat → 1 ≤ s.dev.pnl.crackBad → s.dev.pnl.crackBad ≤ 2 →
       s.dev.rdF R.PNL_STAT F.PNL_STAT_CRACK = 0 → Completes (.crack rcrk) s (fun d =>
         d.rdF R.PNL_STAT F.PNL_STAT_CRACK = 1 ∧ d.evPending 242 = true ∧
         d.rdF R.PNL_MEAS F.PNL_MEAS_RCRK = rcrk.toNat)) ∧
     (10 * s.dev.image.panl.crkr < rcrk.toNat → s.dev.pnl.crackBad = 0 → Completes (.crack rcrk) s (fun d =>
       d.rdF R.PNL_STAT F.PNL_STAT_CRACK = s.dev.rdF R.PNL_STAT F.PNL_STAT_CRACK ∧ d.pnl.crackBad = 1 ∧
       d.pnl.crackGood = 0)) ∧
     (rcrk.toNat ≤ 10 * s.dev.image.panl.crkr → 1 ≤ s.dev.pnl.crackGood → s.dev.pnl.crackGood ≤ 2 →
       Completes (.crack rcrk) s (fun d => d.rdF R.PNL_STAT F.PNL_STAT_CRACK = 0 ∧ d.pnl.crackBad = 0))))

/-! The host port (chapter 18) -/

/-- The command that a request frame of an opcode is (R477). -/
def portCommand (opc : Nat) (frame : List Byte) : Option Instr :=
  match opc with
  | 0x03 => some (.close frame)
  | 0x10 => some (.read frame)
  | 0x11 => some (.write frame)
  | 0x20 => some (.cmd frame)
  | 0x21 => some (.poll frame)
  | 0x30 => some (.qpeek frame)
  | 0x31 => some (.qpop frame)
  | 0x40 => some (.imgload frame)
  | 0x01 | 0x02 => none
  | _ => some (.badopc frame)

/-- A request that the port takes: whole, its CRC right, its session `i` open, its TAG right and its CTR new. -/
def Taken (s : State) (frame : List Byte) (r : Req) (i : Nat) : Prop :=
  s.Up ∧ parseReq frame = some r ∧ r.crcOk = true ∧ s.dev.taken r = some i ∧ s.dev.host.sessions.length = 9

/-- The port answers in the line mode that a request asks for. -/
def asked (d : Dev) (frame : List Byte) : Dev := { d with host := { d.host with quad := quadOf frame } }

/-- The session has noted the request's CTR. -/
def noted (d : Dev) (frame : List Byte) (r : Req) (i : Nat) : Dev :=
  (asked d frame).setSess i (fun x => { x with ctrIn := r.ctr })

/-- Frames and sessions (R470 to R475, R477): a frame that ends before its CRC has no effect; one with a bad CRC is
answered CRCERR and counted; one whose session, TAG or CTR is wrong is answered AUTHERR and counted; every answer of a
session carries its next CTR, and its TAG when the session is authenticated; OPEN1 opens the unauthenticated session
where the life of the device allows it, or gives a nonce for OPEN2, which opens the session on the right proof and
fails otherwise; CLOSE closes; a reserved opcode is answered BADOPC; a response cut short is lost. After the 32 cycles of turnaround, in which no line is driven, a response
goes out in the mode that its request asked for: on HST_IO1 alone, 8 cycles a byte, or on all four lines, two (R468,
R469; the order of the two halves of a byte is the model's reading, log entry 67). -/
def Obligations.PortFramesAndSessions : Prop :=
  (∀ (s : State) (frame : List Byte) (opc : Nat) (c : Instr), portCommand opc frame = some c →
    parseReq frame = none → exec c s = .next s) ∧
  (∀ (s : State) (frame : List Byte) (r : Req) (c : Instr), s.Up → parseReq frame = some r →
    portCommand r.opc frame = some c →
    (r.crcOk = false → Completes c s (fun d => d.host.resp = respFrame 7 0 0 r [] none ∧
      d.rdF R.HST_CNT F.HST_CNT_CRCERRS = min 65535 (s.dev.rdF R.HST_CNT F.HST_CNT_CRCERRS + 1) ∧
      d.rdF R.HST_STAT F.HST_STAT_CRCERR = 1 ∧ d.evPending 251 = true ∧ d.host.sessions = s.dev.host.sessions ∧
      d.jrn = s.dev.jrn ∧ d.turn = s.dev.turn ∧ (∀ q, q ≠ 49 → d.queue q = s.dev.queue q))) ∧
    (r.crcOk = true → s.dev.taken r = none → Completes c s (fun d => d.host.resp = respFrame 8 0 0 r [] none ∧
      d.rdF R.HST_CNT F.HST_CNT_AUTHERRS = min 65535 (s.dev.rdF R.HST_CNT F.HST_CNT_AUTHERRS + 1) ∧
      d.rdF R.HST_STAT F.HST_STAT_AUTHERR = 1 ∧ d.evPending 251 = true ∧ d.host.sessions = s.dev.host.sessions ∧
      d.jrn = s.dev.jrn ∧ d.turn = s.dev.turn ∧ (∀ q, q ≠ 49 → d.queue q = s.dev.queue q)))) ∧
  (∀ (d : Dev) (i : Nat) (r : Req) (st res : Nat) (payload : List Byte), d.pwr.boot = 3 → i < 9 →
    d.host.sessions.length = 9 →
    (d.answer i r st payload res).host.resp
      = respFrame st res (d.sessAt i).ctrOut r payload (if i < 8 then some (d.sessAt i).sk else none) ∧
    ((d.answer i r st payload res).sessAt i).ctrOut = ((d.sessAt i).ctrOut + 1) % 2 ^ 32 ∧
    (d.answer i r st payload res).jrn = d.jrn ∧ (d.answer i r st payload res).turn = d.turn ∧
    ∀ q, q ≠ 49 → (d.answer i r st payload res).queue q = d.queue q) ∧
  (∀ (s : State) (frame : List Byte) (r : Req), s.Up → parseReq frame = some r → r.crcOk = true →
    s.dev.host.sessions.length = 9 →
    (r.opc = 0x01 → r.len = 18 → s.dev.locked = false → s.dev.trngBad = false →
      (∀ p, byteAt r.payload 0 = 0xFF → byteAt r.payload 1 = 0xFF → s.dev.openPerm = some p →
        Completes (.open1 frame) s (fun d => d.sessAt 8 = ⟨true, 0, p, 0, 2, []⟩ ∧
          d.host.resp = respFrame 0 0 1 r (s.dev.trng 2).1 none)) ∧
      (byteAt r.payload 0 = 0xFF → s.dev.openPerm = none → exec (.open1 frame) s = .next (s.on
        ((asked s.dev frame).answerBare r stDenied []))) ∧
      (byteAt r.payload 0 ≠ 0xFF → Completes (.open1 frame) s (fun d =>
        d.host.opening = some ⟨byteAt r.payload 1, byteAt r.payload 0, slice r.payload 2 16, (s.dev.trng 2).1⟩ ∧
        d.host.resp = respFrame 0 0 0 r (s.dev.trng 2).1 none ∧ d.host.sessions = s.dev.host.sessions))) ∧
    (r.opc = 0x01 → r.len = 18 → s.dev.locked = true →
      exec (.open1 frame) s = .next (s.on ((asked s.dev frame).answerBare r stAuthErr []))) ∧
    (∀ (o : Opening) (h : HostKey), r.opc = 0x02 → r.len = 8 → s.dev.locked = false → s.dev.host.opening = some o →
      o.sess < 8 → s.dev.hostKey o.key = some h →
      Completes (.open2 frame) s (fun d => d.host.opening = none ∧
        if r.payload = (hmac (sessionKey o h) ([0x6F, 0x70, 0x65, 0x6E] ++ o.nh ++ o.nd)).take 8 then
          d.sessAt o.sess = ⟨true, o.key, h.perm.toNat, 0, 2, sessionKey o h⟩
        else d.host.sessions = s.dev.host.sessions ∧ d.evPending 229 = true ∧
          d.rdF R.VLT_SESS F.VLT_SESS_FAILS = min 65535 (s.dev.rdF R.VLT_SESS F.VLT_SESS_FAILS + 1)))) ∧
  (∀ (s : State) (frame : List Byte) (r : Req) (i : Nat), Taken s frame r i →
    (r.opc = 0x03 → Completes (.close frame) s (fun d => d.sessAt i = Session.closed ∧
      (∀ k, k ≠ i → d.sessAt k = s.dev.sessAt k) ∧
      d.host.quad = bitOf (byteAt frame 0) 7 ∧
      d.host.resp = respFrame 0 0 (s.dev.sessAt i).ctrOut r [] (if i < 8 then some (s.dev.sessAt i).sk else none))) ∧
    (knownOpcodes.contains r.opc = false →
      exec (.badopc frame) s = .next (s.on ((noted s.dev frame r i).answer i r 0x0D [])))) ∧
  (∀ d : Dev, d.respCycles.take 32 = List.replicate 32 [none, none, none, none] ∧
    d.respCycles.length = 32 + (if d.host.quad then 2 else 8) * d.host.resp.length ∧
    (d.host.quad = false → ∀ c ∈ d.respCycles.drop 32, c.length = 4 ∧ ∀ i, i ≠ 1 → c.getD i none = none) ∧
    (d.host.quad = true → ∀ c ∈ d.respCycles.drop 32, c.length = 4 ∧ ∀ i, i < 4 → c.getD i none ≠ none)) ∧
  (∀ s : State, s.Up → exec (.transactionAbort true) s
      = .next (s.on { s.dev with host := { s.dev.host with resp := [] } }) ∧
    exec (.transactionAbort false) s = .next s)

/-- What a taken request does (R300, R477 to R481, R483, R420): READ answers the words, WRITE takes word by word and
stops where the port may not write, each with its permission; CMD puts an unknown command into its channel with the
verdict on its permission, answers PENDING for one on its way, BUSY for a full channel and NOTACTIVE out of service; POLL
answers from the tables and changes nothing; QPEEK changes nothing, QPOP takes the elements it answers; IMGLOAD
stores its bytes in the inactive slot. -/
def Obligations.PortAccess : Prop :=
  (∀ (s : State) (frame : List Byte) (r : Req) (i : Nat), Taken s frame r i →
    let d0 := noted s.dev frame r i
    (r.opc = 0x10 → s.dev.may i 0 = true → 4 ≤ r.len → r.len ≤ 4096 → r.len % 4 = 0 → r.addr % 4 = 0 →
      exec (.read frame) s = .next (s.on ((d0.readWords r.addr (r.len / 4)).2.answer i r stOk
        (d0.readWords r.addr (r.len / 4)).1))) ∧
    (r.opc = 0x10 → s.dev.may i 0 = false → exec (.read frame) s = .next (s.on (d0.answer i r stDenied []))) ∧
    (r.opc = 0x11 → s.dev.may i 2 = true → s.dev.may i 3 = true → 4 ≤ r.len → r.len ≤ 512 → r.len % 4 = 0 →
      r.addr % 4 = 0 → exec (.write frame) s = .next (s.on
        ((d0.writeWords r.sess r.addr (payloadWords r.payload)).1.answer i r
          (if (d0.writeWords r.sess r.addr (payloadWords r.payload)).2 then stOk else stBadAddr) []))) ∧
    (r.opc = 0x11 → s.dev.may i 2 = false → exec (.write frame) s = .next (s.on (d0.answer i r stDenied []))) ∧
    (r.opc = 0x20 → 8 ≤ r.len → r.len ≤ 512 → (byteAt r.payload 6 < 0x33 ∨ 0x35 < byteAt r.payload 6) →
      (s.dev.holder = true → s.dev.replayed r.sess r.cmdid = none → s.dev.replayStale r.sess r.cmdid = false →
        s.dev.queues.q.length = 64 →
        (s.dev.cmdPending r.sess r.cmdid = false → s.dev.hasRoom (40 + r.hc) = true →
          Completes (.cmd frame) s (fun d => ∃ e, d.queue (40 + r.hc) = s.dev.queue (40 + r.hc) ++ [e] ∧
            e.permitted = s.dev.may i (cmdPerm (byteAt r.payload 6)) ∧
            e.ref = some ⟨r.sess, BitVec.ofNat 32 r.cmdid, r.hc⟩ ∧
            (∀ q, q ≠ 40 + r.hc → d.queue q = s.dev.queue q) ∧ d.turn = s.dev.turn ∧ d.jrn = s.dev.jrn)) ∧
        (s.dev.cmdPending r.sess r.cmdid = true →
          exec (.cmd frame) s = .next (s.on (d0.answer i r stPending []))) ∧
        (s.dev.cmdPending r.sess r.cmdid = false → s.dev.hasRoom (40 + r.hc) = false →
          exec (.cmd frame) s = .next (s.on ((d0.refuse (40 + r.hc)).answer i r stBusy [])))) ∧
      (s.dev.holder = false → exec (.cmd frame) s = .next (s.on (d0.answer i r stNotActive []))) ∧
      (∀ res, s.dev.holder = true → s.dev.replayed r.sess r.cmdid = some res →
        Completes (.cmd frame) s (fun d => d.rdF R.JRN_REPLAY F.JRN_REPLAY_REPLAYS
          = min 65535 (s.dev.rdF R.JRN_REPLAY F.JRN_REPLAY_REPLAYS + 1) ∧ (∀ q, d.queue q = s.dev.queue q)))) ∧
    (r.opc = 0x21 → s.dev.may i 0 = true →
      (∀ res, (s.dev.replayed r.sess r.cmdid).or (s.dev.vaultKept r.sess r.cmdid) = some res →
        exec (.poll frame) s = .next (s.on (d0.answer i r stResult [] res))) ∧
      ((s.dev.replayed r.sess r.cmdid).or (s.dev.vaultKept r.sess r.cmdid) = none →
        exec (.poll frame) s = .next (s.on (d0.answer i r
          (if s.dev.cmdPending r.sess r.cmdid then stPending else stUnknown) [])))) ∧
    (s.dev.may i 0 = true → 1 ≤ r.len → r.len ≤ 64 → s.dev.exports = true → 48 ≤ r.addr → r.addr ≤ 55 →
      (r.opc = 0x30 → exec (.qpeek frame) s = .next (s.on
        (d0.answer i r stOk (((s.dev.queue r.addr).take r.len).flatMap QElem.bytes)))) ∧
      (r.opc = 0x31 → s.dev.queues.q.length = 64 → Completes (.qpop frame) s (fun d =>
        d.queue r.addr = (s.dev.queue r.addr).drop r.len ∧ (∀ q, q ≠ r.addr → d.queue q = s.dev.queue q) ∧
        d.jrn = s.dev.jrn ∧ d.host.resp = respFrame 0 0 (s.dev.sessAt i).ctrOut r
          ((if (s.dev.queue r.addr).length < r.len then leBytes 2 (s.dev.queue r.addr).length else []) ++
            ((s.dev.queue r.addr).take r.len).flatMap QElem.bytes)
          (if i < 8 then some (s.dev.sessAt i).sk else none)))) ∧
    (r.opc = 0x40 → s.dev.may i 3 = true → 1 ≤ r.len → r.len ≤ 4096 → r.addr + r.len ≤ 8388608 →
      s.dev.takesImages = true → s.dev.staging = 1 → s.dev.vault.images.length = 2 → s.dev.actSlot < 2 →
      (∀ sl ∈ s.dev.vault.images, memWf sl.mem = true) →
      Completes (.imgload frame) s (fun d => (d.staging = 1 ∨ d.staging = 2) ∧
        (∀ k, k < r.len → memGet (d.imgSlot s.dev.stageSlot).mem (r.addr + k) = r.payload.getD k 0) ∧
        (∀ a, a < r.addr ∨ r.addr + r.len ≤ a →
          memGet (d.imgSlot s.dev.stageSlot).mem a = memGet (s.dev.imgSlot s.dev.stageSlot).mem a) ∧
        d.imgSlot s.dev.actSlot = s.dev.imgSlot s.dev.actSlot))) ∧
  (∀ (d : Dev) (sess a : Nat) (v : Word), (∀ r, findRow a = some r → r.writable = 0) → d.writeWord sess a v = none) ∧
  (∀ (d : Dev) (sess : Nat) (v : Word), d.writeWord sess R.DOM_SET_LO v = some (d.wr R.DOM_SET_LO v))

/-! Feeds, start-up, reset and hot plug (chapter 19) -/

/-- The feeds and VHV (R487, R489, R491): a reverse voltage turns the gate off and sets REV, a gate-on ends it unless the
feed is held off; a change of INRANGE sets FEEDCHG; VHVLOW follows its event; COMB_CLR sets VMIN to VCOMB. -/
def Obligations.FeedsAndRails : Prop :=
  (∀ (s : State) (b : Bool), Completes (.idealDiodeReverse b) s (fun d =>
    bitOf (d.feed b) 3 = true ∧ bitOf (d.feed b) 4 = false ∧ d.feed (!b) = s.dev.feed (!b) ∧
    (∀ k, k < 3 → bitOf (d.feed b) k = bitOf (s.dev.feed b) k) ∧
    (s.Up → bitOf (s.dev.feed b) 3 = false → d.evPending 254 = true))) ∧
  (∀ (s : State) (b : Bool), Completes (.feedGateOn b) s (fun d =>
    bitOf (d.feed b) 3 = false ∧ bitOf (d.feed b) 4 = !(s.dev.gateHeld b) ∧ s.dev.OnlyRegs d [R.PWR_FEEDFLG])) ∧
  (∀ (s : State) (b inrange ov uv : Bool), Completes (.feedRangeChange b inrange ov uv) s (fun d =>
    bitOf (d.feed b) 0 = inrange ∧ bitOf (d.feed b) 1 = uv ∧ bitOf (d.feed b) 2 = ov ∧
    bitOf (d.feed b) 3 = bitOf (s.dev.feed b) 3 ∧
    (ov = true → bitOf (s.dev.feed (!b)) 0 = true → bitOf (d.feed b) 4 = false) ∧
    (s.Up → bitOf (s.dev.feed b) 0 ≠ inrange →
      d.rdF R.PWR_STAT F.PWR_STAT_FEEDCHG = 1 ∧ d.evPending 254 = true) ∧
    (bitOf (s.dev.feed b) 0 = inrange → s.dev.OnlyRegs d [R.PWR_FEEDFLG]))) ∧
  (∀ (s : State) (low : Bool), Completes (.vhvlowChange low) s (fun d => d.vhvlow = low ∧
    (s.Up → s.dev.vhvlow ≠ low → d.evPending 254 = true) ∧
    (s.Up → s.dev.vhvlow = false → low = true → d.rdF R.PWR_STAT F.PWR_STAT_VHVSEEN = 1) ∧
    (s.dev.vhvlow = low → d = s.dev))) ∧
  (∀ s : State, s.Up → Completes .combClr s (fun d =>
    d.rdF R.PWR_COMB F.PWR_COMB_VMIN = d.rdF R.PWR_COMB F.PWR_COMB_VCOMB ∧
    (∀ a, a ≠ R.PWR_COMB → d.rd a = s.dev.rd a)))

/-- The power-fail warning (R492 to R495): it sets once, counts, forces its functions into shutdown and puts the journal
into write-through; a loss of presence while it stands only shows; its end gives the enables back, and write-through ends unless EJECT_N keeps
it; after 10 ms it ends in a feed-loss reset, which holds the die until the warning clears. -/
def Obligations.PowerFailWarning : Prop :=
  (∀ (s : State) (pres : Bool), s.Up → s.dev.pfw = false → Completes (.powerFailWarning pres) s (fun d =>
    d.pfw = true ∧ d.evPending 252 = true ∧ d.rdF R.PWR_STAT F.PWR_STAT_PFWSEEN = 1 ∧ d.jrn.wthru = true ∧
    d.rdF R.PWR_PFW F.PWR_PFW_COUNT = min 65535 (s.dev.rdF R.PWR_PFW F.PWR_PFW_COUNT + 1) ∧
    d.pwr.pfwAt = some s.dev.clk ∧ d.pair.planned = (if s.dev.role = 2 then none else s.dev.pair.planned) ∧
    (∀ f : Func, f.byPfw = true → d.fState f = 0 ∨ d.fState f = 3) ∧
    (pres = true → d.rdF R.PWR_STAT F.PWR_STAT_PRESLOSS = 1 ∧ d.rdF R.PWR_STAT F.PWR_STAT_PRES = 0) ∧
    d.turn.run = s.dev.turn.run ∧ d.rd R.DIO_OUT = s.dev.rd R.DIO_OUT)) ∧
  (∀ s : State, s.dev.pfw = true → exec (.powerFailWarning false) s = .next s ∧
    (s.dev.pwr.boot ≠ 0 → exec (.powerFailWarning true) s = .next (s.on (s.dev.wrF R.PWR_STAT F.PWR_STAT_PRES 0)))) ∧
  (∀ (s : State) (t : Nat), s.Up → s.dev.pfw = true → s.dev.pwr.pfwAt = some t → Completes .pfwClear s (fun d =>
    d.pfw = false ∧ d.evPending 253 = true ∧ d.pwr.pfwAt = none ∧ d.pwr.saved = [] ∧
    d.rdF R.PWR_PFW F.PWR_PFW_LASTDUR = min 65535 ((s.dev.clk - t) / 40000) ∧
    (s.dev.ejected = false → d.jrn.wthru = false))) ∧
  (∀ s : State, s.dev.pfw = false → exec .pfwClear s = .next s ∧ exec .feedlossReset s = .next s) ∧
  (∀ (s : State) (t : Nat), s.Up → s.dev.pfw = true → s.dev.pwr.pfwAt = some t →
    (t + 4000000 ≤ s.dev.clk → Completes .feedlossReset s (fun d => d.pwr.boot = 1 ∧ d.role = 0 ∧
      d.rdF R.PWR_RSTCAUSE F.PWR_RSTCAUSE_CAUSE = 2 ∧
      d.rdF R.PWR_RSTCAUSE F.PWR_RSTCAUSE_DETAIL = (if s.dev.pwr.pfwPres then 2 else 1) ∧ d.jrn.wbuf = [])) ∧
    (s.dev.clk < t + 4000000 → exec .feedlossReset s = .next s)) ∧
  (∀ s : State, s.dev.pwr.boot = 1 → (s.dev.pfw = true → s.dev.rdF R.PWR_RSTCAUSE F.PWR_RSTCAUSE_CAUSE = 2 →
      exec .resetRelease s = .next s) ∧
    (s.dev.pfw = false → exec .resetRelease s = .next (s.on { s.dev with pwr := { s.dev.pwr with boot := 2 } })))

/-- Resets and the start-up (R6, R417, R497, R499, R500, R506): power-good starts the device with cause POWERON, and
NOWARN when no warning came before; a host reset and the loss of a rail take the die into reset, a running turn, what
waits in the write-buffer registers and every session with it; a device in which neither slot verifies starts with
NOIMG, and runs no turn. -/
def Obligations.ResetsAndStartUp : Prop :=
  (∀ s : State, s.dev.pwr.boot = 0 → Completes .powerGood s (fun d => d.pwr.boot = 2 ∧
    d.rdF R.PWR_RSTCAUSE F.PWR_RSTCAUSE_CAUSE = 1 ∧
    d.rdF R.PWR_RSTCAUSE F.PWR_RSTCAUSE_NOWARN = b2n (!s.dev.pwr.warned) ∧ d.pfw = false)) ∧
  (∀ s : State, s.dev.pwr.boot ≠ 0 → exec .powerGood s = .next s) ∧
  (∀ (s : State) (sess : Nat), s.Up → s.dev.GateFor sess → Completes (.hostReset sess) s (fun d =>
    d.pwr.boot = 1 ∧ d.role = 0 ∧ d.gate = none ∧ d.turn.run = none ∧ d.wb = [] ∧
    d.rdF R.PWR_RSTCAUSE F.PWR_RSTCAUSE_CAUSE = 4 ∧ d.rdF R.PWR_RSTCAUSE F.PWR_RSTCAUSE_DETAIL = sess % 256 ∧
    (∀ k, d.sessAt k = Session.closed) ∧ d.jrn.wbuf = [] ∧ d.jrn.next = s.dev.jrn.next ∧
    d.vault.counter = s.dev.vault.counter ∧ d.dom.count = s.dev.dom.count)) ∧
  (∀ s : State, Completes .railReset s (fun d => d.pwr.boot = 0 ∧ d.role = 0 ∧ d.turn.run = none ∧ d.wb = [] ∧
    d.jrn.wbuf = [] ∧ d.jrn.ledger = s.dev.jrn.ledger ∧ d.vault.counter = s.dev.vault.counter ∧
    d.dom.count = s.dev.dom.count)) ∧
  (∀ s : State, s.dev.pwr.boot = 2 → s.dev.vault.erasing = false →
    (∀ k, (s.dev.imgSlot k).mem = []) → s.dev.vault.swapFrom = none → s.dev.actSlot < 2 → Completes .startUp s (fun d =>
      d.pwr.boot = 3 ∧ d.rdF R.VLT_STAT F.VLT_STAT_NOIMG = 1 ∧ d.role = s.dev.role ∧
      d.turn.starts = s.dev.turn.starts ∧ d.vault.counter = s.dev.vault.counter)) ∧
  (∀ s : State, s.dev.pwr.boot ≠ 2 → exec .startUp s = .next s)

/-- Sleep and the ejector (R502, R503, R507, R508): a sleep request waits for the latch with its mask; sleep is entered
after the emit of its turn, and only an enabled source ends it; a change of EJECT_N shows, raises EV255 and switches
write-through in a solo device. -/
def Obligations.SleepAndEject : Prop :=
  (∀ (s : State) (sess : Nat) (mask : BitVec 4), s.Up → s.dev.GateFor sess →
    s.dev.wbWord R.PWR_SLEEP ≠ none ∨ s.dev.rdF R.PWR_SLEEP F.PWR_SLEEP_REQ = 0 →
    Completes (.sleepRequest sess mask) s (fun d => d.wbWord R.PWR_SLEEP = some 1 ∧
      d.rdF R.PWR_SLEEP F.PWR_SLEEP_WAKEMSK = mask.toNat ∧ d.rdF R.PWR_SLEEP F.PWR_SLEEP_PEND = 1 ∧
      d.gate = none ∧ d.turn = s.dev.turn ∧ d.pwr = s.dev.pwr)) ∧
  (∀ d : Dev, d.wbWord R.PWR_SLEEP ≠ none →
    (d.role ≠ 1 ∨ d.pfw = true ∨ d.danger = true ∨ d.rdF R.PWR_SLEEP F.PWR_SLEEP_WAKEMSK = 0 ∨
      d.rdF (R.LAT_CNT 0) F.LAT_CNT_ACTIVE ≠ 0 ∨ d.rdF (R.LAT_CNT 0) F.LAT_CNT_UNACK ≠ 0 →
      d.sleepLatch.rdF R.PWR_STAT F.PWR_STAT_SLPREF = 1 ∧ d.sleepLatch.pwr = d.pwr) ∧
    d.sleepLatch.wbWord R.PWR_SLEEP = none) ∧
  (∀ (s : State) (m : Nat), s.Up → s.dev.sleepReady = true → s.dev.pwr.sleepMask = some m →
    Completes .sleepEnter s (fun d => d.pwr.boot = 4 ∧ d.pwr.sleepMask = some m ∧ d.role = 0 ∧ d.jrn.wbuf = [] ∧
      d.rd R.DIO_OUT = 0)) ∧
  (∀ s : State, s.dev.sleepReady = false → exec .sleepEnter s = .next s) ∧
  (∀ (s : State) (source : BitVec 4) (m : Nat), s.dev.pwr.boot = 4 → s.dev.pwr.sleepMask = some m →
    (source.toNat &&& m ≠ 0 → Completes (.wake source) s (fun d => d.pwr.boot = 2 ∧
      d.rdF R.PWR_RSTCAUSE F.PWR_RSTCAUSE_CAUSE = 6 ∧
      d.rdF R.PWR_RSTCAUSE F.PWR_RSTCAUSE_DETAIL = source.toNat &&& m ∧ d.dom = s.dev.dom)) ∧
    (source.toNat &&& m = 0 → exec (.wake source) s = .next s)) ∧
  (∀ s : State, s.Up → s.dev.role = 1 → s.dev.pair.castle = 0 →
    (s.dev.ejected = false → Completes .ejectAssert s (fun d => d.ejected = true ∧ d.evPending 255 = true ∧
      d.rdF R.PAR_ROLE F.PAR_ROLE_EJECT = 1 ∧ d.jrn.wthru = true ∧ d.role = 1 ∧ d.turn = s.dev.turn)) ∧
    (s.dev.ejected = true → Completes .ejectRelease s (fun d => d.ejected = false ∧ d.evPending 255 = true ∧
      d.rdF R.PAR_ROLE F.PAR_ROLE_EJECT = 0 ∧ (s.dev.pfw = false → d.jrn.wthru = false) ∧ d.turn = s.dev.turn)) ∧
    (s.dev.ejected = true → exec .ejectAssert s = .next s) ∧
    (s.dev.ejected = false → exec .ejectRelease s = .next s))

/-! What every step keeps -/

/-- After reset the device is sane: its stored data in canonical form and of the device's shape, and no image newer
than the version counter. The canonical forms are the model's own (log entry 7). -/
def Obligations.ResetIsSane : Prop := State.reset.dev.Sane

/-- Every step, of a command or of a cycle, keeps the device sane, in states that no run reaches too: the registers and
the addressed buffers stay in canonical form, no queue, channel or slot is lost, and no image comes into use that is
newer than the version counter (R413). -/
def Obligations.StepsKeepSane : Prop :=
  ∀ s t : State, s.dev.Sane → step s = .next t → t.dev.Sane

/-- The version counter never falls, whatever a step does: not by a reset, an erasure, a swap or a change of ownership
(R413, R425). No step takes time but one on the empty queue with nothing due, which takes one cycle of CK_SYS. That
commands take no time is a choice of the model (log entry 4). -/
def Obligations.CounterNeverFalls : Prop :=
  ∀ s t : State, step s = .next t → s.dev.vault.counter ≤ t.dev.vault.counter ∧
    (t.dev.clk = s.dev.clk ∨ s.pending = [] ∧ t.pending = [] ∧ t.dev.clk = s.dev.clk + 1)
end

