-- ==== Sys2Proof/Laws/Bits.lean ====
section
/-!
SUPPORT. Laws of fields: a field put into a word reads back, and leaves every other field alone.
-/
namespace Sys2Proof.Machine

theorem testBit_getF (f : Field) (w : Word) (i : Nat) :
    (getF f w).testBit i = (decide (i < f.width) && w.toNat.testBit (f.lo + i)) := by
  simp [getF, Nat.testBit_mod_two_pow, Nat.testBit_div_two_pow, Nat.add_comm]

theorem testBit_mask (f : Field) (i : Nat) :
    (Field.mask f).toNat.testBit i = (decide (i < 32) && (decide (f.lo ≤ i) && decide (i < f.lo + f.width))) := by
  simp only [Field.mask, BitVec.toNat_ofNat, Nat.testBit_mod_two_pow, Nat.testBit_mul_two_pow,
    Nat.testBit_two_pow_sub_one]
  by_cases h : f.lo ≤ i
  · have e : decide (i - f.lo < f.width) = decide (i < f.lo + f.width) := by
      by_cases hu : i < f.lo + f.width
      · simp [hu]; omega
      · simp [hu]; omega
    simp [h, e]
  · simp [h]

theorem testBit_field (f : Field) (v i : Nat) :
    (BitVec.ofNat 32 (v % 2 ^ f.width * 2 ^ f.lo)).toNat.testBit i
      = (decide (i < 32) && (decide (f.lo ≤ i) && (decide (i - f.lo < f.width) && v.testBit (i - f.lo)))) := by
  rw [BitVec.toNat_ofNat, Nat.testBit_mod_two_pow, Nat.testBit_mul_two_pow, Nat.testBit_mod_two_pow]

theorem testBit_putF (f : Field) (w : Word) (v i : Nat) :
    (putF f w v).toNat.testBit i = (decide (i < 32) &&
      (if f.lo ≤ i ∧ i < f.lo + f.width then v.testBit (i - f.lo) else w.toNat.testBit i)) := by
  by_cases hi : i < 32
  · have h1 : (putF f w v).toNat.testBit i = (putF f w v).getLsbD i := rfl
    have h2 : w.toNat.testBit i = w.getLsbD i := rfl
    have h3 : (Field.mask f).getLsbD i = (Field.mask f).toNat.testBit i := rfl
    have h4 := testBit_field f v i
    rw [BitVec.testBit_toNat] at h4
    rw [h1, h2]
    unfold putF
    rw [BitVec.getLsbD_or, BitVec.getLsbD_and, BitVec.getLsbD_not, h3, testBit_mask, h4]
    by_cases hl : f.lo ≤ i <;> by_cases hu : i < f.lo + f.width
    · have : i - f.lo < f.width := by omega
      simp [hi, hl, hu, this]
    · have : ¬ i - f.lo < f.width := by omega
      simp [hi, hl, hu, this]
    · simp [hi, hl]
    · simp [hi, hl]
  · have : (putF f w v).toNat.testBit i = false := Nat.testBit_lt_two_pow
      (Nat.lt_of_lt_of_le (BitVec.isLt _) (Nat.pow_le_pow_right (by decide) (by omega)))
    simp [this, hi]

/-- A field reads back as it was put, cut to its width. -/
theorem getF_putF (f : Field) (hf : f.lo + f.width ≤ 32) (w : Word) (v : Nat) : getF f (putF f w v) = v % 2 ^ f.width := by
  apply Nat.eq_of_testBit_eq
  intro i
  rw [testBit_getF, testBit_putF, Nat.testBit_mod_two_pow]
  by_cases h : i < f.width
  · have h1 : f.lo + i < 32 := by omega
    have h2 : f.lo ≤ f.lo + i ∧ f.lo + i < f.lo + f.width := ⟨by omega, by omega⟩
    simp [h, h1]
  · simp [h]

/-- A field that does not meet the one put keeps its value. -/
theorem getF_putF_apart (f g : Field) (h : f.lo + f.width ≤ g.lo ∨ g.lo + g.width ≤ f.lo) (w : Word) (v : Nat) :
    getF f (putF g w v) = getF f w := by
  apply Nat.eq_of_testBit_eq
  intro i
  rw [testBit_getF, testBit_getF, testBit_putF]
  by_cases hi : i < f.width
  · have hn : ¬ (g.lo ≤ f.lo + i ∧ f.lo + i < g.lo + g.width) := by omega
    simp only [hi, hn, decide_true, Bool.true_and, if_false]
    by_cases h32 : f.lo + i < 32
    · simp [h32]
    · have : w.toNat.testBit (f.lo + i) = false := Nat.testBit_lt_two_pow
        (Nat.lt_of_lt_of_le (BitVec.isLt _) (Nat.pow_le_pow_right (by decide) (by omega)))
      simp [this, h32]
  · simp [hi]

/-- A field's value lies below its range. -/
theorem getF_lt (f : Field) (w : Word) : getF f w < 2 ^ f.width := Nat.mod_lt _ (Nat.two_pow_pos _)

end Sys2Proof.Machine
end

