-- ==== Sys2Proof/Laws/Memory.lean ====
section
/-!
SUPPORT. Laws of the register file and of the addressed buffers: a read after a write, and the canonical form that
every write keeps.
-/
namespace Sys2Proof.Machine

section Cells

variable {α : Type} [DecidableEq α] (dflt : Nat → α)

omit [DecidableEq α] in
/-- Cells above an address do not show at it or below it. -/
theorem cellGet_above (l : List (Nat × α)) (a b : Nat) (h : ∀ x ∈ l, a < x.1) (hb : b ≤ a) :
    cellGet dflt l b = dflt b := by
  cases l with
  | nil => rfl
  | cons x t =>
    have hx : a < x.1 := h x (by simp)
    have h1 : b ≠ x.1 := by omega
    have h2 : b < x.1 := by omega
    simp [cellGet, h1, h2]

omit [DecidableEq α] in
/-- Above an address, the cells up to it do not show. -/
theorem cellGet_filter (l : List (Nat × α)) (a b : Nat) (hb : a < b) :
    cellGet dflt (l.filter (fun x => decide (a < x.1))) b = cellGet dflt l b := by
  induction l with
  | nil => rfl
  | cons x t ih =>
    by_cases h : a < x.1
    · simp only [List.filter, h, decide_true, cellGet, ih]
    · have h1 : b ≠ x.1 := by omega
      have h2 : ¬ b < x.1 := by omega
      simp only [List.filter, h, decide_false, ih, cellGet, h1, h2, if_false]

omit [DecidableEq α] in
theorem filter_above (t : List (Nat × α)) (a : Nat) : ∀ x ∈ t.filter (fun x => decide (a < x.1)), a < x.1 := by
  intro x hx
  simpa using (List.mem_filter.1 hx).2

/-- A cell reads as last written; every other cell reads as before. -/
theorem cellGet_cellSet (l : List (Nat × α)) (a b : Nat) (w : α) :
    cellGet dflt (cellSet dflt l a w) b = if b = a then w else cellGet dflt l b := by
  induction l with
  | nil =>
    by_cases hw : w = dflt a <;> by_cases hb : b = a <;> simp [cellSet, cellGet, hw, hb]
  | cons x t ih =>
    obtain ⟨k, v⟩ := x
    by_cases hak : a = k
    · subst hak
      by_cases hw : w = dflt a
      · simp only [cellSet, hw, if_true]
        by_cases hb : b = a
        · subst hb
          simp only [if_true]
          exact cellGet_above dflt _ b b (filter_above t b) (Nat.le_refl b)
        · simp only [hb, if_false, cellGet]
          by_cases hlt : b < a
          · simp only [hlt, if_true]
            exact cellGet_above dflt _ a b (filter_above t a) (Nat.le_of_lt hlt)
          · simp only [hlt, if_false]
            exact cellGet_filter dflt t a b (by omega)
      · by_cases hb : b = a <;> simp [cellSet, cellGet, hw, hb]
    · by_cases hlt : a < k
      · by_cases hw : w = dflt a
        · by_cases hb : b = a
          · subst hb; simp [cellSet, cellGet, hak, hlt, hw]
          · simp [cellSet, hak, hlt, hw, hb]
        · by_cases hb : b = a
          · subst hb; simp [cellSet, cellGet, hak, hlt, hw]
          · by_cases hba : b < a
            · have h1 : b ≠ k := by omega
              have h2 : b < k := by omega
              simp [cellSet, cellGet, hak, hlt, hw, hb, hba, h1, h2]
            · simp [cellSet, cellGet, hak, hlt, hw, hb, hba]
      · by_cases hbk : b = k
        · subst hbk
          have : b ≠ a := fun e => hak e.symm
          simp [cellSet, cellGet, hak, hlt, this]
        · by_cases hbl : b < k
          · have : b ≠ a := by omega
            simp [cellSet, cellGet, hak, hlt, hbk, hbl, this]
          · simp [cellSet, cellGet, hak, hlt, hbk, hbl, ih]

/-- A write adds no address but its own. -/
theorem cellSet_mem (l : List (Nat × α)) (a : Nat) (w : α) (x : Nat × α) (h : x ∈ cellSet dflt l a w) :
    x ∈ l ∨ x.1 = a := by
  induction l with
  | nil =>
    by_cases hw : w = dflt a
    · simp [cellSet, hw] at h
    · simp [cellSet, hw] at h; exact Or.inr (by rw [h])
  | cons y t ih =>
    obtain ⟨k, v⟩ := y
    by_cases hak : a = k
    · subst hak
      by_cases hw : w = dflt a
      · simp only [cellSet, hw, if_true] at h
        exact Or.inl (List.mem_cons_of_mem _ (List.mem_filter.1 h).1)
      · have h : x ∈ (a, w) :: t := by simpa [cellSet, hw] using h
        rcases List.mem_cons.1 h with h | h
        · exact Or.inr (by rw [h])
        · exact Or.inl (List.mem_cons_of_mem _ h)
    · by_cases hlt : a < k
      · by_cases hw : w = dflt a
        · exact Or.inl (by simpa [cellSet, hak, hlt, hw] using h)
        · have h : x ∈ (a, w) :: (k, v) :: t := by simpa [cellSet, hak, hlt, hw] using h
          rcases List.mem_cons.1 h with h | h
          · exact Or.inr (by rw [h])
          · exact Or.inl h
      · have h : x ∈ (k, v) :: cellSet dflt t a w := by simpa [cellSet, hak, hlt] using h
        rcases List.mem_cons.1 h with h | h
        · exact Or.inl (by rw [h]; simp)
        · rcases ih h with h | h
          · exact Or.inl (List.mem_cons_of_mem _ h)
          · exact Or.inr h

theorem cellsWf_cons (a : Nat) (w : α) (t : List (Nat × α)) :
    cellsWf dflt ((a, w) :: t) = true ↔ w ≠ dflt a ∧ (∀ x ∈ t, a < x.1) ∧ cellsWf dflt t = true := by
  simp [cellsWf, and_assoc]

/-- Every write keeps the canonical form. -/
theorem cellsWf_cellSet (l : List (Nat × α)) (a : Nat) (w : α) (h : cellsWf dflt l = true) :
    cellsWf dflt (cellSet dflt l a w) = true := by
  induction l with
  | nil => by_cases hw : w = dflt a <;> simp [cellSet, cellsWf, hw]
  | cons y t ih =>
    obtain ⟨k, v⟩ := y
    obtain ⟨hv, hall, ht⟩ := (cellsWf_cons dflt k v t).1 h
    by_cases hak : a = k
    · subst hak
      have hf : t.filter (fun x => decide (a < x.1)) = t := List.filter_eq_self.2 (by simpa using hall)
      by_cases hw : w = dflt a
      · simpa only [cellSet, hw, if_true, hf] using ht
      · simp only [cellSet, hw, if_true, if_false]
        exact (cellsWf_cons dflt a w t).2 ⟨hw, hall, ht⟩
    · by_cases hlt : a < k
      · by_cases hw : w = dflt a
        · simpa only [cellSet, hak, hlt, hw, if_true, if_false] using h
        · simp only [cellSet, hak, hlt, hw, if_true, if_false]
          refine (cellsWf_cons dflt a w _).2 ⟨hw, ?_, h⟩
          intro x hx
          rcases List.mem_cons.1 hx with rfl | hx
          · exact hlt
          · exact Nat.lt_trans hlt (hall x hx)
      · simp only [cellSet, hak, hlt, if_false]
        refine (cellsWf_cons dflt k v _).2 ⟨hv, ?_, ih ht⟩
        intro x hx
        rcases cellSet_mem dflt t a w x hx with h | h
        · exact hall x h
        · omega

end Cells

/-- A register reads the word last written to it; every other register reads as before. -/
theorem regGet_regSet (l : List (Nat × Word)) (a b : Nat) (w : Word) :
    regGet (regSet l a w) b = if b = a then w else regGet l b := cellGet_cellSet resetWord l a b w

/-- Every write keeps the register file's canonical form. -/
theorem regsWf_regSet (l : List (Nat × Word)) (a : Nat) (w : Word) (h : regsWf l = true) :
    regsWf (regSet l a w) = true := cellsWf_cellSet resetWord l a w h

/-- A byte reads as last written; every other byte reads as before. -/
theorem memGet_memSet (l : List (Nat × Byte)) (a b : Nat) (w : Byte) :
    memGet (memSet l a w) b = if b = a then w else memGet l b := cellGet_cellSet emptyByte l a b w

/-- Every write keeps a buffer's canonical form. -/
theorem memWf_memSet (l : List (Nat × Byte)) (a : Nat) (w : Byte) (h : memWf l = true) :
    memWf (memSet l a w) = true := cellsWf_cellSet emptyByte l a w h

/-- Writing a run of bytes keeps a buffer's canonical form. -/
theorem memWf_memWrite (bs : List Byte) : ∀ (l : List (Nat × Byte)) (a : Nat), memWf l = true →
    memWf (memWrite l a bs) = true := by
  induction bs with
  | nil => intro l a h; simpa [memWrite] using h
  | cons b bs ih => intro l a h; exact memWf_memSet _ _ _ (ih l (a + 1) h)

/-- A byte outside the written run reads as before. -/
theorem memGet_memWrite_apart (bs : List Byte) : ∀ (l : List (Nat × Byte)) (a b : Nat),
    b < a ∨ a + bs.length ≤ b → memGet (memWrite l a bs) b = memGet l b := by
  induction bs with
  | nil => intro l a b _; rfl
  | cons x bs ih =>
    intro l a b h
    simp only [List.length_cons] at h
    have h1 : b ≠ a := by omega
    have h2 : b < a + 1 ∨ a + 1 + bs.length ≤ b := by omega
    simp [memWrite, memGet_memSet, h1, ih l (a + 1) b h2]

end Sys2Proof.Machine
end

