-- ==== Sys2Proof/Laws/State.lean ====
section
/-!
SUPPORT. What each named update of the state changes, and that it changes nothing else: one lemma per field per
update.
-/
namespace Sys2Proof.Machine

@[simp] theorem onDev_dev (s : State) (f : Dev → Dev) : (s.onDev f).dev = f s.dev := rfl
@[simp] theorem onDev_pending (s : State) (f : Dev → Dev) : (s.onDev f).pending = s.pending := rfl
@[simp] theorem onDev_onDev (s : State) (f g : Dev → Dev) : (s.onDev f).onDev g = s.onDev (fun d => g (f d)) := rfl

section
variable (d : Dev) (a : Nat) (w : Word)

@[simp] theorem wr_clk : (d.wr a w).clk = d.clk := rfl
@[simp] theorem wr_free : (d.wr a w).free = d.free := rfl
@[simp] theorem wr_regs : (d.wr a w).regs = regSet d.regs a w := rfl
@[simp] theorem wr_wb : (d.wr a w).wb = d.wb := rfl
@[simp] theorem wr_gate : (d.wr a w).gate = d.gate := rfl
@[simp] theorem wr_pulse : (d.wr a w).pulse = d.pulse := rfl
@[simp] theorem wr_queues : (d.wr a w).queues = d.queues := rfl
@[simp] theorem wr_image : (d.wr a w).image = d.image := rfl
@[simp] theorem wr_turn : (d.wr a w).turn = d.turn := rfl
@[simp] theorem wr_jrn : (d.wr a w).jrn = d.jrn := rfl
@[simp] theorem wr_host : (d.wr a w).host = d.host := rfl
@[simp] theorem wr_vault : (d.wr a w).vault = d.vault := rfl
@[simp] theorem wr_phs : (d.wr a w).phs = d.phs := rfl
@[simp] theorem wr_qch : (d.wr a w).qch = d.qch := rfl
@[simp] theorem wr_uin : (d.wr a w).uin = d.uin := rfl
@[simp] theorem wr_xch : (d.wr a w).xch = d.xch := rfl
@[simp] theorem wr_lop : (d.wr a w).lop = d.lop := rfl
@[simp] theorem wr_dio : (d.wr a w).dio = d.dio := rfl
@[simp] theorem wr_can : (d.wr a w).can = d.can := rfl
@[simp] theorem wr_pair : (d.wr a w).pair = d.pair := rfl
@[simp] theorem wr_wtc : (d.wr a w).wtc = d.wtc := rfl
@[simp] theorem wr_dom : (d.wr a w).dom = d.dom := rfl
@[simp] theorem wr_pnl : (d.wr a w).pnl = d.pnl := rfl
@[simp] theorem wr_pwr : (d.wr a w).pwr = d.pwr := rfl
@[simp] theorem wr_queue (r : Nat) : (d.wr a w).queue r = d.queue r := rfl

end

section
variable (d : Dev) (q : Nat) (l : List QElem)

@[simp] theorem setQueue_clk : (d.setQueue q l).clk = d.clk := rfl
@[simp] theorem setQueue_free : (d.setQueue q l).free = d.free := rfl
@[simp] theorem setQueue_regs : (d.setQueue q l).regs = d.regs := rfl
@[simp] theorem setQueue_wb : (d.setQueue q l).wb = d.wb := rfl
@[simp] theorem setQueue_gate : (d.setQueue q l).gate = d.gate := rfl
@[simp] theorem setQueue_pulse : (d.setQueue q l).pulse = d.pulse := rfl
@[simp] theorem setQueue_queues : (d.setQueue q l).queues = { d.queues with q := upd d.queues.q q (fun _ => l) } := rfl
@[simp] theorem setQueue_image : (d.setQueue q l).image = d.image := rfl
@[simp] theorem setQueue_turn : (d.setQueue q l).turn = d.turn := rfl
@[simp] theorem setQueue_jrn : (d.setQueue q l).jrn = d.jrn := rfl
@[simp] theorem setQueue_host : (d.setQueue q l).host = d.host := rfl
@[simp] theorem setQueue_vault : (d.setQueue q l).vault = d.vault := rfl
@[simp] theorem setQueue_phs : (d.setQueue q l).phs = d.phs := rfl
@[simp] theorem setQueue_qch : (d.setQueue q l).qch = d.qch := rfl
@[simp] theorem setQueue_uin : (d.setQueue q l).uin = d.uin := rfl
@[simp] theorem setQueue_xch : (d.setQueue q l).xch = d.xch := rfl
@[simp] theorem setQueue_lop : (d.setQueue q l).lop = d.lop := rfl
@[simp] theorem setQueue_dio : (d.setQueue q l).dio = d.dio := rfl
@[simp] theorem setQueue_can : (d.setQueue q l).can = d.can := rfl
@[simp] theorem setQueue_pair : (d.setQueue q l).pair = d.pair := rfl
@[simp] theorem setQueue_wtc : (d.setQueue q l).wtc = d.wtc := rfl
@[simp] theorem setQueue_dom : (d.setQueue q l).dom = d.dom := rfl
@[simp] theorem setQueue_pnl : (d.setQueue q l).pnl = d.pnl := rfl
@[simp] theorem setQueue_pwr : (d.setQueue q l).pwr = d.pwr := rfl
@[simp] theorem setQueue_rd (r : Nat) : (d.setQueue q l).rd r = d.rd r := rfl
@[simp] theorem setQueue_rdF (r : Nat) (g : Field) : (d.setQueue q l).rdF r g = d.rdF r g := rfl

end

section
variable (d : Dev) (f : Turn → Turn)

@[simp] theorem setTurn_clk : (d.setTurn f).clk = d.clk := rfl
@[simp] theorem setTurn_free : (d.setTurn f).free = d.free := rfl
@[simp] theorem setTurn_regs : (d.setTurn f).regs = d.regs := rfl
@[simp] theorem setTurn_wb : (d.setTurn f).wb = d.wb := rfl
@[simp] theorem setTurn_gate : (d.setTurn f).gate = d.gate := rfl
@[simp] theorem setTurn_pulse : (d.setTurn f).pulse = d.pulse := rfl
@[simp] theorem setTurn_queues : (d.setTurn f).queues = d.queues := rfl
@[simp] theorem setTurn_image : (d.setTurn f).image = d.image := rfl
@[simp] theorem setTurn_turn : (d.setTurn f).turn = f d.turn := rfl
@[simp] theorem setTurn_jrn : (d.setTurn f).jrn = d.jrn := rfl
@[simp] theorem setTurn_host : (d.setTurn f).host = d.host := rfl
@[simp] theorem setTurn_vault : (d.setTurn f).vault = d.vault := rfl
@[simp] theorem setTurn_phs : (d.setTurn f).phs = d.phs := rfl
@[simp] theorem setTurn_qch : (d.setTurn f).qch = d.qch := rfl
@[simp] theorem setTurn_uin : (d.setTurn f).uin = d.uin := rfl
@[simp] theorem setTurn_xch : (d.setTurn f).xch = d.xch := rfl
@[simp] theorem setTurn_lop : (d.setTurn f).lop = d.lop := rfl
@[simp] theorem setTurn_dio : (d.setTurn f).dio = d.dio := rfl
@[simp] theorem setTurn_can : (d.setTurn f).can = d.can := rfl
@[simp] theorem setTurn_pair : (d.setTurn f).pair = d.pair := rfl
@[simp] theorem setTurn_wtc : (d.setTurn f).wtc = d.wtc := rfl
@[simp] theorem setTurn_dom : (d.setTurn f).dom = d.dom := rfl
@[simp] theorem setTurn_pnl : (d.setTurn f).pnl = d.pnl := rfl
@[simp] theorem setTurn_pwr : (d.setTurn f).pwr = d.pwr := rfl
@[simp] theorem setTurn_rd (r : Nat) : (d.setTurn f).rd r = d.rd r := rfl
@[simp] theorem setTurn_rdF (r : Nat) (g : Field) : (d.setTurn f).rdF r g = d.rdF r g := rfl
@[simp] theorem setTurn_queue (r : Nat) : (d.setTurn f).queue r = d.queue r := rfl

end

section
variable (d : Dev) (f : Journal → Journal)

@[simp] theorem setJrn_clk : (d.setJrn f).clk = d.clk := rfl
@[simp] theorem setJrn_free : (d.setJrn f).free = d.free := rfl
@[simp] theorem setJrn_regs : (d.setJrn f).regs = d.regs := rfl
@[simp] theorem setJrn_wb : (d.setJrn f).wb = d.wb := rfl
@[simp] theorem setJrn_gate : (d.setJrn f).gate = d.gate := rfl
@[simp] theorem setJrn_pulse : (d.setJrn f).pulse = d.pulse := rfl
@[simp] theorem setJrn_queues : (d.setJrn f).queues = d.queues := rfl
@[simp] theorem setJrn_image : (d.setJrn f).image = d.image := rfl
@[simp] theorem setJrn_turn : (d.setJrn f).turn = d.turn := rfl
@[simp] theorem setJrn_jrn : (d.setJrn f).jrn = f d.jrn := rfl
@[simp] theorem setJrn_host : (d.setJrn f).host = d.host := rfl
@[simp] theorem setJrn_vault : (d.setJrn f).vault = d.vault := rfl
@[simp] theorem setJrn_phs : (d.setJrn f).phs = d.phs := rfl
@[simp] theorem setJrn_qch : (d.setJrn f).qch = d.qch := rfl
@[simp] theorem setJrn_uin : (d.setJrn f).uin = d.uin := rfl
@[simp] theorem setJrn_xch : (d.setJrn f).xch = d.xch := rfl
@[simp] theorem setJrn_lop : (d.setJrn f).lop = d.lop := rfl
@[simp] theorem setJrn_dio : (d.setJrn f).dio = d.dio := rfl
@[simp] theorem setJrn_can : (d.setJrn f).can = d.can := rfl
@[simp] theorem setJrn_pair : (d.setJrn f).pair = d.pair := rfl
@[simp] theorem setJrn_wtc : (d.setJrn f).wtc = d.wtc := rfl
@[simp] theorem setJrn_dom : (d.setJrn f).dom = d.dom := rfl
@[simp] theorem setJrn_pnl : (d.setJrn f).pnl = d.pnl := rfl
@[simp] theorem setJrn_pwr : (d.setJrn f).pwr = d.pwr := rfl
@[simp] theorem setJrn_rd (r : Nat) : (d.setJrn f).rd r = d.rd r := rfl
@[simp] theorem setJrn_rdF (r : Nat) (g : Field) : (d.setJrn f).rdF r g = d.rdF r g := rfl
@[simp] theorem setJrn_queue (r : Nat) : (d.setJrn f).queue r = d.queue r := rfl

end

section
variable (d : Dev) (f : HostPort → HostPort)

@[simp] theorem setHost_clk : (d.setHost f).clk = d.clk := rfl
@[simp] theorem setHost_free : (d.setHost f).free = d.free := rfl
@[simp] theorem setHost_regs : (d.setHost f).regs = d.regs := rfl
@[simp] theorem setHost_wb : (d.setHost f).wb = d.wb := rfl
@[simp] theorem setHost_gate : (d.setHost f).gate = d.gate := rfl
@[simp] theorem setHost_pulse : (d.setHost f).pulse = d.pulse := rfl
@[simp] theorem setHost_queues : (d.setHost f).queues = d.queues := rfl
@[simp] theorem setHost_image : (d.setHost f).image = d.image := rfl
@[simp] theorem setHost_turn : (d.setHost f).turn = d.turn := rfl
@[simp] theorem setHost_jrn : (d.setHost f).jrn = d.jrn := rfl
@[simp] theorem setHost_host : (d.setHost f).host = f d.host := rfl
@[simp] theorem setHost_vault : (d.setHost f).vault = d.vault := rfl
@[simp] theorem setHost_phs : (d.setHost f).phs = d.phs := rfl
@[simp] theorem setHost_qch : (d.setHost f).qch = d.qch := rfl
@[simp] theorem setHost_uin : (d.setHost f).uin = d.uin := rfl
@[simp] theorem setHost_xch : (d.setHost f).xch = d.xch := rfl
@[simp] theorem setHost_lop : (d.setHost f).lop = d.lop := rfl
@[simp] theorem setHost_dio : (d.setHost f).dio = d.dio := rfl
@[simp] theorem setHost_can : (d.setHost f).can = d.can := rfl
@[simp] theorem setHost_pair : (d.setHost f).pair = d.pair := rfl
@[simp] theorem setHost_wtc : (d.setHost f).wtc = d.wtc := rfl
@[simp] theorem setHost_dom : (d.setHost f).dom = d.dom := rfl
@[simp] theorem setHost_pnl : (d.setHost f).pnl = d.pnl := rfl
@[simp] theorem setHost_pwr : (d.setHost f).pwr = d.pwr := rfl
@[simp] theorem setHost_rd (r : Nat) : (d.setHost f).rd r = d.rd r := rfl
@[simp] theorem setHost_rdF (r : Nat) (g : Field) : (d.setHost f).rdF r g = d.rdF r g := rfl
@[simp] theorem setHost_queue (r : Nat) : (d.setHost f).queue r = d.queue r := rfl

end

section
variable (d : Dev) (f : Vault → Vault)

@[simp] theorem setVault_clk : (d.setVault f).clk = d.clk := rfl
@[simp] theorem setVault_free : (d.setVault f).free = d.free := rfl
@[simp] theorem setVault_regs : (d.setVault f).regs = d.regs := rfl
@[simp] theorem setVault_wb : (d.setVault f).wb = d.wb := rfl
@[simp] theorem setVault_gate : (d.setVault f).gate = d.gate := rfl
@[simp] theorem setVault_pulse : (d.setVault f).pulse = d.pulse := rfl
@[simp] theorem setVault_queues : (d.setVault f).queues = d.queues := rfl
@[simp] theorem setVault_image : (d.setVault f).image = d.image := rfl
@[simp] theorem setVault_turn : (d.setVault f).turn = d.turn := rfl
@[simp] theorem setVault_jrn : (d.setVault f).jrn = d.jrn := rfl
@[simp] theorem setVault_host : (d.setVault f).host = d.host := rfl
@[simp] theorem setVault_vault : (d.setVault f).vault = f d.vault := rfl
@[simp] theorem setVault_phs : (d.setVault f).phs = d.phs := rfl
@[simp] theorem setVault_qch : (d.setVault f).qch = d.qch := rfl
@[simp] theorem setVault_uin : (d.setVault f).uin = d.uin := rfl
@[simp] theorem setVault_xch : (d.setVault f).xch = d.xch := rfl
@[simp] theorem setVault_lop : (d.setVault f).lop = d.lop := rfl
@[simp] theorem setVault_dio : (d.setVault f).dio = d.dio := rfl
@[simp] theorem setVault_can : (d.setVault f).can = d.can := rfl
@[simp] theorem setVault_pair : (d.setVault f).pair = d.pair := rfl
@[simp] theorem setVault_wtc : (d.setVault f).wtc = d.wtc := rfl
@[simp] theorem setVault_dom : (d.setVault f).dom = d.dom := rfl
@[simp] theorem setVault_pnl : (d.setVault f).pnl = d.pnl := rfl
@[simp] theorem setVault_pwr : (d.setVault f).pwr = d.pwr := rfl
@[simp] theorem setVault_rd (r : Nat) : (d.setVault f).rd r = d.rd r := rfl
@[simp] theorem setVault_rdF (r : Nat) (g : Field) : (d.setVault f).rdF r g = d.rdF r g := rfl
@[simp] theorem setVault_queue (r : Nat) : (d.setVault f).queue r = d.queue r := rfl

end

section
variable (d : Dev) (b : Nat) (x : Base)

@[simp] theorem setBase_clk : (d.setBase b x).clk = d.clk := rfl
@[simp] theorem setBase_free : (d.setBase b x).free = d.free := rfl
@[simp] theorem setBase_regs : (d.setBase b x).regs = d.regs := rfl
@[simp] theorem setBase_wb : (d.setBase b x).wb = d.wb := rfl
@[simp] theorem setBase_gate : (d.setBase b x).gate = d.gate := rfl
@[simp] theorem setBase_pulse : (d.setBase b x).pulse = d.pulse := rfl
@[simp] theorem setBase_queues : (d.setBase b x).queues = d.queues := rfl
@[simp] theorem setBase_image : (d.setBase b x).image = d.image := rfl
@[simp] theorem setBase_turn : (d.setBase b x).turn = d.turn := rfl
@[simp] theorem setBase_jrn : (d.setBase b x).jrn = d.jrn := rfl
@[simp] theorem setBase_host : (d.setBase b x).host = d.host := rfl
@[simp] theorem setBase_vault : (d.setBase b x).vault = d.vault := rfl
@[simp] theorem setBase_phs : (d.setBase b x).phs = { d.phs with bases := upd d.phs.bases (b - 1) (fun _ => x) } := rfl
@[simp] theorem setBase_qch : (d.setBase b x).qch = d.qch := rfl
@[simp] theorem setBase_uin : (d.setBase b x).uin = d.uin := rfl
@[simp] theorem setBase_xch : (d.setBase b x).xch = d.xch := rfl
@[simp] theorem setBase_lop : (d.setBase b x).lop = d.lop := rfl
@[simp] theorem setBase_dio : (d.setBase b x).dio = d.dio := rfl
@[simp] theorem setBase_can : (d.setBase b x).can = d.can := rfl
@[simp] theorem setBase_pair : (d.setBase b x).pair = d.pair := rfl
@[simp] theorem setBase_wtc : (d.setBase b x).wtc = d.wtc := rfl
@[simp] theorem setBase_dom : (d.setBase b x).dom = d.dom := rfl
@[simp] theorem setBase_pnl : (d.setBase b x).pnl = d.pnl := rfl
@[simp] theorem setBase_pwr : (d.setBase b x).pwr = d.pwr := rfl
@[simp] theorem setBase_rd (r : Nat) : (d.setBase b x).rd r = d.rd r := rfl
@[simp] theorem setBase_rdF (r : Nat) (g : Field) : (d.setBase b x).rdF r g = d.rdF r g := rfl
@[simp] theorem setBase_queue (r : Nat) : (d.setBase b x).queue r = d.queue r := rfl

end

section
variable (d : Dev) (n : Nat) (f : QChan → QChan)

@[simp] theorem setQc_clk : (d.setQc n f).clk = d.clk := rfl
@[simp] theorem setQc_free : (d.setQc n f).free = d.free := rfl
@[simp] theorem setQc_regs : (d.setQc n f).regs = d.regs := rfl
@[simp] theorem setQc_wb : (d.setQc n f).wb = d.wb := rfl
@[simp] theorem setQc_gate : (d.setQc n f).gate = d.gate := rfl
@[simp] theorem setQc_pulse : (d.setQc n f).pulse = d.pulse := rfl
@[simp] theorem setQc_queues : (d.setQc n f).queues = d.queues := rfl
@[simp] theorem setQc_image : (d.setQc n f).image = d.image := rfl
@[simp] theorem setQc_turn : (d.setQc n f).turn = d.turn := rfl
@[simp] theorem setQc_jrn : (d.setQc n f).jrn = d.jrn := rfl
@[simp] theorem setQc_host : (d.setQc n f).host = d.host := rfl
@[simp] theorem setQc_vault : (d.setQc n f).vault = d.vault := rfl
@[simp] theorem setQc_phs : (d.setQc n f).phs = d.phs := rfl
@[simp] theorem setQc_qch : (d.setQc n f).qch = { d.qch with chans := upd d.qch.chans n f } := rfl
@[simp] theorem setQc_uin : (d.setQc n f).uin = d.uin := rfl
@[simp] theorem setQc_xch : (d.setQc n f).xch = d.xch := rfl
@[simp] theorem setQc_lop : (d.setQc n f).lop = d.lop := rfl
@[simp] theorem setQc_dio : (d.setQc n f).dio = d.dio := rfl
@[simp] theorem setQc_can : (d.setQc n f).can = d.can := rfl
@[simp] theorem setQc_pair : (d.setQc n f).pair = d.pair := rfl
@[simp] theorem setQc_wtc : (d.setQc n f).wtc = d.wtc := rfl
@[simp] theorem setQc_dom : (d.setQc n f).dom = d.dom := rfl
@[simp] theorem setQc_pnl : (d.setQc n f).pnl = d.pnl := rfl
@[simp] theorem setQc_pwr : (d.setQc n f).pwr = d.pwr := rfl
@[simp] theorem setQc_rd (r : Nat) : (d.setQc n f).rd r = d.rd r := rfl
@[simp] theorem setQc_rdF (r : Nat) (g : Field) : (d.setQc n f).rdF r g = d.rdF r g := rfl
@[simp] theorem setQc_queue (r : Nat) : (d.setQc n f).queue r = d.queue r := rfl

end

section
variable (d : Dev) (n : Nat) (f : UChan → UChan)

@[simp] theorem setUch_clk : (d.setUch n f).clk = d.clk := rfl
@[simp] theorem setUch_free : (d.setUch n f).free = d.free := rfl
@[simp] theorem setUch_regs : (d.setUch n f).regs = d.regs := rfl
@[simp] theorem setUch_wb : (d.setUch n f).wb = d.wb := rfl
@[simp] theorem setUch_gate : (d.setUch n f).gate = d.gate := rfl
@[simp] theorem setUch_pulse : (d.setUch n f).pulse = d.pulse := rfl
@[simp] theorem setUch_queues : (d.setUch n f).queues = d.queues := rfl
@[simp] theorem setUch_image : (d.setUch n f).image = d.image := rfl
@[simp] theorem setUch_turn : (d.setUch n f).turn = d.turn := rfl
@[simp] theorem setUch_jrn : (d.setUch n f).jrn = d.jrn := rfl
@[simp] theorem setUch_host : (d.setUch n f).host = d.host := rfl
@[simp] theorem setUch_vault : (d.setUch n f).vault = d.vault := rfl
@[simp] theorem setUch_phs : (d.setUch n f).phs = d.phs := rfl
@[simp] theorem setUch_qch : (d.setUch n f).qch = d.qch := rfl
@[simp] theorem setUch_uin : (d.setUch n f).uin = { d.uin with chans := upd d.uin.chans n f } := rfl
@[simp] theorem setUch_xch : (d.setUch n f).xch = d.xch := rfl
@[simp] theorem setUch_lop : (d.setUch n f).lop = d.lop := rfl
@[simp] theorem setUch_dio : (d.setUch n f).dio = d.dio := rfl
@[simp] theorem setUch_can : (d.setUch n f).can = d.can := rfl
@[simp] theorem setUch_pair : (d.setUch n f).pair = d.pair := rfl
@[simp] theorem setUch_wtc : (d.setUch n f).wtc = d.wtc := rfl
@[simp] theorem setUch_dom : (d.setUch n f).dom = d.dom := rfl
@[simp] theorem setUch_pnl : (d.setUch n f).pnl = d.pnl := rfl
@[simp] theorem setUch_pwr : (d.setUch n f).pwr = d.pwr := rfl
@[simp] theorem setUch_rd (r : Nat) : (d.setUch n f).rd r = d.rd r := rfl
@[simp] theorem setUch_rdF (r : Nat) (g : Field) : (d.setUch n f).rdF r g = d.rdF r g := rfl
@[simp] theorem setUch_queue (r : Nat) : (d.setUch n f).queue r = d.queue r := rfl

end

section
variable (d : Dev) (n : Nat) (f : XChan → XChan)

@[simp] theorem setXc_clk : (d.setXc n f).clk = d.clk := rfl
@[simp] theorem setXc_free : (d.setXc n f).free = d.free := rfl
@[simp] theorem setXc_regs : (d.setXc n f).regs = d.regs := rfl
@[simp] theorem setXc_wb : (d.setXc n f).wb = d.wb := rfl
@[simp] theorem setXc_gate : (d.setXc n f).gate = d.gate := rfl
@[simp] theorem setXc_pulse : (d.setXc n f).pulse = d.pulse := rfl
@[simp] theorem setXc_queues : (d.setXc n f).queues = d.queues := rfl
@[simp] theorem setXc_image : (d.setXc n f).image = d.image := rfl
@[simp] theorem setXc_turn : (d.setXc n f).turn = d.turn := rfl
@[simp] theorem setXc_jrn : (d.setXc n f).jrn = d.jrn := rfl
@[simp] theorem setXc_host : (d.setXc n f).host = d.host := rfl
@[simp] theorem setXc_vault : (d.setXc n f).vault = d.vault := rfl
@[simp] theorem setXc_phs : (d.setXc n f).phs = d.phs := rfl
@[simp] theorem setXc_qch : (d.setXc n f).qch = d.qch := rfl
@[simp] theorem setXc_uin : (d.setXc n f).uin = d.uin := rfl
@[simp] theorem setXc_xch : (d.setXc n f).xch = upd d.xch n f := rfl
@[simp] theorem setXc_lop : (d.setXc n f).lop = d.lop := rfl
@[simp] theorem setXc_dio : (d.setXc n f).dio = d.dio := rfl
@[simp] theorem setXc_can : (d.setXc n f).can = d.can := rfl
@[simp] theorem setXc_pair : (d.setXc n f).pair = d.pair := rfl
@[simp] theorem setXc_wtc : (d.setXc n f).wtc = d.wtc := rfl
@[simp] theorem setXc_dom : (d.setXc n f).dom = d.dom := rfl
@[simp] theorem setXc_pnl : (d.setXc n f).pnl = d.pnl := rfl
@[simp] theorem setXc_pwr : (d.setXc n f).pwr = d.pwr := rfl
@[simp] theorem setXc_rd (r : Nat) : (d.setXc n f).rd r = d.rd r := rfl
@[simp] theorem setXc_rdF (r : Nat) (g : Field) : (d.setXc n f).rdF r g = d.rdF r g := rfl
@[simp] theorem setXc_queue (r : Nat) : (d.setXc n f).queue r = d.queue r := rfl

end

section
variable (d : Dev) (n : Nat) (f : LoopIn → LoopIn)

@[simp] theorem setLi_clk : (d.setLi n f).clk = d.clk := rfl
@[simp] theorem setLi_free : (d.setLi n f).free = d.free := rfl
@[simp] theorem setLi_regs : (d.setLi n f).regs = d.regs := rfl
@[simp] theorem setLi_wb : (d.setLi n f).wb = d.wb := rfl
@[simp] theorem setLi_gate : (d.setLi n f).gate = d.gate := rfl
@[simp] theorem setLi_pulse : (d.setLi n f).pulse = d.pulse := rfl
@[simp] theorem setLi_queues : (d.setLi n f).queues = d.queues := rfl
@[simp] theorem setLi_image : (d.setLi n f).image = d.image := rfl
@[simp] theorem setLi_turn : (d.setLi n f).turn = d.turn := rfl
@[simp] theorem setLi_jrn : (d.setLi n f).jrn = d.jrn := rfl
@[simp] theorem setLi_host : (d.setLi n f).host = d.host := rfl
@[simp] theorem setLi_vault : (d.setLi n f).vault = d.vault := rfl
@[simp] theorem setLi_phs : (d.setLi n f).phs = d.phs := rfl
@[simp] theorem setLi_qch : (d.setLi n f).qch = d.qch := rfl
@[simp] theorem setLi_uin : (d.setLi n f).uin = d.uin := rfl
@[simp] theorem setLi_xch : (d.setLi n f).xch = d.xch := rfl
@[simp] theorem setLi_lop : (d.setLi n f).lop = { d.lop with ins := upd d.lop.ins n f } := rfl
@[simp] theorem setLi_dio : (d.setLi n f).dio = d.dio := rfl
@[simp] theorem setLi_can : (d.setLi n f).can = d.can := rfl
@[simp] theorem setLi_pair : (d.setLi n f).pair = d.pair := rfl
@[simp] theorem setLi_wtc : (d.setLi n f).wtc = d.wtc := rfl
@[simp] theorem setLi_dom : (d.setLi n f).dom = d.dom := rfl
@[simp] theorem setLi_pnl : (d.setLi n f).pnl = d.pnl := rfl
@[simp] theorem setLi_pwr : (d.setLi n f).pwr = d.pwr := rfl
@[simp] theorem setLi_rd (r : Nat) : (d.setLi n f).rd r = d.rd r := rfl
@[simp] theorem setLi_rdF (r : Nat) (g : Field) : (d.setLi n f).rdF r g = d.rdF r g := rfl
@[simp] theorem setLi_queue (r : Nat) : (d.setLi n f).queue r = d.queue r := rfl

end

section
variable (d : Dev) (n : Nat) (f : LoopOut → LoopOut)

@[simp] theorem setLo_clk : (d.setLo n f).clk = d.clk := rfl
@[simp] theorem setLo_free : (d.setLo n f).free = d.free := rfl
@[simp] theorem setLo_regs : (d.setLo n f).regs = d.regs := rfl
@[simp] theorem setLo_wb : (d.setLo n f).wb = d.wb := rfl
@[simp] theorem setLo_gate : (d.setLo n f).gate = d.gate := rfl
@[simp] theorem setLo_pulse : (d.setLo n f).pulse = d.pulse := rfl
@[simp] theorem setLo_queues : (d.setLo n f).queues = d.queues := rfl
@[simp] theorem setLo_image : (d.setLo n f).image = d.image := rfl
@[simp] theorem setLo_turn : (d.setLo n f).turn = d.turn := rfl
@[simp] theorem setLo_jrn : (d.setLo n f).jrn = d.jrn := rfl
@[simp] theorem setLo_host : (d.setLo n f).host = d.host := rfl
@[simp] theorem setLo_vault : (d.setLo n f).vault = d.vault := rfl
@[simp] theorem setLo_phs : (d.setLo n f).phs = d.phs := rfl
@[simp] theorem setLo_qch : (d.setLo n f).qch = d.qch := rfl
@[simp] theorem setLo_uin : (d.setLo n f).uin = d.uin := rfl
@[simp] theorem setLo_xch : (d.setLo n f).xch = d.xch := rfl
@[simp] theorem setLo_lop : (d.setLo n f).lop = { d.lop with outs := upd d.lop.outs n f } := rfl
@[simp] theorem setLo_dio : (d.setLo n f).dio = d.dio := rfl
@[simp] theorem setLo_can : (d.setLo n f).can = d.can := rfl
@[simp] theorem setLo_pair : (d.setLo n f).pair = d.pair := rfl
@[simp] theorem setLo_wtc : (d.setLo n f).wtc = d.wtc := rfl
@[simp] theorem setLo_dom : (d.setLo n f).dom = d.dom := rfl
@[simp] theorem setLo_pnl : (d.setLo n f).pnl = d.pnl := rfl
@[simp] theorem setLo_pwr : (d.setLo n f).pwr = d.pwr := rfl
@[simp] theorem setLo_rd (r : Nat) : (d.setLo n f).rd r = d.rd r := rfl
@[simp] theorem setLo_rdF (r : Nat) (g : Field) : (d.setLo n f).rdF r g = d.rdF r g := rfl
@[simp] theorem setLo_queue (r : Nat) : (d.setLo n f).queue r = d.queue r := rfl

end

section
variable (d : Dev) (f : Contacts → Contacts)

@[simp] theorem setDio_clk : (d.setDio f).clk = d.clk := rfl
@[simp] theorem setDio_free : (d.setDio f).free = d.free := rfl
@[simp] theorem setDio_regs : (d.setDio f).regs = d.regs := rfl
@[simp] theorem setDio_wb : (d.setDio f).wb = d.wb := rfl
@[simp] theorem setDio_gate : (d.setDio f).gate = d.gate := rfl
@[simp] theorem setDio_pulse : (d.setDio f).pulse = d.pulse := rfl
@[simp] theorem setDio_queues : (d.setDio f).queues = d.queues := rfl
@[simp] theorem setDio_image : (d.setDio f).image = d.image := rfl
@[simp] theorem setDio_turn : (d.setDio f).turn = d.turn := rfl
@[simp] theorem setDio_jrn : (d.setDio f).jrn = d.jrn := rfl
@[simp] theorem setDio_host : (d.setDio f).host = d.host := rfl
@[simp] theorem setDio_vault : (d.setDio f).vault = d.vault := rfl
@[simp] theorem setDio_phs : (d.setDio f).phs = d.phs := rfl
@[simp] theorem setDio_qch : (d.setDio f).qch = d.qch := rfl
@[simp] theorem setDio_uin : (d.setDio f).uin = d.uin := rfl
@[simp] theorem setDio_xch : (d.setDio f).xch = d.xch := rfl
@[simp] theorem setDio_lop : (d.setDio f).lop = d.lop := rfl
@[simp] theorem setDio_dio : (d.setDio f).dio = f d.dio := rfl
@[simp] theorem setDio_can : (d.setDio f).can = d.can := rfl
@[simp] theorem setDio_pair : (d.setDio f).pair = d.pair := rfl
@[simp] theorem setDio_wtc : (d.setDio f).wtc = d.wtc := rfl
@[simp] theorem setDio_dom : (d.setDio f).dom = d.dom := rfl
@[simp] theorem setDio_pnl : (d.setDio f).pnl = d.pnl := rfl
@[simp] theorem setDio_pwr : (d.setDio f).pwr = d.pwr := rfl
@[simp] theorem setDio_rd (r : Nat) : (d.setDio f).rd r = d.rd r := rfl
@[simp] theorem setDio_rdF (r : Nat) (g : Field) : (d.setDio f).rdF r g = d.rdF r g := rfl
@[simp] theorem setDio_queue (r : Nat) : (d.setDio f).queue r = d.queue r := rfl

end

section
variable (d : Dev) (f : Can → Can)

@[simp] theorem setCan_clk : (d.setCan f).clk = d.clk := rfl
@[simp] theorem setCan_free : (d.setCan f).free = d.free := rfl
@[simp] theorem setCan_regs : (d.setCan f).regs = d.regs := rfl
@[simp] theorem setCan_wb : (d.setCan f).wb = d.wb := rfl
@[simp] theorem setCan_gate : (d.setCan f).gate = d.gate := rfl
@[simp] theorem setCan_pulse : (d.setCan f).pulse = d.pulse := rfl
@[simp] theorem setCan_queues : (d.setCan f).queues = d.queues := rfl
@[simp] theorem setCan_image : (d.setCan f).image = d.image := rfl
@[simp] theorem setCan_turn : (d.setCan f).turn = d.turn := rfl
@[simp] theorem setCan_jrn : (d.setCan f).jrn = d.jrn := rfl
@[simp] theorem setCan_host : (d.setCan f).host = d.host := rfl
@[simp] theorem setCan_vault : (d.setCan f).vault = d.vault := rfl
@[simp] theorem setCan_phs : (d.setCan f).phs = d.phs := rfl
@[simp] theorem setCan_qch : (d.setCan f).qch = d.qch := rfl
@[simp] theorem setCan_uin : (d.setCan f).uin = d.uin := rfl
@[simp] theorem setCan_xch : (d.setCan f).xch = d.xch := rfl
@[simp] theorem setCan_lop : (d.setCan f).lop = d.lop := rfl
@[simp] theorem setCan_dio : (d.setCan f).dio = d.dio := rfl
@[simp] theorem setCan_can : (d.setCan f).can = f d.can := rfl
@[simp] theorem setCan_pair : (d.setCan f).pair = d.pair := rfl
@[simp] theorem setCan_wtc : (d.setCan f).wtc = d.wtc := rfl
@[simp] theorem setCan_dom : (d.setCan f).dom = d.dom := rfl
@[simp] theorem setCan_pnl : (d.setCan f).pnl = d.pnl := rfl
@[simp] theorem setCan_pwr : (d.setCan f).pwr = d.pwr := rfl
@[simp] theorem setCan_rd (r : Nat) : (d.setCan f).rd r = d.rd r := rfl
@[simp] theorem setCan_rdF (r : Nat) (g : Field) : (d.setCan f).rdF r g = d.rdF r g := rfl
@[simp] theorem setCan_queue (r : Nat) : (d.setCan f).queue r = d.queue r := rfl

end

section
variable (d : Dev) (f : Pair → Pair)

@[simp] theorem setPair_clk : (d.setPair f).clk = d.clk := rfl
@[simp] theorem setPair_free : (d.setPair f).free = d.free := rfl
@[simp] theorem setPair_regs : (d.setPair f).regs = d.regs := rfl
@[simp] theorem setPair_wb : (d.setPair f).wb = d.wb := rfl
@[simp] theorem setPair_gate : (d.setPair f).gate = d.gate := rfl
@[simp] theorem setPair_pulse : (d.setPair f).pulse = d.pulse := rfl
@[simp] theorem setPair_queues : (d.setPair f).queues = d.queues := rfl
@[simp] theorem setPair_image : (d.setPair f).image = d.image := rfl
@[simp] theorem setPair_turn : (d.setPair f).turn = d.turn := rfl
@[simp] theorem setPair_jrn : (d.setPair f).jrn = d.jrn := rfl
@[simp] theorem setPair_host : (d.setPair f).host = d.host := rfl
@[simp] theorem setPair_vault : (d.setPair f).vault = d.vault := rfl
@[simp] theorem setPair_phs : (d.setPair f).phs = d.phs := rfl
@[simp] theorem setPair_qch : (d.setPair f).qch = d.qch := rfl
@[simp] theorem setPair_uin : (d.setPair f).uin = d.uin := rfl
@[simp] theorem setPair_xch : (d.setPair f).xch = d.xch := rfl
@[simp] theorem setPair_lop : (d.setPair f).lop = d.lop := rfl
@[simp] theorem setPair_dio : (d.setPair f).dio = d.dio := rfl
@[simp] theorem setPair_can : (d.setPair f).can = d.can := rfl
@[simp] theorem setPair_pair : (d.setPair f).pair = f d.pair := rfl
@[simp] theorem setPair_wtc : (d.setPair f).wtc = d.wtc := rfl
@[simp] theorem setPair_dom : (d.setPair f).dom = d.dom := rfl
@[simp] theorem setPair_pnl : (d.setPair f).pnl = d.pnl := rfl
@[simp] theorem setPair_pwr : (d.setPair f).pwr = d.pwr := rfl
@[simp] theorem setPair_rd (r : Nat) : (d.setPair f).rd r = d.rd r := rfl
@[simp] theorem setPair_rdF (r : Nat) (g : Field) : (d.setPair f).rdF r g = d.rdF r g := rfl
@[simp] theorem setPair_queue (r : Nat) : (d.setPair f).queue r = d.queue r := rfl

end

section
variable (d : Dev) (f : Tower → Tower)

@[simp] theorem setWtc_clk : (d.setWtc f).clk = d.clk := rfl
@[simp] theorem setWtc_free : (d.setWtc f).free = d.free := rfl
@[simp] theorem setWtc_regs : (d.setWtc f).regs = d.regs := rfl
@[simp] theorem setWtc_wb : (d.setWtc f).wb = d.wb := rfl
@[simp] theorem setWtc_gate : (d.setWtc f).gate = d.gate := rfl
@[simp] theorem setWtc_pulse : (d.setWtc f).pulse = d.pulse := rfl
@[simp] theorem setWtc_queues : (d.setWtc f).queues = d.queues := rfl
@[simp] theorem setWtc_image : (d.setWtc f).image = d.image := rfl
@[simp] theorem setWtc_turn : (d.setWtc f).turn = d.turn := rfl
@[simp] theorem setWtc_jrn : (d.setWtc f).jrn = d.jrn := rfl
@[simp] theorem setWtc_host : (d.setWtc f).host = d.host := rfl
@[simp] theorem setWtc_vault : (d.setWtc f).vault = d.vault := rfl
@[simp] theorem setWtc_phs : (d.setWtc f).phs = d.phs := rfl
@[simp] theorem setWtc_qch : (d.setWtc f).qch = d.qch := rfl
@[simp] theorem setWtc_uin : (d.setWtc f).uin = d.uin := rfl
@[simp] theorem setWtc_xch : (d.setWtc f).xch = d.xch := rfl
@[simp] theorem setWtc_lop : (d.setWtc f).lop = d.lop := rfl
@[simp] theorem setWtc_dio : (d.setWtc f).dio = d.dio := rfl
@[simp] theorem setWtc_can : (d.setWtc f).can = d.can := rfl
@[simp] theorem setWtc_pair : (d.setWtc f).pair = d.pair := rfl
@[simp] theorem setWtc_wtc : (d.setWtc f).wtc = f d.wtc := rfl
@[simp] theorem setWtc_dom : (d.setWtc f).dom = d.dom := rfl
@[simp] theorem setWtc_pnl : (d.setWtc f).pnl = d.pnl := rfl
@[simp] theorem setWtc_pwr : (d.setWtc f).pwr = d.pwr := rfl
@[simp] theorem setWtc_rd (r : Nat) : (d.setWtc f).rd r = d.rd r := rfl
@[simp] theorem setWtc_rdF (r : Nat) (g : Field) : (d.setWtc f).rdF r g = d.rdF r g := rfl
@[simp] theorem setWtc_queue (r : Nat) : (d.setWtc f).queue r = d.queue r := rfl

end

section
variable (d : Dev) (f : Dome → Dome)

@[simp] theorem setDom_clk : (d.setDom f).clk = d.clk := rfl
@[simp] theorem setDom_free : (d.setDom f).free = d.free := rfl
@[simp] theorem setDom_regs : (d.setDom f).regs = d.regs := rfl
@[simp] theorem setDom_wb : (d.setDom f).wb = d.wb := rfl
@[simp] theorem setDom_gate : (d.setDom f).gate = d.gate := rfl
@[simp] theorem setDom_pulse : (d.setDom f).pulse = d.pulse := rfl
@[simp] theorem setDom_queues : (d.setDom f).queues = d.queues := rfl
@[simp] theorem setDom_image : (d.setDom f).image = d.image := rfl
@[simp] theorem setDom_turn : (d.setDom f).turn = d.turn := rfl
@[simp] theorem setDom_jrn : (d.setDom f).jrn = d.jrn := rfl
@[simp] theorem setDom_host : (d.setDom f).host = d.host := rfl
@[simp] theorem setDom_vault : (d.setDom f).vault = d.vault := rfl
@[simp] theorem setDom_phs : (d.setDom f).phs = d.phs := rfl
@[simp] theorem setDom_qch : (d.setDom f).qch = d.qch := rfl
@[simp] theorem setDom_uin : (d.setDom f).uin = d.uin := rfl
@[simp] theorem setDom_xch : (d.setDom f).xch = d.xch := rfl
@[simp] theorem setDom_lop : (d.setDom f).lop = d.lop := rfl
@[simp] theorem setDom_dio : (d.setDom f).dio = d.dio := rfl
@[simp] theorem setDom_can : (d.setDom f).can = d.can := rfl
@[simp] theorem setDom_pair : (d.setDom f).pair = d.pair := rfl
@[simp] theorem setDom_wtc : (d.setDom f).wtc = d.wtc := rfl
@[simp] theorem setDom_dom : (d.setDom f).dom = f d.dom := rfl
@[simp] theorem setDom_pnl : (d.setDom f).pnl = d.pnl := rfl
@[simp] theorem setDom_pwr : (d.setDom f).pwr = d.pwr := rfl
@[simp] theorem setDom_rd (r : Nat) : (d.setDom f).rd r = d.rd r := rfl
@[simp] theorem setDom_rdF (r : Nat) (g : Field) : (d.setDom f).rdF r g = d.rdF r g := rfl
@[simp] theorem setDom_queue (r : Nat) : (d.setDom f).queue r = d.queue r := rfl

end

section
variable (d : Dev) (f : Panel → Panel)

@[simp] theorem setPnl_clk : (d.setPnl f).clk = d.clk := rfl
@[simp] theorem setPnl_free : (d.setPnl f).free = d.free := rfl
@[simp] theorem setPnl_regs : (d.setPnl f).regs = d.regs := rfl
@[simp] theorem setPnl_wb : (d.setPnl f).wb = d.wb := rfl
@[simp] theorem setPnl_gate : (d.setPnl f).gate = d.gate := rfl
@[simp] theorem setPnl_pulse : (d.setPnl f).pulse = d.pulse := rfl
@[simp] theorem setPnl_queues : (d.setPnl f).queues = d.queues := rfl
@[simp] theorem setPnl_image : (d.setPnl f).image = d.image := rfl
@[simp] theorem setPnl_turn : (d.setPnl f).turn = d.turn := rfl
@[simp] theorem setPnl_jrn : (d.setPnl f).jrn = d.jrn := rfl
@[simp] theorem setPnl_host : (d.setPnl f).host = d.host := rfl
@[simp] theorem setPnl_vault : (d.setPnl f).vault = d.vault := rfl
@[simp] theorem setPnl_phs : (d.setPnl f).phs = d.phs := rfl
@[simp] theorem setPnl_qch : (d.setPnl f).qch = d.qch := rfl
@[simp] theorem setPnl_uin : (d.setPnl f).uin = d.uin := rfl
@[simp] theorem setPnl_xch : (d.setPnl f).xch = d.xch := rfl
@[simp] theorem setPnl_lop : (d.setPnl f).lop = d.lop := rfl
@[simp] theorem setPnl_dio : (d.setPnl f).dio = d.dio := rfl
@[simp] theorem setPnl_can : (d.setPnl f).can = d.can := rfl
@[simp] theorem setPnl_pair : (d.setPnl f).pair = d.pair := rfl
@[simp] theorem setPnl_wtc : (d.setPnl f).wtc = d.wtc := rfl
@[simp] theorem setPnl_dom : (d.setPnl f).dom = d.dom := rfl
@[simp] theorem setPnl_pnl : (d.setPnl f).pnl = f d.pnl := rfl
@[simp] theorem setPnl_pwr : (d.setPnl f).pwr = d.pwr := rfl
@[simp] theorem setPnl_rd (r : Nat) : (d.setPnl f).rd r = d.rd r := rfl
@[simp] theorem setPnl_rdF (r : Nat) (g : Field) : (d.setPnl f).rdF r g = d.rdF r g := rfl
@[simp] theorem setPnl_queue (r : Nat) : (d.setPnl f).queue r = d.queue r := rfl

end

section
variable (d : Dev) (f : Power → Power)

@[simp] theorem setPwr_clk : (d.setPwr f).clk = d.clk := rfl
@[simp] theorem setPwr_free : (d.setPwr f).free = d.free := rfl
@[simp] theorem setPwr_regs : (d.setPwr f).regs = d.regs := rfl
@[simp] theorem setPwr_wb : (d.setPwr f).wb = d.wb := rfl
@[simp] theorem setPwr_gate : (d.setPwr f).gate = d.gate := rfl
@[simp] theorem setPwr_pulse : (d.setPwr f).pulse = d.pulse := rfl
@[simp] theorem setPwr_queues : (d.setPwr f).queues = d.queues := rfl
@[simp] theorem setPwr_image : (d.setPwr f).image = d.image := rfl
@[simp] theorem setPwr_turn : (d.setPwr f).turn = d.turn := rfl
@[simp] theorem setPwr_jrn : (d.setPwr f).jrn = d.jrn := rfl
@[simp] theorem setPwr_host : (d.setPwr f).host = d.host := rfl
@[simp] theorem setPwr_vault : (d.setPwr f).vault = d.vault := rfl
@[simp] theorem setPwr_phs : (d.setPwr f).phs = d.phs := rfl
@[simp] theorem setPwr_qch : (d.setPwr f).qch = d.qch := rfl
@[simp] theorem setPwr_uin : (d.setPwr f).uin = d.uin := rfl
@[simp] theorem setPwr_xch : (d.setPwr f).xch = d.xch := rfl
@[simp] theorem setPwr_lop : (d.setPwr f).lop = d.lop := rfl
@[simp] theorem setPwr_dio : (d.setPwr f).dio = d.dio := rfl
@[simp] theorem setPwr_can : (d.setPwr f).can = d.can := rfl
@[simp] theorem setPwr_pair : (d.setPwr f).pair = d.pair := rfl
@[simp] theorem setPwr_wtc : (d.setPwr f).wtc = d.wtc := rfl
@[simp] theorem setPwr_dom : (d.setPwr f).dom = d.dom := rfl
@[simp] theorem setPwr_pnl : (d.setPwr f).pnl = d.pnl := rfl
@[simp] theorem setPwr_pwr : (d.setPwr f).pwr = f d.pwr := rfl
@[simp] theorem setPwr_rd (r : Nat) : (d.setPwr f).rd r = d.rd r := rfl
@[simp] theorem setPwr_rdF (r : Nat) (g : Field) : (d.setPwr f).rdF r g = d.rdF r g := rfl
@[simp] theorem setPwr_queue (r : Nat) : (d.setPwr f).queue r = d.queue r := rfl

end

end Sys2Proof.Machine
end

