-- ==== Sys2Proof/Laws/Ops.lean ====
section
/-!
SUPPORT. What each shared operation of Machine/Ops.lean does to the parts of the device, once: registers read as
written, and every part that an operation does not name stays.
-/
namespace Sys2Proof.Machine

/-- A register reads as last written; every other register reads as before. -/
theorem rd_wr (d : Dev) (a b : Nat) (w : Word) : (d.wr a w).rd b = if b = a then w else d.rd b :=
  regGet_regSet d.regs a b w

@[simp] theorem rd_wr_same (d : Dev) (a : Nat) (w : Word) : (d.wr a w).rd a = w := by simp [rd_wr]

theorem rd_wr_other (d : Dev) (a b : Nat) (w : Word) (h : b ≠ a) : (d.wr a w).rd b = d.rd b := by simp [rd_wr, h]

theorem rd_wrF (d : Dev) (a b : Nat) (f : Field) (v : Nat) :
    (d.wrF a f v).rd b = if b = a then putF f (d.rd a) v else d.rd b := rd_wr d a b _

theorem rd_wrF_other (d : Dev) (a b : Nat) (f : Field) (v : Nat) (h : b ≠ a) : (d.wrF a f v).rd b = d.rd b := by
  simp [rd_wrF, h]

/-- A field reads as last written, cut to its width. -/
theorem rdF_wrF (d : Dev) (a : Nat) (f : Field) (hf : f.lo + f.width ≤ 32) (v : Nat) :
    (d.wrF a f v).rdF a f = v % 2 ^ f.width := by
  simp [Dev.rdF, rd_wrF, getF_putF f hf]

/-- A field that does not meet the one written keeps its value. -/
theorem rdF_wrF_apart (d : Dev) (a : Nat) (f g : Field) (h : f.lo + f.width ≤ g.lo ∨ g.lo + g.width ≤ f.lo)
    (v : Nat) : (d.wrF a g v).rdF a f = d.rdF a f := by
  simp [Dev.rdF, rd_wrF, getF_putF_apart f g h]

theorem rdF_wrF_other (d : Dev) (a b : Nat) (f g : Field) (v : Nat) (h : b ≠ a) :
    (d.wrF a g v).rdF b f = d.rdF b f := by simp [Dev.rdF, rd_wrF_other d a b g v h]

theorem rd_incF_other (d : Dev) (a b : Nat) (f : Field) (h : b ≠ a) : (d.incF a f).rd b = d.rd b :=
  rd_wrF_other d a b f _ h

theorem rd_flag_other (d : Dev) (a b x : Nat) (h : x ≠ a) : (d.flag a b).rd x = d.rd x :=
  rd_wr_other d a x _ h

theorem rd_evMark (d : Dev) (n x : Nat) :
    (d.evMark n).rd x = (d.wrF (R.HST_EVPEND (n / 32)) ⟨n % 32, 1⟩ 1).rd x := by
  unfold Dev.evMark
  dsimp only
  split <;> rfl

theorem rd_evMark_other (d : Dev) (n x : Nat) (h : x ≠ R.HST_EVPEND (n / 32)) : (d.evMark n).rd x = d.rd x := by
  rw [rd_evMark]
  exact rd_wrF_other d _ _ _ _ h

@[simp] theorem setCounts_rd (d : Dev) (f : List Nat → List Nat) (x : Nat) : (d.setCounts f).rd x = d.rd x := rfl

@[simp] theorem setCounts_frame (d : Dev) (f : List Nat → List Nat) :
    (d.setCounts f).clk = d.clk ∧ (d.setCounts f).free = d.free ∧ (d.setCounts f).regs = d.regs ∧
    (d.setCounts f).wb = d.wb ∧ (d.setCounts f).gate = d.gate ∧ (d.setCounts f).pulse = d.pulse ∧
    (d.setCounts f).image = d.image ∧ (d.setCounts f).turn = d.turn ∧ (d.setCounts f).jrn = d.jrn ∧
    (d.setCounts f).host = d.host ∧ (d.setCounts f).vault = d.vault ∧ (d.setCounts f).phs = d.phs ∧
    (d.setCounts f).qch = d.qch ∧ (d.setCounts f).uin = d.uin ∧ (d.setCounts f).xch = d.xch ∧
    (d.setCounts f).lop = d.lop ∧ (d.setCounts f).dio = d.dio ∧ (d.setCounts f).can = d.can ∧
    (d.setCounts f).pair = d.pair ∧ (d.setCounts f).wtc = d.wtc ∧ (d.setCounts f).dom = d.dom ∧
    (d.setCounts f).pnl = d.pnl ∧ (d.setCounts f).pwr = d.pwr := by simp [Dev.setCounts]

@[simp] theorem evBump_rd (d : Dev) (n x : Nat) : (d.evBump n).rd x = d.rd x := by
  unfold Dev.evBump
  split <;> simp

/-- Every register but the event registers and Q49's status reads as before an event is raised. -/
theorem rd_raise_other (d : Dev) (n x : Nat) (h : x ≠ R.HST_EVPEND (n / 32)) (h9 : x ≠ R.HST_EVPEND 7)
    (hq : x ≠ R.HST_QSTAT 49) : (d.raise n).rd x = d.rd x := by
  unfold Dev.raise Dev.q49Full
  dsimp only
  have e : R.HST_EVPEND (249 / 32) = R.HST_EVPEND 7 := rfl
  repeat' split
  all_goals simp [rd_evMark_other _ _ _ h, rd_evMark_other _ 249 _ (e ▸ h9), rd_flag_other _ _ _ _ hq]

theorem rd_flagEv_other (d : Dev) (a b n x : Nat) (ha : x ≠ a) (h : x ≠ R.HST_EVPEND (n / 32))
    (h9 : x ≠ R.HST_EVPEND 7) (hq : x ≠ R.HST_QSTAT 49) : (d.flagEv a b n).rd x = d.rd x := by
  unfold Dev.flagEv
  rw [rd_raise_other _ _ _ h h9 hq, rd_flag_other _ _ _ _ ha]

@[simp] theorem wrF_frame (d : Dev) (a : Nat) (f : Field) (v : Nat) :
    (d.wrF a f v).clk = d.clk ∧ (d.wrF a f v).free = d.free ∧ (d.wrF a f v).wb = d.wb ∧ (d.wrF a f v).gate = d.gate ∧
    (d.wrF a f v).pulse = d.pulse ∧ (d.wrF a f v).queues = d.queues ∧ (d.wrF a f v).image = d.image ∧
    (d.wrF a f v).turn = d.turn ∧ (d.wrF a f v).jrn = d.jrn ∧ (d.wrF a f v).host = d.host ∧
    (d.wrF a f v).vault = d.vault ∧ (d.wrF a f v).phs = d.phs ∧ (d.wrF a f v).qch = d.qch ∧
    (d.wrF a f v).uin = d.uin ∧ (d.wrF a f v).xch = d.xch ∧ (d.wrF a f v).lop = d.lop ∧ (d.wrF a f v).dio = d.dio ∧
    (d.wrF a f v).can = d.can ∧ (d.wrF a f v).pair = d.pair ∧ (d.wrF a f v).wtc = d.wtc ∧ (d.wrF a f v).dom = d.dom ∧
    (d.wrF a f v).pnl = d.pnl ∧ (d.wrF a f v).pwr = d.pwr := by
  unfold Dev.wrF
  try dsimp only
  repeat' split
  all_goals simp

@[simp] theorem incF_frame (d : Dev) (a : Nat) (f : Field) :
    (d.incF a f).clk = d.clk ∧ (d.incF a f).free = d.free ∧ (d.incF a f).wb = d.wb ∧ (d.incF a f).gate = d.gate ∧
    (d.incF a f).pulse = d.pulse ∧ (d.incF a f).queues = d.queues ∧ (d.incF a f).image = d.image ∧
    (d.incF a f).turn = d.turn ∧ (d.incF a f).jrn = d.jrn ∧ (d.incF a f).host = d.host ∧
    (d.incF a f).vault = d.vault ∧ (d.incF a f).phs = d.phs ∧ (d.incF a f).qch = d.qch ∧ (d.incF a f).uin = d.uin ∧
    (d.incF a f).xch = d.xch ∧ (d.incF a f).lop = d.lop ∧ (d.incF a f).dio = d.dio ∧ (d.incF a f).can = d.can ∧
    (d.incF a f).pair = d.pair ∧ (d.incF a f).wtc = d.wtc ∧ (d.incF a f).dom = d.dom ∧ (d.incF a f).pnl = d.pnl ∧
    (d.incF a f).pwr = d.pwr := by
  unfold Dev.incF
  try dsimp only
  repeat' split
  all_goals simp

@[simp] theorem wrFs_frame (d : Dev) (a : Nat) (l : List (Field × Nat)) :
    (d.wrFs a l).clk = d.clk ∧ (d.wrFs a l).free = d.free ∧ (d.wrFs a l).wb = d.wb ∧ (d.wrFs a l).gate = d.gate ∧
    (d.wrFs a l).pulse = d.pulse ∧ (d.wrFs a l).queues = d.queues ∧ (d.wrFs a l).image = d.image ∧
    (d.wrFs a l).turn = d.turn ∧ (d.wrFs a l).jrn = d.jrn ∧ (d.wrFs a l).host = d.host ∧
    (d.wrFs a l).vault = d.vault ∧ (d.wrFs a l).phs = d.phs ∧ (d.wrFs a l).qch = d.qch ∧ (d.wrFs a l).uin = d.uin ∧
    (d.wrFs a l).xch = d.xch ∧ (d.wrFs a l).lop = d.lop ∧ (d.wrFs a l).dio = d.dio ∧ (d.wrFs a l).can = d.can ∧
    (d.wrFs a l).pair = d.pair ∧ (d.wrFs a l).wtc = d.wtc ∧ (d.wrFs a l).dom = d.dom ∧ (d.wrFs a l).pnl = d.pnl ∧
    (d.wrFs a l).pwr = d.pwr := by
  unfold Dev.wrFs
  try dsimp only
  repeat' split
  all_goals simp

@[simp] theorem flag_frame (d : Dev) (a b : Nat) :
    (d.flag a b).clk = d.clk ∧ (d.flag a b).free = d.free ∧ (d.flag a b).wb = d.wb ∧ (d.flag a b).gate = d.gate ∧
    (d.flag a b).pulse = d.pulse ∧ (d.flag a b).queues = d.queues ∧ (d.flag a b).image = d.image ∧
    (d.flag a b).turn = d.turn ∧ (d.flag a b).jrn = d.jrn ∧ (d.flag a b).host = d.host ∧
    (d.flag a b).vault = d.vault ∧ (d.flag a b).phs = d.phs ∧ (d.flag a b).qch = d.qch ∧ (d.flag a b).uin = d.uin ∧
    (d.flag a b).xch = d.xch ∧ (d.flag a b).lop = d.lop ∧ (d.flag a b).dio = d.dio ∧ (d.flag a b).can = d.can ∧
    (d.flag a b).pair = d.pair ∧ (d.flag a b).wtc = d.wtc ∧ (d.flag a b).dom = d.dom ∧ (d.flag a b).pnl = d.pnl ∧
    (d.flag a b).pwr = d.pwr := by
  unfold Dev.flag
  try dsimp only
  repeat' split
  all_goals simp

@[simp] theorem clearFlags_frame (d : Dev) (a : Nat) (m v : Word) :
    (d.clearFlags a m v).clk = d.clk ∧ (d.clearFlags a m v).free = d.free ∧ (d.clearFlags a m v).wb = d.wb ∧
    (d.clearFlags a m v).gate = d.gate ∧ (d.clearFlags a m v).pulse = d.pulse ∧
    (d.clearFlags a m v).queues = d.queues ∧ (d.clearFlags a m v).image = d.image ∧
    (d.clearFlags a m v).turn = d.turn ∧ (d.clearFlags a m v).jrn = d.jrn ∧ (d.clearFlags a m v).host = d.host ∧
    (d.clearFlags a m v).vault = d.vault ∧ (d.clearFlags a m v).phs = d.phs ∧ (d.clearFlags a m v).qch = d.qch ∧
    (d.clearFlags a m v).uin = d.uin ∧ (d.clearFlags a m v).xch = d.xch ∧ (d.clearFlags a m v).lop = d.lop ∧
    (d.clearFlags a m v).dio = d.dio ∧ (d.clearFlags a m v).can = d.can ∧ (d.clearFlags a m v).pair = d.pair ∧
    (d.clearFlags a m v).wtc = d.wtc ∧ (d.clearFlags a m v).dom = d.dom ∧ (d.clearFlags a m v).pnl = d.pnl ∧
    (d.clearFlags a m v).pwr = d.pwr := by
  unfold Dev.clearFlags
  try dsimp only
  repeat' split
  all_goals simp

@[simp] theorem evMark_frame (d : Dev) (n : Nat) :
    (d.evMark n).clk = d.clk ∧ (d.evMark n).free = d.free ∧ (d.evMark n).wb = d.wb ∧ (d.evMark n).gate = d.gate ∧
    (d.evMark n).queues = d.queues ∧ (d.evMark n).image = d.image ∧ (d.evMark n).turn = d.turn ∧
    (d.evMark n).jrn = d.jrn ∧ (d.evMark n).host = d.host ∧ (d.evMark n).vault = d.vault ∧ (d.evMark n).phs = d.phs ∧
    (d.evMark n).qch = d.qch ∧ (d.evMark n).uin = d.uin ∧ (d.evMark n).xch = d.xch ∧ (d.evMark n).lop = d.lop ∧
    (d.evMark n).dio = d.dio ∧ (d.evMark n).can = d.can ∧ (d.evMark n).pair = d.pair ∧ (d.evMark n).wtc = d.wtc ∧
    (d.evMark n).dom = d.dom ∧ (d.evMark n).pnl = d.pnl ∧ (d.evMark n).pwr = d.pwr := by
  unfold Dev.evMark
  try dsimp only
  repeat' split
  all_goals simp

@[simp] theorem evBump_frame (d : Dev) (n : Nat) :
    (d.evBump n).clk = d.clk ∧ (d.evBump n).free = d.free ∧ (d.evBump n).regs = d.regs ∧ (d.evBump n).wb = d.wb ∧
    (d.evBump n).gate = d.gate ∧ (d.evBump n).pulse = d.pulse ∧ (d.evBump n).image = d.image ∧
    (d.evBump n).turn = d.turn ∧ (d.evBump n).jrn = d.jrn ∧ (d.evBump n).host = d.host ∧
    (d.evBump n).vault = d.vault ∧ (d.evBump n).phs = d.phs ∧ (d.evBump n).qch = d.qch ∧ (d.evBump n).uin = d.uin ∧
    (d.evBump n).xch = d.xch ∧ (d.evBump n).lop = d.lop ∧ (d.evBump n).dio = d.dio ∧ (d.evBump n).can = d.can ∧
    (d.evBump n).pair = d.pair ∧ (d.evBump n).wtc = d.wtc ∧ (d.evBump n).dom = d.dom ∧ (d.evBump n).pnl = d.pnl ∧
    (d.evBump n).pwr = d.pwr := by
  unfold Dev.evBump
  try dsimp only
  repeat' split
  all_goals simp

@[simp] theorem q49Full_frame (d : Dev)  :
    (d.q49Full).clk = d.clk ∧ (d.q49Full).free = d.free ∧ (d.q49Full).wb = d.wb ∧ (d.q49Full).gate = d.gate ∧
    (d.q49Full).image = d.image ∧ (d.q49Full).turn = d.turn ∧ (d.q49Full).jrn = d.jrn ∧ (d.q49Full).host = d.host ∧
    (d.q49Full).vault = d.vault ∧ (d.q49Full).phs = d.phs ∧ (d.q49Full).qch = d.qch ∧ (d.q49Full).uin = d.uin ∧
    (d.q49Full).xch = d.xch ∧ (d.q49Full).lop = d.lop ∧ (d.q49Full).dio = d.dio ∧ (d.q49Full).can = d.can ∧
    (d.q49Full).pair = d.pair ∧ (d.q49Full).wtc = d.wtc ∧ (d.q49Full).dom = d.dom ∧ (d.q49Full).pnl = d.pnl ∧
    (d.q49Full).pwr = d.pwr := by
  unfold Dev.q49Full
  try dsimp only
  repeat' split
  all_goals simp

@[simp] theorem raise_frame (d : Dev) (n : Nat) :
    (d.raise n).clk = d.clk ∧ (d.raise n).free = d.free ∧ (d.raise n).wb = d.wb ∧ (d.raise n).gate = d.gate ∧
    (d.raise n).image = d.image ∧ (d.raise n).turn = d.turn ∧ (d.raise n).jrn = d.jrn ∧ (d.raise n).host = d.host ∧
    (d.raise n).vault = d.vault ∧ (d.raise n).phs = d.phs ∧ (d.raise n).qch = d.qch ∧ (d.raise n).uin = d.uin ∧
    (d.raise n).xch = d.xch ∧ (d.raise n).lop = d.lop ∧ (d.raise n).dio = d.dio ∧ (d.raise n).can = d.can ∧
    (d.raise n).pair = d.pair ∧ (d.raise n).wtc = d.wtc ∧ (d.raise n).dom = d.dom ∧ (d.raise n).pnl = d.pnl ∧
    (d.raise n).pwr = d.pwr := by
  unfold Dev.raise
  try dsimp only
  repeat' split
  all_goals simp

@[simp] theorem raiseIf_frame (d : Dev) (b : Bool) (n : Nat) :
    (d.raiseIf b n).clk = d.clk ∧ (d.raiseIf b n).free = d.free ∧ (d.raiseIf b n).wb = d.wb ∧
    (d.raiseIf b n).gate = d.gate ∧ (d.raiseIf b n).image = d.image ∧ (d.raiseIf b n).turn = d.turn ∧
    (d.raiseIf b n).jrn = d.jrn ∧ (d.raiseIf b n).host = d.host ∧ (d.raiseIf b n).vault = d.vault ∧
    (d.raiseIf b n).phs = d.phs ∧ (d.raiseIf b n).qch = d.qch ∧ (d.raiseIf b n).uin = d.uin ∧
    (d.raiseIf b n).xch = d.xch ∧ (d.raiseIf b n).lop = d.lop ∧ (d.raiseIf b n).dio = d.dio ∧
    (d.raiseIf b n).can = d.can ∧ (d.raiseIf b n).pair = d.pair ∧ (d.raiseIf b n).wtc = d.wtc ∧
    (d.raiseIf b n).dom = d.dom ∧ (d.raiseIf b n).pnl = d.pnl ∧ (d.raiseIf b n).pwr = d.pwr := by
  unfold Dev.raiseIf
  try dsimp only
  repeat' split
  all_goals simp

@[simp] theorem flagEv_frame (d : Dev) (a b n : Nat) :
    (d.flagEv a b n).clk = d.clk ∧ (d.flagEv a b n).free = d.free ∧ (d.flagEv a b n).wb = d.wb ∧
    (d.flagEv a b n).gate = d.gate ∧ (d.flagEv a b n).image = d.image ∧ (d.flagEv a b n).turn = d.turn ∧
    (d.flagEv a b n).jrn = d.jrn ∧ (d.flagEv a b n).host = d.host ∧ (d.flagEv a b n).vault = d.vault ∧
    (d.flagEv a b n).phs = d.phs ∧ (d.flagEv a b n).qch = d.qch ∧ (d.flagEv a b n).uin = d.uin ∧
    (d.flagEv a b n).xch = d.xch ∧ (d.flagEv a b n).lop = d.lop ∧ (d.flagEv a b n).dio = d.dio ∧
    (d.flagEv a b n).can = d.can ∧ (d.flagEv a b n).pair = d.pair ∧ (d.flagEv a b n).wtc = d.wtc ∧
    (d.flagEv a b n).dom = d.dom ∧ (d.flagEv a b n).pnl = d.pnl ∧ (d.flagEv a b n).pwr = d.pwr := by
  unfold Dev.flagEv
  try dsimp only
  repeat' split
  all_goals simp

@[simp] theorem refuse_frame (d : Dev) (q : Nat) :
    (d.refuse q).clk = d.clk ∧ (d.refuse q).free = d.free ∧ (d.refuse q).wb = d.wb ∧ (d.refuse q).gate = d.gate ∧
    (d.refuse q).image = d.image ∧ (d.refuse q).turn = d.turn ∧ (d.refuse q).jrn = d.jrn ∧
    (d.refuse q).host = d.host ∧ (d.refuse q).vault = d.vault ∧ (d.refuse q).phs = d.phs ∧ (d.refuse q).qch = d.qch ∧
    (d.refuse q).uin = d.uin ∧ (d.refuse q).xch = d.xch ∧ (d.refuse q).lop = d.lop ∧ (d.refuse q).dio = d.dio ∧
    (d.refuse q).can = d.can ∧ (d.refuse q).pair = d.pair ∧ (d.refuse q).wtc = d.wtc ∧ (d.refuse q).dom = d.dom ∧
    (d.refuse q).pnl = d.pnl ∧ (d.refuse q).pwr = d.pwr := by
  unfold Dev.refuse
  try dsimp only
  repeat' split
  all_goals simp

@[simp] theorem push_frame (d : Dev) (q : Nat) (l : List Byte) (r : Option HostRef) :
    (d.push q l r).clk = d.clk ∧ (d.push q l r).free = d.free ∧ (d.push q l r).wb = d.wb ∧
    (d.push q l r).gate = d.gate ∧ (d.push q l r).image = d.image ∧ (d.push q l r).turn = d.turn ∧
    (d.push q l r).jrn = d.jrn ∧ (d.push q l r).host = d.host ∧ (d.push q l r).vault = d.vault ∧
    (d.push q l r).phs = d.phs ∧ (d.push q l r).qch = d.qch ∧ (d.push q l r).uin = d.uin ∧
    (d.push q l r).xch = d.xch ∧ (d.push q l r).lop = d.lop ∧ (d.push q l r).dio = d.dio ∧
    (d.push q l r).can = d.can ∧ (d.push q l r).pair = d.pair ∧ (d.push q l r).wtc = d.wtc ∧
    (d.push q l r).dom = d.dom ∧ (d.push q l r).pnl = d.pnl ∧ (d.push q l r).pwr = d.pwr := by
  unfold Dev.push
  try dsimp only
  repeat' split
  all_goals simp

@[simp] theorem notify_frame (d : Dev) (q : Nat) (l : List Byte) (n : Nat) :
    (d.notify q l n).clk = d.clk ∧ (d.notify q l n).free = d.free ∧ (d.notify q l n).wb = d.wb ∧
    (d.notify q l n).gate = d.gate ∧ (d.notify q l n).image = d.image ∧ (d.notify q l n).turn = d.turn ∧
    (d.notify q l n).jrn = d.jrn ∧ (d.notify q l n).host = d.host ∧ (d.notify q l n).vault = d.vault ∧
    (d.notify q l n).phs = d.phs ∧ (d.notify q l n).qch = d.qch ∧ (d.notify q l n).uin = d.uin ∧
    (d.notify q l n).xch = d.xch ∧ (d.notify q l n).lop = d.lop ∧ (d.notify q l n).dio = d.dio ∧
    (d.notify q l n).can = d.can ∧ (d.notify q l n).pair = d.pair ∧ (d.notify q l n).wtc = d.wtc ∧
    (d.notify q l n).dom = d.dom ∧ (d.notify q l n).pnl = d.pnl ∧ (d.notify q l n).pwr = d.pwr := by
  unfold Dev.notify
  try dsimp only
  repeat' split
  all_goals simp

@[simp] theorem pop_frame (d : Dev) (q : Nat) :
    (d.pop q).clk = d.clk ∧ (d.pop q).free = d.free ∧ (d.pop q).regs = d.regs ∧ (d.pop q).wb = d.wb ∧
    (d.pop q).gate = d.gate ∧ (d.pop q).pulse = d.pulse ∧ (d.pop q).image = d.image ∧ (d.pop q).turn = d.turn ∧
    (d.pop q).jrn = d.jrn ∧ (d.pop q).host = d.host ∧ (d.pop q).vault = d.vault ∧ (d.pop q).phs = d.phs ∧
    (d.pop q).qch = d.qch ∧ (d.pop q).uin = d.uin ∧ (d.pop q).xch = d.xch ∧ (d.pop q).lop = d.lop ∧
    (d.pop q).dio = d.dio ∧ (d.pop q).can = d.can ∧ (d.pop q).pair = d.pair ∧ (d.pop q).wtc = d.wtc ∧
    (d.pop q).dom = d.dom ∧ (d.pop q).pnl = d.pnl ∧ (d.pop q).pwr = d.pwr := by
  unfold Dev.pop
  try dsimp only
  repeat' split
  all_goals simp

@[simp] theorem happen_frame (d : Dev) (e : Entry) :
    (d.happen e).clk = d.clk ∧ (d.happen e).free = d.free ∧ (d.happen e).regs = d.regs ∧ (d.happen e).wb = d.wb ∧
    (d.happen e).gate = d.gate ∧ (d.happen e).pulse = d.pulse ∧ (d.happen e).queues = d.queues ∧
    (d.happen e).image = d.image ∧ (d.happen e).turn = d.turn ∧ (d.happen e).host = d.host ∧
    (d.happen e).vault = d.vault ∧ (d.happen e).phs = d.phs ∧ (d.happen e).qch = d.qch ∧ (d.happen e).uin = d.uin ∧
    (d.happen e).xch = d.xch ∧ (d.happen e).lop = d.lop ∧ (d.happen e).dio = d.dio ∧ (d.happen e).can = d.can ∧
    (d.happen e).pair = d.pair ∧ (d.happen e).wtc = d.wtc ∧ (d.happen e).dom = d.dom ∧ (d.happen e).pnl = d.pnl ∧
    (d.happen e).pwr = d.pwr := by
  unfold Dev.happen
  try dsimp only
  repeat' split
  all_goals simp

@[simp] theorem setXRun_frame (d : Dev) (k i : Nat) (n : Option Nat) :
    (d.setXRun k i n).clk = d.clk ∧ (d.setXRun k i n).free = d.free ∧ (d.setXRun k i n).regs = d.regs ∧
    (d.setXRun k i n).wb = d.wb ∧ (d.setXRun k i n).gate = d.gate ∧ (d.setXRun k i n).pulse = d.pulse ∧
    (d.setXRun k i n).queues = d.queues ∧ (d.setXRun k i n).image = d.image ∧ (d.setXRun k i n).turn = d.turn ∧
    (d.setXRun k i n).jrn = d.jrn ∧ (d.setXRun k i n).host = d.host ∧ (d.setXRun k i n).vault = d.vault ∧
    (d.setXRun k i n).phs = d.phs ∧ (d.setXRun k i n).qch = d.qch ∧ (d.setXRun k i n).uin = d.uin ∧
    (d.setXRun k i n).xch = d.xch ∧ (d.setXRun k i n).lop = d.lop ∧ (d.setXRun k i n).dio = d.dio ∧
    (d.setXRun k i n).can = d.can ∧ (d.setXRun k i n).wtc = d.wtc ∧ (d.setXRun k i n).dom = d.dom ∧
    (d.setXRun k i n).pnl = d.pnl ∧ (d.setXRun k i n).pwr = d.pwr := by
  unfold Dev.setXRun
  try dsimp only
  repeat' split
  all_goals simp

@[simp] theorem closeGate_frame (d : Dev)  :
    (d.closeGate).clk = d.clk ∧ (d.closeGate).free = d.free ∧ (d.closeGate).wb = d.wb ∧
    (d.closeGate).pulse = d.pulse ∧ (d.closeGate).queues = d.queues ∧ (d.closeGate).image = d.image ∧
    (d.closeGate).turn = d.turn ∧ (d.closeGate).jrn = d.jrn ∧ (d.closeGate).host = d.host ∧
    (d.closeGate).vault = d.vault ∧ (d.closeGate).phs = d.phs ∧ (d.closeGate).qch = d.qch ∧
    (d.closeGate).uin = d.uin ∧ (d.closeGate).xch = d.xch ∧ (d.closeGate).lop = d.lop ∧ (d.closeGate).dio = d.dio ∧
    (d.closeGate).can = d.can ∧ (d.closeGate).pair = d.pair ∧ (d.closeGate).wtc = d.wtc ∧ (d.closeGate).dom = d.dom ∧
    (d.closeGate).pnl = d.pnl ∧ (d.closeGate).pwr = d.pwr := by
  unfold Dev.closeGate
  try dsimp only
  repeat' split
  all_goals simp

@[simp] theorem guard_frame (d : Dev) (s a : Nat) :
    (Dev.passGate.guard_ s a d).clk = d.clk ∧ (Dev.passGate.guard_ s a d).free = d.free ∧
    (Dev.passGate.guard_ s a d).wb = d.wb ∧ (Dev.passGate.guard_ s a d).gate = d.gate ∧
    (Dev.passGate.guard_ s a d).image = d.image ∧ (Dev.passGate.guard_ s a d).turn = d.turn ∧
    (Dev.passGate.guard_ s a d).host = d.host ∧ (Dev.passGate.guard_ s a d).vault = d.vault ∧
    (Dev.passGate.guard_ s a d).phs = d.phs ∧ (Dev.passGate.guard_ s a d).qch = d.qch ∧
    (Dev.passGate.guard_ s a d).uin = d.uin ∧ (Dev.passGate.guard_ s a d).xch = d.xch ∧
    (Dev.passGate.guard_ s a d).lop = d.lop ∧ (Dev.passGate.guard_ s a d).dio = d.dio ∧
    (Dev.passGate.guard_ s a d).can = d.can ∧ (Dev.passGate.guard_ s a d).pair = d.pair ∧
    (Dev.passGate.guard_ s a d).wtc = d.wtc ∧ (Dev.passGate.guard_ s a d).dom = d.dom ∧
    (Dev.passGate.guard_ s a d).pnl = d.pnl ∧ (Dev.passGate.guard_ s a d).pwr = d.pwr := by
  unfold Dev.passGate.guard_
  try dsimp only
  repeat' split
  all_goals simp

@[simp] theorem wbDrop_frame (d : Dev) (a : Nat) :
    (d.wbDrop a).clk = d.clk ∧ (d.wbDrop a).free = d.free ∧ (d.wbDrop a).gate = d.gate ∧
    (d.wbDrop a).pulse = d.pulse ∧ (d.wbDrop a).queues = d.queues ∧ (d.wbDrop a).image = d.image ∧
    (d.wbDrop a).turn = d.turn ∧ (d.wbDrop a).jrn = d.jrn ∧ (d.wbDrop a).host = d.host ∧
    (d.wbDrop a).vault = d.vault ∧ (d.wbDrop a).phs = d.phs ∧ (d.wbDrop a).qch = d.qch ∧ (d.wbDrop a).uin = d.uin ∧
    (d.wbDrop a).xch = d.xch ∧ (d.wbDrop a).lop = d.lop ∧ (d.wbDrop a).dio = d.dio ∧ (d.wbDrop a).can = d.can ∧
    (d.wbDrop a).pair = d.pair ∧ (d.wbDrop a).wtc = d.wtc ∧ (d.wbDrop a).dom = d.dom ∧ (d.wbDrop a).pnl = d.pnl ∧
    (d.wbDrop a).pwr = d.pwr := by
  unfold Dev.wbDrop
  try dsimp only
  repeat' split
  all_goals simp

@[simp] theorem wbWrite_frame (d : Dev) (a : Nat) (m v : Word) (s : Nat) :
    (d.wbWrite a m v s).clk = d.clk ∧ (d.wbWrite a m v s).free = d.free ∧ (d.wbWrite a m v s).gate = d.gate ∧
    (d.wbWrite a m v s).pulse = d.pulse ∧ (d.wbWrite a m v s).queues = d.queues ∧
    (d.wbWrite a m v s).image = d.image ∧ (d.wbWrite a m v s).turn = d.turn ∧ (d.wbWrite a m v s).jrn = d.jrn ∧
    (d.wbWrite a m v s).host = d.host ∧ (d.wbWrite a m v s).vault = d.vault ∧ (d.wbWrite a m v s).phs = d.phs ∧
    (d.wbWrite a m v s).qch = d.qch ∧ (d.wbWrite a m v s).uin = d.uin ∧ (d.wbWrite a m v s).xch = d.xch ∧
    (d.wbWrite a m v s).lop = d.lop ∧ (d.wbWrite a m v s).dio = d.dio ∧ (d.wbWrite a m v s).can = d.can ∧
    (d.wbWrite a m v s).pair = d.pair ∧ (d.wbWrite a m v s).wtc = d.wtc ∧ (d.wbWrite a m v s).dom = d.dom ∧
    (d.wbWrite a m v s).pnl = d.pnl ∧ (d.wbWrite a m v s).pwr = d.pwr := by
  unfold Dev.wbWrite
  try dsimp only
  repeat' split
  all_goals simp

@[simp] theorem wbApply_frame (d : Dev) (a : Nat) (m : Word) :
    (d.wbApply a m).clk = d.clk ∧ (d.wbApply a m).free = d.free ∧ (d.wbApply a m).gate = d.gate ∧
    (d.wbApply a m).pulse = d.pulse ∧ (d.wbApply a m).queues = d.queues ∧ (d.wbApply a m).image = d.image ∧
    (d.wbApply a m).turn = d.turn ∧ (d.wbApply a m).jrn = d.jrn ∧ (d.wbApply a m).host = d.host ∧
    (d.wbApply a m).vault = d.vault ∧ (d.wbApply a m).phs = d.phs ∧ (d.wbApply a m).qch = d.qch ∧
    (d.wbApply a m).uin = d.uin ∧ (d.wbApply a m).xch = d.xch ∧ (d.wbApply a m).lop = d.lop ∧
    (d.wbApply a m).dio = d.dio ∧ (d.wbApply a m).can = d.can ∧ (d.wbApply a m).pair = d.pair ∧
    (d.wbApply a m).wtc = d.wtc ∧ (d.wbApply a m).dom = d.dom ∧ (d.wbApply a m).pnl = d.pnl ∧
    (d.wbApply a m).pwr = d.pwr := by
  unfold Dev.wbApply
  try dsimp only
  repeat' split
  all_goals simp

end Sys2Proof.Machine
end

