-- ==== Sys2Proof/Laws/Kept.lean ====
section
/-!
SUPPORT. What every part of a step keeps, once: the clock, the version counter against the image in use, the shape and
the canonical forms. One lemma for each operation, in the form "what holds of the device holds of the operation's result".
-/
namespace Sys2Proof.Machine

/-- A change of the device that takes no time, lowers the version counter at no point, brings in no image newer than
the counter, and keeps the shape and the canonical forms. -/
structure Kept (d e : Dev) : Prop where
  of ::
  clk : e.clk = d.clk
  counter : d.vault.counter ≤ e.vault.counter
  image : e.image.head.version ≤ max d.image.head.version e.vault.counter
  shaped : d.Shaped → e.Shaped
  canonical : d.Canonical → e.Canonical

theorem Kept.refl (d : Dev) : Kept d d := ⟨rfl, Nat.le_refl _, Nat.le_max_left .., id, id⟩

theorem Kept.trans {d e f : Dev} (h : Kept d e) (k : Kept e f) : Kept d f :=
  ⟨k.clk.trans h.clk, Nat.le_trans h.counter k.counter, by have := h.image; have := k.image; have := k.counter; omega,
    k.shaped ∘ h.shaped, k.canonical ∘ h.canonical⟩

/-- What it keeps of a sane device. -/
theorem Kept.sane {d e : Dev} (h : Kept d e) (s : d.Sane) : e.Sane :=
  ⟨h.canonical s.1, h.shaped s.2.1, by have := h.image; have := h.counter; have := s.2.2; omega⟩

/-- A change under another image, which the counter has come to cover. -/
theorem Kept.swap {z d e : Dev} (img : Image) (h : Kept z d) (k : Kept { d with image := img } e)
    (hv : img.head.version ≤ e.vault.counter) : Kept z e :=
  ⟨k.clk.trans h.clk, Nat.le_trans h.counter k.counter, by have hi := k.image; simp only at hi; omega,
    fun s => k.shaped { h.shaped s with }, fun s => k.canonical (h.canonical s)⟩

/-- A change of parts that count for nothing but the shape. -/
theorem Kept.of_eq {d e : Dev} (clk : e.clk = d.clk) (image : e.image = d.image)
    (counter : e.vault.counter = d.vault.counter) (shaped : d.Shaped → e.Shaped)
    (canonical : d.Canonical → e.Canonical) : Kept d e :=
  ⟨clk, Nat.le_of_eq counter.symm, image ▸ Nat.le_max_left .., shaped, canonical⟩

theorem Kept.have {d e x : Dev} (h : Kept d x) (k : Kept d x → Kept d e) : Kept d e := k h

theorem Kept.ite {d e f : Dev} {c : Prop} [Decidable c] (h : Kept d e) (k : Kept d f) : Kept d (if c then e else f) := by
  split <;> assumption

theorem Kept.foldl {α : Type} {z d : Dev} {f : Dev → α → Dev} {l : List α} (k : Kept z d)
    (h : ∀ d x, Kept z d → Kept z (f d x)) : Kept z (l.foldl f d) := by
  induction l generalizing d with
  | nil => exact k
  | cons x t ih => exact ih (h d x k)

theorem Kept.foldl_snd {α β : Type} {z : Dev} {f : β × Dev → α → β × Dev} {l : List α} {r : β × Dev} (k : Kept z r.2)
    (h : ∀ r x, Kept z r.2 → Kept z (f r x).2) : Kept z (l.foldl f r).2 := by
  induction l generalizing r with
  | nil => exact k
  | cons x t ih => exact ih (h r x k)

@[simp] theorem length_upd {α : Type} (l : List α) (i : Nat) (f : α → α) : (upd l i f).length = l.length := by
  induction l generalizing i with
  | nil => rfl
  | cons x t ih => cases i <;> simp [upd, ih]

theorem mem_upd {α : Type} {l : List α} {i : Nat} {f : α → α} {P : α → Prop} (hf : ∀ x, P x → P (f x))
    (h : ∀ x ∈ l, P x) : ∀ x ∈ upd l i f, P x := by
  induction l generalizing i with
  | nil => exact fun _ hx => absurd hx (by simp [upd])
  | cons y t ih =>
    have ht := fun x hx => h x (List.mem_cons_of_mem _ hx)
    cases i with
    | zero =>
      intro x hx
      rcases List.mem_cons.mp hx with rfl | hx
      · exact hf _ (h _ (List.mem_cons_self ..))
      · exact ht x hx
    | succ i =>
      intro x hx
      rcases List.mem_cons.mp hx with rfl | hx
      · exact h _ (List.mem_cons_self ..)
      · exact ih ht x hx

/-- A change of the parts with a shape, each keeping it, and of nothing else that counts. -/
theorem Kept.with {d f : Dev} {free : Nat} {wb : List (Nat × Word × Nat)} {gate : Option KeyGate} {pulse : List Nat} {queues : Queues} {turn : Turn} {jrn : Journal} {host : HostPort} {vault : Vault} {phs : Phases} {qch : Charge} {uin : Universal} {xch : List XChan} {lop : Loops} {dio : Contacts} {can : Can} {pair : Pair} {wtc : Tower} {dom : Dome} {pnl : Panel} {pwr : Power}
    (h : Kept d f)
    (counter : f.vault.counter = vault.counter)
    (ring : memWf f.qch.ring = true → memWf qch.ring = true)
    (desc : memWf f.qch.desc = true → memWf qch.desc = true)
    (hq : f.queues.q.length = 64 → queues.q.length = 64)
    (windows : f.turn.clkRuns.length = 11 → turn.clkRuns.length = 11)
    (sessions : f.host.sessions.length = 9 → host.sessions.length = 9)
    (slots : f.vault.images.length = 2 → vault.images.length = 2)
    (slotBytes : (∀ x ∈ f.vault.images, memWf x.mem = true) → ∀ x ∈ vault.images, memWf x.mem = true)
    (bases : f.phs.bases.length = 3 → phs.bases.length = 3)
    (charge : f.qch.chans.length = 12 → qch.chans.length = 12)
    (scans : f.uin.scans.length = 4 → uin.scans.length = 4)
    (inputs : f.uin.chans.length = 48 → uin.chans.length = 48)
    (drives : f.xch.length = 8 → xch.length = 8)
    (loops : f.lop.ins.length = 16 → lop.ins.length = 16)
    (pulses : f.dio.ptPhase.length = 32 → dio.ptPhase.length = 32)
    (bus : f.can.chans.length = 4 → can.chans.length = 4)
    (buffers : (∀ c ∈ f.can.chans, c.bufs.length = 3) → ∀ c ∈ can.chans, c.bufs.length = 3)
    (tests : f.wtc.latDone.length = 12 → wtc.latDone.length = 12)
    (updates : f.pnl.runs.length = 16 → pnl.runs.length = 16) :
    Kept d ⟨f.clk, free, f.regs, wb, gate, pulse, queues, f.image, turn, jrn, host, vault, phs, qch, uin, xch, lop, dio, can, pair, wtc, dom, pnl, pwr⟩ :=
  h.trans <| Kept.of_eq rfl rfl counter.symm
    (fun h => ⟨hq h.queues, windows h.windows, sessions h.sessions, slots h.slots, slotBytes h.slotBytes,
      bases h.bases, charge h.charge, scans h.scans, inputs h.inputs, drives h.drives, loops h.loops, pulses h.pulses,
      bus h.bus, buffers h.buffers, tests h.tests, updates h.updates⟩)
    (fun h => ⟨h.1, ring h.2.1, desc h.2.2⟩)

theorem whenUp_kept {z d : Dev} (f : Dev → Dev) (k : Kept z d) (h : ∀ d, Kept z d → Kept z (f d)) :
    Kept z (d.whenUp f) := by
  unfold Dev.whenUp
  split
  · exact h _ k
  · exact k

@[simp] theorem setDup_chans (c : Can) (x : DupState) : (c.setDup x).chans = c.chans := rfl

/-! Setters -/

theorem promo_kept {z d : Dev} (l : List Nat) (k : Kept z d) :
    Kept z { d with queues := { d.queues with promo := l } } :=
  k.trans <| Kept.of_eq rfl rfl rfl (fun s => { s with }) id

theorem forgot_kept {z d : Dev} (j : Journal) (k : Kept z d) :
    Kept z
      { d with
        jrn := j, host := { d.host with written := [] }
        can := { d.can with chans := d.can.chans.map (fun c => { c with owed := [], backlog := [] }) } } :=
  k.trans <| Kept.of_eq rfl rfl rfl
    (fun s => { s with
      bus := by simpa using s.bus
      buffers := fun c hc => by
        obtain ⟨x, hx, rfl⟩ := List.mem_map.mp hc
        exact s.buffers x hx }) id

theorem desc_kept {z d : Dev} (a : Nat) (bs : List Byte) (k : Kept z d) :
    Kept z { d with qch := { d.qch with desc := memWrite d.qch.desc a bs } } :=
  k.trans <| Kept.of_eq rfl rfl rfl (fun s => { s with }) (fun h => ⟨h.1, h.2.1, memWf_memWrite _ _ _ h.2.2⟩)


theorem wr_kept {z d : Dev} (a : Nat) (w : Word) (k : Kept z d) : Kept z (d.wr a w) :=
  k.trans <| Kept.of_eq rfl rfl rfl (fun h => { h with }) (fun h => ⟨regsWf_regSet _ _ _ h.1, h.2⟩)

theorem evtOn_kept {z d : Dev} (a : Nat) (f : Field) (v : Nat) (k : Kept z d) :
    Kept z { d.wrF a f v with host := { d.host with evtOn := true } } :=
  (wr_kept a _ k).trans <| Kept.of_eq rfl rfl rfl (fun s => { s with }) id


theorem setTurn_kept {z d : Dev} (f : Turn → Turn) (k : Kept z d)
    (h : ∀ t, t.clkRuns.length = 11 → (f t).clkRuns.length = 11) : Kept z (d.setTurn f) :=
  k.trans <| Kept.of_eq rfl rfl rfl (fun s => { s with windows := h _ s.windows }) id

theorem setJrn_kept {z d : Dev} (f : Journal → Journal) (k : Kept z d) : Kept z (d.setJrn f) :=
  k.trans <| Kept.of_eq rfl rfl rfl (fun s => { s with }) id

theorem setPair_kept {z d : Dev} (f : Pair → Pair) (k : Kept z d) : Kept z (d.setPair f) :=
  k.trans <| Kept.of_eq rfl rfl rfl (fun s => { s with }) id

theorem setDom_kept {z d : Dev} (f : Dome → Dome) (k : Kept z d) : Kept z (d.setDom f) :=
  k.trans <| Kept.of_eq rfl rfl rfl (fun s => { s with }) id

theorem setPwr_kept {z d : Dev} (f : Power → Power) (k : Kept z d) : Kept z (d.setPwr f) :=
  k.trans <| Kept.of_eq rfl rfl rfl (fun s => { s with }) id

theorem setDio_kept {z d : Dev} (f : Contacts → Contacts) (k : Kept z d)
    (h : ∀ c, c.ptPhase.length = 32 → (f c).ptPhase.length = 32) : Kept z (d.setDio f) :=
  k.trans <| Kept.of_eq rfl rfl rfl (fun s => { s with pulses := h _ s.pulses }) id

theorem setPnl_kept {z d : Dev} (f : Panel → Panel) (k : Kept z d)
    (h : ∀ c, c.runs.length = 16 → (f c).runs.length = 16) : Kept z (d.setPnl f) :=
  k.trans <| Kept.of_eq rfl rfl rfl (fun s => { s with updates := h _ s.updates }) id

theorem setWtc_kept {z d : Dev} (f : Tower → Tower) (k : Kept z d)
    (h : ∀ c, c.latDone.length = 12 → (f c).latDone.length = 12) : Kept z (d.setWtc f) :=
  k.trans <| Kept.of_eq rfl rfl rfl (fun s => { s with tests := h _ s.tests }) id

theorem setHost_kept {z d : Dev} (f : HostPort → HostPort) (k : Kept z d)
    (h : ∀ c, c.sessions.length = 9 → (f c).sessions.length = 9) : Kept z (d.setHost f) :=
  k.trans <| Kept.of_eq rfl rfl rfl (fun s => { s with sessions := h _ s.sessions }) id

theorem setVault_kept {z d : Dev} (f : Vault → Vault) (k : Kept z d) (hc : ∀ v, (f v).counter = v.counter)
    (hl : ∀ v, v.images.length = 2 → (f v).images.length = 2)
    (hm : ∀ v, (∀ x ∈ v.images, memWf x.mem = true) → ∀ x ∈ (f v).images, memWf x.mem = true) :
    Kept z (d.setVault f) :=
  k.trans <| Kept.of_eq rfl rfl (hc _) (fun s => { s with slots := hl _ s.slots, slotBytes := hm _ s.slotBytes }) id

theorem setImgSlot_kept {z d : Dev} (n : Nat) (f : ImgSlot → ImgSlot) (k : Kept z d)
    (h : ∀ x, memWf x.mem = true → memWf (f x).mem = true) : Kept z (d.setImgSlot n f) :=
  setVault_kept _ k (fun _ => rfl) (fun _ hv => by simpa using hv) (fun _ hv => mem_upd h hv)

theorem setCan_kept {z d : Dev} (f : Can → Can) (k : Kept z d)
    (h : ∀ c, c.chans.length = 4 → (f c).chans.length = 4)
    (hb : ∀ c, (∀ x ∈ c.chans, x.bufs.length = 3) → ∀ x ∈ (f c).chans, x.bufs.length = 3) : Kept z (d.setCan f) :=
  k.trans <| Kept.of_eq rfl rfl rfl (fun s => { s with bus := h _ s.bus, buffers := hb _ s.buffers }) id

theorem setCanCh_kept {z d : Dev} (n : Nat) (f : CanCh → CanCh) (k : Kept z d)
    (h : ∀ x, x.bufs.length = 3 → (f x).bufs.length = 3) : Kept z (d.setCanCh n f) :=
  setCan_kept _ k (fun _ hc => by simpa using hc) (fun _ hc => mem_upd h hc)

/-! The shared operations of Machine/Ops.lean. -/

theorem wrF_kept {z0 d : Dev} (a : Nat) (f : Field) (v : Nat) (hk0 : Kept z0 d) :
    Kept z0 (Dev.wrF d a f v) := by
  unfold Dev.wrF
  repeat' first
    | with_reducible assumption
    | with_reducible apply wr_kept

theorem incF_kept {z0 d : Dev} (a : Nat) (f : Field) (hk0 : Kept z0 d) :
    Kept z0 (Dev.incF d a f) := by
  unfold Dev.incF
  repeat' first
    | with_reducible assumption
    | with_reducible apply wrF_kept

theorem wrFs_kept {z0 d : Dev} (a : Nat) (fs : List (Field × Nat)) (hk0 : Kept z0 d) :
    Kept z0 (Dev.wrFs d a fs) := by
  unfold Dev.wrFs
  repeat' first
    | with_reducible assumption
    | with_reducible apply wr_kept

theorem flag_kept {z0 d : Dev} (a b : Nat) (hk0 : Kept z0 d) :
    Kept z0 (Dev.flag d a b) := by
  unfold Dev.flag
  repeat' first
    | (intro zz; refine Kept.have (x := zz) ?_ (fun _ => ?_); unfold zz; rotate_left; clear_value zz; rotate_right)
    | with_reducible assumption
    | with_reducible apply wr_kept

theorem clearFlags_kept {z0 d : Dev} (a : Nat) (mask value : Word) (hk0 : Kept z0 d) :
    Kept z0 (Dev.clearFlags d a mask value) := by
  unfold Dev.clearFlags
  repeat' first
    | (intro zz; refine Kept.have (x := zz) ?_ (fun _ => ?_); unfold zz; rotate_left; clear_value zz; rotate_right)
    | with_reducible assumption
    | with_reducible apply wr_kept
    | with_reducible apply Kept.ite

theorem freeVal_kept {z0 d : Dev} (w : Nat) (hk0 : Kept z0 d) :
    Kept z0 (Dev.freeVal d w).2 := by
  unfold Dev.freeVal
  repeat' first
    | with_reducible assumption
    | exact rfl
    | (intro h; exact h)
    | with_reducible apply Kept.with

theorem setQueue_kept {z0 d : Dev} (q : Nat) (l : List QElem) (hk0 : Kept z0 d) :
    Kept z0 (Dev.setQueue d q l) := by
  unfold Dev.setQueue
  repeat' first
    | with_reducible assumption
    | exact rfl
    | (intro h; simp [h, memWf_memWrite]; done)
    | (intro h; exact h)
    | with_reducible apply Kept.with

theorem evMark_kept {z0 d : Dev} (n : Nat) (hk0 : Kept z0 d) :
    Kept z0 (Dev.evMark d n) := by
  unfold Dev.evMark
  repeat' first
    | (intro zz; refine Kept.have (x := zz) ?_ (fun _ => ?_); unfold zz; rotate_left; clear_value zz; rotate_right)
    | with_reducible assumption
    | with_reducible apply wrF_kept
    | exact rfl
    | (intro h; exact h)
    | split
    | with_reducible apply Kept.with

theorem setCounts_kept {z0 d : Dev} (f : List Nat → List Nat) (hk0 : Kept z0 d) :
    Kept z0 (Dev.setCounts d f) := by
  unfold Dev.setCounts
  repeat' first
    | with_reducible assumption
    | exact rfl
    | (intro h; exact h)
    | with_reducible apply Kept.with

theorem evBump_kept {z0 d : Dev} (n : Nat) (hk0 : Kept z0 d) :
    Kept z0 (Dev.evBump d n) := by
  unfold Dev.evBump
  repeat' first
    | with_reducible assumption
    | with_reducible apply setQueue_kept
    | split

theorem q49Full_kept {z0 d : Dev}  (hk0 : Kept z0 d) :
    Kept z0 (Dev.q49Full d) := by
  unfold Dev.q49Full
  repeat' first
    | (intro zz; refine Kept.have (x := zz) ?_ (fun _ => ?_); unfold zz; rotate_left; clear_value zz; rotate_right)
    | with_reducible assumption
    | with_reducible apply flag_kept
    | with_reducible apply evMark_kept
    | with_reducible apply evBump_kept
    | with_reducible apply Kept.ite
    | split

theorem raise_kept {z0 d : Dev} (n : Nat) (hk0 : Kept z0 d) :
    Kept z0 (Dev.raise d n) := by
  unfold Dev.raise
  repeat' first
    | (intro zz; refine Kept.have (x := zz) ?_ (fun _ => ?_); unfold zz; rotate_left; clear_value zz; rotate_right)
    | with_reducible assumption
    | with_reducible apply evMark_kept
    | with_reducible apply evBump_kept
    | with_reducible apply setQueue_kept
    | with_reducible apply setCounts_kept
    | with_reducible apply q49Full_kept
    | with_reducible apply Kept.ite
    | split

theorem raiseIf_kept {z0 d : Dev} (b : Bool) (n : Nat) (hk0 : Kept z0 d) :
    Kept z0 (Dev.raiseIf d b n) := by
  unfold Dev.raiseIf
  repeat' first
    | with_reducible assumption
    | with_reducible apply raise_kept
    | split

theorem flagEv_kept {z0 d : Dev} (a b ev : Nat) (hk0 : Kept z0 d) :
    Kept z0 (Dev.flagEv d a b ev) := by
  unfold Dev.flagEv
  repeat' first
    | with_reducible assumption
    | with_reducible apply flag_kept
    | with_reducible apply raise_kept

theorem refuse_kept {z0 d : Dev} (q : Nat) (hk0 : Kept z0 d) :
    Kept z0 (Dev.refuse d q) := by
  unfold Dev.refuse
  repeat' first
    | with_reducible assumption
    | with_reducible apply flag_kept
    | with_reducible apply raise_kept

theorem push_kept {z0 d : Dev} (q : Nat) (bytes : List Byte) (ref : Option HostRef) (hk0 : Kept z0 d) :
    Kept z0 (Dev.push d q bytes ref) := by
  unfold Dev.push
  repeat' first
    | with_reducible assumption
    | with_reducible apply setQueue_kept
    | with_reducible apply refuse_kept
    | split

theorem pop_kept {z0 d : Dev} (q : Nat) (hk0 : Kept z0 d) :
    Kept z0 (Dev.pop d q) := by
  unfold Dev.pop
  repeat' first
    | (intro zz; refine Kept.have (x := zz) ?_ (fun _ => ?_); unfold zz; rotate_left; clear_value zz; rotate_right)
    | with_reducible assumption
    | with_reducible apply setQueue_kept
    | exact rfl
    | (intro h; exact h)
    | with_reducible apply Kept.with

theorem notify_kept {z0 d : Dev} (q : Nat) (bytes : List Byte) (ev : Nat) (hk0 : Kept z0 d) :
    Kept z0 (Dev.notify d q bytes ev) := by
  unfold Dev.notify
  repeat' first
    | (intro zz; refine Kept.have (x := zz) ?_ (fun _ => ?_); unfold zz; rotate_left; clear_value zz; rotate_right)
    | with_reducible assumption
    | with_reducible apply push_kept
    | with_reducible apply raise_kept
    | split

theorem pushFree_kept {z0 d : Dev} (q : Nat) (bytes : List Byte) (ref : Option HostRef) (hk0 : Kept z0 d) :
    Kept z0 (Dev.pushFree d q bytes ref) := by
  unfold Dev.pushFree
  repeat' first
    | with_reducible assumption
    | with_reducible apply push_kept
    | with_reducible apply refuse_kept
    | split

theorem happen_kept {z0 d : Dev} (e : Entry) (hk0 : Kept z0 d) :
    Kept z0 (Dev.happen d e) := by
  unfold Dev.happen
  repeat' first
    | with_reducible assumption
    | exact rfl
    | (intro h; exact h)
    | with_reducible apply Kept.with

theorem setXRun_kept {z0 d : Dev} (kind idx : Nat) (n : Option Nat) (hk0 : Kept z0 d) :
    Kept z0 (Dev.setXRun d kind idx n) := by
  unfold Dev.setXRun
  repeat' first
    | (intro zz; first
        | (refine Kept.have (x := zz) ?_ (fun _ => ?_); unfold zz; rotate_left; clear_value zz; rotate_right)
        | (refine Kept.have (x := zz.2) ?_ (fun _ => ?_); unfold zz; rotate_left; clear_value zz; rotate_right)
        | (refine Kept.have (x := zz.1) ?_ (fun _ => ?_); unfold zz; rotate_left; clear_value zz; rotate_right)
        | clear_value zz)
    | with_reducible assumption
    | with_reducible exact Kept.refl _
    | with_reducible apply Kept.ite
    | with_reducible exact fun _ => rfl
    | with_reducible exact fun _ h => h
    | with_reducible exact id
    | with_reducible rfl
    | exact rfl
    | (intro x h; simp [h, memWf_memWrite]; done)
    | (intro h; simp [h, memWf_memWrite]; done)
    | (intro h; exact h)
    | (intro x h; simpa using h; done)
    | (intro _ _; exact rfl)
    | (intro h; exact mem_upd (fun _ k => k) h)
    | (intro x h; exact mem_upd (fun _ k => k) h)
    | lift_lets
    | split
    | with_reducible apply Kept.with
    | dsimp (zeta := false) only

theorem xCompare_kept {z0 d : Dev} (kind idx : Nat) (differs : Bool) (reg bit ev : Nat) (hk0 : Kept z0 d) :
    Kept z0 (Dev.xCompare d kind idx differs reg bit ev) := by
  unfold Dev.xCompare
  repeat' first
    | with_reducible assumption
    | with_reducible exact Kept.refl _
    | with_reducible apply setXRun_kept
    | with_reducible apply flagEv_kept
    | with_reducible apply Kept.ite
    | with_reducible exact fun _ => rfl
    | with_reducible exact fun _ h => h
    | with_reducible exact id
    | with_reducible rfl
    | exact rfl
    | (intro x h; simp [h, memWf_memWrite]; done)
    | (intro h; simp [h, memWf_memWrite]; done)
    | (intro h; exact h)
    | (intro x h; simpa using h; done)
    | (intro _ _; exact rfl)
    | (intro h; exact mem_upd (fun _ k => k) h)
    | (intro x h; exact mem_upd (fun _ k => k) h)
    | split
    | dsimp (zeta := false) only

theorem closeGate_kept {z0 d : Dev}  (hk0 : Kept z0 d) :
    Kept z0 (Dev.closeGate d) := by
  unfold Dev.closeGate
  repeat' first
    | with_reducible assumption
    | with_reducible exact Kept.refl _
    | with_reducible apply wrF_kept
    | with_reducible apply Kept.ite
    | with_reducible exact fun _ => rfl
    | with_reducible exact fun _ h => h
    | with_reducible exact id
    | with_reducible rfl
    | exact rfl
    | (intro x h; simp [h, memWf_memWrite]; done)
    | (intro h; simp [h, memWf_memWrite]; done)
    | (intro h; exact h)
    | (intro x h; simpa using h; done)
    | (intro _ _; exact rfl)
    | (intro h; exact mem_upd (fun _ k => k) h)
    | (intro x h; exact mem_upd (fun _ k => k) h)
    | split
    | with_reducible apply Kept.with
    | dsimp (zeta := false) only

theorem passGate_kept {z0 d : Dev} (sess addr : Nat) (hk0 : Kept z0 d) : Kept z0 (Dev.passGate d sess addr).2 := by
  have h : Kept z0 (Dev.passGate.guard_ sess addr d) := happen_kept _ (flagEv_kept _ _ _ (wrF_kept _ _ _ hk0))
  unfold Dev.passGate
  split
  · split
    · exact closeGate_kept hk0
    · exact h
  · exact h

theorem wbWrite_kept {z0 d : Dev} (a : Nat) (mask value : Word) (sess : Nat) (hk0 : Kept z0 d) :
    Kept z0 (Dev.wbWrite d a mask value sess) := by
  unfold Dev.wbWrite
  repeat' first
    | with_reducible assumption
    | with_reducible exact Kept.refl _
    | with_reducible apply wrF_kept
    | with_reducible apply Kept.ite
    | with_reducible exact fun _ => rfl
    | with_reducible exact fun _ h => h
    | with_reducible exact id
    | with_reducible rfl
    | exact rfl
    | (intro x h; simp [h, memWf_memWrite]; done)
    | (intro h; simp [h, memWf_memWrite]; done)
    | (intro h; exact h)
    | (intro x h; simpa using h; done)
    | (intro _ _; exact rfl)
    | (intro h; exact mem_upd (fun _ k => k) h)
    | (intro x h; exact mem_upd (fun _ k => k) h)
    | split
    | with_reducible apply Kept.with
    | dsimp (zeta := false) only

theorem wbDrop_kept {z0 d : Dev} (a : Nat) (hk0 : Kept z0 d) :
    Kept z0 (Dev.wbDrop d a) := by
  unfold Dev.wbDrop
  repeat' first
    | with_reducible assumption
    | with_reducible exact Kept.refl _
    | with_reducible apply wrF_kept
    | with_reducible apply Kept.ite
    | with_reducible exact fun _ => rfl
    | with_reducible exact fun _ h => h
    | with_reducible exact id
    | with_reducible rfl
    | exact rfl
    | (intro x h; simp [h, memWf_memWrite]; done)
    | (intro h; simp [h, memWf_memWrite]; done)
    | (intro h; exact h)
    | (intro x h; simpa using h; done)
    | (intro _ _; exact rfl)
    | (intro h; exact mem_upd (fun _ k => k) h)
    | (intro x h; exact mem_upd (fun _ k => k) h)
    | split
    | with_reducible apply Kept.with
    | dsimp (zeta := false) only

theorem wbApply_kept {z0 d : Dev} (a : Nat) (mask : Word) (hk0 : Kept z0 d) :
    Kept z0 (Dev.wbApply d a mask) := by
  unfold Dev.wbApply
  repeat' first
    | (intro zz; first
        | (refine Kept.have (x := zz) ?_ (fun _ => ?_); unfold zz; rotate_left; clear_value zz; rotate_right)
        | (refine Kept.have (x := zz.2) ?_ (fun _ => ?_); unfold zz; rotate_left; clear_value zz; rotate_right)
        | (refine Kept.have (x := zz.1) ?_ (fun _ => ?_); unfold zz; rotate_left; clear_value zz; rotate_right)
        | clear_value zz)
    | with_reducible assumption
    | with_reducible exact Kept.refl _
    | with_reducible apply wr_kept
    | with_reducible apply wbDrop_kept
    | with_reducible apply Kept.ite
    | with_reducible exact fun _ => rfl
    | with_reducible exact fun _ h => h
    | with_reducible exact id
    | with_reducible rfl
    | exact rfl
    | (intro x h; simp [h, memWf_memWrite]; done)
    | (intro h; simp [h, memWf_memWrite]; done)
    | (intro h; exact h)
    | (intro x h; simpa using h; done)
    | (intro _ _; exact rfl)
    | (intro h; exact mem_upd (fun _ k => k) h)
    | (intro x h; exact mem_upd (fun _ k => k) h)
    | lift_lets
    | split
    | with_reducible apply Kept.with
    | dsimp (zeta := false) only

theorem wbDiscard_kept {z0 d : Dev}  (hk0 : Kept z0 d) :
    Kept z0 (Dev.wbDiscard d) := by
  unfold Dev.wbDiscard
  repeat' first
    | with_reducible assumption
    | with_reducible exact Kept.refl _
    | with_reducible apply wbDrop_kept
    | with_reducible apply Kept.foldl
    | (intro _ _ _ _; show Kept _ _)
    | (intro _ _ _; show Kept _ _)
    | (intro _ _; show Kept _ _)
    | with_reducible apply Kept.ite
    | with_reducible exact fun _ => rfl
    | with_reducible exact fun _ h => h
    | with_reducible exact id
    | with_reducible rfl
    | exact rfl
    | (intro x h; simp [h, memWf_memWrite]; done)
    | (intro h; simp [h, memWf_memWrite]; done)
    | (intro h; exact h)
    | (intro x h; simpa using h; done)
    | (intro _ _; exact rfl)
    | (intro h; exact mem_upd (fun _ k => k) h)
    | (intro x h; exact mem_upd (fun _ k => k) h)
    | split
    | dsimp (zeta := false) only

end Sys2Proof.Machine
end

