-- ==== Sys2Proof/Laws/KeptUnits.lean ====
section
/-!
SUPPORT. What the operations of the phase bases, the channels, the contacts, the panel and the HART modems keep.
-/
namespace Sys2Proof.Machine

theorem setBase_kept {z0 d : Dev} (b : Nat) (x : Base) (hk0 : Kept z0 d) :
    Kept z0 (Dev.setBase d b x) := by
  unfold Dev.setBase
  repeat' first
    | with_reducible assumption
    | with_reducible exact Kept.refl _
    | with_reducible apply Kept.ite
    | with_reducible exact fun _ => rfl
    | with_reducible exact fun _ h => h
    | with_reducible exact id
    | with_reducible rfl
    | exact rfl
    | (intro x h; simp [h, memWf_memWrite]; done)
    | (intro h; simp [h, memWf_memWrite]; done)
    | (intro h; exact h)
    | (intro x h; simpa using h; done)
    | (intro _ _; exact rfl)
    | (intro h; exact mem_upd (fun _ k => k) h)
    | (intro x h; exact mem_upd (fun _ k => k) h)
    | split
    | with_reducible apply Kept.with
    | dsimp (zeta := false) only

theorem showBase_kept {z0 d : Dev} (b : Nat) (hk0 : Kept z0 d) :
    Kept z0 (Dev.showBase d b) := by
  unfold Dev.showBase
  repeat' first
    | (intro zz; first
        | (refine Kept.have (x := zz) ?_ (fun _ => ?_); unfold zz; rotate_left; clear_value zz; rotate_right)
        | (refine Kept.have (x := zz.2) ?_ (fun _ => ?_); unfold zz; rotate_left; clear_value zz; rotate_right)
        | (refine Kept.have (x := zz.1) ?_ (fun _ => ?_); unfold zz; rotate_left; clear_value zz; rotate_right)
        | clear_value zz)
    | with_reducible assumption
    | with_reducible exact Kept.refl _
    | with_reducible apply wrF_kept
    | with_reducible apply Kept.ite
    | with_reducible exact fun _ => rfl
    | with_reducible exact fun _ h => h
    | with_reducible exact id
    | with_reducible rfl
    | exact rfl
    | (intro x h; simp [h, memWf_memWrite]; done)
    | (intro h; simp [h, memWf_memWrite]; done)
    | (intro h; exact h)
    | (intro x h; simpa using h; done)
    | (intro _ _; exact rfl)
    | (intro h; exact mem_upd (fun _ k => k) h)
    | (intro x h; exact mem_upd (fun _ k => k) h)
    | lift_lets
    | split
    | dsimp (zeta := false) only

theorem setLi_kept {z0 d : Dev} (n : Nat) (f : LoopIn → LoopIn) (hk0 : Kept z0 d) :
    Kept z0 (Dev.setLi d n f) := by
  unfold Dev.setLi
  repeat' first
    | with_reducible assumption
    | with_reducible exact Kept.refl _
    | with_reducible apply Kept.ite
    | with_reducible exact fun _ => rfl
    | with_reducible exact fun _ h => h
    | with_reducible exact id
    | with_reducible rfl
    | exact rfl
    | (intro x h; simp [h, memWf_memWrite]; done)
    | (intro h; simp [h, memWf_memWrite]; done)
    | (intro h; exact h)
    | (intro x h; simpa using h; done)
    | (intro _ _; exact rfl)
    | (intro h; exact mem_upd (fun _ k => k) h)
    | (intro x h; exact mem_upd (fun _ k => k) h)
    | split
    | with_reducible apply Kept.with
    | dsimp (zeta := false) only

theorem setLo_kept {z0 d : Dev} (n : Nat) (f : LoopOut → LoopOut) (hk0 : Kept z0 d) :
    Kept z0 (Dev.setLo d n f) := by
  unfold Dev.setLo
  repeat' first
    | with_reducible assumption
    | with_reducible exact Kept.refl _
    | with_reducible apply Kept.ite
    | with_reducible exact fun _ => rfl
    | with_reducible exact fun _ h => h
    | with_reducible exact id
    | with_reducible rfl
    | exact rfl
    | (intro x h; simp [h, memWf_memWrite]; done)
    | (intro h; simp [h, memWf_memWrite]; done)
    | (intro h; exact h)
    | (intro x h; simpa using h; done)
    | (intro _ _; exact rfl)
    | (intro h; exact mem_upd (fun _ k => k) h)
    | (intro x h; exact mem_upd (fun _ k => k) h)
    | split
    | with_reducible apply Kept.with
    | dsimp (zeta := false) only

theorem lRelease_kept {z0 d : Dev} (n st : Nat) (raw value : Int) (hk0 : Kept z0 d) :
    Kept z0 (Dev.lRelease d n st raw value) := by
  unfold Dev.lRelease
  repeat' first
    | (intro zz; first
        | (refine Kept.have (x := zz) ?_ (fun _ => ?_); unfold zz; rotate_left; clear_value zz; rotate_right)
        | (refine Kept.have (x := zz.2) ?_ (fun _ => ?_); unfold zz; rotate_left; clear_value zz; rotate_right)
        | (refine Kept.have (x := zz.1) ?_ (fun _ => ?_); unfold zz; rotate_left; clear_value zz; rotate_right)
        | clear_value zz)
    | with_reducible assumption
    | with_reducible exact Kept.refl _
    | with_reducible apply wrF_kept
    | with_reducible apply setLi_kept
    | with_reducible apply wr_kept
    | with_reducible apply flag_kept
    | with_reducible apply flagEv_kept
    | with_reducible apply raiseIf_kept
    | with_reducible apply Kept.ite
    | with_reducible exact fun _ => rfl
    | with_reducible exact fun _ h => h
    | with_reducible exact id
    | with_reducible rfl
    | exact rfl
    | (intro x h; simp [h, memWf_memWrite]; done)
    | (intro h; simp [h, memWf_memWrite]; done)
    | (intro h; exact h)
    | (intro x h; simpa using h; done)
    | (intro _ _; exact rfl)
    | (intro h; exact mem_upd (fun _ k => k) h)
    | (intro x h; exact mem_upd (fun _ k => k) h)
    | lift_lets
    | split
    | with_reducible apply Kept.with
    | dsimp (zeta := false) only

theorem lSupply_kept {z0 d : Dev} (n : Nat) (isup : Int) (limUs : Nat) (hk0 : Kept z0 d) :
    Kept z0 (Dev.lSupply d n isup limUs) := by
  unfold Dev.lSupply
  repeat' first
    | (intro zz; first
        | (refine Kept.have (x := zz) ?_ (fun _ => ?_); unfold zz; rotate_left; clear_value zz; rotate_right)
        | (refine Kept.have (x := zz.2) ?_ (fun _ => ?_); unfold zz; rotate_left; clear_value zz; rotate_right)
        | (refine Kept.have (x := zz.1) ?_ (fun _ => ?_); unfold zz; rotate_left; clear_value zz; rotate_right)
        | clear_value zz)
    | with_reducible assumption
    | with_reducible exact Kept.refl _
    | with_reducible apply wrFs_kept
    | with_reducible apply Kept.ite
    | with_reducible exact fun _ => rfl
    | with_reducible exact fun _ h => h
    | with_reducible exact id
    | with_reducible rfl
    | exact rfl
    | (intro x h; simp [h, memWf_memWrite]; done)
    | (intro h; simp [h, memWf_memWrite]; done)
    | (intro h; exact h)
    | (intro x h; simpa using h; done)
    | (intro _ _; exact rfl)
    | (intro h; exact mem_upd (fun _ k => k) h)
    | (intro x h; exact mem_upd (fun _ k => k) h)
    | lift_lets
    | split
    | dsimp (zeta := false) only

theorem lConvEnd_kept {z0 d : Dev} (n : Nat) (raw isup : Int) (limUs : Nat) (hk0 : Kept z0 d) :
    Kept z0 (Dev.lConvEnd d n raw isup limUs) := by
  unfold Dev.lConvEnd
  repeat' first
    | (intro zz; first
        | (refine Kept.have (x := zz) ?_ (fun _ => ?_); unfold zz; rotate_left; clear_value zz; rotate_right)
        | (refine Kept.have (x := zz.2) ?_ (fun _ => ?_); unfold zz; rotate_left; clear_value zz; rotate_right)
        | (refine Kept.have (x := zz.1) ?_ (fun _ => ?_); unfold zz; rotate_left; clear_value zz; rotate_right)
        | clear_value zz)
    | with_reducible assumption
    | with_reducible exact Kept.refl _
    | with_reducible apply lSupply_kept
    | with_reducible apply setLi_kept
    | with_reducible apply lRelease_kept
    | with_reducible apply Kept.ite
    | with_reducible exact fun _ => rfl
    | with_reducible exact fun _ h => h
    | with_reducible exact id
    | with_reducible rfl
    | exact rfl
    | (intro x h; simp [h, memWf_memWrite]; done)
    | (intro h; simp [h, memWf_memWrite]; done)
    | (intro h; exact h)
    | (intro x h; simpa using h; done)
    | (intro _ _; exact rfl)
    | (intro h; exact mem_upd (fun _ k => k) h)
    | (intro x h; exact mem_upd (fun _ k => k) h)
    | lift_lets
    | split
    | with_reducible apply Kept.with
    | dsimp (zeta := false) only

theorem lSupplyOn_kept {z0 d : Dev} (n : Nat) (hk0 : Kept z0 d) :
    Kept z0 (Dev.lSupplyOn d n) := by
  unfold Dev.lSupplyOn
  repeat' first
    | with_reducible assumption
    | with_reducible exact Kept.refl _
    | with_reducible apply setLi_kept
    | with_reducible apply Kept.ite
    | with_reducible exact fun _ => rfl
    | with_reducible exact fun _ h => h
    | with_reducible exact id
    | with_reducible rfl
    | exact rfl
    | (intro x h; simp [h, memWf_memWrite]; done)
    | (intro h; simp [h, memWf_memWrite]; done)
    | (intro h; exact h)
    | (intro x h; simpa using h; done)
    | (intro _ _; exact rfl)
    | (intro h; exact mem_upd (fun _ k => k) h)
    | (intro x h; exact mem_upd (fun _ k => k) h)
    | split
    | with_reducible apply Kept.with
    | dsimp (zeta := false) only

theorem lSupplyOff_kept {z0 d : Dev} (n : Nat) (opened : Bool) (hk0 : Kept z0 d) :
    Kept z0 (Dev.lSupplyOff d n opened) := by
  unfold Dev.lSupplyOff
  repeat' first
    | (intro zz; first
        | (refine Kept.have (x := zz) ?_ (fun _ => ?_); unfold zz; rotate_left; clear_value zz; rotate_right)
        | (refine Kept.have (x := zz.2) ?_ (fun _ => ?_); unfold zz; rotate_left; clear_value zz; rotate_right)
        | (refine Kept.have (x := zz.1) ?_ (fun _ => ?_); unfold zz; rotate_left; clear_value zz; rotate_right)
        | clear_value zz)
    | with_reducible assumption
    | with_reducible exact Kept.refl _
    | with_reducible apply setLi_kept
    | with_reducible apply wrFs_kept
    | with_reducible apply Kept.ite
    | with_reducible exact fun _ => rfl
    | with_reducible exact fun _ h => h
    | with_reducible exact id
    | with_reducible rfl
    | exact rfl
    | (intro x h; simp [h, memWf_memWrite]; done)
    | (intro h; simp [h, memWf_memWrite]; done)
    | (intro h; exact h)
    | (intro x h; simpa using h; done)
    | (intro _ _; exact rfl)
    | (intro h; exact mem_upd (fun _ k => k) h)
    | (intro x h; exact mem_upd (fun _ k => k) h)
    | lift_lets
    | split
    | with_reducible apply Kept.with
    | dsimp (zeta := false) only

theorem lTstartEnd_kept {z0 d : Dev} (n : Nat) (hk0 : Kept z0 d) :
    Kept z0 (Dev.lTstartEnd d n) := by
  unfold Dev.lTstartEnd
  repeat' first
    | with_reducible assumption
    | with_reducible exact Kept.refl _
    | with_reducible apply setLi_kept
    | with_reducible apply Kept.ite
    | with_reducible exact fun _ => rfl
    | with_reducible exact fun _ h => h
    | with_reducible exact id
    | with_reducible rfl
    | exact rfl
    | (intro x h; simp [h, memWf_memWrite]; done)
    | (intro h; simp [h, memWf_memWrite]; done)
    | (intro h; exact h)
    | (intro x h; simpa using h; done)
    | (intro _ _; exact rfl)
    | (intro h; exact mem_upd (fun _ k => k) h)
    | (intro x h; exact mem_upd (fun _ k => k) h)
    | split
    | with_reducible apply Kept.with
    | dsimp (zeta := false) only

theorem lClamp_kept {z0 d : Dev} (k : Nat) (hk0 : Kept z0 d) :
    Kept z0 (Dev.lClamp d k) := by
  unfold Dev.lClamp
  repeat' first
    | with_reducible assumption
    | with_reducible exact Kept.refl _
    | with_reducible apply setLi_kept
    | with_reducible apply flagEv_kept
    | with_reducible apply Kept.ite
    | with_reducible exact fun _ => rfl
    | with_reducible exact fun _ h => h
    | with_reducible exact id
    | with_reducible rfl
    | exact rfl
    | (intro x h; simp [h, memWf_memWrite]; done)
    | (intro h; simp [h, memWf_memWrite]; done)
    | (intro h; exact h)
    | (intro x h; simpa using h; done)
    | (intro _ _; exact rfl)
    | (intro h; exact mem_upd (fun _ k => k) h)
    | (intro x h; exact mem_upd (fun _ k => k) h)
    | split
    | with_reducible apply Kept.with
    | dsimp (zeta := false) only

theorem lopTurnStart_kept {z0 d : Dev}  (hk0 : Kept z0 d) :
    Kept z0 (Dev.lopTurnStart d) := by
  unfold Dev.lopTurnStart
  repeat' first
    | with_reducible assumption
    | with_reducible exact Kept.refl _
    | with_reducible apply Kept.ite
    | with_reducible exact fun _ => rfl
    | with_reducible exact fun _ h => h
    | with_reducible exact id
    | with_reducible rfl
    | exact rfl
    | (intro x h; simp [h, memWf_memWrite]; done)
    | (intro h; simp [h, memWf_memWrite]; done)
    | (intro h; exact h)
    | (intro x h; simpa using h; done)
    | (intro _ _; exact rfl)
    | (intro h; exact mem_upd (fun _ k => k) h)
    | (intro x h; exact mem_upd (fun _ k => k) h)
    | split
    | with_reducible apply Kept.with
    | dsimp (zeta := false) only

theorem loEmit_kept {z0 d : Dev} (n : Nat) (x : SetIn) (hk0 : Kept z0 d) :
    Kept z0 (Dev.loEmit d n x) := by
  unfold Dev.loEmit
  repeat' first
    | (intro zz; refine Kept.have (x := zz) ?_ (fun _ => ?_); unfold zz; rotate_left; clear_value zz; rotate_right)
    | with_reducible assumption
    | with_reducible apply setLo_kept
    | with_reducible apply wrF_kept
    | with_reducible apply Kept.ite

theorem loCompare_kept {z0 d : Dev} (n : Nat) (hk0 : Kept z0 d) :
    Kept z0 (Dev.loCompare d n) := by
  unfold Dev.loCompare
  repeat' first
    | (intro zz; refine Kept.have (x := zz) ?_ (fun _ => ?_); unfold zz; rotate_left; clear_value zz; rotate_right)
    | with_reducible assumption
    | with_reducible apply xCompare_kept
    | with_reducible apply Kept.ite

theorem loCompl_kept {z0 d : Dev} (n : Nat) (deviates : Bool) (actual : BitVec 16) (hk0 : Kept z0 d) :
    Kept z0 (Dev.loCompl d n deviates actual) := by
  unfold Dev.loCompl
  repeat' first
    | (intro zz; refine Kept.have (x := zz) ?_ (fun _ => ?_); unfold zz; rotate_left; clear_value zz; rotate_right)
    | with_reducible assumption
    | with_reducible apply wrF_kept
    | with_reducible apply flagEv_kept
    | with_reducible apply raise_kept
    | with_reducible apply Kept.ite

theorem loLatch_kept {z0 d : Dev} (n sel : Nat) (hk0 : Kept z0 d) :
    Kept z0 (Dev.loLatch d n sel).1 := by
  unfold Dev.loLatch
  repeat' first
    | (intro zz; refine Kept.have (x := zz) ?_ (fun _ => ?_); unfold zz; rotate_left; clear_value zz; rotate_right)
    | with_reducible assumption
    | with_reducible apply wbDrop_kept
    | with_reducible apply wrF_kept
    | with_reducible apply flagEv_kept
    | split

theorem loGain_kept {z0 d : Dev}  (hk0 : Kept z0 d) :
    Kept z0 (Dev.loGain d) := by
  unfold Dev.loGain
  repeat' first
    | (intro zz; refine Kept.have (x := zz) ?_ (fun _ => ?_); unfold zz; rotate_left; clear_value zz; rotate_right)
    | with_reducible assumption
    | with_reducible apply setLo_kept
    | with_reducible apply wrF_kept
    | with_reducible apply Kept.foldl
    | (intro _ _ _; show Kept _ _)
    | with_reducible apply Kept.ite

theorem loLoss_kept {z0 d : Dev}  (hk0 : Kept z0 d) :
    Kept z0 (Dev.loLoss d) := by
  unfold Dev.loLoss
  repeat' first
    | (intro zz; refine Kept.have (x := zz) ?_ (fun _ => ?_); unfold zz; rotate_left; clear_value zz; rotate_right)
    | with_reducible assumption
    | with_reducible apply wrF_kept
    | with_reducible apply wrFs_kept
    | with_reducible apply Kept.foldl
    | (intro _ _ _; show Kept _ _)

theorem liRegs_kept {z0 d : Dev} (n : Nat) (hk0 : Kept z0 d) :
    Kept z0 (Dev.liRegs d n) := by
  unfold Dev.liRegs
  repeat' first
    | (intro zz; refine Kept.have (x := zz) ?_ (fun _ => ?_); unfold zz; rotate_left; clear_value zz; rotate_right)
    | with_reducible assumption
    | with_reducible apply wrFs_kept

theorem loRegs_kept {z0 d : Dev} (n : Nat) (fresh : Bool) (hk0 : Kept z0 d) :
    Kept z0 (Dev.loRegs d n fresh) := by
  unfold Dev.loRegs
  repeat' first
    | (intro zz; refine Kept.have (x := zz) ?_ (fun _ => ?_); unfold zz; rotate_left; clear_value zz; rotate_right)
    | with_reducible assumption
    | with_reducible apply wrF_kept
    | with_reducible apply wrFs_kept
    | split

theorem liRestart_kept {z0 d : Dev} (n : Nat) (hk0 : Kept z0 d) :
    Kept z0 (Dev.liRestart d n) := by
  unfold Dev.liRestart
  repeat' first
    | (intro zz; refine Kept.have (x := zz) ?_ (fun _ => ?_); unfold zz; rotate_left; clear_value zz; rotate_right)
    | with_reducible assumption
    | with_reducible apply wrF_kept
    | with_reducible apply wrFs_kept
    | with_reducible apply setLi_kept
    | with_reducible apply lRelease_kept
    | with_reducible apply Kept.ite

theorem diRelease_kept {z0 d : Dev} (n st : Nat) (state : Bool) (hk0 : Kept z0 d) :
    Kept z0 (Dev.diRelease d n st state) := by
  unfold Dev.diRelease
  repeat' first
    | (intro zz; refine Kept.have (x := zz) ?_ (fun _ => ?_); unfold zz; rotate_left; clear_value zz; rotate_right)
    | with_reducible assumption
    | with_reducible apply wrF_kept
    | with_reducible apply raiseIf_kept
    | split

theorem setDi_kept {z0 d : Dev} (n : Nat) (x : DiChan) (hk0 : Kept z0 d) :
    Kept z0 (Dev.setDi d n x) := by
  unfold Dev.setDi
  repeat' first
    | with_reducible assumption
    | with_reducible apply setDio_kept
    | (intro x h; simpa using h; done)

theorem diSample_kept {z0 d : Dev} (n : Nat) (measured : Int) (later : Nat) (hk0 : Kept z0 d) :
    Kept z0 (Dev.diSample d n measured later) := by
  unfold Dev.diSample
  repeat' first
    | (intro zz; refine Kept.have (x := zz) ?_ (fun _ => ?_); unfold zz; rotate_left; clear_value zz; rotate_right)
    | with_reducible assumption
    | with_reducible apply setDi_kept
    | with_reducible apply wrF_kept
    | with_reducible apply diRelease_kept
    | exact rfl
    | (intro h; exact h)
    | split
    | with_reducible apply Kept.with

theorem diClamp_kept {z0 d : Dev} (n : Nat) (on : Bool) (hk0 : Kept z0 d) :
    Kept z0 (Dev.diClamp d n on) := by
  unfold Dev.diClamp
  repeat' first
    | (intro zz; refine Kept.have (x := zz) ?_ (fun _ => ?_); unfold zz; rotate_left; clear_value zz; rotate_right)
    | with_reducible assumption
    | with_reducible apply setDio_kept
    | with_reducible apply flagEv_kept
    | with_reducible apply setDi_kept
    | with_reducible apply diRelease_kept
    | with_reducible apply Kept.ite
    | (intro x h; simpa using h; done)

theorem doTake_kept {z0 d : Dev}  (hk0 : Kept z0 d) :
    Kept z0 (Dev.doTake d) := by
  unfold Dev.doTake
  repeat' first
    | (intro zz; refine Kept.have (x := zz) ?_ (fun _ => ?_); unfold zz; rotate_left; clear_value zz; rotate_right)
    | with_reducible assumption
    | with_reducible apply setDio_kept
    | (intro x h; simpa using h; done)

theorem setLevel_kept {z0 d : Dev} (m : Nat) (b : Bool) (hk0 : Kept z0 d) :
    Kept z0 (Dev.setLevel d m b) := by
  unfold Dev.setLevel
  repeat' first
    | (intro zz; refine Kept.have (x := zz) ?_ (fun _ => ?_); unfold zz; rotate_left; clear_value zz; rotate_right)
    | with_reducible assumption
    | with_reducible apply wrF_kept
    | with_reducible apply setDio_kept
    | (intro x h; simpa using h; done)

theorem doEmit_kept {z0 d : Dev} (m : Nat) (hk0 : Kept z0 d) :
    Kept z0 (Dev.doEmit d m) := by
  unfold Dev.doEmit
  repeat' first
    | (intro zz; refine Kept.have (x := zz) ?_ (fun _ => ?_); unfold zz; rotate_left; clear_value zz; rotate_right)
    | with_reducible assumption
    | with_reducible apply setDio_kept
    | with_reducible apply setLevel_kept
    | with_reducible apply Kept.ite
    | (intro x h; simpa using h; done)

theorem doEmitAll_kept {z0 d : Dev}  (hk0 : Kept z0 d) :
    Kept z0 (Dev.doEmitAll d) := by
  unfold Dev.doEmitAll
  repeat' first
    | with_reducible assumption
    | with_reducible apply doEmit_kept
    | with_reducible apply doTake_kept
    | with_reducible apply Kept.foldl

theorem doWithhold_kept {z0 d : Dev} (turn tick m : Nat) (hk0 : Kept z0 d) :
    Kept z0 (Dev.doWithhold d turn tick m) := by
  unfold Dev.doWithhold
  repeat' first
    | (intro zz; refine Kept.have (x := zz) ?_ (fun _ => ?_); unfold zz; rotate_left; clear_value zz; rotate_right)
    | with_reducible assumption
    | with_reducible apply setDio_kept
    | with_reducible apply happen_kept
    | with_reducible apply Kept.ite
    | (intro x h; simpa using h; done)

theorem loWithhold_kept {z0 d : Dev} (turn tick m : Nat) (x : SetIn) (hk0 : Kept z0 d) :
    Kept z0 (Dev.loWithhold d turn tick m x) := by
  unfold Dev.loWithhold
  repeat' first
    | (intro zz; refine Kept.have (x := zz) ?_ (fun _ => ?_); unfold zz; rotate_left; clear_value zz; rotate_right)
    | with_reducible assumption
    | with_reducible apply setDio_kept
    | with_reducible apply happen_kept
    | with_reducible apply Kept.ite
    | (intro x h; simpa using h; done)

theorem doSafe_kept {z0 d : Dev}  (hk0 : Kept z0 d) :
    Kept z0 (Dev.doSafe d) := by
  unfold Dev.doSafe
  repeat' first
    | (intro zz; refine Kept.have (x := zz) ?_ (fun _ => ?_); unfold zz; rotate_left; clear_value zz; rotate_right)
    | with_reducible assumption
    | with_reducible apply setDio_kept
    | with_reducible apply setLevel_kept
    | with_reducible apply wrF_kept
    | with_reducible apply raise_kept
    | with_reducible apply Kept.foldl
    | (intro _ _ _; show Kept _ _)
    | with_reducible apply Kept.ite
    | (intro x h; simpa using h; done)

theorem hostsetLatch_kept {z0 d : Dev} (reg31 : Bool) (hk0 : Kept z0 d) :
    Kept z0 (Dev.hostsetLatch d reg31) := by
  unfold Dev.hostsetLatch
  repeat' first
    | (intro zz; refine Kept.have (x := zz) ?_ (fun _ => ?_); unfold zz; rotate_left; clear_value zz; rotate_right)
    | with_reducible assumption
    | with_reducible apply wbDrop_kept
    | with_reducible apply wr_kept
    | with_reducible apply flagEv_kept
    | with_reducible apply happen_kept
    | exact rfl
    | (intro h; exact h)
    | split
    | with_reducible apply Kept.with

theorem hostsetWrite_kept {z0 d : Dev} (sess : Nat) (reg31 : Bool) (v : Word) (hk0 : Kept z0 d) :
    Kept z0 (Dev.hostsetWrite d sess reg31 v) := by
  unfold Dev.hostsetWrite
  repeat' first
    | with_reducible assumption
    | with_reducible apply wbWrite_kept

theorem doFeedback_kept {z0 d : Dev} (m : Nat) (mismatch : Bool) (hk0 : Kept z0 d) :
    Kept z0 (Dev.doFeedback d m mismatch) := by
  unfold Dev.doFeedback
  repeat' first
    | (intro zz; refine Kept.have (x := zz) ?_ (fun _ => ?_); unfold zz; rotate_left; clear_value zz; rotate_right)
    | with_reducible assumption
    | with_reducible apply wrF_kept
    | with_reducible apply raiseIf_kept
    | with_reducible apply setDio_kept
    | (intro x h; simpa using h; done)
    | split

theorem doCompare_kept {z0 d : Dev}  (hk0 : Kept z0 d) :
    Kept z0 (Dev.doCompare d) := by
  unfold Dev.doCompare
  repeat' first
    | with_reducible assumption
    | with_reducible apply xCompare_kept
    | with_reducible apply Kept.foldl
    | (intro _ _ _; show Kept _ _)
    | split

theorem ptStart_kept {z0 d : Dev} (m : Nat) (hk0 : Kept z0 d) :
    Kept z0 (Dev.ptStart d m) := by
  unfold Dev.ptStart
  repeat' first
    | with_reducible assumption
    | with_reducible apply wrF_kept
    | with_reducible apply setDio_kept
    | (intro x h; simpa using h; done)
    | split

theorem ptJudge_kept {z0 d : Dev} (m : Nat) (ok : Bool) (hk0 : Kept z0 d) :
    Kept z0 (Dev.ptJudge d m ok) := by
  unfold Dev.ptJudge
  repeat' first
    | (intro zz; refine Kept.have (x := zz) ?_ (fun _ => ?_); unfold zz; rotate_left; clear_value zz; rotate_right)
    | with_reducible assumption
    | with_reducible apply setDio_kept
    | with_reducible apply wrF_kept
    | with_reducible apply flagEv_kept
    | (intro x h; simpa using h; done)
    | split

theorem ptEnd_kept {z0 d : Dev} (m : Nat) (fb : Bool) (hk0 : Kept z0 d) :
    Kept z0 (Dev.ptEnd d m fb) := by
  unfold Dev.ptEnd
  repeat' first
    | (intro zz; refine Kept.have (x := zz) ?_ (fun _ => ?_); unfold zz; rotate_left; clear_value zz; rotate_right)
    | with_reducible assumption
    | with_reducible apply wrF_kept
    | with_reducible apply setLevel_kept
    | with_reducible apply setDio_kept
    | with_reducible apply ptJudge_kept
    | with_reducible apply Kept.ite
    | (intro x h; simpa using h; done)

theorem ptVerdict_kept {z0 d : Dev} (m : Nat) (fb : Bool) (hk0 : Kept z0 d) :
    Kept z0 (Dev.ptVerdict d m fb) := by
  unfold Dev.ptVerdict
  repeat' first
    | with_reducible assumption
    | with_reducible apply wrF_kept
    | with_reducible apply ptJudge_kept
    | split

theorem diSource_kept {z0 d : Dev} (on : Bool) (hk0 : Kept z0 d) :
    Kept z0 (Dev.diSource d on) := by
  unfold Dev.diSource
  repeat' first
    | (intro zz; refine Kept.have (x := zz) ?_ (fun _ => ?_); unfold zz; rotate_left; clear_value zz; rotate_right)
    | with_reducible assumption
    | with_reducible apply setDio_kept
    | (intro x h; simpa using h; done)

theorem doGain_kept {z0 d : Dev}  (hk0 : Kept z0 d) :
    Kept z0 (Dev.doGain d) := by
  unfold Dev.doGain
  repeat' first
    | (intro zz; refine Kept.have (x := zz) ?_ (fun _ => ?_); unfold zz; rotate_left; clear_value zz; rotate_right)
    | with_reducible assumption
    | with_reducible apply diSource_kept
    | with_reducible apply setLevel_kept
    | with_reducible apply Kept.foldl
    | (intro _ _ _; show Kept _ _)
    | with_reducible apply Kept.ite

theorem doLoss_kept {z0 d : Dev}  (hk0 : Kept z0 d) :
    Kept z0 (Dev.doLoss d) := by
  unfold Dev.doLoss
  repeat' first
    | with_reducible assumption
    | with_reducible apply wr_kept
    | with_reducible apply setDio_kept
    | with_reducible apply diSource_kept
    | (intro _ _; exact rfl)

theorem dioApply_kept {z0 d : Dev} (first : Bool) (old : Image) (hk0 : Kept z0 d) :
    Kept z0 (Dev.dioApply d first old) := by
  unfold Dev.dioApply
  repeat' first
    | (intro zz; refine Kept.have (x := zz) ?_ (fun _ => ?_); unfold zz; rotate_left; clear_value zz; rotate_right)
    | with_reducible assumption
    | with_reducible apply setDio_kept
    | with_reducible apply setDi_kept
    | with_reducible apply wrF_kept
    | with_reducible apply diRelease_kept
    | with_reducible apply Kept.foldl
    | (intro _ _ _; show Kept _ _)
    | with_reducible apply Kept.ite
    | (intro x h; simpa using h; done)

theorem pReach_kept {z0 d : Dev} (e l : Nat) (hk0 : Kept z0 d) :
    Kept z0 (Dev.pReach d e l) := by
  unfold Dev.pReach
  repeat' first
    | with_reducible assumption
    | with_reducible apply wrF_kept

theorem pLose_kept {z0 d : Dev} (e : Nat) (hk0 : Kept z0 d) :
    Kept z0 (Dev.pLose d e) := by
  unfold Dev.pLose
  repeat' first
    | with_reducible assumption
    | with_reducible apply wrF_kept

theorem pAim_kept {z0 d : Dev} (e l : Nat) (hk0 : Kept z0 d) :
    Kept z0 (Dev.pAim d e l) := by
  unfold Dev.pAim
  repeat' first
    | with_reducible assumption
    | with_reducible apply wrF_kept

theorem pPend_kept {z0 d : Dev} (r : Nat) (b : Bool) (hk0 : Kept z0 d) :
    Kept z0 (Dev.pPend d r b) := by
  unfold Dev.pPend
  repeat' first
    | with_reducible assumption
    | with_reducible apply wrF_kept

theorem pRequest_kept {z0 d : Dev} (r q : Nat) (hk0 : Kept z0 d) :
    Kept z0 (Dev.pRequest d r q) := by
  unfold Dev.pRequest
  repeat' first
    | with_reducible assumption
    | with_reducible apply push_kept
    | split

theorem pShow_kept {z0 d : Dev} (r : Nat) (hk0 : Kept z0 d) :
    Kept z0 (Dev.pShow d r) := by
  unfold Dev.pShow
  repeat' first
    | with_reducible assumption
    | with_reducible apply pAim_kept
    | with_reducible apply Kept.foldl
    | (intro _ _ _; show Kept _ _)

theorem pnlEmit_kept {z0 d : Dev}  (hk0 : Kept z0 d) :
    Kept z0 (Dev.pnlEmit d) := by
  unfold Dev.pnlEmit
  repeat' first
    | (intro zz; refine Kept.have (x := zz) ?_ (fun _ => ?_); unfold zz; rotate_left; clear_value zz; rotate_right)
    | with_reducible assumption
    | with_reducible apply setPnl_kept
    | with_reducible apply pAim_kept
    | with_reducible apply pShow_kept
    | with_reducible apply pRequest_kept
    | with_reducible apply pPend_kept
    | with_reducible apply Kept.foldl
    | (intro _ _ _; show Kept _ _)
    | with_reducible apply Kept.ite
    | (intro x h; simpa using h; done)

theorem pHost_kept {z0 d : Dev} (r e0 levels : Nat) (hk0 : Kept z0 d) :
    Kept z0 (Dev.pHost d r e0 levels) := by
  unfold Dev.pHost
  repeat' first
    | (intro zz; refine Kept.have (x := zz) ?_ (fun _ => ?_); unfold zz; rotate_left; clear_value zz; rotate_right)
    | with_reducible assumption
    | with_reducible apply setPnl_kept
    | with_reducible apply pShow_kept
    | with_reducible apply pPend_kept
    | with_reducible apply Kept.ite
    | (intro x h; simpa using h; done)

theorem pMaintOp_kept {z0 d : Dev} (op level r : Nat) (hk0 : Kept z0 d) :
    Kept z0 (Dev.pMaintOp d op level r) := by
  unfold Dev.pMaintOp
  repeat' first
    | (intro zz; refine Kept.have (x := zz) ?_ (fun _ => ?_); unfold zz; rotate_left; clear_value zz; rotate_right)
    | with_reducible assumption
    | with_reducible apply wrF_kept
    | with_reducible apply setPnl_kept
    | with_reducible apply pLose_kept
    | with_reducible apply pShow_kept
    | with_reducible apply pPend_kept
    | with_reducible apply Kept.foldl
    | (intro x h; simpa using h; done)
    | split

theorem pConsume_kept {z0 d : Dev} (q : Nat) (bytes : List Byte) (hk0 : Kept z0 d) :
    Kept z0 (Dev.pConsume d q bytes) := by
  unfold Dev.pConsume
  repeat' first
    | (intro zz; refine Kept.have (x := zz) ?_ (fun _ => ?_); unfold zz; rotate_left; clear_value zz; rotate_right)
    | with_reducible assumption
    | with_reducible apply pHost_kept
    | with_reducible apply pMaintOp_kept
    | with_reducible apply pPend_kept
    | with_reducible apply Kept.foldl
    | (intro _ _ _; show Kept _ _)
    | with_reducible apply Kept.ite

theorem pnlRequest_kept {z0 d : Dev} (k : Nat) (hk0 : Kept z0 d) :
    Kept z0 (Dev.pnlRequest d k) := by
  unfold Dev.pnlRequest
  repeat' first
    | with_reducible assumption
    | with_reducible apply pop_kept
    | with_reducible apply pConsume_kept
    | split

theorem pNotify_kept {z0 d : Dev} (r outcome : Nat) (x : PanelRun) (hk0 : Kept z0 d) :
    Kept z0 (Dev.pNotify d r outcome x) := by
  unfold Dev.pNotify
  repeat' first
    | (intro zz; refine Kept.have (x := zz) ?_ (fun _ => ?_); unfold zz; rotate_left; clear_value zz; rotate_right)
    | with_reducible assumption
    | with_reducible apply push_kept
    | with_reducible apply raiseIf_kept
    | split

theorem pDone_kept {z0 d : Dev} (r : Nat) (x : PanelRun) (hk0 : Kept z0 d) :
    Kept z0 (Dev.pDone d r x) := by
  unfold Dev.pDone
  repeat' first
    | (intro zz; refine Kept.have (x := zz) ?_ (fun _ => ?_); unfold zz; rotate_left; clear_value zz; rotate_right)
    | with_reducible assumption
    | with_reducible apply pReach_kept
    | with_reducible apply setPnl_kept
    | with_reducible apply wrF_kept
    | with_reducible apply wrFs_kept
    | with_reducible apply pNotify_kept
    | with_reducible apply raise_kept
    | with_reducible apply Kept.foldl
    | (intro _ _ _; show Kept _ _)
    | (intro x h; simpa using h; done)

theorem pnlComplete_kept {z0 d : Dev} (r : Nat) (hk0 : Kept z0 d) :
    Kept z0 (Dev.pnlComplete d r) := by
  unfold Dev.pnlComplete
  repeat' first
    | with_reducible assumption
    | with_reducible apply pDone_kept
    | split

theorem pStart_kept {z0 d : Dev} (r : Nat) (hk0 : Kept z0 d) :
    Kept z0 (Dev.pStart d r) := by
  unfold Dev.pStart
  repeat' first
    | (intro zz; refine Kept.have (x := zz) ?_ (fun _ => ?_); unfold zz; rotate_left; clear_value zz; rotate_right)
    | with_reducible assumption
    | with_reducible apply pPend_kept
    | with_reducible apply wrF_kept
    | with_reducible apply wrFs_kept
    | with_reducible apply setPnl_kept
    | with_reducible apply pDone_kept
    | with_reducible apply Kept.ite
    | (intro x h; simpa using h; done)

theorem pAdopt_kept {z0 d : Dev} (b : Nat) (hk0 : Kept z0 d) :
    Kept z0 (Dev.pAdopt d b) := by
  unfold Dev.pAdopt
  repeat' first
    | (intro zz; refine Kept.have (x := zz) ?_ (fun _ => ?_); unfold zz; rotate_left; clear_value zz; rotate_right)
    | with_reducible assumption
    | with_reducible apply wrF_kept
    | with_reducible apply setPnl_kept
    | with_reducible apply raise_kept
    | (intro x h; simpa using h; done)

theorem pIndexes_kept {z0 d : Dev}  (hk0 : Kept z0 d) :
    Kept z0 (Dev.pIndexes d) := by
  unfold Dev.pIndexes
  repeat' first
    | with_reducible assumption
    | with_reducible apply wrF_kept
    | with_reducible apply Kept.foldl
    | (intro _ _ _; show Kept _ _)
    | split

theorem pEnds_kept {z0 d : Dev}  (hk0 : Kept z0 d) :
    Kept z0 (Dev.pEnds d) := by
  unfold Dev.pEnds
  repeat' first
    | with_reducible assumption
    | with_reducible apply pDone_kept
    | with_reducible apply Kept.foldl
    | (intro _ _ _; show Kept _ _)
    | split

theorem pnlFrame_kept {z0 d : Dev} (vlcd : BitVec 16) (hk0 : Kept z0 d) :
    Kept z0 (Dev.pnlFrame d vlcd) := by
  unfold Dev.pnlFrame
  repeat' first
    | (intro zz; refine Kept.have (x := zz) ?_ (fun _ => ?_); unfold zz; rotate_left; clear_value zz; rotate_right)
    | with_reducible assumption
    | with_reducible apply wr_kept
    | with_reducible apply pEnds_kept
    | with_reducible apply wrF_kept
    | with_reducible apply pAdopt_kept
    | with_reducible apply setPnl_kept
    | with_reducible apply pIndexes_kept
    | with_reducible apply pStart_kept
    | with_reducible apply Kept.foldl
    | (intro _ _ _; show Kept _ _)
    | (intro x h; simpa using h; done)
    | split

theorem pBand_kept {z0 d : Dev} (b : Nat) (hk0 : Kept z0 d) :
    Kept z0 (Dev.pBand d b) := by
  unfold Dev.pBand
  repeat' first
    | with_reducible assumption
    | with_reducible apply wrF_kept
    | with_reducible apply setPnl_kept
    | with_reducible apply pAdopt_kept
    | (intro x h; simpa using h; done)
    | split

theorem pnlTpan_kept {z0 d : Dev} (code : BitVec 12) (hk0 : Kept z0 d) :
    Kept z0 (Dev.pnlTpan d code) := by
  unfold Dev.pnlTpan
  repeat' first
    | (intro zz; refine Kept.have (x := zz) ?_ (fun _ => ?_); unfold zz; rotate_left; clear_value zz; rotate_right)
    | with_reducible assumption
    | with_reducible apply wrF_kept
    | with_reducible apply flagEv_kept
    | with_reducible apply pBand_kept
    | with_reducible apply setPnl_kept
    | with_reducible apply Kept.ite
    | (intro x h; simpa using h; done)

theorem pnlVflt_kept {z0 d : Dev} (fault : Bool) (vmeas : BitVec 16) (hk0 : Kept z0 d) :
    Kept z0 (Dev.pnlVflt d fault vmeas) := by
  unfold Dev.pnlVflt
  repeat' first
    | (intro zz; refine Kept.have (x := zz) ?_ (fun _ => ?_); unfold zz; rotate_left; clear_value zz; rotate_right)
    | with_reducible assumption
    | with_reducible apply wrF_kept
    | with_reducible apply flagEv_kept
    | with_reducible apply happen_kept
    | with_reducible apply Kept.ite

theorem pCutRegion_kept {z0 d : Dev} (r : Nat) (hk0 : Kept z0 d) :
    Kept z0 (Dev.pCutRegion d r) := by
  unfold Dev.pCutRegion
  repeat' first
    | (intro zz; refine Kept.have (x := zz) ?_ (fun _ => ?_); unfold zz; rotate_left; clear_value zz; rotate_right)
    | with_reducible assumption
    | with_reducible apply pReach_kept
    | with_reducible apply pLose_kept
    | with_reducible apply setPnl_kept
    | with_reducible apply wrF_kept
    | with_reducible apply pNotify_kept
    | with_reducible apply Kept.foldl
    | (intro _ _ _; show Kept _ _)
    | (intro x h; simpa using h; done)
    | split

theorem pCut_kept {z0 d : Dev} (cause : Nat) (hk0 : Kept z0 d) :
    Kept z0 (Dev.pCut d cause) := by
  unfold Dev.pCut
  repeat' first
    | (intro zz; refine Kept.have (x := zz) ?_ (fun _ => ?_); unfold zz; rotate_left; clear_value zz; rotate_right)
    | with_reducible assumption
    | with_reducible apply pCutRegion_kept
    | with_reducible apply flagEv_kept
    | with_reducible apply happen_kept
    | with_reducible apply Kept.foldl
    | with_reducible apply Kept.ite

theorem pCrack_kept {z0 d : Dev} (rcrk : BitVec 16) (hk0 : Kept z0 d) :
    Kept z0 (Dev.pCrack d rcrk).1 := by
  unfold Dev.pCrack
  repeat' first
    | (intro zz; refine Kept.have (x := zz) ?_ (fun _ => ?_); unfold zz; rotate_left; clear_value zz; rotate_right)
    | with_reducible assumption
    | with_reducible apply wrF_kept
    | with_reducible apply setPnl_kept
    | with_reducible apply flagEv_kept
    | with_reducible apply happen_kept
    | (intro x h; simpa using h; done)
    | lift_lets
    | split

theorem pnlGain_kept {z0 d : Dev}  (hk0 : Kept z0 d) :
    Kept z0 (Dev.pnlGain d) := by
  unfold Dev.pnlGain
  repeat' first
    | with_reducible assumption
    | with_reducible apply pPend_kept
    | with_reducible apply Kept.foldl
    | (intro _ _ _; show Kept _ _)
    | split

theorem pnlApply_kept {z0 d : Dev} (first : Bool) (old : Image) (hk0 : Kept z0 d) :
    Kept z0 (Dev.pnlApply d first old) := by
  unfold Dev.pnlApply
  repeat' first
    | (intro zz; refine Kept.have (x := zz) ?_ (fun _ => ?_); unfold zz; rotate_left; clear_value zz; rotate_right)
    | with_reducible assumption
    | with_reducible apply pCut_kept
    | with_reducible apply wrF_kept
    | with_reducible apply setPnl_kept
    | with_reducible apply pAim_kept
    | with_reducible apply pPend_kept
    | with_reducible apply Kept.foldl
    | (intro _ _ _; show Kept _ _)
    | (intro x h; simpa using h; done)
    | split

theorem setQc_kept {z0 d : Dev} (n : Nat) (f : QChan → QChan) (hk0 : Kept z0 d) :
    Kept z0 (Dev.setQc d n f) := by
  unfold Dev.setQc
  repeat' first
    | with_reducible assumption
    | exact rfl
    | (intro h; simp [h, memWf_memWrite]; done)
    | (intro h; exact h)
    | with_reducible apply Kept.with

theorem setCyc_kept {z0 d : Dev} (n : Nat) (f : QCycle → QCycle) (hk0 : Kept z0 d) :
    Kept z0 (Dev.setCyc d n f) := by
  unfold Dev.setCyc
  repeat' first
    | with_reducible assumption
    | with_reducible apply setQc_kept

theorem qCause_kept {z0 d : Dev} (n cause : Nat) (hk0 : Kept z0 d) :
    Kept z0 (Dev.qCause d n cause) := by
  unfold Dev.qCause
  repeat' first
    | (intro zz; refine Kept.have (x := zz) ?_ (fun _ => ?_); unfold zz; rotate_left; clear_value zz; rotate_right)
    | with_reducible assumption
    | with_reducible apply setCyc_kept
    | with_reducible apply flag_kept
    | with_reducible apply Kept.ite

theorem qWinErr_kept {z0 d : Dev} (n : Nat) (hk0 : Kept z0 d) :
    Kept z0 (Dev.qWinErr d n) := by
  unfold Dev.qWinErr
  repeat' first
    | with_reducible assumption
    | with_reducible apply flagEv_kept

theorem qLate_kept {z0 d : Dev} (n : Nat) (late : Bool) (hk0 : Kept z0 d) :
    Kept z0 (Dev.qLate d n late) := by
  unfold Dev.qLate
  repeat' first
    | with_reducible assumption
    | with_reducible apply qCause_kept
    | split

theorem qCutTest_kept {z0 d : Dev} (n : Nat) (hk0 : Kept z0 d) :
    Kept z0 (Dev.qCutTest d n) := by
  unfold Dev.qCutTest
  repeat' first
    | with_reducible assumption
    | with_reducible apply setQc_kept

theorem qSwitches_kept {z0 d : Dev}  (hk0 : Kept z0 d) :
    Kept z0 (Dev.qSwitches d) := by
  unfold Dev.qSwitches
  repeat' first
    | (intro zz; refine Kept.have (x := zz) ?_ (fun _ => ?_); unfold zz; rotate_left; clear_value zz; rotate_right)
    | with_reducible assumption
    | with_reducible apply qCutTest_kept
    | with_reducible apply setQc_kept
    | with_reducible apply Kept.foldl
    | (intro _ _ _; show Kept _ _)
    | split

theorem qChoose_kept {z0 d : Dev} (n : Nat) (hk0 : Kept z0 d) :
    Kept z0 (Dev.qChoose d n) := by
  unfold Dev.qChoose
  repeat' first
    | (intro zz; refine Kept.have (x := zz) ?_ (fun _ => ?_); unfold zz; rotate_left; clear_value zz; rotate_right)
    | with_reducible assumption
    | with_reducible apply setQc_kept
    | with_reducible apply Kept.ite

theorem qSetGen_kept {z0 d : Dev} (n s g : Nat) (hk0 : Kept z0 d) :
    Kept z0 (Dev.qSetGen d n s g) := by
  unfold Dev.qSetGen
  repeat' first
    | with_reducible assumption
    | exact rfl
    | (intro h; simp [h, memWf_memWrite]; done)
    | (intro h; exact h)
    | with_reducible apply Kept.with

theorem qRing_kept {z0 d : Dev} (n s p k : Nat) (code : Int) (hk0 : Kept z0 d) :
    Kept z0 (Dev.qRing d n s p k code) := by
  unfold Dev.qRing
  repeat' first
    | (intro zz; refine Kept.have (x := zz) ?_ (fun _ => ?_); unfold zz; rotate_left; clear_value zz; rotate_right)
    | with_reducible assumption
    | exact rfl
    | (intro h; simp [h, memWf_memWrite]; done)
    | (intro h; exact h)
    | with_reducible apply Kept.with

theorem qFeedSend_kept {z0 d : Dev} (bytes : List Byte) (hk0 : Kept z0 d) :
    Kept z0 (Dev.qFeedSend d bytes) := by
  unfold Dev.qFeedSend
  repeat' first
    | with_reducible assumption
    | with_reducible apply push_kept
    | split

theorem qFeedEnd_kept {z0 d : Dev} (n : Nat) (c : QCycle) (close : Bool) (hk0 : Kept z0 d) :
    Kept z0 (Dev.qFeedEnd d n c close) := by
  unfold Dev.qFeedEnd
  repeat' first
    | (intro zz; refine Kept.have (x := zz) ?_ (fun _ => ?_); unfold zz; rotate_left; clear_value zz; rotate_right)
    | with_reducible assumption
    | with_reducible apply qFeedSend_kept
    | with_reducible apply setQc_kept
    | split

theorem qFeedCode_kept {z0 d : Dev} (n : Nat) (c : QCycle) (j : Nat) (code : Int) (ovl opens : Bool) (hk0 : Kept z0 d) :
    Kept z0 (Dev.qFeedCode d n c j code ovl opens) := by
  unfold Dev.qFeedCode
  repeat' first
    | (intro zz; refine Kept.have (x := zz) ?_ (fun _ => ?_); unfold zz; rotate_left; clear_value zz; rotate_right)
    | with_reducible assumption
    | with_reducible apply setQc_kept
    | with_reducible apply qFeedEnd_kept
    | with_reducible apply Kept.ite
    | split

theorem qFeedTime_kept {z0 d : Dev}  (hk0 : Kept z0 d) :
    Kept z0 (Dev.qFeedTime d) := by
  unfold Dev.qFeedTime
  repeat' first
    | with_reducible assumption
    | with_reducible apply qFeedEnd_kept
    | with_reducible apply Kept.foldl
    | (intro _ _ _; show Kept _ _)
    | split

theorem fit_kept {z0 d : Dev} (w : Nat) (sgn : Bool) (x : Int) (hk0 : Kept z0 d) :
    Kept z0 (Dev.fit d w sgn x).2 := by
  unfold Dev.fit
  repeat' first
    | (intro zz; first
        | (refine Kept.have (x := zz) ?_ (fun _ => ?_); unfold zz; rotate_left; clear_value zz; rotate_right)
        | clear_value zz)
    | with_reducible assumption
    | with_reducible apply freeVal_kept
    | lift_lets
    | split

theorem fits_kept {z0 d : Dev} (l : List (Nat × Bool × Int)) (hk0 : Kept z0 d) : Kept z0 (Dev.fits d l).2 := by
  induction l generalizing d with
  | nil => exact hk0
  | cons x t ih => obtain ⟨w, sg, y⟩ := x; exact ih (fit_kept _ _ _ hk0)

theorem freeVals_kept {z0 d : Dev} (w n : Nat) (hk0 : Kept z0 d) : Kept z0 (Dev.freeVals d w n).2 := by
  induction n generalizing d with
  | zero => exact hk0
  | succ n ih => exact ih (freeVal_kept _ hk0)

theorem qWords_kept {z0 d : Dev} (h : QHeld) (hk0 : Kept z0 d) : Kept z0 (Dev.qWords d h).2 := fits_kept _ hk0

theorem qStoreRes_kept {z0 d : Dev} (n : Nat) (h : QHeld) (ws : List Nat) (hk0 : Kept z0 d) :
    Kept z0 (Dev.qStoreRes d n h ws) := by
  unfold Dev.qStoreRes
  repeat' first
    | (intro zz; refine Kept.have (x := zz) ?_ (fun _ => ?_); unfold zz; rotate_left; clear_value zz; rotate_right)
    | with_reducible assumption
    | with_reducible apply wr_kept

theorem qDescriptor_kept {z0 d : Dev} (n st : Nat) (miss : Bool) (h : QHeld) (ws : List Nat) (hk0 : Kept z0 d) :
    Kept z0 (Dev.qDescriptor d n st miss h ws) := by
  have key : ∀ (e : Dev) (b : List Byte), Kept z0 e →
      Kept z0 (if e.hasRoom 50 then e.push 50 b none else (e.refuse 50).flagEv R.QCH_STAT 16 76) := by
    intro e b h
    split
    · exact push_kept _ _ _ h
    · exact flagEv_kept _ _ _ (refuse_kept _ h)
  unfold Dev.qDescriptor
  split
  · exact hk0
  · exact key _ _ (desc_kept _ _ hk0)

theorem qEvents_kept {z0 d : Dev} (old st : Nat) (carries : Bool) (hk0 : Kept z0 d) :
    Kept z0 (Dev.qEvents d old st carries) := by
  unfold Dev.qEvents
  repeat' first
    | (intro zz; refine Kept.have (x := zz) ?_ (fun _ => ?_); unfold zz; rotate_left; clear_value zz; rotate_right)
    | with_reducible assumption
    | with_reducible apply raiseIf_kept

theorem qOpenWords_kept {z0 d : Dev} (h : QHeld) (hk0 : Kept z0 d) :
    Kept z0 (Dev.qOpenWords d h).2 := by
  unfold Dev.qOpenWords
  repeat' first
    | (intro zz; first
        | (refine Kept.have (x := zz) ?_ (fun _ => ?_); unfold zz; rotate_left; clear_value zz; rotate_right)
        | (refine Kept.have (x := zz.2) ?_ (fun _ => ?_); unfold zz; rotate_left; clear_value zz; rotate_right))
    | with_reducible assumption
    | with_reducible apply qWords_kept
    | with_reducible apply freeVals_kept
    | with_reducible apply fit_kept
    | split

theorem qRelease_kept {z0 d : Dev} (n st0 cause : Nat) (h : Option QHeld) (miss : Bool) (hk0 : Kept z0 d) :
    Kept z0 (Dev.qRelease d n st0 cause h miss) := by
  unfold Dev.qRelease
  repeat' first
    | (intro zz; refine Kept.have (x := zz) ?_ (fun _ => ?_); unfold zz; rotate_left; clear_value zz; rotate_right)
    | with_reducible assumption
    | with_reducible apply setQc_kept
    | with_reducible apply wrF_kept
    | with_reducible apply incF_kept
    | with_reducible apply flagEv_kept
    | with_reducible apply wr_kept
    | with_reducible apply qWords_kept
    | with_reducible apply qStoreRes_kept
    | with_reducible apply qDescriptor_kept
    | with_reducible apply qOpenWords_kept
    | with_reducible apply qEvents_kept
    | split

theorem qReleaseHeld_kept {z0 d : Dev} (n : Nat) (h : QHeld) (miss : Bool) (hk0 : Kept z0 d) :
    Kept z0 (Dev.qReleaseHeld d n h miss) := by
  unfold Dev.qReleaseHeld
  repeat' first
    | (intro zz; refine Kept.have (x := zz) ?_ (fun _ => ?_); unfold zz; rotate_left; clear_value zz; rotate_right)
    | with_reducible assumption
    | with_reducible apply setQc_kept
    | with_reducible apply qRelease_kept

theorem qDue_kept {z0 d : Dev} (n j : Nat) (hk0 : Kept z0 d) :
    Kept z0 (Dev.qDue d n j) := by
  unfold Dev.qDue
  repeat' first
    | (intro zz; refine Kept.have (x := zz) ?_ (fun _ => ?_); unfold zz; rotate_left; clear_value zz; rotate_right)
    | with_reducible assumption
    | with_reducible apply setCyc_kept
    | with_reducible apply qCause_kept
    | with_reducible apply setQc_kept
    | with_reducible apply Kept.ite

theorem gridPoint_kept {z0 d : Dev} (n j : Nat) (hk0 : Kept z0 d) :
    Kept z0 (Dev.gridPoint d n j) := by
  unfold Dev.gridPoint
  repeat' first
    | with_reducible assumption
    | with_reducible apply qDue_kept
    | split

theorem timeSample_kept {z0 d : Dev} (n : Nat) (hk0 : Kept z0 d) :
    Kept z0 (Dev.timeSample d n) := by
  unfold Dev.timeSample
  repeat' first
    | (intro zz; refine Kept.have (x := zz) ?_ (fun _ => ?_); unfold zz; rotate_left; clear_value zz; rotate_right)
    | with_reducible assumption
    | with_reducible apply qDue_kept
    | split

theorem qOverload_kept {z0 d : Dev} (n : Nat) (first : Bool) (hk0 : Kept z0 d) :
    Kept z0 (Dev.qOverload d n first) := by
  unfold Dev.qOverload
  repeat' first
    | (intro zz; refine Kept.have (x := zz) ?_ (fun _ => ?_); unfold zz; rotate_left; clear_value zz; rotate_right)
    | with_reducible assumption
    | with_reducible apply flagEv_kept
    | with_reducible apply incF_kept
    | split

theorem qStore_kept {z0 d : Dev} (n j : Nat) (old kn : Bool) (code : Int) (ovl : Bool) (hk0 : Kept z0 d) :
    Kept z0 (Dev.qStore d n j old kn code ovl) := by
  unfold Dev.qStore
  repeat' first
    | (intro zz; refine Kept.have (x := zz) ?_ (fun _ => ?_); unfold zz; rotate_left; clear_value zz; rotate_right)
    | with_reducible assumption
    | with_reducible apply qRing_kept
    | with_reducible apply setQc_kept
    | with_reducible apply qOverload_kept
    | with_reducible apply qFeedCode_kept
    | with_reducible apply Kept.ite

theorem qOpenAcq_kept {z0 d : Dev} (n : Nat) (hk0 : Kept z0 d) :
    Kept z0 (Dev.qOpenAcq d n) := by
  unfold Dev.qOpenAcq
  repeat' first
    | (intro zz; refine Kept.have (x := zz) ?_ (fun _ => ?_); unfold zz; rotate_left; clear_value zz; rotate_right)
    | with_reducible assumption
    | with_reducible apply qSetGen_kept
    | with_reducible apply setQc_kept
    | with_reducible apply qCause_kept
    | with_reducible apply Kept.ite

theorem qWinOpen_kept {z0 d : Dev} (n arg : Nat) (late : Bool) (hk0 : Kept z0 d) :
    Kept z0 (Dev.qWinOpen d n arg late) := by
  unfold Dev.qWinOpen
  repeat' first
    | (intro zz; refine Kept.have (x := zz) ?_ (fun _ => ?_); unfold zz; rotate_left; clear_value zz; rotate_right)
    | with_reducible assumption
    | with_reducible apply qLate_kept
    | with_reducible apply qWinErr_kept
    | with_reducible apply qCutTest_kept
    | with_reducible apply setQc_kept
    | with_reducible apply qOpenAcq_kept
    | with_reducible apply Kept.ite

theorem qCloseWin_kept {z0 d : Dev} (n w : Nat) (hk0 : Kept z0 d) :
    Kept z0 (Dev.qCloseWin d n w) := by
  unfold Dev.qCloseWin
  repeat' first
    | (intro zz; refine Kept.have (x := zz) ?_ (fun _ => ?_); unfold zz; rotate_left; clear_value zz; rotate_right)
    | with_reducible assumption
    | with_reducible apply qCutTest_kept
    | with_reducible apply setQc_kept
    | split

theorem qWinClose_kept {z0 d : Dev} (n arg : Nat) (late : Bool) (hk0 : Kept z0 d) :
    Kept z0 (Dev.qWinClose d n arg late) := by
  unfold Dev.qWinClose
  repeat' first
    | (intro zz; refine Kept.have (x := zz) ?_ (fun _ => ?_); unfold zz; rotate_left; clear_value zz; rotate_right)
    | with_reducible assumption
    | with_reducible apply qLate_kept
    | with_reducible apply qWinErr_kept
    | with_reducible apply qCloseWin_kept
    | with_reducible apply Kept.ite

theorem qCloseKind_kept {z0 d : Dev} (n k : Nat) (hk0 : Kept z0 d) :
    Kept z0 (Dev.qCloseKind d n k) := by
  unfold Dev.qCloseKind
  repeat' first
    | with_reducible assumption
    | with_reducible apply qCloseWin_kept
    | with_reducible apply Kept.foldl
    | (intro _ _ _; show Kept _ _)
    | split

theorem qReset_kept {z0 d : Dev} (n : Nat) (fb late : Bool) (hk0 : Kept z0 d) :
    Kept z0 (Dev.qReset d n fb late) := by
  unfold Dev.qReset
  repeat' first
    | (intro zz; refine Kept.have (x := zz) ?_ (fun _ => ?_); unfold zz; rotate_left; clear_value zz; rotate_right)
    | with_reducible assumption
    | with_reducible apply qLate_kept
    | with_reducible apply setQc_kept
    | with_reducible apply flagEv_kept
    | with_reducible apply Kept.ite

theorem qApplyRange_kept {z0 d : Dev} (n : Nat) (hk0 : Kept z0 d) :
    Kept z0 (Dev.qApplyRange d n) := by
  unfold Dev.qApplyRange
  repeat' first
    | (intro zz; refine Kept.have (x := zz) ?_ (fun _ => ?_); unfold zz; rotate_left; clear_value zz; rotate_right)
    | with_reducible assumption
    | with_reducible apply wbApply_kept
    | with_reducible apply setQc_kept
    | with_reducible apply Kept.ite

theorem qFinish_kept {z0 d : Dev} (n : Nat) (hk0 : Kept z0 d) :
    Kept z0 (Dev.qFinish d n) := by
  unfold Dev.qFinish
  repeat' first
    | (intro zz; refine Kept.have (x := zz) ?_ (fun _ => ?_); unfold zz; rotate_left; clear_value zz; rotate_right)
    | with_reducible assumption
    | with_reducible apply flagEv_kept
    | with_reducible apply setQc_kept
    | with_reducible apply qReleaseHeld_kept
    | with_reducible apply Kept.ite
    | split

theorem qComputed_kept {z0 d : Dev} (n : Nat) (hk0 : Kept z0 d) :
    Kept z0 (Dev.qComputed d n) := by
  unfold Dev.qComputed
  repeat' first
    | with_reducible assumption
    | with_reducible apply qFinish_kept
    | split

theorem qTestMiss_kept {z0 d : Dev} (n : Nat) (hk0 : Kept z0 d) :
    Kept z0 (Dev.qTestMiss d n) := by
  unfold Dev.qTestMiss
  repeat' first
    | (intro zz; refine Kept.have (x := zz) ?_ (fun _ => ?_); unfold zz; rotate_left; clear_value zz; rotate_right)
    | with_reducible assumption
    | with_reducible apply qFinish_kept
    | with_reducible apply qReleaseHeld_kept
    | with_reducible apply setQc_kept
    | exact rfl
    | (intro h; exact h)
    | split
    | with_reducible apply Kept.with

theorem qRange_kept {z0 d : Dev} (n : Nat) (fb late : Bool) (hk0 : Kept z0 d) :
    Kept z0 (Dev.qRange d n fb late) := by
  unfold Dev.qRange
  repeat' first
    | (intro zz; refine Kept.have (x := zz) ?_ (fun _ => ?_); unfold zz; rotate_left; clear_value zz; rotate_right)
    | with_reducible assumption
    | with_reducible apply qTestMiss_kept
    | with_reducible apply qWinErr_kept
    | with_reducible apply qApplyRange_kept
    | with_reducible apply qChoose_kept
    | with_reducible apply setQc_kept
    | with_reducible apply setCyc_kept
    | with_reducible apply qLate_kept
    | split

theorem qRangeEnd_kept {z0 d : Dev} (n : Nat) (hk0 : Kept z0 d) :
    Kept z0 (Dev.qRangeEnd d n) := by
  unfold Dev.qRangeEnd
  repeat' first
    | with_reducible assumption
    | with_reducible apply setQc_kept

theorem qAuto_kept {z0 d : Dev} (n : Nat) (x : QCycle) (hk0 : Kept z0 d) :
    Kept z0 (Dev.qAuto d n x) := by
  unfold Dev.qAuto
  repeat' first
    | (intro zz; refine Kept.have (x := zz) ?_ (fun _ => ?_); unfold zz; rotate_left; clear_value zz; rotate_right)
    | with_reducible assumption
    | with_reducible apply wbWrite_kept
    | with_reducible apply incF_kept
    | with_reducible apply raise_kept
    | with_reducible apply setQc_kept
    | with_reducible apply Kept.ite

theorem qCycle_kept {z0 d : Dev} (n : Nat) (late : Bool) (hk0 : Kept z0 d) :
    Kept z0 (Dev.qCycle d n late) := by
  unfold Dev.qCycle
  repeat' first
    | (intro zz; refine Kept.have (x := zz) ?_ (fun _ => ?_); unfold zz; rotate_left; clear_value zz; rotate_right)
    | with_reducible assumption
    | with_reducible apply qLate_kept
    | with_reducible apply qCloseKind_kept
    | with_reducible apply qWinErr_kept
    | with_reducible apply setCyc_kept
    | with_reducible apply flagEv_kept
    | with_reducible apply qAuto_kept
    | with_reducible apply qFeedEnd_kept
    | with_reducible apply setQc_kept
    | with_reducible apply qReleaseHeld_kept
    | with_reducible apply Kept.ite

theorem qConvDone_kept {z0 d : Dev} (n : Nat) (code : BitVec 16) (ovl : Bool) (hk0 : Kept z0 d) :
    Kept z0 (Dev.qConvDone d n code ovl) := by
  unfold Dev.qConvDone
  repeat' first
    | (intro zz; refine Kept.have (x := zz) ?_ (fun _ => ?_); unfold zz; rotate_left; clear_value zz; rotate_right)
    | with_reducible assumption
    | with_reducible apply setQc_kept
    | with_reducible apply qStore_kept
    | with_reducible apply qFeedEnd_kept
    | with_reducible apply Kept.ite
    | split

theorem qSpot_kept {z0 d : Dev} (n : Nat) (code : BitVec 16) (late : Bool) (hk0 : Kept z0 d) :
    Kept z0 (Dev.qSpot d n code late) := by
  unfold Dev.qSpot
  repeat' first
    | (intro zz; refine Kept.have (x := zz) ?_ (fun _ => ?_); unfold zz; rotate_left; clear_value zz; rotate_right)
    | with_reducible assumption
    | with_reducible apply qLate_kept
    | with_reducible apply wrFs_kept
    | with_reducible apply Kept.ite

theorem qCin_kept {z0 d : Dev} (n : Nat) (c0 c1a c1 q : Int) (hk0 : Kept z0 d) :
    Kept z0 (Dev.qCin d n c0 c1a c1 q) := by
  unfold Dev.qCin
  repeat' first
    | (intro zz; refine Kept.have (x := zz) ?_ (fun _ => ?_); unfold zz; rotate_left; clear_value zz; rotate_right)
    | with_reducible assumption
    | with_reducible apply fit_kept
    | with_reducible apply wr_kept

theorem qTestRelease_kept {z0 d : Dev} (n out : Nat) (hk0 : Kept z0 d) :
    Kept z0 (Dev.qTestRelease d n out) := by
  unfold Dev.qTestRelease
  repeat' first
    | (intro zz; refine Kept.have (x := zz) ?_ (fun _ => ?_); unfold zz; rotate_left; clear_value zz; rotate_right)
    | with_reducible assumption
    | with_reducible apply qFinish_kept
    | with_reducible apply setQc_kept
    | with_reducible apply qRelease_kept
    | with_reducible apply Kept.ite
    | split

theorem qTestDone_kept {z0 d : Dev} (n : Nat) (c0 c1a c1 c2 : BitVec 16) (hk0 : Kept z0 d) :
    Kept z0 (Dev.qTestDone d n c0 c1a c1 c2) := by
  unfold Dev.qTestDone
  repeat' first
    | (intro zz; refine Kept.have (x := zz) ?_ (fun _ => ?_); unfold zz; rotate_left; clear_value zz; rotate_right)
    | with_reducible assumption
    | with_reducible apply qCin_kept
    | with_reducible apply setQc_kept
    | with_reducible apply qTestRelease_kept
    | with_reducible apply Kept.ite
    | split

theorem qFeedIn_kept {z0 d : Dev} (bytes : List Byte) (hk0 : Kept z0 d) :
    Kept z0 (Dev.qFeedIn d bytes) := by
  unfold Dev.qFeedIn
  repeat' first
    | (intro zz; refine Kept.have (x := zz) ?_ (fun _ => ?_); unfold zz; rotate_left; clear_value zz; rotate_right)
    | with_reducible assumption
    | with_reducible apply setQc_kept
    | with_reducible apply flagEv_kept
    | with_reducible apply qStore_kept
    | with_reducible apply Kept.foldl
    | (intro _ _ _; show Kept _ _)
    | with_reducible apply Kept.ite

theorem qDropCycle_kept {z0 d : Dev} (n : Nat) (hk0 : Kept z0 d) :
    Kept z0 (Dev.qDropCycle d n) := by
  unfold Dev.qDropCycle
  repeat' first
    | with_reducible assumption
    | with_reducible apply setQc_kept

theorem qLeaveSync_kept {z0 d : Dev} (n : Nat) (still : Bool) (hk0 : Kept z0 d) :
    Kept z0 (Dev.qLeaveSync d n still) := by
  unfold Dev.qLeaveSync
  repeat' first
    | (intro zz; refine Kept.have (x := zz) ?_ (fun _ => ?_); unfold zz; rotate_left; clear_value zz; rotate_right)
    | with_reducible assumption
    | with_reducible apply qCloseWin_kept
    | with_reducible apply qDropCycle_kept
    | with_reducible apply setQc_kept
    | with_reducible apply qRelease_kept
    | with_reducible apply Kept.foldl
    | (intro _ _ _; show Kept _ _)
    | split

theorem qLeaveBase_kept {z0 d : Dev} (b : Nat) (still : Bool) (hk0 : Kept z0 d) :
    Kept z0 (Dev.qLeaveBase d b still) := by
  unfold Dev.qLeaveBase
  repeat' first
    | (intro zz; refine Kept.have (x := zz) ?_ (fun _ => ?_); unfold zz; rotate_left; clear_value zz; rotate_right)
    | with_reducible assumption
    | with_reducible apply qLeaveSync_kept
    | with_reducible apply Kept.foldl
    | (intro _ _ _; show Kept _ _)
    | with_reducible apply Kept.ite

theorem qJump_kept {z0 d : Dev} (b c0 c1 : Nat) (hk0 : Kept z0 d) :
    Kept z0 (Dev.qJump d b c0 c1) := by
  unfold Dev.qJump
  repeat' first
    | (intro zz; refine Kept.have (x := zz) ?_ (fun _ => ?_); unfold zz; rotate_left; clear_value zz; rotate_right)
    | with_reducible assumption
    | with_reducible apply qCause_kept
    | with_reducible apply setCyc_kept
    | with_reducible apply Kept.foldl
    | (intro _ _ _; show Kept _ _)
    | with_reducible apply Kept.ite

theorem qPowerLost_kept {z0 d : Dev} (n : Nat) (hk0 : Kept z0 d) :
    Kept z0 (Dev.qPowerLost d n) := by
  unfold Dev.qPowerLost
  repeat' first
    | (intro zz; refine Kept.have (x := zz) ?_ (fun _ => ?_); unfold zz; rotate_left; clear_value zz; rotate_right)
    | with_reducible assumption
    | with_reducible apply qCutTest_kept
    | with_reducible apply qDropCycle_kept
    | with_reducible apply setQc_kept
    | with_reducible apply qRelease_kept

theorem qRoleChange_kept {z0 d : Dev}  (hk0 : Kept z0 d) :
    Kept z0 (Dev.qRoleChange d) := by
  unfold Dev.qRoleChange
  repeat' first
    | with_reducible assumption
    | with_reducible apply qCause_kept
    | with_reducible apply setQc_kept
    | with_reducible apply Kept.foldl
    | (intro _ _ _; show Kept _ _)
    | split

theorem qSwapOut_kept {z0 d : Dev} (n : Nat) (hk0 : Kept z0 d) :
    Kept z0 (Dev.qSwapOut d n) := by
  unfold Dev.qSwapOut
  repeat' first
    | (intro zz; refine Kept.have (x := zz) ?_ (fun _ => ?_); unfold zz; rotate_left; clear_value zz; rotate_right)
    | with_reducible assumption
    | with_reducible apply qCause_kept
    | with_reducible apply qRelease_kept
    | with_reducible apply qCutTest_kept
    | with_reducible apply qDropCycle_kept
    | with_reducible apply setQc_kept
    | split

theorem qLatch_kept {z0 d : Dev}  (hk0 : Kept z0 d) :
    Kept z0 (Dev.qLatch d) := by
  unfold Dev.qLatch
  repeat' first
    | (intro zz; refine Kept.have (x := zz) ?_ (fun _ => ?_); unfold zz; rotate_left; clear_value zz; rotate_right)
    | with_reducible assumption
    | with_reducible apply setQc_kept
    | with_reducible apply Kept.foldl
    | (intro _ _ _; show Kept _ _)
    | with_reducible apply Kept.ite

theorem qConsumed_kept {z0 d : Dev}  (hk0 : Kept z0 d) :
    Kept z0 (Dev.qConsumed d) := by
  unfold Dev.qConsumed
  repeat' first
    | with_reducible assumption
    | with_reducible apply setQc_kept
    | with_reducible apply Kept.foldl
    | (intro _ _ _; show Kept _ _)

theorem setScan_kept {z0 d : Dev} (m : Nat) (f : UScan → UScan) (hk0 : Kept z0 d) :
    Kept z0 (Dev.setScan d m f) := by
  unfold Dev.setScan
  repeat' first
    | (intro zz; refine Kept.have (x := zz) ?_ (fun _ => ?_); unfold zz; rotate_left; clear_value zz; rotate_right)
    | with_reducible assumption
    | with_reducible apply wrFs_kept
    | exact rfl
    | (intro h; simp [h, memWf_memWrite]; done)
    | (intro h; exact h)
    | with_reducible apply Kept.with

theorem setUch_kept {z0 d : Dev} (n : Nat) (f : UChan → UChan) (hk0 : Kept z0 d) :
    Kept z0 (Dev.setUch d n f) := by
  unfold Dev.setUch
  repeat' first
    | with_reducible assumption
    | exact rfl
    | (intro h; simp [h, memWf_memWrite]; done)
    | (intro h; exact h)
    | with_reducible apply Kept.with

theorem uStart_kept {z0 d : Dev} (m k : Nat) (hk0 : Kept z0 d) :
    Kept z0 (Dev.uStart d m k) := by
  unfold Dev.uStart
  repeat' first
    | with_reducible assumption
    | with_reducible apply setScan_kept

theorem uNext_kept {z0 d : Dev} (m : Nat) (hk0 : Kept z0 d) :
    Kept z0 (Dev.uNext d m) := by
  unfold Dev.uNext
  repeat' first
    | (intro zz; refine Kept.have (x := zz) ?_ (fun _ => ?_); unfold zz; rotate_left; clear_value zz; rotate_right)
    | with_reducible assumption
    | with_reducible apply wrF_kept
    | with_reducible apply raise_kept
    | with_reducible apply uStart_kept
    | with_reducible apply setScan_kept
    | with_reducible apply Kept.ite

theorem uinTurnStart_kept {z0 d : Dev}  (hk0 : Kept z0 d) :
    Kept z0 (Dev.uinTurnStart d) := by
  unfold Dev.uinTurnStart
  repeat' first
    | with_reducible assumption
    | with_reducible apply uStart_kept
    | with_reducible apply setScan_kept
    | with_reducible apply Kept.foldl
    | (intro _ _ _; show Kept _ _)
    | split

theorem uMux_kept {z0 d : Dev} (m arg : Nat) (hk0 : Kept z0 d) :
    Kept z0 (Dev.uMux d m arg) := by
  unfold Dev.uMux
  repeat' first
    | (intro zz; refine Kept.have (x := zz) ?_ (fun _ => ?_); unfold zz; rotate_left; clear_value zz; rotate_right)
    | with_reducible assumption
    | with_reducible apply uStart_kept
    | with_reducible apply incF_kept
    | with_reducible apply flagEv_kept
    | with_reducible apply Kept.ite

theorem uConvert_kept {z0 d : Dev} (m : Nat) (hk0 : Kept z0 d) :
    Kept z0 (Dev.uConvert d m) := by
  unfold Dev.uConvert
  repeat' first
    | (intro zz; refine Kept.have (x := zz) ?_ (fun _ => ?_); unfold zz; rotate_left; clear_value zz; rotate_right)
    | with_reducible assumption
    | with_reducible apply setScan_kept
    | split

theorem uSettleEnd_kept {z0 d : Dev} (m : Nat) (hk0 : Kept z0 d) :
    Kept z0 (Dev.uSettleEnd d m) := by
  unfold Dev.uSettleEnd
  repeat' first
    | (intro zz; refine Kept.have (x := zz) ?_ (fun _ => ?_); unfold zz; rotate_left; clear_value zz; rotate_right)
    | with_reducible assumption
    | with_reducible apply setScan_kept
    | with_reducible apply uConvert_kept
    | with_reducible apply Kept.ite

theorem uSample_kept {z0 d : Dev} (n : Nat) (hk0 : Kept z0 d) :
    Kept z0 (Dev.uSample d n) := by
  unfold Dev.uSample
  repeat' first
    | (intro zz; refine Kept.have (x := zz) ?_ (fun _ => ?_); unfold zz; rotate_left; clear_value zz; rotate_right)
    | with_reducible assumption
    | with_reducible apply setScan_kept
    | with_reducible apply uConvert_kept
    | with_reducible apply incF_kept
    | with_reducible apply flagEv_kept
    | with_reducible apply Kept.ite

theorem uDiagRequest_kept {z0 d : Dev} (n : Nat) (req : Bool) (hk0 : Kept z0 d) :
    Kept z0 (Dev.uDiagRequest d n req) := by
  unfold Dev.uDiagRequest
  repeat' first
    | (intro zz; refine Kept.have (x := zz) ?_ (fun _ => ?_); unfold zz; rotate_left; clear_value zz; rotate_right)
    | with_reducible assumption
    | with_reducible apply wbWrite_kept
    | with_reducible apply wbApply_kept
    | with_reducible apply Kept.ite

theorem uBoundary_kept {z0 d : Dev} (m : Nat) (hk0 : Kept z0 d) :
    Kept z0 (Dev.uBoundary d m) := by
  unfold Dev.uBoundary
  repeat' first
    | with_reducible assumption
    | with_reducible apply wbApply_kept
    | split

theorem uConvEnd_kept {z0 d : Dev} (m : Nat) (code : BitVec 24) (hk0 : Kept z0 d) :
    Kept z0 (Dev.uConvEnd d m code) := by
  unfold Dev.uConvEnd
  repeat' first
    | (intro zz; refine Kept.have (x := zz) ?_ (fun _ => ?_); unfold zz; rotate_left; clear_value zz; rotate_right)
    | with_reducible assumption
    | with_reducible apply setScan_kept
    | with_reducible apply uBoundary_kept
    | with_reducible apply Kept.ite

theorem uLeadEnd_kept {z0 d : Dev} (m : Nat) (code : BitVec 24) (hk0 : Kept z0 d) :
    Kept z0 (Dev.uLeadEnd d m code) := by
  unfold Dev.uLeadEnd
  repeat' first
    | with_reducible assumption
    | with_reducible apply setScan_kept
    | with_reducible apply uBoundary_kept
    | split

theorem uMap_kept {z0 d : Dev} (n : Nat) (b : Bool) (hk0 : Kept z0 d) :
    Kept z0 (Dev.uMap d n b) := by
  unfold Dev.uMap
  repeat' first
    | with_reducible assumption
    | with_reducible apply wrF_kept
    | split

theorem uRelease_kept {z0 d : Dev} (n st : Nat) (v : Int) (hk0 : Kept z0 d) :
    Kept z0 (Dev.uRelease d n st v) := by
  unfold Dev.uRelease
  repeat' first
    | (intro zz; refine Kept.have (x := zz) ?_ (fun _ => ?_); unfold zz; rotate_left; clear_value zz; rotate_right)
    | with_reducible assumption
    | with_reducible apply wrF_kept
    | with_reducible apply uMap_kept
    | with_reducible apply setUch_kept
    | with_reducible apply wr_kept
    | with_reducible apply flag_kept
    | with_reducible apply raiseIf_kept
    | split

theorem uOnset_kept {z0 d : Dev} (was bad : Bool) (bit ev : Nat) (hk0 : Kept z0 d) :
    Kept z0 (Dev.uOnset d was bad bit ev) := by
  unfold Dev.uOnset
  repeat' first
    | with_reducible assumption
    | with_reducible apply flagEv_kept
    | split

theorem uExcFlags_kept {z0 d : Dev} (m n : Nat) (checks : BitVec 4) (hk0 : Kept z0 d) :
    Kept z0 (Dev.uExcFlags d m n checks) := by
  unfold Dev.uExcFlags
  repeat' first
    | (intro zz; refine Kept.have (x := zz) ?_ (fun _ => ?_); unfold zz; rotate_left; clear_value zz; rotate_right)
    | with_reducible assumption
    | with_reducible apply uOnset_kept
    | exact rfl
    | (intro h; exact h)
    | split
    | with_reducible apply Kept.with

theorem uDiag_kept {z0 d : Dev} (m n st rloop : Nat) (hk0 : Kept z0 d) :
    Kept z0 (Dev.uDiag d m n st rloop) := by
  unfold Dev.uDiag
  repeat' first
    | (intro zz; refine Kept.have (x := zz) ?_ (fun _ => ?_); unfold zz; rotate_left; clear_value zz; rotate_right)
    | with_reducible assumption
    | with_reducible apply wrFs_kept
    | with_reducible apply wrF_kept
    | with_reducible apply raise_kept

theorem uChanEnd_kept {z0 d : Dev} (m n rloop : Nat) (checks : BitVec 4) (hk0 : Kept z0 d) :
    Kept z0 (Dev.uChanEnd d m n rloop checks) := by
  unfold Dev.uChanEnd
  repeat' first
    | (intro zz; refine Kept.have (x := zz) ?_ (fun _ => ?_); unfold zz; rotate_left; clear_value zz; rotate_right)
    | with_reducible assumption
    | with_reducible apply uExcFlags_kept
    | with_reducible apply freeVal_kept
    | with_reducible apply uRelease_kept
    | with_reducible apply uDiag_kept
    | with_reducible apply Kept.ite
    | split

theorem uCjEnd_kept {z0 d : Dev} (c : Nat) (checks : BitVec 4) (hk0 : Kept z0 d) :
    Kept z0 (Dev.uCjEnd d c checks) := by
  unfold Dev.uCjEnd
  repeat' first
    | (intro zz; first
        | (refine Kept.have (x := zz) ?_ (fun _ => ?_); unfold zz; rotate_left; clear_value zz; rotate_right)
        | (refine Kept.have (x := zz.2) ?_ (fun _ => ?_); unfold zz; rotate_left; clear_value zz; rotate_right))
    | with_reducible assumption
    | with_reducible apply freeVal_kept
    | with_reducible apply wrF_kept
    | with_reducible apply wr_kept
    | with_reducible apply uOnset_kept
    | exact rfl
    | (intro h; exact h)
    | split
    | with_reducible apply Kept.with

theorem uDiscard_kept {z0 d : Dev} (m : Nat) (hk0 : Kept z0 d) :
    Kept z0 (Dev.uDiscard d m) := by
  unfold Dev.uDiscard
  repeat' first
    | with_reducible assumption
    | with_reducible apply incF_kept

theorem uPostEnd_kept {z0 d : Dev} (m rloop : Nat) (checks : BitVec 4) (hk0 : Kept z0 d) :
    Kept z0 (Dev.uPostEnd d m rloop checks) := by
  unfold Dev.uPostEnd
  repeat' first
    | (intro zz; first
        | (refine Kept.have (x := zz) ?_ (fun _ => ?_); unfold zz; rotate_left; clear_value zz; rotate_right)
        | (refine Kept.have (x := zz.2) ?_ (fun _ => ?_); unfold zz; rotate_left; clear_value zz; rotate_right))
    | with_reducible assumption
    | with_reducible apply uDiscard_kept
    | with_reducible apply uChanEnd_kept
    | with_reducible apply uCjEnd_kept
    | with_reducible apply uNext_kept
    | with_reducible apply Kept.ite
    | split

theorem uRefEnd_kept {z0 d : Dev} (m : Nat) (code : BitVec 24) (hk0 : Kept z0 d) :
    Kept z0 (Dev.uRefEnd d m code) := by
  unfold Dev.uRefEnd
  repeat' first
    | (intro zz; refine Kept.have (x := zz) ?_ (fun _ => ?_); unfold zz; rotate_left; clear_value zz; rotate_right)
    | with_reducible assumption
    | with_reducible apply setScan_kept
    | with_reducible apply uOnset_kept
    | with_reducible apply uNext_kept
    | exact rfl
    | (intro h; exact h)
    | split
    | with_reducible apply Kept.with

theorem uClamp_kept {z0 d : Dev} (n : Nat) (hk0 : Kept z0 d) :
    Kept z0 (Dev.uClamp d n) := by
  unfold Dev.uClamp
  repeat' first
    | with_reducible assumption
    | with_reducible apply setUch_kept
    | with_reducible apply flagEv_kept
    | split

theorem uClampsDue_kept {z0 d : Dev}  (hk0 : Kept z0 d) :
    Kept z0 (Dev.uClampsDue d) := by
  unfold Dev.uClampsDue
  repeat' first
    | with_reducible assumption
    | with_reducible apply setUch_kept
    | with_reducible apply flagEv_kept
    | with_reducible apply Kept.foldl
    | (intro _ _ _; show Kept _ _)
    | split

theorem exvUpdate_kept {z0 d : Dev}  (hk0 : Kept z0 d) :
    Kept z0 (Dev.exvUpdate d) := by
  unfold Dev.exvUpdate
  repeat' first
    | (intro zz; refine Kept.have (x := zz) ?_ (fun _ => ?_); unfold zz; rotate_left; clear_value zz; rotate_right)
    | with_reducible assumption
    | with_reducible apply setScan_kept
    | with_reducible apply Kept.foldl
    | (intro _ _ _; show Kept _ _)
    | exact rfl
    | (intro h; exact h)
    | split
    | with_reducible apply Kept.with

theorem uRoleChange_kept {z0 d : Dev}  (hk0 : Kept z0 d) :
    Kept z0 (Dev.uRoleChange d) := by
  unfold Dev.uRoleChange
  repeat' first
    | with_reducible assumption
    | with_reducible apply setScan_kept
    | with_reducible apply exvUpdate_kept
    | with_reducible apply Kept.foldl
    | (intro _ _ _; show Kept _ _)
    | split

theorem iexSwap_kept {z0 d : Dev} (old : Image) (hk0 : Kept z0 d) :
    Kept z0 (Dev.iexSwap d old) := by
  unfold Dev.iexSwap
  repeat' first
    | with_reducible assumption
    | with_reducible apply setScan_kept
    | with_reducible apply Kept.foldl
    | (intro _ _ _; show Kept _ _)
    | split

theorem uinChanRegs_kept {z0 d : Dev} (n : Nat) (hk0 : Kept z0 d) :
    Kept z0 (Dev.uinChanRegs d n) := by
  unfold Dev.uinChanRegs
  repeat' first
    | (intro zz; refine Kept.have (x := zz) ?_ (fun _ => ?_); unfold zz; rotate_left; clear_value zz; rotate_right)
    | with_reducible assumption
    | with_reducible apply wrFs_kept

theorem uinConvRegs_kept {z0 d : Dev} (m : Nat) (hk0 : Kept z0 d) :
    Kept z0 (Dev.uinConvRegs d m) := by
  unfold Dev.uinConvRegs
  repeat' first
    | (intro zz; refine Kept.have (x := zz) ?_ (fun _ => ?_); unfold zz; rotate_left; clear_value zz; rotate_right)
    | with_reducible assumption
    | with_reducible apply wrFs_kept
    | with_reducible apply wr_kept
    | with_reducible apply Kept.foldl
    | (intro _ _ _; show Kept _ _)

theorem uinRegs_kept {z0 d : Dev}  (hk0 : Kept z0 d) :
    Kept z0 (Dev.uinRegs d) := by
  unfold Dev.uinRegs
  repeat' first
    | (intro zz; refine Kept.have (x := zz) ?_ (fun _ => ?_); unfold zz; rotate_left; clear_value zz; rotate_right)
    | with_reducible assumption
    | with_reducible apply uinChanRegs_kept
    | with_reducible apply uinConvRegs_kept
    | with_reducible apply wrF_kept
    | with_reducible apply Kept.foldl
    | (intro _ _ _; show Kept _ _)

theorem uRestart_kept {z0 d : Dev} (m : Nat) (hk0 : Kept z0 d) :
    Kept z0 (Dev.uRestart d m) := by
  unfold Dev.uRestart
  repeat' first
    | (intro zz; refine Kept.have (x := zz) ?_ (fun _ => ?_); unfold zz; rotate_left; clear_value zz; rotate_right)
    | with_reducible assumption
    | with_reducible apply uDiscard_kept
    | with_reducible apply setScan_kept
    | with_reducible apply wrF_kept
    | with_reducible apply uMap_kept
    | with_reducible apply setUch_kept
    | with_reducible apply Kept.foldl
    | (intro _ _ _; show Kept _ _)
    | exact rfl
    | (intro h; exact h)
    | split
    | with_reducible apply Kept.with

theorem uinApply_kept {z0 d : Dev} (first : Bool) (old : Image) (hk0 : Kept z0 d) :
    Kept z0 (Dev.uinApply d first old) := by
  unfold Dev.uinApply
  repeat' first
    | (intro zz; refine Kept.have (x := zz) ?_ (fun _ => ?_); unfold zz; rotate_left; clear_value zz; rotate_right)
    | with_reducible assumption
    | with_reducible apply uClampsDue_kept
    | with_reducible apply iexSwap_kept
    | with_reducible apply uRestart_kept
    | with_reducible apply uinRegs_kept
    | with_reducible apply exvUpdate_kept
    | with_reducible apply Kept.foldl
    | (intro _ _ _; show Kept _ _)
    | exact rfl
    | (intro h; exact h)
    | split
    | with_reducible apply Kept.with

theorem setXc_kept {z0 d : Dev} (n : Nat) (f : XChan → XChan) (hk0 : Kept z0 d) :
    Kept z0 (Dev.setXc d n f) := by
  unfold Dev.setXc
  repeat' first
    | with_reducible assumption
    | exact rfl
    | (intro h; simp [h, memWf_memWrite]; done)
    | (intro h; exact h)
    | with_reducible apply Kept.with

theorem orFree_kept {z0 d : Dev} (x : Option Int) (hk0 : Kept z0 d) :
    Kept z0 (Dev.orFree d x).2 := by
  unfold Dev.orFree
  repeat' first
    | (intro zz; refine Kept.have (x := zz) ?_ (fun _ => ?_); unfold zz; rotate_left; clear_value zz; rotate_right)
    | with_reducible assumption
    | with_reducible apply freeVal_kept
    | split

theorem xRelease_kept {z0 d : Dev} (n st : Nat) (v aux : Int) (hk0 : Kept z0 d) :
    Kept z0 (Dev.xRelease d n st v aux) := by
  unfold Dev.xRelease
  repeat' first
    | (intro zz; refine Kept.have (x := zz) ?_ (fun _ => ?_); unfold zz; rotate_left; clear_value zz; rotate_right)
    | with_reducible assumption
    | with_reducible apply setXc_kept
    | with_reducible apply wrF_kept
    | with_reducible apply wr_kept
    | with_reducible apply flag_kept
    | with_reducible apply raiseIf_kept
    | split

theorem xCut_kept {z0 d : Dev}  (hk0 : Kept z0 d) :
    Kept z0 (Dev.xCut d) := by
  unfold Dev.xCut
  repeat' first
    | (intro zz; refine Kept.have (x := zz) ?_ (fun _ => ?_); unfold zz; rotate_left; clear_value zz; rotate_right)
    | with_reducible assumption
    | with_reducible apply setXc_kept
    | with_reducible apply Kept.foldl
    | (intro _ _ _; show Kept _ _)

theorem xUnlock_kept {z0 d : Dev} (n : Nat) (hk0 : Kept z0 d) :
    Kept z0 (Dev.xUnlock d n) := by
  unfold Dev.xUnlock
  repeat' first
    | with_reducible assumption
    | with_reducible apply wrF_kept
    | with_reducible apply setXc_kept

theorem checkInputs_kept {z0 d : Dev} (r : XcRec) (c : List F64) (hk0 : Kept z0 d) :
    Kept z0 (Dev.checkInputs d r c).2 := by
  unfold Dev.checkInputs
  split
  · exact orFree_kept _ hk0
  · split
    · exact hk0
    · exact orFree_kept _ hk0
  · exact orFree_kept _ hk0

theorem xJudge_kept {z0 d : Dev} (n m : Nat) (hk0 : Kept z0 d) :
    Kept z0 (Dev.xJudge d n m) := by
  unfold Dev.xJudge
  repeat' first
    | (intro zz; refine Kept.have (x := zz) ?_ (fun _ => ?_); unfold zz; rotate_left; clear_value zz; rotate_right)
    | with_reducible assumption
    | with_reducible apply setXc_kept
    | with_reducible apply incF_kept
    | with_reducible apply wrF_kept
    | with_reducible apply xRelease_kept
    | with_reducible apply Kept.foldl
    | (intro _ _ _; show Kept _ _)
    | with_reducible apply Kept.ite

theorem xLock_kept {z0 d : Dev} (n err : Nat) (hk0 : Kept z0 d) :
    Kept z0 (Dev.xLock d n err).2 := by
  unfold Dev.xLock
  repeat' first
    | (intro zz; refine Kept.have (x := zz) ?_ (fun _ => ?_); unfold zz; rotate_left; clear_value zz; rotate_right)
    | with_reducible assumption
    | with_reducible apply setXc_kept
    | with_reducible apply wrF_kept
    | with_reducible apply incF_kept
    | with_reducible apply flagEv_kept
    | with_reducible apply Kept.ite

theorem xClip_kept {z0 d : Dev} (n : Nat) (clip : Bool) (hk0 : Kept z0 d) :
    Kept z0 (Dev.xClip d n clip) := by
  unfold Dev.xClip
  repeat' first
    | (intro zz; refine Kept.have (x := zz) ?_ (fun _ => ?_); unfold zz; rotate_left; clear_value zz; rotate_right)
    | with_reducible assumption
    | with_reducible apply setXc_kept
    | with_reducible apply flagEv_kept
    | with_reducible apply Kept.ite

theorem xMonitor_kept {z0 d : Dev} (n : Nat) (c : List F64) (irms : Nat) (hk0 : Kept z0 d) :
    Kept z0 (Dev.xMonitor d n c irms) := by
  unfold Dev.xMonitor
  repeat' first
    | (intro zz; refine Kept.have (x := zz) ?_ (fun _ => ?_); unfold zz; rotate_left; clear_value zz; rotate_right)
    | with_reducible assumption
    | with_reducible apply wrFs_kept

theorem xRamp_kept {z0 d : Dev} (n : Nat) (hk0 : Kept z0 d) :
    Kept z0 (Dev.xRamp d n) := by
  unfold Dev.xRamp
  repeat' first
    | (intro zz; refine Kept.have (x := zz) ?_ (fun _ => ?_); unfold zz; rotate_left; clear_value zz; rotate_right)
    | with_reducible assumption
    | with_reducible apply setXc_kept

theorem xPath_kept {z0 d : Dev} (n : Nat) (c : List F64) (hk0 : Kept z0 d) :
    Kept z0 (Dev.xPath d n c) := by
  unfold Dev.xPath
  repeat' first
    | (intro zz; refine Kept.have (x := zz) ?_ (fun _ => ?_); unfold zz; rotate_left; clear_value zz; rotate_right)
    | with_reducible assumption
    | with_reducible apply setXc_kept

theorem xPeriod_kept {z0 d : Dev} (n : Nat) (samples : List (BitVec 16 × BitVec 16 × BitVec 16)) (irms : BitVec 16) (limit : Nat) (lockPhase : Word) (err : Nat) (hk0 : Kept z0 d) :
    Kept z0 (Dev.xPeriod d n samples irms limit lockPhase err) := by
  unfold Dev.xPeriod
  repeat' first
    | (intro zz; refine Kept.have (x := zz) ?_ (fun _ => ?_); unfold zz; rotate_left; clear_value zz; rotate_right)
    | with_reducible assumption
    | with_reducible apply xLock_kept
    | with_reducible apply xMonitor_kept
    | with_reducible apply xPath_kept
    | with_reducible apply xRamp_kept
    | with_reducible apply setXc_kept
    | with_reducible apply xJudge_kept
    | with_reducible apply xClip_kept
    | with_reducible apply checkInputs_kept
    | with_reducible apply Kept.ite
    | split

theorem xClear_kept {z0 d : Dev} (n : Nat) (hk0 : Kept z0 d) :
    Kept z0 (Dev.xClear d n) := by
  unfold Dev.xClear
  repeat' first
    | with_reducible assumption
    | with_reducible apply setXc_kept

theorem xIq_kept {z0 d : Dev} (n : Nat) (c : List F64) (hk0 : Kept z0 d) :
    Kept z0 (Dev.xIq d n c) := by
  unfold Dev.xIq
  repeat' first
    | with_reducible assumption
    | with_reducible apply wr_kept
    | with_reducible apply Kept.foldl
    | (intro _ _ _; show Kept _ _)

theorem xTrim_kept {z0 d : Dev} (n : Nat) (hk0 : Kept z0 d) :
    Kept z0 (Dev.xTrim d n) := by
  unfold Dev.xTrim
  repeat' first
    | (intro zz; refine Kept.have (x := zz) ?_ (fun _ => ?_); unfold zz; rotate_left; clear_value zz; rotate_right)
    | with_reducible assumption
    | with_reducible apply wbApply_kept
    | with_reducible apply wrF_kept
    | with_reducible apply setXc_kept
    | exact rfl
    | (intro h; exact h)
    | split
    | with_reducible apply Kept.with

theorem xDiscard_kept {z0 d : Dev} (n : Nat) (hk0 : Kept z0 d) :
    Kept z0 (Dev.xDiscard d n) := by
  unfold Dev.xDiscard
  repeat' first
    | with_reducible assumption
    | with_reducible apply incF_kept
    | with_reducible apply flag_kept

theorem xDemod_kept {z0 d : Dev} (n : Nat) (hk0 : Kept z0 d) :
    Kept z0 (Dev.xDemod d n) := by
  unfold Dev.xDemod
  repeat' first
    | (intro zz; refine Kept.have (x := zz) ?_ (fun _ => ?_); unfold zz; rotate_left; clear_value zz; rotate_right)
    | with_reducible assumption
    | with_reducible apply xIq_kept
    | with_reducible apply xDiscard_kept
    | with_reducible apply orFree_kept
    | with_reducible apply xRelease_kept
    | with_reducible apply xClear_kept
    | with_reducible apply xTrim_kept
    | with_reducible apply Kept.ite
    | split

theorem xTrimWrite_kept {z0 d : Dev} (n : Nat) (v : BitVec 16) (hk0 : Kept z0 d) :
    Kept z0 (Dev.xTrimWrite d n v) := by
  unfold Dev.xTrimWrite
  repeat' first
    | with_reducible assumption
    | with_reducible apply wbWrite_kept
    | split

theorem xStateRelease_kept {z0 d : Dev} (n : Nat) (hk0 : Kept z0 d) :
    Kept z0 (Dev.xStateRelease d n) := by
  unfold Dev.xStateRelease
  repeat' first
    | (intro zz; refine Kept.have (x := zz) ?_ (fun _ => ?_); unfold zz; rotate_left; clear_value zz; rotate_right)
    | with_reducible assumption
    | with_reducible apply xDiscard_kept
    | with_reducible apply xClear_kept
    | with_reducible apply setXc_kept
    | with_reducible apply xRelease_kept
    | with_reducible apply Kept.ite

theorem xChange_kept {z0 d : Dev} (n : Nat) (hk0 : Kept z0 d) :
    Kept z0 (Dev.xChange d n) := by
  unfold Dev.xChange
  repeat' first
    | (intro zz; refine Kept.have (x := zz) ?_ (fun _ => ?_); unfold zz; rotate_left; clear_value zz; rotate_right)
    | with_reducible assumption
    | with_reducible apply wrF_kept
    | with_reducible apply xUnlock_kept
    | with_reducible apply xClear_kept
    | with_reducible apply setXc_kept
    | with_reducible apply xRelease_kept
    | with_reducible apply Kept.ite

theorem xchRegs_kept {z0 d : Dev}  (hk0 : Kept z0 d) :
    Kept z0 (Dev.xchRegs d) := by
  unfold Dev.xchRegs
  repeat' first
    | (intro zz; refine Kept.have (x := zz) ?_ (fun _ => ?_); unfold zz; rotate_left; clear_value zz; rotate_right)
    | with_reducible assumption
    | with_reducible apply wrFs_kept
    | with_reducible apply Kept.foldl
    | (intro _ _ _; show Kept _ _)

theorem setHart_kept {z0 d : Dev} (n : Nat) (f : Hart → Hart) (hk0 : Kept z0 d) :
    Kept z0 (Dev.setHart d n f) := by
  unfold Dev.setHart
  repeat' first
    | with_reducible assumption
    | with_reducible apply setLi_kept

theorem hartVar_kept {z0 d : Dev} (n : Nat) (f : HartFrame) (x : Nat × Nat) (hk0 : Kept z0 d) :
    Kept z0 (Dev.hartVar d n f x) := by
  unfold Dev.hartVar
  repeat' first
    | (intro zz; refine Kept.have (x := zz) ?_ (fun _ => ?_); unfold zz; rotate_left; clear_value zz; rotate_right)
    | with_reducible assumption
    | with_reducible apply wrF_kept
    | with_reducible apply freeVal_kept
    | with_reducible apply wr_kept
    | split

theorem hartStatus_kept {z0 d : Dev} (n : Nat) (hk0 : Kept z0 d) :
    Kept z0 (Dev.hartStatus d n) := by
  unfold Dev.hartStatus
  repeat' first
    | (intro zz; refine Kept.have (x := zz) ?_ (fun _ => ?_); unfold zz; rotate_left; clear_value zz; rotate_right)
    | with_reducible assumption
    | with_reducible apply wrF_kept
    | with_reducible apply flagEv_kept
    | with_reducible apply Kept.ite

theorem hartDecode_kept {z0 d : Dev} (n : Nat) (f : HartFrame) (hk0 : Kept z0 d) :
    Kept z0 (Dev.hartDecode d n f) := by
  unfold Dev.hartDecode
  repeat' first
    | (intro zz; refine Kept.have (x := zz) ?_ (fun _ => ?_); unfold zz; rotate_left; clear_value zz; rotate_right)
    | with_reducible assumption
    | with_reducible apply wrF_kept
    | with_reducible apply flagEv_kept
    | with_reducible apply hartVar_kept
    | with_reducible apply setHart_kept
    | with_reducible apply hartStatus_kept
    | with_reducible apply Kept.foldl
    | (intro _ _ _; show Kept _ _)
    | split

theorem hartStale_kept {z0 d : Dev} (n : Nat) (hk0 : Kept z0 d) :
    Kept z0 (Dev.hartStale d n) := by
  unfold Dev.hartStale
  repeat' first
    | with_reducible assumption
    | with_reducible apply setHart_kept
    | with_reducible apply hartStatus_kept
    | split

theorem hartCopy_kept {z0 d : Dev} (n : Nat) (f : HartFrame) (hk0 : Kept z0 d) :
    Kept z0 (Dev.hartCopy d n f) := by
  unfold Dev.hartCopy
  repeat' first
    | (intro zz; refine Kept.have (x := zz) ?_ (fun _ => ?_); unfold zz; rotate_left; clear_value zz; rotate_right)
    | with_reducible assumption
    | with_reducible apply freeVal_kept
    | with_reducible apply notify_kept
    | with_reducible apply Kept.foldl
    | (intro _ _ _; show Kept _ _)

theorem hartEntry_kept {z0 d : Dev} (n : Nat) (tx : HartTx) (ref : HostRef) (res rc fd : Nat) (data : List Byte) (hk0 : Kept z0 d) :
    Kept z0 (Dev.hartEntry d n tx ref res rc fd data) := by
  unfold Dev.hartEntry
  repeat' first
    | (intro zz; refine Kept.have (x := zz) ?_ (fun _ => ?_); unfold zz; rotate_left; clear_value zz; rotate_right)
    | with_reducible assumption
    | with_reducible apply happen_kept
    | with_reducible apply setHart_kept

theorem hartDone_kept {z0 d : Dev} (n : Nat) (tx : HartTx) (res rc fd : Nat) (data : List Byte) (hk0 : Kept z0 d) :
    Kept z0 (Dev.hartDone d n tx res rc fd data) := by
  unfold Dev.hartDone
  repeat' first
    | (intro zz; refine Kept.have (x := zz) ?_ (fun _ => ?_); unfold zz; rotate_left; clear_value zz; rotate_right)
    | with_reducible assumption
    | with_reducible apply setHart_kept
    | with_reducible apply flagEv_kept
    | with_reducible apply hartEntry_kept
    | split

theorem hartStart_kept {z0 d : Dev} (n : Nat) (hk0 : Kept z0 d) : Kept z0 (Dev.hartStart d n) := by
  unfold Dev.hartStart
  split
  · exact hk0
  · next e _ _ =>
    split
    · exact hk0
    · generalize d.hartTx n e.bytes e.ref false = tx
      exact setHart_kept _ _ (pop_kept _ hk0)

theorem hartRetry_kept {z0 d : Dev} (n : Nat) (tx : HartTx) (res : Nat) (hk0 : Kept z0 d) :
    Kept z0 (Dev.hartRetry d n tx res) := by
  unfold Dev.hartRetry
  repeat' first
    | with_reducible assumption
    | with_reducible apply hartDone_kept
    | with_reducible apply incF_kept
    | with_reducible apply setHart_kept
    | split

theorem hartTimeout_kept {z0 d : Dev} (n : Nat) (hk0 : Kept z0 d) :
    Kept z0 (Dev.hartTimeout d n) := by
  unfold Dev.hartTimeout
  repeat' first
    | with_reducible assumption
    | with_reducible apply incF_kept
    | with_reducible apply hartRetry_kept
    | split

theorem hartFrame_kept {z0 d : Dev} (n : Nat) (bytes : List Byte) (parity : Bool) (hk0 : Kept z0 d) :
    Kept z0 (Dev.hartFrame d n bytes parity) := by
  unfold Dev.hartFrame
  repeat' first
    | (intro zz; refine Kept.have (x := zz) ?_ (fun _ => ?_); unfold zz; rotate_left; clear_value zz; rotate_right)
    | with_reducible assumption
    | with_reducible apply setHart_kept
    | with_reducible apply hartRetry_kept
    | with_reducible apply hartDecode_kept
    | with_reducible apply wrF_kept
    | with_reducible apply hartCopy_kept
    | with_reducible apply hartDone_kept
    | with_reducible apply Kept.ite
    | exact rfl
    | (intro h; exact h)
    | split
    | with_reducible apply Kept.with

theorem hartPoll_kept {z0 d : Dev} (n : Nat) (hk0 : Kept z0 d) :
    Kept z0 (Dev.hartPoll d n) := by
  unfold Dev.hartPoll
  repeat' first
    | (intro zz; refine Kept.have (x := zz) ?_ (fun _ => ?_); unfold zz; rotate_left; clear_value zz; rotate_right)
    | with_reducible assumption
    | with_reducible apply push_kept
    | with_reducible apply refuse_kept
    | with_reducible apply incF_kept
    | with_reducible apply raise_kept
    | with_reducible apply Kept.ite

theorem hartAccept_kept {z0 d : Dev} (n : Nat) (elem : List Byte) (ref : HostRef) (hk0 : Kept z0 d) :
    Kept z0 (Dev.hartAccept d n elem ref) := by
  unfold Dev.hartAccept
  repeat' first
    | with_reducible assumption
    | with_reducible apply setHart_kept

theorem hartTake_kept {z0 d : Dev} (n : Nat) (o : List Byte × HostRef) (hk0 : Kept z0 d) :
    Kept z0 (Dev.hartTake d n o) := by
  unfold Dev.hartTake
  repeat' first
    | (intro zz; refine Kept.have (x := zz) ?_ (fun _ => ?_); unfold zz; rotate_left; clear_value zz; rotate_right)
    | with_reducible assumption
    | with_reducible apply pushFree_kept
    | with_reducible apply setHart_kept
    | with_reducible apply hartDone_kept
    | split

theorem hartTakeover_kept {z0 d : Dev}  (hk0 : Kept z0 d) :
    Kept z0 (Dev.hartTakeover d) := by
  unfold Dev.hartTakeover
  repeat' first
    | (intro zz; refine Kept.have (x := zz) ?_ (fun _ => ?_); unfold zz; rotate_left; clear_value zz; rotate_right)
    | with_reducible assumption
    | with_reducible apply hartTake_kept
    | with_reducible apply setHart_kept
    | with_reducible apply Kept.foldl
    | (intro _ _ _; show Kept _ _)

theorem hartLoss_kept {z0 d : Dev}  (hk0 : Kept z0 d) :
    Kept z0 (Dev.hartLoss d) := by
  unfold Dev.hartLoss
  repeat' first
    | with_reducible assumption
    | with_reducible apply setHart_kept
    | with_reducible apply Kept.foldl
    | (intro _ _ _; show Kept _ _)

theorem hartCancel_kept {z0 d : Dev} (n : Nat) (hk0 : Kept z0 d) :
    Kept z0 (Dev.hartCancel d n) := by
  unfold Dev.hartCancel
  repeat' first
    | (intro zz; refine Kept.have (x := zz) ?_ (fun _ => ?_); unfold zz; rotate_left; clear_value zz; rotate_right)
    | with_reducible assumption
    | with_reducible apply hartEntry_kept
    | with_reducible apply setQueue_kept
    | with_reducible apply Kept.foldl
    | (intro _ _ _; show Kept _ _)
    | split

end Sys2Proof.Machine
end

