-- ==== Sys2Proof/Laws/KeptService.lean ====
section
/-!
SUPPORT. What the operations of the holder functions, the journal, the Watchtower, the message bus, the dome, the cam schedule and the queue engine keep.
-/
namespace Sys2Proof.Machine

theorem writeThrough_kept {z0 d : Dev} (on : Bool) (hk0 : Kept z0 d) :
    Kept z0 (Dev.writeThrough d on) := by
  unfold Dev.writeThrough
  repeat' first
    | with_reducible assumption
    | with_reducible apply wrF_kept
    | exact rfl
    | (intro h; exact h)
    | with_reducible apply Kept.with

theorem setRole_kept {z0 d : Dev} (r : Nat) (hk0 : Kept z0 d) :
    Kept z0 (Dev.setRole d r) := by
  unfold Dev.setRole
  repeat' first
    | (intro zz; refine Kept.have (x := zz) ?_ (fun _ => ?_); unfold zz; rotate_left; clear_value zz; rotate_right)
    | with_reducible assumption
    | with_reducible apply wrF_kept
    | with_reducible apply raise_kept
    | with_reducible apply writeThrough_kept
    | exact rfl
    | (intro h; exact h)
    | split
    | with_reducible apply Kept.with

theorem send63_kept {z0 d : Dev} (bytes : List Byte) (hk0 : Kept z0 d) :
    Kept z0 (Dev.send63 d bytes) := by
  unfold Dev.send63
  repeat' first
    | with_reducible assumption
    | with_reducible apply push_kept
    | split

theorem swapAbandon_kept {z0 d : Dev}  (hk0 : Kept z0 d) :
    Kept z0 (Dev.swapAbandon d) := by
  unfold Dev.swapAbandon
  repeat' first
    | with_reducible assumption
    | with_reducible apply wrF_kept
    | exact rfl
    | (intro h; exact h)
    | split
    | with_reducible apply Kept.with

theorem rejoinFailed_kept {z0 d : Dev}  (hk0 : Kept z0 d) :
    Kept z0 (Dev.rejoinFailed d) := by
  unfold Dev.rejoinFailed
  repeat' first
    | (intro zz; refine Kept.have (x := zz) ?_ (fun _ => ?_); unfold zz; rotate_left; clear_value zz; rotate_right)
    | with_reducible assumption
    | with_reducible apply setPair_kept
    | with_reducible apply flagEv_kept
    | with_reducible apply wrFs_kept
    | with_reducible apply setRole_kept
    | with_reducible apply Kept.ite

theorem toRejoin_kept {z0 d : Dev}  (hk0 : Kept z0 d) :
    Kept z0 (Dev.toRejoin d) := by
  unfold Dev.toRejoin
  repeat' first
    | (intro zz; refine Kept.have (x := zz) ?_ (fun _ => ?_); unfold zz; rotate_left; clear_value zz; rotate_right)
    | with_reducible assumption
    | with_reducible apply setRole_kept
    | with_reducible apply wrF_kept
    | with_reducible apply setPair_kept
    | exact rfl
    | (intro h; exact h)
    | with_reducible apply Kept.with

theorem linkGone_kept {z0 d : Dev} (next : Nat) (hk0 : Kept z0 d) :
    Kept z0 (Dev.linkGone d next) := by
  unfold Dev.linkGone
  repeat' first
    | (intro zz; refine Kept.have (x := zz) ?_ (fun _ => ?_); unfold zz; rotate_left; clear_value zz; rotate_right)
    | with_reducible assumption
    | with_reducible apply wrFs_kept
    | with_reducible apply setPair_kept
    | with_reducible apply swapAbandon_kept
    | with_reducible apply wrF_kept
    | with_reducible apply happen_kept
    | with_reducible apply rejoinFailed_kept
    | exact rfl
    | (intro h; exact h)
    | split
    | with_reducible apply Kept.with

theorem fEntered_kept {z0 d : Dev} (f : Func) (st : Nat) (hk0 : Kept z0 d) :
    Kept z0 (Dev.fEntered d f st) := by
  unfold Dev.fEntered
  repeat' first
    | (intro zz; refine Kept.have (x := zz) ?_ (fun _ => ?_); unfold zz; rotate_left; clear_value zz; rotate_right)
    | with_reducible assumption
    | with_reducible apply wrF_kept
    | with_reducible apply setXc_kept
    | with_reducible apply xStateRelease_kept
    | with_reducible apply raiseIf_kept
    | with_reducible apply lSupplyOn_kept
    | with_reducible apply lSupplyOff_kept
    | with_reducible apply qPowerLost_kept
    | with_reducible apply qSwitches_kept
    | with_reducible apply pCut_kept
    | with_reducible apply setPnl_kept
    | with_reducible apply linkGone_kept
    | (intro h; exact h)
    | (intro x h; simpa using h; done)
    | split

theorem fStart_kept {z0 d : Dev} (f : Func) (hk0 : Kept z0 d) :
    Kept z0 (Dev.fStart d f) := by
  unfold Dev.fStart
  repeat' first
    | with_reducible assumption
    | with_reducible apply fEntered_kept
    | split

theorem fShut_kept {z0 d : Dev} (f : Func) (hk0 : Kept z0 d) :
    Kept z0 (Dev.fShut d f) := by
  unfold Dev.fShut
  repeat' first
    | with_reducible assumption
    | with_reducible apply fEntered_kept
    | split

theorem fForce_kept {z0 d : Dev} (f : Func) (hk0 : Kept z0 d) :
    Kept z0 (Dev.fForce d f) := by
  unfold Dev.fForce
  repeat' first
    | with_reducible assumption
    | with_reducible apply wrF_kept
    | with_reducible apply fShut_kept

theorem fEnable_kept {z0 d : Dev} (f : Func) (en : Bool) (hk0 : Kept z0 d) :
    Kept z0 (Dev.fEnable d f en) := by
  unfold Dev.fEnable
  repeat' first
    | (intro zz; refine Kept.have (x := zz) ?_ (fun _ => ?_); unfold zz; rotate_left; clear_value zz; rotate_right)
    | with_reducible assumption
    | with_reducible apply wrF_kept
    | with_reducible apply fStart_kept
    | with_reducible apply fShut_kept
    | exact rfl
    | (intro h; exact h)
    | split
    | with_reducible apply Kept.with

theorem fEnWrite_kept {z0 d : Dev} (sess : Nat) (f : Func) (en same : Bool) (hk0 : Kept z0 d) :
    Kept z0 (Dev.fEnWrite d sess f en same) := by
  unfold Dev.fEnWrite
  repeat' first
    | (intro zz; refine Kept.have (x := zz) ?_ (fun _ => ?_); unfold zz; rotate_left; clear_value zz; rotate_right)
    | with_reducible assumption
    | with_reducible apply passGate_kept
    | with_reducible apply happen_kept
    | with_reducible apply fEnable_kept
    | with_reducible apply Kept.ite
    | split

theorem fStartDone_kept {z0 d : Dev} (f : Func) (hk0 : Kept z0 d) :
    Kept z0 (Dev.fStartDone d f) := by
  unfold Dev.fStartDone
  repeat' first
    | with_reducible assumption
    | with_reducible apply fEntered_kept
    | split

theorem fShutDone_kept {z0 d : Dev} (f : Func) (hk0 : Kept z0 d) :
    Kept z0 (Dev.fShutDone d f) := by
  unfold Dev.fShutDone
  repeat' first
    | (intro zz; refine Kept.have (x := zz) ?_ (fun _ => ?_); unfold zz; rotate_left; clear_value zz; rotate_right)
    | with_reducible assumption
    | with_reducible apply fEntered_kept
    | with_reducible apply wrF_kept
    | with_reducible apply fStart_kept
    | with_reducible apply Kept.ite

theorem fForceAll_kept {z0 d : Dev} (p : Func → Bool) (hk0 : Kept z0 d) :
    Kept z0 (Dev.fForceAll d p) := by
  unfold Dev.fForceAll
  repeat' first
    | with_reducible assumption
    | with_reducible apply fForce_kept
    | with_reducible apply Kept.foldl

theorem fPfw_kept {z0 d : Dev}  (hk0 : Kept z0 d) :
    Kept z0 (Dev.fPfw d) := by
  unfold Dev.fPfw
  repeat' first
    | (intro zz; refine Kept.have (x := zz) ?_ (fun _ => ?_); unfold zz; rotate_left; clear_value zz; rotate_right)
    | with_reducible assumption
    | with_reducible apply fForceAll_kept
    | exact rfl
    | (intro h; exact h)
    | with_reducible apply Kept.with

theorem fRestore_kept {z0 d : Dev}  (hk0 : Kept z0 d) :
    Kept z0 (Dev.fRestore d) := by
  unfold Dev.fRestore
  repeat' first
    | (intro zz; refine Kept.have (x := zz) ?_ (fun _ => ?_); unfold zz; rotate_left; clear_value zz; rotate_right)
    | with_reducible assumption
    | with_reducible apply fEnable_kept
    | with_reducible apply wrF_kept
    | with_reducible apply Kept.foldl
    | (intro _ _ _; show Kept _ _)
    | exact rfl
    | (intro h; exact h)
    | split
    | with_reducible apply Kept.with

theorem fHeld_kept {z0 d : Dev}  (hk0 : Kept z0 d) :
    Kept z0 (Dev.fHeld d) := by
  unfold Dev.fHeld
  repeat' first
    | with_reducible assumption
    | with_reducible apply fStart_kept
    | with_reducible apply Kept.foldl
    | (intro _ _ _; show Kept _ _)
    | split

theorem fLoad_kept {z0 d : Dev} (f : Func) (hk0 : Kept z0 d) :
    Kept z0 (Dev.fLoad d f) := by
  unfold Dev.fLoad
  repeat' first
    | (intro zz; refine Kept.have (x := zz) ?_ (fun _ => ?_); unfold zz; rotate_left; clear_value zz; rotate_right)
    | with_reducible assumption
    | with_reducible apply wrF_kept
    | with_reducible apply fEnable_kept
    | exact rfl
    | (intro h; exact h)
    | split
    | with_reducible apply Kept.with

theorem fGain_kept {z0 d : Dev}  (hk0 : Kept z0 d) :
    Kept z0 (Dev.fGain d) := by
  unfold Dev.fGain
  repeat' first
    | (intro zz; refine Kept.have (x := zz) ?_ (fun _ => ?_); unfold zz; rotate_left; clear_value zz; rotate_right)
    | with_reducible assumption
    | with_reducible apply xUnlock_kept
    | with_reducible apply wrF_kept
    | with_reducible apply fEnable_kept
    | with_reducible apply fStart_kept
    | with_reducible apply Kept.foldl
    | (intro _ _ _; show Kept _ _)
    | exact rfl
    | (intro h; exact h)
    | split
    | with_reducible apply Kept.with

theorem fLoss_kept {z0 d : Dev}  (hk0 : Kept z0 d) :
    Kept z0 (Dev.fLoss d) := by
  unfold Dev.fLoss
  repeat' first
    | (intro zz; refine Kept.have (x := zz) ?_ (fun _ => ?_); unfold zz; rotate_left; clear_value zz; rotate_right)
    | with_reducible assumption
    | with_reducible apply wrF_kept
    | with_reducible apply xUnlock_kept
    | with_reducible apply xCut_kept
    | with_reducible apply fForceAll_kept
    | with_reducible apply Kept.foldl
    | (intro _ _ _; show Kept _ _)

theorem pnlCrack_kept {z0 d : Dev} (rcrk : BitVec 16) (hk0 : Kept z0 d) :
    Kept z0 (Dev.pnlCrack d rcrk) := by
  unfold Dev.pnlCrack
  repeat' first
    | (intro zz; refine Kept.have (x := zz) ?_ (fun _ => ?_); unfold zz; rotate_left; clear_value zz; rotate_right)
    | with_reducible assumption
    | with_reducible apply pCrack_kept
    | with_reducible apply fForce_kept
    | with_reducible apply Kept.ite

theorem oweFrame_kept {z0 d : Dev} (e : LEntry) (hk0 : Kept z0 d) : Kept z0 (Dev.oweFrame d e) := by
  unfold Dev.oweFrame
  split
  · refine Kept.with hk0 rfl id id id id id id id id id id id id id id ?_ ?_ id id
    · intro h; simp [h]
    · intro h c hc
      obtain ⟨x, hx, rfl⟩ := List.mem_map.mp hc
      have := h _ (List.of_mem_zip hx).2
      split <;> exact this
  · exact hk0

theorem drain_kept {z0 d : Dev}  (hk0 : Kept z0 d) :
    Kept z0 (Dev.drain d) := by
  unfold Dev.drain
  repeat' first
    | with_reducible assumption
    | with_reducible apply setJrn_kept
    | split

theorem drainAll_kept {z0 d : Dev}  (hk0 : Kept z0 d) :
    Kept z0 (Dev.drainAll d) := by
  unfold Dev.drainAll
  repeat' first
    | with_reducible assumption
    | with_reducible apply drain_kept
    | with_reducible apply Kept.foldl
    | (intro _ _ _; show Kept _ _)

theorem writeSeal_kept {z0 d : Dev}  (hk0 : Kept z0 d) :
    Kept z0 (Dev.writeSeal d) := by
  unfold Dev.writeSeal
  repeat' first
    | (intro zz; refine Kept.have (x := zz) ?_ (fun _ => ?_); unfold zz; rotate_left; clear_value zz; rotate_right)
    | with_reducible assumption
    | with_reducible apply setJrn_kept

theorem flush_kept {z0 d : Dev}  (hk0 : Kept z0 d) :
    Kept z0 (Dev.flush d) := by
  unfold Dev.flush
  repeat' first
    | with_reducible assumption
    | with_reducible apply drainAll_kept
    | with_reducible apply writeSeal_kept

theorem sealWrite_kept {z0 d : Dev} (us : BitVec 10) (hk0 : Kept z0 d) :
    Kept z0 (Dev.sealWrite d us) := by
  unfold Dev.sealWrite
  repeat' first
    | with_reducible assumption
    | with_reducible apply flush_kept
    | with_reducible apply wrF_kept

theorem jrnLevels_kept {z0 d : Dev}  (hk0 : Kept z0 d) :
    Kept z0 (Dev.jrnLevels d) := by
  unfold Dev.jrnLevels
  repeat' first
    | (intro zz; refine Kept.have (x := zz) ?_ (fun _ => ?_); unfold zz; rotate_left; clear_value zz; rotate_right)
    | with_reducible assumption
    | with_reducible apply setJrn_kept

theorem jrnSpace_kept {z0 d : Dev} (t : Take) (hk0 : Kept z0 d) :
    Kept z0 (Dev.jrnSpace d t) := by
  unfold Dev.jrnSpace
  repeat' first
    | (intro zz; refine Kept.have (x := zz) ?_ (fun _ => ?_); unfold zz; rotate_left; clear_value zz; rotate_right)
    | with_reducible assumption
    | with_reducible apply setJrn_kept

theorem hartClosed_kept {z0 d : Dev} (e : LEntry) (hk0 : Kept z0 d) :
    Kept z0 (Dev.hartClosed d e) := by
  unfold Dev.hartClosed
  repeat' first
    | with_reducible assumption
    | with_reducible apply setHart_kept
    | split

theorem acceptAll_kept {z0 d : Dev} (es : List LEntry) (hk0 : Kept z0 d) :
    Kept z0 (Dev.acceptAll d es) := by
  unfold Dev.acceptAll
  repeat' first
    | (intro zz; refine Kept.have (x := zz) ?_ (fun _ => ?_); unfold zz; rotate_left; clear_value zz; rotate_right)
    | with_reducible assumption
    | with_reducible apply setJrn_kept
    | with_reducible apply oweFrame_kept
    | with_reducible apply hartClosed_kept
    | with_reducible apply raiseIf_kept
    | with_reducible apply jrnLevels_kept
    | with_reducible apply flush_kept
    | with_reducible apply Kept.foldl
    | (intro _ _ _; show Kept _ _)
    | with_reducible apply Kept.ite

theorem checkpointSigned_kept {z0 d : Dev}  (hk0 : Kept z0 d) :
    Kept z0 (Dev.checkpointSigned d) := by
  unfold Dev.checkpointSigned
  repeat' first
    | with_reducible assumption
    | with_reducible apply setJrn_kept
    | split

theorem exportOne_kept {z0 d : Dev}  (hk0 : Kept z0 d) :
    Kept z0 (Dev.exportOne d) := by
  unfold Dev.exportOne
  repeat' first
    | (intro zz; refine Kept.have (x := zz) ?_ (fun _ => ?_); unfold zz; rotate_left; clear_value zz; rotate_right)
    | with_reducible assumption
    | with_reducible apply push_kept
    | with_reducible apply setJrn_kept
    | with_reducible apply raiseIf_kept
    | split

theorem exportAll_kept {z0 d : Dev}  (hk0 : Kept z0 d) :
    Kept z0 (Dev.exportAll d) := by
  unfold Dev.exportAll
  repeat' first
    | with_reducible assumption
    | with_reducible apply exportOne_kept
    | with_reducible apply Kept.foldl
    | (intro _ _ _; show Kept _ _)

theorem expackWrite_kept {z0 d : Dev} (sess : Nat) (v : Word) (hk0 : Kept z0 d) :
    Kept z0 (Dev.expackWrite d sess v) := by
  unfold Dev.expackWrite
  repeat' first
    | with_reducible assumption
    | with_reducible apply wbWrite_kept
    | exact rfl
    | (intro h; exact h)
    | split
    | with_reducible apply Kept.with

theorem expackLatch_kept {z0 d : Dev}  (hk0 : Kept z0 d) :
    Kept z0 (Dev.expackLatch d) := by
  unfold Dev.expackLatch
  repeat' first
    | (intro zz; refine Kept.have (x := zz) ?_ (fun _ => ?_); unfold zz; rotate_left; clear_value zz; rotate_right)
    | with_reducible assumption
    | with_reducible apply wbApply_kept
    | with_reducible apply flagEv_kept
    | with_reducible apply setJrn_kept
    | with_reducible apply jrnLevels_kept
    | with_reducible apply Kept.ite
    | split

theorem poolClr_kept {z0 d : Dev}  (hk0 : Kept z0 d) :
    Kept z0 (Dev.poolClr d) := by
  unfold Dev.poolClr
  repeat' first
    | with_reducible assumption
    | with_reducible apply wrF_kept

theorem holdcntClr_kept {z0 d : Dev}  (hk0 : Kept z0 d) :
    Kept z0 (Dev.holdcntClr d) := by
  unfold Dev.holdcntClr
  repeat' first
    | with_reducible assumption
    | with_reducible apply wrF_kept

theorem jrnHeads_kept {z0 d : Dev}  (hk0 : Kept z0 d) :
    Kept z0 (Dev.jrnHeads d) := by
  unfold Dev.jrnHeads
  repeat' first
    | (intro zz; refine Kept.have (x := zz) ?_ (fun _ => ?_); unfold zz; rotate_left; clear_value zz; rotate_right)
    | with_reducible assumption
    | with_reducible apply setJrn_kept
    | with_reducible apply wr_kept

theorem jrnDue_kept {z0 d : Dev}  (hk0 : Kept z0 d) :
    Kept z0 (Dev.jrnDue d) := by
  unfold Dev.jrnDue
  repeat' first
    | (intro zz; refine Kept.have (x := zz) ?_ (fun _ => ?_); unfold zz; rotate_left; clear_value zz; rotate_right)
    | with_reducible assumption
    | with_reducible apply flagEv_kept
    | with_reducible apply wr_kept
    | with_reducible apply wrFs_kept
    | with_reducible apply wrF_kept
    | with_reducible apply setJrn_kept
    | with_reducible apply Kept.foldl
    | (intro _ _ _; show Kept _ _)

theorem jrnShow_kept {z0 d : Dev}  (hk0 : Kept z0 d) :
    Kept z0 (Dev.jrnShow d) := by
  unfold Dev.jrnShow
  repeat' first
    | (intro zz; refine Kept.have (x := zz) ?_ (fun _ => ?_); unfold zz; rotate_left; clear_value zz; rotate_right)
    | with_reducible assumption
    | with_reducible apply jrnDue_kept
    | with_reducible apply jrnHeads_kept
    | with_reducible apply wrFs_kept
    | with_reducible apply wrF_kept

theorem headLoRead_kept {z0 d : Dev}  (hk0 : Kept z0 d) :
    Kept z0 (Dev.headLoRead d) := by
  unfold Dev.headLoRead
  repeat' first
    | with_reducible assumption
    | with_reducible apply wr_kept

theorem wmarkLoRead_kept {z0 d : Dev}  (hk0 : Kept z0 d) :
    Kept z0 (Dev.wmarkLoRead d) := by
  unfold Dev.wmarkLoRead
  repeat' first
    | with_reducible assumption
    | with_reducible apply wr_kept

theorem ckptLoRead_kept {z0 d : Dev}  (hk0 : Kept z0 d) :
    Kept z0 (Dev.ckptLoRead d) := by
  unfold Dev.ckptLoRead
  repeat' first
    | with_reducible assumption
    | with_reducible apply wr_kept

theorem jrnRegs_kept {z0 d : Dev}  (hk0 : Kept z0 d) :
    Kept z0 (Dev.jrnRegs d) := by
  unfold Dev.jrnRegs
  repeat' first
    | (intro zz; refine Kept.have (x := zz) ?_ (fun _ => ?_); unfold zz; rotate_left; clear_value zz; rotate_right)
    | with_reducible assumption
    | with_reducible apply wrFs_kept
    | with_reducible apply wrF_kept
    | with_reducible apply jrnLevels_kept

theorem jrnStart_kept {z0 d : Dev}  (hk0 : Kept z0 d) :
    Kept z0 (Dev.jrnStart d) := by
  unfold Dev.jrnStart
  repeat' first
    | (intro zz; refine Kept.have (x := zz) ?_ (fun _ => ?_); unfold zz; rotate_left; clear_value zz; rotate_right)
    | with_reducible assumption
    | with_reducible apply setJrn_kept
    | with_reducible apply wrF_kept
    | with_reducible apply flag_kept
    | with_reducible apply raise_kept
    | with_reducible apply flagEv_kept
    | with_reducible apply happen_kept
    | with_reducible apply jrnLevels_kept
    | with_reducible apply jrnHeads_kept
    | with_reducible apply headLoRead_kept
    | with_reducible apply wmarkLoRead_kept
    | with_reducible apply ckptLoRead_kept
    | split

theorem sendHealth_kept {z0 d : Dev}  (hk0 : Kept z0 d) :
    Kept z0 (Dev.sendHealth d) := by
  unfold Dev.sendHealth
  repeat' first
    | with_reducible assumption
    | with_reducible apply send63_kept

theorem healthTurn_kept {z0 d : Dev}  (hk0 : Kept z0 d) :
    Kept z0 (Dev.healthTurn d) := by
  unfold Dev.healthTurn
  repeat' first
    | (intro zz; refine Kept.have (x := zz) ?_ (fun _ => ?_); unfold zz; rotate_left; clear_value zz; rotate_right)
    | with_reducible assumption
    | with_reducible apply sendHealth_kept
    | with_reducible apply setWtc_kept
    | with_reducible apply push_kept
    | with_reducible apply raise_kept
    | with_reducible apply Kept.ite
    | (intro x h; simpa using h; done)

theorem react_kept {z0 d : Dev}  (hk0 : Kept z0 d) :
    Kept z0 (Dev.react d) := by
  unfold Dev.react
  repeat' first
    | (intro zz; refine Kept.have (x := zz) ?_ (fun _ => ?_); unfold zz; rotate_left; clear_value zz; rotate_right)
    | with_reducible assumption
    | with_reducible apply flagEv_kept
    | with_reducible apply setWtc_kept
    | with_reducible apply Kept.ite
    | (intro x h; simpa using h; done)

theorem haltTurns_kept {z0 d : Dev}  (hk0 : Kept z0 d) :
    Kept z0 (Dev.haltTurns d) := by
  unfold Dev.haltTurns
  repeat' first
    | (intro zz; refine Kept.have (x := zz) ?_ (fun _ => ?_); unfold zz; rotate_left; clear_value zz; rotate_right)
    | with_reducible assumption
    | with_reducible apply wrF_kept
    | with_reducible apply raise_kept
    | with_reducible apply flush_kept
    | exact rfl
    | (intro h; exact h)
    | with_reducible apply Kept.with

theorem safeState_kept {z0 d : Dev} (code : Nat) (hk0 : Kept z0 d) :
    Kept z0 (Dev.safeState d code) := by
  unfold Dev.safeState
  repeat' first
    | (intro zz; refine Kept.have (x := zz) ?_ (fun _ => ?_); unfold zz; rotate_left; clear_value zz; rotate_right)
    | with_reducible assumption
    | with_reducible apply wrF_kept
    | with_reducible apply doSafe_kept
    | with_reducible apply loEmit_kept
    | with_reducible apply fForceAll_kept
    | with_reducible apply raise_kept
    | with_reducible apply haltTurns_kept
    | with_reducible apply react_kept
    | with_reducible apply Kept.foldl
    | (intro _ _ _; show Kept _ _)
    | split

theorem declare_kept {z0 d : Dev} (code detail : Nat) (hk0 : Kept z0 d) :
    Kept z0 (Dev.declare d code detail) := by
  unfold Dev.declare
  repeat' first
    | (intro zz; refine Kept.have (x := zz) ?_ (fun _ => ?_); unfold zz; rotate_left; clear_value zz; rotate_right)
    | with_reducible assumption
    | with_reducible apply incF_kept
    | with_reducible apply sendHealth_kept
    | with_reducible apply setWtc_kept
    | with_reducible apply wrFs_kept
    | with_reducible apply wrF_kept
    | with_reducible apply raise_kept
    | with_reducible apply safeState_kept
    | with_reducible apply Kept.ite
    | (intro x h; simpa using h; done)

theorem dangerousFault_kept {z0 d : Dev} (code detail : BitVec 8) (hk0 : Kept z0 d) :
    Kept z0 (Dev.dangerousFault d code detail) := by
  unfold Dev.dangerousFault
  repeat' first
    | with_reducible assumption
    | with_reducible apply declare_kept
    | split

theorem latentDone_kept {z0 d : Dev} (t : Nat) (pass : Bool) (hk0 : Kept z0 d) :
    Kept z0 (Dev.latentDone d t pass) := by
  unfold Dev.latentDone
  repeat' first
    | (intro zz; refine Kept.have (x := zz) ?_ (fun _ => ?_); unfold zz; rotate_left; clear_value zz; rotate_right)
    | with_reducible assumption
    | with_reducible apply setWtc_kept
    | with_reducible apply wrF_kept
    | with_reducible apply flagEv_kept
    | with_reducible apply declare_kept
    | (intro x h; simpa using h; done)
    | split

theorem latentOverdue_kept {z0 d : Dev} (t : Nat) (hk0 : Kept z0 d) :
    Kept z0 (Dev.latentOverdue d t) := by
  unfold Dev.latentOverdue
  repeat' first
    | (intro zz; refine Kept.have (x := zz) ?_ (fun _ => ?_); unfold zz; rotate_left; clear_value zz; rotate_right)
    | with_reducible assumption
    | with_reducible apply wrF_kept
    | with_reducible apply flagEv_kept
    | with_reducible apply declare_kept
    | split

theorem eccCor_kept {z0 d : Dev} (ledger : Bool) (hk0 : Kept z0 d) :
    Kept z0 (Dev.eccCor d ledger) := by
  unfold Dev.eccCor
  repeat' first
    | (intro zz; refine Kept.have (x := zz) ?_ (fun _ => ?_); unfold zz; rotate_left; clear_value zz; rotate_right)
    | with_reducible assumption
    | with_reducible apply setWtc_kept
    | with_reducible apply incF_kept
    | with_reducible apply flagEv_kept
    | (intro x h; simpa using h; done)
    | split

theorem tempHi_kept {z0 d : Dev} (temp : BitVec 16) (hk0 : Kept z0 d) :
    Kept z0 (Dev.tempHi d temp) := by
  unfold Dev.tempHi
  repeat' first
    | (intro zz; refine Kept.have (x := zz) ?_ (fun _ => ?_); unfold zz; rotate_left; clear_value zz; rotate_right)
    | with_reducible assumption
    | with_reducible apply wrFs_kept
    | with_reducible apply setWtc_kept
    | with_reducible apply flagEv_kept
    | with_reducible apply Kept.ite
    | (intro x h; simpa using h; done)

theorem wtcRegs_kept {z0 d : Dev}  (hk0 : Kept z0 d) :
    Kept z0 (Dev.wtcRegs d) := by
  unfold Dev.wtcRegs
  repeat' first
    | (intro zz; refine Kept.have (x := zz) ?_ (fun _ => ?_); unfold zz; rotate_left; clear_value zz; rotate_right)
    | with_reducible assumption
    | with_reducible apply wrFs_kept
    | with_reducible apply react_kept

theorem clockDomain_kept {z0 d : Dev} (measured out : BitVec 11) (k : Nat) (hk0 : Kept z0 d) :
    Kept z0 (Dev.clockDomain d measured out k) := by
  unfold Dev.clockDomain
  repeat' first
    | (intro zz; refine Kept.have (x := zz) ?_ (fun _ => ?_); unfold zz; rotate_left; clear_value zz; rotate_right)
    | with_reducible assumption
    | with_reducible apply flagEv_kept
    | with_reducible apply declare_kept
    | exact rfl
    | (intro h; simp [h, memWf_memWrite]; done)
    | (intro h; exact h)
    | split
    | with_reducible apply Kept.with

theorem clockWindow_kept {z0 d : Dev} (measured out : BitVec 11) (hk0 : Kept z0 d) :
    Kept z0 (Dev.clockWindow d measured out) := by
  unfold Dev.clockWindow
  repeat' first
    | with_reducible assumption
    | with_reducible apply clockDomain_kept
    | with_reducible apply Kept.foldl
    | (intro _ _ _; show Kept _ _)
    | split

theorem arrive_kept {z0 d : Dev} (c : OpCmd) (hk0 : Kept z0 d) :
    Kept z0 (Dev.arrive d c) := by
  unfold Dev.arrive
  repeat' first
    | with_reducible assumption
    | exact rfl
    | (intro h; exact h)
    | with_reducible apply Kept.with

theorem setRemote_kept {z0 d : Dev} (x : RemotePt) (hk0 : Kept z0 d) :
    Kept z0 (Dev.setRemote d x) := by
  unfold Dev.setRemote
  repeat' first
    | with_reducible assumption
    | with_reducible apply setCan_kept
    | (intro x h; simpa using h; done)

theorem remoteUpdate_kept {z0 d : Dev} (p : Nat) (v : Int) (stamp ch : Nat) (hk0 : Kept z0 d) :
    Kept z0 (Dev.remoteUpdate d p v stamp ch) := by
  unfold Dev.remoteUpdate
  repeat' first
    | (intro zz; refine Kept.have (x := zz) ?_ (fun _ => ?_); unfold zz; rotate_left; clear_value zz; rotate_right)
    | with_reducible assumption
    | with_reducible apply setRemote_kept
    | with_reducible apply Kept.ite

theorem rxAct_kept {z0 d : Dev} (ch stamp : Nat) (f : Frame) (r : RxRec) (hk0 : Kept z0 d) :
    Kept z0 (Dev.rxAct d ch stamp f r) := by
  unfold Dev.rxAct
  repeat' first
    | (intro zz; refine Kept.have (x := zz) ?_ (fun _ => ?_); unfold zz; rotate_left; clear_value zz; rotate_right)
    | with_reducible assumption
    | with_reducible apply flag_kept
    | with_reducible apply remoteUpdate_kept
    | with_reducible apply arrive_kept
    | with_reducible apply Kept.ite

theorem rxMap_kept {z0 d : Dev} (ch stamp : Nat) (f : Frame) (remotes : Bool) (hk0 : Kept z0 d) :
    Kept z0 (Dev.rxMap d ch stamp f remotes).1 := by
  unfold Dev.rxMap
  repeat' first
    | (intro zz; refine Kept.have (x := zz) ?_ (fun _ => ?_); unfold zz; rotate_left; clear_value zz; rotate_right)
    | with_reducible assumption
    | with_reducible apply flagEv_kept
    | with_reducible apply incF_kept
    | with_reducible apply rxAct_kept
    | with_reducible apply setCan_kept
    | with_reducible apply flag_kept
    | with_reducible apply wrF_kept
    | with_reducible apply Kept.foldl
    | (intro _ _ _; show Kept _ _)
    | with_reducible apply Kept.ite
    | (intro x h; simpa using h; done)
    | lift_lets
    | split

theorem ringPlace_kept {z0 d : Dev} (ch : Nat) (bytes : List Byte) (hk0 : Kept z0 d) :
    Kept z0 (Dev.ringPlace d ch bytes) := by
  unfold Dev.ringPlace
  repeat' first
    | (intro zz; refine Kept.have (x := zz) ?_ (fun _ => ?_); unfold zz; rotate_left; clear_value zz; rotate_right)
    | with_reducible assumption
    | with_reducible apply setCanCh_kept
    | with_reducible apply push_kept
    | with_reducible apply raiseIf_kept
    | with_reducible apply incF_kept
    | with_reducible apply flagEv_kept
    | with_reducible apply Kept.ite
    | (intro x h; simpa using h; done)

theorem showBacklog_kept {z0 d : Dev} (n : Nat) (hk0 : Kept z0 d) :
    Kept z0 (Dev.showBacklog d n) := by
  unfold Dev.showBacklog
  repeat' first
    | with_reducible assumption
    | with_reducible apply wrF_kept

theorem placeFrame_kept {z0 d : Dev} (n : Nat) (e : LEntry) (resend resync : Bool) (hk0 : Kept z0 d) :
    Kept z0 (Dev.placeFrame d n e resend resync) := by
  unfold Dev.placeFrame
  repeat' first
    | (intro zz; refine Kept.have (x := zz) ?_ (fun _ => ?_); unfold zz; rotate_left; clear_value zz; rotate_right)
    | with_reducible assumption
    | with_reducible apply setCanCh_kept
    | with_reducible apply showBacklog_kept
    | with_reducible apply setQueue_kept
    | with_reducible apply refuse_kept
    | with_reducible apply Kept.ite
    | (intro x h; simpa using h; done)

theorem placeEntry_kept {z0 d : Dev} (e : LEntry) (hk0 : Kept z0 d) :
    Kept z0 (Dev.placeEntry d e) := by
  unfold Dev.placeEntry
  repeat' first
    | with_reducible assumption
    | with_reducible apply placeFrame_kept
    | with_reducible apply Kept.foldl
    | (intro _ _ _; show Kept _ _)
    | split

theorem placeOther_kept {z0 d : Dev} (x : Place) (hk0 : Kept z0 d) :
    Kept z0 (Dev.placeOther d x) := by
  unfold Dev.placeOther
  repeat' first
    | (intro zz; refine Kept.have (x := zz) ?_ (fun _ => ?_); unfold zz; rotate_left; clear_value zz; rotate_right)
    | with_reducible assumption
    | with_reducible apply push_kept
    | with_reducible apply pushFree_kept
    | with_reducible apply setCanCh_kept
    | with_reducible apply Kept.ite
    | (intro x h; simpa using h; done)

theorem heartbeats_kept {z0 d : Dev}  (hk0 : Kept z0 d) :
    Kept z0 (Dev.heartbeats d) := by
  unfold Dev.heartbeats
  repeat' first
    | with_reducible assumption
    | with_reducible apply placeOther_kept
    | with_reducible apply Kept.foldl
    | (intro _ _ _; show Kept _ _)

theorem backlogPlace_kept {z0 d : Dev} (n : Nat) (hk0 : Kept z0 d) :
    Kept z0 (Dev.backlogPlace d n) := by
  unfold Dev.backlogPlace
  repeat' first
    | (intro zz; refine Kept.have (x := zz) ?_ (fun _ => ?_); unfold zz; rotate_left; clear_value zz; rotate_right)
    | with_reducible assumption
    | with_reducible apply setCanCh_kept
    | with_reducible apply showBacklog_kept
    | with_reducible apply setQueue_kept
    | exact rfl
    | (intro h; exact h)
    | (intro x h; simpa using h; done)
    | split
    | with_reducible apply Kept.with

theorem txDigest_kept {z0 d : Dev} (ch id res buf attempts stamp idw : Nat) (hk0 : Kept z0 d) :
    Kept z0 (Dev.txDigest d ch id res buf attempts stamp idw) := by
  unfold Dev.txDigest
  repeat' first
    | with_reducible assumption
    | with_reducible apply push_kept
    | with_reducible apply raise_kept

theorem showBuf_kept {z0 d : Dev} (n k : Nat) (hk0 : Kept z0 d) :
    Kept z0 (Dev.showBuf d n k) := by
  unfold Dev.showBuf
  repeat' first
    | with_reducible assumption
    | with_reducible apply wrFs_kept
    | split

theorem setBuf_kept {z0 d : Dev} (n k : Nat) (b : Option TxBuf) (hk0 : Kept z0 d) :
    Kept z0 (Dev.setBuf d n k b) := by
  unfold Dev.setBuf
  repeat' first
    | (intro zz; refine Kept.have (x := zz) ?_ (fun _ => ?_); unfold zz; rotate_left; clear_value zz; rotate_right)
    | with_reducible assumption
    | with_reducible apply setCanCh_kept
    | with_reducible apply showBuf_kept
    | (intro x h; simpa using h; done)

theorem endAttempt_kept {z0 d : Dev} (n k : Nat) (b : Option TxBuf) (hk0 : Kept z0 d) :
    Kept z0 (Dev.endAttempt d n k b) := by
  unfold Dev.endAttempt
  repeat' first
    | (intro zz; refine Kept.have (x := zz) ?_ (fun _ => ?_); unfold zz; rotate_left; clear_value zz; rotate_right)
    | with_reducible assumption
    | with_reducible apply setBuf_kept
    | with_reducible apply setCanCh_kept
    | (intro x h; simpa using h; done)

theorem txLoad_kept {z0 d : Dev} (n k : Nat) (hk0 : Kept z0 d) :
    Kept z0 (Dev.txLoad d n k) := by
  unfold Dev.txLoad
  repeat' first
    | with_reducible assumption
    | with_reducible apply pop_kept
    | with_reducible apply setBuf_kept
    | split

theorem canState_kept {z0 d : Dev} (n tec rec : Nat) (off : Bool) (hk0 : Kept z0 d) :
    Kept z0 (Dev.canState d n tec rec off) := by
  unfold Dev.canState
  repeat' first
    | (intro zz; refine Kept.have (x := zz) ?_ (fun _ => ?_); unfold zz; rotate_left; clear_value zz; rotate_right)
    | with_reducible assumption
    | with_reducible apply wrFs_kept
    | with_reducible apply flag_kept
    | with_reducible apply incF_kept
    | with_reducible apply raiseIf_kept
    | split

theorem markDone_kept {z0 d : Dev} (n seq : Nat) (hk0 : Kept z0 d) :
    Kept z0 (Dev.markDone d n seq) := by
  unfold Dev.markDone
  repeat' first
    | with_reducible assumption
    | with_reducible apply setCanCh_kept
    | (intro x h; simpa using h; done)

theorem showMark_kept {z0 d : Dev} (n : Nat) (hk0 : Kept z0 d) :
    Kept z0 (Dev.showMark d n) := by
  unfold Dev.showMark
  repeat' first
    | with_reducible assumption
    | with_reducible apply wr_kept

theorem txComplete_kept {z0 d : Dev} (n k : Nat) (stamp : Word) (hk0 : Kept z0 d) :
    Kept z0 (Dev.txComplete d n k stamp) := by
  unfold Dev.txComplete
  repeat' first
    | (intro zz; refine Kept.have (x := zz) ?_ (fun _ => ?_); unfold zz; rotate_left; clear_value zz; rotate_right)
    | with_reducible assumption
    | with_reducible apply canState_kept
    | with_reducible apply flag_kept
    | with_reducible apply markDone_kept
    | with_reducible apply showMark_kept
    | with_reducible apply txDigest_kept
    | with_reducible apply endAttempt_kept
    | split

theorem txError_kept {z0 d : Dev} (n k : Nat) (lec : BitVec 3) (arb quiet : Bool) (hk0 : Kept z0 d) :
    Kept z0 (Dev.txError d n k lec arb quiet) := by
  unfold Dev.txError
  repeat' first
    | (intro zz; first
        | (refine Kept.have (x := zz) ?_ (fun _ => ?_); unfold zz; rotate_left; clear_value zz; rotate_right)
        | (refine Kept.have (x := zz.2) ?_ (fun _ => ?_); unfold zz; rotate_left; clear_value zz; rotate_right)
        | (refine Kept.have (x := zz.1) ?_ (fun _ => ?_); unfold zz; rotate_left; clear_value zz; rotate_right)
        | clear_value zz)
    | with_reducible assumption
    | with_reducible exact Kept.refl _
    | with_reducible apply wrF_kept
    | with_reducible apply canState_kept
    | with_reducible apply flag_kept
    | with_reducible apply txDigest_kept
    | with_reducible apply endAttempt_kept
    | with_reducible apply Kept.ite
    | with_reducible exact fun _ => rfl
    | with_reducible exact fun _ h => h
    | with_reducible exact id
    | with_reducible rfl
    | exact rfl
    | (intro x h; simp [h, memWf_memWrite]; done)
    | (intro h; simp [h, memWf_memWrite]; done)
    | (intro h; exact h)
    | (intro x h; simpa using h; done)
    | (intro _ _; exact rfl)
    | (intro h; exact mem_upd (fun _ k => k) h)
    | (intro x h; exact mem_upd (fun _ k => k) h)
    | lift_lets
    | split
    | with_reducible apply Kept.with
    | dsimp (zeta := false) only

theorem busoffRecovery_kept {z0 d : Dev} (n : Nat) (hk0 : Kept z0 d) :
    Kept z0 (Dev.busoffRecovery d n) := by
  unfold Dev.busoffRecovery
  repeat' first
    | with_reducible assumption
    | with_reducible apply wrFs_kept
    | with_reducible apply raise_kept
    | split

theorem canRxError_kept {z0 d : Dev} (n : Nat) (lec : BitVec 3) (primary : Bool) (hk0 : Kept z0 d) :
    Kept z0 (Dev.canRxError d n lec primary) := by
  unfold Dev.canRxError
  repeat' first
    | with_reducible assumption
    | with_reducible apply wrF_kept
    | with_reducible apply canState_kept
    | split

theorem recvGood_kept {z0 d : Dev} (n : Nat) (hk0 : Kept z0 d) :
    Kept z0 (Dev.recvGood d n) := by
  unfold Dev.recvGood
  repeat' first
    | (intro zz; refine Kept.have (x := zz) ?_ (fun _ => ?_); unfold zz; rotate_left; clear_value zz; rotate_right)
    | with_reducible assumption
    | with_reducible apply freeVal_kept
    | with_reducible apply canState_kept
    | with_reducible apply Kept.ite

theorem txCancel_kept {z0 d : Dev} (n id phase : Nat) (hk0 : Kept z0 d) :
    Kept z0 (Dev.txCancel d n id phase) := by
  unfold Dev.txCancel
  repeat' first
    | (intro zz; refine Kept.have (x := zz) ?_ (fun _ => ?_); unfold zz; rotate_left; clear_value zz; rotate_right)
    | with_reducible assumption
    | with_reducible apply pop_kept
    | with_reducible apply setQueue_kept
    | with_reducible apply txDigest_kept
    | with_reducible apply setBuf_kept
    | with_reducible apply flag_kept
    | exact rfl
    | (intro h; exact h)
    | split
    | with_reducible apply Kept.with

theorem rxLock_kept {z0 d : Dev} (n : Nat) (hk0 : Kept z0 d) :
    Kept z0 (Dev.rxLock d n) := by
  unfold Dev.rxLock
  repeat' first
    | with_reducible assumption
    | with_reducible apply wrF_kept
    | split

theorem rxUnlock_kept {z0 d : Dev} (n : Nat) (hk0 : Kept z0 d) :
    Kept z0 (Dev.rxUnlock d n) := by
  unfold Dev.rxUnlock
  repeat' first
    | with_reducible assumption
    | with_reducible apply wrF_kept

theorem rxRelease_kept {z0 d : Dev} (n : Nat) (hk0 : Kept z0 d) :
    Kept z0 (Dev.rxRelease d n) := by
  unfold Dev.rxRelease
  repeat' first
    | with_reducible assumption
    | with_reducible apply rxUnlock_kept
    | with_reducible apply pop_kept
    | split

theorem markLoRead_kept {z0 d : Dev} (n : Nat) (hk0 : Kept z0 d) :
    Kept z0 (Dev.markLoRead d n) := by
  unfold Dev.markLoRead
  repeat' first
    | with_reducible assumption
    | with_reducible apply showMark_kept
    | with_reducible apply wr_kept

theorem frameDiffers_kept {z0 d : Dev} (n : Nat) (hk0 : Kept z0 d) :
    Kept z0 (Dev.frameDiffers d n) := by
  unfold Dev.frameDiffers
  repeat' first
    | with_reducible assumption
    | with_reducible apply flagEv_kept
    | with_reducible apply setPair_kept

theorem frameCompare_kept {z0 d : Dev} (n : Nat) (f : Frame) (hk0 : Kept z0 d) :
    Kept z0 (Dev.frameCompare d n f) := by
  unfold Dev.frameCompare
  repeat' first
    | (intro zz; refine Kept.have (x := zz) ?_ (fun _ => ?_); unfold zz; rotate_left; clear_value zz; rotate_right)
    | with_reducible assumption
    | with_reducible apply markDone_kept
    | with_reducible apply frameDiffers_kept
    | with_reducible apply setCanCh_kept
    | with_reducible apply Kept.ite
    | (intro x h; simpa using h; done)
    | split

theorem heartbeatSeen_kept {z0 d : Dev} (n : Nat) (f : Frame) (hk0 : Kept z0 d) :
    Kept z0 (Dev.heartbeatSeen d n f) := by
  unfold Dev.heartbeatSeen
  repeat' first
    | (intro zz; refine Kept.have (x := zz) ?_ (fun _ => ?_); unfold zz; rotate_left; clear_value zz; rotate_right)
    | with_reducible assumption
    | with_reducible apply wrF_kept
    | with_reducible apply toRejoin_kept
    | with_reducible apply Kept.ite

theorem canFrame_kept {z0 d : Dev} (n : Nat) (stamp : Word) (esi : Bool) (f : Frame) (hk0 : Kept z0 d) :
    Kept z0 (Dev.canFrame d n stamp esi f) := by
  unfold Dev.canFrame
  repeat' first
    | (intro zz; refine Kept.have (x := zz) ?_ (fun _ => ?_); unfold zz; rotate_left; clear_value zz; rotate_right)
    | with_reducible assumption
    | with_reducible apply setCanCh_kept
    | with_reducible apply flag_kept
    | with_reducible apply recvGood_kept
    | with_reducible apply rxMap_kept
    | with_reducible apply setCan_kept
    | with_reducible apply frameCompare_kept
    | with_reducible apply heartbeatSeen_kept
    | with_reducible apply ringPlace_kept
    | (intro x h; simpa using h; done)
    | split

theorem remoteStale_kept {z0 d : Dev} (p : Nat) (hk0 : Kept z0 d) :
    Kept z0 (Dev.remoteStale d p) := by
  unfold Dev.remoteStale
  repeat' first
    | (intro zz; refine Kept.have (x := zz) ?_ (fun _ => ?_); unfold zz; rotate_left; clear_value zz; rotate_right)
    | with_reducible assumption
    | with_reducible apply raise_kept
    | with_reducible apply setRemote_kept
    | with_reducible apply Kept.foldl
    | (intro _ _ _; show Kept _ _)
    | with_reducible apply Kept.ite

theorem remoteLatch_kept {z0 d : Dev}  (hk0 : Kept z0 d) :
    Kept z0 (Dev.remoteLatch d) := by
  unfold Dev.remoteLatch
  repeat' first
    | (intro zz; refine Kept.have (x := zz) ?_ (fun _ => ?_); unfold zz; rotate_left; clear_value zz; rotate_right)
    | with_reducible assumption
    | with_reducible apply setCan_kept
    | with_reducible apply remoteStale_kept
    | with_reducible apply Kept.foldl
    | (intro x h; simpa using h; done)

theorem remoteConsumed_kept {z0 d : Dev}  (hk0 : Kept z0 d) :
    Kept z0 (Dev.remoteConsumed d) := by
  unfold Dev.remoteConsumed
  repeat' first
    | (intro zz; refine Kept.have (x := zz) ?_ (fun _ => ?_); unfold zz; rotate_left; clear_value zz; rotate_right)
    | with_reducible assumption
    | with_reducible apply setCan_kept
    | (intro x h; simpa using h; done)

theorem canIntegrated_kept {z0 d : Dev} (n : Nat) (hk0 : Kept z0 d) :
    Kept z0 (Dev.canIntegrated d n) := by
  unfold Dev.canIntegrated
  repeat' first
    | with_reducible assumption
    | with_reducible apply setCanCh_kept
    | with_reducible apply wrF_kept
    | (intro x h; simpa using h; done)
    | split

theorem canWake_kept {z0 d : Dev} (n dominant : Nat) (frame : Option Frame) (hk0 : Kept z0 d) :
    Kept z0 (Dev.canWake d n dominant frame) := by
  unfold Dev.canWake
  repeat' first
    | with_reducible assumption
    | with_reducible apply flagEv_kept
    | split

theorem dupRebuild_kept {z0 d : Dev} (hk0 : Kept z0 d) : Kept z0 (Dev.dupRebuild d) := by
  unfold Dev.dupRebuild
  refine Kept.foldl (setCan_kept _ hk0 (fun _ h => h) (fun _ h => h)) (fun e x h => ?_)
  dsimp only
  split
  · exact setCan_kept _ h (fun _ h => h) (fun _ h => h)
  · exact h

theorem placeOwed_kept {z0 d : Dev} (resync : Bool) (hk0 : Kept z0 d) : Kept z0 (Dev.placeOwed d resync) := by
  unfold Dev.placeOwed
  refine Kept.foldl hk0 (fun e n h => ?_)
  generalize (e.canCh n).owed = l
  generalize ([] : List Nat) = acc
  induction l generalizing e acc with
  | nil => exact h
  | cons s t ih =>
    rw [List.foldl_cons]
    dsimp only
    split
    · exact ih _ (placeFrame_kept _ _ _ _ h) _
    · exact ih _ h _

theorem marksStart_kept {z0 d : Dev}  (hk0 : Kept z0 d) :
    Kept z0 (Dev.marksStart d) := by
  unfold Dev.marksStart
  repeat' first
    | (intro zz; refine Kept.have (x := zz) ?_ (fun _ => ?_); unfold zz; rotate_left; clear_value zz; rotate_right)
    | with_reducible assumption
    | with_reducible apply setCanCh_kept
    | with_reducible apply Kept.foldl
    | (intro _ _ _; show Kept _ _)
    | exact rfl
    | (intro h; exact h)
    | (intro x h; simpa using h; done)
    | with_reducible apply Kept.with

theorem canGain_kept {z0 d : Dev} (resync : Bool) (hk0 : Kept z0 d) :
    Kept z0 (Dev.canGain d resync) := by
  unfold Dev.canGain
  repeat' first
    | (intro zz; refine Kept.have (x := zz) ?_ (fun _ => ?_); unfold zz; rotate_left; clear_value zz; rotate_right)
    | with_reducible assumption
    | with_reducible apply wrF_kept
    | with_reducible apply setCanCh_kept
    | with_reducible apply placeOwed_kept
    | with_reducible apply rxMap_kept
    | with_reducible apply dupRebuild_kept
    | with_reducible apply Kept.foldl
    | (intro _ _ _; show Kept _ _)
    | (intro x h; simpa using h; done)
    | split

theorem canLoss_kept {z0 d : Dev} (hk0 : Kept z0 d) : Kept z0 (Dev.canLoss d) := by
  unfold Dev.canLoss
  refine Kept.foldl hk0 (fun e n h => ?_)
  refine showBacklog_kept _ (setCanCh_kept _ _ ?_ (fun _ h => h))
  refine promo_kept _ ?_
  refine setQueue_kept _ _ (setQueue_kept _ _ (setQueue_kept _ _ ?_))
  refine Kept.foldl ?_ (fun e x h => ?_)
  · refine Kept.foldl ?_ (fun e k h => ?_)
    · split
      · exact wrF_kept _ _ _ h
      · exact h
    · split
      · split
        · exact setBuf_kept _ _ _ (txDigest_kept _ _ _ _ _ _ _ h)
        · exact setBuf_kept _ _ _ h
      · exact h
  · split
    · exact txDigest_kept _ _ _ _ _ _ _ h
    · exact h

theorem canApply_kept {z0 d : Dev} (first : Bool) (old : Image) (hk0 : Kept z0 d) :
    Kept z0 (Dev.canApply d first old) := by
  unfold Dev.canApply
  repeat' first
    | (intro zz; refine Kept.have (x := zz) ?_ (fun _ => ?_); unfold zz; rotate_left; clear_value zz; rotate_right)
    | with_reducible assumption
    | with_reducible apply wrFs_kept
    | with_reducible apply wr_kept
    | with_reducible apply setCanCh_kept
    | with_reducible apply setCan_kept
    | with_reducible apply Kept.foldl
    | (intro _ _ _; show Kept _ _)
    | with_reducible apply Kept.ite
    | (intro x h; simpa using h; done)

theorem domEvent_kept {z0 d : Dev} (ev : Nat) (hk0 : Kept z0 d) :
    Kept z0 (Dev.domEvent d ev) := by
  unfold Dev.domEvent
  repeat' first
    | with_reducible assumption
    | with_reducible apply flagEv_kept
    | with_reducible apply raise_kept
    | with_reducible apply setDom_kept
    | split

theorem domAlarm_kept {z0 d : Dev} (skipped : Bool) (a : Nat) (hk0 : Kept z0 d) :
    Kept z0 (Dev.domAlarm d skipped a) := by
  unfold Dev.domAlarm
  repeat' first
    | (intro zz; refine Kept.have (x := zz) ?_ (fun _ => ?_); unfold zz; rotate_left; clear_value zz; rotate_right)
    | with_reducible assumption
    | with_reducible apply wrFs_kept
    | with_reducible apply domEvent_kept
    | with_reducible apply Kept.ite

theorem domAlarms_kept {z0 d : Dev} (skipped : Bool) (hk0 : Kept z0 d) :
    Kept z0 (Dev.domAlarms d skipped) := by
  unfold Dev.domAlarms
  repeat' first
    | with_reducible assumption
    | with_reducible apply domAlarm_kept

theorem domArm_kept {z0 d : Dev} (a : Nat) (hi : BitVec 16) (hk0 : Kept z0 d) :
    Kept z0 (Dev.domArm d a hi) := by
  unfold Dev.domArm
  repeat' first
    | with_reducible assumption
    | with_reducible apply wrF_kept
    | with_reducible apply wrFs_kept
    | with_reducible apply domAlarm_kept

theorem domCount_kept {z0 d : Dev}  (hk0 : Kept z0 d) :
    Kept z0 (Dev.domCount d) := by
  unfold Dev.domCount
  repeat' first
    | with_reducible assumption
    | with_reducible apply setDom_kept
    | with_reducible apply domAlarms_kept

theorem domTick_kept {z0 d : Dev}  (hk0 : Kept z0 d) :
    Kept z0 (Dev.domTick d) := by
  unfold Dev.domTick
  repeat' first
    | (intro zz; refine Kept.have (x := zz) ?_ (fun _ => ?_); unfold zz; rotate_left; clear_value zz; rotate_right)
    | with_reducible assumption
    | with_reducible apply setDom_kept
    | with_reducible apply domCount_kept
    | with_reducible apply Kept.ite

theorem domFall_kept {z0 d : Dev}  (hk0 : Kept z0 d) :
    Kept z0 (Dev.domFall d) := by
  unfold Dev.domFall
  repeat' first
    | with_reducible assumption
    | with_reducible apply setDom_kept
    | split

theorem domCycle_kept {z0 d : Dev}  (hk0 : Kept z0 d) :
    Kept z0 (Dev.domCycle d) := by
  unfold Dev.domCycle
  repeat' first
    | (intro zz; refine Kept.have (x := zz) ?_ (fun _ => ?_); unfold zz; rotate_left; clear_value zz; rotate_right)
    | with_reducible assumption
    | with_reducible apply setDom_kept
    | with_reducible apply domFall_kept
    | with_reducible apply domTick_kept
    | with_reducible apply Kept.ite

theorem domSetRem_kept {z0 d : Dev} (r : Int) (hk0 : Kept z0 d) :
    Kept z0 (Dev.domSetRem d r) := by
  unfold Dev.domSetRem
  repeat' first
    | with_reducible assumption
    | with_reducible apply wrF_kept
    | with_reducible apply setDom_kept

theorem domSlew_kept {z0 d : Dev}  (hk0 : Kept z0 d) :
    Kept z0 (Dev.domSlew d) := by
  unfold Dev.domSlew
  repeat' first
    | (intro zz; refine Kept.have (x := zz) ?_ (fun _ => ?_); unfold zz; rotate_left; clear_value zz; rotate_right)
    | with_reducible assumption
    | with_reducible apply setDom_kept
    | with_reducible apply domSetRem_kept
    | with_reducible apply domCount_kept
    | with_reducible apply domEvent_kept
    | with_reducible apply Kept.ite

theorem domRefused_kept {z0 d : Dev}  (hk0 : Kept z0 d) :
    Kept z0 (Dev.domRefused d) := by
  unfold Dev.domRefused
  repeat' first
    | with_reducible assumption
    | with_reducible apply flagEv_kept

theorem domSet_kept {z0 d : Dev} (sess : Nat) (hi : BitVec 16) (hk0 : Kept z0 d) :
    Kept z0 (Dev.domSet d sess hi) := by
  unfold Dev.domSet
  repeat' first
    | (intro zz; refine Kept.have (x := zz) ?_ (fun _ => ?_); unfold zz; rotate_left; clear_value zz; rotate_right)
    | with_reducible assumption
    | with_reducible apply passGate_kept
    | with_reducible apply domRefused_kept
    | with_reducible apply setDom_kept
    | with_reducible apply wrF_kept
    | exact rfl
    | (intro h; exact h)
    | split
    | with_reducible apply Kept.with

theorem domWb_kept {z0 d : Dev} (sess a : Nat) (mask v : Word) (hk0 : Kept z0 d) :
    Kept z0 (Dev.domWb d sess a mask v) := by
  unfold Dev.domWb
  repeat' first
    | with_reducible assumption
    | with_reducible apply wbWrite_kept
    | with_reducible apply domRefused_kept
    | split

theorem domZoneWrite_kept {z0 d : Dev} (sess : Nat) (z : BitVec 12) (hk0 : Kept z0 d) :
    Kept z0 (Dev.domZoneWrite d sess z) := by
  unfold Dev.domZoneWrite
  repeat' first
    | (intro zz; refine Kept.have (x := zz) ?_ (fun _ => ?_); unfold zz; rotate_left; clear_value zz; rotate_right)
    | with_reducible assumption
    | with_reducible apply passGate_kept
    | with_reducible apply domWb_kept
    | with_reducible apply Kept.ite

theorem domZcmd_kept {z0 d : Dev} (v : Nat) (hk0 : Kept z0 d) :
    Kept z0 (Dev.domZcmd d v) := by
  unfold Dev.domZcmd
  repeat' first
    | with_reducible assumption
    | with_reducible apply domWb_kept

theorem domShift_kept {z0 d : Dev} (v : BitVec 16) (hk0 : Kept z0 d) :
    Kept z0 (Dev.domShift d v) := by
  unfold Dev.domShift
  repeat' first
    | with_reducible assumption
    | with_reducible apply domWb_kept

theorem domApplySet_kept {z0 d : Dev}  (hk0 : Kept z0 d) :
    Kept z0 (Dev.domApplySet d) := by
  unfold Dev.domApplySet
  repeat' first
    | (intro zz; refine Kept.have (x := zz) ?_ (fun _ => ?_); unfold zz; rotate_left; clear_value zz; rotate_right)
    | with_reducible assumption
    | with_reducible apply wbApply_kept
    | with_reducible apply setDom_kept
    | with_reducible apply domSetRem_kept
    | with_reducible apply wrFs_kept
    | with_reducible apply flag_kept
    | with_reducible apply happen_kept
    | split

theorem domMoveZone_kept {z0 d : Dev} (z : Int) (cause : Nat) (hk0 : Kept z0 d) :
    Kept z0 (Dev.domMoveZone d z cause) := by
  unfold Dev.domMoveZone
  repeat' first
    | (intro zz; refine Kept.have (x := zz) ?_ (fun _ => ?_); unfold zz; rotate_left; clear_value zz; rotate_right)
    | with_reducible assumption
    | with_reducible apply domRefused_kept
    | with_reducible apply wrF_kept
    | with_reducible apply setDom_kept
    | with_reducible apply happen_kept
    | split

theorem domApplyZone_kept {z0 d : Dev}  (hk0 : Kept z0 d) :
    Kept z0 (Dev.domApplyZone d) := by
  unfold Dev.domApplyZone
  repeat' first
    | with_reducible assumption
    | with_reducible apply wbDrop_kept
    | with_reducible apply domMoveZone_kept
    | split

theorem domApplyHour_kept {z0 d : Dev}  (hk0 : Kept z0 d) :
    Kept z0 (Dev.domApplyHour d) := by
  unfold Dev.domApplyHour
  repeat' first
    | (intro zz; refine Kept.have (x := zz) ?_ (fun _ => ?_); unfold zz; rotate_left; clear_value zz; rotate_right)
    | with_reducible assumption
    | with_reducible apply wbDrop_kept
    | with_reducible apply domMoveZone_kept
    | with_reducible apply domRefused_kept
    | split

theorem domApplyShift_kept {z0 d : Dev}  (hk0 : Kept z0 d) :
    Kept z0 (Dev.domApplyShift d) := by
  unfold Dev.domApplyShift
  repeat' first
    | (intro zz; refine Kept.have (x := zz) ?_ (fun _ => ?_); unfold zz; rotate_left; clear_value zz; rotate_right)
    | with_reducible assumption
    | with_reducible apply wbDrop_kept
    | with_reducible apply domRefused_kept
    | with_reducible apply wbApply_kept
    | with_reducible apply domSetRem_kept
    | with_reducible apply happen_kept
    | with_reducible apply Kept.ite
    | split

theorem domLatch_kept {z0 d : Dev}  (hk0 : Kept z0 d) :
    Kept z0 (Dev.domLatch d) := by
  unfold Dev.domLatch
  repeat' first
    | (intro zz; refine Kept.have (x := zz) ?_ (fun _ => ?_); unfold zz; rotate_left; clear_value zz; rotate_right)
    | with_reducible assumption
    | with_reducible apply setDom_kept
    | with_reducible apply domApplySet_kept
    | with_reducible apply domApplyZone_kept
    | with_reducible apply domApplyHour_kept
    | with_reducible apply domAlarms_kept
    | with_reducible apply domApplyShift_kept
    | split

theorem domTrack_kept {z0 d : Dev} (tick : Nat) (zone : Int) (trusted : Bool) (hk0 : Kept z0 d) :
    Kept z0 (Dev.domTrack d tick zone trusted) := by
  unfold Dev.domTrack
  repeat' first
    | (intro zz; refine Kept.have (x := zz) ?_ (fun _ => ?_); unfold zz; rotate_left; clear_value zz; rotate_right)
    | with_reducible assumption
    | with_reducible apply wrF_kept
    | with_reducible apply setDom_kept
    | with_reducible apply domSetRem_kept
    | with_reducible apply wrFs_kept
    | with_reducible apply domAlarms_kept
    | split

theorem domStopped_kept {z0 d : Dev}  (hk0 : Kept z0 d) :
    Kept z0 (Dev.domStopped d) := by
  unfold Dev.domStopped
  repeat' first
    | with_reducible assumption
    | with_reducible apply flagEv_kept
    | with_reducible apply raise_kept
    | with_reducible apply happen_kept
    | split

theorem oscStop_kept {z0 d : Dev}  (hk0 : Kept z0 d) :
    Kept z0 (Dev.oscStop d) := by
  unfold Dev.oscStop
  repeat' first
    | (intro zz; refine Kept.have (x := zz) ?_ (fun _ => ?_); unfold zz; rotate_left; clear_value zz; rotate_right)
    | with_reducible assumption
    | with_reducible apply wrF_kept
    | with_reducible apply setDom_kept
    | with_reducible apply domStopped_kept
    | with_reducible apply Kept.ite

theorem oscRestart_kept {z0 d : Dev}  (hk0 : Kept z0 d) :
    Kept z0 (Dev.oscRestart d) := by
  unfold Dev.oscRestart
  repeat' first
    | with_reducible assumption
    | with_reducible apply setDom_kept

theorem domLost_kept {z0 d : Dev}  (hk0 : Kept z0 d) :
    Kept z0 (Dev.domLost d) := by
  unfold Dev.domLost
  repeat' first
    | (intro zz; refine Kept.have (x := zz) ?_ (fun _ => ?_); unfold zz; rotate_left; clear_value zz; rotate_right)
    | with_reducible assumption
    | with_reducible apply wrFs_kept
    | with_reducible apply setDom_kept
    | with_reducible apply wrF_kept
    | with_reducible apply domSetRem_kept
    | with_reducible apply wr_kept
    | with_reducible apply domStopped_kept
    | with_reducible apply Kept.foldl
    | (intro _ _ _; show Kept _ _)
    | with_reducible apply Kept.ite

theorem domSupply_kept {z0 d : Dev} (onbat : Bool) (hk0 : Kept z0 d) :
    Kept z0 (Dev.domSupply d onbat) := by
  unfold Dev.domSupply
  repeat' first
    | (intro zz; refine Kept.have (x := zz) ?_ (fun _ => ?_); unfold zz; rotate_left; clear_value zz; rotate_right)
    | with_reducible assumption
    | with_reducible apply wrF_kept
    | with_reducible apply raiseIf_kept

theorem domBat_kept {z0 d : Dev} (vbat : BitVec 16) (hk0 : Kept z0 d) :
    Kept z0 (Dev.domBat d vbat) := by
  unfold Dev.domBat
  repeat' first
    | (intro zz; refine Kept.have (x := zz) ?_ (fun _ => ?_); unfold zz; rotate_left; clear_value zz; rotate_right)
    | with_reducible assumption
    | with_reducible apply wrF_kept
    | with_reducible apply raiseIf_kept

theorem domTickRead_kept {z0 d : Dev}  (hk0 : Kept z0 d) :
    Kept z0 (Dev.domTickRead d) := by
  unfold Dev.domTickRead
  repeat' first
    | with_reducible assumption
    | with_reducible apply wrF_kept

theorem domCapture_kept {z0 d : Dev}  (hk0 : Kept z0 d) :
    Kept z0 (Dev.domCapture d) := by
  unfold Dev.domCapture
  repeat' first
    | (intro zz; refine Kept.have (x := zz) ?_ (fun _ => ?_); unfold zz; rotate_left; clear_value zz; rotate_right)
    | with_reducible assumption
    | with_reducible apply wr_kept
    | with_reducible apply wrFs_kept
    | with_reducible apply wrF_kept
    | with_reducible apply Kept.foldl
    | (intro _ _ _; show Kept _ _)

theorem domStart_kept {z0 d : Dev}  (hk0 : Kept z0 d) :
    Kept z0 (Dev.domStart d) := by
  unfold Dev.domStart
  repeat' first
    | (intro zz; refine Kept.have (x := zz) ?_ (fun _ => ?_); unfold zz; rotate_left; clear_value zz; rotate_right)
    | with_reducible assumption
    | with_reducible apply domEvent_kept
    | with_reducible apply setDom_kept
    | with_reducible apply raise_kept
    | with_reducible apply happen_kept
    | with_reducible apply Kept.foldl
    | with_reducible apply Kept.ite

theorem showPoint_kept {z0 d : Dev} (p : Nat) (hk0 : Kept z0 d) :
    Kept z0 (Dev.showPoint d p) := by
  unfold Dev.showPoint
  repeat' first
    | (intro zz; refine Kept.have (x := zz) ?_ (fun _ => ?_); unfold zz; rotate_left; clear_value zz; rotate_right)
    | with_reducible assumption
    | with_reducible apply wr_kept
    | with_reducible apply Kept.ite

theorem showDev_kept {z0 d : Dev} (k : Nat) (hk0 : Kept z0 d) :
    Kept z0 (Dev.showDev d k) := by
  unfold Dev.showDev
  repeat' first
    | (intro zz; refine Kept.have (x := zz) ?_ (fun _ => ?_); unfold zz; rotate_left; clear_value zz; rotate_right)
    | with_reducible assumption
    | with_reducible apply wr_kept
    | with_reducible apply wrFs_kept

theorem showHost_kept {z0 d : Dev} (h : Nat) (hk0 : Kept z0 d) :
    Kept z0 (Dev.showHost d h) := by
  unfold Dev.showHost
  repeat' first
    | (intro zz; refine Kept.have (x := zz) ?_ (fun _ => ?_); unfold zz; rotate_left; clear_value zz; rotate_right)
    | with_reducible assumption
    | with_reducible apply wr_kept

theorem showNode_kept {z0 d : Dev} (n : Nat) (hk0 : Kept z0 d) :
    Kept z0 (Dev.showNode d n) := by
  unfold Dev.showNode
  repeat' first
    | (intro zz; refine Kept.have (x := zz) ?_ (fun _ => ?_); unfold zz; rotate_left; clear_value zz; rotate_right)
    | with_reducible assumption
    | with_reducible apply wr_kept
    | with_reducible apply wrFs_kept

theorem showTimer_kept {z0 d : Dev} (t : Nat) (hk0 : Kept z0 d) :
    Kept z0 (Dev.showTimer d t) := by
  unfold Dev.showTimer
  repeat' first
    | (intro zz; refine Kept.have (x := zz) ?_ (fun _ => ?_); unfold zz; rotate_left; clear_value zz; rotate_right)
    | with_reducible assumption
    | with_reducible apply wrFs_kept

theorem showCounts_kept {z0 d : Dev}  (hk0 : Kept z0 d) :
    Kept z0 (Dev.showCounts d) := by
  unfold Dev.showCounts
  repeat' first
    | (intro zz; refine Kept.have (x := zz) ?_ (fun _ => ?_); unfold zz; rotate_left; clear_value zz; rotate_right)
    | with_reducible assumption
    | with_reducible apply wr_kept
    | with_reducible apply Kept.foldl
    | (intro _ _ _; show Kept _ _)

theorem showBelfry_kept {z0 d : Dev}  (hk0 : Kept z0 d) :
    Kept z0 (Dev.showBelfry d) := by
  unfold Dev.showBelfry
  repeat' first
    | (intro zz; refine Kept.have (x := zz) ?_ (fun _ => ?_); unfold zz; rotate_left; clear_value zz; rotate_right)
    | with_reducible assumption
    | with_reducible apply wr_kept
    | with_reducible apply Kept.foldl
    | (intro _ _ _; show Kept _ _)

theorem latShow_kept {z0 d : Dev}  (hk0 : Kept z0 d) :
    Kept z0 (Dev.latShow d) := by
  unfold Dev.latShow
  repeat' first
    | (intro zz; refine Kept.have (x := zz) ?_ (fun _ => ?_); unfold zz; rotate_left; clear_value zz; rotate_right)
    | with_reducible assumption
    | with_reducible apply showPoint_kept
    | with_reducible apply showDev_kept
    | with_reducible apply showHost_kept
    | with_reducible apply showNode_kept
    | with_reducible apply showTimer_kept
    | with_reducible apply showCounts_kept
    | with_reducible apply showBelfry_kept
    | with_reducible apply Kept.foldl

theorem latPointRegs_kept {z0 d : Dev} (p : Nat) (hk0 : Kept z0 d) :
    Kept z0 (Dev.latPointRegs d p) := by
  unfold Dev.latPointRegs
  repeat' first
    | (intro zz; refine Kept.have (x := zz) ?_ (fun _ => ?_); unfold zz; rotate_left; clear_value zz; rotate_right)
    | with_reducible assumption
    | with_reducible apply wr_kept
    | with_reducible apply Kept.ite

theorem latNodeRegs_kept {z0 d : Dev} (n : Nat) (hk0 : Kept z0 d) :
    Kept z0 (Dev.latNodeRegs d n) := by
  unfold Dev.latNodeRegs
  repeat' first
    | (intro zz; refine Kept.have (x := zz) ?_ (fun _ => ?_); unfold zz; rotate_left; clear_value zz; rotate_right)
    | with_reducible assumption
    | with_reducible apply wr_kept
    | with_reducible apply wrF_kept
    | split

theorem latTimerRegs_kept {z0 d : Dev} (t : Nat) (hk0 : Kept z0 d) :
    Kept z0 (Dev.latTimerRegs d t) := by
  unfold Dev.latTimerRegs
  repeat' first
    | with_reducible assumption
    | with_reducible apply wrF_kept
    | with_reducible apply wr_kept
    | split

theorem belStationRegs_kept {z0 d : Dev} (k : Nat) (hk0 : Kept z0 d) :
    Kept z0 (Dev.belStationRegs d k) := by
  unfold Dev.belStationRegs
  repeat' first
    | (intro zz; refine Kept.have (x := zz) ?_ (fun _ => ?_); unfold zz; rotate_left; clear_value zz; rotate_right)
    | with_reducible assumption
    | with_reducible apply wr_kept

theorem latRegs_kept {z0 d : Dev} (old : Image) (hk0 : Kept z0 d) :
    Kept z0 (Dev.latRegs d old) := by
  unfold Dev.latRegs
  repeat' first
    | (intro zz; refine Kept.have (x := zz) ?_ (fun _ => ?_); unfold zz; rotate_left; clear_value zz; rotate_right)
    | with_reducible assumption
    | with_reducible apply wrFs_kept
    | with_reducible apply wrF_kept
    | with_reducible apply latPointRegs_kept
    | with_reducible apply wr_kept
    | with_reducible apply latNodeRegs_kept
    | with_reducible apply latTimerRegs_kept
    | with_reducible apply belStationRegs_kept
    | with_reducible apply Kept.foldl
    | (intro _ _ _; show Kept _ _)
    | split

theorem lateMark_kept {z0 d : Dev} (late : Bool) (hk0 : Kept z0 d) :
    Kept z0 (Dev.lateMark d late) := by
  unfold Dev.lateMark
  repeat' first
    | with_reducible assumption
    | with_reducible apply incF_kept
    | with_reducible apply flagEv_kept
    | split

theorem schedNop_kept {z0 d : Dev} (late : Bool) (hk0 : Kept z0 d) :
    Kept z0 (Dev.schedNop d late) := by
  unfold Dev.schedNop
  repeat' first
    | with_reducible assumption
    | with_reducible apply lateMark_kept

theorem schedSample_kept {z0 d : Dev} (target : Nat) (code : BitVec 16) (late : Bool) (hk0 : Kept z0 d) :
    Kept z0 (Dev.schedSample d target code late) := by
  unfold Dev.schedSample
  repeat' first
    | (intro zz; refine Kept.have (x := zz) ?_ (fun _ => ?_); unfold zz; rotate_left; clear_value zz; rotate_right)
    | with_reducible assumption
    | with_reducible apply lateMark_kept
    | with_reducible apply uSample_kept
    | with_reducible apply qSpot_kept
    | split

theorem schedAct_kept {z0 d : Dev} (e : SchedEntry) (late : Bool) (hk0 : Kept z0 d) :
    Kept z0 (Dev.schedAct d e late) := by
  unfold Dev.schedAct
  repeat' first
    | (intro zz; refine Kept.have (x := zz) ?_ (fun _ => ?_); unfold zz; rotate_left; clear_value zz; rotate_right)
    | with_reducible assumption
    | with_reducible apply freeVal_kept
    | with_reducible apply schedSample_kept
    | with_reducible apply lateMark_kept
    | with_reducible apply qWinOpen_kept
    | with_reducible apply qWinClose_kept
    | with_reducible apply qReset_kept
    | with_reducible apply qRange_kept
    | with_reducible apply qCycle_kept
    | with_reducible apply uMux_kept
    | split

theorem whenRuns_kept {z0 d : Dev} (act target : Nat) (arg : Option Nat) (fb : Option Bool) (f : Dev → Dev)
    (hk0 : Kept z0 d) (h : ∀ d, Kept z0 d → Kept z0 (f d)) : Kept z0 (Dev.whenRuns d act target arg fb f) := by
  unfold Dev.whenRuns
  split
  · exact h _ hk0
  · exact hk0

theorem addDue_kept {z0 d : Dev} (b : Nat) (es : List (SchedEntry × Bool)) (late : Bool) (hk0 : Kept z0 d) :
    Kept z0 (Dev.addDue d b es late) := by
  unfold Dev.addDue
  repeat' first
    | with_reducible assumption
    | exact rfl
    | (intro h; exact h)
    | with_reducible apply Kept.with

theorem passed_kept {z0 d : Dev} (b c0 c1 : Nat) (late : Bool) (hk0 : Kept z0 d) :
    Kept z0 (Dev.passed d b c0 c1 late) := by
  unfold Dev.passed
  repeat' first
    | with_reducible assumption
    | with_reducible apply addDue_kept
    | split

theorem popDue_kept {z0 d : Dev} (b : Nat) (hk0 : Kept z0 d) :
    Kept z0 (Dev.popDue d b).2 := by
  unfold Dev.popDue
  repeat' first
    | (intro zz; refine Kept.have (x := zz) ?_ (fun _ => ?_); unfold zz; rotate_left; clear_value zz; rotate_right)
    | with_reducible assumption
    | exact rfl
    | (intro h; exact h)
    | with_reducible apply Kept.with

theorem runDue_kept {z0 d : Dev} (b : Nat) (hk0 : Kept z0 d) :
    Kept z0 (Dev.runDue d b) := by
  unfold Dev.runDue
  repeat' first
    | (intro zz; refine Kept.have (x := zz) ?_ (fun _ => ?_); unfold zz; rotate_left; clear_value zz; rotate_right)
    | with_reducible assumption
    | with_reducible apply popDue_kept
    | with_reducible apply schedAct_kept
    | with_reducible apply Kept.foldl
    | (intro _ _ _; show Kept _ _)

theorem entryCmd_kept {z0 d : Dev} (u : Due) (hk0 : Kept z0 d) :
    Kept z0 (Dev.entryCmd d u).2 := by
  unfold Dev.entryCmd
  repeat' first
    | (intro zz; first
        | (refine Kept.have (x := zz) ?_ (fun _ => ?_); unfold zz; rotate_left; clear_value zz; rotate_right)
        | (refine Kept.have (x := zz.2) ?_ (fun _ => ?_); unfold zz; rotate_left; clear_value zz; rotate_right))
    | with_reducible assumption
    | with_reducible apply freeVal_kept
    | split

theorem dispatch_kept {z0 d : Dev} (b : Nat) (hk0 : Kept z0 d) : Kept z0 (Dev.dispatch d b).2 := by
  unfold Dev.dispatch
  exact Kept.foldl_snd (popDue_kept _ hk0) (fun _ _ h => entryCmd_kept _ h)

theorem dueWaits_kept {z0 d : Dev}  (hk0 : Kept z0 d) :
    Kept z0 (Dev.dueWaits d) := by
  unfold Dev.dueWaits
  repeat' first
    | (intro zz; refine Kept.have (x := zz) ?_ (fun _ => ?_); unfold zz; rotate_left; clear_value zz; rotate_right)
    | with_reducible assumption
    | with_reducible apply flagEv_kept
    | with_reducible apply Kept.foldl
    | (intro _ _ _; show Kept _ _)
    | exact rfl
    | (intro h; exact h)
    | with_reducible apply Kept.with

theorem pb0Reach_kept {z0 d : Dev} (now : Nat) (hk0 : Kept z0 d) :
    Kept z0 (Dev.pb0Reach d now) := by
  unfold Dev.pb0Reach
  repeat' first
    | (intro zz; refine Kept.have (x := zz) ?_ (fun _ => ?_); unfold zz; rotate_left; clear_value zz; rotate_right)
    | with_reducible assumption
    | with_reducible apply addDue_kept
    | exact rfl
    | (intro h; exact h)
    | with_reducible apply Kept.with

theorem pb0Wrap_kept {z0 d : Dev}  (hk0 : Kept z0 d) :
    Kept z0 (Dev.pb0Wrap d) := by
  unfold Dev.pb0Wrap
  repeat' first
    | (intro zz; refine Kept.have (x := zz) ?_ (fun _ => ?_); unfold zz; rotate_left; clear_value zz; rotate_right)
    | with_reducible assumption
    | with_reducible apply pb0Reach_kept
    | exact rfl
    | (intro h; exact h)
    | with_reducible apply Kept.with

theorem baseReach_kept {z0 d : Dev} (b : Nat) (hk0 : Kept z0 d) :
    Kept z0 (Dev.baseReach d b) := by
  unfold Dev.baseReach
  repeat' first
    | (intro zz; refine Kept.have (x := zz) ?_ (fun _ => ?_); unfold zz; rotate_left; clear_value zz; rotate_right)
    | with_reducible assumption
    | with_reducible apply passed_kept
    | with_reducible apply setBase_kept
    | with_reducible apply Kept.ite

theorem gridPassed_kept {z0 d : Dev} (b c0 c1 : Nat) (hk0 : Kept z0 d) :
    Kept z0 (Dev.gridPassed d b c0 c1) := by
  unfold Dev.gridPassed
  repeat' first
    | with_reducible assumption
    | with_reducible apply gridPoint_kept
    | with_reducible apply Kept.foldl
    | (intro _ _ _; show Kept _ _)
    | split

theorem gridCmds_kept {z0 d : Dev} (hk0 : Kept z0 d) : Kept z0 (Dev.gridCmds d).2 := by
  unfold Dev.gridCmds
  refine Kept.foldl_snd hk0 (fun r b h => ?_)
  dsimp only
  split
  · exact h
  · exact setBase_kept _ _ h

theorem engine_kept {z0 d : Dev} (hk0 : Kept z0 d) : Kept z0 (Dev.engine d).2 := by
  unfold Dev.engine
  split
  · exact hk0
  · have h1 : Kept z0 ([1, 2, 3].foldl Dev.baseReach (d.pb0Reach d.pb0Now)).dueWaits :=
      dueWaits_kept (Kept.foldl (pb0Reach_kept _ hk0) (fun _ _ h => baseReach_kept _ h))
    generalize ([1, 2, 3].foldl Dev.baseReach (d.pb0Reach d.pb0Now)).dueWaits = e at h1
    have h2 : Kept z0 ([0, 1, 2, 3].foldl (fun r b => let x := Dev.dispatch r.2 b; (r.1 ++ x.1, x.2))
        (([] : List Instr), e)).2 := Kept.foldl_snd h1 (fun _ _ h => dispatch_kept _ h)
    dsimp only at h2 ⊢
    generalize [0, 1, 2, 3].foldl _ (([] : List Instr), e) = r at h2 ⊢
    split
    · exact gridCmds_kept h2
    · exact h2

theorem moved_kept {z0 d : Dev} (b c1 : Nat) (hk0 : Kept z0 d) :
    Kept z0 (Dev.moved d b c1) := by
  unfold Dev.moved
  repeat' first
    | (intro zz; refine Kept.have (x := zz) ?_ (fun _ => ?_); unfold zz; rotate_left; clear_value zz; rotate_right)
    | with_reducible assumption
    | with_reducible apply passed_kept
    | with_reducible apply runDue_kept
    | with_reducible apply gridPassed_kept
    | with_reducible apply setBase_kept

theorem runJump_kept {z0 d : Dev} (b c0 c1 : Nat) (hk0 : Kept z0 d) :
    Kept z0 (Dev.runJump d b c0 c1) := by
  unfold Dev.runJump
  repeat' first
    | (intro zz; refine Kept.have (x := zz) ?_ (fun _ => ?_); unfold zz; rotate_left; clear_value zz; rotate_right)
    | with_reducible assumption
    | with_reducible apply passed_kept
    | with_reducible apply runDue_kept
    | with_reducible apply qJump_kept
    | with_reducible apply setBase_kept

theorem closeBaseWindows_kept {z0 d : Dev} (b : Nat) (hk0 : Kept z0 d) :
    Kept z0 (Dev.closeBaseWindows d b) := by
  unfold Dev.closeBaseWindows
  repeat' first
    | (intro zz; refine Kept.have (x := zz) ?_ (fun _ => ?_); unfold zz; rotate_left; clear_value zz; rotate_right)
    | with_reducible assumption
    | with_reducible apply qCloseWin_kept
    | with_reducible apply Kept.foldl
    | (intro _ _ _; show Kept _ _)
    | with_reducible apply Kept.ite

theorem leaveSync_kept {z0 d : Dev} (b : Nat) (still : Bool) (hk0 : Kept z0 d) :
    Kept z0 (Dev.leaveSync d b still) := by
  unfold Dev.leaveSync
  repeat' first
    | (intro zz; refine Kept.have (x := zz) ?_ (fun _ => ?_); unfold zz; rotate_left; clear_value zz; rotate_right)
    | with_reducible assumption
    | with_reducible apply setBase_kept
    | with_reducible apply closeBaseWindows_kept
    | with_reducible apply qLeaveBase_kept
    | exact rfl
    | (intro h; exact h)
    | with_reducible apply Kept.with

theorem baseLoss_kept {z0 d : Dev} (b : Nat) (hk0 : Kept z0 d) :
    Kept z0 (Dev.baseLoss d b) := by
  unfold Dev.baseLoss
  repeat' first
    | (intro zz; refine Kept.have (x := zz) ?_ (fun _ => ?_); unfold zz; rotate_left; clear_value zz; rotate_right)
    | with_reducible assumption
    | with_reducible apply setBase_kept
    | with_reducible apply incF_kept
    | with_reducible apply flagEv_kept
    | with_reducible apply leaveSync_kept

theorem baseSync_kept {z0 d : Dev} (b : Nat) (x : Base) (hk0 : Kept z0 d) :
    Kept z0 (Dev.baseSync d b x) := by
  unfold Dev.baseSync
  repeat' first
    | with_reducible assumption
    | with_reducible apply setBase_kept
    | with_reducible apply raise_kept

theorem camFault_kept {z0 d : Dev} (b : Nat) (hk0 : Kept z0 d) :
    Kept z0 (Dev.camFault d b) := by
  unfold Dev.camFault
  repeat' first
    | with_reducible assumption
    | with_reducible apply incF_kept
    | with_reducible apply flagEv_kept

theorem baseSpeed_kept {z0 d : Dev} (b : Nat) (hk0 : Kept z0 d) :
    Kept z0 (Dev.baseSpeed d b) := by
  unfold Dev.baseSpeed
  repeat' first
    | (intro zz; refine Kept.have (x := zz) ?_ (fun _ => ?_); unfold zz; rotate_left; clear_value zz; rotate_right)
    | with_reducible assumption
    | with_reducible apply fit_kept
    | with_reducible apply wrF_kept
    | with_reducible apply flagEv_kept
    | with_reducible apply Kept.ite

theorem baseJumpReg_kept {z0 d : Dev} (b c0 c1 : Nat) (hk0 : Kept z0 d) :
    Kept z0 (Dev.baseJumpReg d b c0 c1) := by
  unfold Dev.baseJumpReg
  repeat' first
    | (intro zz; refine Kept.have (x := zz) ?_ (fun _ => ?_); unfold zz; rotate_left; clear_value zz; rotate_right)
    | with_reducible assumption
    | with_reducible apply wrF_kept
    | with_reducible apply Kept.ite

theorem seekTooth_kept {z0 d : Dev} (b : Nat) (ref : Bool) (n t : Nat) (hk0 : Kept z0 d) :
    Kept z0 (Dev.seekTooth d b ref n t) := by
  unfold Dev.seekTooth
  repeat' first
    | (intro zz; refine Kept.have (x := zz) ?_ (fun _ => ?_); unfold zz; rotate_left; clear_value zz; rotate_right)
    | with_reducible assumption
    | with_reducible apply baseSync_kept
    | with_reducible apply setBase_kept
    | with_reducible apply baseSpeed_kept
    | with_reducible apply Kept.ite

theorem resync_kept {z0 d : Dev} (b : Nat) (x y : Base) (hk0 : Kept z0 d) :
    Kept z0 (Dev.resync d b x y) := by
  unfold Dev.resync
  repeat' first
    | (intro zz; refine Kept.have (x := zz) ?_ (fun _ => ?_); unfold zz; rotate_left; clear_value zz; rotate_right)
    | with_reducible assumption
    | with_reducible apply setBase_kept
    | with_reducible apply runJump_kept
    | with_reducible apply Kept.ite

theorem camCycle_kept {z0 d : Dev} (b : Nat) (hk0 : Kept z0 d) :
    Kept z0 (Dev.camCycle d b) := by
  unfold Dev.camCycle
  repeat' first
    | (intro zz; refine Kept.have (x := zz) ?_ (fun _ => ?_); unfold zz; rotate_left; clear_value zz; rotate_right)
    | with_reducible assumption
    | with_reducible apply setBase_kept
    | with_reducible apply camFault_kept
    | with_reducible apply Kept.ite

theorem syncRef_kept {z0 d : Dev} (b : Nat) (total n t : Nat) (hk0 : Kept z0 d) :
    Kept z0 (Dev.syncRef d b total n t) := by
  unfold Dev.syncRef
  repeat' first
    | (intro zz; refine Kept.have (x := zz) ?_ (fun _ => ?_); unfold zz; rotate_left; clear_value zz; rotate_right)
    | with_reducible assumption
    | with_reducible apply setBase_kept
    | with_reducible apply baseJumpReg_kept
    | with_reducible apply moved_kept
    | with_reducible apply resync_kept
    | with_reducible apply incF_kept
    | with_reducible apply flagEv_kept
    | with_reducible apply baseLoss_kept
    | with_reducible apply baseSpeed_kept
    | with_reducible apply camCycle_kept
    | with_reducible apply Kept.ite

theorem syncTooth_kept {z0 d : Dev} (b t : Nat) (hk0 : Kept z0 d) :
    Kept z0 (Dev.syncTooth d b t) := by
  unfold Dev.syncTooth
  repeat' first
    | (intro zz; refine Kept.have (x := zz) ?_ (fun _ => ?_); unfold zz; rotate_left; clear_value zz; rotate_right)
    | with_reducible assumption
    | with_reducible apply setBase_kept
    | with_reducible apply baseJumpReg_kept
    | with_reducible apply moved_kept

theorem toothEdge_kept {z0 d : Dev} (b t : Nat) (hk0 : Kept z0 d) :
    Kept z0 (Dev.toothEdge d b t).2 := by
  unfold Dev.toothEdge
  repeat' first
    | (intro zz; refine Kept.have (x := zz) ?_ (fun _ => ?_); unfold zz; rotate_left; clear_value zz; rotate_right)
    | with_reducible assumption
    | with_reducible apply setBase_kept
    | with_reducible apply seekTooth_kept
    | with_reducible apply syncRef_kept
    | with_reducible apply syncTooth_kept
    | exact rfl
    | (intro h; exact h)
    | lift_lets
    | split
    | with_reducible apply Kept.with

theorem camRef_kept {z0 d : Dev} (b : Nat) (hk0 : Kept z0 d) :
    Kept z0 (Dev.camRef d b) := by
  unfold Dev.camRef
  repeat' first
    | (intro zz; refine Kept.have (x := zz) ?_ (fun _ => ?_); unfold zz; rotate_left; clear_value zz; rotate_right)
    | with_reducible assumption
    | with_reducible apply baseSync_kept
    | with_reducible apply camFault_kept
    | with_reducible apply setBase_kept
    | with_reducible apply baseLoss_kept
    | with_reducible apply Kept.ite

theorem baseEdge_kept {z0 d : Dev} (m t b : Nat) (hk0 : Kept z0 d) :
    Kept z0 (Dev.baseEdge d m t b) := by
  unfold Dev.baseEdge
  repeat' first
    | (intro zz; refine Kept.have (x := zz) ?_ (fun _ => ?_); unfold zz; rotate_left; clear_value zz; rotate_right)
    | with_reducible assumption
    | with_reducible apply setBase_kept
    | with_reducible apply toothEdge_kept
    | with_reducible apply camRef_kept
    | with_reducible apply showBase_kept
    | with_reducible apply Kept.foldl
    | (intro _ _ _; show Kept _ _)
    | with_reducible apply Kept.ite
    | lift_lets
    | split

theorem anglePeak_kept {z0 d : Dev} (m peak : Nat) (hk0 : Kept z0 d) :
    Kept z0 (Dev.anglePeak d m peak) := by
  unfold Dev.anglePeak
  repeat' first
    | with_reducible assumption
    | with_reducible exact Kept.refl _
    | with_reducible apply Kept.ite
    | with_reducible exact fun _ => rfl
    | with_reducible exact fun _ h => h
    | with_reducible exact id
    | with_reducible rfl
    | exact rfl
    | (intro x h; simp [h, memWf_memWrite]; done)
    | (intro h; simp [h, memWf_memWrite]; done)
    | (intro h; exact h)
    | (intro x h; simpa using h; done)
    | (intro _ _; exact rfl)
    | (intro h; exact mem_upd (fun _ k => k) h)
    | (intro x h; exact mem_upd (fun _ k => k) h)
    | split
    | with_reducible apply Kept.with
    | dsimp (zeta := false) only

theorem angleEdge_kept {z0 d : Dev} (m peak : Nat) (level : Bool) (hk0 : Kept z0 d) :
    Kept z0 (Dev.angleEdge d m peak level) := by
  unfold Dev.angleEdge
  repeat' first
    | (intro zz; first
        | (refine Kept.have (x := zz) ?_ (fun _ => ?_); unfold zz; rotate_left; clear_value zz; rotate_right)
        | (refine Kept.have (x := zz.2) ?_ (fun _ => ?_); unfold zz; rotate_left; clear_value zz; rotate_right)
        | (refine Kept.have (x := zz.1) ?_ (fun _ => ?_); unfold zz; rotate_left; clear_value zz; rotate_right)
        | ((try unfold zz); apply Kept.have; clear zz))
    | with_reducible assumption
    | with_reducible exact Kept.refl _
    | with_reducible apply wrF_kept
    | with_reducible apply anglePeak_kept
    | with_reducible apply baseEdge_kept
    | with_reducible apply Kept.foldl
    | (intro _ _ _ _; show Kept _ _)
    | (intro _ _ _; show Kept _ _)
    | (intro _ _; show Kept _ _)
    | with_reducible apply Kept.ite
    | with_reducible exact fun _ => rfl
    | with_reducible exact fun _ h => h
    | with_reducible exact id
    | with_reducible rfl
    | exact rfl
    | (intro x h; simp [h, memWf_memWrite]; done)
    | (intro h; simp [h, memWf_memWrite]; done)
    | (intro h; exact h)
    | (intro x h; simpa using h; done)
    | (intro _ _; exact rfl)
    | (intro h; exact mem_upd (fun _ k => k) h)
    | (intro x h; exact mem_upd (fun _ k => k) h)
    | lift_lets
    | split
    | with_reducible apply Kept.with
    | dsimp (zeta := false) only

theorem standstill_kept {z0 d : Dev} (b : Nat) (hk0 : Kept z0 d) :
    Kept z0 (Dev.standstill d b) := by
  unfold Dev.standstill
  repeat' first
    | (intro zz; refine Kept.have (x := zz) ?_ (fun _ => ?_); unfold zz; rotate_left; clear_value zz; rotate_right)
    | with_reducible assumption
    | with_reducible apply flagEv_kept
    | with_reducible apply incF_kept
    | with_reducible apply setBase_kept
    | with_reducible apply wrF_kept
    | with_reducible apply leaveSync_kept
    | with_reducible apply showBase_kept
    | with_reducible apply Kept.ite

theorem fallbackSwitch_kept {z0 d : Dev}  (hk0 : Kept z0 d) :
    Kept z0 (Dev.fallbackSwitch d) := by
  unfold Dev.fallbackSwitch
  repeat' first
    | (intro zz; refine Kept.have (x := zz) ?_ (fun _ => ?_); unfold zz; rotate_left; clear_value zz; rotate_right)
    | with_reducible assumption
    | with_reducible apply setBase_kept
    | with_reducible apply Kept.foldl
    | (intro _ _ _; show Kept _ _)
    | split

theorem basesTick_kept {z0 d : Dev}  (hk0 : Kept z0 d) :
    Kept z0 (Dev.basesTick d) := by
  unfold Dev.basesTick
  repeat' first
    | with_reducible assumption
    | exact rfl
    | (intro h; simp [h, memWf_memWrite]; done)
    | (intro h; exact h)
    | with_reducible apply Kept.with

theorem phsLeave_kept {z0 d : Dev} (new : Image) (hk0 : Kept z0 d) :
    Kept z0 (Dev.phsLeave d new) := by
  unfold Dev.phsLeave
  repeat' first
    | (intro zz; refine Kept.have (x := zz) ?_ (fun _ => ?_); unfold zz; rotate_left; clear_value zz; rotate_right)
    | with_reducible assumption
    | with_reducible apply leaveSync_kept
    | with_reducible apply Kept.foldl
    | (intro _ _ _; show Kept _ _)
    | exact rfl
    | (intro h; exact h)
    | split
    | with_reducible apply Kept.with

theorem phsApply_kept {z0 d : Dev} (first : Bool) (old : Image) (hk0 : Kept z0 d) :
    Kept z0 (Dev.phsApply d first old) := by
  unfold Dev.phsApply
  repeat' first
    | (intro zz; refine Kept.have (x := zz) ?_ (fun _ => ?_); unfold zz; rotate_left; clear_value zz; rotate_right)
    | with_reducible assumption
    | with_reducible apply setBase_kept
    | with_reducible apply wrF_kept
    | with_reducible apply showBase_kept
    | with_reducible apply wrFs_kept
    | with_reducible apply Kept.foldl
    | (intro _ _ _; show Kept _ _)
    | split

theorem enterPool_kept {z0 d : Dev}  (hk0 : Kept z0 d) :
    Kept z0 (Dev.enterPool d).2 := by
  unfold Dev.enterPool
  repeat' first
    | (intro zz; refine Kept.have (x := zz) ?_ (fun _ => ?_); unfold zz; rotate_left; clear_value zz; rotate_right)
    | with_reducible assumption
    | with_reducible apply setJrn_kept

theorem promoted_kept {z0 d : Dev} (q : Nat) (hk0 : Kept z0 d) :
    Kept z0 (Dev.promoted d q) := by
  unfold Dev.promoted
  repeat' first
    | with_reducible assumption
    | with_reducible apply incF_kept
    | with_reducible apply flag_kept
    | with_reducible apply raise_kept

theorem queuePromote_kept {z0 d : Dev} (q : Nat) (hk0 : Kept z0 d) :
    Kept z0 (Dev.queuePromote d q) := by
  unfold Dev.queuePromote
  repeat' first
    | with_reducible assumption
    | with_reducible apply promoted_kept
    | exact rfl
    | (intro h; exact h)
    | split
    | with_reducible apply Kept.with

theorem promocntClr_kept {z0 d : Dev}  (hk0 : Kept z0 d) :
    Kept z0 (Dev.promocntClr d) := by
  unfold Dev.promocntClr
  repeat' first
    | with_reducible assumption
    | with_reducible apply wrF_kept

theorem promoServed_kept {z0 d : Dev} (q : Nat) (hk0 : Kept z0 d) :
    Kept z0 (Dev.promoServed d q) := by
  unfold Dev.promoServed
  repeat' first
    | with_reducible assumption
    | with_reducible apply promoted_kept
    | exact rfl
    | (intro h; exact h)
    | split
    | with_reducible apply Kept.with

theorem promoEnd_kept {z0 d : Dev} (before : List (List Entry)) (hk0 : Kept z0 d) :
    Kept z0 (Dev.promoEnd d before) := by
  unfold Dev.promoEnd
  repeat' first
    | with_reducible assumption
    | exact rfl
    | (intro h; exact h)
    | with_reducible apply Kept.with

theorem forwardStep_kept {z0 d : Dev} (hk0 : Kept z0 d) : Kept z0 (Dev.forwardStep d) := by
  unfold Dev.forwardStep
  split
  · exact hk0
  · next slot off _ =>
    split
    · exact hk0
    · generalize (d.vault.images.getD slot ⟨[], [], none⟩).mem = mem
      generalize min 4088 (ofLe (memRead mem 8 4) - off) = n
      dsimp only
      exact (push_kept 60 _ none hk0).trans <| Kept.of_eq rfl rfl rfl (fun s => { s with }) id

theorem forwardStart_kept {z0 d : Dev} (slot : Nat) (hk0 : Kept z0 d) :
    Kept z0 (Dev.forwardStart d slot) := by
  unfold Dev.forwardStart
  repeat' first
    | with_reducible assumption
    | with_reducible apply forwardStep_kept
    | exact rfl
    | (intro h; exact h)
    | with_reducible apply Kept.with

theorem linkSend_kept {z0 d : Dev} (q : Nat) (bytes : List Byte) (hk0 : Kept z0 d) :
    Kept z0 (Dev.linkSend d q bytes) := by
  unfold Dev.linkSend
  repeat' first
    | with_reducible assumption
    | with_reducible apply setPair_kept

theorem consume_kept {z0 d : Dev} (q : Nat) (hk0 : Kept z0 d) :
    Kept z0 (Dev.consume d q) := by
  unfold Dev.consume
  repeat' first
    | with_reducible assumption
    | with_reducible apply hartStart_kept
    | with_reducible apply pop_kept
    | with_reducible apply arrive_kept
    | with_reducible apply pnlRequest_kept
    | with_reducible apply linkSend_kept
    | with_reducible apply forwardStep_kept
    | split

theorem queueGrant_kept {z0 d : Dev} (ready : BitVec 64) (hk0 : Kept z0 d) : Kept z0 (Dev.queueGrant d ready) := by
  have hg : ∀ (l gs : List Nat) (s : Queues), (grantGroups l gs s).2.q = s.q := by
    intro l gs
    induction gs with
    | nil => intro s; rfl
    | cons g gs ih =>
      intro s
      unfold grantGroups
      dsimp only
      split
      · exact (ih _).trans rfl
      · split <;> rfl
  have hq : (d.nextGrant ready).2.q = d.queues.q := by
    unfold Dev.nextGrant
    dsimp only
    split
    · rfl
    · exact hg _ _ _
  have key : ∀ s : Queues, s.q = d.queues.q → Kept z0 { d with queues := s } := fun s h =>
    Kept.with hk0 rfl id id (fun hl => by rw [h]; exact hl) id id id id id id id id id id id id id id id
  unfold Dev.queueGrant
  split
  · next q s h => exact consume_kept _ (key s (by rw [← hq, h]))
  · next s h => exact key s (by rw [← hq, h])

theorem drainCommand_kept {z0 d : Dev}  (hk0 : Kept z0 d) :
    Kept z0 (Dev.drainCommand d) := by
  unfold Dev.drainCommand
  repeat' first
    | (intro zz; refine Kept.have (x := zz) ?_ (fun _ => ?_); unfold zz; rotate_left; clear_value zz; rotate_right)
    | with_reducible assumption
    | with_reducible apply consume_kept
    | exact rfl
    | (intro h; exact h)
    | split
    | with_reducible apply Kept.with

theorem drainCommands_kept {z0 d : Dev}  (hk0 : Kept z0 d) :
    Kept z0 (Dev.drainCommands d) := by
  unfold Dev.drainCommands
  repeat' first
    | with_reducible assumption
    | with_reducible apply drainCommand_kept
    | with_reducible apply Kept.foldl
    | (intro _ _ _; show Kept _ _)
    | split

end Sys2Proof.Machine
end

