-- ==== Sys2Proof/Laws/KeptTurn.lean ====
section
/-!
SUPPORT. What the operations of the turn, the pair, power and reset, the vault and start-up keep.
-/
namespace Sys2Proof.Machine

theorem setRun_kept {z0 d : Dev} (f : TurnRun → TurnRun) (hk0 : Kept z0 d) :
    Kept z0 (Dev.setRun d f) := by
  unfold Dev.setRun
  repeat' first
    | with_reducible assumption
    | with_reducible apply setTurn_kept
    | (intro x h; simpa using h; done)

theorem acqStart_kept {z0 d : Dev}  (hk0 : Kept z0 d) :
    Kept z0 (Dev.acqStart d) := by
  unfold Dev.acqStart
  repeat' first
    | (intro zz; refine Kept.have (x := zz) ?_ (fun _ => ?_); unfold zz; rotate_left; clear_value zz; rotate_right)
    | with_reducible assumption
    | with_reducible apply setTurn_kept
    | with_reducible apply uinTurnStart_kept
    | with_reducible apply lopTurnStart_kept
    | with_reducible apply fallbackSwitch_kept
    | (intro x h; simpa using h; done)

theorem timingClear_kept {z0 d : Dev}  (hk0 : Kept z0 d) :
    Kept z0 (Dev.timingClear d) := by
  unfold Dev.timingClear
  repeat' first
    | with_reducible assumption
    | with_reducible apply wrFs_kept
    | with_reducible apply setTurn_kept
    | (intro x h; simpa using h; done)
    | split

theorem periodStart_kept {z0 d : Dev}  (hk0 : Kept z0 d) :
    Kept z0 (Dev.periodStart d) := by
  unfold Dev.periodStart
  repeat' first
    | with_reducible assumption
    | with_reducible apply pb0Wrap_kept
    | with_reducible apply acqStart_kept

theorem turnBegin_kept {z0 d : Dev} (n : Nat) (hk0 : Kept z0 d) :
    Kept z0 (Dev.turnBegin d n) := by
  unfold Dev.turnBegin
  repeat' first
    | (intro zz; refine Kept.have (x := zz) ?_ (fun _ => ?_); unfold zz; rotate_left; clear_value zz; rotate_right)
    | with_reducible assumption
    | with_reducible apply pb0Wrap_kept
    | with_reducible apply setTurn_kept
    | with_reducible apply wr_kept
    | with_reducible apply setPair_kept
    | with_reducible apply timingClear_kept
    | with_reducible apply acqStart_kept
    | with_reducible apply raise_kept
    | (intro x h; simpa using h; done)

theorem timingmaxClr_kept {z0 d : Dev}  (hk0 : Kept z0 d) :
    Kept z0 (Dev.timingmaxClr d) := by
  unfold Dev.timingmaxClr
  repeat' first
    | with_reducible assumption
    | with_reducible apply setTurn_kept
    | (intro x h; simpa using h; done)

theorem turnnumLoRead_kept {z0 d : Dev}  (hk0 : Kept z0 d) :
    Kept z0 (Dev.turnnumLoRead d) := by
  unfold Dev.turnnumLoRead
  repeat' first
    | with_reducible assumption
    | with_reducible apply wrF_kept

theorem evalTurn_kept {z0 d : Dev} (inp : InImage) (evalUs commitUs : Nat) (hk0 : Kept z0 d) :
    Kept z0 (Dev.evalTurn d inp evalUs commitUs) := by
  unfold Dev.evalTurn
  repeat' first
    | (intro zz; refine Kept.have (x := zz) ?_ (fun _ => ?_); unfold zz; rotate_left; clear_value zz; rotate_right)
    | with_reducible assumption
    | with_reducible apply setTurn_kept
    | (intro x h; simpa using h; done)

theorem prospect_kept {z0 d : Dev} (r : TurnRun) (hk0 : Kept z0 d) :
    Kept z0 (Dev.prospect d r) := by
  unfold Dev.prospect
  repeat' first
    | (intro zz; refine Kept.have (x := zz) ?_ (fun _ => ?_); unfold zz; rotate_left; clear_value zz; rotate_right)
    | with_reducible assumption
    | with_reducible apply setTurn_kept
    | (intro x h; simpa using h; done)

theorem heldTurn_kept {z0 d : Dev}  (hk0 : Kept z0 d) :
    Kept z0 (Dev.heldTurn d) := by
  unfold Dev.heldTurn
  repeat' first
    | (intro zz; refine Kept.have (x := zz) ?_ (fun _ => ?_); unfold zz; rotate_left; clear_value zz; rotate_right)
    | with_reducible assumption
    | with_reducible apply setJrn_kept
    | with_reducible apply declare_kept
    | with_reducible apply Kept.ite

theorem timing_kept {z0 d : Dev} (cdone eval : Nat) (hk0 : Kept z0 d) :
    Kept z0 (Dev.timing d cdone eval) := by
  unfold Dev.timing
  repeat' first
    | (intro zz; refine Kept.have (x := zz) ?_ (fun _ => ?_); unfold zz; rotate_left; clear_value zz; rotate_right)
    | with_reducible assumption
    | with_reducible apply wrFs_kept

theorem results_kept {z0 d : Dev} (r : TurnRun) (hk0 : Kept z0 d) :
    Kept z0 (Dev.results d r) := by
  unfold Dev.results
  repeat' first
    | (intro zz; refine Kept.have (x := zz) ?_ (fun _ => ?_); unfold zz; rotate_left; clear_value zz; rotate_right)
    | with_reducible assumption
    | with_reducible apply raise_kept
    | with_reducible apply Kept.foldl
    | (intro _ _ _; show Kept _ _)
    | exact rfl
    | (intro h; exact h)
    | with_reducible apply Kept.with

theorem consumed_kept {z0 d : Dev} (r : TurnRun) (hk0 : Kept z0 d) :
    Kept z0 (Dev.consumed d r) := by
  unfold Dev.consumed
  repeat' first
    | (intro zz; refine Kept.have (x := zz) ?_ (fun _ => ?_); unfold zz; rotate_left; clear_value zz; rotate_right)
    | with_reducible assumption
    | with_reducible apply setTurn_kept
    | with_reducible apply remoteConsumed_kept
    | with_reducible apply qConsumed_kept
    | with_reducible apply setJrn_kept
    | (intro x h; simpa using h; done)
    | split

theorem deferred_kept {z0 d : Dev}  (hk0 : Kept z0 d) :
    Kept z0 (Dev.deferred d) := by
  unfold Dev.deferred
  repeat' first
    | with_reducible assumption
    | with_reducible apply flagEv_kept
    | split

theorem completeWith_kept {z0 d : Dev} (es : List LEntry) (cdone : Nat) (hk0 : Kept z0 d) :
    Kept z0 (Dev.completeWith d es cdone) := by
  unfold Dev.completeWith
  repeat' first
    | (intro zz; refine Kept.have (x := zz) ?_ (fun _ => ?_); unfold zz; rotate_left; clear_value zz; rotate_right)
    | with_reducible assumption
    | with_reducible apply prospect_kept
    | with_reducible apply jrnSpace_kept
    | with_reducible apply promoServed_kept
    | with_reducible apply setJrn_kept
    | with_reducible apply promoEnd_kept
    | with_reducible apply acceptAll_kept
    | with_reducible apply setTurn_kept
    | with_reducible apply consumed_kept
    | with_reducible apply results_kept
    | with_reducible apply deferred_kept
    | with_reducible apply timing_kept
    | with_reducible apply setWtc_kept
    | with_reducible apply setPair_kept
    | with_reducible apply swapAbandon_kept
    | with_reducible apply declare_kept
    | with_reducible apply Kept.foldl
    | with_reducible apply Kept.ite
    | (intro x h; simpa using h; done)
    | split

theorem complete_kept {z0 d : Dev} (cdone : Nat) (hk0 : Kept z0 d) :
    Kept z0 (Dev.complete d cdone) := by
  unfold Dev.complete
  repeat' first
    | with_reducible assumption
    | with_reducible apply completeWith_kept
    | split

theorem ownCommit_kept {z0 d : Dev} (t : Nat) (hk0 : Kept z0 d) :
    Kept z0 (Dev.ownCommit d t) := by
  unfold Dev.ownCommit
  repeat' first
    | with_reducible assumption
    | with_reducible apply complete_kept
    | with_reducible apply setRun_kept
    | split

theorem linksolo_kept {z0 d : Dev}  (hk0 : Kept z0 d) :
    Kept z0 (Dev.linksolo d) := by
  unfold Dev.linksolo
  repeat' first
    | (intro zz; refine Kept.have (x := zz) ?_ (fun _ => ?_); unfold zz; rotate_left; clear_value zz; rotate_right)
    | with_reducible assumption
    | with_reducible apply ownCommit_kept
    | with_reducible apply flag_kept
    | with_reducible apply Kept.ite

theorem linkLost_kept {z0 d : Dev}  (hk0 : Kept z0 d) :
    Kept z0 (Dev.linkLost d) := by
  unfold Dev.linkLost
  repeat' first
    | with_reducible assumption
    | with_reducible apply incF_kept
    | with_reducible apply flagEv_kept
    | with_reducible apply linkGone_kept
    | split

theorem overrunEntry_kept {z0 d : Dev} (bits : Nat) (hk0 : Kept z0 d) :
    Kept z0 (Dev.overrunEntry d bits) := by
  unfold Dev.overrunEntry
  repeat' first
    | with_reducible assumption
    | with_reducible apply happen_kept
    | split

theorem overrunRun_kept {z0 d : Dev} (bits : Nat) (hk0 : Kept z0 d) :
    Kept z0 (Dev.overrunRun d bits) := by
  unfold Dev.overrunRun
  repeat' first
    | (intro zz; refine Kept.have (x := zz) ?_ (fun _ => ?_); unfold zz; rotate_left; clear_value zz; rotate_right)
    | with_reducible assumption
    | with_reducible apply setTurn_kept
    | with_reducible apply flag_kept
    | with_reducible apply setWtc_kept
    | with_reducible apply linkLost_kept
    | with_reducible apply declare_kept
    | with_reducible apply Kept.ite
    | (intro x h; simpa using h; done)

theorem overrunTurn_kept {z0 d : Dev} (bits : Nat) (hk0 : Kept z0 d) :
    Kept z0 (Dev.overrunTurn d bits) := by
  unfold Dev.overrunTurn
  repeat' first
    | (intro zz; refine Kept.have (x := zz) ?_ (fun _ => ?_); unfold zz; rotate_left; clear_value zz; rotate_right)
    | with_reducible assumption
    | with_reducible apply setRun_kept
    | with_reducible apply flag_kept
    | with_reducible apply incF_kept
    | with_reducible apply raise_kept
    | with_reducible apply timing_kept
    | with_reducible apply overrunEntry_kept
    | with_reducible apply overrunRun_kept
    | with_reducible apply Kept.foldl
    | (intro _ _ _; show Kept _ _)
    | split

theorem evalDeadline_kept {z0 d : Dev}  (hk0 : Kept z0 d) :
    Kept z0 (Dev.evalDeadline d) := by
  unfold Dev.evalDeadline
  repeat' first
    | with_reducible assumption
    | with_reducible apply overrunTurn_kept
    | split

theorem commitDeadline_kept {z0 d : Dev}  (hk0 : Kept z0 d) :
    Kept z0 (Dev.commitDeadline d) := by
  unfold Dev.commitDeadline
  repeat' first
    | with_reducible assumption
    | with_reducible apply overrunTurn_kept
    | with_reducible apply linksolo_kept
    | split

theorem send60_kept {z0 d : Dev} (b : List Byte) (hk0 : Kept z0 d) :
    Kept z0 (Dev.send60 d b) := by
  unfold Dev.send60
  repeat' first
    | with_reducible assumption
    | with_reducible apply push_kept
    | with_reducible apply Kept.foldl
    | (intro _ _ _; show Kept _ _)

theorem sendImage_kept {z0 d : Dev}  (hk0 : Kept z0 d) :
    Kept z0 (Dev.sendImage d) := by
  unfold Dev.sendImage
  repeat' first
    | with_reducible assumption
    | with_reducible apply send60_kept
    | split

theorem mirrorSend_kept {z0 d : Dev}  (hk0 : Kept z0 d) :
    Kept z0 (Dev.mirrorSend d) := by
  unfold Dev.mirrorSend
  repeat' first
    | (intro zz; refine Kept.have (x := zz) ?_ (fun _ => ?_); unfold zz; rotate_left; clear_value zz; rotate_right)
    | with_reducible assumption
    | with_reducible apply send60_kept
    | with_reducible apply setPair_kept
    | split

theorem osetJudge_kept {z0 d : Dev} (n : Nat) (hk0 : Kept z0 d) :
    Kept z0 (Dev.osetJudge d n).1 := by
  unfold Dev.osetJudge
  repeat' first
    | (intro zz; refine Kept.have (x := zz) ?_ (fun _ => ?_); unfold zz; rotate_left; clear_value zz; rotate_right)
    | with_reducible assumption
    | with_reducible apply prospect_kept
    | with_reducible apply loLatch_kept
    | split

theorem osetLatch_kept {z0 d : Dev} (n : Nat) (hk0 : Kept z0 d) :
    Kept z0 (Dev.osetLatch d n) := by
  unfold Dev.osetLatch
  repeat' first
    | (intro zz; refine Kept.have (x := zz) ?_ (fun _ => ?_); unfold zz; rotate_left; clear_value zz; rotate_right)
    | with_reducible assumption
    | with_reducible apply osetJudge_kept
    | with_reducible apply happen_kept
    | exact rfl
    | (intro h; exact h)
    | split
    | with_reducible apply Kept.with

theorem sendCommit_kept {z0 d : Dev} (r : TurnRun) (hk0 : Kept z0 d) :
    Kept z0 (Dev.sendCommit d r) := by
  unfold Dev.sendCommit
  repeat' first
    | (intro zz; refine Kept.have (x := zz) ?_ (fun _ => ?_); unfold zz; rotate_left; clear_value zz; rotate_right)
    | with_reducible assumption
    | with_reducible apply push_kept
    | with_reducible apply Kept.foldl
    | (intro _ _ _; show Kept _ _)

theorem commitTurn_kept {z0 d : Dev}  (hk0 : Kept z0 d) :
    Kept z0 (Dev.commitTurn d) := by
  unfold Dev.commitTurn
  repeat' first
    | (intro zz; refine Kept.have (x := zz) ?_ (fun _ => ?_); unfold zz; rotate_left; clear_value zz; rotate_right)
    | with_reducible assumption
    | with_reducible apply heldTurn_kept
    | with_reducible apply healthTurn_kept
    | with_reducible apply send63_kept
    | with_reducible apply ownCommit_kept
    | with_reducible apply prospect_kept
    | with_reducible apply setRun_kept
    | with_reducible apply sendCommit_kept
    | with_reducible apply Kept.ite
    | split

theorem ownLatch_kept {z0 d : Dev} (evalUs commitUs : Nat) (hk0 : Kept z0 d) :
    Kept z0 (Dev.ownLatch d evalUs commitUs) := by
  unfold Dev.ownLatch
  repeat' first
    | (intro zz; refine Kept.have (x := zz) ?_ (fun _ => ?_); unfold zz; rotate_left; clear_value zz; rotate_right)
    | with_reducible assumption
    | with_reducible apply drainCommands_kept
    | with_reducible apply domLatch_kept
    | with_reducible apply expackLatch_kept
    | with_reducible apply hostsetLatch_kept
    | with_reducible apply remoteLatch_kept
    | with_reducible apply qLatch_kept
    | with_reducible apply enterPool_kept
    | with_reducible apply evalTurn_kept
    | with_reducible apply osetLatch_kept
    | with_reducible apply sendImage_kept
    | with_reducible apply commitTurn_kept
    | with_reducible apply Kept.foldl
    | split

theorem withhold_kept {z0 d : Dev} (r : TurnRun) (hk0 : Kept z0 d) :
    Kept z0 (Dev.withhold d r) := by
  unfold Dev.withhold
  repeat' first
    | (intro zz; refine Kept.have (x := zz) ?_ (fun _ => ?_); unfold zz; rotate_left; clear_value zz; rotate_right)
    | with_reducible assumption
    | with_reducible apply doWithhold_kept
    | with_reducible apply doTake_kept
    | with_reducible apply loWithhold_kept
    | with_reducible apply Kept.foldl
    | (intro _ _ _; show Kept _ _)
    | split

theorem evalEvents_kept {z0 d : Dev} (acc : Acc) (hk0 : Kept z0 d) :
    Kept z0 (Dev.evalEvents d acc) := by
  unfold Dev.evalEvents
  repeat' first
    | (intro zz; refine Kept.have (x := zz) ?_ (fun _ => ?_); unfold zz; rotate_left; clear_value zz; rotate_right)
    | with_reducible assumption
    | with_reducible apply flag_kept
    | with_reducible apply setTurn_kept
    | with_reducible apply raise_kept
    | with_reducible apply Kept.foldl
    | (intro _ _ _; show Kept _ _)
    | (intro x h; simpa using h; done)
    | split

theorem placeOut_kept {z0 d : Dev} (p : Place) (hk0 : Kept z0 d) :
    Kept z0 (Dev.placeOut d p) := by
  unfold Dev.placeOut
  repeat' first
    | (intro zz; refine Kept.have (x := zz) ?_ (fun _ => ?_); unfold zz; rotate_left; clear_value zz; rotate_right)
    | with_reducible assumption
    | with_reducible apply placeOther_kept
    | with_reducible apply hartAccept_kept
    | with_reducible apply push_kept
    | with_reducible apply notify_kept
    | with_reducible apply Kept.ite
    | split

theorem emitLevels_kept {z0 d : Dev}  (hk0 : Kept z0 d) :
    Kept z0 (Dev.emitLevels d) := by
  unfold Dev.emitLevels
  repeat' first
    | (intro zz; refine Kept.have (x := zz) ?_ (fun _ => ?_); unfold zz; rotate_left; clear_value zz; rotate_right)
    | with_reducible assumption
    | with_reducible apply doEmitAll_kept
    | with_reducible apply loEmit_kept
    | with_reducible apply pnlEmit_kept
    | with_reducible apply Kept.foldl
    | (intro _ _ _; show Kept _ _)

theorem emitCompare_kept {z0 d : Dev}  (hk0 : Kept z0 d) :
    Kept z0 (Dev.emitCompare d) := by
  unfold Dev.emitCompare
  repeat' first
    | with_reducible assumption
    | with_reducible apply loCompare_kept
    | with_reducible apply doCompare_kept
    | with_reducible apply Kept.foldl
    | split

theorem emitFrames_kept {z0 d : Dev} (r : TurnRun) (hk0 : Kept z0 d) :
    Kept z0 (Dev.emitFrames d r) := by
  unfold Dev.emitFrames
  repeat' first
    | (intro zz; refine Kept.have (x := zz) ?_ (fun _ => ?_); unfold zz; rotate_left; clear_value zz; rotate_right)
    | with_reducible assumption
    | with_reducible apply placeEntry_kept
    | with_reducible apply placeOut_kept
    | with_reducible apply setTurn_kept
    | with_reducible apply placeOther_kept
    | with_reducible apply heartbeats_kept
    | with_reducible apply Kept.foldl
    | (intro x h; simpa using h; done)
    | split

theorem emissions_kept {z0 d : Dev} (r : TurnRun) (hk0 : Kept z0 d) :
    Kept z0 (Dev.emissions d r) := by
  unfold Dev.emissions
  repeat' first
    | (intro zz; refine Kept.have (x := zz) ?_ (fun _ => ?_); unfold zz; rotate_left; clear_value zz; rotate_right)
    | with_reducible assumption
    | with_reducible apply withhold_kept
    | with_reducible apply emitLevels_kept
    | with_reducible apply emitFrames_kept
    | with_reducible apply emitCompare_kept
    | with_reducible apply setTurn_kept
    | (intro x h; simpa using h; done)
    | split

theorem emitShow_kept {z0 d : Dev}  (hk0 : Kept z0 d) :
    Kept z0 (Dev.emitShow d) := by
  unfold Dev.emitShow
  repeat' first
    | with_reducible assumption
    | with_reducible apply latShow_kept
    | with_reducible apply setTurn_kept
    | with_reducible apply jrnShow_kept
    | with_reducible apply exportAll_kept
    | with_reducible apply raise_kept
    | (intro x h; simpa using h; done)

theorem emit_kept {z0 d : Dev}  (hk0 : Kept z0 d) :
    Kept z0 (Dev.emit d) := by
  unfold Dev.emit
  repeat' first
    | (intro zz; refine Kept.have (x := zz) ?_ (fun _ => ?_); unfold zz; rotate_left; clear_value zz; rotate_right)
    | with_reducible assumption
    | with_reducible apply evalEvents_kept
    | with_reducible apply emissions_kept
    | with_reducible apply setRun_kept
    | with_reducible apply emitShow_kept
    | with_reducible apply mirrorSend_kept
    | split

theorem formPair_kept {z0 d : Dev} (code : Nat) (data : List Byte) (hk0 : Kept z0 d) :
    Kept z0 (Dev.formPair d code data) := by
  unfold Dev.formPair
  repeat' first
    | (intro zz; refine Kept.have (x := zz) ?_ (fun _ => ?_); unfold zz; rotate_left; clear_value zz; rotate_right)
    | with_reducible assumption
    | with_reducible apply happen_kept
    | with_reducible apply incF_kept
    | with_reducible apply flagEv_kept
    | with_reducible apply raise_kept
    | split

theorem castleEnd_kept {z0 d : Dev}  (hk0 : Kept z0 d) :
    Kept z0 (Dev.castleEnd d) := by
  unfold Dev.castleEnd
  repeat' first
    | with_reducible assumption
    | with_reducible apply setPair_kept

theorem tokenLoss_kept {z0 d : Dev}  (hk0 : Kept z0 d) :
    Kept z0 (Dev.tokenLoss d) := by
  unfold Dev.tokenLoss
  repeat' first
    | (intro zz; refine Kept.have (x := zz) ?_ (fun _ => ?_); unfold zz; rotate_left; clear_value zz; rotate_right)
    | with_reducible assumption
    | with_reducible apply wrF_kept
    | with_reducible apply setRole_kept
    | with_reducible apply wrFs_kept
    | with_reducible apply fLoss_kept
    | with_reducible apply doLoss_kept
    | with_reducible apply loLoss_kept
    | with_reducible apply canLoss_kept
    | with_reducible apply hartLoss_kept
    | with_reducible apply qRoleChange_kept
    | with_reducible apply qSwitches_kept
    | with_reducible apply uRoleChange_kept
    | with_reducible apply castleEnd_kept
    | with_reducible apply setTurn_kept
    | (intro x h; simpa using h; done)

theorem holderStart_kept {z0 d : Dev} (resync : Bool) (hk0 : Kept z0 d) :
    Kept z0 (Dev.holderStart d resync) := by
  unfold Dev.holderStart
  repeat' first
    | (intro zz; refine Kept.have (x := zz) ?_ (fun _ => ?_); unfold zz; rotate_left; clear_value zz; rotate_right)
    | with_reducible assumption
    | with_reducible apply fGain_kept
    | with_reducible apply doGain_kept
    | with_reducible apply loGain_kept
    | with_reducible apply canGain_kept
    | with_reducible apply hartTakeover_kept
    | with_reducible apply qRoleChange_kept
    | with_reducible apply qSwitches_kept
    | with_reducible apply uRoleChange_kept
    | with_reducible apply pnlGain_kept
    | with_reducible apply setJrn_kept

theorem gainTurn_kept {z0 d : Dev}  (hk0 : Kept z0 d) :
    Kept z0 (Dev.gainTurn d) := by
  unfold Dev.gainTurn
  repeat' first
    | (intro zz; refine Kept.have (x := zz) ?_ (fun _ => ?_); unfold zz; rotate_left; clear_value zz; rotate_right)
    | with_reducible assumption
    | with_reducible apply complete_kept
    | with_reducible apply overrunTurn_kept
    | with_reducible apply freeVal_kept
    | with_reducible apply ownLatch_kept
    | split

theorem tokenGain_kept {z0 d : Dev}  (hk0 : Kept z0 d) :
    Kept z0 (Dev.tokenGain d) := by
  unfold Dev.tokenGain
  repeat' first
    | (intro zz; refine Kept.have (x := zz) ?_ (fun _ => ?_); unfold zz; rotate_left; clear_value zz; rotate_right)
    | with_reducible assumption
    | with_reducible apply wrFs_kept
    | with_reducible apply setRole_kept
    | with_reducible apply holderStart_kept
    | with_reducible apply formPair_kept
    | with_reducible apply castleEnd_kept
    | with_reducible apply setPair_kept
    | with_reducible apply gainTurn_kept
    | with_reducible apply send63_kept
    | with_reducible apply Kept.ite
    | split

theorem resetDie_kept {z0 d : Dev} (warm : Bool) (hk0 : Kept z0 d) : Kept z0 (Dev.resetDie d warm) := by
  refine hk0.trans ⟨rfl, Nat.le_refl _, Nat.zero_le _, fun s => ?_, fun h => ?_⟩
  · refine { queues := rfl, windows := rfl, sessions := rfl, slots := ?_, slotBytes := ?_, bases := rfl
             charge := rfl, scans := ?_, inputs := ?_, drives := rfl, loops := rfl, pulses := rfl, bus := rfl
             buffers := ?_, tests := rfl, updates := rfl }
    · simp only [Dev.resetDie]
      split
      · rw [length_upd]; exact s.slots
      · exact s.slots
    · simp only [Dev.resetDie]
      split
      · refine mem_upd (fun x hx => ?_) s.slotBytes
        split
        · rfl
        · exact hx
      · exact s.slotBytes
    · simp only [Dev.resetDie]; split <;> rfl
    · simp only [Dev.resetDie]
      split
      · rw [List.length_map]; exact s.inputs
      · rfl
    · intro c hc
      rw [show c = CanCh.empty from List.eq_of_mem_replicate (n := 4) hc]
      rfl
  · refine ⟨?_, rfl, rfl⟩
    show regsWf (keepRegs _ _) = true
    unfold keepRegs
    have : ∀ (l r : List (Nat × Word)), regsWf r = true → regsWf (l.foldl (fun r x =>
        regSet r x.1 ((resetWord x.1 &&& ~~~ x.2) ||| (regGet d.regs x.1 &&& x.2))) r) = true := by
      intro l
      induction l with
      | nil => exact fun _ h => h
      | cons x t ih => exact fun r h => ih _ (regsWf_regSet _ _ _ h)
    exact this _ _ rfl

theorem setCause_kept {z0 d : Dev} (cause detail : Nat) (nowarn : Bool) (hk0 : Kept z0 d) :
    Kept z0 (Dev.setCause d cause detail nowarn) := by
  unfold Dev.setCause
  repeat' first
    | with_reducible assumption
    | with_reducible apply wr_kept

theorem resetAs_kept {z0 d : Dev} (cause detail : Nat) (hk0 : Kept z0 d) :
    Kept z0 (Dev.resetAs d cause detail) := by
  unfold Dev.resetAs
  repeat' first
    | (intro zz; refine Kept.have (x := zz) ?_ (fun _ => ?_); unfold zz; rotate_left; clear_value zz; rotate_right)
    | with_reducible assumption
    | with_reducible apply flush_kept
    | with_reducible apply tokenLoss_kept
    | with_reducible apply resetDie_kept
    | with_reducible apply setCause_kept
    | with_reducible apply wrF_kept
    | with_reducible apply Kept.ite

theorem checkpointSeen_kept {z0 d : Dev} (es : List LEntry) (hk0 : Kept z0 d) : Kept z0 (Dev.checkpointSeen d es) := by
  unfold Dev.checkpointSeen
  split
  · exact Kept.ite hk0 (happen_kept _ (flagEv_kept _ _ _ hk0))
  · exact hk0

theorem castleBegin_kept {z0 d : Dev} (cause : Nat) (hk0 : Kept z0 d) :
    Kept z0 (Dev.castleBegin d cause) := by
  unfold Dev.castleBegin
  repeat' first
    | (intro zz; refine Kept.have (x := zz) ?_ (fun _ => ?_); unfold zz; rotate_left; clear_value zz; rotate_right)
    | with_reducible assumption
    | with_reducible apply incF_kept
    | with_reducible apply flagEv_kept
    | with_reducible apply setPair_kept
    | with_reducible apply setRun_kept
    | with_reducible apply swapAbandon_kept

theorem commitEnd_kept {z0 d : Dev} (turn : Nat) (entries : List (List Byte)) (digest : List Byte) (hk0 : Kept z0 d) :
    Kept z0 (Dev.commitEnd d turn entries digest) := by
  unfold Dev.commitEnd
  repeat' first
    | (intro zz; refine Kept.have (x := zz) ?_ (fun _ => ?_); unfold zz; rotate_left; clear_value zz; rotate_right)
    | with_reducible assumption
    | with_reducible apply acceptAll_kept
    | with_reducible apply prospect_kept
    | with_reducible apply checkpointSeen_kept
    | with_reducible apply send63_kept
    | with_reducible apply completeWith_kept
    | with_reducible apply castleBegin_kept
    | with_reducible apply Kept.ite
    | split

theorem ackMsg_kept {z0 d : Dev} (bytes : List Byte) (hk0 : Kept z0 d) :
    Kept z0 (Dev.ackMsg d bytes) := by
  unfold Dev.ackMsg
  repeat' first
    | with_reducible assumption
    | with_reducible apply overrunTurn_kept
    | with_reducible apply linkLost_kept
    | with_reducible apply linksolo_kept
    | with_reducible apply setRun_kept
    | with_reducible apply ownCommit_kept
    | split

theorem nakMsg_kept {z0 d : Dev} (bytes : List Byte) (hk0 : Kept z0 d) :
    Kept z0 (Dev.nakMsg d bytes) := by
  unfold Dev.nakMsg
  repeat' first
    | with_reducible assumption
    | with_reducible apply castleBegin_kept
    | split

theorem standbyGone_kept {z0 d : Dev} (reason : Option Nat) (hk0 : Kept z0 d) :
    Kept z0 (Dev.standbyGone d reason) := by
  unfold Dev.standbyGone
  repeat' first
    | (intro zz; refine Kept.have (x := zz) ?_ (fun _ => ?_); unfold zz; rotate_left; clear_value zz; rotate_right)
    | with_reducible assumption
    | with_reducible apply wrF_kept
    | with_reducible apply setPair_kept
    | with_reducible apply formPair_kept
    | with_reducible apply ownCommit_kept
    | exact rfl
    | (intro h; exact h)
    | split
    | with_reducible apply Kept.with

theorem resetPeer_kept {z0 d : Dev}  (hk0 : Kept z0 d) :
    Kept z0 (Dev.resetPeer d) := by
  unfold Dev.resetPeer
  repeat' first
    | with_reducible assumption
    | with_reducible apply send63_kept
    | with_reducible apply standbyGone_kept
    | split

theorem healthMsg_kept {z0 d : Dev} (bytes : List Byte) (hk0 : Kept z0 d) :
    Kept z0 (Dev.healthMsg d bytes) := by
  unfold Dev.healthMsg
  repeat' first
    | (intro zz; refine Kept.have (x := zz) ?_ (fun _ => ?_); unfold zz; rotate_left; clear_value zz; rotate_right)
    | with_reducible assumption
    | with_reducible apply setPair_kept
    | with_reducible apply resetPeer_kept
    | with_reducible apply Kept.ite

theorem healthTimeout_kept {z0 d : Dev}  (hk0 : Kept z0 d) :
    Kept z0 (Dev.healthTimeout d) := by
  unfold Dev.healthTimeout
  repeat' first
    | with_reducible assumption
    | with_reducible apply resetPeer_kept
    | with_reducible apply setPair_kept
    | split

theorem roleMsg_kept {z0 d : Dev} (bytes : List Byte) (hk0 : Kept z0 d) :
    Kept z0 (Dev.roleMsg d bytes) := by
  unfold Dev.roleMsg
  repeat' first
    | (intro zz; refine Kept.have (x := zz) ?_ (fun _ => ?_); unfold zz; rotate_left; clear_value zz; rotate_right)
    | with_reducible assumption
    | with_reducible apply wrF_kept
    | with_reducible apply tokenLoss_kept
    | with_reducible apply flagEv_kept
    | with_reducible apply formPair_kept
    | with_reducible apply standbyGone_kept
    | with_reducible apply Kept.ite
    | split

theorem resetcmdMsg_kept {z0 d : Dev}  (hk0 : Kept z0 d) :
    Kept z0 (Dev.resetcmdMsg d) := by
  unfold Dev.resetcmdMsg
  repeat' first
    | with_reducible assumption
    | with_reducible apply resetAs_kept
    | split

theorem happenMsg_kept {z0 d : Dev} (kind : BitVec 8) (payload : List Byte) (hk0 : Kept z0 d) :
    Kept z0 (Dev.happenMsg d kind payload) := by
  unfold Dev.happenMsg
  repeat' first
    | with_reducible assumption
    | with_reducible apply happen_kept
    | split

theorem sendHappenings_kept {z0 d : Dev}  (hk0 : Kept z0 d) :
    Kept z0 (Dev.sendHappenings d) := by
  unfold Dev.sendHappenings
  repeat' first
    | (intro zz; refine Kept.have (x := zz) ?_ (fun _ => ?_); unfold zz; rotate_left; clear_value zz; rotate_right)
    | with_reducible assumption
    | with_reducible apply send63_kept
    | with_reducible apply setJrn_kept
    | with_reducible apply Kept.foldl
    | (intro _ _ _; show Kept _ _)
    | split

theorem selftestDone_kept {z0 d : Dev} (res : BitVec 6) (hk0 : Kept z0 d) :
    Kept z0 (Dev.selftestDone d res) := by
  unfold Dev.selftestDone
  repeat' first
    | (intro zz; refine Kept.have (x := zz) ?_ (fun _ => ?_); unfold zz; rotate_left; clear_value zz; rotate_right)
    | with_reducible assumption
    | with_reducible apply setPair_kept
    | with_reducible apply send63_kept
    | split

theorem stresMsg_kept {z0 d : Dev} (bytes : List Byte) (hk0 : Kept z0 d) :
    Kept z0 (Dev.stresMsg d bytes) := by
  unfold Dev.stresMsg
  repeat' first
    | with_reducible assumption
    | with_reducible apply setPair_kept
    | split

theorem castleShow_kept {z0 d : Dev} (active standby : Bool) (hk0 : Kept z0 d) :
    Kept z0 (Dev.castleShow d active standby) := by
  unfold Dev.castleShow
  repeat' first
    | (intro zz; refine Kept.have (x := zz) ?_ (fun _ => ?_); unfold zz; rotate_left; clear_value zz; rotate_right)
    | with_reducible assumption
    | with_reducible apply wrFs_kept

theorem safeIfDanger_kept {z0 d : Dev}  (hk0 : Kept z0 d) :
    Kept z0 (Dev.safeIfDanger d) := by
  unfold Dev.safeIfDanger
  repeat' first
    | with_reducible assumption
    | with_reducible apply safeState_kept
    | split

theorem decideActive_kept {z0 d : Dev}  (hk0 : Kept z0 d) :
    Kept z0 (Dev.decideActive d) := by
  unfold Dev.decideActive
  repeat' first
    | (intro zz; refine Kept.have (x := zz) ?_ (fun _ => ?_); unfold zz; rotate_left; clear_value zz; rotate_right)
    | with_reducible assumption
    | with_reducible apply castleShow_kept
    | with_reducible apply formPair_kept
    | with_reducible apply castleEnd_kept
    | with_reducible apply safeIfDanger_kept
    | with_reducible apply tokenLoss_kept
    | with_reducible apply resetAs_kept
    | with_reducible apply wrF_kept
    | with_reducible apply send63_kept
    | with_reducible apply declare_kept
    | with_reducible apply Kept.ite

theorem decideStandby_kept {z0 d : Dev}  (hk0 : Kept z0 d) :
    Kept z0 (Dev.decideStandby d) := by
  unfold Dev.decideStandby
  repeat' first
    | (intro zz; refine Kept.have (x := zz) ?_ (fun _ => ?_); unfold zz; rotate_left; clear_value zz; rotate_right)
    | with_reducible assumption
    | with_reducible apply castleShow_kept
    | with_reducible apply castleEnd_kept
    | with_reducible apply toRejoin_kept
    | with_reducible apply setPair_kept
    | exact rfl
    | (intro h; exact h)
    | split
    | with_reducible apply Kept.with

theorem plan_kept {z0 d : Dev} (cause : Nat) (hk0 : Kept z0 d) :
    Kept z0 (Dev.plan d cause) := by
  unfold Dev.plan
  repeat' first
    | with_reducible assumption
    | with_reducible apply setPair_kept
    | with_reducible apply raise_kept

theorem ejectEffect_kept {z0 d : Dev}  (hk0 : Kept z0 d) :
    Kept z0 (Dev.ejectEffect d) := by
  unfold Dev.ejectEffect
  repeat' first
    | (intro zz; refine Kept.have (x := zz) ?_ (fun _ => ?_); unfold zz; rotate_left; clear_value zz; rotate_right)
    | with_reducible assumption
    | with_reducible apply plan_kept
    | with_reducible apply setRole_kept
    | with_reducible apply wrF_kept
    | with_reducible apply sendHappenings_kept
    | with_reducible apply send63_kept
    | with_reducible apply setTurn_kept
    | with_reducible apply linkGone_kept
    | (intro x h; simpa using h; done)
    | split

theorem afterCastle_kept {z0 d : Dev}  (hk0 : Kept z0 d) :
    Kept z0 (Dev.afterCastle d) := by
  unfold Dev.afterCastle
  repeat' first
    | (intro zz; refine Kept.have (x := zz) ?_ (fun _ => ?_); unfold zz; rotate_left; clear_value zz; rotate_right)
    | with_reducible assumption
    | with_reducible apply setPair_kept
    | with_reducible apply ejectEffect_kept
    | with_reducible apply Kept.ite

theorem castlingDecide_kept {z0 d : Dev}  (hk0 : Kept z0 d) :
    Kept z0 (Dev.castlingDecide d) := by
  unfold Dev.castlingDecide
  repeat' first
    | with_reducible assumption
    | with_reducible apply decideActive_kept
    | with_reducible apply afterCastle_kept
    | with_reducible apply decideStandby_kept
    | with_reducible apply castleEnd_kept
    | split

theorem tokenFree_kept {z0 d : Dev} (granted : Bool) (hk0 : Kept z0 d) :
    Kept z0 (Dev.tokenFree d granted) := by
  unfold Dev.tokenFree
  repeat' first
    | with_reducible assumption
    | with_reducible apply tokenGain_kept
    | split

theorem holdRelease_kept {z0 d : Dev}  (hk0 : Kept z0 d) :
    Kept z0 (Dev.holdRelease d) := by
  unfold Dev.holdRelease
  repeat' first
    | with_reducible assumption
    | with_reducible apply wrF_kept

theorem handover_kept {z0 d : Dev} (sess : Nat) (hk0 : Kept z0 d) :
    Kept z0 (Dev.handover d sess) := by
  unfold Dev.handover
  repeat' first
    | (intro zz; refine Kept.have (x := zz) ?_ (fun _ => ?_); unfold zz; rotate_left; clear_value zz; rotate_right)
    | with_reducible assumption
    | with_reducible apply passGate_kept
    | with_reducible apply plan_kept
    | with_reducible apply flag_kept
    | with_reducible apply Kept.ite

theorem mirrorArrived_kept {z0 d : Dev}  (hk0 : Kept z0 d) :
    Kept z0 (Dev.mirrorArrived d) := by
  unfold Dev.mirrorArrived
  repeat' first
    | (intro zz; refine Kept.have (x := zz) ?_ (fun _ => ?_); unfold zz; rotate_left; clear_value zz; rotate_right)
    | with_reducible assumption
    | with_reducible apply setPair_kept
    | with_reducible apply pop_kept
    | with_reducible apply forwardStep_kept
    | with_reducible apply Kept.foldl
    | (intro _ _ _; show Kept _ _)
    | split

theorem mirrorDone_kept {z0 d : Dev} (hk0 : Kept z0 d) : Kept z0 (Dev.mirrorDone d) := by
  unfold Dev.mirrorDone
  have h := mirrorArrived_kept hk0
  generalize d.mirrorArrived = e at h
  dsimp only
  split
  · split
    · exact h
    · exact linkGone_kept _ (tokenLoss_kept (setPair_kept _ (send63_kept _ (sendHappenings_kept h))))
  · exact h

theorem yieldMsg_kept {z0 d : Dev} (bytes : List Byte) (hk0 : Kept z0 d) :
    Kept z0 (Dev.yieldMsg d bytes) := by
  unfold Dev.yieldMsg
  repeat' first
    | with_reducible assumption
    | with_reducible apply setPair_kept
    | split

theorem mirrorPanel_kept {z0 d : Dev} (m : PanelMirror) (hk0 : Kept z0 d) :
    Kept z0 (Dev.mirrorPanel d m) := by
  unfold Dev.mirrorPanel
  repeat' first
    | (intro zz; refine Kept.have (x := zz) ?_ (fun _ => ?_); unfold zz; rotate_left; clear_value zz; rotate_right)
    | with_reducible assumption
    | with_reducible apply wr_kept
    | with_reducible apply setPnl_kept
    | with_reducible apply pLose_kept
    | with_reducible apply Kept.foldl
    | (intro _ _ _; show Kept _ _)
    | (intro x h; simpa using h; done)
    | split

theorem takeMirror_kept {z0 d : Dev} (m : Mirror) (hk0 : Kept z0 d) :
    Kept z0 (Dev.takeMirror d m) := by
  unfold Dev.takeMirror
  repeat' first
    | (intro zz; refine Kept.have (x := zz) ?_ (fun _ => ?_); unfold zz; rotate_left; clear_value zz; rotate_right)
    | with_reducible assumption
    | with_reducible apply setTurn_kept
    | with_reducible apply setXc_kept
    | with_reducible apply setQc_kept
    | with_reducible apply wrF_kept
    | with_reducible apply setLi_kept
    | with_reducible apply setDio_kept
    | with_reducible apply setLo_kept
    | with_reducible apply mirrorPanel_kept
    | with_reducible apply setJrn_kept
    | with_reducible apply Kept.foldl
    | (intro _ _ _; show Kept _ _)
    | exact rfl
    | (intro h; exact h)
    | (intro x h; simpa using h; done)
    | split
    | with_reducible apply Kept.with

theorem mirrorBlock_kept {z0 d : Dev} (turn : Nat) (m : Mirror) (hk0 : Kept z0 d) :
    Kept z0 (Dev.mirrorBlock d turn m) := by
  unfold Dev.mirrorBlock
  repeat' first
    | (intro zz; refine Kept.have (x := zz) ?_ (fun _ => ?_); unfold zz; rotate_left; clear_value zz; rotate_right)
    | with_reducible assumption
    | with_reducible apply takeMirror_kept
    | with_reducible apply setPair_kept
    | split

theorem mirrorCheck_kept {z0 d : Dev}  (hk0 : Kept z0 d) :
    Kept z0 (Dev.mirrorCheck d) := by
  unfold Dev.mirrorCheck
  repeat' first
    | (intro zz; refine Kept.have (x := zz) ?_ (fun _ => ?_); unfold zz; rotate_left; clear_value zz; rotate_right)
    | with_reducible assumption
    | with_reducible apply incF_kept
    | with_reducible apply flagEv_kept
    | with_reducible apply setPair_kept
    | with_reducible apply toRejoin_kept
    | with_reducible apply Kept.ite

theorem xJudgeChan_kept {z0 d : Dev} (kind idx : Nat) (data : Bool → List Byte) (hk0 : Kept z0 d) :
    Kept z0 (Dev.xJudgeChan d kind idx data) := by
  unfold Dev.xJudgeChan
  repeat' first
    | (intro zz; refine Kept.have (x := zz) ?_ (fun _ => ?_); unfold zz; rotate_left; clear_value zz; rotate_right)
    | with_reducible assumption
    | with_reducible apply wrF_kept
    | with_reducible apply setXRun_kept
    | with_reducible apply flagEv_kept
    | with_reducible apply happen_kept
    | with_reducible apply setPair_kept
    | with_reducible apply Kept.ite
    | split

theorem xShow_kept {z0 d : Dev} (r : Release) (b : Bool) (hk0 : Kept z0 d) :
    Kept z0 (Dev.xShow d r b) := by
  unfold Dev.xShow
  repeat' first
    | with_reducible assumption
    | with_reducible apply xCompare_kept
    | with_reducible apply setXRun_kept
    | split

theorem xCheck_kept {z0 d : Dev} (r own : Release) (hk0 : Kept z0 d) :
    Kept z0 (Dev.xCheck d r own) := by
  unfold Dev.xCheck
  repeat' first
    | (intro zz; refine Kept.have (x := zz) ?_ (fun _ => ?_); unfold zz; rotate_left; clear_value zz; rotate_right)
    | with_reducible assumption
    | with_reducible apply xShow_kept
    | with_reducible apply xJudgeChan_kept
    | split

theorem crossCheck_kept {z0 d : Dev} (rel : List Release) (hk0 : Kept z0 d) :
    Kept z0 (Dev.crossCheck d rel) := by
  unfold Dev.crossCheck
  repeat' first
    | (intro zz; refine Kept.have (x := zz) ?_ (fun _ => ?_); unfold zz; rotate_left; clear_value zz; rotate_right)
    | with_reducible assumption
    | with_reducible apply xCheck_kept
    | with_reducible apply xJudgeChan_kept
    | with_reducible apply Kept.foldl
    | (intro _ _ _; show Kept _ _)
    | split

theorem rejoinCheck_kept {z0 d : Dev} (rel : List Release) (hk0 : Kept z0 d) : Kept z0 (Dev.rejoinCheck d rel) := by
  unfold Dev.rejoinCheck
  generalize d.releases = mine
  refine Kept.foldl hk0 (fun e r h => ?_)
  split
  · next o _ =>
    generalize e.differs r o = v
    cases v with
    | none => exact h
    | some b => exact xShow_kept _ _ h
  · exact h

theorem takeBack_kept {z0 d : Dev} (r : TurnRun) (hk0 : Kept z0 d) :
    Kept z0 (Dev.takeBack d r) := by
  unfold Dev.takeBack
  repeat' first
    | (intro zz; refine Kept.have (x := zz) ?_ (fun _ => ?_); unfold zz; rotate_left; clear_value zz; rotate_right)
    | with_reducible assumption
    | with_reducible apply drainAll_kept
    | with_reducible apply setJrn_kept
    | with_reducible apply setCan_kept
    | with_reducible apply setTurn_kept
    | (intro x h; simpa using h; done)

theorem lateCheck_kept {z0 d : Dev} (inp : InImage) (hk0 : Kept z0 d) :
    Kept z0 (Dev.lateCheck d inp) := by
  unfold Dev.lateCheck
  repeat' first
    | with_reducible assumption
    | with_reducible apply takeBack_kept
    | split

theorem imageWrites_kept {z0 d : Dev} (inp : InImage) (hk0 : Kept z0 d) :
    Kept z0 (Dev.imageWrites d inp) := by
  unfold Dev.imageWrites
  repeat' first
    | (intro zz; refine Kept.have (x := zz) ?_ (fun _ => ?_); unfold zz; rotate_left; clear_value zz; rotate_right)
    | with_reducible assumption
    | with_reducible apply wrF_kept
    | with_reducible apply osetJudge_kept
    | with_reducible apply Kept.foldl
    | (intro _ _ _; show Kept _ _)
    | exact rfl
    | (intro h; exact h)
    | split
    | with_reducible apply Kept.with

theorem inputDelta_kept {z0 d : Dev} (inp : InImage) (rel : List Release) (hk0 : Kept z0 d) :
    Kept z0 (Dev.inputDelta d inp rel) := by
  unfold Dev.inputDelta
  repeat' first
    | (intro zz; refine Kept.have (x := zz) ?_ (fun _ => ?_); unfold zz; rotate_left; clear_value zz; rotate_right)
    | with_reducible assumption
    | with_reducible apply domTrack_kept
    | with_reducible apply rejoinCheck_kept
    | with_reducible apply lateCheck_kept
    | with_reducible apply setTurn_kept
    | with_reducible apply setJrn_kept
    | with_reducible apply evalTurn_kept
    | with_reducible apply imageWrites_kept
    | with_reducible apply heldTurn_kept
    | with_reducible apply setRun_kept
    | with_reducible apply crossCheck_kept
    | with_reducible apply healthTurn_kept
    | (intro x h; simpa using h; done)
    | split

theorem linkLostRow_kept {z0 d : Dev}  (hk0 : Kept z0 d) :
    Kept z0 (Dev.linkLostRow d) := by
  unfold Dev.linkLostRow
  repeat' first
    | (intro zz; refine Kept.have (x := zz) ?_ (fun _ => ?_); unfold zz; rotate_left; clear_value zz; rotate_right)
    | with_reducible assumption
    | with_reducible apply linkLost_kept
    | with_reducible apply safeIfDanger_kept
    | with_reducible apply Kept.ite

theorem laneDegraded_kept {z0 d : Dev} (lane : Nat) (hk0 : Kept z0 d) :
    Kept z0 (Dev.laneDegraded d lane) := by
  unfold Dev.laneDegraded
  repeat' first
    | (intro zz; refine Kept.have (x := zz) ?_ (fun _ => ?_); unfold zz; rotate_left; clear_value zz; rotate_right)
    | with_reducible assumption
    | with_reducible apply linkLostRow_kept
    | with_reducible apply wrF_kept
    | with_reducible apply flagEv_kept
    | with_reducible apply Kept.ite

theorem swapConfirmed_kept {z0 d : Dev} (w : Nat) (hk0 : Kept z0 d) :
    Kept z0 (Dev.swapConfirmed d w) := by
  unfold Dev.swapConfirmed
  repeat' first
    | (intro zz; refine Kept.have (x := zz) ?_ (fun _ => ?_); unfold zz; rotate_left; clear_value zz; rotate_right)
    | with_reducible assumption
    | exact rfl
    | (intro h; exact h)
    | split
    | with_reducible apply Kept.with

theorem blockReceived_kept {z0 d : Dev} (q : Nat) (seq : BitVec 16) (crcOk : Bool) (bytes : List Byte) (ack : Option (BitVec 16)) (hk0 : Kept z0 d) :
    Kept z0 (Dev.blockReceived d q seq crcOk bytes ack) := by
  unfold Dev.blockReceived
  repeat' first
    | (intro zz; refine Kept.have (x := zz) ?_ (fun _ => ?_); unfold zz; rotate_left; clear_value zz; rotate_right)
    | with_reducible assumption
    | with_reducible apply setPair_kept
    | with_reducible apply incF_kept
    | with_reducible apply swapConfirmed_kept
    | split

theorem blockTimeout_kept {z0 d : Dev} (q : Nat) (hk0 : Kept z0 d) :
    Kept z0 (Dev.blockTimeout d q) := by
  unfold Dev.blockTimeout
  repeat' first
    | (intro zz; refine Kept.have (x := zz) ?_ (fun _ => ?_); unfold zz; rotate_left; clear_value zz; rotate_right)
    | with_reducible assumption
    | with_reducible apply incF_kept
    | with_reducible apply Kept.foldl
    | (intro _ _ _; show Kept _ _)

theorem heartbeatLoss_kept {z0 d : Dev}  (hk0 : Kept z0 d) :
    Kept z0 (Dev.heartbeatLoss d) := by
  unfold Dev.heartbeatLoss
  repeat' first
    | with_reducible assumption
    | with_reducible apply flagEv_kept
    | split

theorem dropBeyond_kept {z0 d : Dev} (agreed : Nat) (hk0 : Kept z0 d) :
    Kept z0 (Dev.dropBeyond d agreed) := by
  unfold Dev.dropBeyond
  repeat' first
    | (intro zz; refine Kept.have (x := zz) ?_ (fun _ => ?_); unfold zz; rotate_left; clear_value zz; rotate_right)
    | with_reducible assumption
    | with_reducible apply drainAll_kept
    | with_reducible apply setJrn_kept
    | with_reducible apply happen_kept
    | with_reducible apply Kept.ite

theorem setMarks_kept {z0 d : Dev} (marks : List Nat) (hk0 : Kept z0 d) :
    Kept z0 (Dev.setMarks d marks) := by
  unfold Dev.setMarks
  repeat' first
    | (intro zz; refine Kept.have (x := zz) ?_ (fun _ => ?_); unfold zz; rotate_left; clear_value zz; rotate_right)
    | with_reducible assumption
    | with_reducible apply setCanCh_kept
    | with_reducible apply Kept.foldl
    | (intro _ _ _; show Kept _ _)
    | (intro x h; simpa using h; done)

theorem rejoinState_kept {z0 d : Dev} (m : Mirror) (agreed : Nat) (tail : List LEntry) (dups : List DupState) (marks : List Nat) (hk0 : Kept z0 d) :
    Kept z0 (Dev.rejoinState d m agreed tail dups marks) := by
  unfold Dev.rejoinState
  repeat' first
    | (intro zz; refine Kept.have (x := zz) ?_ (fun _ => ?_); unfold zz; rotate_left; clear_value zz; rotate_right)
    | with_reducible assumption
    | with_reducible apply dropBeyond_kept
    | with_reducible apply rejoinFailed_kept
    | with_reducible apply acceptAll_kept
    | with_reducible apply drainAll_kept
    | with_reducible apply setJrn_kept
    | with_reducible apply setCan_kept
    | with_reducible apply setMarks_kept
    | with_reducible apply takeMirror_kept
    | with_reducible apply setPair_kept
    | with_reducible apply wrF_kept
    | with_reducible apply Kept.ite
    | (intro x h; simpa using h; done)

theorem rejoinCutover_kept {z0 d : Dev} (turn agreed : Nat) (pool : List (List Entry)) (hk0 : Kept z0 d) :
    Kept z0 (Dev.rejoinCutover d turn agreed pool) := by
  unfold Dev.rejoinCutover
  repeat' first
    | (intro zz; refine Kept.have (x := zz) ?_ (fun _ => ?_); unfold zz; rotate_left; clear_value zz; rotate_right)
    | with_reducible assumption
    | with_reducible apply setTurn_kept
    | with_reducible apply setJrn_kept
    | with_reducible apply setRole_kept
    | with_reducible apply wrF_kept
    | with_reducible apply setQc_kept
    | with_reducible apply setPair_kept
    | with_reducible apply raise_kept
    | with_reducible apply formPair_kept
    | with_reducible apply Kept.foldl
    | (intro _ _ _; show Kept _ _)
    | (intro x h; simpa using h; done)
    | split

theorem agePeriod_kept {z0 d : Dev}  (hk0 : Kept z0 d) :
    Kept z0 (Dev.agePeriod d) := by
  unfold Dev.agePeriod
  repeat' first
    | with_reducible assumption
    | with_reducible apply incF_kept
    | with_reducible apply setPair_kept

theorem hostWrites_kept {z0 d : Dev}  (hk0 : Kept z0 d) :
    Kept z0 (Dev.hostWrites d) := by
  unfold Dev.hostWrites
  repeat' first
    | (intro zz; first
        | (refine Kept.have (x := zz) ?_ (fun _ => ?_); unfold zz; rotate_left; clear_value zz; rotate_right)
        | (refine Kept.have (x := zz.1) ?_ (fun _ => ?_); unfold zz; rotate_left; clear_value zz; rotate_right))
    | with_reducible assumption
    | with_reducible apply hostsetLatch_kept
    | with_reducible apply loLatch_kept
    | with_reducible apply happen_kept
    | with_reducible apply Kept.foldl
    | (intro _ _ _; show Kept _ _)
    | exact rfl
    | (intro h; exact h)
    | split
    | with_reducible apply Kept.with

theorem turnStartSet_kept {z0 d : Dev} (low : BitVec 16) (hk0 : Kept z0 d) :
    Kept z0 (Dev.turnStartSet d low) := by
  unfold Dev.turnStartSet
  repeat' first
    | (intro zz; refine Kept.have (x := zz) ?_ (fun _ => ?_); unfold zz; rotate_left; clear_value zz; rotate_right)
    | with_reducible assumption
    | with_reducible apply commitDeadline_kept
    | with_reducible apply mirrorCheck_kept
    | with_reducible apply turnBegin_kept
    | with_reducible apply agePeriod_kept
    | with_reducible apply hostWrites_kept
    | with_reducible apply sendHappenings_kept
    | with_reducible apply send63_kept
    | with_reducible apply sendHealth_kept
    | with_reducible apply setPair_kept
    | with_reducible apply castlingDecide_kept
    | with_reducible apply Kept.ite

theorem swapLattice_kept {z0 d : Dev} (old : Image) (hk0 : Kept z0 d) :
    Kept z0 (Dev.swapLattice d old) := by
  unfold Dev.swapLattice
  repeat' first
    | (intro zz; refine Kept.have (x := zz) ?_ (fun _ => ?_); unfold zz; rotate_left; clear_value zz; rotate_right)
    | with_reducible assumption
    | with_reducible apply setTurn_kept
    | with_reducible apply setCan_kept
    | (intro x h; simpa using h; done)

theorem fReload_kept {z0 d : Dev} (f : Func) (hk0 : Kept z0 d) :
    Kept z0 (Dev.fReload d f) := by
  unfold Dev.fReload
  repeat' first
    | (intro zz; refine Kept.have (x := zz) ?_ (fun _ => ?_); unfold zz; rotate_left; clear_value zz; rotate_right)
    | with_reducible assumption
    | with_reducible apply fLoad_kept
    | with_reducible apply wrF_kept
    | split

theorem qchRegs_kept {z0 d : Dev}  (hk0 : Kept z0 d) :
    Kept z0 (Dev.qchRegs d) := by
  unfold Dev.qchRegs
  repeat' first
    | (intro zz; refine Kept.have (x := zz) ?_ (fun _ => ?_); unfold zz; rotate_left; clear_value zz; rotate_right)
    | with_reducible assumption
    | with_reducible apply wr_kept
    | with_reducible apply Kept.foldl
    | (intro _ _ _; show Kept _ _)

theorem qchApply_kept {z0 d : Dev} (first : Bool) (old : Image) (hk0 : Kept z0 d) :
    Kept z0 (Dev.qchApply d first old) := by
  unfold Dev.qchApply
  repeat' first
    | (intro zz; refine Kept.have (x := zz) ?_ (fun _ => ?_); unfold zz; rotate_left; clear_value zz; rotate_right)
    | with_reducible assumption
    | with_reducible apply qchRegs_kept
    | with_reducible apply qSwitches_kept
    | with_reducible apply wrF_kept
    | with_reducible apply fLoad_kept
    | with_reducible apply wbWrite_kept
    | with_reducible apply fReload_kept
    | with_reducible apply fEnable_kept
    | with_reducible apply Kept.foldl
    | (intro _ _ _; show Kept _ _)
    | with_reducible apply Kept.ite
    | split

theorem xchApply_kept {z0 d : Dev} (first : Bool) (old : Image) (hk0 : Kept z0 d) :
    Kept z0 (Dev.xchApply d first old) := by
  unfold Dev.xchApply
  repeat' first
    | (intro zz; refine Kept.have (x := zz) ?_ (fun _ => ?_); unfold zz; rotate_left; clear_value zz; rotate_right)
    | with_reducible assumption
    | with_reducible apply xchRegs_kept
    | with_reducible apply fLoad_kept
    | with_reducible apply fForce_kept
    | with_reducible apply xChange_kept
    | with_reducible apply fReload_kept
    | with_reducible apply Kept.foldl
    | (intro _ _ _; show Kept _ _)
    | split

theorem lopApply_kept {z0 d : Dev} (first : Bool) (old : Image) (hk0 : Kept z0 d) :
    Kept z0 (Dev.lopApply d first old) := by
  unfold Dev.lopApply
  repeat' first
    | (intro zz; refine Kept.have (x := zz) ?_ (fun _ => ?_); unfold zz; rotate_left; clear_value zz; rotate_right)
    | with_reducible assumption
    | with_reducible apply liRegs_kept
    | with_reducible apply lRelease_kept
    | with_reducible apply fLoad_kept
    | with_reducible apply hartCancel_kept
    | with_reducible apply fForce_kept
    | with_reducible apply liRestart_kept
    | with_reducible apply fReload_kept
    | with_reducible apply loRegs_kept
    | with_reducible apply Kept.foldl
    | (intro _ _ _; show Kept _ _)
    | with_reducible apply Kept.ite
    | split

theorem panelApply_kept {z0 d : Dev} (first : Bool) (old : Image) (hk0 : Kept z0 d) :
    Kept z0 (Dev.panelApply d first old) := by
  unfold Dev.panelApply
  repeat' first
    | (intro zz; refine Kept.have (x := zz) ?_ (fun _ => ?_); unfold zz; rotate_left; clear_value zz; rotate_right)
    | with_reducible assumption
    | with_reducible apply pnlApply_kept
    | with_reducible apply fLoad_kept
    | with_reducible apply fReload_kept
    | with_reducible apply wrF_kept
    | with_reducible apply fEnable_kept
    | with_reducible apply Kept.ite

theorem vltShow_kept {z0 d : Dev}  (hk0 : Kept z0 d) :
    Kept z0 (Dev.vltShow d) := by
  unfold Dev.vltShow
  repeat' first
    | (intro zz; refine Kept.have (x := zz) ?_ (fun _ => ?_); unfold zz; rotate_left; clear_value zz; rotate_right)
    | with_reducible assumption
    | with_reducible apply wr_kept
    | with_reducible apply wrFs_kept
    | with_reducible apply Kept.foldl
    | (intro _ _ _; show Kept _ _)

theorem applyImage_kept {z0 d : Dev} (first : Bool) (img : Image) (hk0 : Kept z0 d) :
    ∃ e, Kept z0 e ∧ Kept { e with image := img } (Dev.applyImage d first img) := by
  unfold Dev.applyImage
  lift_lets
  intro old d1 d2 d3 d4 d5 d6 d7 d8
  refine ⟨d2, ?_, ?_⟩
  · have h1 : Kept z0 d1 := by
      unfold d1
      split
      · exact hk0
      · exact wbDiscard_kept hk0
    unfold d2
    split
    · exact h1
    · refine phsLeave_kept _ (Kept.foldl h1 (fun e x h => ?_))
      split
      · exact qSwapOut_kept _ h
      · exact h
  · have h3 : Kept d3 d3 := Kept.refl _
    have h7 : Kept d3 d7 := by
      have h6 : Kept d3 d6 := panelApply_kept _ _ (dioApply_kept _ _ (lopApply_kept _ _ (xchApply_kept _ _
        (qchApply_kept _ _ (canApply_kept _ _ (uinApply_kept _ _ (phsApply_kept _ _ h3)))))))
      unfold d7
      split
      · exact fLoad_kept _ h6
      · exact h6
    have h8 : Kept d3 d8 := by
      unfold d8
      split
      · exact setTurn_kept _ h7 (fun _ h => h)
      · exact swapLattice_kept _ h7
    exact vltShow_kept (jrnRegs_kept (wtcRegs_kept (latRegs_kept _ h8)))

theorem raiseOn_kept {z0 d : Dev} (ev : Nat) (hk0 : Kept z0 d) :
    Kept z0 (Dev.raiseOn d ev) := by
  unfold Dev.raiseOn
  repeat' first
    | with_reducible assumption
    | with_reducible apply raise_kept
    | split

theorem flagOn_kept {z0 d : Dev} (a b ev : Nat) (hk0 : Kept z0 d) :
    Kept z0 (Dev.flagOn d a b ev) := by
  unfold Dev.flagOn
  repeat' first
    | with_reducible assumption
    | with_reducible apply flagEv_kept
    | split

theorem happenOn_kept {z0 d : Dev} (e : Entry) (hk0 : Kept z0 d) :
    Kept z0 (Dev.happenOn d e) := by
  unfold Dev.happenOn
  repeat' first
    | with_reducible assumption
    | with_reducible apply happen_kept
    | split

theorem setFeed_kept {z0 d : Dev} (b : Bool) (bit : Nat) (v : Bool) (hk0 : Kept z0 d) :
    Kept z0 (Dev.setFeed d b bit v) := by
  unfold Dev.setFeed
  repeat' first
    | with_reducible assumption
    | with_reducible apply wrF_kept

theorem diodeReverse_kept {z0 d : Dev} (b : Bool) (hk0 : Kept z0 d) :
    Kept z0 (Dev.diodeReverse d b) := by
  unfold Dev.diodeReverse
  repeat' first
    | (intro zz; refine Kept.have (x := zz) ?_ (fun _ => ?_); unfold zz; rotate_left; clear_value zz; rotate_right)
    | with_reducible assumption
    | with_reducible apply setFeed_kept
    | with_reducible apply raiseOn_kept
    | with_reducible apply Kept.ite

theorem gateOn_kept {z0 d : Dev} (b : Bool) (hk0 : Kept z0 d) :
    Kept z0 (Dev.gateOn d b) := by
  unfold Dev.gateOn
  repeat' first
    | with_reducible assumption
    | with_reducible apply setFeed_kept

theorem gateRange_kept {z0 d : Dev} (before : Dev) (b : Bool) (hk0 : Kept z0 d) :
    Kept z0 (Dev.gateRange before d b) := by
  unfold Dev.gateRange
  repeat' first
    | with_reducible apply setFeed_kept
    | exact hk0
    | split

theorem feedRange_kept {z0 d : Dev} (b inrange ov uv : Bool) (hk0 : Kept z0 d) :
    Kept z0 (Dev.feedRange d b inrange ov uv) := by
  unfold Dev.feedRange
  repeat' first
    | (intro zz; refine Kept.have (x := zz) ?_ (fun _ => ?_); unfold zz; rotate_left; clear_value zz; rotate_right)
    | with_reducible assumption
    | with_reducible apply setFeed_kept
    | with_reducible apply gateRange_kept
    | with_reducible apply flagOn_kept
    | with_reducible apply happenOn_kept
    | with_reducible apply Kept.ite

theorem vhvChange_kept {z0 d : Dev} (low : Bool) (hk0 : Kept z0 d) :
    Kept z0 (Dev.vhvChange d low) := by
  unfold Dev.vhvChange
  repeat' first
    | (intro zz; refine Kept.have (x := zz) ?_ (fun _ => ?_); unfold zz; rotate_left; clear_value zz; rotate_right)
    | with_reducible assumption
    | with_reducible apply wrF_kept
    | with_reducible apply flagOn_kept
    | with_reducible apply raiseOn_kept
    | with_reducible apply fHeld_kept
    | split

theorem combClr_kept {z0 d : Dev}  (hk0 : Kept z0 d) :
    Kept z0 (Dev.combClr d) := by
  unfold Dev.combClr
  repeat' first
    | (intro zz; refine Kept.have (x := zz) ?_ (fun _ => ?_); unfold zz; rotate_left; clear_value zz; rotate_right)
    | with_reducible assumption
    | with_reducible apply freeVal_kept
    | with_reducible apply wrFs_kept

theorem powerFail_kept {z0 d : Dev} (pres : Bool) (hk0 : Kept z0 d) :
    Kept z0 (Dev.powerFail d pres) := by
  unfold Dev.powerFail
  repeat' first
    | (intro zz; refine Kept.have (x := zz) ?_ (fun _ => ?_); unfold zz; rotate_left; clear_value zz; rotate_right)
    | with_reducible assumption
    | with_reducible apply wrF_kept
    | with_reducible apply setPwr_kept
    | with_reducible apply incF_kept
    | with_reducible apply flag_kept
    | with_reducible apply flagEv_kept
    | with_reducible apply setPair_kept
    | with_reducible apply writeThrough_kept
    | with_reducible apply fPfw_kept
    | with_reducible apply exvUpdate_kept
    | with_reducible apply Kept.ite

theorem pfwClear_kept {z0 d : Dev}  (hk0 : Kept z0 d) :
    Kept z0 (Dev.pfwClear d) := by
  unfold Dev.pfwClear
  repeat' first
    | (intro zz; refine Kept.have (x := zz) ?_ (fun _ => ?_); unfold zz; rotate_left; clear_value zz; rotate_right)
    | with_reducible assumption
    | with_reducible apply wrF_kept
    | with_reducible apply setPwr_kept
    | with_reducible apply freeVal_kept
    | with_reducible apply raiseOn_kept
    | with_reducible apply happenOn_kept
    | with_reducible apply writeThrough_kept
    | with_reducible apply fRestore_kept
    | with_reducible apply exvUpdate_kept
    | with_reducible apply Kept.ite

theorem feedlossReset_kept {z0 d : Dev}  (hk0 : Kept z0 d) :
    Kept z0 (Dev.feedlossReset d) := by
  unfold Dev.feedlossReset
  repeat' first
    | with_reducible assumption
    | with_reducible apply resetAs_kept
    | split

theorem railReset_kept {z0 d : Dev}  (hk0 : Kept z0 d) :
    Kept z0 (Dev.railReset d) := by
  unfold Dev.railReset
  repeat' first
    | (intro zz; refine Kept.have (x := zz) ?_ (fun _ => ?_); unfold zz; rotate_left; clear_value zz; rotate_right)
    | with_reducible assumption
    | with_reducible apply resetDie_kept
    | with_reducible apply setPwr_kept
    | with_reducible apply wrF_kept
    | with_reducible apply Kept.ite

theorem powerGood_kept {z0 d : Dev}  (hk0 : Kept z0 d) :
    Kept z0 (Dev.powerGood d) := by
  unfold Dev.powerGood
  repeat' first
    | (intro zz; refine Kept.have (x := zz) ?_ (fun _ => ?_); unfold zz; rotate_left; clear_value zz; rotate_right)
    | with_reducible assumption
    | with_reducible apply setCause_kept
    | with_reducible apply wrF_kept
    | with_reducible apply setPwr_kept
    | split

theorem resetRelease_kept {z0 d : Dev}  (hk0 : Kept z0 d) :
    Kept z0 (Dev.resetRelease d) := by
  unfold Dev.resetRelease
  repeat' first
    | with_reducible assumption
    | with_reducible apply setPwr_kept
    | split

theorem hostReset_kept {z0 d : Dev} (sess : Nat) (hk0 : Kept z0 d) :
    Kept z0 (Dev.hostReset d sess) := by
  unfold Dev.hostReset
  repeat' first
    | (intro zz; refine Kept.have (x := zz) ?_ (fun _ => ?_); unfold zz; rotate_left; clear_value zz; rotate_right)
    | with_reducible assumption
    | with_reducible apply passGate_kept
    | with_reducible apply resetAs_kept
    | with_reducible apply Kept.ite

theorem watchtowerReset_kept {z0 d : Dev}  (hk0 : Kept z0 d) :
    Kept z0 (Dev.watchtowerReset d) := by
  unfold Dev.watchtowerReset
  repeat' first
    | (intro zz; refine Kept.have (x := zz) ?_ (fun _ => ?_); unfold zz; rotate_left; clear_value zz; rotate_right)
    | with_reducible assumption
    | with_reducible apply wr_kept
    | with_reducible apply wrF_kept
    | with_reducible apply incF_kept
    | with_reducible apply setWtc_kept
    | with_reducible apply resetAs_kept
    | (intro x h; simpa using h; done)
    | split

theorem sleepRequest_kept {z0 d : Dev} (sess : Nat) (mask : BitVec 4) (hk0 : Kept z0 d) :
    Kept z0 (Dev.sleepRequest d sess mask) := by
  unfold Dev.sleepRequest
  repeat' first
    | (intro zz; refine Kept.have (x := zz) ?_ (fun _ => ?_); unfold zz; rotate_left; clear_value zz; rotate_right)
    | with_reducible assumption
    | with_reducible apply passGate_kept
    | with_reducible apply wrF_kept
    | with_reducible apply wbWrite_kept
    | with_reducible apply Kept.ite

theorem sleepLatch_kept {z0 d : Dev}  (hk0 : Kept z0 d) :
    Kept z0 (Dev.sleepLatch d) := by
  unfold Dev.sleepLatch
  repeat' first
    | (intro zz; refine Kept.have (x := zz) ?_ (fun _ => ?_); unfold zz; rotate_left; clear_value zz; rotate_right)
    | with_reducible assumption
    | with_reducible apply wbDrop_kept
    | with_reducible apply flag_kept
    | with_reducible apply setPwr_kept
    | with_reducible apply happen_kept
    | with_reducible apply Kept.ite

theorem sleepEnter_kept {z0 d : Dev} (hk0 : Kept z0 d) : Kept z0 (Dev.sleepEnter d) := by
  unfold Dev.sleepEnter
  split
  · exact hk0
  · have h : Kept z0 ((d.fForceAll (fun _ => true)).flush) := flush_kept (fForceAll_kept _ hk0)
    generalize (d.fForceAll (fun _ => true)).flush = e at h
    have k := setPwr_kept (fun p => { p with boot := 4, sleepMask := d.pwr.sleepMask }) (resetDie_kept true h)
    dsimp only
    generalize (e.resetDie true).setPwr (fun p => { p with boot := 4, sleepMask := d.pwr.sleepMask }) = x at k
    refine k.trans ?_
    exact ⟨rfl, Nat.le_refl _, Nat.le_max_left .., fun s => { s with }, id⟩

theorem wake_kept {z0 d : Dev} (source : BitVec 4) (hk0 : Kept z0 d) :
    Kept z0 (Dev.wake d source) := by
  unfold Dev.wake
  repeat' first
    | (intro zz; refine Kept.have (x := zz) ?_ (fun _ => ?_); unfold zz; rotate_left; clear_value zz; rotate_right)
    | with_reducible assumption
    | with_reducible apply setCause_kept
    | with_reducible apply setPwr_kept
    | with_reducible apply Kept.ite

theorem ejectChange_kept {z0 d : Dev} (on : Bool) (hk0 : Kept z0 d) :
    Kept z0 (Dev.ejectChange d on) := by
  unfold Dev.ejectChange
  repeat' first
    | (intro zz; refine Kept.have (x := zz) ?_ (fun _ => ?_); unfold zz; rotate_left; clear_value zz; rotate_right)
    | with_reducible assumption
    | with_reducible apply wrF_kept
    | with_reducible apply raiseOn_kept
    | with_reducible apply happenOn_kept

theorem ejectAssert_kept {z0 d : Dev}  (hk0 : Kept z0 d) :
    Kept z0 (Dev.ejectAssert d) := by
  unfold Dev.ejectAssert
  repeat' first
    | (intro zz; refine Kept.have (x := zz) ?_ (fun _ => ?_); unfold zz; rotate_left; clear_value zz; rotate_right)
    | with_reducible assumption
    | with_reducible apply ejectChange_kept
    | with_reducible apply writeThrough_kept
    | with_reducible apply setPair_kept
    | with_reducible apply ejectEffect_kept
    | with_reducible apply Kept.ite

theorem ejectRelease_kept {z0 d : Dev}  (hk0 : Kept z0 d) :
    Kept z0 (Dev.ejectRelease d) := by
  unfold Dev.ejectRelease
  repeat' first
    | (intro zz; refine Kept.have (x := zz) ?_ (fun _ => ?_); unfold zz; rotate_left; clear_value zz; rotate_right)
    | with_reducible assumption
    | with_reducible apply ejectChange_kept
    | with_reducible apply setPair_kept
    | with_reducible apply writeThrough_kept
    | with_reducible apply Kept.ite

theorem setLife_kept {z0 d : Dev} (n : Nat) (hk0 : Kept z0 d) :
    Kept z0 (Dev.setLife d n) := by
  unfold Dev.setLife
  repeat' first
    | with_reducible assumption
    | with_reducible apply wrF_kept
    | with_reducible apply raise_kept
    | split

theorem trng_kept {z0 d : Dev} (n : Nat) (hk0 : Kept z0 d) : Kept z0 (Dev.trng d n).2 := by
  induction n generalizing d with
  | zero => exact hk0
  | succ n ih => exact ih (freeVal_kept _ hk0)

theorem newNonce_kept {z0 d : Dev} (hk0 : Kept z0 d) : Kept z0 (Dev.newNonce d) := by
  unfold Dev.newNonce
  split
  · exact setVault_kept _ hk0 (fun _ => rfl) (fun _ h => h) (fun _ h => h)
  · exact Kept.foldl (setVault_kept _ (trng_kept _ hk0) (fun _ => rfl) (fun _ h => h) (fun _ h => h))
      (fun _ _ h => wr_kept _ _ h)

theorem ownShow_kept {z0 d : Dev}  (hk0 : Kept z0 d) :
    Kept z0 (Dev.ownShow d) := by
  unfold Dev.ownShow
  repeat' first
    | (intro zz; refine Kept.have (x := zz) ?_ (fun _ => ?_); unfold zz; rotate_left; clear_value zz; rotate_right)
    | with_reducible assumption
    | with_reducible apply wrFs_kept
    | with_reducible apply Kept.foldl
    | (intro _ _ _; show Kept _ _)

theorem security_kept {z0 d : Dev} (code : Nat) (data : List Byte) (hk0 : Kept z0 d) :
    Kept z0 (Dev.security d code data) := by
  unfold Dev.security
  repeat' first
    | with_reducible assumption
    | with_reducible apply happen_kept
    | split

theorem ownerAction_kept {z0 d : Dev} (s : Nat) (r : OwnRec) (hk0 : Kept z0 d) :
    Kept z0 (Dev.ownerAction d s r) := by
  unfold Dev.ownerAction
  repeat' first
    | (intro zz; refine Kept.have (x := zz) ?_ (fun _ => ?_); unfold zz; rotate_left; clear_value zz; rotate_right)
    | with_reducible assumption
    | with_reducible apply setVault_kept
    | with_reducible apply security_kept
    | with_reducible apply raiseIf_kept
    | with_reducible apply raise_kept
    | with_reducible apply Kept.ite
    | with_reducible exact fun _ => rfl
    | (intro x h; simpa using h; done)

theorem ownerActions_kept {z0 d : Dev} (img : Image) (hk0 : Kept z0 d) :
    Kept z0 (Dev.ownerActions d img) := by
  unfold Dev.ownerActions
  repeat' first
    | with_reducible assumption
    | with_reducible apply ownerAction_kept
    | with_reducible apply ownShow_kept
    | with_reducible apply Kept.foldl
    | (intro _ _ _; show Kept _ _)
    | split

theorem rejected_kept {z0 d : Dev} (r : Reject) (hk0 : Kept z0 d) :
    Kept z0 (Dev.rejected d r) := by
  unfold Dev.rejected
  repeat' first
    | with_reducible assumption
    | with_reducible apply flagEv_kept
    | with_reducible apply happen_kept

theorem reportStaging_kept {z0 d : Dev} (ready : Bool) (reason : Nat) (hk0 : Kept z0 d) :
    Kept z0 (Dev.reportStaging d ready reason) := by
  unfold Dev.reportStaging
  repeat' first
    | with_reducible assumption
    | with_reducible apply send63_kept
    | split

theorem imageVerified_kept {z0 d : Dev}  (hk0 : Kept z0 d) :
    Kept z0 (Dev.imageVerified d) := by
  unfold Dev.imageVerified
  repeat' first
    | (intro zz; refine Kept.have (x := zz) ?_ (fun _ => ?_); unfold zz; rotate_left; clear_value zz; rotate_right)
    | with_reducible assumption
    | with_reducible apply setImgSlot_kept
    | with_reducible apply wrFs_kept
    | with_reducible apply raise_kept
    | with_reducible apply happen_kept
    | with_reducible apply reportStaging_kept
    | with_reducible apply forwardStart_kept
    | with_reducible apply rejected_kept
    | with_reducible apply Kept.ite
    | (intro x h; simpa using h; done)
    | split

theorem peerReady_kept {z0 d : Dev} (ready : Bool) (hk0 : Kept z0 d) :
    Kept z0 (Dev.peerReady d ready) := by
  unfold Dev.peerReady
  repeat' first
    | with_reducible assumption
    | with_reducible apply wrF_kept
    | split

theorem stageClear_kept {z0 d : Dev}  (hk0 : Kept z0 d) :
    Kept z0 (Dev.stageClear d) := by
  unfold Dev.stageClear
  repeat' first
    | (intro zz; refine Kept.have (x := zz) ?_ (fun _ => ?_); unfold zz; rotate_left; clear_value zz; rotate_right)
    | with_reducible assumption
    | with_reducible apply swapAbandon_kept
    | with_reducible apply setImgSlot_kept
    | with_reducible apply wr_kept
    | with_reducible apply setVault_kept
    | with_reducible exact fun _ => rfl
    | (intro x h; simpa using h; done)
    | (intro _ _; exact rfl)

theorem abortBit_kept {z0 d : Dev}  (hk0 : Kept z0 d) :
    Kept z0 (Dev.abortBit d) := by
  unfold Dev.abortBit
  repeat' first
    | with_reducible assumption
    | with_reducible apply stageClear_kept
    | split

theorem abort_kept {z0 d : Dev} (sess : Nat) (hk0 : Kept z0 d) :
    Kept z0 (Dev.abort d sess) := by
  unfold Dev.abort
  repeat' first
    | (intro zz; refine Kept.have (x := zz) ?_ (fun _ => ?_); unfold zz; rotate_left; clear_value zz; rotate_right)
    | with_reducible assumption
    | with_reducible apply passGate_kept
    | with_reducible apply abortBit_kept
    | with_reducible apply Kept.ite

theorem bootnextBit_kept {z0 d : Dev}  (hk0 : Kept z0 d) :
    Kept z0 (Dev.bootnextBit d) := by
  unfold Dev.bootnextBit
  repeat' first
    | with_reducible assumption
    | with_reducible apply setVault_kept
    | with_reducible exact fun _ => rfl
    | (intro x h; simpa using h; done)
    | split

theorem bootnext_kept {z0 d : Dev} (sess : Nat) (hk0 : Kept z0 d) :
    Kept z0 (Dev.bootnext d sess) := by
  unfold Dev.bootnext
  repeat' first
    | (intro zz; refine Kept.have (x := zz) ?_ (fun _ => ?_); unfold zz; rotate_left; clear_value zz; rotate_right)
    | with_reducible assumption
    | with_reducible apply passGate_kept
    | with_reducible apply bootnextBit_kept
    | with_reducible apply Kept.ite

theorem imageBytes_kept {z0 d : Dev} (off : Nat) (bs : List Byte) (hk0 : Kept z0 d) :
    Kept z0 (Dev.imageBytes d off bs) := by
  unfold Dev.imageBytes
  repeat' first
    | (intro zz; refine Kept.have (x := zz) ?_ (fun _ => ?_); unfold zz; rotate_left; clear_value zz; rotate_right)
    | with_reducible assumption
    | with_reducible apply stageClear_kept
    | with_reducible apply wrF_kept
    | with_reducible apply setImgSlot_kept
    | with_reducible apply Kept.ite
    | (intro x h; simp [h, memWf_memWrite]; done)

theorem swapBit_kept {z0 d : Dev}  (hk0 : Kept z0 d) :
    Kept z0 (Dev.swapBit d) := by
  unfold Dev.swapBit
  repeat' first
    | (intro zz; refine Kept.have (x := zz) ?_ (fun _ => ?_); unfold zz; rotate_left; clear_value zz; rotate_right)
    | with_reducible assumption
    | with_reducible apply flag_kept
    | with_reducible apply setVault_kept
    | with_reducible apply Kept.ite
    | with_reducible exact fun _ => rfl
    | (intro x h; simpa using h; done)

theorem swap_kept {z0 d : Dev} (sess : Nat) (hk0 : Kept z0 d) :
    Kept z0 (Dev.swap d sess) := by
  unfold Dev.swap
  repeat' first
    | (intro zz; refine Kept.have (x := zz) ?_ (fun _ => ?_); unfold zz; rotate_left; clear_value zz; rotate_right)
    | with_reducible assumption
    | with_reducible apply passGate_kept
    | with_reducible apply swapBit_kept
    | with_reducible apply Kept.ite

theorem vltCmd_kept {z0 d : Dev} (sess : Nat) (v : Word) (hk0 : Kept z0 d) :
    Kept z0 (Dev.vltCmd d sess v) := by
  unfold Dev.vltCmd
  repeat' first
    | (intro zz; refine Kept.have (x := zz) ?_ (fun _ => ?_); unfold zz; rotate_left; clear_value zz; rotate_right)
    | with_reducible assumption
    | with_reducible apply passGate_kept
    | with_reducible apply swapBit_kept
    | with_reducible apply abortBit_kept
    | with_reducible apply bootnextBit_kept
    | with_reducible apply Kept.ite

theorem swapBegin_kept {z0 d : Dev}  (hk0 : Kept z0 d) :
    Kept z0 (Dev.swapBegin d) := by
  unfold Dev.swapBegin
  repeat' first
    | (intro zz; refine Kept.have (x := zz) ?_ (fun _ => ?_); unfold zz; rotate_left; clear_value zz; rotate_right)
    | with_reducible assumption
    | with_reducible apply wrF_kept
    | with_reducible apply setVault_kept
    | with_reducible apply send63_kept
    | with_reducible exact fun _ => rfl
    | (intro x h; simpa using h; done)
    | split

theorem swapNotice_kept {z0 d : Dev} (turn : Nat) (hash : List Byte) (hk0 : Kept z0 d) :
    Kept z0 (Dev.swapNotice d turn hash) := by
  unfold Dev.swapNotice
  repeat' first
    | (intro zz; refine Kept.have (x := zz) ?_ (fun _ => ?_); unfold zz; rotate_left; clear_value zz; rotate_right)
    | with_reducible assumption
    | with_reducible apply wrF_kept
    | with_reducible apply setVault_kept
    | with_reducible apply send63_kept
    | with_reducible apply Kept.ite
    | with_reducible exact fun _ => rfl
    | (intro x h; simpa using h; done)

theorem oldfsErase_kept {z0 d : Dev} (hk0 : Kept z0 d) : Kept z0 (Dev.oldfsErase d) := by
  have h := wrF_kept R.VLT_EPOCH F.VLT_EPOCH_OLD 0
    (setVault_kept (fun v => { v with oldTurns := 0 }) hk0 (fun _ => rfl) (fun _ h => h) (fun _ h => h))
  exact h.trans ⟨rfl, Nat.le_refl _, Nat.le_max_left .., fun s => { s with }, id⟩

theorem afterTake_kept {z0 d : Dev} (img : Image) (oldEpoch : Nat) (actions : Bool) (hk0 : Kept z0 d) :
    Kept z0 (let d := if d.vault.oldTurns = 0 then d.oldfsErase else d
      if actions ∧ img.keys.epoch ≠ oldEpoch then
        (d.security 0x0010 (leBytes 2 img.keys.epoch ++ leBytes 2 oldEpoch)).raise 228
      else d) := by
  have h : Kept z0 (if d.vault.oldTurns = 0 then d.oldfsErase else d) := by
    split
    · exact oldfsErase_kept hk0
    · exact hk0
  dsimp only
  split
  · exact raise_kept _ (security_kept _ _ h)
  · exact h

theorem vaultTakes_kept {z0 d : Dev} (img : Image) (oldEpoch : Nat) (actions : Bool) (hk0 : Kept z0 d) :
    Kept z0 (Dev.vaultTakes d img oldEpoch actions) := by
  have h : Kept z0 (if actions then d.ownerActions img else d) := by
    split
    · exact ownerActions_kept _ hk0
    · exact hk0
  exact afterTake_kept img oldEpoch actions
    (wr_kept _ _ (h.trans ⟨rfl, Nat.le_max_left .., Nat.le_max_left .., fun s => { s with }, id⟩))

theorem vaultTakes_counter (d : Dev) (img : Image) (oldEpoch : Nat) (actions : Bool) :
    img.head.version ≤ (Dev.vaultTakes d img oldEpoch actions).vault.counter := by
  have key : ∀ (x : Dev) (w : Word) (n : Nat), n ≤ x.vault.counter → n ≤ (let d := x.wr R.VLT_CTR w
      let d := if d.vault.oldTurns = 0 then d.oldfsErase else d
      if actions ∧ img.keys.epoch ≠ oldEpoch then
        (d.security 0x0010 (leBytes 2 img.keys.epoch ++ leBytes 2 oldEpoch)).raise 228
      else d).vault.counter :=
    fun x w n h => Nat.le_trans h (afterTake_kept img oldEpoch actions (wr_kept _ w (Kept.refl x))).counter
  exact key _ _ _ (Nat.le_max_right ..)

theorem swapNow_kept {z0 d : Dev} (w : Option Nat) (hk0 : Kept z0 d) : Kept z0 (Dev.swapNow d w) := by
  unfold Dev.swapNow
  dsimp only
  split
  · exact swapAbandon_kept hk0
  · next img _ =>
    obtain ⟨e, he, hk⟩ := applyImage_kept false img hk0
    have hg : Kept z0 (Dev.vaultTakes (d.applyImage false img) img d.image.keys.epoch true) :=
      Kept.swap img he (vaultTakes_kept _ _ _ hk) (vaultTakes_counter _ _ _ _)
    generalize Dev.vaultTakes (d.applyImage false img) img d.image.keys.epoch true = g at hg
    split
    · exact setVault_kept _ (wr_kept _ _ (wrF_kept _ _ _ hg)) (fun _ => rfl) (fun _ h => h) (fun _ h => h)
    · exact raise_kept _ (security_kept _ _ (wr_kept _ _ (setVault_kept _ (wr_kept _ _ (wrF_kept _ _ _ hg))
        (fun _ => rfl) (fun _ h => h) (fun _ h => h))))

theorem swapAt_kept {z0 d : Dev} (n : Nat) (hk0 : Kept z0 d) :
    Kept z0 (Dev.swapAt d n) := by
  unfold Dev.swapAt
  repeat' first
    | with_reducible assumption
    | with_reducible apply swapNow_kept
    | with_reducible apply swapAbandon_kept
    | split

theorem vaultResult_kept {z0 d : Dev} (ref : HostRef) (res : Nat) (hk0 : Kept z0 d) :
    Kept z0 (Dev.vaultResult d ref res) := by
  unfold Dev.vaultResult
  repeat' first
    | (intro zz; refine Kept.have (x := zz) ?_ (fun _ => ?_); unfold zz; rotate_left; clear_value zz; rotate_right)
    | with_reducible assumption
    | with_reducible apply raise_kept
    | exact rfl
    | (intro h; exact h)
    | with_reducible apply Kept.with

theorem vaultDenied_kept {z0 d : Dev} (ref : HostRef) (opc : Nat) (hk0 : Kept z0 d) :
    Kept z0 (Dev.vaultDenied d ref opc) := by
  unfold Dev.vaultDenied
  repeat' first
    | with_reducible assumption
    | with_reducible apply happen_kept

theorem attest_kept {z0 d : Dev} (ref : HostRef) (ok : Bool) (nonce : List Byte) (hk0 : Kept z0 d) :
    Kept z0 (Dev.attest d ref ok nonce) := by
  unfold Dev.attest
  repeat' first
    | (intro zz; refine Kept.have (x := zz) ?_ (fun _ => ?_); unfold zz; rotate_left; clear_value zz; rotate_right)
    | with_reducible assumption
    | with_reducible apply vaultDenied_kept
    | with_reducible apply vaultResult_kept
    | with_reducible apply push_kept
    | with_reducible apply raise_kept
    | with_reducible apply Kept.foldl
    | (intro _ _ _; show Kept _ _)
    | split

theorem noImage_kept {z0 d : Dev} (hk0 : Kept z0 d) : Kept z0 (Dev.noImage d) := by
  unfold Dev.noImage
  refine vltShow_kept (wrF_kept _ _ _ ?_)
  refine Kept.swap Image.empty ?_ (Kept.refl _) (Nat.zero_le _)
  refine setTurn_kept _ (fForceAll_kept _ ?_) (fun _ h => h)
  split
  · exact tokenLoss_kept hk0
  · exact setRole_kept _ hk0

theorem eraseImages_kept {z0 d : Dev} (hk0 : Kept z0 d) : Kept z0 (Dev.eraseImages d) := by
  unfold Dev.eraseImages
  refine setVault_kept _ (wr_kept _ _ (noImage_kept hk0)) (fun _ => rfl) (fun _ _ => rfl) (fun _ _ x hx => ?_)
  rw [List.eq_of_mem_replicate hx]
  rfl

theorem ownerReset_kept {z0 d : Dev}  (hk0 : Kept z0 d) :
    Kept z0 (Dev.ownerReset d) := by
  unfold Dev.ownerReset
  repeat' first
    | (intro zz; refine Kept.have (x := zz) ?_ (fun _ => ?_); unfold zz; rotate_left; clear_value zz; rotate_right)
    | with_reducible assumption
    | with_reducible apply eraseImages_kept
    | with_reducible apply setVault_kept
    | with_reducible apply ownShow_kept
    | with_reducible apply setLife_kept
    | with_reducible exact fun _ => rfl
    | (intro x h; simpa using h; done)

theorem owntoken_kept {z0 d : Dev} (ref : HostRef) (ok : Bool) (token : List Byte) (hk0 : Kept z0 d) :
    Kept z0 (Dev.owntoken d ref ok token) := by
  unfold Dev.owntoken
  repeat' first
    | (intro zz; refine Kept.have (x := zz) ?_ (fun _ => ?_); unfold zz; rotate_left; clear_value zz; rotate_right)
    | with_reducible assumption
    | with_reducible apply vaultDenied_kept
    | with_reducible apply happen_kept
    | with_reducible apply vaultResult_kept
    | with_reducible apply stageClear_kept
    | with_reducible apply ownerReset_kept
    | with_reducible apply setVault_kept
    | with_reducible apply newNonce_kept
    | with_reducible exact fun _ => rfl
    | (intro x h; simpa using h; done)
    | split

theorem decommission_kept {z0 d : Dev} (slot : Nat) (hk0 : Kept z0 d) :
    Kept z0 (Dev.decommission d slot) := by
  unfold Dev.decommission
  repeat' first
    | (intro zz; refine Kept.have (x := zz) ?_ (fun _ => ?_); unfold zz; rotate_left; clear_value zz; rotate_right)
    | with_reducible assumption
    | with_reducible apply acceptAll_kept
    | with_reducible apply flush_kept
    | with_reducible apply exportAll_kept
    | with_reducible apply jrnShow_kept
    | with_reducible apply setVault_kept
    | with_reducible apply eraseImages_kept
    | with_reducible apply setLife_kept
    | with_reducible exact fun _ => rfl
    | (intro x h; simpa using h; done)

theorem erase_kept {z0 d : Dev} (ref : HostRef) (ok : Bool) (hk0 : Kept z0 d) :
    Kept z0 (Dev.erase d ref ok) := by
  unfold Dev.erase
  repeat' first
    | with_reducible assumption
    | with_reducible apply vaultDenied_kept
    | with_reducible apply vaultResult_kept
    | with_reducible apply setVault_kept
    | with_reducible exact fun _ => rfl
    | (intro x h; simpa using h; done)
    | split

theorem genesis_kept {z0 d : Dev}  (hk0 : Kept z0 d) :
    Kept z0 (Dev.genesis d) := by
  unfold Dev.genesis
  repeat' first
    | (intro zz; refine Kept.have (x := zz) ?_ (fun _ => ?_); unfold zz; rotate_left; clear_value zz; rotate_right)
    | with_reducible assumption
    | with_reducible apply acceptAll_kept
    | with_reducible apply flush_kept
    | with_reducible apply jrnShow_kept

theorem eraseDone_kept {z0 d : Dev} (hk0 : Kept z0 d) : Kept z0 (Dev.eraseDone d) := by
  unfold Dev.eraseDone
  split
  · exact hk0
  · exact setLife_kept _ (ownShow_kept (genesis_kept (forgot_kept _ (setVault_kept _ (eraseImages_kept hk0)
      (fun _ => rfl) (fun _ h => h) (fun _ h => h)))))

theorem ownclrEnter_kept {z0 d : Dev}  (hk0 : Kept z0 d) :
    Kept z0 (Dev.ownclrEnter d) := by
  unfold Dev.ownclrEnter
  repeat' first
    | (intro zz; refine Kept.have (x := zz) ?_ (fun _ => ?_); unfold zz; rotate_left; clear_value zz; rotate_right)
    | with_reducible assumption
    | with_reducible apply jrnStart_kept
    | with_reducible apply setPwr_kept
    | with_reducible apply noImage_kept
    | with_reducible apply setVault_kept
    | with_reducible apply setLife_kept
    | with_reducible exact fun _ => rfl
    | (intro x h; simpa using h; done)
    | split

theorem ownclrTimeout_kept {z0 d : Dev}  (hk0 : Kept z0 d) :
    Kept z0 (Dev.ownclrTimeout d) := by
  unfold Dev.ownclrTimeout
  repeat' first
    | (intro zz; refine Kept.have (x := zz) ?_ (fun _ => ?_); unfold zz; rotate_left; clear_value zz; rotate_right)
    | with_reducible assumption
    | with_reducible apply setLife_kept
    | with_reducible apply setPwr_kept
    | split

theorem sessionLockEnd_kept {z0 d : Dev}  (hk0 : Kept z0 d) :
    Kept z0 (Dev.sessionLockEnd d) := by
  unfold Dev.sessionLockEnd
  repeat' first
    | with_reducible assumption
    | with_reducible apply wrF_kept
    | split

theorem oldfsExpire_kept {z0 d : Dev}  (hk0 : Kept z0 d) :
    Kept z0 (Dev.oldfsExpire d) := by
  unfold Dev.oldfsExpire
  repeat' first
    | with_reducible assumption
    | with_reducible apply oldfsErase_kept
    | split

theorem trngFault_kept {z0 d : Dev} (failing : Bool) (hk0 : Kept z0 d) :
    Kept z0 (Dev.trngFault d failing) := by
  unfold Dev.trngFault
  repeat' first
    | (intro zz; refine Kept.have (x := zz) ?_ (fun _ => ?_); unfold zz; rotate_left; clear_value zz; rotate_right)
    | with_reducible assumption
    | with_reducible apply wrF_kept
    | with_reducible apply raiseIf_kept

theorem swapSettled_kept {z0 d : Dev}  (hk0 : Kept z0 d) :
    Kept z0 (Dev.swapSettled d) := by
  unfold Dev.swapSettled
  repeat' first
    | with_reducible assumption
    | with_reducible apply setVault_kept
    | with_reducible exact fun _ => rfl
    | (intro x h; simpa using h; done)
    | split

theorem ordinaryTurn_kept {z0 d : Dev} (evalUs commitUs : Nat) (hk0 : Kept z0 d) :
    Kept z0 (Dev.ordinaryTurn d evalUs commitUs) := by
  unfold Dev.ordinaryTurn
  repeat' first
    | (intro zz; refine Kept.have (x := zz) ?_ (fun _ => ?_); unfold zz; rotate_left; clear_value zz; rotate_right)
    | with_reducible assumption
    | with_reducible apply swapSettled_kept
    | with_reducible apply swapAt_kept
    | with_reducible apply turnBegin_kept
    | with_reducible apply swapBegin_kept
    | with_reducible apply sleepLatch_kept
    | with_reducible apply setPair_kept
    | with_reducible apply ownLatch_kept

theorem decidingTurn_kept {z0 d : Dev} (evalUs commitUs : Nat) (hk0 : Kept z0 d) :
    Kept z0 (Dev.decidingTurn d evalUs commitUs) := by
  unfold Dev.decidingTurn
  repeat' first
    | (intro zz; refine Kept.have (x := zz) ?_ (fun _ => ?_); unfold zz; rotate_left; clear_value zz; rotate_right)
    | with_reducible assumption
    | with_reducible apply turnBegin_kept
    | with_reducible apply castlingDecide_kept
    | with_reducible apply ownLatch_kept
    | with_reducible apply Kept.ite

theorem holderLatch_kept {z0 d : Dev} (evalUs commitUs : Nat) (hk0 : Kept z0 d) :
    Kept z0 (Dev.holderLatch d evalUs commitUs) := by
  unfold Dev.holderLatch
  repeat' first
    | (intro zz; refine Kept.have (x := zz) ?_ (fun _ => ?_); unfold zz; rotate_left; clear_value zz; rotate_right)
    | with_reducible assumption
    | with_reducible apply commitDeadline_kept
    | with_reducible apply decommission_kept
    | with_reducible apply ordinaryTurn_kept
    | with_reducible apply turnBegin_kept
    | with_reducible apply setPair_kept
    | with_reducible apply decidingTurn_kept
    | exact rfl
    | (intro h; exact h)
    | split
    | with_reducible apply Kept.with

theorem aloneLatch_kept {z0 d : Dev}  (hk0 : Kept z0 d) :
    Kept z0 (Dev.aloneLatch d) := by
  unfold Dev.aloneLatch
  repeat' first
    | with_reducible assumption
    | with_reducible apply swapAt_kept
    | with_reducible apply agePeriod_kept
    | with_reducible apply hostWrites_kept
    | with_reducible apply periodStart_kept

theorem sampleLatch_kept {z0 d : Dev} (evalUs commitUs : Nat) (hk0 : Kept z0 d) :
    Kept z0 (Dev.sampleLatch d evalUs commitUs) := by
  unfold Dev.sampleLatch
  repeat' first
    | with_reducible assumption
    | with_reducible apply holderLatch_kept
    | with_reducible apply periodStart_kept
    | with_reducible apply decommission_kept
    | with_reducible apply aloneLatch_kept
    | with_reducible apply hostWrites_kept
    | split

theorem turnStart_kept {z0 d : Dev} (low : BitVec 16) (hk0 : Kept z0 d) :
    Kept z0 (Dev.turnStart d low) := by
  unfold Dev.turnStart
  repeat' first
    | (intro zz; refine Kept.have (x := zz) ?_ (fun _ => ?_); unfold zz; rotate_left; clear_value zz; rotate_right)
    | with_reducible assumption
    | with_reducible apply commitDeadline_kept
    | with_reducible apply swapAt_kept
    | with_reducible apply turnStartSet_kept
    | split

theorem swapLatch_kept {z0 d : Dev}  (hk0 : Kept z0 d) :
    Kept z0 (Dev.swapLatch d) := by
  unfold Dev.swapLatch
  repeat' first
    | (intro zz; refine Kept.have (x := zz) ?_ (fun _ => ?_); unfold zz; rotate_left; clear_value zz; rotate_right)
    | with_reducible assumption
    | with_reducible apply commitDeadline_kept
    | with_reducible apply swapAt_kept
    | with_reducible apply Kept.ite

theorem swapUndone_kept {z0 d : Dev}  (hk0 : Kept z0 d) :
    Kept z0 (Dev.swapUndone d) := by
  unfold Dev.swapUndone
  repeat' first
    | (intro zz; refine Kept.have (x := zz) ?_ (fun _ => ?_); unfold zz; rotate_left; clear_value zz; rotate_right)
    | with_reducible assumption
    | with_reducible apply setVault_kept
    | with_reducible apply wrF_kept
    | with_reducible apply Kept.ite
    | with_reducible exact fun _ => rfl
    | (intro x h; simpa using h; done)
    | split

theorem bootReject_kept {z0 d : Dev} (slot : Nat) (r : Reject) (hk0 : Kept z0 d) :
    Kept z0 (Dev.bootReject d slot r) := by
  unfold Dev.bootReject
  repeat' first
    | with_reducible assumption
    | with_reducible apply rejected_kept
    | split

theorem selectImage_kept {z0 d : Dev} (hk0 : Kept z0 d) : Kept z0 (Dev.selectImage d).2 := by
  have h : Kept z0 (d.setVault (fun v => { v with bootnext := false })) :=
    setVault_kept _ hk0 (fun _ => rfl) (fun _ h => h) (fun _ h => h)
  unfold Dev.selectImage
  dsimp only
  split
  · exact h
  · split
    · exact happen_kept _ (flag_kept _ _ (bootReject_kept _ _ h))
    · exact bootReject_kept _ _ (bootReject_kept _ _ h)

theorem enrol_kept {z0 d : Dev} (img : Image) (hk0 : Kept z0 d) :
    Kept z0 (Dev.enrol d img) := by
  unfold Dev.enrol
  repeat' first
    | (intro zz; refine Kept.have (x := zz) ?_ (fun _ => ?_); unfold zz; rotate_left; clear_value zz; rotate_right)
    | with_reducible assumption
    | with_reducible apply setLife_kept
    | with_reducible apply setJrn_kept
    | with_reducible apply happen_kept
    | with_reducible apply setVault_kept
    | with_reducible exact fun _ => rfl
    | exact rfl
    | (intro h; exact h)
    | (intro x h; simpa using h; done)
    | split
    | with_reducible apply Kept.with

theorem startImage_kept {z0 d : Dev} (slot : Nat) (img : Image) (hk0 : Kept z0 d) :
    Kept z0 (Dev.startImage d slot img) := by
  unfold Dev.startImage
  lift_lets
  intro fresh was d1 d2 d3
  have h1 : Kept z0 d1 := wrF_kept _ _ _ (wrF_kept _ _ _ hk0)
  have h2 : Kept z0 d2 := by
    unfold d2
    split
    · exact enrol_kept _ h1
    · exact h1
  have h3 : Kept z0 d3 := setImgSlot_kept _ _ h2 (fun _ h => h)
  obtain ⟨e, he, hk⟩ := applyImage_kept true img h3
  exact Kept.swap img he (vaultTakes_kept _ _ _ hk) (vaultTakes_counter _ _ _ _)

theorem turnResume_kept {z0 d : Dev}  (hk0 : Kept z0 d) :
    Kept z0 (Dev.turnResume d) := by
  unfold Dev.turnResume
  repeat' first
    | (intro zz; refine Kept.have (x := zz) ?_ (fun _ => ?_); unfold zz; rotate_left; clear_value zz; rotate_right)
    | with_reducible assumption
    | with_reducible apply setTurn_kept
    | with_reducible apply wr_kept
    | (intro x h; simpa using h; done)

theorem startThrough_kept {z0 d : Dev}  (hk0 : Kept z0 d) :
    Kept z0 (Dev.startThrough d) := by
  unfold Dev.startThrough
  repeat' first
    | with_reducible assumption
    | with_reducible apply writeThrough_kept
    | split

theorem startRole_kept {z0 d : Dev}  (hk0 : Kept z0 d) :
    Kept z0 (Dev.startRole d) := by
  unfold Dev.startRole
  repeat' first
    | (intro zz; refine Kept.have (x := zz) ?_ (fun _ => ?_); unfold zz; rotate_left; clear_value zz; rotate_right)
    | with_reducible assumption
    | with_reducible apply setTurn_kept
    | with_reducible apply setRole_kept
    | with_reducible apply holderStart_kept
    | with_reducible apply setPair_kept
    | with_reducible apply Kept.ite
    | (intro x h; simpa using h; done)

theorem startSteps_kept {z0 d : Dev}  (hk0 : Kept z0 d) :
    Kept z0 (Dev.startSteps d) := by
  unfold Dev.startSteps
  repeat' first
    | (intro zz; refine Kept.have (x := zz) ?_ (fun _ => ?_); unfold zz; rotate_left; clear_value zz; rotate_right)
    | with_reducible assumption
    | with_reducible apply setLife_kept
    | with_reducible apply happen_kept
    | with_reducible apply newNonce_kept
    | with_reducible apply swapUndone_kept
    | with_reducible apply selectImage_kept
    | with_reducible apply jrnStart_kept
    | with_reducible apply turnResume_kept
    | with_reducible apply domStart_kept
    | with_reducible apply wrF_kept
    | with_reducible apply startThrough_kept
    | with_reducible apply startImage_kept
    | with_reducible apply marksStart_kept
    | with_reducible apply startRole_kept
    | lift_lets
    | split

theorem startUp_kept {z0 d : Dev}  (hk0 : Kept z0 d) :
    Kept z0 (Dev.startUp d) := by
  unfold Dev.startUp
  repeat' first
    | (intro zz; refine Kept.have (x := zz) ?_ (fun _ => ?_); unfold zz; rotate_left; clear_value zz; rotate_right)
    | with_reducible assumption
    | with_reducible apply setPwr_kept
    | with_reducible apply setWtc_kept
    | with_reducible apply wrF_kept
    | with_reducible apply startSteps_kept
    | with_reducible apply Kept.ite
    | (intro x h; simpa using h; done)

theorem becomeActive_kept {z0 d : Dev}  (hk0 : Kept z0 d) :
    Kept z0 (Dev.becomeActive d) := by
  unfold Dev.becomeActive
  repeat' first
    | (intro zz; refine Kept.have (x := zz) ?_ (fun _ => ?_); unfold zz; rotate_left; clear_value zz; rotate_right)
    | with_reducible assumption
    | with_reducible apply setTurn_kept
    | with_reducible apply wrFs_kept
    | with_reducible apply setRole_kept
    | with_reducible apply setPair_kept
    | with_reducible apply holderStart_kept
    | (intro x h; simpa using h; done)

theorem claimLost_kept {z0 d : Dev}  (hk0 : Kept z0 d) :
    Kept z0 (Dev.claimLost d) := by
  unfold Dev.claimLost
  repeat' first
    | with_reducible assumption
    | with_reducible apply setPair_kept
    | with_reducible apply toRejoin_kept

theorem startClaim_kept {z0 d : Dev} (lineFree idHigh : Bool) (peerNext : BitVec 48) (hk0 : Kept z0 d) :
    Kept z0 (Dev.startClaim d lineFree idHigh peerNext) := by
  unfold Dev.startClaim
  repeat' first
    | (intro zz; refine Kept.have (x := zz) ?_ (fun _ => ?_); unfold zz; rotate_left; clear_value zz; rotate_right)
    | with_reducible assumption
    | with_reducible apply wrFs_kept
    | with_reducible apply claimLost_kept
    | with_reducible apply becomeActive_kept
    | with_reducible apply Kept.ite

theorem authFail_kept {z0 d : Dev}  (hk0 : Kept z0 d) :
    Kept z0 (Dev.authFail d) := by
  unfold Dev.authFail
  repeat' first
    | (intro zz; refine Kept.have (x := zz) ?_ (fun _ => ?_); unfold zz; rotate_left; clear_value zz; rotate_right)
    | with_reducible assumption
    | with_reducible apply linkGone_kept
    | with_reducible apply flagEv_kept
    | with_reducible apply setPair_kept
    | with_reducible apply rejoinFailed_kept
    | with_reducible apply Kept.ite

theorem linkTrained_kept {z0 d : Dev} (lanes : Nat) (cert : List Byte) (hk0 : Kept z0 d) :
    Kept z0 (Dev.linkTrained d lanes cert) := by
  unfold Dev.linkTrained
  repeat' first
    | (intro zz; refine Kept.have (x := zz) ?_ (fun _ => ?_); unfold zz; rotate_left; clear_value zz; rotate_right)
    | with_reducible assumption
    | with_reducible apply wrFs_kept
    | with_reducible apply setPair_kept
    | with_reducible apply raise_kept
    | with_reducible apply formPair_kept
    | with_reducible apply wrF_kept
    | with_reducible apply toRejoin_kept
    | with_reducible apply Kept.ite

theorem linkTrainingDone_kept {z0 d : Dev} (lanes : BitVec 2) (auth : List Byte) (hk0 : Kept z0 d) :
    Kept z0 (Dev.linkTrainingDone d lanes auth) := by
  unfold Dev.linkTrainingDone
  repeat' first
    | (intro zz; refine Kept.have (x := zz) ?_ (fun _ => ?_); unfold zz; rotate_left; clear_value zz; rotate_right)
    | with_reducible assumption
    | with_reducible apply trng_kept
    | with_reducible apply authFail_kept
    | with_reducible apply linkTrained_kept
    | with_reducible apply wrF_kept
    | with_reducible apply setPair_kept
    | with_reducible apply forwardStart_kept
    | with_reducible apply Kept.ite

theorem adopt_kept {z0 d : Dev} (want : List Byte) (hk0 : Kept z0 d) :
    Kept z0 (Dev.adopt d want) := by
  unfold Dev.adopt
  repeat' first
    | with_reducible assumption
    | with_reducible apply authFail_kept
    | with_reducible apply swapNow_kept
    | with_reducible apply setPair_kept
    | split

theorem imageJudged_kept {z0 d : Dev}  (hk0 : Kept z0 d) :
    Kept z0 (Dev.imageJudged d) := by
  unfold Dev.imageJudged
  repeat' first
    | (intro zz; refine Kept.have (x := zz) ?_ (fun _ => ?_); unfold zz; rotate_left; clear_value zz; rotate_right)
    | with_reducible assumption
    | with_reducible apply imageVerified_kept
    | with_reducible apply adopt_kept
    | exact rfl
    | (intro h; exact h)
    | split
    | with_reducible apply Kept.with

theorem linkBlock_kept {z0 d : Dev} (q : Nat) (seq : BitVec 16) (crcOk : Bool) (bytes : List Byte) (ack : Option (BitVec 16)) (hk0 : Kept z0 d) :
    Kept z0 (Dev.linkBlock d q seq crcOk bytes ack) := by
  unfold Dev.linkBlock
  repeat' first
    | (intro zz; refine Kept.have (x := zz) ?_ (fun _ => ?_); unfold zz; rotate_left; clear_value zz; rotate_right)
    | with_reducible assumption
    | with_reducible apply blockReceived_kept
    | with_reducible apply imageBytes_kept
    | with_reducible apply Kept.ite

end Sys2Proof.Machine
end

