-- ==== Sys2Proof/Laws/KeptCommands.lean ====
section
/-!
SUPPORT. What the operations of the focused evaluation rows and the host port keep.
-/
namespace Sys2Proof.Machine

theorem evalPart_kept {z0 d : Dev} (part : EvalState → EvalState → EvalState) (hk0 : Kept z0 d) :
    Kept z0 (Dev.evalPart d part) := by
  unfold Dev.evalPart
  repeat' first
    | (intro zz; refine Kept.have (x := zz) ?_ (fun _ => ?_); unfold zz; rotate_left; clear_value zz; rotate_right)
    | with_reducible assumption
    | with_reducible apply setRun_kept
    | with_reducible apply setTurn_kept
    | (intro x h; simpa using h; done)
    | split

theorem alarmDelay_kept {z0 d : Dev} (p k : Nat) (hk0 : Kept z0 d) :
    Kept z0 (Dev.alarmDelay d p k) := by
  unfold Dev.alarmDelay
  repeat' first
    | with_reducible assumption
    | with_reducible apply evalPart_kept

theorem rateWindow_kept {z0 d : Dev} (p : Nat) (hk0 : Kept z0 d) :
    Kept z0 (Dev.rateWindow d p) := by
  unfold Dev.rateWindow
  repeat' first
    | with_reducible assumption
    | with_reducible apply evalPart_kept

theorem hostPointStale_kept {z0 d : Dev} (h : Nat) (hk0 : Kept z0 d) :
    Kept z0 (Dev.hostPointStale d h) := by
  unfold Dev.hostPointStale
  repeat' first
    | with_reducible assumption
    | with_reducible apply evalPart_kept

theorem timerExpire_kept {z0 d : Dev} (t : Nat) (hk0 : Kept z0 d) :
    Kept z0 (Dev.timerExpire d t) := by
  unfold Dev.timerExpire
  repeat' first
    | with_reducible assumption
    | with_reducible apply evalPart_kept

theorem chainDue_kept {z0 d : Dev} (c : Nat) (hk0 : Kept z0 d) :
    Kept z0 (Dev.chainDue d c) := by
  unfold Dev.chainDue
  repeat' first
    | with_reducible assumption
    | with_reducible apply evalPart_kept

theorem watchDue_kept {z0 d : Dev}  (hk0 : Kept z0 d) :
    Kept z0 (Dev.watchDue d) := by
  unfold Dev.watchDue
  repeat' first
    | with_reducible assumption
    | with_reducible apply evalPart_kept

theorem stationPress_kept {z0 d : Dev} (k : Nat) (hk0 : Kept z0 d) :
    Kept z0 (Dev.stationPress d k) := by
  unfold Dev.stationPress
  repeat' first
    | (intro zz; refine Kept.have (x := zz) ?_ (fun _ => ?_); unfold zz; rotate_left; clear_value zz; rotate_right)
    | with_reducible assumption
    | with_reducible apply evalPart_kept

theorem dutySwitchAct_kept {z0 d : Dev}  (hk0 : Kept z0 d) :
    Kept z0 (Dev.dutySwitchAct d) := by
  unfold Dev.dutySwitchAct
  repeat' first
    | with_reducible assumption
    | with_reducible apply evalPart_kept

theorem dutyScheduleAct_kept {z0 d : Dev}  (hk0 : Kept z0 d) :
    Kept z0 (Dev.dutyScheduleAct d) := by
  unfold Dev.dutyScheduleAct
  repeat' first
    | with_reducible assumption
    | with_reducible apply evalPart_kept

theorem openGate_kept {z0 d : Dev} (sess : Nat) (hk0 : Kept z0 d) :
    Kept z0 (Dev.openGate d sess) := by
  unfold Dev.openGate
  repeat' first
    | with_reducible assumption
    | with_reducible apply wrF_kept
    | exact rfl
    | (intro h; exact h)
    | with_reducible apply Kept.with

theorem keyWrite_kept {z0 d : Dev} (sess : Nat) (key : BitVec 16) (hk0 : Kept z0 d) :
    Kept z0 (Dev.keyWrite d sess key) := by
  unfold Dev.keyWrite
  repeat' first
    | with_reducible assumption
    | with_reducible apply openGate_kept
    | with_reducible apply closeGate_kept
    | split

theorem keyTimeout_kept {z0 d : Dev}  (hk0 : Kept z0 d) :
    Kept z0 (Dev.keyTimeout d) := by
  unfold Dev.keyTimeout
  repeat' first
    | with_reducible assumption
    | with_reducible apply closeGate_kept
    | split

theorem sqWrite_kept {z0 d : Dev} (a : Nat) (v : Word) (same : Bool) (hk0 : Kept z0 d) :
    Kept z0 (Dev.sqWrite d a v same) := by
  unfold Dev.sqWrite
  repeat' first
    | with_reducible assumption
    | with_reducible apply clearFlags_kept
    | split

theorem evClear_kept {z0 d : Dev} (m : Nat) (v same : Word) (hk0 : Kept z0 d) :
    Kept z0 (Dev.evClear d m v same) := by
  unfold Dev.evClear
  repeat' first
    | (intro zz; refine Kept.have (x := zz) ?_ (fun _ => ?_); unfold zz; rotate_left; clear_value zz; rotate_right)
    | with_reducible assumption
    | with_reducible apply wr_kept
    | with_reducible apply setCounts_kept

theorem latecntClr_kept {z0 d : Dev}  (hk0 : Kept z0 d) :
    Kept z0 (Dev.latecntClr d) := by
  unfold Dev.latecntClr
  repeat' first
    | with_reducible assumption
    | with_reducible apply wrF_kept

theorem jumpClr_kept {z0 d : Dev} (b : Nat) (hk0 : Kept z0 d) :
    Kept z0 (Dev.jumpClr d b) := by
  unfold Dev.jumpClr
  repeat' first
    | with_reducible assumption
    | with_reducible apply wrF_kept

theorem gatedBit_kept {z0 d : Dev} (sess a : Nat) (on : Bool) (act : Dev → Dev) (hk0 : Kept z0 d)
    (h : ∀ d, Kept z0 d → Kept z0 (act d)) : Kept z0 (Dev.gatedBit d sess a on act) := by
  unfold Dev.gatedBit
  split
  · exact h _ hk0
  · exact passGate_kept _ _ hk0

theorem osetWrite_kept {z0 d : Dev} (sess n : Nat) (v : BitVec 15) (hk0 : Kept z0 d) :
    Kept z0 (Dev.osetWrite d sess n v) := by
  unfold Dev.osetWrite
  repeat' first
    | with_reducible assumption
    | with_reducible apply wbWrite_kept

theorem qRangeWrite_kept {z0 d : Dev} (sess n : Nat) (v : Word) (hk0 : Kept z0 d) :
    Kept z0 (Dev.qRangeWrite d sess n v) := by
  unfold Dev.qRangeWrite
  repeat' first
    | with_reducible assumption
    | with_reducible apply wbWrite_kept

theorem sleepWrite_kept {z0 d : Dev} (sess : Nat) (v : Word) (hk0 : Kept z0 d) :
    Kept z0 (Dev.sleepWrite d sess v) := by
  unfold Dev.sleepWrite
  repeat' first
    | (intro zz; refine Kept.have (x := zz) ?_ (fun _ => ?_); unfold zz; rotate_left; clear_value zz; rotate_right)
    | with_reducible assumption
    | with_reducible apply sleepRequest_kept
    | with_reducible apply passGate_kept
    | with_reducible apply wrF_kept
    | with_reducible apply Kept.ite

theorem writeFunc_kept {z0 d : Dev} (sess a : Nat) (v : Word) (hk0 : Kept z0 d) :
    ∀ e, Dev.writeFunc d sess a v = some e → Kept z0 e := by
  intro e he
  obtain ⟨f, _, rfl⟩ := Option.map_eq_some_iff.mp he
  exact fEnWrite_kept _ _ _ _ hk0

theorem writeSys_kept {z0 d : Dev} (sess a : Nat) (v : Word) (hk0 : Kept z0 d) :
    ∀ e, Dev.writeSys d sess a v = some e → Kept z0 e := by
  intro e he
  unfold Dev.writeSys at he
  repeat' split at he
  all_goals first
    | (obtain rfl := Option.some.inj he
       repeat' first
         | with_reducible assumption
         | with_reducible apply keyWrite_kept
         | with_reducible apply timingmaxClr_kept
         | with_reducible apply promocntClr_kept
         | with_reducible apply latecntClr_kept
         | with_reducible apply evClear_kept
         | with_reducible apply wrF_kept
         | with_reducible apply evtOn_kept
         | split)
    | (obtain ⟨_, _, rfl⟩ := Option.map_eq_some_iff.mp he
       first
         | exact jumpClr_kept _ hk0
         | exact hk0)
    | skip

theorem writeChan_kept {z0 d : Dev} (sess a : Nat) (v : Word) (hk0 : Kept z0 d) :
    ∀ e, Dev.writeChan d sess a v = some e → Kept z0 e := by
  intro e he
  unfold Dev.writeChan at he
  repeat' split at he
  all_goals first
    | (obtain rfl := Option.some.inj he
       first
         | with_reducible exact uDiagRequest_kept _ _ hk0
         | with_reducible exact qRangeWrite_kept _ _ _ hk0
         | with_reducible exact xTrimWrite_kept _ _ hk0
         | with_reducible exact osetWrite_kept _ _ _ hk0
         | with_reducible exact hostsetWrite_kept _ _ _ hk0)
    | exact absurd he (by simp)

theorem writeUnit_kept {z0 d : Dev} (sess a : Nat) (v : Word) (hk0 : Kept z0 d) :
    ∀ e, Dev.writeUnit d sess a v = some e → Kept z0 e := by
  intro e he
  unfold Dev.writeUnit at he
  repeat' split at he
  all_goals first
    | (obtain rfl := Option.some.inj he
       repeat' first
         | with_reducible assumption
         | with_reducible apply poolClr_kept
         | with_reducible apply holdcntClr_kept
         | with_reducible apply expackWrite_kept
         | with_reducible apply gatedBit_kept
         | with_reducible apply handover_kept
         | with_reducible apply vltCmd_kept
         | with_reducible apply combClr_kept
         | with_reducible apply hostReset_kept
         | with_reducible apply sleepWrite_kept
         | with_reducible apply rxUnlock_kept
         | (intro _ _; show Kept _ _)
         | split)
    | (obtain ⟨_, _, rfl⟩ := Option.map_eq_some_iff.mp he
       exact txCancel_kept _ _ _ hk0)
    | skip

theorem writeDome_kept {z0 d : Dev} (sess a : Nat) (v : Word) (hk0 : Kept z0 d) :
    ∀ e, Dev.writeDome d sess a v = some e → Kept z0 e := by
  intro e he
  unfold Dev.writeDome at he
  repeat' split at he
  all_goals first
    | (obtain rfl := Option.some.inj he
       repeat' first
         | with_reducible assumption
         | with_reducible apply domZoneWrite_kept
         | with_reducible apply domZcmd_kept
         | with_reducible apply domShift_kept
         | with_reducible apply domSet_kept
         | with_reducible apply domCapture_kept
         | split)
    | (obtain ⟨_, _, rfl⟩ := Option.map_eq_some_iff.mp he
       exact domArm_kept _ _ hk0)
    | skip

theorem writeWord_kept {z0 d : Dev} (sess a : Nat) (v : Word) (hk0 : Kept z0 d) :
    ∀ e, Dev.writeWord d sess a v = some e → Kept z0 e := by
  intro e he
  have hor : ∀ o p : Option Dev, (∀ e, o = some e → Kept z0 e) → (∀ e, p = some e → Kept z0 e) →
      ∀ e, o.or p = some e → Kept z0 e := by
    intro o p ho hp e he
    cases o with
    | none => exact hp e he
    | some x => exact ho e he
  unfold Dev.writeWord at he
  split at he
  · exact absurd he (by simp)
  · split at he
    · exact absurd he (by simp)
    · obtain rfl := Option.some.inj he
      have h := hor _ _ (hor _ _ (hor _ _ (hor _ _ (writeFunc_kept sess a v hk0) (writeSys_kept sess a v hk0))
        (writeChan_kept sess a v hk0)) (writeUnit_kept sess a v hk0)) (writeDome_kept sess a v hk0)
      revert h
      generalize Option.or _ (Dev.writeDome d sess a v) = o
      intro h
      cases o with
      | some x => exact h x rfl
      | none =>
        show Kept z0 (if _ then _ else _)
        split
        · exact clearFlags_kept _ _ _ hk0
        · exact wr_kept _ _ hk0

theorem writeWords_kept {z0 d : Dev} (sess a : Nat) (l : List Word) (hk0 : Kept z0 d) :
    Kept z0 (Dev.writeWords d sess a l).1 := by
  induction l generalizing d a with
  | nil => exact hk0
  | cons v vs ih =>
    unfold Dev.writeWords
    split
    · exact hk0
    · split
      · exact hk0
      · next e he => exact ih _ (writeWord_kept _ _ _ hk0 e he)

theorem readBefore_kept {z0 d : Dev} (a : Nat) (hk0 : Kept z0 d) :
    Kept z0 (Dev.readBefore d a) := by
  unfold Dev.readBefore
  repeat' first
    | with_reducible assumption
    | with_reducible apply turnnumLoRead_kept
    | with_reducible apply headLoRead_kept
    | with_reducible apply wmarkLoRead_kept
    | with_reducible apply ckptLoRead_kept
    | with_reducible apply domTickRead_kept
    | with_reducible apply markLoRead_kept
    | with_reducible apply rxLock_kept
    | split

theorem readAfter_kept {z0 d : Dev} (a : Nat) (hk0 : Kept z0 d) :
    Kept z0 (Dev.readAfter d a) := by
  unfold Dev.readAfter
  repeat' first
    | with_reducible assumption
    | with_reducible apply rxRelease_kept
    | split

theorem readReg_kept {z0 d : Dev} (a : Nat) (hk0 : Kept z0 d) : Kept z0 (Dev.readReg d a).2 := by
  have key : ∀ {d : Dev}, Kept z0 d → ∀ x ∈ Dev.measuredWord d a, Kept z0 x.2 := by
    intro d hk0 x hx
    replace hx : Dev.measuredWord d a = some x := hx
    unfold Dev.measuredWord at hx
    dsimp only at hx
    split at hx
    · obtain rfl := Option.some.inj hx
      exact freeVal_kept 32 hk0
    · split at hx
      · obtain rfl := Option.some.inj hx
        exact wrFs_kept _ _ (freeVal_kept 15 (freeVal_kept 15 hk0))
      · split at hx
        · obtain rfl := Option.some.inj hx
          exact wrFs_kept _ _ (freeVal_kept 16 (freeVal_kept 16 hk0))
        · split at hx
          · obtain rfl := Option.some.inj hx
            exact freeVal_kept 1 hk0
          · obtain ⟨_, _, rfl⟩ := Option.map_eq_some_iff.mp hx
            exact freeVal_kept 7 hk0
  unfold Dev.readReg
  have h := readBefore_kept a hk0
  dsimp only
  split
  · next x hx => exact key h x hx
  · exact readAfter_kept a h

theorem readWord_kept {z0 d : Dev} (a : Nat) (hk0 : Kept z0 d) :
    Kept z0 (Dev.readWord d a).2 := by
  unfold Dev.readWord
  repeat' first
    | (intro zz; refine Kept.have (x := zz) ?_ (fun _ => ?_); unfold zz; rotate_left; clear_value zz; rotate_right)
    | with_reducible assumption
    | with_reducible apply readReg_kept
    | split

theorem readWords_kept {z0 d : Dev} (a n : Nat) (hk0 : Kept z0 d) : Kept z0 (Dev.readWords d a n).2 := by
  induction n generalizing d a with
  | zero => exact hk0
  | succ n ih => exact ih _ (readWord_kept _ hk0)

theorem showSess_kept {z0 d : Dev} (i : Nat) (hk0 : Kept z0 d) :
    Kept z0 (Dev.showSess d i) := by
  unfold Dev.showSess
  repeat' first
    | (intro zz; refine Kept.have (x := zz) ?_ (fun _ => ?_); unfold zz; rotate_left; clear_value zz; rotate_right)
    | with_reducible assumption
    | with_reducible apply wr_kept
    | with_reducible apply wrF_kept
    | split

theorem setSess_kept {z0 d : Dev} (i : Nat) (f : Session → Session) (hk0 : Kept z0 d) :
    Kept z0 (Dev.setSess d i f) := by
  unfold Dev.setSess
  repeat' first
    | with_reducible assumption
    | with_reducible apply setHost_kept
    | with_reducible apply showSess_kept
    | (intro x h; simpa using h; done)

theorem noteStatus_kept {z0 d : Dev} (status : Nat) (r : Req) (hk0 : Kept z0 d) :
    Kept z0 (Dev.noteStatus d status r) := by
  unfold Dev.noteStatus
  repeat' first
    | (intro zz; refine Kept.have (x := zz) ?_ (fun _ => ?_); unfold zz; rotate_left; clear_value zz; rotate_right)
    | with_reducible assumption
    | with_reducible apply incF_kept
    | with_reducible apply flagEv_kept
    | with_reducible apply wr_kept
    | split

theorem answerBare_kept {z0 d : Dev} (r : Req) (status : Nat) (payload : List Byte) (hk0 : Kept z0 d) :
    Kept z0 (Dev.answerBare d r status payload) := by
  unfold Dev.answerBare
  repeat' first
    | with_reducible assumption
    | with_reducible apply noteStatus_kept
    | with_reducible apply setHost_kept
    | (intro x h; simpa using h; done)

theorem answer_kept {z0 d : Dev} (i : Nat) (r : Req) (status : Nat) (payload : List Byte) (result : Nat) (hk0 : Kept z0 d) :
    Kept z0 (Dev.answer d i r status payload result) := by
  unfold Dev.answer
  repeat' first
    | (intro zz; refine Kept.have (x := zz) ?_ (fun _ => ?_); unfold zz; rotate_left; clear_value zz; rotate_right)
    | with_reducible assumption
    | with_reducible apply noteStatus_kept
    | with_reducible apply setSess_kept
    | with_reducible apply setHost_kept
    | (intro x h; simpa using h; done)
    | split

theorem request_kept {z0 d : Dev} (frame : List Byte) (opc : Nat → Bool) (act : Dev → Nat → Req → Dev) (hk0 : Kept z0 d)
    (h : ∀ d i r, Kept z0 d → Kept z0 (act d i r)) : Kept z0 (Dev.request d frame opc act) := by
  unfold Dev.request
  split
  · exact hk0
  · split
    · exact hk0
    · split
      · exact hk0
      · dsimp only
        split
        · exact answerBare_kept _ _ _ (setHost_kept _ hk0 (fun _ h => h))
        · split
          · exact answerBare_kept _ _ _ (setHost_kept _ hk0 (fun _ h => h))
          · exact h _ _ _ (setSess_kept _ _ (setHost_kept _ hk0 (fun _ h => h)))

theorem requestOpen_kept {z0 d : Dev} (frame : List Byte) (opc : Nat) (act : Dev → Req → Dev) (hk0 : Kept z0 d)
    (h : ∀ d r, Kept z0 d → Kept z0 (act d r)) : Kept z0 (Dev.requestOpen d frame opc act) := by
  unfold Dev.requestOpen
  split
  · exact hk0
  · split
    · exact hk0
    · split
      · exact hk0
      · split
        · exact answerBare_kept _ _ _ (setHost_kept _ hk0 (fun _ h => h))
        · exact h _ _ (setHost_kept _ hk0 (fun _ h => h))

theorem open1_kept {z0 d : Dev} (r : Req) (hk0 : Kept z0 d) :
    Kept z0 (Dev.open1 d r) := by
  unfold Dev.open1
  repeat' first
    | (intro zz; refine Kept.have (x := zz) ?_ (fun _ => ?_); unfold zz; rotate_left; clear_value zz; rotate_right)
    | with_reducible assumption
    | with_reducible apply answerBare_kept
    | with_reducible apply trng_kept
    | with_reducible apply setSess_kept
    | with_reducible apply answer_kept
    | with_reducible apply setHost_kept
    | with_reducible apply Kept.ite
    | (intro x h; simpa using h; done)
    | split

theorem openFailed_kept {z0 d : Dev} (r : Req) (key cause : Nat) (hk0 : Kept z0 d) :
    Kept z0 (Dev.openFailed d r key cause) := by
  unfold Dev.openFailed
  repeat' first
    | (intro zz; refine Kept.have (x := zz) ?_ (fun _ => ?_); unfold zz; rotate_left; clear_value zz; rotate_right)
    | with_reducible assumption
    | with_reducible apply setHost_kept
    | with_reducible apply wrF_kept
    | with_reducible apply happen_kept
    | with_reducible apply raise_kept
    | with_reducible apply incF_kept
    | with_reducible apply answerBare_kept
    | (intro x h; simpa using h; done)
    | split

theorem open2_kept {z0 d : Dev} (r : Req) (hk0 : Kept z0 d) :
    Kept z0 (Dev.open2 d r) := by
  unfold Dev.open2
  repeat' first
    | (intro zz; refine Kept.have (x := zz) ?_ (fun _ => ?_); unfold zz; rotate_left; clear_value zz; rotate_right)
    | with_reducible assumption
    | with_reducible apply answerBare_kept
    | with_reducible apply openFailed_kept
    | with_reducible apply setHost_kept
    | with_reducible apply setSess_kept
    | with_reducible apply happen_kept
    | with_reducible apply answer_kept
    | with_reducible apply Kept.ite
    | (intro x h; simpa using h; done)
    | split

theorem closeSess_kept {z0 d : Dev} (i : Nat) (r : Req) (hk0 : Kept z0 d) :
    Kept z0 (Dev.closeSess d i r) := by
  unfold Dev.closeSess
  repeat' first
    | with_reducible assumption
    | with_reducible apply answer_kept
    | with_reducible apply setSess_kept

theorem portRead_kept {z0 d : Dev} (i : Nat) (r : Req) (hk0 : Kept z0 d) :
    Kept z0 (Dev.portRead d i r) := by
  unfold Dev.portRead
  repeat' first
    | (intro zz; refine Kept.have (x := zz) ?_ (fun _ => ?_); unfold zz; rotate_left; clear_value zz; rotate_right)
    | with_reducible assumption
    | with_reducible apply answer_kept
    | with_reducible apply readWords_kept
    | split

theorem portWrite_kept {z0 d : Dev} (i : Nat) (r : Req) (hk0 : Kept z0 d) : Kept z0 (Dev.portWrite d i r) := by
  unfold Dev.portWrite
  dsimp only
  repeat' first
    | with_reducible apply answer_kept
    | exact hk0
    | exact writeWords_kept _ _ _ hk0
    | split

theorem vaultCommand_kept {z0 d : Dev} (ref : HostRef) (ok : Bool) (opc : Nat) (args : List Byte) (hk0 : Kept z0 d) :
    Kept z0 (Dev.vaultCommand d ref ok opc args) := by
  unfold Dev.vaultCommand
  repeat' first
    | with_reducible assumption
    | with_reducible apply attest_kept
    | with_reducible apply owntoken_kept
    | with_reducible apply erase_kept
    | split

theorem portCmd_kept {z0 d : Dev} (i : Nat) (r : Req) (hk0 : Kept z0 d) :
    Kept z0 (Dev.portCmd d i r) := by
  unfold Dev.portCmd
  repeat' first
    | (intro zz; refine Kept.have (x := zz) ?_ (fun _ => ?_); unfold zz; rotate_left; clear_value zz; rotate_right)
    | with_reducible assumption
    | with_reducible apply answer_kept
    | with_reducible apply vaultCommand_kept
    | with_reducible apply incF_kept
    | with_reducible apply refuse_kept
    | with_reducible apply setQueue_kept
    | with_reducible apply Kept.ite
    | split

theorem portPoll_kept {z0 d : Dev} (i : Nat) (r : Req) (hk0 : Kept z0 d) :
    Kept z0 (Dev.portPoll d i r) := by
  unfold Dev.portPoll
  repeat' first
    | with_reducible assumption
    | with_reducible apply answer_kept
    | split

theorem portQueue_kept {z0 d : Dev} (i : Nat) (r : Req) (act : Dev → List QElem → Dev) (hk0 : Kept z0 d)
    (h : ∀ d l, Kept z0 d → Kept z0 (act d l)) : Kept z0 (Dev.portQueue d i r act) := by
  unfold Dev.portQueue
  repeat' first
    | with_reducible apply answer_kept
    | exact h _ _ hk0
    | split
  all_goals exact hk0

theorem portPeek_kept {z0 d : Dev} (i : Nat) (r : Req) (hk0 : Kept z0 d) :
    Kept z0 (Dev.portPeek d i r) := by
  unfold Dev.portPeek
  repeat' first
    | with_reducible assumption
    | with_reducible apply portQueue_kept
    | with_reducible apply answer_kept
    | (intro _ _ _; show Kept _ _)

theorem portPop_kept {z0 d : Dev} (i : Nat) (r : Req) (hk0 : Kept z0 d) :
    Kept z0 (Dev.portPop d i r) := by
  unfold Dev.portPop
  repeat' first
    | (intro zz; refine Kept.have (x := zz) ?_ (fun _ => ?_); unfold zz; rotate_left; clear_value zz; rotate_right)
    | with_reducible assumption
    | with_reducible apply portQueue_kept
    | with_reducible apply pop_kept
    | with_reducible apply answer_kept
    | with_reducible apply Kept.foldl
    | (intro _ _ _; show Kept _ _)

theorem portImage_kept {z0 d : Dev} (i : Nat) (r : Req) (hk0 : Kept z0 d) :
    Kept z0 (Dev.portImage d i r) := by
  unfold Dev.portImage
  repeat' first
    | with_reducible assumption
    | with_reducible apply answer_kept
    | with_reducible apply imageBytes_kept
    | split

theorem opCommand_kept {z0 d : Dev} (src : CmdSrc) (opc : Nat) (args : List Byte) (hk0 : Kept z0 d) :
    Kept z0 (Dev.opCommand d src opc args) := by
  unfold Dev.opCommand
  repeat' first
    | with_reducible assumption
    | with_reducible apply arrive_kept
    | split

theorem hostOpen1_kept {z0 d : Dev} (f : List Byte) (hk0 : Kept z0 d) :
    Kept z0 (Dev.hostOpen1 d f) := by
  unfold Dev.hostOpen1
  repeat' first
    | with_reducible assumption
    | with_reducible apply requestOpen_kept
    | with_reducible apply open1_kept

theorem hostOpen2_kept {z0 d : Dev} (f : List Byte) (hk0 : Kept z0 d) :
    Kept z0 (Dev.hostOpen2 d f) := by
  unfold Dev.hostOpen2
  repeat' first
    | with_reducible assumption
    | with_reducible apply requestOpen_kept
    | with_reducible apply open2_kept

theorem hostClose_kept {z0 d : Dev} (f : List Byte) (hk0 : Kept z0 d) :
    Kept z0 (Dev.hostClose d f) := by
  unfold Dev.hostClose
  repeat' first
    | with_reducible assumption
    | with_reducible apply request_kept
    | with_reducible apply closeSess_kept

theorem hostRead_kept {z0 d : Dev} (f : List Byte) (hk0 : Kept z0 d) :
    Kept z0 (Dev.hostRead d f) := by
  unfold Dev.hostRead
  repeat' first
    | with_reducible assumption
    | with_reducible apply request_kept
    | with_reducible apply portRead_kept

theorem hostWrite_kept {z0 d : Dev} (f : List Byte) (hk0 : Kept z0 d) :
    Kept z0 (Dev.hostWrite d f) := by
  unfold Dev.hostWrite
  repeat' first
    | with_reducible assumption
    | with_reducible apply request_kept
    | with_reducible apply portWrite_kept

theorem hostCmd_kept {z0 d : Dev} (f : List Byte) (hk0 : Kept z0 d) :
    Kept z0 (Dev.hostCmd d f) := by
  unfold Dev.hostCmd
  repeat' first
    | with_reducible assumption
    | with_reducible apply request_kept
    | with_reducible apply portCmd_kept

theorem hostPoll_kept {z0 d : Dev} (f : List Byte) (hk0 : Kept z0 d) :
    Kept z0 (Dev.hostPoll d f) := by
  unfold Dev.hostPoll
  repeat' first
    | with_reducible assumption
    | with_reducible apply request_kept
    | with_reducible apply portPoll_kept

theorem hostPeek_kept {z0 d : Dev} (f : List Byte) (hk0 : Kept z0 d) :
    Kept z0 (Dev.hostPeek d f) := by
  unfold Dev.hostPeek
  repeat' first
    | with_reducible assumption
    | with_reducible apply request_kept
    | with_reducible apply portPeek_kept

theorem hostPop_kept {z0 d : Dev} (f : List Byte) (hk0 : Kept z0 d) :
    Kept z0 (Dev.hostPop d f) := by
  unfold Dev.hostPop
  repeat' first
    | with_reducible assumption
    | with_reducible apply request_kept
    | with_reducible apply portPop_kept

theorem hostImage_kept {z0 d : Dev} (f : List Byte) (hk0 : Kept z0 d) :
    Kept z0 (Dev.hostImage d f) := by
  unfold Dev.hostImage
  repeat' first
    | with_reducible assumption
    | with_reducible apply request_kept
    | with_reducible apply portImage_kept

theorem hostBadOpc_kept {z0 d : Dev} (f : List Byte) (hk0 : Kept z0 d) :
    Kept z0 (Dev.hostBadOpc d f) := by
  unfold Dev.hostBadOpc
  repeat' first
    | with_reducible assumption
    | with_reducible apply request_kept
    | with_reducible apply answer_kept
    | (intro _ _ _ _; show Kept _ _)

theorem hostAbort_kept {z0 d : Dev} (afterCrc : Bool) (hk0 : Kept z0 d) :
    Kept z0 (Dev.hostAbort d afterCrc) := by
  unfold Dev.hostAbort
  repeat' first
    | with_reducible assumption
    | with_reducible apply setHost_kept
    | (intro x h; simpa using h; done)
    | split

end Sys2Proof.Machine
end

