-- ==== Sys2Proof/Tests/Slice0.lean ====
section
/-!
SUPPORT. Tests: ill-formed commands that the check refuses; single steps whose results are worked out from the spec's
words; and for every statement a state and operands that meet its hypotheses, clause by clause.
-/
namespace Sys2Proof.Tests

set_option maxRecDepth 100000

open Sys2Proof Sys2Proof.Machine

/-! Small devices -/

/-- A device that has started, without an image. -/
def up : Dev := { Dev.reset with clk := 1000000000, pwr := { Dev.reset.pwr with boot := 3 } }

/-- The same in a role (R346): 1 solo, 2 active, 3 standby, 4 rejoining. -/
def inRole (r : Nat) : Dev := up.wrF R.PAR_ROLE F.PAR_ROLE_ROLE r

/-- A device with the key gate open for session 3. -/
def gated (d : Dev) : Dev := { d with gate := some ⟨3, d.clk⟩ }

/-- A solo device whose turns run, 100 µs into turn 41, with no turn in hand. -/
def solo : Dev :=
  { inRole 1 with turn := { up.turn with starts := true, number := 41, since := up.clk - 40000 } }

/-- A pair device in a role whose turns run. -/
def paired (r ls : Nat) : Dev :=
  let d := (inRole r).wrF R.PAR_LNKSTAT F.PAR_LNKSTAT_LSTATE ls
  { d with turn := { up.turn with starts := true, number := 41, since := up.clk - 40000 },
           image := { Image.empty with pair := { Image.empty.pair with mode := 1 } } }

/-- An active with a standby in service. -/
def withPeer : Dev := (paired 2 5).wrF R.PAR_ROLE F.PAR_ROLE_PEERUP 1

/-- A turn in hand, in a phase. -/
def turnIn (d : Dev) (p : Phase) : TurnRun :=
  ⟨p, d.inputImage [], EvalState.empty, Acc.nil, 0, false, ⟨[], [], [], 0, false, false⟩, [], [], 10, 10, false,
    false, d.turn.cur, d.turn.view, 0⟩

/-- The device with a turn in hand. -/
def having (d : Dev) (r : TurnRun) : Dev := { d with turn := { d.turn with run := some r } }

/-- The device with an element in a queue. -/
def queued (d : Dev) (q : Nat) (bytes : List Byte) : Dev :=
  d.setQueue q [⟨bytes, 41, 0, none, none, true⟩]

/-- The device with one schedule entry on PB0 for an action, a target and an argument; another only as a fallback entry. -/
def sched (d : Dev) (act target arg : Nat) : Dev :=
  { d with image := { d.image with schd := [⟨false, act, 0, 0, arg, target, 0, 0⟩] } }

/-- A state without waiting commands. -/
def st (d : Dev) : State := ⟨d, []⟩

/-- The device that a command leaves. -/
def after (c : Instr) (d : Dev) : Dev :=
  match exec c (st d) with
  | .next t => t.dev
  | _ => d

/-! Ill-formed commands (WellFormed.lean), one for each check -/

theorem test_wf_frame : Instr.wf (.canFrameReceived 0 0 false ⟨5, false, false, false, List.replicate 9 0⟩) = false ∧
    Instr.wf (.canFrameReceived 0 0 false ⟨5, true, false, false, List.replicate 9 0⟩) = false ∧
    Instr.wf (.canFrameReceived 0 0 false ⟨5, false, true, false, []⟩) = false ∧
    Instr.wf (.canFrameReceived 0 0 false ⟨5, true, true, true, []⟩) = false ∧
    Instr.wf (.canFrameReceived 0 0 false ⟨5, true, true, false, List.replicate 12 0⟩) = true := by decide
theorem test_wf_session : Instr.wf (.keygateOpen 8) = false ∧ Instr.wf (.keygateOpen 254) = false ∧
    Instr.wf (.keygateOpen 255) = true ∧ Instr.wf (.swap 7) = true := by decide
theorem test_wf_hostRef : Instr.wf (.erase ⟨3, 1, 8⟩ true) = false ∧ Instr.wf (.erase ⟨9, 1, 0⟩ true) = false := by decide
theorem test_wf_source : Instr.wf (.ack (.can 4 1 0 0) 0 0) = false ∧ Instr.wf (.ack (.can 0 1 0 65536) 0 0) = false ∧
    Instr.wf (.ack (.host ⟨0, 1, 8⟩ true) 0 0) = false ∧ Instr.wf (.ack .belfry 0 0) = true := by decide
theorem test_wf_sampleTarget : Instr.wf (.sample 48 0 false) = false ∧ Instr.wf (.sample 76 0 false) = false ∧
    Instr.wf (.sample 47 0 false) = true ∧ Instr.wf (.sample 64 0 false) = true := by decide
theorem test_wf_clockWindow : Instr.wf (.clockWindow 1 2) = false ∧ Instr.wf (.clockWindow 3 2) = true := by decide
theorem test_wf_standstill : Instr.wf (.standstillTimeout 0) = false ∧ Instr.wf (.standstillTimeout 3) = true := by decide
theorem test_wf_alignment : Instr.wf (.sqClear 6 ⟨0, false⟩) = false ∧ Instr.wf (.sqClear 8 ⟨0, true⟩) = true := by decide
theorem test_wf_hartLength : Instr.wf (.hartcmd ⟨0, 1, 0⟩ true 0 (List.replicate 253 0)) = false := by decide
theorem test_wf_canLength : Instr.wf (.canframe ⟨0, 1, 0⟩ true 0 0 0 (List.replicate 65 0)) = false := by decide
theorem test_wf_nonce : Instr.wf (.attest ⟨0, 1, 0⟩ true []) = false ∧
    Instr.wf (.owntoken ⟨0, 1, 0⟩ true (List.replicate 119 0)) = false := by decide
theorem test_wf_drivePeriod : Instr.wf (.drivePeriodEnd 0 [] 0 0 0 0) = false := by decide
theorem test_wf_peerMessages : Instr.wf (.roleMsg (List.replicate 65 0)) = false ∧
    Instr.wf (.happenMsg 1 (List.replicate 33 0)) = false ∧
    Instr.wf (.linkBlockReceived 1 0 true (List.replicate 65 0) none) = false ∧
    Instr.wf (.commitend 0 [[0]] []) = false ∧ Instr.wf (.rejoinCutover 0 0 []) = false ∧
    Instr.wf (.swapNotice 0 [1]) = false := by decide
theorem test_wf_feedElement : Instr.wf (.feedElement [1]) = true := by decide
theorem test_wf_feedRange : Instr.wf (.feedRangeChange false false true true) = false ∧
    Instr.wf (.feedRangeChange false true true false) = false ∧
    Instr.wf (.feedRangeChange false true false false) = true := by decide
theorem test_wf_wake : Instr.wf (.wake 0) = false := by decide
theorem test_table_gives_no_bits : decodeTableWord 0 0 = none ∧ State.reset.withFetchWord 16 0 = State.reset :=
  ⟨rfl, rfl⟩

/-! Witnesses: for every statement with hypotheses, states and operands that meet them, clause by clause -/

theorem witness_StepRunsTheFrontCommand :
    (⟨up, [.capture, .emit]⟩ : State).pending = .capture :: [.emit] ∧ (st up).pending = [] ∧
    (up.dom.slewDue = false ∧ up.engine.1 = [] ∧ ({ up with dom := { up.dom with slewDue := true } } : Dev).dom.slewDue = true) ∧
    (let d := { up with phs := { up.phs with due := [⟨0, ⟨false, 0, 0, 0, 0, 0, 0, 0⟩, false, false, up.clk, false⟩] } }
     d.engine.1 ≠ []) := by decide

theorem witness_DownDeviceDoesNothing : actsWhileDown .capture = false ∧ actsWhileDown .emit = false ∧
    State.reset.dev.pwr.boot = 0 ∧ actsWhileDown (.uinClamp 0) = true ∧ (after .powerGood Dev.reset).pwr.boot = 2 := by decide

theorem witness_KeyGateRules : up.pwr.boot = 3 ∧ gatedWrite (.swap 3) = some (3, R.VLT_CMD) ∧
    (∀ g, up.gate = some g → g.opener ≠ 3) ∧ gatedWrite (.xchEnWrite 4 7 ⟨true, false⟩) = some (4, R.XCH_CTRL 7) ∧
    (∀ g, (gated up).gate = some g → g.opener ≠ 4) ∧ up.gate = none ∧ (gated up).GateFor 3 ∧
    (0 : BitVec 16) ≠ 0xB71E ∧ (⟨3, up.clk - 400000⟩ : KeyGate).since + 400000 ≤ up.clk ∧
    (gated up).gate = some ⟨3, up.clk⟩ ∧ (⟨3, up.clk⟩ : KeyGate).opener ≠ 0xFF ∧
    gatedWrite (.sleepRequest 3 15) = some (3, R.PWR_SLEEP) := by
  repeat' first | decide | exact ⟨_, rfl⟩ | (intro g h; cases h; decide) | constructor

theorem witness_FlagsAndTheirClearing : (0 < 24 ∧ 23 < 24) ∧ up.pwr.boot = 3 ∧
    (findRow R.SYS_GUARD).isSome = true ∧ (findRow R.DOM_STAT).isSome = true ∧ 7 < 8 := by decide

theorem witness_RaisingAnEvent : 255 < 256 ∧ up.queues.q.length = 64 ∧ (up.raise 255).evPending 255 = true ∧
    up.evPending 0 = false ∧ up.rdF (R.HST_EVCFG 0) F.HST_EVCFG_QUE = 0 ∧ 255 ∉ up.queues.counts ∧
    (let d := (up.wrF (R.HST_EVCFG 255) F.HST_EVCFG_QUE 1).raise 255
     d.evPending 255 = true ∧ 255 ∈ d.queues.counts ∧ (d.queue 49).length = 1 ∧
     (d.queue 49).map (fun e => byteAt e.bytes 0) = [255]) ∧
    (up.wrF (R.HST_EVCFG 255) F.HST_EVCFG_QUE 1).evPending 255 = false ∧
    (up.wrF (R.HST_EVCFG 255) F.HST_EVCFG_QUE 1).rdF (R.HST_EVCFG 255) F.HST_EVCFG_QUE = 1 ∧
    (up.queue 49).length < 1536 := by decide

/-- Queue 56 holds its depth of elements. -/
def full56 : Dev := up.setQueue 56 (List.replicate (queueDepth 56) ⟨[], 41, 0, none, none, true⟩)

theorem witness_QueuePush : queueDepth 56 ≤ (full56.queue 56).length ∧ (up.queue 0).length < queueDepth 0 ∧
    (up.queue 63).length < queueDepth 63 ∧ 63 < 64 ∧ up.queues.q.length = 64 := by decide

/-- The head of Q48 has waited past its age limit. -/
def oldHead : Dev := { queued up 48 [] with clk := 10000000000000 }

theorem witness_GrantAndPromotion : (((queued up 48 []).nextGrant (BitVec.ofNat 64 (2 ^ 48))).1 = some 48 ∧
    ((queued up 55 []).nextGrant (BitVec.ofNat 64 (2 ^ 55))).1 = some 55) ∧ (48 ≤ 55 ∧ 55 < 56) ∧
    oldHead.overAge 48 = true ∧ 48 ∉ oldHead.queues.promo ∧ up.overAge 0 = false := by decide

/-- A driven excitation channel, the gate open. -/
def xch0 : Dev := { gated (inRole 1) with image := { Image.empty with xccf := [{ XcRec.empty with drven := true }] } }

theorem witness_FunctionSequences : xch0.pwr.boot = 3 ∧ xch0.GateFor 3 ∧
    xch0.closeGate.fForced (.xch 0) = false ∧ xch0.closeGate.fExists (.xch 0) = true ∧ xch0.fState (.xch 0) = 0 ∧
    (xch0.wrF (R.XCH_CTRL 0) F.XCH_CTRL_STATE 1).fState (.xch 0) = 1 ∧
    (xch0.wrF (R.XCH_CTRL 0) F.XCH_CTRL_STATE 2).fState (.xch 0) = 2 ∧
    (xch0.wrF (R.XCH_CTRL 0) F.XCH_CTRL_STATE 3).fState (.xch 0) = 3 ∧
    (xch0.wrF (R.XCH_CTRL 0) F.XCH_CTRL_STATE 3).rdF (Func.xch 0).reg ⟨31, 1⟩ = 0 ∧
    ((xch0.wrF (R.XCH_CTRL 0) F.XCH_CTRL_STATE 3).wrF (R.XCH_CTRL 0) ⟨31, 1⟩ 1).rdF (Func.xch 0).reg ⟨31, 1⟩ = 1 ∧
    ((xch0.wrF (R.XCH_CTRL 0) F.XCH_CTRL_STATE 3).wrF (R.XCH_CTRL 0) ⟨31, 1⟩ 1).fState (.xch 0) = 3 ∧
    (xch0.wrF R.PWR_STAT F.PWR_STAT_PFW 1).closeGate.fForced (.xch 0) = true := by
  repeat' first | decide | exact ⟨_, rfl⟩ | constructor

theorem witness_SampleLatchBeginsTheTurn : solo.pwr.boot = 3 ∧ soloBetweenTurns solo ∧ 64 < 65 := by
  unfold soloBetweenTurns; decide

theorem witness_OverrunTurnDiscardsItsWork :
    (having solo (turnIn solo .evaluating)).turn.run = some (turnIn solo .evaluating) ∧
    (turnIn solo .evaluating).phase = .evaluating ∧ (turnIn solo .committing).phase = .committing ∧
    solo.turn.overruns = 0 ∧ solo.wtc.counted = 0 ∧ (turnIn withPeer .waiting).phase = .waiting ∧ (turnIn withPeer .waiting).acked = false ∧
    (let d := { withPeer with image := { withPeer.image with phsb := { withPeer.image.phsb with emit := 200 } } }
     (turnIn d .waiting).commitUs ≤ d.commitLimit ∧ d.pair.lostNow = false ∧ d.peerUp = true) ∧
    (having withPeer (turnIn withPeer .waiting)).role = 2 ∧
    ({ withPeer with pair := { withPeer.pair with lostNow := true } } : Dev).pair.lostNow = true := by decide

theorem witness_EmissionsAtEmit : (∀ r, up.turn.run = some r → r.phase ≠ .completed ∨ r.emitted = true) ∧
    (having solo (turnIn solo .completed)).turn.run = some (turnIn solo .completed) ∧
    (turnIn solo .completed).phase = .completed ∧ (turnIn solo .completed).emitted = false := by
  repeat' first | decide | exact rfl | (intro r h; cases h; done) | constructor

/-- A device in whose last window a clock domain was outside its limit. -/
def oneBad (k : Nat) : Dev := { up with turn := { up.turn with clkRuns := up.turn.clkRuns.set k 1 } }

theorem witness_TimingAndClockMonitor : up.pwr.boot = 3 ∧
    ({ up with turn := { up.turn with clrMax := true } } : Dev).turn.clrMax = true ∧ (0 < 11 ∧ 10 < 11 ∧ 10 ≠ 9) ∧
    up.turn.clkRuns.length = 11 ∧ (oneBad 0).turn.clkRuns[0]? = some 1 ∧ (oneBad 10).turn.clkRuns[10]? = some 1 ∧
    (oneBad 0).turn.clkRuns.length = 11 ∧ up.turn.clkRuns[10]? = some 0 := by decide

/-- A device with one base on input 5 and rising-edge inputs, 10 ns of noise filter. -/
def bases (st : Nat) : Dev :=
  { up with clk := 800000000, image := { Image.empty with phsb := { Image.empty.phsb with
              bases := [{ BaseRec.empty with kind := 1, tpin := 5, ipin := 0xFF }, BaseRec.empty, BaseRec.empty]
              inputs := List.replicate 6 ⟨2, 0, 0⟩ } },
            phs := { up.phs with bases := List.replicate 3 { Base.empty with state := st },
                                 lastEdge := List.replicate 6 none, lastPeak := List.replicate 6 4000 } }

theorem witness_EdgesAndLateEntries : ((bases 0).image.phsb.inputs[5]? = some ⟨2, 0, 0⟩ ∧ (false = true ∨ true = true)) ∧
    ((⟨2, 0, 0⟩ : AngleRec).mode = 2 ∧ (⟨1, 0, 0⟩ : AngleRec).mode = 1 ∧ (⟨0, 0, 0⟩ : AngleRec).mode = 0) ∧
    (¬ ReachesLevel (bases 0) 5 ⟨1, 0, 0⟩ 999 ∧ ReachesLevel (bases 0) 5 ⟨1, 50, 0⟩ 1000 ∧
      ¬ ReachesLevel (bases 0) 5 ⟨3, 50, 0⟩ 999 ∧ (bases 0).phs.lastPeak.length = 6) ∧
    (∃ l, ([some 99999996] : List (Option Nat))[0]? = some (some l) ∧ sinceEdge (bases 0) l < 5 * 1) ∧
    ((sched up 0 0 0).entryRuns 0 0 none none = true ∧ up.entryRuns 0 0 none none = false) ∧
    ((bases 0).phs.bases.length = 3 ∧ (bases 0).phs.lastEdge[5]? = some none ∧ ((bases 0).baseRec 1).kind ≠ 0 ∧
      ((bases 0).baseRec 2).kind = 0 ∧ ((bases 0).baseRec 3).kind = 0 ∧ ((bases 0).baseRec 1).tpin = 5 ∧
      ((bases 0).baseRec 1).ipin ≠ 5 ∧ ((bases 0).base 1).state = 0) ∧
    (((bases 1).base 1).state = 1 ∧ ((bases 2).base 3).state = 2 ∧ ((bases 1).base 1).lost = false) := by
  refine ⟨by decide, by decide, ⟨?_, ?_, ?_, by decide⟩, ⟨99999996, by decide⟩, by decide, by decide, by decide⟩
  all_goals simp [ReachesLevel, bases]

theorem witness_BaseCounts : (Base.empty.hold = false ∧ Base.empty.acc = Base.empty.ph ∧ Base.empty.acc < 2 ^ 32 ∧
    Base.empty.limit < 2 ^ 32 ∧ Base.empty.acc = Base.empty.limit ∧
    2 ≤ ({ Base.empty with state := 3 } : Base).state ∧ Base.empty.state < 2 ∧
    ({ Base.empty with limit := 8 } : Base).acc ≠ 8 ∧ ahead 8 ({ Base.empty with limit := 8 } : Base).acc = true) ∧
    (let d := { up with image := { Image.empty with phsb := { Image.empty.phsb with tlen := 100 } } }
     0 < d.image.phsb.tlen ∧ d.turn.since ≤ d.clk) := by decide

/-- Converter 0 in a phase of a step of a kind for channel 11, START from its schedule entry or AUTO. -/
def scan (phase kind : Nat) (entry : Bool) (f : UScan → UScan) : Dev :=
  { up with image := { Image.empty with uicf := { Image.empty.uicf with
              chans := List.replicate 48 { UiChan.empty with mode := 3 }
              convs := List.replicate 4 ⟨2, 2, 0, List.replicate 2 ⟨kind, entry, 0, 0, 11⟩⟩ } },
            uin := { up.uin with scans := (List.replicate 4 UScan.empty).set 0 (f { UScan.empty with phase := phase }) } }

theorem witness_ScanEntries : uinShape (scan 0 0 true id) ∧
    (sched (scan 0 0 true id) 7 96 255).entryRuns 7 (96 + (0 : Fin 4).val) (some (0xFF : BitVec 8).toNat) none = true ∧
    (scan 0 0 true id).entryRuns 7 (96 + (0 : Fin 4).val) (some (0xFF : BitVec 8).toNat) none = false ∧
    (sched (scan 0 0 true id) 1 11 0).entryRuns 1 11 none none = true ∧
    (scan 0 0 true id).entryRuns 1 11 none none = false ∧ (scan 1 0 true id).uSettling 0 = true ∧
    (scan 1 0 true (fun x => { x with since := up.clk - 799 })).uSettling 0 = false ∧ ((scan 0 0 true id).uconv 0).mode = 2 ∧
    ((scan 0 0 true id).scan 0).phase = 0 ∧ ((scan 2 0 true id).scan 0).phase = 2 ∧
    ((scan 5 0 true id).scan 0).phase = 5 ∧ ((scan 0 0 true id).uconv 3).mode = 2 ∧
    (11 / 12 = 0 ∧ 11 < 48 ∧ 47 / 12 = 3 ∧ 47 < 48) ∧ (stepNow (scan 1 0 true id) 0).kind = 0 ∧
    (stepNow (scan 1 0 true id) 0).entryStart = true ∧ (stepNow (scan 1 0 true id) 0).chan = 11 ∧
    ((scan 1 0 true id).scan 0).phase = 1 ∧ (stepNow (scan 1 0 false id) 0).entryStart = false ∧
    ((scan 1 0 false id).scan 0).phase = 1 ∧
    ¬ ((stepNow (scan 0 0 true id) 0).kind = 0 ∧ (stepNow (scan 0 0 true id) 0).entryStart = true ∧
      (stepNow (scan 0 0 true id) 0).chan = 11 ∧
      ((scan 0 0 true id).uSettling 0 = true ∨ ((scan 0 0 true id).scan 0).phase = 2)) := by
  unfold uinShape; decide

theorem witness_PostcheckReleases :
    (let d := scan 5 0 true id
     uinShape d ∧ (d.scan 0).phase = 5 ∧ (stepNow d 0).kind = 0 ∧ (stepNow d 0).chan = 11 ∧ (d.scan 0).diag = false ∧
     (d.uconv 0).mode = 2 ∧ (d.scan 0).step + 1 ≠ (d.uconv 0).len ∧ (d.scan 0).drop = false ∧
     d.uCheck 0 11 0 0 = 0 ∧ (d.urec 11).mode = 3 ∧
     (d.setUch 11 (fun c => { c with clamp := true })).uCheck 0 11 0 0 ≠ 0) ∧
    ((scan 5 0 true (fun x => { x with drop := true })).scan 0).drop = true := by
  unfold uinShape; decide

theorem witness_ScanConversions : uinShape (scan 3 0 true id) ∧ ((scan 3 0 true id).scan 0).phase = 3 ∧
    (stepNow (scan 3 0 true id) 0).kind ≠ 2 ∧ ((scan 4 0 true id).scan 0).phase = 4 ∧
    (stepNow (scan 3 2 true id) 0).kind = 2 ∧ ((scan 3 2 true id).uconv 0).mode = 2 ∧
    ((scan 3 2 true id).scan 0).step + 1 ≠ ((scan 3 2 true id).uconv 0).len ∧
    ((scan 3 0 true (fun x => { x with refBad := true })).scan 0).refBad = true ∧
    ((scan 3 0 true id).uin.chans.getD 11 UChan.empty).clamp = false := by
  unfold uinShape; decide

theorem witness_ClampAndDiagnosticRequest : (Dev.reset.pwr.boot = 0 ∧ (after .powerGood Dev.reset).pwr.boot = 2) ∧
    (((up.setUch 47 (fun c => { c with clamp := true })).uin.chans.getD 47 UChan.empty).clamp = true) ∧
    up.uConverting 47 = false ∧ up.wbWord (R.UIN_DIAG 47) = none ∧ up.rdF (R.UIN_DIAG 47) ⟨31, 1⟩ = 0 ∧
    (scan 3 0 true id).uConverting 11 = true ∧ (scan 3 0 true id).rdF (R.UIN_DIAG 11) F.UIN_DIAG_REQ = 0 := by decide

/-- Charge channel 0 powered, with windows 0 (ACQ) and 1 (QUIET), base 0 or TIME mode. -/
def charge (time : Bool) (f : QChan → QChan) : Dev :=
  let r : QcRec := { QcRec.empty with acq := { QcRec.empty.acq with pwren := true, timeMode := time, wkind := [1, 2, 0, 0, 0, 0, 0, 0] } }
  let d := { inRole 1 with image := { Image.empty with qccf := ⟨List.replicate 12 r, []⟩ } }
  (d.wrF (R.QCH_PWR 0) F.QCH_PWR_STATE 2).setQc 0 f

/-- A schedule with each kind of entry for charge channel 0, on PB0, and as a fallback entry of a base in fallback. -/
def entries (d : Dev) : Dev :=
  { d with image := { d.image with schd := ([2, 3, 4, 5, 6].map (fun a => ⟨false, a, 0, 0, 0, 64, 0, 0⟩)) ++
             [⟨true, 4, 1, 0, 0, 64, 1, 0⟩] }
           phs := { d.phs with bases := [{ Base.empty with fallback := true }] } }

theorem witness_WindowActions : up.qch.chans.length = 12 ∧ up.qOn 11 = false ∧ (charge false id).qOn 0 = true ∧
    (entries (charge false id)).entryRuns 2 64 (some 0) none = true ∧
    (entries (charge false id)).entryRuns 3 64 (some 0) none = true ∧ up.entryRuns 2 64 (some 0) none = false ∧
    up.entryRuns 3 64 (some 0) none = false ∧
    bitOf ((charge false (fun c => { c with win := 1 })).qc 0).win 0 = true ∧
    bitOf ((charge false id).qc 0).win 7 = false ∧ ((charge false id).qrec 0).acq.kind 1 ≠ 1 ∧
    ((charge false id).qrec 0).acq.kind 0 = 1 ∧ (charge false id).qch.chans.length = 12 := by decide

/-- A test sequence in hand. -/
def qtest : QTest := ⟨0, some 1⟩

theorem witness_TestSequence : up.qOn 0 = false ∧ up.qch.chans.length = 12 ∧
    ((entries (charge false id)).entryRuns 4 64 none (some false) = true ∧
      (entries (charge false id)).entryRuns 4 64 none (some true) = true ∧ up.entryRuns 4 64 none (some false) = false) ∧
    (let d := charge false (fun c => { c with test := some qtest, held := some ⟨0, 0, 9, 0, 0, 0, 0, List.replicate 6 0, false, false, false, false, 0, none⟩ })
     d.qOn 0 = true ∧ (d.qc 0).test = some qtest ∧ d.role = 1 ∧ (d.qc 0).comp = none ∧
     ((d.qc 0).held.map QHeld.status) = some 0 ∧ ((d.qc 0).held.map (fun h => h.res.length)) = some 6 ∧
     (d.qc 0).quietRel = false ∧ d.qch.chans.length = 12) ∧
    (let d := charge false (fun c => { c with win := 1 })
     d.qOn 0 = true ∧ (d.qc 0).test = none ∧ (d.qc 0).open_ (d.qrec 0).acq 1 = true) ∧
    ((charge false id).qc 0).open_ ((charge false id).qrec 0).acq 2 = false ∧
    (let d := charge false (fun c => { c with win := 2 })
     d.qOn 0 = true ∧ (d.qc 0).test = none ∧ (d.qc 0).open_ (d.qrec 0).acq 1 = false ∧
     (d.qc 0).open_ (d.qrec 0).acq 2 = true) ∧
    ((329 : Int).natAbs > 328 ∧ ¬ ((328 : Int).natAbs > 328 ∨ ((656 : Int) - 328).natAbs > 328)) := by decide

theorem witness_SamplingAndRange :
    (let d := charge false (fun c => { c with win := 1, started := true })
     let c := d.qc 0
     d.qch.chans.length = 12 ∧ d.qOn 0 = true ∧ d.role = 1 ∧ (d.qrec 0).acq.timeMode = false ∧
     c.open_ (d.qrec 0).acq 1 = true ∧ c.started = true ∧ c.blocked = false ∧ c.cyc.noSamp = false ∧ c.taken < 7200 ∧ c.ranging = false ∧ c.conv = none ∧
     c.wait = [] ∧ c.held = none ∧ c.comp = none) ∧
    (let d := charge true (fun c => { c with win := 1, conv := some ⟨0, false, true⟩, wait := List.replicate 14 ⟨1, false, false⟩ })
     (d.qrec 0).acq.timeMode = true ∧ (d.qc 0).conv ≠ none ∧ (d.qc 0).wait.length < 15 ∧
     (d.qc 0).conv = some ⟨0, false, true⟩ ∧ (d.qc 0).ranging = false ∧ (d.qc 0).open_ (d.qrec 0).acq 1 = true) ∧
    (let d := charge false (fun c => { c with win := 1, conv := some ⟨0, false, true⟩, wait := List.replicate 15 ⟨1, false, false⟩ })
     (d.qc 0).wait.length = 15 ∧ (d.qc 0).cyc.cause = 0 ∧ (d.qc 0).conv ≠ none) ∧
    (let d := charge false (fun c => { c with ranging := true })
     (d.qc 0).ranging = true ∧ (d.qc 0).conv = none) ∧
    (let d := { charge false id with wb := [(R.QCH_RANGE 0, 3, 1)] }
     (entries d).entryRuns 5 64 none (some false) = true ∧ (d.qc 0).held = none ∧ (d.qc 0).comp = none ∧
     d.qCycles 0 = true ∧ d.wb = [(R.QCH_RANGE 0, 3, 1)] ∧ (d.qc 0).open_ (d.qrec 0).acq 1 = false ∧
     d.entryRuns 5 64 none (some false) = false ∧ d.entryRuns 6 64 none none = false) ∧
    ((charge false (fun c => { c with win := 1 })).qc 0).open_ ((charge false id).qrec 0).acq 1 = true ∧
    (let d := charge false (fun c => { c with started := true, cyc := { c.cyc with count := 1 } })
     (entries d).entryRuns 6 64 none none = true ∧ d.role = 1 ∧ (d.qc 0).started = true ∧ (d.qc 0).conv = none ∧
     (d.qc 0).wait = [] ∧ (d.qc 0).open_ (d.qrec 0).acq 1 = false ∧
     0 < (d.qc 0).cyc.count ∧ (d.qrec 0).acq.auto = false ∧ (d.qrec 0).comp.pegsrc = 0) ∧
    (let d := charge false (fun c => { c with comp := some QCycle.empty })
     (d.qc 0).comp = some QCycle.empty ∧ QCycle.empty.missed = false) ∧ up.role ≠ 3 ∧
    (let d := (inRole 3).setQc 11 (fun c => { c with feedIn := some 4 })
     let e : List Byte := [11, 0, 0, 0, 0, 0, 0, 0, 0, 0, 0, 0, 5]
     d.role = 3 ∧ byteAt e 0 = 11 ∧ (d.qc 11).comp = none ∧ (d.qc 11).feedIn = some 4 ∧ 4 ≠ uAt e 12 4 ∧ uAt e 2 2 = 0) := by
  decide

theorem witness_PeakIsTheFirstMaximum : ([3, 3] : List Int) ≠ [] := by decide

/-- Excitation channel 7 driven, in a solo device. -/
def drive (f : XChan → XChan) : Dev :=
  let r := { XcRec.empty with drven := true, mode := 1, demn := 2 }
  ({ inRole 1 with image := { Image.empty with xccf := List.replicate 8 r } }.wrF (R.XCH_CTRL 7) F.XCH_CTRL_STATE 2).setXc 7
    (fun x => f { x with began := true })

theorem witness_ExcitationPeriods : (7 < 8 ∧ up.xch.length = 8 ∧ 4 &&& ((up.xc 7).lastFail) = 0) ∧
    (let d := drive (fun x => { x with lastFail := 2 ^ 12 })
     1 ≤ 12 ∧ (d.xc 7).lastFail = 2 ^ 12 ∧ (d.xc 7).declared = 0 ∧ d.xch.length = 8) ∧
    ((drive (fun x => { x with lastFail := 2 })).xc 7).lastFail = 2 ^ 1 ∧
    (let d := { drive (fun x => { x with locked := true, badRun := 1 }) with regs := (inRole 3).regs }
     d.holder = false ∧ (d.xc 7).locked = true ∧ 2000 < 2001 ∧ (d.xc 7).badRun = 1) ∧
    ((drive id).holder = true ∧ (drive id).xRuns 7 = true) ∧
    (let d := drive (fun x => { x with periods := 2, bad := true })
     (d.xrec 7).demn ≤ (d.xc 7).periods ∧ (d.xc 7).mirTrim = none ∧ (d.xc 7).bad = true) ∧
    (let d := { drive (fun x => { x with periods := 2 }) with wb := [(R.XCH_TRIM 7, 5, 1)] }
     (d.xc 7).bad = false ∧ (d.xrec 7).mode = 1 ∧ d.wb = [(R.XCH_TRIM 7, 5, 1)] ∧ d.xRuns 7 = true) ∧
    (up.xRuns 7 = false ∧ ((drive (fun x => { x with periods := 1 })).xc 7).periods < ((drive id).xrec 7).demn) ∧
    up.holder = false ∧
    (solo.holder = true ∧ solo.wbWord (R.XCH_TRIM 7) = none ∧ solo.rdF (R.XCH_TRIM 7) F.XCH_TRIM_TRIM ≠ 1) := by
  decide

/-- Loop input 15 in a mode with HART. -/
def loopIn (mode : Nat) (f : LoopIn → LoopIn) : Dev :=
  let r : LiRec := { LiRec.empty with mode := mode, supen := true, tli := 1, hart := 1, retry := 2, pcmd := 3 }
  { inRole 1 with image := { Image.empty with loopIn := List.replicate 16 r },
                  lop := { up.lop with running := true, ins := upd up.lop.ins 15 f } }

theorem witness_LoopInputConversions : (let d := loopIn 2 id
     d.lop.ins.length = 16 ∧ d.lop.running = true ∧ (d.lrec 15).mode = 2 ∧ (d.lrec 0).mode = 2) ∧
    (let d := (loopIn 1 id).wrF (R.LOP_SUPCTRL 15) F.LOP_SUPCTRL_STATE 1
     (d.lrec 15).mode = 1 ∧ d.role = 1 ∧ (d.li 15).clamp = false ∧ (d.li 15).lo = 0 ∧ (d.li 15).hi = 0 ∧
     (d.li 15).mis = 0 ∧ d.rdF (R.LOP_SUPCTRL 15) F.LOP_SUPCTRL_STATE = 1) ∧
    ((loopIn 1 (fun x => { x with tstart := true })).li 15).tstart = true ∧ (15 < 16 ∧ 16 ≤ 19) := by decide

/-- A HART request of command `cmd` in Q31, and the transaction that runs it. -/
def hartElem (cmd : Byte) : List Byte := leBytes 4 0 ++ [0, cmd, 0, 0] ++ padTo 248 []
def hartRun (cmd : Byte) (tries : Nat) : HartTx :=
  ⟨hartElem cmd, none, tries, false, hartRequest { LiRec.empty with hart := 1 } (hartElem cmd), 2, false⟩

theorem witness_HartTransactions :
    (let d := queued (loopIn 2 id) 31 (hartElem 3)
     d.queues.q.length = 64 ∧ d.lop.ins.length = 16 ∧ d.queue (16 + 15) = ⟨hartElem 3, 41, 0, none, none, true⟩ :: [] ∧
     d.holder = true ∧ (d.lrec 15).hart ≠ 0 ∧ (d.hart 15).run = none) ∧
    (let d := loopIn 2 (fun x => { x with hart := { x.hart with run := some (hartRun 3 2) } })
     (d.hart 15).run = some (hartRun 3 2) ∧ (hartRun 3 2).waitOnly = false ∧ (hartRun 3 2).ref = none ∧
     (hartRun 3 2).tries ≤ (hartRun 3 2).retry ∧ (hartRun 3 3).retry < (hartRun 3 3).tries) ∧
    (let d := loopIn 2 (fun x => { x with hart := { x.hart with run := some (hartRun 0x30 1) } })
     let bytes : List Byte := [0x06, 0x80, 0x30, 2, 0, 0x80, 0x34]
     (d.lrec 15).hart ≠ 0 ∧ (hartRun 0x30 1).copy = false ∧ hartChecked bytes = true ∧
     ∃ f, hartParse bytes = some f ∧ f.kind = 6 ∧
       hartAnswers (hartRun 0x30 1) f = true ∧ f.fd < 256 ∧ 128 ≤ f.fd ∧ hartOffsets f.cmd = []) ∧
    ((up.lrec 15).hart = 0 ∧ (loopIn 2 id).hartPolling 15 = false ∧ ((loopIn 2 id).lrec 15).pcmd ≠ 0xFF ∧
      ((loopIn 2 id).lrec 15).pcmd < 256 ∧ (loopIn 2 id).hasFree (16 + 15) = true) ∧
    (let d := (loopIn 2 id).setQueue 31 (List.replicate (queueDepth 31) ⟨hartElem 9, 41, 0, some ⟨1, 2, 3⟩, none, true⟩)
     d.hartPolling 15 = false ∧ d.hasFree (16 + 15) = false) ∧
    ((loopIn 2 id).hart 15).stale = false := by
  repeat' first | decide | exact ⟨_, rfl, by decide⟩ | constructor

/-- Loop output 3 that drives a current. -/
def loopOut (compl applied : Nat) : Dev :=
  let r := { LoRec.empty with oen := true, hset := 9000 }
  (({ inRole 1 with image := { Image.empty with loopOut := List.replicate 4 r } }.wrF (R.LOP_OSTS 3) F.LOP_OSTS_COMPL
    compl).wrF (R.LOP_OACT 3) F.LOP_OACT_APPLIED applied)

theorem witness_LoopOutputs :
    (let x : SetIn := ⟨true, true, true, 0, 0, 0⟩
     let r : LoRec := { LoRec.empty with almsrc := 5, trksrc := 9 }
     x.safe = true ∧ (⟨false, true, true, 0, 0, 0⟩ : SetIn).almActive = true ∧ r.almsrc ≠ 0xFFFF ∧ r.trksrc ≠ 0xFFFF ∧
     (⟨false, false, true, 0, 0, 0⟩ : SetIn).almActive = false ∧ (⟨false, false, true, 0, 0, 0⟩ : SetIn).trkFault = true ∧
     (⟨false, false, false, 0, 0, 0⟩ : SetIn).trkFault = false ∧ LoRec.empty.trksrc = 0xFFFF ∧
     LoRec.empty.almsrc = 0xFFFF) ∧
    (up.wbWord (R.LOP_OSET 3) = none ∧ up.rdF (R.LOP_OSET 3) F.LOP_OSET_SETPT ≠ (32767 : BitVec 15).toNat) ∧
    ((loopOut 0 21750).loDrives 3 = true ∧ (loopOut 0 21750).loHandover 3 = false ∧
      ((((21851 : BitVec 16).toNat : Int) - ((loopOut 0 21750).rdF (R.LOP_OACT 3) F.LOP_OACT_APPLIED : Nat)).natAbs > 100) ∧
      (loopOut 0 21750).rdF (R.LOP_OSTS 3) F.LOP_OSTS_COMPL = 0) ∧
    ((((4100 : BitVec 16).toNat : Int) - ((loopOut 1 4000).rdF (R.LOP_OACT 3) F.LOP_OACT_APPLIED : Nat)).natAbs ≤ 100 ∧
      (loopOut 1 4000).rdF (R.LOP_OSTS 3) F.LOP_OSTS_COMPL = 1) := by decide

/-- Contact inputs and outputs in use, a solo device. -/
def contacts (f : Contacts → Contacts) : Dev :=
  let outs := List.replicate 32 ⟨true, 0, 0, true, false, 0, 0, 0⟩
  { inRole 1 with image := { Image.empty with dioc := { Image.empty.dioc with
                    inputs := List.replicate 32 ⟨1, 5, true⟩, outputs := outs } },
                  dio := f { up.dio with connected := true, source := true, recs := some outs } }

/-- The same with an input's state changed. -/
def contactAt (n : Nat) (f : DiChan → DiChan) : Dev := contacts (fun c => { c with ins := upd c.ins n f })

theorem witness_ContactInputs : up.dio.ins.length = 32 ∧ up.diSamples 31 = false ∧
    (contacts (fun c => { c with changed := some (up.clk - 19999) })).diDiscards 0 = true ∧
    (let d := contactAt 31 (fun x => { x with cand := true, count := 49 })
     d.diSamples 31 = true ∧ d.diDiscards 0 = false ∧ d.diDiscards (([2100, 2100] : List Int).length + 1) = false ∧
     DiClear d 31 ∧ sampleBand d 31 2100 = 3 ∧
     sampleBand d 31 1200 = 1 ∧ (d.di 31).accepted ≠ some true ∧ (d.di 31).cand = true ∧
     10 * (d.direc 31).deb ≤ (d.di 31).count + 1) ∧
    (let d := contactAt 0 (fun x => { x with cand := true, count := 48 })
     DiClear d 0 ∧ (d.di 0).accepted = none ∧ (d.di 0).cand = true ∧ (d.di 0).count + 1 < 10 * (d.direc 0).deb) ∧
    (let d := contactAt 31 (fun x => { x with line := 1, run := 19 })
     DiClear d 31 ∧ sampleBand d 31 149 = 0 ∧ (d.di 31).line = 1 ∧ 19 ≤ (d.di 31).run ∧ d.diStatus 31 ≠ 3) ∧
    (let d := contactAt 31 (fun x => { x with line := 2, run := 19 })
     DiClear d 31 ∧ sampleBand d 31 6000 = 4 ∧ (d.di 31).line = 2 ∧ d.diStatus 31 ≠ 4) ∧
    (let d := (contactAt 31 (fun x => { x with opened := true })).wrF (R.DIO_ISTS 31) F.DIO_ISTS_STATUS 3
     (d.di 31).opened = true ∧ bitOf d.dio.clampOn 31 = false ∧ diFault (d.diStatus 31) = true) ∧
    (let d := (contacts (fun c => { c with clampOn := 2 ^ 31 })).wrF (R.DIO_ISTS 31) F.DIO_ISTS_STATUS 5
     bitOf d.dio.clampOn 31 = true ∧ d.diStatus 31 = 5) := by
  unfold DiClear; decide

theorem witness_ContactsAndOutputs :
    (let d := (contacts id).wrF R.DIO_OUT ⟨31, 1⟩ 1
     d.doDrives 31 = true ∧ d.dio.ptPhase.length = 32 ∧ d.dio.ptPhase.getD 31 0 = 0 ∧
     d.dio.fbHold.getD 31 0 ≤ d.clk ∧ d.ptDue 31 = true ∧ (∀ k, k < 31 → d.ptDue k = false) ∧ d.safe = false ∧
     d.rdF R.PAR_ROLE F.PAR_ROLE_HOLD = 0 ∧ d.pair.castle = 0 ∧ d.dio.ptTurn ≠ some d.turn.number) ∧
    ((contacts (fun c => { c with ptTurn := some 0 })).dio.ptTurn = some (contacts id).turn.number ∧
      ((contacts id).wrF R.PAR_ROLE F.PAR_ROLE_HOLD 1).rdF R.PAR_ROLE F.PAR_ROLE_HOLD = 1 ∧
      (contacts id).rdF R.DIO_OUT ⟨31, 1⟩ = 0 ∧ (contacts id).ptDue 31 = false ∧
      (∃ k, k < 31 ∧ ((contacts id).wrF R.DIO_OUT ⟨0, 1⟩ 1).ptDue k = true) ∧
      (contacts id).clk < (contacts (fun c => { c with fbHold := c.fbHold.set 31 1000000001 })).dio.fbHold.getD 31 0) ∧
    (contacts (fun c => { c with ptPhase := c.ptPhase.set 31 1 })).dio.ptPhase.getD 31 0 = 1 ∧
    (contacts (fun c => { c with ptPhase := c.ptPhase.set 31 2 })).dio.ptPhase.getD 31 0 = 2 ∧
    (contacts (fun c => { c with ptPhase := c.ptPhase.set 31 3 })).dio.ptPhase.getD 31 0 = 3 ∧ up.doDrives 31 = false ∧
    (up.wbWord R.DIO_HOSTSET = none ∧ up.rd R.DIO_HOSTSET &&& 0x7FFFFFFF ≠ (1 : Word) &&& 0x7FFFFFFF) := by
  repeat' first | decide | exact ⟨0, by decide⟩ | constructor
theorem witness_CommandsWaitForTheLatch : latchedAs (.ack (.can 3 254 0 65535) 4095 8) = some ⟨.can 3 254 0 65535, 1, [255, 15, 8]⟩ ∧
    (latchedAs (.canframe ⟨7, 1, 0⟩ true 3 0 0 [])).isSome = true ∧ solo.holder = true ∧
    solo.fresh (.can 3 254 0 65535) = true ∧ solo.fresh (.host ⟨7, 1, 0⟩ true) = true ∧
    up.holder = false ∧
    ({ solo with turn := { solo.turn with arrived := [⟨.host ⟨7, 1, 0⟩ true, 1, []⟩] } } : Dev).fresh
      (.host ⟨7, 1, 0⟩ true) = false := by decide

/-- A point of source kind 9 with all nine checks of class 1, on-delay 2. -/
def point : PointRec :=
  { PointRec.empty with srck := 9, srci := 3, hptmo := 7, rwin := 4, omask := 0x1FF,
                        checks := List.replicate 9 ⟨true, 1, 100, 5, 0, 2, 3⟩ }

/-- Its state: value 500, every check exceeded for two turns. -/
def ptState : Pt :=
  { Pt.empty with y := 500, q := 0, refv := true, yref := 100, al := List.replicate 9 ⟨0, false, true, false, 2⟩ }

theorem witness_PointCommandOutcomes :
    (let a : Alarm := ⟨1, false, false, false, 0⟩
     let s : Pt := { ptState with al := [a, { a with st := 3 }, { a with st := 2 }, { a with st := 4 }, { a with st := 0 },
       { a with inh := true }] }
     s.al[0]? = some a ∧ s.al[1]? = some { a with st := 3 } ∧ s.al[2]? = some { a with st := 2 } ∧
     s.al[3]? = some { a with st := 4 } ∧ s.al[4]? = some { a with st := 0 } ∧ s.oos = false ∧ a.inh = false ∧
     (ckRec point 0).cls < 3 ∧ 3 ∉ (⟨[], [], []⟩ : PtTurn).acked ∧
     s.al[5]? = some { a with inh := true }) ∧
    ({ point with noinh := true } : PointRec).noinh = true ∧
    (point.noinh = false ∧ 511 ≠ 0 ∧ 511 < 512 ∧ 1 < 2) ∧ (6 ≤ 6 ∧ 3 ≤ 3) ∧
    ({ ptState with oos := true } : Pt).oos = true := by decide

/-- A chain: two stages, the first of 0.2 s; recall after five turns. -/
def chain (trig : Nat) : ChainRec :=
  ⟨trig, 1, false, false, 5, [⟨1, true, false, true, 2⟩, ⟨1, true, false, true, 0⟩, ⟨0, false, false, false, 0⟩]⟩

/-- An image with points, a node, timers, stations, two chains and three engineers, duty in a mode. -/
def plant (dutysel : Nat) : Image :=
  let belf : BelfSec := ⟨3, dutysel, 0, 4, 1, 0, 50, 10, [20, 21, 22, 23], 0xFF, [⟨0, true⟩, ⟨1, true⟩, ⟨2, true⟩],
    [(0, 1)], List.replicate 8 ⟨25, 0xF, 0xFFFF, 0xFFFF, [(0, 10)]⟩, [chain 0, chain 0]⟩
  { Image.empty with latp := { Image.empty.latp with points := List.replicate 3 point }, belf := belf,
                     latt := [⟨0, 5, ⟨0, 0, false, 0⟩, ⟨0, 0, false, 0⟩, 1⟩, ⟨1, 5, ⟨0, 0, false, 0⟩, ⟨0, 0, false, 0⟩, 1⟩],
                     latg := ⟨[⟨0, 0, 0, 0, 0, false, 0, 5⟩], []⟩,
                     dioc := ⟨0, List.replicate 32 ⟨1, 3, false⟩, []⟩ }

/-- The state of the lattice and of the belfry in it. -/
def plantState : EvalState :=
  { EvalState.empty with
    started := true, pts := List.replicate 3 ptState, nodes := [⟨1, true, 1, false⟩]
    timers := [⟨false, 5, true, false, true, false⟩, ⟨true, 5, false, false, false, false⟩]
    hps := List.replicate 4 ⟨9, 0, 6, 30⟩
    bel := { EvalState.empty.bel with
             duty := some 0, present := [true, true, true]
             chains := [⟨1, 0, 199, true, 1, 0xFF⟩, ⟨2, 1, 9, true, 1, 3⟩], wst := 1, wc := 44, won := true
             diLast := List.replicate 32 (false, true) } }

/-- A solo device between turns with that image and state. -/
def plantDev (dutysel : Nat) (f : Belfry → Belfry) : Dev :=
  { solo with image := plant dutysel,
              turn := { solo.turn with cur := { plantState with bel := f plantState.bel } } }

/-- The same within turn 44, completed. -/
def plantDone : Dev :=
  let d := plantDev 1 id
  let r := { turnIn d .completed with last := plantState }
  having d { r with inp := { r.inp with turn := 44 } }

theorem witness_LatticeCountsComplete :
    (plantDev 1 id).turn.run = none ∧ plantDone.turn.run.map TurnRun.phase = some .completed ∧
    plantDone.turn.run.map TurnRun.held = some false ∧
    (turnIn solo .overrun).phase = .overrun ∧ ({ turnIn solo .waiting with held := true } : TurnRun).held = true ∧
    (let a : Alarm := ⟨0, false, true, false, 2⟩
     let c : Alarm := ⟨1, false, false, true, 1⟩
     a.r = true ∧ a.c = false ∧ c.r = false ∧ c.c = true ∧ ({ c with r := true } : Alarm).r = c.c) ∧
    (point.rwin ≠ 0 ∧ 44 % point.rwin = 0 ∧ 45 % point.rwin ≠ 0 ∧ ptState.q = 0 ∧ ptState.refv = true ∧
     ({ ptState with q := 2 } : Pt).q ≠ 0) ∧
    (hostTimeout (plant 1) 3 = some 7 ∧ (⟨9, 1, 6, 30⟩ : HostPt).status ≤ 1 ∧ 7 ≤ min 0xFFFF (44 - 30)) ∧
    ((⟨false, 5, true, false, true, false⟩ : Timer).et = 5 ∧ (⟨true, 4, false, false, false, false⟩ : Timer).et < 5) := by
  decide

/-- A contact input at GOOD with its released state 1. -/
def pressed (d : Dev) (i : Nat) : Dev := (d.wrF R.DIO_INSTATE ⟨i, 1⟩ 1).wrF (R.DIO_ISTS i) F.DIO_ISTS_STATUS 0

theorem witness_BelfrySteps :
    (plantDev 1 id).turn.run = none ∧ plantDone.turn.run.map TurnRun.phase = some .completed ∧
    (let x : Chain := ⟨1, 0, 18, true, 1, 0xFF⟩
     let s := (chain 0).stages.getD 0 ⟨0, false, false, false, 0⟩
     x.st = 1 ∧ x.stg < lastStage (chain 0) ∧ s.tmo ≠ 0 ∧ x.cnt + 1 < 100 * s.tmo ∧
     100 * s.tmo ≤ ({ x with cnt := 199 } : Chain).cnt + 1 ∧ 199 < 0xFFFFFF) ∧
    ((⟨2, 1, 9, true, 1, 3⟩ : Chain).st = 2 ∧ (chain 0).rearm ≠ 0 ∧ (chain 0).rearm ≤ 4 + 1) ∧
    ((plant 1).belf.wpre < (plant 1).belf.wtime ∧ (plant 1).belf.wtime - (plant 1).belf.wpre ≤ 39 + 1 ∧
     (plant 1).belf.wtime ≤ 49 + 1 ∧ 49 < 0xFFFFFFFF) ∧
    (2 < (plant 1).belf.neng ∧ engPresent plantState.bel 2 = true ∧ (plant 1).belf.neng ≤ 3 ∧
     engPresent { plantState.bel with present := [true, false, true] } 1 = false) := by
  decide

/-- A journal with two entries in the write buffer, one in the ledger, and two segments to sign. -/
def journal (r : Nat) (f : Journal → Journal) : Dev :=
  let e : Nat → LEntry := fun n => ⟨n, List.replicate 64 (byteOf n)⟩
  { inRole r with jrn := f { Journal.empty with next := 30, wmark := 25, wbuf := [e 28, e 29], ledger := [e 27],
                                                exported := 29, shownH := 30,
                                                unsigned := [(1, 5), (6, 9)] } }

theorem witness_JournalCommands : up.jrn.wbuf = [] ∧ (journal 1 id).jrn.wbuf ≠ [] ∧ (journal 1 id).jrn.unsigned ≠ [] ∧
    (journal 1 id).holder = true ∧ (journal 3 id).holder = false ∧
    ((journal 1 id).jrn.next = (journal 1 id).jrn.exported + 1 ∧ (journal 1 id).jrn.exported < (journal 1 id).jrn.shownH ∧
      ((journal 1 id).jrn.entryAt 29).isSome = true ∧
      ((journal 1 id).queue 48).length < 1536 ∧ (journal 1 id).queues.q.length = 64) ∧
    (journal 3 id).exports = false ∧ (journal 1 id).wbWord R.JRN_EXPACK = none ∧
    (journal 1 id).rdF R.JRN_EXPACK F.JRN_EXPACK_SEQLO ≠ (29 : BitVec 30).toNat := by decide

theorem witness_CommitOrderAndChain :
    ((List.replicate 8 ([] : List Entry)).length = 8 ∧ 4 + 16 ≤ 20 ∧
     (takeEntries 0 0 20 3 1 0 ⟨[], [], (List.replicate 8 []).set 0 (List.replicate 2 (secEntry 7 [])), 0, false,
       false⟩).ing.getD 0 [] ≠ []) ∧
    (journal 1 id).jrn.genesis = false ∧ (journal 1 id).jrn.signed = [] := by decide

/-- CAN channel 3, integrated, in a mode, in a role, with one buffer's content in the attempt and a receive entry for
point 5. -/
def bus (r mode : Nat) (k : Nat) (b : Option TxBuf) : Dev :=
  let img := { Image.empty with canm := { Image.empty.canm with
                 chans := List.replicate 4 { CanChan.empty with en := true, wakemode := 1 }
                 rx := [⟨false, 0xF, 1, 1, 0x123, 0x7FF, false, false, false, false, 0, 16, 5, 10⟩] } }
  { (inRole r).wrF (R.CAN_MODE 3) F.CAN_MODE_MODE mode with
    image := img, turn := { up.turn with number := 99 }
    can := { up.can with
      chans := List.replicate 4 { CanCh.empty with integrated := true, firsts := [k], bufs := (List.replicate 3 none).set k b } } }

/-- A frame element that carries a journal SEQ. -/
def frameElem (seq : Option Nat) (ref : Option HostRef) : QElem := ⟨leBytes 4 5 ++ List.replicate 76 0, 90, 0, ref, seq, true⟩

theorem witness_BusTransmission :
    (let d := (bus 1 1 2 none).setQueue 13 [frameElem none none]
     d.queues.q.length = 64 ∧ d.can.chans.length = 4 ∧ (d.canCh 3).bufs.length = 3 ∧ d.canMode 3 = 1 ∧
     (d.canCh 3).buf 2 = none ∧ d.queue (4 + 3 * 3) = frameElem none none :: [] ∧ d.headFree 3 (4 + 3 * 3) = true) ∧
    (bus 1 1 1 none).sending 3 2 = none ∧
    (let b : TxBuf := ⟨0, frameElem (some 33) none, 3, 1, false, false, 0⟩
     (bus 1 1 2 (some b)).sending 3 2 = some b ∧ b.elem.seq = some 33 ∧ b.elem.ref = none ∧ b.cancel = false ∧
     b.tooLate = false ∧ (5 : BitVec 3).toNat ≠ 3 ∧
     255 < ((bus 1 1 2 (some b)).wrF (R.CAN_ERR 3) F.CAN_ERR_TEC 248).canTec 3 + 8 ∧
     (3 : BitVec 3).toNat = 3 ∧ ((bus 1 1 2 (some b)).wrF (R.CAN_ERR 3) F.CAN_ERR_ESTATE 1).rdF (R.CAN_ERR 3) F.CAN_ERR_ESTATE = 1) ∧
    (let d := (bus 1 1 2 none).setQueue 15 [frameElem none (some ⟨1, 5, 0⟩)]
     d.queue (6 + 3 * 3) = frameElem none (some ⟨1, 5, 0⟩) :: [] ∧ uAt (frameElem none (some ⟨1, 5, 0⟩)).bytes 0 4 = 5 ∧
     (d.queue 52).length < 1536) ∧
    (let b : Backlog := ⟨13, 28, false, false⟩
     let d := { journal 1 id with can := { up.can with chans := List.replicate 4 { CanCh.empty with backlog := [b] } } }
     (d.canCh 3).backlog = b :: [] ∧ b.queue < 64 ∧ d.hasFree b.queue = true ∧ (d.jrn.entryAt b.seq).isSome = true) := by
  decide

theorem witness_BusReception :
    (let d := bus 1 1 0 none
     let f : Frame := ⟨0x7FF, false, false, false, List.replicate 8 1⟩
     d.canMode 3 = 1 ∧ d.role = 1 ∧ (d.canCh 3).integrated = true ∧ f.fd = false ∧ d.rxEntries 3 f = [] ∧
     (d.queue 3).length < 4096 ∧ (d.canRec 3).en = true ∧ d.canMode 3 ≠ 3 ∧ d.canMode 3 ≠ 4) ∧
    (queued up 3 []).queue 3 ≠ [] ∧
    (up.wrF (R.CAN_RXSTAT 3) F.CAN_RXSTAT_LOCK 1).rdF (R.CAN_RXSTAT 3) F.CAN_RXSTAT_LOCK = 1 ∧
    up.rdF (R.CAN_RXSTAT 3) F.CAN_RXSTAT_LOCK = 0 ∧
    (up.wrF (R.CAN_ERR 3) F.CAN_ERR_ESTATE 2).rdF (R.CAN_ERR 3) F.CAN_ERR_ESTATE = 2 ∧
    (let d := { bus 1 1 0 none with pwr := { up.pwr with boot := 4 } }
     d.pwr.boot = 4 ∧ 1 < 2 ∧ (d.canRec 1).wakemode = 1 ∧ (d.canRec 1).wakes 51 none = true ∧
     (d.canRec 1).wakes 50 none = false) ∧
    (let r : CanChan := { CanChan.empty with wakemode := 2, wakeid := 0x123, wakemask := 0x7FF }
     r.wakes 0 (some ⟨0x123, false, false, false, []⟩) = true ∧ (CanChan.empty).wakemode = 0) ∧
    (let d := { bus 1 1 0 none with can := { up.can with remote := [⟨5, 44, 0, 3, 1, false, false, 89, false⟩] } }
     (d.remote 5).q = 0 ∧ (d.remote 5).stale = false ∧ (d.remote 5).fresh = false ∧ staleTime d.image 5 ≠ 0 ∧
     (d.remote 5).latched + staleTime d.image 5 ≤ d.turn.number) ∧
    (let x : DupState := ⟨1, 2, 65535, 1⟩
     x.hs < 65536 ∧ x.win < 2 ^ 64 ∧ 0 < (0 + 65536 - x.hs) % 65536 ∧ (0 + 65536 - x.hs) % 65536 < 32768) := by decide

/-- The ring of channel 3 full: as many elements as it holds. -/
theorem witness_BusReception_full : 4096 ≤ ((up.setQueue 3 (List.replicate 4096 ⟨[], 0, 0, none, none, true⟩)).queue 3).length := by
  have h : (up.setQueue 3 (List.replicate 4096 ⟨[], 0, 0, none, none, true⟩)).queue 3
      = List.replicate 4096 ⟨[], 0, 0, none, none, true⟩ := rfl
  exact Nat.le_of_eq (by rw [h, List.length_replicate])

/-- The authentication bytes of a peer with the same image and keys and the other PAIR_ID. -/
def peerAuth (d : Dev) : List Byte :=
  padTo 32 d.image.head.hash ++ d.slotHashes ++ [1] ++ List.replicate 64 0 ++ [1]

theorem witness_IvganLink :
    (let d := paired 2 4
     d.role = 2 ∧ 1 ≤ d.lstate ∧ d.lstate ≤ 4 ∧ (1 : BitVec 2) ≠ 0 ∧ slice (peerAuth d) 32 128 = d.slotHashes ∧
     byteAt (peerAuth d) 160 ≠ d.rdF R.PAR_ROLE F.PAR_ROLE_IDHI ∧
     slice (peerAuth d) 0 32 = padTo 32 d.image.head.hash ∧ 1 ≤ (paired 2 1).lstate) ∧
    ((paired 2 5).lstate = 5 ∧ (paired 2 5).role = 2 ∧ (paired 2 5).danger = false) ∧
    (let d := (paired 2 5).wrF R.PAR_LNKSTAT ⟨0, 32⟩ 0xFFFFFFFF
     d.rdF R.PAR_LNKSTAT F.PAR_LNKSTAT_LANE0 = 1 ∧ d.rdF R.PAR_LNKSTAT F.PAR_LNKSTAT_LANE1 = 1) ∧
    ((1 : Fin 4) ≠ 0 ∧ (2 : Fin 4) ≠ 3 ∧ (List.replicate 64 (0 : Byte)).length ≤ elemSize (60 + (1 : Fin 4).val) ∧
      (0 : BitVec 16).toNat = (paired 3 5).pair.rxSeq) ∧
    ((paired 3 5).role = 3 ∧ (paired 3 5).turn.run = none ∧ (paired 3 5).pair.castle = 0 ∧
      (paired 3 5).vault.swapTurn = none ∧ (paired 3 5).pair.mirTurn = (paired 3 5).pair.doneTurn) := by decide

/-- A message of 64 bytes with some of them set. -/
def msg (xs : List (Nat × Nat)) : List Byte :=
  (List.range 64).map (fun i => byteOf (((xs.find? (fun x => x.1 == i)).map (·.2)).getD 0))

theorem witness_PeerMessages : ((paired 2 5).role = 2 ∧ byteAt (msg [(8, 1)]) 8 = 1) ∧
    (((paired 2 5).wrF R.PAR_ROLE F.PAR_ROLE_IDHI 1).rdF R.PAR_ROLE F.PAR_ROLE_IDHI = 1 ∧
      (paired 2 5).rdF R.PAR_ROLE F.PAR_ROLE_IDHI ≠ 1) ∧ (paired 3 5).role ≠ 2 ∧ byteAt (msg [(8, 254)]) 8 % 2 = 0 ∧
    (withPeer.role = 2 ∧ withPeer.peerUp = true ∧ withPeer.pair.castle = 0 ∧
      withPeer.turn.run.map TurnRun.phase ≠ some .waiting ∧ byteAt (msg [(8, 255)]) 8 % 2 = 1 ∧
      2 ≤ ({ withPeer with pair := { withPeer.pair with healthAge := 2 } } : Dev).pair.healthAge) ∧
    (let d := (paired 3 1).wrF R.PAR_HBAGE F.PAR_HBAGE_TURNS 2
     d.role = 3 ∧ d.lstate ≠ 5 ∧ 2 ≤ d.rdF R.PAR_HBAGE F.PAR_HBAGE_TURNS ∧ d.rdF R.PAR_STAT F.PAR_STAT_HBLOST = 0) ∧
    (paired 3 5).image.pair.mode = 1 := by decide

/-- A device in turn 41 that waits for its peer. -/
def waiting (r : Nat) : Dev := having (paired r 5) { turnIn (paired r 5) .waiting with digest := [1, 2, 3, 4, 5, 6, 7, 8] }

theorem witness_CommitOfAPair :
    (let d := waiting 3
     d.role = 3 ∧ d.danger = false ∧ d.turn.run.map TurnRun.phase = some .waiting ∧ (41 : BitVec 48).toNat = d.turn.number ∧
     d.vault.swapReq = false ∧ d.vault.swapTurn = none) ∧
    (let d := waiting 2
     let ack := msg [(0, 1), (2, 41), (24, 1), (25, 2), (26, 3), (27, 4), (28, 5), (29, 6), (30, 7), (31, 8)]
     d.role = 2 ∧ d.turn.run.map TurnRun.phase = some .waiting ∧ uAt ack 2 6 = d.turn.number % 2 ^ 48 ∧ byteAt ack 0 = 1 ∧
     some (slice ack 24 8) = d.turn.run.map TurnRun.digest ∧ slice (msg [(0, 1), (2, 41)]) 24 8 ≠ [1, 2, 3, 4, 5, 6, 7, 8] ∧
     d.turn.run.map (fun r => (r.acked, r.take.classAWaits)) = some (false, false) ∧
     (let d := { d with image := { d.image with phsb := { d.image.phsb with tlen := 100, emit := 200 } } }
      d.sinceStart ≤ d.commitLimit ∧ d.turn.run.all (fun r => decide (r.commitUs ≤ d.commitLimit)) = true ∧
      (let e := { d with clk := d.clk + 4000000 }
       e.commitLimit < e.sinceStart)) ∧
     byteAt (msg [(0, 2), (2, 41)]) 0 = 2) ∧
    (let d := paired 3 5
     d.turnsRun = true ∧ d.pair.castle = 0 ∧ (d.inputImage []).turn = d.turn.number ∧ d.turn.run = none ∧ d.turn.prev = none) ∧
    ({ paired 3 5 with pair := { up.pair with doneTurn := some 40 } } : Dev).pair.doneTurn = some (40 : BitVec 48).toNat := by
  decide

/-- A castling: own and the peer's results. -/
def castling (r n : Nat) (own peer : Option (Nat × Nat)) : Dev :=
  { (paired r 5).wrF R.PAR_ROLE F.PAR_ROLE_TOKEN 1 with
    pair := { up.pair with castle := n, turnN := 41, ownRes := own, peerRes := peer } }

theorem witness_CastlingDecision :
    ((castling 2 1 none none).pair.castle = 1 ∧ (castling 3 2 none none).pair.castle = 2 ∧
      (castling 2 1 none none).pair.ownRes = none ∧
      uAt (msg [(2, 41)]) 2 6 = (castling 2 1 none none).pair.turnN % 2 ^ 48 ∧
      uAt (msg [(2, 42)]) 2 6 ≠ (castling 2 1 none none).pair.turnN % 2 ^ 48) ∧
    (let d := castling 2 2 (some (63, 63)) (some (63, 63))
     d.pair.castle = 2 ∧ d.pair.peerRes = some (63, 63) ∧ d.pair.ejectWaits = false ∧ d.role = 2 ∧
     d.rdF R.PAR_ROLE F.PAR_ROLE_TOKEN = 1 ∧ (verdict d.pair.ownRes && !d.danger) = true ∧ checksPass (63, 63) = true) ∧
    (checksPass (0, 63) = false ∧ (verdict (castling 2 2 (some (0, 63)) none).pair.ownRes && !up.danger) = false) ∧
    (castling 3 2 (some (63, 63)) (some (0, 63))).role = 3 := by decide

theorem witness_TokenHandOver :
    (let d := { paired 3 5 with clk := 10000000000 }
     d.role = 3 ∧ d.turn.run = none ∧ d.commitLimit ≤ d.sinceStart) ∧
    ((gated withPeer).GateFor 3 ∧ withStandby (gated withPeer) ∧ (gated withPeer).pair.castle = 0 ∧
      (gated withPeer).pair.planned = none) ∧
    ((gated (paired 3 5)).GateFor 3 ∧ (gated (paired 3 5)).role ≠ 2 ∧ (castling 2 1 none none).pair.castle ≠ 0) ∧
    (let d := having { withPeer with pair := { up.pair with planned := some 2, plannedTurn := some 41 } }
       { turnIn withPeer .completed with emitted := true }
     d.pair.planned = some 2 ∧ d.pair.plannedTurn = some 41 ∧ d.turn.run.map TurnRun.emitted = some true ∧
     withStandby d ∧ d.pair.castle = 0 ∧ d.turn.run.map (fun r => r.inp.turn) = some 41) ∧
    (up.pair.planned = none ∧ up.pair.mirOut = none ∧ up.vault.forward = none ∧
      ({ up with pair := { up.pair with mirOut := some 0 } } : Dev).pair.mirOut ≠ none) := by
  unfold withStandby
  repeat' first | decide | exact ⟨_, rfl⟩ | constructor

theorem witness_StartAndRejoin :
    (let d := { paired 0 5 with pair := { up.pair with claim := true } }
     d.pair.claim = true ∧ d.role = 0 ∧ d.lstate = 5 ∧
     ((paired 0 1).lstate ≠ 5 ∧ (paired 0 1).clk < ({ paired 0 1 with pair := { up.pair with claimAt := up.clk } } : Dev).pair.claimAt + 20000000 ∧
      (paired 0 1).pair.claimAt + 20000000 ≤ (paired 0 1).clk) ∧
     ((0 : BitVec 48).toNat < ({ d with jrn := { up.jrn with next := 1 } } : Dev).jrn.next) ∧
     ((0 : BitVec 48).toNat = d.jrn.next) ∧ (paired 0 1).lstate ≠ 5 ∧
     ¬ (d.lstate ≠ 5 ∨ (1 : BitVec 48).toNat < d.jrn.next ∨ ((1 : BitVec 48).toNat = d.jrn.next ∧ false = false))) ∧
    ((paired 4 5).role = 4 ∧ (paired 4 5).lstate = 5 ∧
      ({ paired 4 5 with pair := { up.pair with rejReady := true } } : Dev).pair.rejReady = true) ∧
    ((paired 2 5).role = 2 ∧ (paired 2 5).peerUp = false) := by decide

theorem witness_DangerousFaults : (dangerCode (0x01 : BitVec 8).toNat = true ∧ dangerCode (0x25 : BitVec 8).toNat = true) ∧
    ((up.wrF R.WTC_STAT F.WTC_STAT_DANGER 1).danger = true ∧ solo.danger = false ∧ solo.safe = false) ∧
    (solo.role = 1 ∧ (paired 2 5).role = 2 ∧ (paired 2 5).peerUp = false ∧ withPeer.peerUp = true ∧ up.role = 0 ∧
      3 ≤ (paired 4 5).role) ∧
    (turnsContinue (0x01 : BitVec 8).toNat = false ∧ turnsContinue (0x02 : BitVec 8).toNat = true) ∧
    (let d := { solo with image := { Image.empty with wtch := ⟨1, 1, 1, 0, 0, 0⟩ } }
     d.image.wtch.react = 1 ∧ (d.wtc.resets.filter (fun t => d.clk < t + 1440000000000)).length < d.image.wtch.rstlim ∧
     (let e := { d with wtc := { d.wtc with resets := [d.clk] } }
      e.image.wtch.rstlim ≤ (e.wtc.resets.filter (fun t => e.clk < t + 1440000000000)).length)) := by decide

/-- An hour and more after start-up, with output 3 energised throughout and PTEN set. -/
def litDev (r : Nat) : Dev :=
  { inRole r with
    clk := 2000000000000
    dio := { up.dio with recs := some (List.replicate 32 ⟨true, 0, 0, true, false, 0, 5, 1⟩), onSince := (List.replicate 32 none).set 3 (some 0) } }

theorem witness_LatentTestsAndReset : up.wtc.latDone.length = 12 ∧
    (up.latCovered 11 = true ∧ (litDev 1).latCovered 8 = false) ∧
    ((litDev 1).latSince 8 + 1440000000000 ≤ (litDev 1).clk ∧ ((litDev 1).doUsed 3).pten = true ∧
      (litDev 1).litHour 3 = true ∧ (litDev 1).holder = true ∧ (litDev 1).danger = false ∧
      up.clk < up.latSince 8 + 1440000000000) ∧
    (up.wtc.hot = false ∧ ({ up with wtc := { up.wtc with hot := true } } : Dev).wtc.hot = true) ∧ up.danger = false ∧
    ((11 : Fin 12) = 8 → up.holder = true) ∧ ((8 : Fin 12) = 8 → solo.holder = true) ∧
    ((10 : Fin 12) = 10 → up.holder = false) ∧ solo.holder = true ∧
    (let d := { up with image := { Image.empty with wtch := ⟨0, 0, 0, 0, 0, 100⟩ } }
     (d.image.wtch.tempwarn : Int) ≤ (100 : BitVec 16).toInt ∧ (0x8000 : BitVec 16).toInt < (d.image.wtch.tempwarn : Int)) ∧
    (let d := { up with wtc := { up.wtc with resetAt := some up.clk } }
     d.wtc.resetAt = some d.clk ∧ d.clk ≤ d.clk ∧ d.clk < d.clk + 1) := by decide

/-- Slot 1 holds an image with a VERSION that has passed its checks; staging in a state. -/
def staged (r stg : Nat) (f : Vault → Vault) : Dev :=
  let img : Image := { Image.empty with head := ⟨9, [], 0, false, List.replicate 32 5⟩ }
  let d := ({ inRole r with image := Image.empty }).wrF R.VLT_STGSTAT F.VLT_STGSTAT_STATE stg
  { d with vault := f { up.vault with images := [⟨[], [], none⟩, ⟨[(0, 1)], [], some img⟩] } }

theorem witness_StagingAndSwap :
    ((staged 1 2 id).staging = 2 ∧ (staged 1 2 id).pair.wantHash = none ∧
      (staged 1 2 id).stageSlot < (staged 1 2 id).vault.images.length) ∧
    (let d := (staged 2 3 id).wrF R.PAR_ROLE F.PAR_ROLE_PEERUP 1
     withStandby d ∧ d.staging = 3) ∧
    (let d := gated (staged 1 3 id)
     d.GateFor 3 ∧ d.vault.swapReq = false ∧ d.vault.swapTurn = none ∧ d.holder = true ∧ d.staging = 3 ∧ d.safe = false ∧
     (d.imgSlot d.stageSlot).ok.map (fun i => i.pair.mode) = some d.image.pair.mode ∧ d.image.pair.mode ≠ 1) ∧
    (let d := gated (staged 1 4 id)
     d.GateFor 3 ∧ d.staging ≠ 3 ∧ d.staging ≠ 0) ∧
    (let d := gated (staged 2 3 (fun v => { v with swapReq := true }))
     d.vault.swapReq = true ∧ (paired 2 5).image.pair.mode = 1 ∧
     d.rdF R.VLT_STGSTAT F.VLT_STGSTAT_PEERRDY = 0 ∧ (staged 3 0 id).holder = false ∧ (staged 3 0 id).staging = 0) ∧
    (let d := staged 3 3 id
     d.role = 3 ∧ d.staging = 3 ∧ (d.imgSlot d.stageSlot).ok.map (fun i => i.head.hash) = some (List.replicate 32 5) ∧
     d.turn.number < (1 : BitVec 48).toNat) ∧
    (let d := staged 1 5 (fun v => { v with swapTurn := some 1, swapOk := true })
     d.turn.run = none ∧ d.vault.swapTurn = some (d.turn.number + 1) ∧ (d.imgSlot d.stageSlot).ok.isSome = true ∧
     d.vault.swapOk = true) ∧
    (staged 1 5 (fun v => { v with swapTurn := some 1 })).vault.swapOk = false := by
  unfold withStandby
  repeat' first | decide | exact ⟨_, rfl⟩ | constructor

theorem witness_LifeOfTheDevice : up.queues.q.length = 64 ∧
    (up.trngBad = false ∧ (up.queue 53).length + 4 ≤ queueDepth 53) ∧
    (up.wrF R.VLT_STAT F.VLT_STAT_TRNGFLT 1).trngBad = true ∧
    (let d := { solo with vault := { up.vault with decomm := some 1 } }
     d.role = 1 ∧ d.turnsRun = true ∧ d.turn.run = none ∧ d.vault.decomm = some 1) ∧
    ((up.wrF R.VLT_STAT F.VLT_STAT_LIFE 3).life = 3 ∧ up.life ≠ 3 ∧ up.vault.erasing = false ∧
      up.vault.ownclrAt + 240000000000 ≤ ({ up with clk := 240000000000 } : Dev).clk ∧
      up.clk < up.vault.ownclrAt + 240000000000) ∧
    (up.host.lockAt + 24000000000 ≤ ({ up with clk := 24000000000 } : Dev).clk ∧ up.clk < up.host.lockAt + 24000000000) ∧
    (({ up with vault := { up.vault with erasing := true } } : Dev).vault.erasing = true ∧ up.vault.erasing = false) ∧
    (up.awake = true ∧ (let d := { solo with vault := { up.vault with oldTurns := 1, oldFrom := 40 } }
       d.vault.oldTurns ≠ 0 ∧ d.vault.oldFrom + d.vault.oldTurns ≤ d.turn.number ∧ up.vault.oldTurns = 0)) ∧
    up.tokenCause [] ≠ 0 := by decide

/-- The dome with a running crystal, a slew that is due and a remainder. -/
def slewing (rem : Nat) : Dev :=
  { up.wrF R.DOM_SLEW F.DOM_SLEW_REM rem with dom := { up.dom with runs := true, slewDue := true } }

theorem witness_DomeTime : (gated solo).GateFor 3 ∧ (gated solo).holder = true ∧ (gated up).holder = false ∧
    ((gated solo).wbWord R.DOM_ZONE = none ∧ (60 : BitVec 12).toNat ≠ (gated solo).rdF R.DOM_ZONE F.DOM_ZONE_ZONE ∧
      (0 : BitVec 12).toNat = (gated solo).rdF R.DOM_ZONE F.DOM_ZONE_ZONE ∧
      ({ gated solo with wb := [(R.DOM_ZONE, 1, 3)] } : Dev).wbWord R.DOM_ZONE ≠ none) ∧
    (solo.wbWord R.DOM_ZCMD = none ∧ solo.rd R.DOM_ZCMD = 0 ∧
      (1 : BitVec 16).toNat ≠ solo.rdF R.DOM_SHIFT F.DOM_SHIFT_SHIFT) ∧
    (({ solo with wb := [(R.DOM_SET_HI, 1, 3)] } : Dev).wbWord R.DOM_SET_HI ≠ none ∧ solo.wbWord R.DOM_SET_HI = none ∧
      (7 : BitVec 16).toNat ≠ solo.rdF R.DOM_SET_HI F.DOM_SET_HI_S_HI ∧
      (0 : BitVec 16).toNat = solo.rdF R.DOM_SET_HI F.DOM_SET_HI_S_HI) ∧
    ((-1441 : Int) < -1440 ∧ (1440 : Int) < 1441 ∧ (-1440 : Int) ≤ 1440) ∧
    ((slewing 1).dom.runs = true ∧ (slewing 1).dom.slewDue = true ∧ up.dom.slewDue = false ∧ 0 < (slewing 1).domRem ∧ (slewing 0xFFFF).domRem < 0 ∧ (slewing 0).domRem = 0) ∧
    ((up.wrF R.DOM_STAT F.DOM_STAT_ONBAT 0).rdF R.DOM_STAT F.DOM_STAT_ONBAT = 0 ∧
      (up.wrF R.DOM_STAT F.DOM_STAT_OSC_STOP 0).rdF R.DOM_STAT F.DOM_STAT_OSC_STOP = 0) ∧
    (let d := (up.wrF (R.DOM_ALMCFG 1) F.DOM_ALMCFG_EN 1).wrF (R.DOM_ALMCFG 1) F.DOM_ALMCFG_ARMED 1
     d.rdF (R.DOM_ALMCFG 1) F.DOM_ALMCFG_EN = 1 ∧ d.rdF (R.DOM_ALMCFG 1) F.DOM_ALMCFG_ARMED = 1 ∧
     (almCmp d 1 : Int) ≤ almTime d 1 ∧
     (let e := d.wr (R.DOM_ALMCMP_LO 1) 1
      almTime e 1 < (almCmp e 1 : Int))) ∧
    (up.rdF (R.DOM_ALMCFG 0) F.DOM_ALMCFG_EN = 0 ∧ (2199 : BitVec 16).toNat < 2200 ∧ ¬ (2200 : BitVec 16).toNat < 2200 ∧
      up.rdF R.DOM_STAT F.DOM_STAT_BATLOW = 0) := by
  repeat' first | decide | exact ⟨_, rfl⟩ | constructor

/-- The panel ON, with three regions, region 2 pending. -/
def panel (f : Panel → Panel) : Dev :=
  let d := (inRole 1).wrF R.PNL_CTRL F.PNL_CTRL_STATE 2
  { d.wrF R.PNL_PENDMAP ⟨2, 1⟩ 1 with
    image := { Image.empty with panl := { Image.empty.panl with nreg := 3, crkr := 100, bth := [500], vset := [100, 200] } }
    pnl := f { up.pnl with measured := true, vlcdOk := true } }

/-- An update that began in frame 0, one frame long. -/
def panelRun : PanelRun := ⟨0, 1, 0, [(0, 3, 1, 0), (767, 2, 1, 1)]⟩

theorem witness_PanelRegions :
    (let d := panel id
     d.rdF R.PNL_CTRL F.PNL_CTRL_STATE = 2 ∧ d.pnl.bandNext = none ∧ d.image.panl.nreg ≤ 16 ∧ d.pnl.runs.length = 16 ∧
     2 < d.image.panl.nreg ∧ d.pPending 2 = true ∧ d.pnl.runs.getD 2 none = none ∧ d.pMayStart = true) ∧
    (let d := (panel id).wrF R.PNL_STAT F.PNL_STAT_VFLT 1
     d.rdF R.PNL_STAT F.PNL_STAT_VFLT = 1) ∧ up.rdF R.PNL_CTRL F.PNL_CTRL_STATE ≠ 2 ∧
    (let d := panel (fun p => { p with runs := p.runs.set 15 (some panelRun) })
     d.pnl.runs.getD 15 none = some panelRun ∧ (panelRun.elems.map (·.1)).Nodup ∧
     (∀ e ∈ panelRun.elems, e.1 < 768 ∧ e.2.1 < 4) ∧ panelRun.start + panelRun.len ≤ d.pFrame + 1 ∧
     d.pFrame + 1 < 1 + panelRun.len) ∧
    (let d := queued (panel id) 58 [15, 0]
     d.queue (56 + 2) = ⟨[15, 0], 41, 0, none, none, true⟩ :: [] ∧ byteAt ([15, 0] : List Byte) 0 < 16 ∧ d.pMaint 15 = false ∧
     (d.wrF R.PNL_REGMAP ⟨31, 1⟩ 1).pMaint 15 = true) ∧
    ((panel id).rdF R.PNL_STAT F.PNL_STAT_BANDPEND = 0 ∧ ((panel id).wrF R.PNL_STAT F.PNL_STAT_BANDPEND 1).rdF R.PNL_STAT
      F.PNL_STAT_BANDPEND = 1) ∧
    (let d := (panel id).wrF R.PNL_VLCD F.PNL_VLCD_VSETP 1000
     let off := fun v : Nat => ((v : Int) - d.rdF R.PNL_VLCD F.PNL_VLCD_VSETP).natAbs
     1000 < 20 * off 1051 ∧ ¬ 1000 < 20 * off 1050 ∧ 1000 < 50 * off 979 ∧ ¬ 1000 < 50 * off 980) ∧
    ((panel id).pnl.measured = true ∧ (15 : BitVec 12).toNat < 16 ∧ 4079 < (4080 : BitVec 12).toNat ∧
      16 ≤ (4079 : BitVec 12).toNat ∧ (4079 : BitVec 12).toNat ≤ 4079) ∧
    (bandOf (panel id).image.panl.bth ((panel id).rdF R.PNL_STAT F.PNL_STAT_BAND) 4079 false
        ≠ (panel id).rdF R.PNL_STAT F.PNL_STAT_BAND ∧ (panel id).pRunning = false ∧
      (panel (fun p => { p with runs := p.runs.set 15 (some panelRun) })).pRunning = true) ∧
    ((panel id).image.panl.crkstop = false ∧ 10 * (panel id).image.panl.crkr < (1001 : BitVec 16).toNat ∧
      (1000 : BitVec 16).toNat ≤ 10 * (panel id).image.panl.crkr ∧
      1 ≤ (panel (fun p => { p with crackBad := 1, crackGood := 2 })).pnl.crackBad ∧
      (panel (fun p => { p with crackBad := 1, crackGood := 2 })).pnl.crackGood ≤ 2 ∧ (panel id).pnl.crackBad = 0 ∧
      (panel id).rdF R.PNL_STAT F.PNL_STAT_CRACK = 0) := by decide

/-- A request frame of the unauthenticated session, its CRC right. -/
def request (opc ctr addr len : Nat) (payload : List Byte) : List Byte :=
  let b := [byteOf opc, 0, 0xFF, 0] ++ leBytes 4 ctr ++ leBytes 4 7 ++ leBytes 4 addr ++ leBytes 2 len ++ [0, 0] ++ payload
  b ++ [byteOf (crc16 b / 256), byteOf (crc16 b)]

/-- A device whose unauthenticated session is open with every permission. -/
def opened (d : Dev) : Dev := { d with host := { d.host with sessions := d.host.sessions.set 8 ⟨true, 0, 31, 0, 2, []⟩ } }

theorem witness_PortFramesAndSessions :
    ((portCommand 0x10 [0x10]).isSome = true ∧ parseReq [0x10] = none) ∧
    ((parseReq (request 0x10 1 0 4 [])).map (fun r => (r.crcOk, up.taken r, (opened up).taken r, r.opc))
        = some (true, none, some 8, 0x10) ∧
      (parseReq ((request 0x10 1 0 4 []).set 4 9)).map (fun r => r.crcOk) = some false) ∧
    (up.host.sessions.length = 9 ∧ 8 < 9) ∧
    ((parseReq (request 0x01 0 0 18 ([0xFF, 0xFF] ++ List.replicate 16 1))).map (fun r =>
        (r.opc, r.len, r.crcOk, byteAt r.payload 0, byteAt r.payload 1)) = some (1, 18, true, 0xFF, 0xFF) ∧
      up.locked = false ∧ up.trngBad = false ∧ up.openPerm.isSome = true ∧
      ((up.wrF R.VLT_STAT F.VLT_STAT_LIFE 1).wrF R.VLT_STAT F.VLT_STAT_NOIMG 0).openPerm = none ∧
      (up.wrF R.VLT_STAT F.VLT_STAT_LOCK 1).locked = true) ∧
    (let h : HostKey := ⟨31, true, List.replicate 32 7⟩
     let d := { up with host := { up.host with opening := some ⟨7, 0, [], []⟩ },
                        image := { Image.empty with keys := { Image.empty.keys with hostkeys := [h] } } }
     (parseReq (request 0x02 0 0 8 (List.replicate 8 0))).map (fun r => (r.opc, r.len)) = some (2, 8) ∧
     d.host.opening = some ⟨7, 0, [], []⟩ ∧ d.hostKey 0 = some h) ∧
    ((parseReq (request 0x03 1 0 0 [])).map (fun r => (r.opc, (opened up).taken r)) = some (3, some 8) ∧
      (parseReq (request 0x7F 1 0 0 [])).map (fun r => (knownOpcodes.contains r.opc, (opened up).taken r))
        = some (false, some 8)) := by decide

theorem witness_PortAccess :
    ((parseReq (request 0x10 1 0 4096 [])).map (fun r => (r.opc, r.len, r.addr % 4, (opened up).taken r))
        = some (0x10, 4096, 0, some 8) ∧ (opened up).may 8 0 = true ∧
      ({ opened up with host := { up.host with sessions := up.host.sessions.set 8 ⟨true, 0, 0, 0, 2, []⟩ } } : Dev).may 8 0
        = false) ∧
    ((parseReq (request 0x11 1 0 4 [1, 2, 3, 4])).map (fun r => (r.opc, r.len, (opened up).taken r)) = some (0x11, 4, some 8) ∧
      (opened up).may 8 2 = true ∧ (opened up).may 8 3 = true) ∧
    ((parseReq (request 0x20 1 0 8 (List.replicate 8 1))).map (fun r =>
        (r.opc, r.len, byteAt r.payload 6, (opened solo).taken r)) = some (0x20, 8, 1, some 8) ∧
      (opened solo).holder = true ∧ (opened solo).replayed 0xFF 7 = none ∧ (opened solo).replayStale 0xFF 7 = false ∧
      (opened solo).cmdPending 0xFF 7 = false ∧ (opened solo).hasRoom 40 = true ∧ (opened up).holder = false ∧
      ({ opened solo with turn := { solo.turn with arrived := [⟨.host ⟨0xFF, 7, 0⟩ true, 1, []⟩] } } : Dev).cmdPending 0xFF 7
        = true ∧
      ((opened solo).setQueue 40 (List.replicate (queueDepth 40) ⟨[], 0, 0, none, none, true⟩)).hasRoom 40 = false ∧
      ({ solo with jrn := { solo.jrn with replay := List.replicate 8 ⟨[(7, 3)]⟩ } } : Dev).replayed 0 7 = some 3) ∧
    ((parseReq (request 0x21 1 0 0 [])).map (fun r => (r.opc, (opened up).taken r)) = some (0x21, some 8) ∧
      ((opened up).replayed 0xFF 7).or ((opened up).vaultKept 0xFF 7) = none) ∧
    ((parseReq (request 0x30 1 55 64 [])).map (fun r => (r.opc, r.addr, r.len)) = some (0x30, 55, 64) ∧
      (parseReq (request 0x31 1 48 1 [])).map (fun r => (r.opc, r.addr, r.len)) = some (0x31, 48, 1) ∧
      (opened solo).exports = true) ∧
    (let d := (opened up).wrF R.VLT_STGSTAT F.VLT_STGSTAT_STATE 1
     (parseReq (request 0x40 1 8388607 1 [5])).map (fun r => (r.opc, r.addr + r.len, d.taken r))
        = some (0x40, 8388608, some 8) ∧ d.takesImages = true ∧ d.staging = 1 ∧ d.vault.images.length = 2 ∧ d.actSlot < 2 ∧
     ∀ sl ∈ d.vault.images, memWf sl.mem = true) ∧
    (findRow 2 = none ∧ (findRow R.SYS_GUARD).map RegRow.writable ≠ none) := by
  repeat' first | decide | constructor

theorem witness_FeedsAndRails : bitOf (up.feed true) 3 = false ∧ bitOf (up.feed true) 0 = false ∧
    bitOf ((up.wrF R.PWR_FEEDFLG ⟨0, 32⟩ 0xFFFFFFFF).feed false) 0 = true ∧ up.vhvlow ≠ (!up.vhvlow) ∧
    (up.wrF R.PWR_STAT F.PWR_STAT_VHVLOW 0).vhvlow = false := by decide

/-- A device under a power-fail warning that began at a cycle. -/
def warned (at_ : Nat) : Dev := { up.wrF R.PWR_STAT F.PWR_STAT_PFW 1 with pwr := { up.pwr with pfwAt := some at_ } }

theorem witness_PowerFailWarning : up.pfw = false ∧ (warned 0).pfw = true ∧ (warned 0).pwr.boot ≠ 0 ∧ (warned 0).pwr.pfwAt = some 0 ∧
    (warned (up.clk - 4000000)).pwr.pfwAt = some 996000000 ∧ 996000000 + 4000000 ≤ up.clk ∧ up.clk < 996000001 + 4000000 ∧
    (let d := { (warned 0).wrF R.PWR_RSTCAUSE F.PWR_RSTCAUSE_CAUSE 2 with pwr := { up.pwr with boot := 1 } }
     d.pwr.boot = 1 ∧ d.pfw = true ∧ d.rdF R.PWR_RSTCAUSE F.PWR_RSTCAUSE_CAUSE = 2) ∧ up.ejected = false := by decide

theorem witness_ResetsAndStartUp : Dev.reset.pwr.boot = 0 ∧ up.pwr.boot ≠ 0 ∧ (gated up).GateFor 3 ∧
    (after .powerGood Dev.reset).pwr.boot = 2 ∧ (after .powerGood Dev.reset).vault.erasing = false ∧
    (∀ k, (Dev.reset.imgSlot k).mem = []) ∧ Dev.reset.vault.swapFrom = none ∧ Dev.reset.actSlot < 2 ∧ up.pwr.boot ≠ 2 := by
  have h : ∀ k, (Dev.reset.imgSlot k).mem = [] := fun k => by
    match k with
    | 0 => rfl
    | 1 => rfl
    | _ + 2 => rfl
  repeat' first | decide | exact h | exact ⟨_, rfl⟩ | constructor

theorem witness_SleepAndEject : (gated solo).GateFor 3 ∧ (gated solo).rdF R.PWR_SLEEP F.PWR_SLEEP_REQ = 0 ∧
    (let d := { solo with wb := [(R.PWR_SLEEP, 1, 3)] }
     d.wbWord R.PWR_SLEEP ≠ none ∧ d.rdF R.PWR_SLEEP F.PWR_SLEEP_WAKEMSK = 0) ∧
    (let d := having { solo with pwr := { solo.pwr with sleepMask := some 5 } }
       { turnIn solo .completed with emitted := true }
     d.sleepReady = true ∧ d.pwr.sleepMask = some 5) ∧ solo.sleepReady = false ∧
    (let d := { up with pwr := { up.pwr with boot := 4, sleepMask := some 5 } }
     d.pwr.boot = 4 ∧ d.pwr.sleepMask = some 5 ∧ (15 : BitVec 4).toNat &&& 5 ≠ 0 ∧ (10 : BitVec 4).toNat &&& 5 = 0) ∧
    (solo.role = 1 ∧ solo.pair.castle = 0 ∧ solo.ejected = false ∧
      (solo.wrF R.PWR_STAT F.PWR_STAT_EJECT 1).ejected = true) := by
  repeat' first | decide | exact ⟨_, rfl⟩ | constructor

theorem witness_StepsKeepSane : up.Sane ∧ ∃ t, step (st up) = .next t := by
  refine ⟨⟨⟨by decide, by decide, by decide⟩, ⟨?_, ?_, ?_, ?_, ?_, ?_, ?_, ?_, ?_, ?_, ?_, ?_, ?_, ?_, ?_, ?_⟩, by decide⟩, ⟨_, rfl⟩⟩
  all_goals decide

theorem witness_CounterNeverFalls : (∃ t, step (st up) = .next t) ∧ ∃ t, step ⟨up, [.capture]⟩ = .next t :=
  ⟨⟨_, rfl⟩, ⟨_, rfl⟩⟩

/-! Single steps: expected results from the rules named, worked out by hand -/

/-- R50: SEQ goes from 255 to 1, the flag's bit sets. -/
theorem test_flag_seqWraps : (((up.wr R.SYS_CLKSTAT 0xFF000000).flag R.SYS_CLKSTAT 3).rd R.SYS_CLKSTAT) = 0x01000008 := by
  decide
/-- R51: a clearing write with another SEQ clears nothing; with the current one it clears the flags written. -/
theorem test_sqClear : (after (.sqClear R.SYS_CLKSTAT ⟨0x04000003, false⟩) (up.wr R.SYS_CLKSTAT 0x05000007)).rd R.SYS_CLKSTAT = 0x05000007 ∧
    (after (.sqClear R.SYS_CLKSTAT ⟨0x05000003, false⟩) (up.wr R.SYS_CLKSTAT 0x05000007)).rd R.SYS_CLKSTAT = 0x05000004 := by decide
/-- R47, R48: 0xB71E opens the gate for the writer; 1 ms is 400000 cycles of CK_SYS. -/
theorem test_keygate : (after (.keygateOpen 3) up).gate = some ⟨3, 1000000000⟩ ∧
    (after .keygateTimeout { up with gate := some ⟨3, 999600001⟩ }).gate = some ⟨3, 999600001⟩ ∧
    (after .keygateTimeout { up with gate := some ⟨3, 999600000⟩ }).gate = none := by decide
/-- R49: a swap with the gate closed sets REFUSED in SYS_GUARD with bits 23 to 1 of VLT_CMD's address. -/
theorem test_guard : (after (.swap 3) up).rdF R.SYS_GUARD F.SYS_GUARD_ADDR = R.VLT_CMD / 2 ∧
    (after (.swap 3) up).evPending 5 = true ∧ (after (.swap 3) up).vault.swapReq = false := by decide
/-- R54: EN turns OFF into RAMP_UP; EN off in ON begins the shutdown; EN on in RAMP_DOWN is pending. -/
theorem test_enable : (after (.xchEnWrite 3 0 ⟨true, false⟩) xch0).fState (.xch 0) = 1 ∧
    (after (.xchEnWrite 3 0 ⟨false, false⟩) (xch0.wrF (R.XCH_CTRL 0) F.XCH_CTRL_STATE 2)).fState (.xch 0) = 3 ∧
    (after (.xchEnWrite 3 0 ⟨true, false⟩) (xch0.wrF (R.XCH_CTRL 0) F.XCH_CTRL_STATE 3)).fState (.xch 0) = 3 := by decide
/-- R55: a shutdown sequence with a pending re-enable ends in a new start-up. -/
theorem test_shutdownSeq : (after (.shutdownSeqDone (.xch 0))
    ((xch0.wrF (R.XCH_CTRL 0) F.XCH_CTRL_STATE 3).wrF (R.XCH_CTRL 0) ⟨31, 1⟩ 1)).fState (.xch 0) = 1 := by decide
/-- R60: a 1 written to HST_EVCLR7 clears EV255 alone. -/
theorem test_eventClear : (after (.eventClear 7 ⟨0x80000000, 0⟩) ((up.raise 255).raise 254)).evPending 255 = false ∧
    (after (.eventClear 7 ⟨0x80000000, 0⟩) ((up.raise 255).raise 254)).evPending 254 = true := by decide
/-- R9, R16: a sample latch takes the next turn number and restarts PB0. -/
theorem test_sampleLatch : (after (.sampleLatch 65 0) solo).turn.number = 42 ∧
    (after (.sampleLatch 65 0) solo).turn.since = 1000000000 := by decide
/-- R27: evaluation that has not completed at 64 µs makes an overrun turn, and EV2 is raised. -/
theorem test_evalDeadline : let d := after .evalDeadline (having solo (turnIn solo .evaluating))
    d.turn.run.map TurnRun.phase = some .overrun ∧ d.turn.overruns = 1 ∧ d.evPending 2 = true ∧ d.turn.number = 41 := by
  decide
/-- R84: a late entry counts and raises EV28; NOP does nothing else, and without such an entry nothing runs. -/
theorem test_lateNop : let d := sched up 0 0 0
    (after (.nop true) d).rdF R.PHS_LATECNT F.PHS_LATECNT_COUNT = 1 ∧
    (after (.nop true) d).evPending 28 = true ∧ after (.nop false) d = d ∧ after (.nop true) up = up := by decide
/-- R79: no edge for STILLT takes a base in SYNC to STANDSTILL, with EV(21 + b). -/
theorem test_standstill : ((after (.standstillTimeout 3) (bases 2)).base 3).state = 0 ∧
    (after (.standstillTimeout 3) (bases 2)).evPending 24 = true := by decide
/-- R106: MUX with ARG 0xFF takes the next step; on a running converter it drops with EV48. -/
theorem test_mux : ((after (.mux 0 0xFF false) (sched (scan 0 0 true id) 7 96 0xFF)).scan 0).step = 1 ∧
    (after (.mux 0 0 false) (sched (scan 3 0 true id) 7 96 0)).evPending 48 = true := by decide
/-- R107: a SAMPLE entry for the waiting step begins its conversion; for another channel it raises EV49. -/
theorem test_sample : ((after (.sample 11 0 false) (sched (scan 2 0 true id) 1 11 0)).scan 0).phase = 3 ∧
    (after (.sample 10 0 false) (sched (scan 2 0 true id) 1 10 0)).evPending 49 = true := by decide
/-- R100, R118: a clamp current sets CLAMP and EV45. -/
theorem test_uinClamp : (after (.uinClamp 47) up).evPending 45 = true ∧
    (after (.uinClamp 47) up).rdF (R.UIN_STS 47) ⟨23, 1⟩ = 1 := by decide
/-- R136: WINOPEN opens its window; a second one is an error, EV74. -/
theorem test_winopen : ((after (.winopen 0 1 false) (sched (charge false id) 2 64 1)).qc 0).win = 2 ∧
    (after (.winopen 0 0 false) (sched (charge false (fun c => { c with win := 1 })) 2 64 0)).evPending 74 = true := by decide
/-- R145: QRESET with the QUIET window closed sets RSTSKIP, EV71. -/
theorem test_qreset : (after (.qreset 0 false false) (sched (charge false id) 4 64 0)).evPending 71 = true ∧
    ((after (.qreset 0 false false) (sched (charge false (fun c => { c with win := 2 })) 4 64 0)).qc 0).test ≠ none := by decide
/-- R137, R140: a grid point goes into conversion, and its code enters the cycle. -/
theorem test_gridPoint : let d := charge false (fun c => { c with win := 1, started := true })
    ((after (.gridPoint 0 9) d).qc 0).conv = some ⟨9, false, false⟩ ∧
    ((after (.qchConversionDone 0 0xFFFF false) (after (.gridPoint 0 9) d)).qc 0).cyc.count = 1 := by decide
/-- R179: without the token a write to TRIM is ignored. -/
theorem test_trim : after (.trimWrite 7 5) up = up ∧ (after (.trimWrite 7 5) solo).wbWord (R.XCH_TRIM 7) = some 5 := by decide
/-- R187 to R189: 3.7 mA is saturated low (2), 12 mA GOOD, 20.6 mA saturated high (1). -/
theorem test_loopBands : (after (.loopConversionEnd 15 3700000 0 0) (loopIn 2 id)).rdF (R.LOP_STS 15) F.LOP_STS_STATUS = 2 ∧
    (after (.loopConversionEnd 15 20600000 0 0) (loopIn 2 id)).rdF (R.LOP_STS 15) F.LOP_STS_STATUS = 1 := by decide
/-- R197: the head of Q31 starts on loop input 15. -/
theorem test_hartStart : (after (.hartTransactionStart 15) (queued (loopIn 2 id) 31 (hartElem 3))).queue 31 = [] := by decide
/-- R205: COMPL sets 5 ms off the applied setpoint, at 21750 µA the output drives 3500 µA. -/
theorem test_compl : (after (.complTimer 3 true 0) (loopOut 0 21750)).rdF (R.LOP_OACT 3) F.LOP_OACT_APPLIED = 3500 ∧
    (after (.complTimer 3 true 0) (loopOut 0 21750)).evPending 105 = true := by decide
/-- R214: the fiftieth sample in a row accepts a state, and it is released with INV applied. -/
theorem test_contact : (after (.contactAccept 31 [] 2100)
      ((contactAt 31 (fun x => { x with cand := true, count := 49 })).wrF R.DIO_INSTATE ⟨31, 1⟩ 1)).rdF R.DIO_INSTATE ⟨31, 1⟩ = 0 ∧
    (after (.contactAccept 31 [] 2100) ((contactAt 31 (fun x => { x with cand := true, count := 48 })).wrF
      R.DIO_INSTATE ⟨31, 1⟩ 1)).rdF R.DIO_INSTATE ⟨31, 1⟩ = 1 := by decide
/-- R213, R214: the twentieth sample above 6 mA on a NAMUR input is a short circuit. -/
theorem test_lineFault : (after (.lineFault 31 [] 6000) (contactAt 31 (fun x => { x with line := 2, run := 19 }))).rdF
    (R.DIO_ISTS 31) F.DIO_ISTS_STATUS = 4 := by decide
/-- R220: the pulse test drives its output low. -/
theorem test_pulse : (after (.pulseTestStart 31) ((contacts id).wrF R.DIO_OUT ⟨31, 1⟩ 1)).rdF R.DIO_OUT ⟨31, 1⟩ = 0 := by decide
/-- R239: from NORMAL an exceeded check goes to ACTUNACK (1), an acknowledged one stays ACTACK (2) and falls back to
NORMAL; an unacknowledged one that ends is RTNUNACK (3). -/
theorem test_nextState : nextState 0 true 1 false false false = 1 ∧ nextState 2 true 1 false false false = 2 ∧
    nextState 2 false 1 false false false = 0 ∧ nextState 1 false 1 false false false = 3 := by decide
/-- R245: a host point whose timeout has run is stale. -/
theorem test_hostPointStale : (hostStale (plant 1) 3 ((⟨9, 0, 6, 30⟩ : HostPt).aged 44)).status = 2 := by decide
/-- R258: an on-delay cell whose count has reached PT turns on. -/
theorem test_timer : (timerStep 0 5 true false ⟨false, 5, true, false, true, false⟩).q = true := by decide
/-- R267: the chain escalates to its second stage. -/
theorem test_escalate : (chainStep (chain 0) true 1 none ⟨1, 0, 199, true, 1, 0xFF⟩).1.stg = 1 := by decide
/-- R294: the drain takes the oldest entry to the ledger. -/
theorem test_drain : (after .ledgerDrain (journal 1 id)).jrn.ledger.map LEntry.seq = [28, 27] ∧
    (after .ledgerDrain (journal 1 id)).jrn.wbuf.map LEntry.seq = [29] := by decide
/-- R318, R321: a frame enters the ring of its channel. -/
theorem test_canFrame : ((after (.canFrameReceived 3 7 false ⟨0x7FF, false, false, false, [1]⟩) (bus 1 1 0 none)).queue 3).length = 1 := by
  decide
/-- R323: a transmit error adds 8 to TEC, above 255 the channel goes bus-off (2). -/
theorem test_txError : let d := (bus 1 1 2 (some ⟨0, frameElem none none, 3, 1, false, false, 0⟩)).wrF (R.CAN_ERR 3) F.CAN_ERR_TEC 248
    (after (.txError 3 2 5 false true) d).rdF (R.CAN_ERR 3) F.CAN_ERR_ESTATE = 2 := by decide
/-- R331: a sequence seen before is a duplicate (1), the next one is new (0). -/
theorem test_dup : (dupStep (some ⟨1, 2, 65535, 1⟩) 1 2 65535 false).1 = 1 ∧ (dupStep (some ⟨1, 2, 65535, 1⟩) 1 2 0 false).1 = 0 := by
  decide
/-- R349: with both tokens held, PAIR_ID high lets its own go. -/
theorem test_tokenConflict : (after (.roleMsg (msg [(1, 2), (8, 1)])) ((paired 2 5).wrF R.PAR_ROLE F.PAR_ROLE_IDHI 1)).role = 0 ∧
    (after (.roleMsg (msg [(1, 2), (8, 1)])) (paired 2 5)).evPending 204 = true := by decide
/-- R370: both devices pass: the active keeps the token and DISAGREE stands. -/
theorem test_castling : let d := after .castlingDecide (castling 2 2 (some (63, 63)) (some (63, 63)))
    d.role = 2 ∧ d.evPending 195 = true := by decide
/-- R389, R394: a dangerous fault takes a solo device to the safe state, EV208 and EV209. -/
theorem test_danger : let d := after (.dangerousFault 0x04 0) solo
    d.safe = true ∧ d.evPending 208 = true ∧ d.evPending 209 = true ∧ d.rdF R.WTC_FAULT F.WTC_FAULT_CODE = 4 := by decide
/-- R415: a swap request without a READY slot is refused. -/
theorem test_swap : (after (.swap 3) (gated (staged 1 4 id))).vault.swapReq = false ∧
    (after (.swap 3) (gated (staged 1 3 id))).vault.swapReq = true := by decide
/-- R415: the swap latch applies the staged image and raises the counter to its VERSION. -/
theorem test_swapLatch : let d := after .swapLatch (staged 1 5 (fun v => { v with swapTurn := some 1, swapOk := true }))
    d.image.head.version = 9 ∧ d.vault.counter = 9 := by decide
/-- R438: a slew of a positive remainder inserts one increment. -/
theorem test_slew : (after .slewIncrement (slewing 2)).dom.count = 1 ∧ (after .slewIncrement (slewing 2)).domRem = 1 := by decide
/-- R439: arming an alarm whose time has come skips it. -/
theorem test_alarmArm : (after (.alarmArm 1 0) (up.wrF (R.DOM_ALMCFG 1) F.DOM_ALMCFG_EN 1)).rdF (R.DOM_ALMCFG 1) F.DOM_ALMCFG_SKIPPED = 1 := by
  decide
/-- R457: a pending region of a panel that is ON starts, and is pending no more. -/
theorem test_panelFrame : (after (.panelFrame 100) (panel id)).pPending 2 = false ∧
    (after (.panelFrame 100) (panel id)).rd R.PNL_FRAMECNT = 1 := by decide
/-- R470, R474: a request with a bad CRC is answered CRCERR (7) and counted. -/
theorem test_crcError : (after (.read ((request 0x10 1 0 4 []).set 4 9)) (opened up)).rdF R.HST_CNT F.HST_CNT_CRCERRS = 1 := by decide
/-- R481: QPOP takes elements from the head. -/
theorem test_qpop : (after (.qpop (request 0x31 1 53 1 [])) (queued (opened solo) 53 (List.replicate 64 1))).queue 53 = [] := by decide
/-- R493: a power-fail warning sets once and counts. -/
theorem test_pfw : (after (.powerFailWarning false) up).pfw = true ∧
    (after (.powerFailWarning false) up).rdF R.PWR_PFW F.PWR_PFW_COUNT = 1 := by decide
/-- R506, R500: power-good leads to the start-up; a host reset takes the die into reset. -/
theorem test_resets : (after .powerGood Dev.reset).pwr.boot = 2 ∧ (after (.hostReset 3) (gated up)).pwr.boot = 1 := by decide
/-- R503: an enabled source wakes, another does not. -/
theorem test_wake : let d := { up with pwr := { up.pwr with boot := 4, sleepMask := some 5 } }
    (after (.wake 4) d).pwr.boot = 2 ∧ (after (.wake 2) d).pwr.boot = 4 := by decide
/-- The check value of the CRC of R470, over the ASCII digits 1 to 9 (CRC-16 with polynomial 0x1021 and initial value
0xFFFF). -/
theorem test_crc16 : crc16 [0x31, 0x32, 0x33, 0x34, 0x35, 0x36, 0x37, 0x38, 0x39] = 0x29B1 := by decide
end Sys2Proof.Tests
end

section
/-!
PROOFS. Register behaviour (chapter 02). Flags with SEQ and their clearing writes (R50 to R52), the clearing of
pending bits (R60), and the placing of an element in a queue (R63 to R65).
-/
namespace Sys2Proof.Machine

/-! Commands of a device that is up -/

/-- While the die runs, a guarded change is made. -/
theorem whenUp_of_up {s : State} (hup : s.Up) (f : Dev → Dev) : s.dev.whenUp f = f s.dev := if_pos hup

/-- A command whose meaning is a change of a running die completes with that change. -/
theorem completes_of_up {c : Instr} {s : State} {f : Dev → Dev} {P : Dev → Prop} (hup : s.Up)
    (hexec : exec c s = .next (s.onDev (fun d => d.whenUp f))) (hP : P (f s.dev)) : Completes c s P :=
  ⟨s.onDev (fun d => d.whenUp f), hexec, rfl, by rwa [onDev_dev, whenUp_of_up hup]⟩

/-- A command whose change of a running die changes nothing keeps the machine. -/
theorem exec_keeps_of_up {c : Instr} {s : State} {f : Dev → Dev} (hup : s.Up)
    (hexec : exec c s = .next (s.onDev (fun d => d.whenUp f))) (hf : f s.dev = s.dev) : exec c s = .next s := by
  rw [hexec, State.onDev, whenUp_of_up hup, hf]

theorem exec_sqClear (addr : Nat) (w : SqWrite) (s : State) :
    exec (.sqClear addr w) s = .next (s.onDev (fun d => d.whenUp (fun d => d.sqWrite addr w.value w.same))) := rfl

theorem exec_eventClear (m : Fin 8) (w : EvWrite) (s : State) :
    exec (.eventClear m w) s = .next (s.onDev (fun d => d.whenUp (fun d => d.evClear m.val w.value w.same))) := rfl

/-! Changes of one register -/

theorem onlyRegs_refl (d : Dev) (as : List Nat) : d.OnlyRegs d as := ⟨rfl, fun _ _ => rfl⟩

theorem onlyRegs_wr (d : Dev) (a : Nat) (w : Word) : d.OnlyRegs (d.wr a w) [a] :=
  ⟨rfl, fun b hb => rd_wr_other d a b w (List.ne_of_not_mem_cons hb)⟩

/-- A bit of a word with a field replaced: inside the field the value's, elsewhere the word's. -/
theorem getLsbD_putF (f : Field) (w : Word) (v : Nat) {i : Nat} (hi : i < 32) :
    (putF f w v).getLsbD i = if f.lo ≤ i ∧ i < f.lo + f.width then v.testBit (i - f.lo) else w.getLsbD i := by
  simpa [BitVec.testBit_toNat, hi] using testBit_putF f w v i

theorem getLsbD_mask (f : Field) {i : Nat} (hi : i < 32) :
    (Field.mask f).getLsbD i = decide (f.lo ≤ i ∧ i < f.lo + f.width) := by
  simpa [BitVec.testBit_toNat, hi] using testBit_mask f i

/-! Flag events (R50) -/

theorem seqNext_lt {n : Nat} (h : n < 256) : seqNext n < 256 := by
  unfold seqNext
  split <;> omega

theorem rd_flag_same (d : Dev) (a b : Nat) :
    (d.flag a b).rd a = putF ⟨b, 1⟩ (putF seqField (d.rd a) (seqNext (d.rdF a seqField))) 1 := rd_wr_same d a _

/-- A flag below SEQ leaves the advanced SEQ alone. -/
theorem rdF_seq_flag (d : Dev) (a : Nat) {b : Nat} (hb : b < 24) :
    (d.flag a b).rdF a seqField = seqNext (d.rdF a seqField) := by
  have hapart : seqField.lo + seqField.width ≤ b ∨ b + 1 ≤ seqField.lo := .inr hb
  have hlt : seqNext (d.rdF a seqField) < 2 ^ seqField.width := seqNext_lt (getF_lt seqField _)
  calc (d.flag a b).rdF a seqField
      = getF seqField (putF ⟨b, 1⟩ (putF seqField (d.rd a) (seqNext (d.rdF a seqField))) 1) :=
        congrArg (getF seqField) (rd_flag_same d a b)
    _ = getF seqField (putF seqField (d.rd a) (seqNext (d.rdF a seqField))) := getF_putF_apart _ _ hapart _ _
    _ = seqNext (d.rdF a seqField) % 2 ^ seqField.width := getF_putF _ (by decide) _ _
    _ = seqNext (d.rdF a seqField) := Nat.mod_eq_of_lt hlt

/-- Below SEQ, a flag event sets the flag's bit and no other. -/
theorem getLsbD_flag (d : Dev) (a b : Nat) {i : Nat} (hi : i < 24) :
    ((d.flag a b).rd a).getLsbD i = (i == b || (d.rd a).getLsbD i) := by
  have hseq : ¬ (seqField.lo ≤ i ∧ i < seqField.lo + seqField.width) := fun h => absurd h.1 (Nat.not_le.2 hi)
  rw [rd_flag_same, getLsbD_putF _ _ _ (by omega), getLsbD_putF _ _ _ (by omega), if_neg hseq]
  by_cases h : i = b
  · simp [h]
  · have hout : ¬ (b ≤ i ∧ i < b + 1) := by omega
    rw [if_neg hout, beq_false_of_ne h, Bool.false_or]

/-! Clearing writes (R51, R52) -/

theorem clearFlags_of_seq {d : Dev} {a : Nat} {value : Word} (mask : Word)
    (h : getF seqField value = d.rdF a seqField) :
    d.clearFlags a mask value = d.wr a (d.rd a &&& ~~~ (value &&& mask &&& ~~~ (Field.mask seqField))) := if_pos h

theorem clearFlags_of_seq_ne {d : Dev} {a : Nat} {value : Word} (mask : Word)
    (h : getF seqField value ≠ d.rdF a seqField) : d.clearFlags a mask value = d := if_neg h

/-- With the current SEQ a clearing write clears the SQ flags written as 1, with any other SEQ no bit. -/
theorem getLsbD_clearFlags (d : Dev) (a : Nat) (mask value : Word) {i : Nat} (hi : i < 32) :
    ((d.clearFlags a mask value).rd a).getLsbD i = ((d.rd a).getLsbD i &&
      !(getF seqField value == d.rdF a seqField && i < 24 && value.getLsbD i && mask.getLsbD i)) := by
  by_cases hseq : getF seqField value = d.rdF a seqField
  · have hout : (!(Field.mask seqField).getLsbD i) = decide (i < 24) := by
      rw [getLsbD_mask _ hi, ← decide_not, decide_eq_decide]
      simp only [seqField]
      omega
    rw [clearFlags_of_seq mask hseq, rd_wr_same]
    simp only [BitVec.getLsbD_and, BitVec.getLsbD_not, hi, hout, hseq, beq_self_eq_true, decide_true, Bool.true_and]
    ac_rfl
  · simp [clearFlags_of_seq_ne mask hseq, hseq]

theorem onlyRegs_clearFlags (d : Dev) (a : Nat) (mask value : Word) : d.OnlyRegs (d.clearFlags a mask value) [a] := by
  by_cases hseq : getF seqField value = d.rdF a seqField
  · rw [clearFlags_of_seq mask hseq]
    exact onlyRegs_wr d a _
  · rw [clearFlags_of_seq_ne mask hseq]
    exact onlyRegs_refl d [a]

theorem sqWrite_of_row {a : Nat} {r : RegRow} (hr : findRow a = some r) (d : Dev) (v : Word) :
    d.sqWrite a v false = d.clearFlags a r.sq v := by simp [Dev.sqWrite, hr]

/-- An event of the register in the same cycle goes first, so the write is ignored (R52). -/
theorem sqWrite_same (d : Dev) (a : Nat) (v : Word) : d.sqWrite a v true = d := by
  unfold Dev.sqWrite
  split <;> rfl

/-! Clearing pending bits (R60) -/

theorem rd_evClear (d : Dev) (m : Nat) (v same : Word) (x : Nat) :
    (d.evClear m v same).rd x = if x = R.HST_EVPEND m then d.rd (R.HST_EVPEND m) &&& ~~~ (v &&& ~~~ same)
      else d.rd x := rd_wr d _ x _

theorem queue_evClear (d : Dev) (m : Nat) (v same : Word) (q : Nat) : (d.evClear m v same).queue q = d.queue q := rfl

theorem evClear_frame (d : Dev) (m : Nat) (v same : Word) : d.evClear m v same =
    { d with regs := (d.evClear m v same).regs, queues := (d.evClear m v same).queues } := rfl

theorem getLsbD_evClear (d : Dev) (m : Nat) (v same : Word) {i : Nat} (hi : i < 32) :
    ((d.evClear m v same).rd (R.HST_EVPEND m)).getLsbD i
      = ((d.rd (R.HST_EVPEND m)).getLsbD i && !(v.getLsbD i && !same.getLsbD i)) := by
  simp [rd_evClear, hi]

/-- Settles O7: the three parts are the equations of a flag event, of a clearing write and of an event clear. -/
theorem flagsAndTheirClearing : Obligations.FlagsAndTheirClearing := by
  unfold Obligations.FlagsAndTheirClearing
  refine ⟨fun d a b hb => ?_, fun s addr value r hup hr => ?_, fun s m value same hup => ?_⟩
  · exact ⟨rdF_seq_flag d a hb, fun i => getLsbD_flag d a b, onlyRegs_wr d a _⟩
  · constructor
    · apply completes_of_up hup (exec_sqClear addr _ s)
      rw [sqWrite_of_row hr]
      exact ⟨fun i => getLsbD_clearFlags s.dev addr r.sq value, onlyRegs_clearFlags s.dev addr r.sq value⟩
    · exact exec_keeps_of_up hup (exec_sqClear addr _ s) (sqWrite_same s.dev addr value)
  · apply completes_of_up hup (exec_eventClear m _ s)
    exact ⟨fun i => getLsbD_evClear s.dev m value same, fun a ha => by rw [rd_evClear, if_neg ha],
      queue_evClear s.dev m value same, evClear_frame s.dev m value same⟩

/-! What shared operations do to the queues (R63, R64) -/

theorem getD_upd_same {α : Type} (l : List α) {i : Nat} (f : α → α) (x : α) (hi : i < l.length) :
    (upd l i f).getD i x = f (l.getD i x) := by
  induction l generalizing i with
  | nil => exact absurd hi (Nat.not_lt_zero i)
  | cons y t ih =>
    cases i with
    | zero => rfl
    | succ i => simpa [upd] using ih (Nat.lt_of_succ_lt_succ hi)

theorem getD_upd_other {α : Type} (l : List α) {i j : Nat} (f : α → α) (x : α) (h : j ≠ i) :
    (upd l i f).getD j x = l.getD j x := by
  induction l generalizing i j with
  | nil => rfl
  | cons y t ih =>
    cases i with
    | zero =>
      cases j with
      | zero => exact absurd rfl h
      | succ j => rfl
    | succ i =>
      cases j with
      | zero => rfl
      | succ j => simpa [upd] using ih (fun e => h (congrArg _ e))

theorem queue_setQueue_same (d : Dev) {q : Nat} (l : List QElem) (hq : q < d.queues.q.length) :
    (d.setQueue q l).queue q = l := getD_upd_same _ _ _ hq

theorem queue_setQueue_other (d : Dev) {p q : Nat} (l : List QElem) (h : p ≠ q) :
    (d.setQueue q l).queue p = d.queue p := getD_upd_other _ _ _ h

@[simp] theorem queue_setCounts (d : Dev) (f : List Nat → List Nat) (q : Nat) :
    (d.setCounts f).queue q = d.queue q := rfl

@[simp] theorem queue_flag (d : Dev) (a b q : Nat) : (d.flag a b).queue q = d.queue q := rfl

@[simp] theorem queue_evMark (d : Dev) (n q : Nat) : (d.evMark n).queue q = d.queue q := by
  unfold Dev.queue
  simp

theorem queue_evBump_other (d : Dev) (n : Nat) {q : Nat} (hq : q ≠ 49) : (d.evBump n).queue q = d.queue q := by
  unfold Dev.evBump
  split
  · exact queue_setQueue_other d _ hq
  · rfl

theorem queue_q49Full_other (d : Dev) {q : Nat} (hq : q ≠ 49) : d.q49Full.queue q = d.queue q := by
  unfold Dev.q49Full
  dsimp only
  split
  · rw [queue_evBump_other _ _ hq, queue_evMark, queue_flag]
  · rw [queue_evMark, queue_flag]

/-- Raising an event touches no queue but Q49 (R58). -/
theorem queue_raise_other (d : Dev) (n : Nat) {q : Nat} (hq : q ≠ 49) : (d.raise n).queue q = d.queue q := by
  unfold Dev.raise
  dsimp only
  split
  case isTrue pending => rw [queue_evBump_other _ _ hq, queue_evMark]
  case isFalse =>
    split
    case isTrue queued =>
      split
      case isTrue room => rw [queue_setCounts, queue_setQueue_other _ _ hq, queue_evMark]
      case isFalse full => rw [queue_q49Full_other _ hq, queue_evMark]
    case isFalse unqueued => exact queue_evMark d n q

/-! Placing an element (R63 to R65) -/

theorem push_of_full {d : Dev} {q : Nat} (bytes : List Byte) (ref : Option HostRef)
    (h : queueDepth q ≤ (d.queue q).length) : d.push q bytes ref = (d.flag (R.HST_QSTAT q) 16).raise 249 := by
  simp [Dev.push, Dev.hasRoom, Dev.refuse, Nat.not_lt.2 h]

theorem push_of_room {d : Dev} {q : Nat} (bytes : List Byte) (ref : Option HostRef)
    (h : (d.queue q).length < queueDepth q) :
    d.push q bytes ref = d.setQueue q (d.queue q ++ [d.elem (padTo (elemSize q) bytes) ref]) := by
  simp [Dev.push, Dev.hasRoom, h]

/-- Settles O9: a full queue's push is the refusal, which touches at most Q49; any other is a queue set. -/
theorem queuePush : Obligations.QueuePush := by
  unfold Obligations.QueuePush
  refine ⟨fun d q bytes ref hfull => ?_, fun d q bytes ref hroom hq hlen => ?_⟩
  · rw [push_of_full bytes ref hfull]
    exact ⟨rfl, fun h49 => by rw [queue_raise_other _ _ h49, queue_flag]⟩
  · rw [push_of_room bytes ref hroom]
    exact ⟨queue_setQueue_same d _ (hlen ▸ hq), fun p hp => queue_setQueue_other d _ hp, rfl⟩

end Sys2Proof.Machine
end

section
/-!
PROOFS. Universal inputs (chapter 04). The commands of schedule entries (R86, R88), the MUX and SAMPLE entries of a
scheduled converter (R106, R107) and the end of a settling delay (R104).
-/
namespace Sys2Proof.Machine

/-! Commands of schedule entries -/

section
variable {c : Instr} {s : State} {act target : Nat} {arg : Option Nat} {fb : Option Bool} {f : Dev → Dev}
  (hexec : exec c s = .next (s.onDev (fun d => d.whenUp (fun d => d.whenRuns act target arg fb f))))
include hexec

/-- An entry's command, where such an entry runs, makes its change of a running die. -/
theorem exec_of_entryRuns (hup : s.Up) (hruns : s.dev.entryRuns act target arg fb = true) :
    exec c s = .next (s.on (f s.dev)) := by
  rw [hexec, State.onDev, whenUp_of_up hup, Dev.whenRuns, if_pos hruns]
  rfl

/-- An entry's command, where no such entry runs, changes nothing, whether or not the die runs. -/
theorem exec_keeps_of_not_entryRuns (hidle : s.dev.entryRuns act target arg fb = false) : exec c s = .next s := by
  have hkeep : s.dev.whenRuns act target arg fb f = s.dev := if_neg (by simp [hidle])
  rw [hexec, State.onDev, Dev.whenUp, hkeep, ite_self]

end

/-- A command that answers one device over the same queue completes with what holds of that device. -/
theorem completes_of_exec_on {c : Instr} {s : State} {d : Dev} {P : Dev → Prop} (hexec : exec c s = .next (s.on d))
    (hP : P d) : Completes c s P := ⟨s.on d, hexec, rfl, hP⟩

theorem exec_mux (m : Fin 4) (arg : BitVec 8) (late : Bool) (s : State) :
    exec (.mux m arg late) s = .next (s.onDev (fun d => d.whenUp (fun d =>
      d.whenRuns 7 (96 + m.val) (some arg.toNat) none (fun d => (d.lateMark late).uMux m.val arg.toNat)))) := rfl

theorem exec_sample (target : Nat) (code : BitVec 16) (late : Bool) (s : State) :
    exec (.sample target code late) s = .next (s.onDev (fun d => d.whenUp (fun d =>
      d.whenRuns 1 target none none (fun d => d.schedSample target code late)))) := rfl

theorem exec_settleEnd (m : Fin 4) (s : State) :
    exec (.settleEnd m) s = .next (s.onDev (fun d => d.whenUp (fun d => d.uSettleEnd m.val))) := rfl

@[simp] theorem lateMark_false (d : Dev) : d.lateMark false = d := rfl

/-- A SAMPLE entry in time on a universal input is that input's own. -/
theorem schedSample_universal (d : Dev) {n : Nat} (hn : n < 48) (code : BitVec 16) :
    d.schedSample n code false = d.uSample n := by simp [Dev.schedSample, hn]

/-! The state of a converter -/

theorem scans_lt {d : Dev} (hshape : uinShape d) (m : Fin 4) : m.val < d.uin.scans.length := by
  obtain ⟨hscans, -⟩ := hshape
  exact lt_of_lt_of_eq m.isLt hscans.symm

theorem scan_setScan_same (d : Dev) {m : Nat} (f : UScan → UScan) (hm : m < d.uin.scans.length) :
    (d.setScan m f).scan m = f (d.scan m) := getD_upd_same _ f _ hm

theorem scan_setScan_other (d : Dev) {m k : Nat} (f : UScan → UScan) (hk : k ≠ m) :
    (d.setScan m f).scan k = d.scan k := getD_upd_other _ f _ hk

@[simp] theorem chans_setScan (d : Dev) (m : Nat) (f : UScan → UScan) :
    (d.setScan m f).uin.chans = d.uin.chans := rfl

/-- Once its settling delay runs, a converter is in the phase of the settling delay. -/
theorem phase_of_uSettling {d : Dev} {m : Nat} (h : d.uSettling m = true) : (d.scan m).phase = 1 := by
  simp only [Dev.uSettling, Bool.and_eq_true, beq_iff_eq] at h
  exact h.1

/-- The main conversion begins with or without a channel of the step. -/
theorem phase_uConvert (d : Dev) {m : Nat} (hm : m < d.uin.scans.length) : ((d.uConvert m).scan m).phase = 3 := by
  unfold Dev.uConvert
  split <;> rw [scan_setScan_same d _ hm]

/-- A step that starts is in its settling delay, with no SAMPLE held. -/
theorem scan_uStart_same (d : Dev) {m : Nat} (k : Nat) (hm : m < d.uin.scans.length) :
    (d.uStart m k).scan m = { d.scan m with
      phase := 1, step := k, sampled := false, drop := false, diag := false, since := d.clk } :=
  scan_setScan_same d _ hm

/-! MUX entries (R106) -/

/-- The step that a MUX entry's ARG selects. -/
def muxStep (d : Dev) (m : Nat) (arg : BitVec 8) : Nat :=
  if arg = 0xFF then (if (d.scan m).step + 1 ≥ (d.uconv m).len then 0 else (d.scan m).step + 1) else arg.toNat

section
variable {d : Dev} {m : Nat}

/-- An idle or waiting scheduled converter starts the step that ARG selects. -/
theorem uMux_of_idle (arg : BitVec 8) (hmode : (d.uconv m).mode = 2)
    (hidle : (d.scan m).phase = 0 ∨ (d.scan m).phase = 2) : d.uMux m arg.toNat = d.uStart m (muxStep d m arg) := by
  have harg : arg.toNat = 0xFF ↔ arg = 0xFF := by rw [← BitVec.toNat_inj]; rfl
  simp [Dev.uMux, muxStep, hmode, hidle, harg]

/-- While a step runs, the entry is dropped. -/
theorem uMux_of_running (arg : Nat) (hmode : (d.uconv m).mode = 2) (h0 : (d.scan m).phase ≠ 0)
    (h2 : (d.scan m).phase ≠ 2) :
    d.uMux m arg = (d.incF (R.UIN_SCCNT m) F.UIN_SCCNT_DROPS).flagEv (R.UIN_SCSTAT m) 21 48 := by
  simp [Dev.uMux, hmode, h0, h2]

end

/-! SAMPLE entries and the end of the settling delay (R104, R107) -/

/-- Whether the step in progress is one that a SAMPLE entry for channel n begins. -/
def stepTakesSample (d : Dev) (m n : Nat) : Bool :=
  (stepNow d m).kind == 0 && (stepNow d m).entryStart && (stepNow d m).chan == n

section
variable {d : Dev} {m n : Nat}

theorem stepTakesSample_iff : stepTakesSample d m n = true ↔
    (stepNow d m).kind = 0 ∧ (stepNow d m).entryStart = true ∧ (stepNow d m).chan = n := by
  simp [stepTakesSample, and_assoc]

/-- A SAMPLE entry on the converter of its channel: held, beginning the conversion, or skipped. -/
theorem uSample_eq (hdiv : n / 12 = m) : d.uSample n =
    if stepTakesSample d m n && d.uSettling m then d.setScan m (fun x => { x with sampled := true })
    else if stepTakesSample d m n && (d.scan m).phase == 2 then d.uConvert m
    else (d.incF (R.UIN_SCCNT m) F.UIN_SCCNT_SKIPS).flagEv (R.UIN_SCSTAT m) 20 49 := by
  subst hdiv
  rfl

theorem uSample_of_settling (hdiv : n / 12 = m) (htakes : stepTakesSample d m n = true)
    (hsettling : d.uSettling m = true) : d.uSample n = d.setScan m (fun x => { x with sampled := true }) := by
  simp [uSample_eq hdiv, htakes, hsettling]

theorem uSample_of_waiting (hdiv : n / 12 = m) (htakes : stepTakesSample d m n = true)
    (hwait : (d.scan m).phase = 2) : d.uSample n = d.uConvert m := by
  have hsettled : d.uSettling m = false := by simp [Dev.uSettling, hwait]
  simp [uSample_eq hdiv, htakes, hsettled, hwait]

theorem uSample_of_untimely (hdiv : n / 12 = m)
    (hnot : ¬ (stepTakesSample d m n = true ∧ (d.uSettling m = true ∨ (d.scan m).phase = 2))) :
    d.uSample n = (d.incF (R.UIN_SCCNT m) F.UIN_SCCNT_SKIPS).flagEv (R.UIN_SCSTAT m) 20 49 := by
  cases htakes : stepTakesSample d m n
  case false => simp [uSample_eq hdiv, htakes]
  case true =>
    obtain ⟨hsettled, hwait⟩ := not_or.1 (fun h => hnot ⟨htakes, h⟩)
    simp [uSample_eq hdiv, hsettled, hwait]

/-- At the end of its settling delay an ENTRY step with a SAMPLE held begins its conversion; without one it waits. -/
theorem phase_uSettleEnd_entry (hm : m < d.uin.scans.length) (hphase : (d.scan m).phase = 1)
    (hstart : (stepNow d m).entryStart = true) :
    ((d.uSettleEnd m).scan m).phase = if (d.scan m).sampled then 3 else 2 := by
  simp only [stepNow] at hstart
  cases hheld : (d.scan m).sampled
  case true => simp [Dev.uSettleEnd, hphase, hheld, phase_uConvert d hm]
  case false => simp [Dev.uSettleEnd, hphase, hstart, hheld, scan_setScan_same d _ hm]

/-- An AUTO step begins its conversion at the end of its settling delay. -/
theorem phase_uSettleEnd_auto (hm : m < d.uin.scans.length) (hphase : (d.scan m).phase = 1)
    (hstart : (stepNow d m).entryStart = false) : ((d.uSettleEnd m).scan m).phase = 3 := by
  simp only [stepNow] at hstart
  simp [Dev.uSettleEnd, hphase, hstart, phase_uConvert d hm]

end

/-- Settles O18: each command acts where its entry runs, and the phase of the scan decides what it does. -/
theorem scanEntries : Obligations.ScanEntries := by
  unfold Obligations.ScanEntries
  refine ⟨⟨fun s m arg hup hshape hmode hruns hidle => ?starts,
    fun s m arg hup hmode hruns h0 h2 => ?drops,
    fun s m arg late hnone => exec_keeps_of_not_entryRuns (exec_mux m arg late s) hnone⟩,
    fun s m n hup hshape hdiv hn => ?samples⟩
  case starts =>
    have hm := scans_lt hshape m
    have hscan := scan_uStart_same s.dev (muxStep s.dev m.val arg) hm
    apply completes_of_exec_on (exec_of_entryRuns (exec_mux m arg false s) hup hruns)
    rw [lateMark_false, uMux_of_idle arg hmode hidle, hscan]
    exact ⟨rfl, rfl, rfl, fun k hk => scan_setScan_other s.dev _ hk, rfl⟩
  case drops =>
    rw [exec_of_entryRuns (exec_mux m arg false s) hup hruns, lateMark_false, uMux_of_running _ hmode h0 h2]
    rfl
  case samples =>
    have hm := scans_lt hshape m
    have hexec (hruns : s.dev.entryRuns 1 n none none = true) :
        exec (.sample n 0 false) s = .next (s.on (s.dev.uSample n)) := by
      rw [exec_of_entryRuns (exec_sample n 0 false s) hup hruns, schedSample_universal s.dev hn]
    refine ⟨fun hkind hstart hchan =>
      have htakes := stepTakesSample_iff.2 ⟨hkind, hstart, hchan⟩
      ⟨fun hruns hsettling => ?held, fun hruns hwait => ?begun, fun hphase => ?ends⟩,
      fun hauto hphase => ?auto, exec_keeps_of_not_entryRuns (exec_sample n 0 false s), fun hruns hnot => ?skipped⟩
    case held =>
      apply completes_of_exec_on (hexec hruns)
      rw [uSample_of_settling hdiv htakes hsettling, scan_setScan_same s.dev _ hm]
      exact ⟨rfl, phase_of_uSettling hsettling⟩
    case begun =>
      apply completes_of_exec_on (hexec hruns)
      rw [uSample_of_waiting hdiv htakes hwait]
      exact phase_uConvert s.dev hm
    case ends => exact completes_of_up hup (exec_settleEnd m s) (phase_uSettleEnd_entry hm hphase hstart)
    case auto => exact completes_of_up hup (exec_settleEnd m s) (phase_uSettleEnd_auto hm hphase hauto)
    case skipped =>
      rw [hexec hruns, uSample_of_untimely hdiv (by rwa [stepTakesSample_iff, and_assoc, and_assoc])]
      rfl

end Sys2Proof.Machine
end

section
/-!
PROOFS. The step of the machine (chapters 00 and 19): what each command makes of the device, that no command stops the
block, that a die that does not run does nothing, and what every step keeps.
-/
namespace Sys2Proof.Machine

/-! What a command makes of the device -/

/-- The device that a command leaves. -/
def effect (c : Instr) (d : Dev) : Dev :=
  match exec c ⟨d, []⟩ with
  | .next t => t.dev
  | .fault _ | .refused _ => d

/-- Every command answers the machine with its effect on the device. -/
theorem exec_eq_effect (c : Instr) (s : State) : exec c s = .next (s.onDev (effect c)) := by
  cases c <;> rfl

/-- Settles O2: a command's answer is the machine with its device changed, over the same queue. -/
theorem everyCommandAnswersNext : Obligations.EveryCommandAnswersNext := by
  unfold Obligations.EveryCommandAnswersNext
  exact fun c s => ⟨s.onDev (effect c), exec_eq_effect c s, rfl, trivial⟩

/-- A command that does not act while the die is down makes its change of a running die alone. -/
theorem effect_of_down {c : Instr} {d : Dev} (hacts : actsWhileDown c = false) (hdown : d.pwr.boot ≠ 3) :
    effect c d = d := by
  cases c
  case idealDiodeReverse | feedGateOn | feedRangeChange | powerFailWarning | pfwClear | feedlossReset | railReset
      | vhvlowChange | powerGood | resetRelease | startUp | sleepEnter | wake | ejectAssert | ejectRelease | eraseDone
      | ownclrEnter | ownclrTimeout | domeSupplySwitch | domeRetentionLoss | oscStop | oscRestart | slewIncrement
      | alarmFire | canWake | pairHoldRelease | uinClamp => cases hacts
  all_goals exact if_neg hdown

/-- Settles O3: such a command's effect is guarded by the running die. -/
theorem downDeviceDoesNothing : Obligations.DownDeviceDoesNothing := by
  unfold Obligations.DownDeviceDoesNothing
  intro c s hacts hdown
  rw [exec_eq_effect, State.onDev, effect_of_down hacts hdown]

/-! Power-on -/

/-- Settles O4: power-on leaves no register cell, so every register reads its reset word, and no queue element. -/
theorem resetLeavesResetWords : Obligations.ResetLeavesResetWords := by
  unfold Obligations.ResetLeavesResetWords
  have hqueue (q : Nat) : State.reset.dev.queue q = [] := by
    show (List.replicate 64 ([] : List QElem)).getD q [] = []
    rw [List.getD_eq_getElem?_getD, List.getElem?_replicate]
    split <;> rfl
  exact ⟨rfl, fun _ => rfl, hqueue, rfl, rfl, rfl, rfl⟩

/-- Settles O5: the laws of a register write. -/
theorem registerReadAfterWrite : Obligations.RegisterReadAfterWrite := by
  unfold Obligations.RegisterReadAfterWrite
  exact fun d a w => ⟨rd_wr_same d a w, onlyRegs_wr d a w⟩

/-- Settles O58: every part of the device at power-on is written out with its shape. -/
theorem resetIsSane : Obligations.ResetIsSane := by
  unfold Obligations.ResetIsSane
  refine ⟨⟨rfl, rfl, rfl⟩, ?_, Nat.le_refl _⟩
  constructor <;> decide

/-! What every command keeps -/

/-- A change by an entry that runs in the schedule keeps what the change itself keeps. -/
theorem entry_kept {z d : Dev} {act target : Nat} {arg : Option Nat} {fb : Option Bool} {f : Dev → Dev}
    (k : Kept z d) (h : ∀ d, Kept z d → Kept z (f d)) : Kept z (d.whenUp (fun d => d.whenRuns act target arg fb f)) :=
  whenUp_kept _ k (fun _ k => whenRuns_kept act target arg fb f k h)

theorem diRun_kept {z d : Dev} (n : Nat) (is : List Int) (k : Kept z d) : Kept z (d.diRun n is) := by
  induction is generalizing d with
  | nil => exact k
  | cons i is ih => exact ih (diSample_kept n i is.length k)

/-- Every command keeps the clock, the version counter, the shape and the canonical forms. -/
theorem effect_kept {z d : Dev} (c : Instr) (hk : Kept z d) : Kept z (effect c d) := by
  cases c with
  | sampleLatch evalUs commitUs =>
    exact whenUp_kept (fun d => d.sampleLatch evalUs commitUs) hk (fun _ hk => sampleLatch_kept _ _ hk)
  | evalDeadline => exact whenUp_kept (fun d => d.evalDeadline) hk (fun _ hk => evalDeadline_kept hk)
  | commitDeadline => exact whenUp_kept (fun d => d.commitDeadline) hk (fun _ hk => commitDeadline_kept hk)
  | emit => exact whenUp_kept (fun d => d.emit) hk (fun _ hk => emit_kept hk)
  | mirrorDone => exact whenUp_kept (fun d => d.mirrorDone) hk (fun _ hk => mirrorDone_kept hk)
  | clockWindow measured outOfLimit =>
    exact whenUp_kept (fun d => d.clockWindow measured outOfLimit) hk (fun _ hk => clockWindow_kept _ _ hk)
  | timingmaxClr => exact whenUp_kept (fun d => d.timingmaxClr) hk (fun _ hk => timingmaxClr_kept hk)
  | turnnumLoRead => exact whenUp_kept (fun d => d.turnnumLoRead) hk (fun _ hk => turnnumLoRead_kept hk)
  | write frame => exact whenUp_kept (fun d => d.hostWrite frame) hk (fun _ hk => hostWrite_kept _ hk)
  | keygateOpen sess => exact whenUp_kept (fun d => d.keyWrite sess keyValue) hk (fun _ hk => keyWrite_kept _ _ hk)
  | keygateClose sess key => exact whenUp_kept (fun d => d.keyWrite sess key) hk (fun _ hk => keyWrite_kept _ _ hk)
  | keygateTimeout => exact whenUp_kept (fun d => d.keyTimeout) hk (fun _ hk => keyTimeout_kept hk)
  | sqClear addr w =>
    exact whenUp_kept (fun d => d.sqWrite addr w.value w.same) hk (fun _ hk => sqWrite_kept _ _ _ hk)
  | eventClear m w =>
    exact whenUp_kept (fun d => d.evClear m.val w.value w.same) hk (fun _ hk => evClear_kept _ _ _ hk)
  | xchEnWrite sess n w =>
    exact whenUp_kept (fun d => d.fEnWrite sess (.xch n) w.en w.same) hk (fun _ hk => fEnWrite_kept _ _ _ _ hk)
  | loopSupplyEnWrite sess n w =>
    exact whenUp_kept (fun d => d.fEnWrite sess (.supply n) w.en w.same) hk (fun _ hk => fEnWrite_kept _ _ _ _ hk)
  | qchPwrEnWrite sess n w =>
    exact whenUp_kept (fun d => d.fEnWrite sess (.qch n) w.en w.same) hk (fun _ hk => fEnWrite_kept _ _ _ _ hk)
  | panelEnWrite sess w =>
    exact whenUp_kept (fun d => d.fEnWrite sess .panel w.en w.same) hk (fun _ hk => fEnWrite_kept _ _ _ _ hk)
  | linkEnWrite sess w =>
    exact whenUp_kept (fun d => d.fEnWrite sess .link w.en w.same) hk (fun _ hk => fEnWrite_kept _ _ _ _ hk)
  | startupSeqDone f => exact whenUp_kept (fun d => d.fStartDone f) hk (fun _ hk => fStartDone_kept _ hk)
  | shutdownSeqDone f => exact whenUp_kept (fun d => d.fShutDone f) hk (fun _ hk => fShutDone_kept _ hk)
  | queueGrant ready => exact whenUp_kept (fun d => d.queueGrant ready) hk (fun _ hk => queueGrant_kept _ hk)
  | queuePromote q => exact whenUp_kept (fun d => d.queuePromote q.val) hk (fun _ hk => queuePromote_kept _ hk)
  | promocntClr => exact whenUp_kept (fun d => d.promocntClr) hk (fun _ hk => promocntClr_kept hk)
  | angleEdge m peak level =>
    exact whenUp_kept (fun d => d.angleEdge m.val peak level) hk (fun _ hk => angleEdge_kept _ _ _ hk)
  | standstillTimeout b => exact whenUp_kept (fun d => d.standstill b.val) hk (fun _ hk => standstill_kept _ hk)
  | nop => exact entry_kept hk (fun _ hk => schedNop_kept _ hk)
  | sample => exact entry_kept hk (fun _ hk => schedSample_kept _ _ _ hk)
  | winopen => exact entry_kept hk (fun _ hk => qWinOpen_kept _ _ _ (lateMark_kept _ hk))
  | winclose => exact entry_kept hk (fun _ hk => qWinClose_kept _ _ _ (lateMark_kept _ hk))
  | qreset => exact entry_kept hk (fun _ hk => qReset_kept _ _ _ (lateMark_kept _ hk))
  | range => exact entry_kept hk (fun _ hk => qRange_kept _ _ _ (lateMark_kept _ hk))
  | cycle => exact entry_kept hk (fun _ hk => qCycle_kept _ _ (lateMark_kept _ hk))
  | mux => exact entry_kept hk (fun _ hk => uMux_kept _ _ (lateMark_kept _ hk))
  | latecntClr => exact whenUp_kept (fun d => d.latecntClr) hk (fun _ hk => latecntClr_kept hk)
  | jumpClr b => exact whenUp_kept (fun d => d.jumpClr b.val) hk (fun _ hk => jumpClr_kept _ hk)
  | settleEnd sc => exact whenUp_kept (fun d => d.uSettleEnd sc.val) hk (fun _ hk => uSettleEnd_kept _ hk)
  | uinConversionEnd sc code =>
    exact whenUp_kept (fun d => d.uConvEnd sc.val code) hk (fun _ hk => uConvEnd_kept _ _ hk)
  | leadConversionEnd sc code =>
    exact whenUp_kept (fun d => d.uLeadEnd sc.val code) hk (fun _ hk => uLeadEnd_kept _ _ hk)
  | postcheckEnd sc rloop checks =>
    exact whenUp_kept (fun d => d.uPostEnd sc.val rloop checks) hk (fun _ hk => uPostEnd_kept _ _ _ hk)
  | refchkEnd sc code => exact whenUp_kept (fun d => d.uRefEnd sc.val code) hk (fun _ hk => uRefEnd_kept _ _ hk)
  | uinClamp n => exact uClamp_kept n.val hk
  | diagRequest n req =>
    exact whenUp_kept (fun d => d.uDiagRequest n.val req) hk (fun _ hk => uDiagRequest_kept _ _ hk)
  | gridPoint n j => exact whenUp_kept (fun d => d.gridPoint n.val j) hk (fun _ hk => gridPoint_kept _ _ hk)
  | timeSample n => exact whenUp_kept (fun d => d.timeSample n.val) hk (fun _ hk => timeSample_kept _ hk)
  | qchConversionDone n code ovl =>
    exact whenUp_kept (fun d => d.qConvDone n.val code ovl) hk (fun _ hk => qConvDone_kept _ _ _ hk)
  | rangeResetEnd n => exact whenUp_kept (fun d => d.qRangeEnd n.val) hk (fun _ hk => qRangeEnd_kept _ hk)
  | cycleComputed n => exact whenUp_kept (fun d => d.qComputed n.val) hk (fun _ hk => qComputed_kept _ hk)
  | testSequenceDone n c0 c1a c1 c2 =>
    exact whenUp_kept (fun d => d.qTestDone n.val c0 c1a c1 c2) hk (fun _ hk => qTestDone_kept _ _ _ _ _ hk)
  | feedElement bytes => exact whenUp_kept (fun d => d.qFeedIn bytes) hk (fun _ hk => qFeedIn_kept _ hk)
  | drivePeriodEnd n samples irms limit lockPhase err =>
    exact whenUp_kept (fun d => d.xPeriod n.val samples irms limit.val lockPhase err) hk
      (fun _ hk => xPeriod_kept _ _ _ _ _ _ hk)
  | demodPeriodEnd n => exact whenUp_kept (fun d => d.xDemod n.val) hk (fun _ hk => xDemod_kept _ hk)
  | trimWrite n value => exact whenUp_kept (fun d => d.xTrimWrite n.val value) hk (fun _ hk => xTrimWrite_kept _ _ hk)
  | loopConversionEnd n raw isup limUs =>
    exact whenUp_kept (fun d => d.lConvEnd n.val raw isup limUs) hk (fun _ hk => lConvEnd_kept _ _ _ _ hk)
  | tstartEnd n => exact whenUp_kept (fun d => d.lTstartEnd n.val) hk (fun _ hk => lTstartEnd_kept _ hk)
  | hartTransactionStart n => exact whenUp_kept (fun d => d.hartStart n.val) hk (fun _ hk => hartStart_kept _ hk)
  | hartFrameReceived n frame bad =>
    exact whenUp_kept (fun d => d.hartFrame n.val frame bad) hk (fun _ hk => hartFrame_kept _ _ _ hk)
  | hartResponseTimeout n => exact whenUp_kept (fun d => d.hartTimeout n.val) hk (fun _ hk => hartTimeout_kept _ hk)
  | hartPoll n => exact whenUp_kept (fun d => d.hartPoll n.val) hk (fun _ hk => hartPoll_kept _ hk)
  | hartStale n => exact whenUp_kept (fun d => d.hartStale n.val) hk (fun _ hk => hartStale_kept _ hk)
  | hartcmd ref ok n elem =>
    exact whenUp_kept (fun d => d.opCommand (.host ref ok) 0x31 (byteOf n.toNat :: elem)) hk
      (fun _ hk => opCommand_kept _ _ _ hk)
  | osetWrite sess n value =>
    exact whenUp_kept (fun d => d.osetWrite sess n.val value) hk (fun _ hk => osetWrite_kept _ _ _ hk)
  | complTimer n deviates actual =>
    exact whenUp_kept (fun d => d.loCompl n.val deviates actual) hk (fun _ hk => loCompl_kept _ _ _ hk)
  | contactAccept n before last =>
    exact whenUp_kept (fun d => d.diRun n.val (before ++ [last])) hk (fun _ hk => diRun_kept _ _ hk)
  | lineFault n before last =>
    exact whenUp_kept (fun d => d.diRun n.val (before ++ [last])) hk (fun _ hk => diRun_kept _ _ hk)
  | contactClamp n on => exact whenUp_kept (fun d => d.diClamp n.val on) hk (fun _ hk => diClamp_kept _ _ hk)
  | feedbackTimeout m mismatch =>
    exact whenUp_kept (fun d => d.doFeedback m.val mismatch) hk (fun _ hk => doFeedback_kept _ _ hk)
  | pulseTestStart m => exact whenUp_kept (fun d => d.ptStart m.val) hk (fun _ hk => ptStart_kept _ hk)
  | pulseTestEnd m fb => exact whenUp_kept (fun d => d.ptEnd m.val fb) hk (fun _ hk => ptEnd_kept _ _ hk)
  | pulseTestVerdict m fb => exact whenUp_kept (fun d => d.ptVerdict m.val fb) hk (fun _ hk => ptVerdict_kept _ _ hk)
  | hostsetWrite sess reg31 value =>
    exact whenUp_kept (fun d => d.hostsetWrite sess reg31 value) hk (fun _ hk => hostsetWrite_kept _ _ _ hk)
  | ack src point kind =>
    exact whenUp_kept (fun d => d.opCommand src 0x01 (leBytes 2 point.toNat ++ [kind])) hk
      (fun _ hk => opCommand_kept _ _ _ hk)
  | ackpoint src point =>
    exact whenUp_kept (fun d => d.opCommand src 0x02 (leBytes 2 point.toNat)) hk (fun _ hk => opCommand_kept _ _ _ hk)
  | inhibit src point mask =>
    exact whenUp_kept (fun d => d.opCommand src 0x03 (leBytes 2 point.toNat ++ leBytes 2 mask.toNat)) hk
      (fun _ hk => opCommand_kept _ _ _ hk)
  | uninhibit src point mask =>
    exact whenUp_kept (fun d => d.opCommand src 0x04 (leBytes 2 point.toNat ++ leBytes 2 mask.toNat)) hk
      (fun _ hk => opCommand_kept _ _ _ hk)
  | oos src point =>
    exact whenUp_kept (fun d => d.opCommand src 0x05 (leBytes 2 point.toNat)) hk (fun _ hk => opCommand_kept _ _ _ hk)
  | rts src point =>
    exact whenUp_kept (fun d => d.opCommand src 0x06 (leBytes 2 point.toNat)) hk (fun _ hk => opCommand_kept _ _ _ hk)
  | writept src point value status =>
    exact whenUp_kept (fun d => d.opCommand src 0x07 (leBytes 2 point.toNat ++ leBytes 4 value.toNat ++ [status])) hk
      (fun _ hk => opCommand_kept _ _ _ hk)
  | hostPointStale h => exact whenUp_kept (fun d => d.hostPointStale h.val) hk (fun _ hk => hostPointStale_kept _ hk)
  | alarmDelayExpire p k =>
    exact whenUp_kept (fun d => d.alarmDelay p.val k.val) hk (fun _ hk => alarmDelay_kept _ _ hk)
  | rateWindow p => exact whenUp_kept (fun d => d.rateWindow p.val) hk (fun _ hk => rateWindow_kept _ hk)
  | timerCellExpire t => exact whenUp_kept (fun d => d.timerExpire t.val) hk (fun _ hk => timerExpire_kept _ hk)
  | setduty src eng =>
    exact whenUp_kept (fun d => d.opCommand src 0x11 [eng]) hk (fun _ hk => opCommand_kept _ _ _ hk)
  | accept src station =>
    exact whenUp_kept (fun d => d.opCommand src 0x12 [station]) hk (fun _ hk => opCommand_kept _ _ _ hk)
  | stationack src station =>
    exact whenUp_kept (fun d => d.opCommand src 0x13 [station]) hk (fun _ hk => opCommand_kept _ _ _ hk)
  | presence src eng present =>
    exact whenUp_kept (fun d => d.opCommand src 0x14 [eng, present]) hk (fun _ hk => opCommand_kept _ _ _ hk)
  | watch src on => exact whenUp_kept (fun d => d.opCommand src 0x15 [on]) hk (fun _ hk => opCommand_kept _ _ _ hk)
  | watchreset src => exact whenUp_kept (fun d => d.opCommand src 0x16 []) hk (fun _ hk => opCommand_kept _ _ _ hk)
  | stationPress k => exact whenUp_kept (fun d => d.stationPress k.val) hk (fun _ hk => stationPress_kept _ hk)
  | watchContactReset k => exact whenUp_kept (fun d => d.watchDue) hk (fun _ hk => watchDue_kept hk)
  | dutySwitchAct => exact whenUp_kept (fun d => d.dutySwitchAct) hk (fun _ hk => dutySwitchAct_kept hk)
  | dutyScheduleAct => exact whenUp_kept (fun d => d.dutyScheduleAct) hk (fun _ hk => dutyScheduleAct_kept hk)
  | chainEscalate c => exact whenUp_kept (fun d => d.chainDue c.val) hk (fun _ hk => chainDue_kept _ hk)
  | chainRearm c => exact whenUp_kept (fun d => d.chainDue c.val) hk (fun _ hk => chainDue_kept _ hk)
  | watchPre => exact whenUp_kept (fun d => d.watchDue) hk (fun _ hk => watchDue_kept hk)
  | watchExpire => exact whenUp_kept (fun d => d.watchDue) hk (fun _ hk => watchDue_kept hk)
  | ledgerDrain => exact whenUp_kept (fun d => d.drain) hk (fun _ hk => drain_kept hk)
  | checkpointSigned => exact whenUp_kept (fun d => d.checkpointSigned) hk (fun _ hk => checkpointSigned_kept hk)
  | sealWrite us => exact whenUp_kept (fun d => d.sealWrite us) hk (fun _ hk => sealWrite_kept _ hk)
  | journalExport => exact whenUp_kept (fun d => d.exportAll) hk (fun _ hk => exportAll_kept hk)
  | expackWrite seqlo =>
    exact whenUp_kept (fun d => d.expackWrite 0 (BitVec.ofNat 32 seqlo.toNat)) hk
      (fun _ hk => expackWrite_kept _ _ hk)
  | poolClr => exact whenUp_kept (fun d => d.poolClr) hk (fun _ hk => poolClr_kept hk)
  | holdcntClr => exact whenUp_kept (fun d => d.holdcntClr) hk (fun _ hk => holdcntClr_kept hk)
  | headLoRead => exact whenUp_kept (fun d => d.headLoRead) hk (fun _ hk => headLoRead_kept hk)
  | wmarkLoRead => exact whenUp_kept (fun d => d.wmarkLoRead) hk (fun _ hk => wmarkLoRead_kept hk)
  | ckptLoRead => exact whenUp_kept (fun d => d.ckptLoRead) hk (fun _ hk => ckptLoRead_kept hk)
  | canFrameReceived ch stamp esi frame =>
    exact whenUp_kept (fun d => d.canFrame ch.val stamp esi frame) hk (fun _ hk => canFrame_kept _ _ _ _ hk)
  | txBufferLoad ch k => exact whenUp_kept (fun d => d.txLoad ch.val k.val) hk (fun _ hk => txLoad_kept _ _ hk)
  | txComplete ch k stamp =>
    exact whenUp_kept (fun d => d.txComplete ch.val k.val stamp) hk (fun _ hk => txComplete_kept _ _ _ hk)
  | txError ch k lec arb quiet =>
    exact whenUp_kept (fun d => d.txError ch.val k.val lec arb quiet) hk (fun _ hk => txError_kept _ _ _ _ _ hk)
  | busoffRecovery ch =>
    exact whenUp_kept (fun d => d.busoffRecovery ch.val) hk (fun _ hk => busoffRecovery_kept _ hk)
  | txcancel ch cmdid phase =>
    exact whenUp_kept (fun d => d.txCancel ch.val cmdid.toNat phase.val) hk (fun _ hk => txCancel_kept _ _ _ hk)
  | rxwinLock ch => exact whenUp_kept (fun d => d.rxLock ch.val) hk (fun _ hk => rxLock_kept _ hk)
  | rxwinRelease ch => exact whenUp_kept (fun d => d.rxRelease ch.val) hk (fun _ hk => rxRelease_kept _ hk)
  | rxunlock ch => exact whenUp_kept (fun d => d.rxUnlock ch.val) hk (fun _ hk => rxUnlock_kept _ hk)
  | backlogPlace ch => exact whenUp_kept (fun d => d.backlogPlace ch.val) hk (fun _ hk => backlogPlace_kept _ hk)
  | markLoRead ch => exact whenUp_kept (fun d => d.markLoRead ch.val) hk (fun _ hk => markLoRead_kept _ hk)
  | remotePointStale p => exact whenUp_kept (fun d => d.remoteStale p.val) hk (fun _ hk => remoteStale_kept _ hk)
  | canWake w => exact canWake_kept w.ch.val w.dominant.toNat w.frame hk
  | canIntegrated ch => exact whenUp_kept (fun d => d.canIntegrated ch.val) hk (fun _ hk => canIntegrated_kept _ hk)
  | canframe ref ok ch flags id data =>
    exact whenUp_kept (fun d =>
        d.opCommand (.host ref ok) 0x32 ([ch, flags] ++ leBytes 4 id.toNat ++ byteOf data.length :: data)) hk
      (fun _ hk => opCommand_kept _ _ _ hk)
  | tokenFree granted => exact whenUp_kept (fun d => d.tokenFree granted) hk (fun _ hk => tokenFree_kept _ hk)
  | pairHoldRelease => exact holdRelease_kept hk
  | roleMsg bytes => exact whenUp_kept (fun d => d.roleMsg bytes) hk (fun _ hk => roleMsg_kept _ hk)
  | linkTrainingDone lanes auth =>
    exact whenUp_kept (fun d => d.linkTrainingDone lanes auth) hk (fun _ hk => linkTrainingDone_kept _ _ hk)
  | linkLost => exact whenUp_kept (fun d => d.linkLostRow) hk (fun _ hk => linkLostRow_kept hk)
  | laneDegraded lane => exact whenUp_kept (fun d => d.laneDegraded lane.val) hk (fun _ hk => laneDegraded_kept _ hk)
  | linkBlockReceived q seq crcOk bytes ack =>
    exact whenUp_kept (fun d => d.linkBlock q.val seq crcOk bytes ack) hk (fun _ hk => linkBlock_kept _ _ _ _ _ hk)
  | linkBlockTimeout q => exact whenUp_kept (fun d => d.blockTimeout q.val) hk (fun _ hk => blockTimeout_kept _ hk)
  | turnStartSet turn => exact whenUp_kept (fun d => d.turnStart turn) hk (fun _ hk => turnStart_kept _ hk)
  | inputDelta image rel =>
    exact whenUp_kept (fun d => d.inputDelta image rel) hk (fun _ hk => inputDelta_kept _ _ hk)
  | commitend turn entries digest =>
    exact whenUp_kept (fun d => d.commitEnd turn.toNat entries digest) hk (fun _ hk => commitEnd_kept _ _ _ hk)
  | ackMsg bytes => exact whenUp_kept (fun d => d.ackMsg bytes) hk (fun _ hk => ackMsg_kept _ hk)
  | nakMsg bytes => exact whenUp_kept (fun d => d.nakMsg bytes) hk (fun _ hk => nakMsg_kept _ hk)
  | mirrorBlock turn mirror =>
    exact whenUp_kept (fun d => d.mirrorBlock turn.toNat mirror) hk (fun _ hk => mirrorBlock_kept _ _ hk)
  | healthMsg bytes => exact whenUp_kept (fun d => d.healthMsg bytes) hk (fun _ hk => healthMsg_kept _ hk)
  | healthTimeout => exact whenUp_kept (fun d => d.healthTimeout) hk (fun _ hk => healthTimeout_kept hk)
  | fastSelftestDone res => exact whenUp_kept (fun d => d.selftestDone res) hk (fun _ hk => selftestDone_kept _ hk)
  | stresMsg bytes => exact whenUp_kept (fun d => d.stresMsg bytes) hk (fun _ hk => stresMsg_kept _ hk)
  | castlingDecide => exact whenUp_kept (fun d => d.castlingDecide) hk (fun _ hk => castlingDecide_kept hk)
  | yieldMsg bytes => exact whenUp_kept (fun d => d.yieldMsg bytes) hk (fun _ hk => yieldMsg_kept _ hk)
  | resetcmdMsg => exact whenUp_kept (fun d => d.resetcmdMsg) hk (fun _ hk => resetcmdMsg_kept hk)
  | happenMsg kind payload =>
    exact whenUp_kept (fun d => d.happenMsg kind payload) hk (fun _ hk => happenMsg_kept _ _ hk)
  | heartbeatLoss => exact whenUp_kept (fun d => d.heartbeatLoss) hk (fun _ hk => heartbeatLoss_kept hk)
  | startClaim lineFree idHigh peerNext =>
    exact whenUp_kept (fun d => d.startClaim lineFree idHigh peerNext) hk (fun _ hk => startClaim_kept _ _ _ hk)
  | rejoinState => exact whenUp_kept _ hk (fun _ hk => rejoinState_kept _ _ _ _ _ hk)
  | rejoinCutover turn agreed pool =>
    exact whenUp_kept (fun d => d.rejoinCutover turn.toNat agreed.toNat pool) hk
      (fun _ hk => rejoinCutover_kept _ _ _ hk)
  | handover sess => exact whenUp_kept (fun d => d.handover sess) hk (fun _ hk => handover_kept _ hk)
  | ejectAssert => exact ejectAssert_kept hk
  | ejectRelease => exact ejectRelease_kept hk
  | dangerousFault code detail =>
    exact whenUp_kept (fun d => d.dangerousFault code detail) hk (fun _ hk => dangerousFault_kept _ _ hk)
  | watchtowerReset => exact whenUp_kept (fun d => d.watchtowerReset) hk (fun _ hk => watchtowerReset_kept hk)
  | latentTestDone t pass =>
    exact whenUp_kept (fun d => d.latentDone t.val pass) hk (fun _ hk => latentDone_kept _ _ hk)
  | latentTestOverdue t => exact whenUp_kept (fun d => d.latentOverdue t.val) hk (fun _ hk => latentOverdue_kept _ hk)
  | imgload frame => exact whenUp_kept (fun d => d.hostImage frame) hk (fun _ hk => hostImage_kept _ hk)
  | imageVerified => exact whenUp_kept (fun d => d.imageJudged) hk (fun _ hk => imageJudged_kept hk)
  | peerReady ready => exact whenUp_kept (fun d => d.peerReady ready) hk (fun _ hk => peerReady_kept _ hk)
  | swap sess => exact whenUp_kept (fun d => d.swap sess) hk (fun _ hk => swap_kept _ hk)
  | swapNotice turn hash =>
    exact whenUp_kept (fun d => d.swapNotice turn.toNat hash) hk (fun _ hk => swapNotice_kept _ _ hk)
  | swapLatch => exact whenUp_kept (fun d => d.swapLatch) hk (fun _ hk => swapLatch_kept hk)
  | bootnext sess => exact whenUp_kept (fun d => d.bootnext sess) hk (fun _ hk => bootnext_kept _ hk)
  | abort sess => exact whenUp_kept (fun d => d.abort sess) hk (fun _ hk => abort_kept _ hk)
  | attest ref ok nonce => exact whenUp_kept (fun d => d.attest ref ok nonce) hk (fun _ hk => attest_kept _ _ _ hk)
  | owntoken ref ok token =>
    exact whenUp_kept (fun d => d.owntoken ref ok token) hk (fun _ hk => owntoken_kept _ _ _ hk)
  | erase ref ok => exact whenUp_kept (fun d => d.erase ref ok) hk (fun _ hk => erase_kept _ _ hk)
  | eraseDone => exact eraseDone_kept hk
  | ownclrEnter => exact ownclrEnter_kept hk
  | ownclrTimeout => exact ownclrTimeout_kept hk
  | sessionLockEnd => exact whenUp_kept (fun d => d.sessionLockEnd) hk (fun _ hk => sessionLockEnd_kept hk)
  | oldfsExpire => exact whenUp_kept (fun d => d.oldfsExpire) hk (fun _ hk => oldfsExpire_kept hk)
  | trngFault failing => exact whenUp_kept (fun d => d.trngFault failing) hk (fun _ hk => trngFault_kept _ hk)
  | domeSupplySwitch onbat => exact domSupply_kept onbat hk
  | domeRetentionLoss => exact domLost_kept hk
  | oscStop => exact oscStop_kept hk
  | oscRestart => exact oscRestart_kept hk
  | set sess hi => exact whenUp_kept (fun d => d.domSet sess hi) hk (fun _ hk => domSet_kept _ _ hk)
  | zone sess zone => exact whenUp_kept (fun d => d.domZoneWrite sess zone) hk (fun _ hk => domZoneWrite_kept _ _ hk)
  | hourAdd => exact whenUp_kept (fun d => d.domZcmd 1) hk (fun _ hk => domZcmd_kept _ hk)
  | hourSub => exact whenUp_kept (fun d => d.domZcmd 2) hk (fun _ hk => domZcmd_kept _ hk)
  | shift value => exact whenUp_kept (fun d => d.domShift value) hk (fun _ hk => domShift_kept _ hk)
  | slewIncrement => exact domSlew_kept hk
  | capture => exact whenUp_kept (fun d => d.domCapture) hk (fun _ hk => domCapture_kept hk)
  | tickLoRead => exact whenUp_kept (fun d => d.domTickRead) hk (fun _ hk => domTickRead_kept hk)
  | alarmArm a hi => exact whenUp_kept (fun d => d.domArm a.val hi) hk (fun _ hk => domArm_kept _ _ hk)
  | alarmFire a => exact domAlarm_kept false a.val hk
  | panelFrame vlcd => exact whenUp_kept (fun d => d.pnlFrame vlcd) hk (fun _ hk => pnlFrame_kept _ hk)
  | updateComplete r => exact whenUp_kept (fun d => d.pnlComplete r.val) hk (fun _ hk => pnlComplete_kept _ hk)
  | tpanSample code => exact whenUp_kept (fun d => d.pnlTpan code) hk (fun _ hk => pnlTpan_kept _ hk)
  | vlcdFault fault vmeas => exact whenUp_kept (fun d => d.pnlVflt fault vmeas) hk (fun _ hk => pnlVflt_kept _ _ hk)
  | crack rcrk => exact whenUp_kept (fun d => d.pnlCrack rcrk) hk (fun _ hk => pnlCrack_kept _ hk)
  | panelRequest k => exact whenUp_kept (fun d => d.pnlRequest k.val) hk (fun _ hk => pnlRequest_kept _ hk)
  | pnlhost ref ok args =>
    exact whenUp_kept (fun d => d.opCommand (.host ref ok) 0x21 args) hk (fun _ hk => opCommand_kept _ _ _ hk)
  | pnlmaintTest ref ok region level =>
    exact whenUp_kept (fun d => d.opCommand (.host ref ok) 0x22 [region, 1, level]) hk
      (fun _ hk => opCommand_kept _ _ _ hk)
  | pnlmaintRestore ref ok region =>
    exact whenUp_kept (fun d => d.opCommand (.host ref ok) 0x22 [region, 2, 0]) hk
      (fun _ hk => opCommand_kept _ _ _ hk)
  | pnlmaintRedraw ref ok region =>
    exact whenUp_kept (fun d => d.opCommand (.host ref ok) 0x22 [region, 3, 0]) hk
      (fun _ hk => opCommand_kept _ _ _ hk)
  | open1 frame => exact whenUp_kept (fun d => d.hostOpen1 frame) hk (fun _ hk => hostOpen1_kept _ hk)
  | open2 frame => exact whenUp_kept (fun d => d.hostOpen2 frame) hk (fun _ hk => hostOpen2_kept _ hk)
  | close frame => exact whenUp_kept (fun d => d.hostClose frame) hk (fun _ hk => hostClose_kept _ hk)
  | read frame => exact whenUp_kept (fun d => d.hostRead frame) hk (fun _ hk => hostRead_kept _ hk)
  | cmd frame => exact whenUp_kept (fun d => d.hostCmd frame) hk (fun _ hk => hostCmd_kept _ hk)
  | poll frame => exact whenUp_kept (fun d => d.hostPoll frame) hk (fun _ hk => hostPoll_kept _ hk)
  | qpeek frame => exact whenUp_kept (fun d => d.hostPeek frame) hk (fun _ hk => hostPeek_kept _ hk)
  | qpop frame => exact whenUp_kept (fun d => d.hostPop frame) hk (fun _ hk => hostPop_kept _ hk)
  | badopc frame => exact whenUp_kept (fun d => d.hostBadOpc frame) hk (fun _ hk => hostBadOpc_kept _ hk)
  | transactionAbort afterCrc =>
    exact whenUp_kept (fun d => d.hostAbort afterCrc) hk (fun _ hk => hostAbort_kept _ hk)
  | idealDiodeReverse b => exact diodeReverse_kept b hk
  | feedRangeChange b inrange ov uv => exact feedRange_kept b inrange ov uv hk
  | powerFailWarning pres => exact powerFail_kept pres hk
  | pfwClear => exact pfwClear_kept hk
  | feedlossReset => exact feedlossReset_kept hk
  | railReset => exact railReset_kept hk
  | vhvlowChange low => exact vhvChange_kept low hk
  | powerGood => exact powerGood_kept hk
  | resetRelease => exact resetRelease_kept hk
  | startUp => exact startUp_kept hk
  | hostReset sess => exact whenUp_kept (fun d => d.hostReset sess) hk (fun _ hk => hostReset_kept _ hk)
  | combClr => exact whenUp_kept (fun d => d.combClr) hk (fun _ hk => combClr_kept hk)
  | sleepRequest sess mask =>
    exact whenUp_kept (fun d => d.sleepRequest sess mask) hk (fun _ hk => sleepRequest_kept _ _ hk)
  | sleepEnter => exact whenUp_kept (fun d => d.sleepEnter) hk (fun _ hk => sleepEnter_kept hk)
  | wake source => exact wake_kept source hk
  | lopClamp n => exact whenUp_kept (fun d => d.lClamp n.val) hk (fun _ hk => lClamp_kept _ hk)
  | canRxError ch lec primary =>
    exact whenUp_kept (fun d => d.canRxError ch.val lec primary) hk (fun _ hk => canRxError_kept _ _ _ hk)
  | feedGateOn b => exact gateOn_kept b hk
  | batlow vbat => exact whenUp_kept (fun d => d.domBat vbat) hk (fun _ hk => domBat_kept _ hk)
  | temphi temp => exact whenUp_kept (fun d => d.tempHi temp) hk (fun _ hk => tempHi_kept _ hk)
  | ecccor ledger => exact whenUp_kept (fun d => d.eccCor ledger) hk (fun _ hk => eccCor_kept _ hk)

/-! What every step keeps -/

/-- The device after a cycle of CK_SYS is, but for the cycle count, what the cycle's own work leaves. -/
theorem tick_kept {z d : Dev} (hk : Kept z { d with clk := d.clk + 1 }) : Kept z d.tick := by
  unfold Dev.tick
  generalize ({ d with clk := d.clk + 1 } : Dev) = e at hk ⊢
  have hbases : Kept z (if e.clk % 8 = 0 ∧ e.pwr.boot = 3 then e.basesTick else e) := Kept.ite (basesTick_kept hk) hk
  exact domCycle_kept (Kept.ite (qFeedTime_kept hbases) hbases)

/-- The cycle count is no part of a sane device. -/
theorem sane_clk {d : Dev} (n : Nat) (h : d.Sane) : Dev.Sane { d with clk := n } :=
  ⟨h.1, { h.2.1 with }, h.2.2⟩

/-- What an empty queue leads to: the slew command, the engine's commands, or a cycle. -/
theorem idle_cases (s : State) :
    (s.dev.dom.slewDue = true ∧ s.idle = ⟨s.dev, [.slewIncrement]⟩) ∨
    (s.dev.dom.slewDue = false ∧ s.dev.engine.1 ≠ [] ∧ s.idle = ⟨s.dev.engine.2, s.dev.engine.1⟩) ∨
    (s.dev.dom.slewDue = false ∧ s.dev.engine.1 = [] ∧ s.idle = ⟨s.dev.engine.2.tick, []⟩) := by
  unfold State.idle
  cases hslew : s.dev.dom.slewDue
  case true => exact .inl ⟨rfl, rfl⟩
  case false =>
    cases hdue : s.dev.engine.1
    case nil => exact .inr (.inr ⟨rfl, rfl, by simp [hdue]⟩)
    case cons => exact .inr (.inl ⟨rfl, by simp, by simp [hdue]⟩)

/-- A step keeps what every command keeps, but that one on an empty queue with nothing due takes a cycle. -/
theorem step_kept {s t : State} (h : step s = .next t) :
    Kept s.dev t.dev ∨
      s.pending = [] ∧ t.pending = [] ∧ ∃ e, Kept s.dev e ∧ Kept { e with clk := e.clk + 1 } t.dev := by
  unfold step at h
  split at h
  case h_1 c cs _ =>
    rw [exec_eq_effect] at h
    cases h
    exact .inl (effect_kept c (Kept.refl _))
  case h_2 hempty =>
    cases h
    have k := engine_kept (Kept.refl s.dev)
    obtain ⟨-, hidle⟩ | ⟨-, -, hidle⟩ | ⟨-, -, hidle⟩ := idle_cases s <;> rw [hidle]
    · exact .inl (Kept.refl _)
    · exact .inl k
    · exact .inr ⟨hempty, rfl, _, k, tick_kept (Kept.refl _)⟩

/-- Settles O59: what a step keeps keeps a sane device sane. -/
theorem stepsKeepSane : Obligations.StepsKeepSane := by
  unfold Obligations.StepsKeepSane
  intro s t hsane hstep
  obtain k | ⟨-, -, e, k, ktick⟩ := step_kept hstep
  · exact k.sane hsane
  · exact ktick.sane (sane_clk _ (k.sane hsane))

/-- Settles O60: what a step keeps holds the counter, and the clock but for the cycle. -/
theorem counterNeverFalls : Obligations.CounterNeverFalls := by
  unfold Obligations.CounterNeverFalls
  intro s t hstep
  obtain k | ⟨hs, ht, e, k, ktick⟩ := step_kept hstep
  · exact ⟨k.counter, .inl k.clk⟩
  · exact ⟨Nat.le_trans k.counter ktick.counter, .inr ⟨hs, ht, by rw [ktick.clk, k.clk]⟩⟩

/-- Settles O1: the step is the front command's meaning, and on an empty queue the three cases of `idle_cases`. -/
theorem stepRunsTheFrontCommand : Obligations.StepRunsTheFrontCommand := by
  unfold Obligations.StepRunsTheFrontCommand
  refine ⟨fun s c cs h => by simp [step, h], fun s h => ?_⟩
  have hstep : step s = .next s.idle := by simp [step, h]
  have hclk : s.dev.engine.2.clk = s.dev.clk := (engine_kept (Kept.refl s.dev)).clk
  rw [hstep]
  obtain ⟨hslew, hidle⟩ | ⟨hslew, hdue, hidle⟩ | ⟨hslew, hdue, hidle⟩ := idle_cases s <;> rw [hidle]
  · simp [hslew]
  · simp [hslew, hdue, hclk]
  · simp [hslew, hdue, (tick_kept (Kept.refl _)).clk, hclk]

end Sys2Proof.Machine
end

section
/-!
PROOFS. Fields, events and the key gate (chapter 02): what the shared operations show in a register's fields and in the
pending bits, and the rules of the key gate (R47 to R49) and of events (R58).
-/
namespace Sys2Proof.Machine

/-! Commands of a running die -/

/-- A command whose meaning is a change of a running die answers the device changed. -/
theorem exec_of_up {c : Instr} {s : State} {f : Dev → Dev} {e : Dev} (hup : s.Up)
    (hexec : exec c s = .next (s.onDev (fun d => d.whenUp f))) (hf : f s.dev = e) : exec c s = .next (s.on e) := by
  rw [hexec, State.onDev, whenUp_of_up hup, hf, State.on]

/-- A change that changes nothing here keeps the machine, whether or not the die runs. -/
theorem exec_keeps {c : Instr} {s : State} {f : Dev → Dev}
    (hexec : exec c s = .next (s.onDev (fun d => d.whenUp f))) (hf : f s.dev = s.dev) : exec c s = .next s := by
  rw [hexec, State.onDev, Dev.whenUp, hf, ite_self]

/-! Fields of registers -/

/-- A one-bit field put in place reads as the bit. -/
theorem rdF_wrF_bool (d : Dev) (a : Nat) (f : Field) (hf : f.lo + f.width ≤ 32) (hw : 0 < f.width) (b : Bool) :
    (d.wrF a f (b2n b)).rdF a f = b2n b := by
  have hlt : b2n b < 2 ^ f.width := by
    have : 2 ^ 1 ≤ 2 ^ f.width := Nat.pow_le_pow_right (by decide) hw
    cases b
    · exact Nat.two_pow_pos _
    · exact this
  rw [rdF_wrF d a f hf, Nat.mod_eq_of_lt hlt]

/-- A value within its field's range reads back whole. -/
theorem rdF_wrF_of_lt (d : Dev) (a : Nat) (f : Field) (hf : f.lo + f.width ≤ 32) {v : Nat} (hv : v < 2 ^ f.width) :
    (d.wrF a f v).rdF a f = v := by rw [rdF_wrF d a f hf, Nat.mod_eq_of_lt hv]

theorem rdF_lt (d : Dev) (a : Nat) (f : Field) : d.rdF a f < 2 ^ f.width := getF_lt f _

/-- The word of a register decides its fields. -/
theorem rdF_congr {d e : Dev} {a : Nat} (h : e.rd a = d.rd a) (f : Field) : e.rdF a f = d.rdF a f := congrArg (getF f) h

theorem satInc_eq_min {m v : Nat} (h : v ≤ m) : satInc m v = min m (v + 1) := by
  unfold satInc
  split <;> omega

/-- A counter field rises by one and saturates. -/
theorem rdF_incF (d : Dev) (a : Nat) (f : Field) (hf : f.lo + f.width ≤ 32) :
    (d.incF a f).rdF a f = min (2 ^ f.width - 1) (d.rdF a f + 1) := by
  have hlt := rdF_lt d a f
  have hpos : 0 < 2 ^ f.width := Nat.two_pow_pos _
  rw [Dev.incF, satInc_eq_min (by omega), rdF_wrF_of_lt d a f hf (by omega)]

theorem rdF_incF_apart (d : Dev) (a : Nat) (f g : Field) (h : f.lo + f.width ≤ g.lo ∨ g.lo + g.width ≤ f.lo) :
    (d.incF a g).rdF a f = d.rdF a f := rdF_wrF_apart d a f g h _

theorem rdF_incF_other (d : Dev) (a b : Nat) (f g : Field) (h : b ≠ a) : (d.incF a g).rdF b f = d.rdF b f :=
  rdF_wrF_other d a b f g _ h

/-- The flag of a flag event reads 1. -/
theorem rdF_flag_same (d : Dev) (a : Nat) {b : Nat} (hb : b < 32) : (d.flag a b).rdF a ⟨b, 1⟩ = 1 := by
  rw [Dev.rdF, rd_flag_same]
  exact getF_putF ⟨b, 1⟩ (by simp only; omega) _ 1

/-- A flag event leaves the fields below SEQ that do not hold the flag. -/
theorem rdF_flag_apart (d : Dev) (a b : Nat) (f : Field) (hseq : f.lo + f.width ≤ 24)
    (hb : f.lo + f.width ≤ b ∨ b + 1 ≤ f.lo) : (d.flag a b).rdF a f = d.rdF a f := by
  rw [Dev.rdF, rd_flag_same, getF_putF_apart f ⟨b, 1⟩ hb, getF_putF_apart f seqField (.inl hseq)]
  rfl

theorem rdF_flag_other (d : Dev) (a b x : Nat) (f : Field) (h : x ≠ a) : (d.flag a b).rdF x f = d.rdF x f :=
  rdF_congr (rd_flag_other d a b x h) f

/-! Pending bits (R58) -/

theorem bitOf_eq_testBit (n i : Nat) : bitOf n i = n.testBit i := by
  rw [bitOf, Nat.testBit_eq_decide_div_mod_eq]
  simp [BEq.beq]

theorem evPending_eq (d : Dev) (n : Nat) :
    d.evPending n = (d.rd (R.HST_EVPEND (n / 32))).getLsbD (n % 32) := bitOf_eq_testBit _ _

theorem evPend_inj {m n : Nat} : R.HST_EVPEND m = R.HST_EVPEND n ↔ m = n := by
  simp only [R.HST_EVPEND]
  omega

/-- The pending bits are those registers alone. -/
theorem evPending_congr {d e : Dev} {n : Nat} (h : e.rd (R.HST_EVPEND (n / 32)) = d.rd (R.HST_EVPEND (n / 32))) :
    e.evPending n = d.evPending n := by rw [evPending_eq, evPending_eq, h]

/-- Marking an event sets its pending bit and no other. -/
theorem evPending_evMark (d : Dev) (n m : Nat) : (d.evMark n).evPending m = (m == n || d.evPending m) := by
  rw [evPending_eq, evPending_eq, rd_evMark, rd_wrF]
  by_cases hreg : m / 32 = n / 32
  · rw [if_pos (congrArg R.HST_EVPEND hreg), getLsbD_putF _ _ _ (Nat.mod_lt m (by decide)), hreg]
    by_cases hbit : m = n
    · simp [hbit]
    · have hout : ¬ (n % 32 ≤ m % 32 ∧ m % 32 < n % 32 + 1) := by omega
      simp only [if_neg hout, beq_false_of_ne hbit, Bool.false_or]
  · have hne : m ≠ n := fun h => hreg (by rw [h])
    rw [if_neg (fun h => hreg (evPend_inj.1 h)), beq_false_of_ne hne, Bool.false_or]

@[simp] theorem evPending_evBump (d : Dev) (n m : Nat) : (d.evBump n).evPending m = d.evPending m :=
  evPending_congr (evBump_rd d n _)

@[simp] theorem evPending_setQueue (d : Dev) (q : Nat) (l : List QElem) (m : Nat) :
    (d.setQueue q l).evPending m = d.evPending m := rfl

@[simp] theorem evPending_setCounts (d : Dev) (f : List Nat → List Nat) (m : Nat) :
    (d.setCounts f).evPending m = d.evPending m := rfl

/-- A refused record of Q49 marks EV249 and clears no pending bit. -/
theorem evPending_q49Full (d : Dev) {m : Nat} (hm : m < 256) : d.q49Full.evPending m = (m == 249 || d.evPending m) := by
  have hflag : (d.flag (R.HST_QSTAT 49) 16).evPending m = d.evPending m := by
    apply evPending_congr
    apply rd_flag_other
    simp only [R.HST_EVPEND, R.HST_QSTAT]
    omega
  unfold Dev.q49Full
  dsimp only
  split <;> simp [evPending_evMark, hflag]

/-- Raising an event clears no pending bit. -/
theorem evPending_raise_of {d : Dev} {n m : Nat} (hm : m < 256) (h : m = n ∨ d.evPending m = true) :
    (d.raise n).evPending m = true := by
  have hmark : (d.evMark n).evPending m = true := by simpa [evPending_evMark] using h
  unfold Dev.raise
  dsimp only
  repeat' split
  all_goals simp [evPending_q49Full, hm, hmark]

theorem evPending_raise_same (d : Dev) {n : Nat} (hn : n < 256) : (d.raise n).evPending n = true :=
  evPending_raise_of hn (.inl rfl)

theorem evPending_wr_other (d : Dev) (a : Nat) (w : Word) (n : Nat) (h : R.HST_EVPEND (n / 32) ≠ a) :
    (d.wr a w).evPending n = d.evPending n := evPending_congr (rd_wr_other d a _ w h)

/-! Raising an event (R58) -/

theorem evRecord_evMark (d : Dev) (n : Nat) : (d.evMark n).evRecord n = d.evRecord n := by
  simp [Dev.evRecord, Dev.elem]

theorem evBump_of_counts {d : Dev} {n : Nat} (h : n ∈ d.queues.counts) :
    d.evBump n = d.setQueue 49 (bumpRecord n (d.queue 49)) := by simp [Dev.evBump, h]

theorem evBump_of_not_counts {d : Dev} {n : Nat} (h : n ∉ d.queues.counts) : d.evBump n = d := by
  simp [Dev.evBump, h]

theorem raise_of_pending {d : Dev} {n : Nat} (h : d.evPending n = true) : d.raise n = (d.evMark n).evBump n := by
  simp [Dev.raise, h]

/-- The count of the newest of an event's records rises, wherever in the queue it stands. -/
theorem bumpRecord_newest {n : Nat} (before behind : List QElem) {e : QElem} (he : byteAt e.bytes 0 = n)
    (hbehind : ∀ x ∈ behind, byteAt x.bytes 0 ≠ n) :
    bumpRecord n (before ++ e :: behind)
      = before ++ { e with bytes := upd e.bytes 2 (fun b => byteOf (min 255 (b.toNat + 1))) } :: behind := by
  induction before with
  | nil =>
    have hnone : behind.any (fun x => byteAt x.bytes 0 == n) = false := by simpa using hbehind
    have hcount : (fun b : Byte => byteOf (satInc 255 b.toNat)) = fun b => byteOf (min 255 (b.toNat + 1)) :=
      funext fun b => by rw [satInc_eq_min (by omega)]
    simp [bumpRecord, he, hnone, hcount]
  | cons x xs ih =>
    have hsome : (xs ++ e :: behind).any (fun x => byteAt x.bytes 0 == n) = true := by simp [he]
    simp [bumpRecord, hsome, ih]

/-- Settles O8: the pending bit decides between the count of an event's record and a new record. -/
theorem raisingAnEvent : Obligations.RaisingAnEvent := by
  unfold Obligations.RaisingAnEvent
  intro d n hn hlen
  have hcfg : (d.evMark n).rdF (R.HST_EVCFG n) F.HST_EVCFG_QUE = d.rdF (R.HST_EVCFG n) F.HST_EVCFG_QUE := by
    apply rdF_congr
    apply rd_evMark_other
    simp only [R.HST_EVCFG, R.HST_EVPEND]
    omega
  refine ⟨evPending_raise_same d hn, fun hpend hout => ?silent, fun hpend hin before behind e hq he hbehind => ?counted,
    fun hpend hque => ?unqueued, fun hpend hque hroom => ?queued, fun q hq => queue_raise_other d n hq,
    fun a ha => ?regs⟩
  case silent =>
    rw [raise_of_pending hpend, evBump_of_not_counts (by simpa using hout), queue_evMark]
  case counted =>
    rw [raise_of_pending hpend, evBump_of_counts (by simpa using hin), queue_setQueue_same _ _ (by simp [hlen]),
      queue_evMark, hq, bumpRecord_newest before behind he hbehind]
  case unqueued => simp [Dev.raise, hpend, hcfg, hque]
  case queued =>
    have hroom' : (d.queue 49).length < queueDepth 49 := hroom
    have hraise : d.raise n = ((d.evMark n).setQueue 49 (d.queue 49 ++ [d.evRecord n])).setCounts (n :: ·) := by
      simp [Dev.raise, hpend, hcfg, hque, hroom', evRecord_evMark]
    rw [hraise, queue_setCounts, queue_setQueue_same _ _ (by simp [hlen])]
    rfl
  case regs =>
    simp only [eventRegs, List.mem_cons, List.not_mem_nil, or_false, not_or] at ha
    obtain ⟨hpend, h7, hq⟩ := ha
    exact rd_raise_other d n a hpend h7 hq

/-! Grants and promotion (R63, R66, R67) -/

theorem mem_of_nextAfter {qs : List Nat} {x q : Nat} (h : nextAfter qs x = some q) : q ∈ qs := by
  unfold nextAfter at h
  split at h
  case h_1 p hp => cases h; exact List.mem_of_find?_eq_some hp
  case h_2 => exact List.mem_of_mem_head? h

/-- The engine grants one of the ready queues, and moves none of their elements. -/
theorem grantGroups_spec (ready gs : List Nat) (s : Queues) :
    (grantGroups ready gs s).2.q = s.q ∧ (grantGroups ready gs s).2.promo = s.promo ∧
      ∀ q, (grantGroups ready gs s).1 = some q → q ∈ ready := by
  induction gs generalizing s with
  | nil => exact ⟨rfl, rfl, fun q h => absurd h (by simp [grantGroups])⟩
  | cons g gs ih =>
    unfold grantGroups
    dsimp only
    split
    case isTrue => exact ih _
    case isFalse =>
      split
      case h_1 => exact ⟨rfl, rfl, fun q h => absurd h (by simp)⟩
      case h_2 q hq =>
        refine ⟨rfl, rfl, fun p hp => ?_⟩
        cases hp
        simpa using (List.mem_filter.1 (mem_of_nextAfter hq)).2

/-- A fold that keeps its answer or takes the element at hand answers one of the elements. -/
theorem mem_of_foldl_choice {α : Type} {f : Option α → α → Option α}
    (hf : ∀ b x, f b x = some x ∨ f b x = b) (l : List α) (b : Option α) {y : α} (h : l.foldl f b = some y) :
    y ∈ l ∨ b = some y := by
  induction l generalizing b with
  | nil => exact .inr h
  | cons x l ih =>
    obtain hmem | hb := ih (f b x) h
    · exact .inl (List.mem_cons_of_mem x hmem)
    · obtain hx | hx := hf b x <;> rw [hx] at hb
      · exact .inl (by simp_all)
      · exact .inr hb

/-- The oldest promoted of some queues is one of them. -/
theorem mem_of_oldestPromoted {d : Dev} {qs : List Nat} {q : Nat} (h : d.oldestPromoted qs = some q) : q ∈ qs := by
  have hchoice := mem_of_foldl_choice (fun b x => ?_) _ _ h
  · obtain hmem | hnone := hchoice
    · simpa using And.left (by simpa using (List.mem_filter.1 hmem).2)
    · cases hnone
  · dsimp only
    split
    · exact .inl rfl
    · split
      · exact .inl rfl
      · exact .inr rfl

/-- What the engine answers: a ready queue, and queues with the elements as they were. -/
theorem nextGrant_spec (d : Dev) (ready : BitVec 64) :
    (d.nextGrant ready).2.q = d.queues.q ∧ (d.nextGrant ready).2.promo = d.queues.promo ∧
      ∀ q, (d.nextGrant ready).1 = some q → q < 64 ∧ d.queueReady ready q = true := by
  have hmem {q : Nat} (h : q ∈ (List.range 64).filter (d.queueReady ready)) : q < 64 ∧ d.queueReady ready q = true := by
    simpa using h
  unfold Dev.nextGrant
  dsimp only
  split
  case h_1 q hq => exact ⟨rfl, rfl, fun p hp => by cases hp; exact hmem (mem_of_oldestPromoted hq)⟩
  case h_2 =>
    obtain ⟨hq, hpromo, hready⟩ := grantGroups_spec ((List.range 64).filter (d.queueReady ready))
      ((List.range 8).map (fun i => (d.queues.rrGrp + i) % 8)) d.queues
    exact ⟨hq, hpromo, fun p hp => hmem (hready p hp)⟩

/-- A ready queue has an element, and its consumer is ready. -/
theorem queueReady_spec {d : Dev} {ready : BitVec 64} {q : Nat} (h : d.queueReady ready q = true) :
    d.queue q ≠ [] ∧ ready.getLsbD q = true := by
  simp only [Dev.queueReady, Bool.and_eq_true, bitOf_eq_testBit, BitVec.testBit_toNat] at h
  obtain ⟨⟨-, helem, hbit⟩, -⟩ := h
  exact ⟨by simpa using helem, hbit⟩

/-- A notification queue's consumer takes its head. -/
theorem consume_notification {d : Dev} {q : Nat} (h48 : 48 ≤ q) (h56 : q < 56) (hne : d.queue q ≠ []) :
    d.consume q = d.pop q := by
  have h16 : ¬ (16 ≤ q ∧ q < 32) := by omega
  have h40 : ¬ (40 ≤ q ∧ q < 48) := by omega
  have hnot56 : ¬ (56 ≤ q ∧ q < 60) := by omega
  have h60 : ¬ 60 ≤ q := by omega
  unfold Dev.consume
  split
  case h_1 hnil => exact absurd hnil hne
  case h_2 => rw [if_neg h16, if_neg h40, if_neg hnot56, if_neg h60]

/-- Past its end a list gives the default. -/
theorem getD_of_length_le {α : Type} (l : List α) (x : α) {n : Nat} (h : l.length ≤ n) : l.getD n x = x := by
  rw [List.getD_eq_getElem?_getD, List.getElem?_eq_none h, Option.getD_none]

/-- A queue with an element is one of the device's. -/
theorem lt_of_queue_ne_nil {d : Dev} {q : Nat} (h : d.queue q ≠ []) : q < d.queues.q.length :=
  Nat.lt_of_not_le fun hge => h (getD_of_length_le _ _ hge)

theorem queue_pop_same {d : Dev} {q : Nat} (h : d.queue q ≠ []) : (d.pop q).queue q = (d.queue q).tail :=
  queue_setQueue_same d _ (lt_of_queue_ne_nil h)

theorem queue_pop_other (d : Dev) {p q : Nat} (h : p ≠ q) : (d.pop q).queue p = d.queue p :=
  queue_setQueue_other d _ h

theorem promo_pop (d : Dev) (q : Nat) : (d.pop q).queues.promo = d.queues.promo.filter (fun x => x ≠ q) := rfl

/-- Settles O10: the engine's answer is a ready queue; a notification queue's grant is a pop; a promotion is the two
conditions on its head. -/
theorem grantAndPromotion : Obligations.GrantAndPromotion := by
  unfold Obligations.GrantAndPromotion
  refine ⟨fun d ready q h => ?ready, fun s ready q hup h48 h56 h => ?granted,
    fun s q hup hage hnew => ?promoted, fun s q hnot => ?kept, fun s hup => ?cleared⟩
  case ready =>
    obtain ⟨-, -, hready⟩ := nextGrant_spec d ready
    obtain ⟨hlt, hq⟩ := hready q h
    exact ⟨hlt, queueReady_spec hq⟩
  case granted =>
    obtain ⟨hqueues, -, hready⟩ := nextGrant_spec s.dev ready
    obtain ⟨-, hq⟩ := hready q h
    obtain ⟨hne, -⟩ := queueReady_spec hq
    have hsame (p : Nat) : ({ s.dev with queues := (s.dev.nextGrant ready).2 } : Dev).queue p = s.dev.queue p := by
      rw [Dev.queue, hqueues]
      rfl
    have hgrant : s.dev.queueGrant ready = Dev.pop { s.dev with queues := (s.dev.nextGrant ready).2 } q := by
      rw [← consume_notification h48 h56 (by rwa [hsame])]
      unfold Dev.queueGrant
      split <;> simp_all
    apply completes_of_up hup rfl
    rw [hgrant, queue_pop_same (by rwa [hsame]), hsame]
    refine ⟨rfl, fun p hp => by rw [queue_pop_other _ hp, hsame], ?_, rfl⟩
    simp [promo_pop]
  case promoted =>
    refine exec_of_up hup rfl ?_
    have hcount := rdF_lt s.dev R.HST_QPROMOCNT F.HST_QPROMOCNT_TOTAL
    have hmax : satInc 65535 (s.dev.rdF R.HST_QPROMOCNT F.HST_QPROMOCNT_TOTAL)
        = min 65535 (s.dev.rdF R.HST_QPROMOCNT F.HST_QPROMOCNT_TOTAL + 1) := satInc_eq_min (Nat.le_of_lt_succ hcount)
    simp only [Dev.queuePromote, hage, hnew, Bool.not_true, Bool.false_or, List.contains_eq_mem, decide_false,
      Bool.false_eq_true, if_false, Dev.promoted, Dev.incF]
    rw [← hmax]
    rfl
  case kept =>
    refine exec_keeps rfl ?_
    rcases hnot with hage | hmem
    · simp [Dev.queuePromote, hage]
    · simp [Dev.queuePromote, hmem]
  case cleared => exact exec_of_up hup rfl rfl

/-! Flag events below the host port's registers -/

/-- A flag that stands still stands after another. -/
theorem rdF_flag_keep (d : Dev) {a b : Nat} (c : Nat) (hb : b < 24) (h : d.rdF a ⟨b, 1⟩ = 1) : (d.flag a c).rdF a ⟨b, 1⟩ = 1 := by
  rcases Nat.lt_trichotomy b c with hlt | rfl | hgt
  · rw [rdF_flag_apart d a c ⟨b, 1⟩ hb (.inl hlt), h]
  · exact rdF_flag_same d a (by omega)
  · rw [rdF_flag_apart d a c ⟨b, 1⟩ hb (.inr hgt), h]

/-- The event of a flag leaves the flag's register as the flag does. -/
theorem rd_flagEv_low (d : Dev) {a : Nat} (ha : a < 0x170000) (b n : Nat) : (d.flagEv a b n).rd a = (d.flag a b).rd a :=
  rd_raise_other _ n a (by simp only [R.HST_EVPEND]; omega) (by simp only [R.HST_EVPEND]; omega)
    (by simp only [R.HST_QSTAT]; omega)

theorem rdF_flagEv_same (d : Dev) {a b : Nat} (ha : a < 0x170000) (hb : b < 32) (n : Nat) :
    (d.flagEv a b n).rdF a ⟨b, 1⟩ = 1 := (rdF_congr (rd_flagEv_low d ha b n) _).trans (rdF_flag_same d a hb)

theorem rdF_flagEv_keep (d : Dev) {a i : Nat} (ha : a < 0x170000) (hi : i < 24) (b n : Nat) (h : d.rdF a ⟨i, 1⟩ = 1) :
    (d.flagEv a b n).rdF a ⟨i, 1⟩ = 1 := (rdF_congr (rd_flagEv_low d ha b n) _).trans (rdF_flag_keep d b hi h)

theorem rd_flagEv_low_other (d : Dev) {x a : Nat} (hx : x < 0x170000) (hne : x ≠ a) (b n : Nat) :
    (d.flagEv a b n).rd x = d.rd x :=
  rd_flagEv_other d a b n x hne (by simp only [R.HST_EVPEND]; omega) (by simp only [R.HST_EVPEND]; omega)
    (by simp only [R.HST_QSTAT]; omega)

theorem evPending_flagEv_same (d : Dev) (a b : Nat) {n : Nat} (hn : n < 256) : (d.flagEv a b n).evPending n = true :=
  evPending_raise_same _ hn

theorem evPending_flagEv_keep {d : Dev} {a m : Nat} (ha : a < 0x170000) (hm : m < 256) (b n : Nat)
    (h : d.evPending m = true) : (d.flagEv a b n).evPending m = true :=
  evPending_raise_of hm (.inr ((evPending_wr_other d a _ m (by simp only [R.HST_EVPEND]; omega)).trans h))

/-! Lists with one place changed -/

theorem getElem?_upd_same {α : Type} (l : List α) (i : Nat) (f : α → α) : (upd l i f)[i]? = l[i]?.map f := by
  induction l generalizing i with
  | nil => rfl
  | cons x t ih =>
    cases i with
    | zero => rfl
    | succ i => simpa [upd] using ih i

theorem getElem?_upd_other {α : Type} (l : List α) {i j : Nat} (f : α → α) (h : j ≠ i) : (upd l i f)[j]? = l[j]? := by
  induction l generalizing i j with
  | nil => rfl
  | cons x t ih =>
    cases i with
    | zero =>
      cases j with
      | zero => exact absurd rfl h
      | succ j => rfl
    | succ i =>
      cases j with
      | zero => rfl
      | succ j => simpa [upd] using ih (fun e => h (congrArg _ e))

/-! Events leave the registers below the host port's -/

theorem rd_raise_low (d : Dev) (n : Nat) {a : Nat} (ha : a < 0x170000) : (d.raise n).rd a = d.rd a :=
  rd_raise_other d n a (by simp only [R.HST_EVPEND]; omega) (by simp only [R.HST_EVPEND]; omega)
    (by simp only [R.HST_QSTAT]; omega)

theorem rd_raiseIf_low (d : Dev) (b : Bool) (n : Nat) {a : Nat} (ha : a < 0x170000) : (d.raiseIf b n).rd a = d.rd a := by
  unfold Dev.raiseIf
  split
  · exact rd_raise_low d n ha
  · rfl

end Sys2Proof.Machine
end

section
/-!
PROOFS. Functions with a shutdown sequence (R53 to R56, R491) and the key gate (R47 to R49). What a function's new STATE
does to its unit writes no control register and leaves the key gate alone.
-/
namespace Sys2Proof.Machine

/-! Changes that leave the key gate and the registers of a set alone -/

/-- The parts of the device that flags, events, queue elements and entries do not touch, nor the releases of a channel. -/
def Dev.quiet (d : Dev) :=
  (d.clk, d.wb, d.gate, d.image, d.turn, d.phs, d.uin, d.dio, d.can, d.dom, d.pwr)

/-- A change of the device that leaves the quiet parts, and every register of a set, as they were; of the pending bits in
the set none is cleared. -/
structure Leaves (A : Nat → Prop) (d e : Dev) : Prop where
  of ::
  quiet : e.quiet = d.quiet
  rd : ∀ a, A a → (a < 0x170040 ∨ 0x170060 ≤ a) → e.rd a = d.rd a
  pend : ∀ m, m < 256 → A (R.HST_EVPEND (m / 32)) → d.evPending m = true → e.evPending m = true

section
variable {A : Nat → Prop} {z d : Dev}

theorem Leaves.wb (k : Leaves A z d) : d.wb = z.wb := congrArg (fun q => q.2.1) k.quiet
theorem Leaves.gate (k : Leaves A z d) : d.gate = z.gate := congrArg (fun q => q.2.2.1) k.quiet
theorem Leaves.image (k : Leaves A z d) : d.image = z.image := congrArg (fun q => q.2.2.2.1) k.quiet
theorem Leaves.turn (k : Leaves A z d) : d.turn = z.turn := congrArg (fun q => q.2.2.2.2.1) k.quiet
theorem Leaves.phs (k : Leaves A z d) : d.phs = z.phs := congrArg (fun q => q.2.2.2.2.2.1) k.quiet

theorem Leaves.refl (A : Nat → Prop) (d : Dev) : Leaves A d d := ⟨rfl, fun _ _ _ => rfl, fun _ _ _ h => h⟩

theorem Leaves.trans {e f : Dev} (h : Leaves A d e) (k : Leaves A e f) : Leaves A d f :=
  ⟨k.quiet.trans h.quiet, fun a ha hp => (k.rd a ha hp).trans (h.rd a ha hp),
    fun m hm ha hp => k.pend m hm ha (h.pend m hm ha hp)⟩

/-- A change of other parts than the registers and the quiet ones. -/
theorem Leaves.of_regs {e : Dev} (k : Leaves A z d) (hquiet : e.quiet = d.quiet) (hregs : e.regs = d.regs) :
    Leaves A z e :=
  have hrd (a : Nat) : e.rd a = d.rd a := by rw [Dev.rd, hregs, ← Dev.rd]
  k.trans ⟨hquiet, fun a _ _ => hrd a, fun _ _ _ hp => (evPending_congr (hrd _)).trans hp⟩

/-- A change that leaves a set leaves its subsets. -/
theorem Leaves.mono {B : Nat → Prop} (h : ∀ a, B a → A a) (k : Leaves A z d) : Leaves B z d :=
  ⟨k.quiet, fun a ha => k.rd a (h a ha), fun m hm ha => k.pend m hm (h _ ha)⟩

theorem Leaves.ite {e f : Dev} {c : Prop} [Decidable c] (h : Leaves A d e) (k : Leaves A d f) :
    Leaves A d (if c then e else f) := by
  split <;> assumption

theorem Leaves.foldl {α : Type} {f : Dev → α → Dev} {l : List α} (k : Leaves A z d)
    (h : ∀ d x, x ∈ l → Leaves A z d → Leaves A z (f d x)) : Leaves A z (l.foldl f d) := by
  induction l generalizing d with
  | nil => exact k
  | cons x t ih => exact ih (h d x List.mem_cons_self k) (fun d y hy => h d y (List.mem_cons_of_mem x hy))

theorem wr_leaves {a : Nat} (ha : ¬ A a) (w : Word) (k : Leaves A z d) : Leaves A z (d.wr a w) :=
  k.trans ⟨rfl, fun b hb _ => rd_wr_other d a b w (fun h => ha (h ▸ hb)),
    fun m _ hm hp => (evPending_wr_other d a w m (fun h => ha (h ▸ hm))).trans hp⟩

theorem wrF_leaves {a : Nat} (ha : ¬ A a) (f : Field) (v : Nat) (k : Leaves A z d) : Leaves A z (d.wrF a f v) :=
  wr_leaves ha _ k

theorem wrFs_leaves {a : Nat} (ha : ¬ A a) (fs : List (Field × Nat)) (k : Leaves A z d) : Leaves A z (d.wrFs a fs) :=
  wr_leaves ha _ k

theorem incF_leaves {a : Nat} (ha : ¬ A a) (f : Field) (k : Leaves A z d) : Leaves A z (d.incF a f) :=
  wr_leaves ha _ k

theorem flag_leaves {a : Nat} (ha : ¬ A a) (b : Nat) (k : Leaves A z d) : Leaves A z (d.flag a b) := wr_leaves ha _ k

/-- A set of registers that holds no queue's status, where a full queue shows. -/
def OutsideHost (A : Nat → Prop) : Prop := ∀ q, q < 64 → ¬ A (R.HST_QSTAT q)

theorem raise_leaves (hA : OutsideHost A) {n : Nat} (hn : n < 256) (k : Leaves A z d) : Leaves A z (d.raise n) :=
  k.trans ⟨by simp [Dev.quiet], fun a ha hp => by
    apply rd_raise_other
    · simp only [R.HST_EVPEND]
      omega
    · simp only [R.HST_EVPEND]
      omega
    · exact fun h => hA 49 (by decide) (h ▸ ha), fun m hm _ hp => evPending_raise_of hm (.inr hp)⟩

theorem raiseIf_leaves (hA : OutsideHost A) (b : Bool) {n : Nat} (hn : n < 256) (k : Leaves A z d) :
    Leaves A z (d.raiseIf b n) := Leaves.ite (raise_leaves hA hn k) k

theorem flagEv_leaves (hA : OutsideHost A) {a n : Nat} (ha : ¬ A a) (b : Nat) (hn : n < 256) (k : Leaves A z d) :
    Leaves A z (d.flagEv a b n) := raise_leaves hA hn (flag_leaves ha b k)

theorem push_leaves (hA : OutsideHost A) {q : Nat} (hq : q < 64) (bytes : List Byte) (ref : Option HostRef)
    (k : Leaves A z d) : Leaves A z (d.push q bytes ref) := by
  exact Leaves.ite (k.of_regs rfl rfl) (raise_leaves hA (by decide) (flag_leaves (hA q hq) 16 k))

theorem happen_leaves (e : Entry) (k : Leaves A z d) : Leaves A z (d.happen e) := k.of_regs rfl rfl

end

/-! What the units do at a new STATE -/

/-- The control registers of the functions. -/
def IsControl (a : Nat) : Prop := ∃ f : Func, a = f.reg

/-- Where the control registers lie. -/
theorem isControl_range {a : Nat} (h : IsControl a) :
    0x30100 ≤ a ∧ a < 0x30130 ∨ 0x40100 ≤ a ∧ a < 0x40120 ∨ 0x50100 ≤ a ∧ a < 0x50140 ∨ a = 0x160000 ∨
      a = 0x120008 := by
  obtain ⟨f, rfl⟩ := h
  cases f with
  | xch n => simp only [Func.reg, R.XCH_CTRL]; omega
  | supply n => simp only [Func.reg, R.LOP_SUPCTRL]; omega
  | qch n => simp only [Func.reg, R.QCH_PWR]; omega
  | panel => exact .inr (.inr (.inr (.inl rfl)))
  | link => exact .inr (.inr (.inr (.inr rfl)))

theorem isControl_outsideHost : OutsideHost IsControl := fun q hq h => by
  have := isControl_range h
  simp only [R.HST_QSTAT] at this
  omega

theorem not_isControl {a : Nat} (h : ¬ (0x30100 ≤ a ∧ a < 0x30130 ∨ 0x40100 ≤ a ∧ a < 0x40120 ∨
    0x50100 ≤ a ∧ a < 0x50140 ∨ a = 0x160000 ∨ a = 0x120008)) : ¬ IsControl a := mt isControl_range h

/-- The control registers, the pending bits, and the power block's registers. -/
def IsHeld (a : Nat) : Prop := IsControl a ∨ (0x170040 ≤ a ∧ a < 0x170060) ∨ 0x180000 ≤ a

theorem isHeld_outsideHost : OutsideHost IsHeld := fun q hq h => by
  rcases h with h | h
  · exact isControl_outsideHost q hq h
  · simp only [R.HST_QSTAT] at h
    omega

theorem not_isHeld {a : Nat} (h : ¬ (0x30100 ≤ a ∧ a < 0x30130 ∨ 0x40100 ≤ a ∧ a < 0x40120 ∨
    0x50100 ≤ a ∧ a < 0x50140 ∨ a = 0x160000 ∨ a = 0x120008 ∨ (0x170040 ≤ a ∧ a < 0x170060) ∨ 0x180000 ≤ a)) :
    ¬ IsHeld a := by
  rintro (hc | hr)
  · have := isControl_range hc
    omega
  · omega

section
variable {z d : Dev}

theorem raiseIf_held (b : Bool) {n : Nat} (hn : n < 256) (k : Leaves IsHeld z d) :
    Leaves IsHeld z (d.raiseIf b n) := raiseIf_leaves isHeld_outsideHost b hn k

theorem raiseIf_control (b : Bool) {n : Nat} (hn : n < 256) (k : Leaves IsControl z d) :
    Leaves IsControl z (d.raiseIf b n) := raiseIf_leaves isControl_outsideHost b hn k

theorem flagEv_control {a n : Nat} (ha : ¬ IsControl a) (b : Nat) (hn : n < 256) (k : Leaves IsControl z d) :
    Leaves IsControl z (d.flagEv a b n) := flagEv_leaves isControl_outsideHost ha b hn k

theorem push_control {q : Nat} (hq : q < 64) (bytes : List Byte) (ref : Option HostRef) (k : Leaves IsControl z d) :
    Leaves IsControl z (d.push q bytes ref) := push_leaves isControl_outsideHost hq bytes ref k

/-! Excitation channels and loop supplies -/

theorem setXc_leaves {A : Nat → Prop} (n : Nat) (f : XChan → XChan) (k : Leaves A z d) :
    Leaves A z (d.setXc n f) := k.of_regs rfl rfl

theorem xRelease_leaves {n : Nat} (hn : n < 8) (st : Nat) (v aux : Int) (k : Leaves IsHeld z d) :
    Leaves IsHeld z (d.xRelease n st v aux) := by
  have hsts : ¬ IsHeld (R.XCH_STS n) := not_isHeld (by simp only [R.XCH_STS]; omega)
  have hval : ¬ IsHeld (R.XCH_VAL n) := not_isHeld (by simp only [R.XCH_VAL]; omega)
  have haux : ¬ IsHeld (R.XCH_AUX n) := not_isHeld (by simp only [R.XCH_AUX]; omega)
  have hstat : ¬ IsHeld R.XCH_STAT := not_isHeld (by decide)
  unfold Dev.xRelease
  refine raiseIf_held _ (by decide) (raiseIf_held _ (by decide) (raiseIf_held _ (by decide)
    (raiseIf_held _ (by decide) ?_)))
  have hshown := fun f => wrF_leaves hstat ⟨n, 1⟩ (b2n (xFault st)) (wrF_leaves hsts F.XCH_STS_STATUS st (setXc_leaves n f k))
  exact Leaves.ite (wr_leaves haux _ (wr_leaves hval _ (hshown _))) (Leaves.ite (flag_leaves hsts 23 (hshown _)) (hshown _))

theorem xDiscard_leaves {n : Nat} (hn : n < 8) (k : Leaves IsHeld z d) : Leaves IsHeld z (d.xDiscard n) :=
  flag_leaves (not_isHeld (by simp only [R.XCH_STS]; omega)) 20
    (incF_leaves (not_isHeld (by simp only [R.XCH_CNT]; omega)) _ k)

theorem xStateRelease_leaves {n : Nat} (hn : n < 8) (k : Leaves IsHeld z d) :
    Leaves IsHeld z (d.xStateRelease n) := by
  unfold Dev.xStateRelease
  extract_lets st old d1 d2
  have h1 : Leaves IsHeld z d1 := Leaves.ite (xDiscard_leaves hn k) k
  have h2 : Leaves IsHeld z d2 := setXc_leaves n _ (setXc_leaves n _ h1)
  have hrelease (status : Nat) {e : Dev} (k : Leaves IsHeld z e) := xRelease_leaves hn status 0 0 k
  exact Leaves.ite (Leaves.ite h2 (hrelease 9 (setXc_leaves n _ h2)))
    (Leaves.ite (hrelease 8 (setXc_leaves n _ h2)) (Leaves.ite (Leaves.ite h2 (hrelease 8 h2)) h2))

theorem lSupplyOn_leaves {A : Nat → Prop} (n : Nat) (k : Leaves A z d) : Leaves A z (d.lSupplyOn n) := k.of_regs rfl rfl

theorem lSupplyOff_leaves {n : Nat} (hn : n < 16) (opened : Bool) (k : Leaves IsHeld z d) :
    Leaves IsHeld z (d.lSupplyOff n opened) := by
  have hsupi : ¬ IsHeld (R.LOP_SUPI n) := not_isHeld (by simp only [R.LOP_SUPI]; omega)
  exact Leaves.ite (wrFs_leaves hsupi _ (k.of_regs rfl rfl)) (k.of_regs rfl rfl)

/-! Charge channels -/

theorem setQc_leaves {A : Nat → Prop} (n : Nat) (f : QChan → QChan) (k : Leaves A z d) : Leaves A z (d.setQc n f) :=
  k.of_regs rfl rfl

theorem freeVal_leaves {A : Nat → Prop} (w : Nat) (k : Leaves A z d) : Leaves A z (d.freeVal w).2 := k.of_regs rfl rfl

theorem fit_leaves {A : Nat → Prop} (w : Nat) (sgn : Bool) (x : Int) (k : Leaves A z d) :
    Leaves A z (d.fit w sgn x).2 := by
  unfold Dev.fit
  extract_lets lo hi
  split
  · exact k
  · exact freeVal_leaves w k

theorem fits_leaves {A : Nat → Prop} (l : List (Nat × Bool × Int)) (k : Leaves A z d) : Leaves A z (d.fits l).2 := by
  induction l generalizing d with
  | nil => exact k
  | cons x t ih => exact ih (fit_leaves x.1 x.2.1 x.2.2 k)

theorem freeVals_leaves {A : Nat → Prop} (w n : Nat) (k : Leaves A z d) : Leaves A z (d.freeVals w n).2 := by
  induction n generalizing d with
  | zero => exact k
  | succ n ih => exact ih (freeVal_leaves w k)

theorem qOpenWords_leaves {A : Nat → Prop} (h : QHeld) (k : Leaves A z d) : Leaves A z (d.qOpenWords h).2 := by
  unfold Dev.qOpenWords
  split
  · exact fits_leaves _ k
  · split
    · exact freeVals_leaves 32 8 k
    · exact fit_leaves 16 true _ (freeVals_leaves 32 7 k)

/-- A set of registers that holds none of those that a charge channel's releases write. -/
structure ChargeApart (A : Nat → Prop) : Prop where
  host : OutsideHost A
  stat : ¬ A R.QCH_STAT
  sts : ∀ n, n < 12 → ¬ A (R.QCH_STS n)
  cnt : ∀ n, n < 12 → ¬ A (R.QCH_CNT n)
  cyc : ∀ n, n < 12 → ¬ A (R.QCH_CYC n)
  res : ∀ n w, n < 12 → w < 7 → ¬ A (R.QCH_RES n w)

theorem isControl_chargeApart : ChargeApart IsControl where
  host := isControl_outsideHost
  stat := not_isControl (by decide)
  sts n hn := not_isControl (by simp only [R.QCH_STS]; omega)
  cnt n hn := not_isControl (by simp only [R.QCH_CNT]; omega)
  cyc n hn := not_isControl (by simp only [R.QCH_CYC]; omega)
  res n w hn hw := not_isControl (by simp only [R.QCH_RES]; omega)

section
variable {A : Nat → Prop}

theorem qStoreRes_leaves {n : Nat} (hres : ∀ w, w < 7 → ¬ A (R.QCH_RES n w)) (h : QHeld) (ws : List Nat) (k : Leaves A z d) :
    Leaves A z (d.qStoreRes n h ws) := by
  have hput (w v : Nat) (hw : w < 7) {e : Dev} (k : Leaves A z e) :
      Leaves A z (e.wr (R.QCH_RES n w) (BitVec.ofNat 32 v)) := wr_leaves (hres w hw) _ k
  exact hput 6 _ (by decide) (hput 5 _ (by decide) (hput 4 _ (by decide) (hput 3 _ (by decide) (hput 2 _ (by decide)
    (hput 1 _ (by decide) (hput 0 _ (by decide) k))))))

theorem qDescriptor_leaves (hhost : OutsideHost A) (hstat : ¬ A R.QCH_STAT) (n st : Nat) (miss : Bool) (h : QHeld) (ws : List Nat) (k : Leaves A z d) :
    Leaves A z (d.qDescriptor n st miss h ws) := by
  unfold Dev.qDescriptor
  split
  case h_1 => exact k
  case h_2 s _ =>
    extract_lets bytes charge e
    have he : Leaves A z e := k.of_regs (by simp only [Dev.quiet, e]) rfl
    exact Leaves.ite (push_leaves hhost (by decide) bytes none he) (flagEv_leaves hhost hstat 16 (by decide)
      (raise_leaves hhost (by decide) (flag_leaves (hhost 50 (by decide)) 16 he)))

theorem qEvents_leaves (hhost : OutsideHost A) (old st : Nat) (carries : Bool) (k : Leaves A z d) :
    Leaves A z (d.qEvents old st carries) :=
  raiseIf_leaves hhost _ (by decide) (raiseIf_leaves hhost _ (by decide) (raiseIf_leaves hhost _ (by decide)
    (raiseIf_leaves hhost _ (by decide) (raiseIf_leaves hhost _ (by decide) k))))

end

section
variable {A : Nat → Prop} (hA : ChargeApart A)
include hA

theorem qRelease_leaves {n : Nat} (hn : n < 12) (st cause : Nat) (h : Option QHeld) (miss : Bool)
    (k : Leaves A z d) : Leaves A z (d.qRelease n st cause h miss) := by
  have hsts := hA.sts n hn
  have hcnt := hA.cnt n hn
  unfold Dev.qRelease
  extract_lets st1 c iv st old d1 d2 d3 d4 d5 d6 d7 d8
  have h2 : Leaves A z d2 := wrF_leaves hsts _ _ (setQc_leaves n _ k)
  have h3 : Leaves A z d3 := Leaves.ite (incF_leaves hcnt _ (wrF_leaves hsts _ _ h2)) h2
  have h4 : Leaves A z d4 := Leaves.ite (flagEv_leaves hA.host hsts 18 (by decide) (incF_leaves hcnt _ h3)) h3
  have h5 : Leaves A z d5 := Leaves.ite (flagEv_leaves hA.host hsts 22 (by decide) h4) h4
  have h6 : Leaves A z d6 := wrF_leaves hA.stat _ _ h5
  have h8 : Leaves A z d8 := by
    unfold d8
    split
    case h_1 x =>
      have hcycled := fun w v => wrF_leaves hsts F.QCH_STS_R10 v (wr_leaves (hA.cyc n hn) w h6)
      split
      · exact qDescriptor_leaves hA.host hA.stat n st miss x _ (qStoreRes_leaves (fun w hw => hA.res n w hn hw) x _ (fits_leaves _ (hcycled _ _)))
      · exact qDescriptor_leaves hA.host hA.stat n st miss x _ (qOpenWords_leaves x (hcycled _ _))
    case h_2 => exact h6
  exact qEvents_leaves hA.host old st h.isSome h8

theorem qPowerLost_leaves {n : Nat} (hn : n < 12) (k : Leaves A z d) : Leaves A z (d.qPowerLost n) :=
  qRelease_leaves hA hn 9 0 none false (setQc_leaves n _ (setQc_leaves n _ (setQc_leaves n _ k)))

end

theorem qSwitches_leaves {A : Nat → Prop} (k : Leaves A z d) : Leaves A z d.qSwitches := by
  refine Leaves.foldl k (fun d n _ k => ?_)
  exact setQc_leaves n _ (Leaves.ite (setQc_leaves n _ k) k)

/-! The panel -/

theorem pReach_leaves (e l : Nat) (k : Leaves IsControl z d) : Leaves IsControl z (d.pReach e l) :=
  wrF_leaves (not_isControl (by simp only [R.PNL_UNK]; omega)) _ _
    (wrF_leaves (not_isControl (by simp only [R.PNL_LEV]; omega)) _ _ k)

theorem pLose_leaves (e : Nat) (k : Leaves IsControl z d) : Leaves IsControl z (d.pLose e) :=
  wrF_leaves (not_isControl (by simp only [R.PNL_UNK]; omega)) _ _ k

theorem pNotify_leaves (r outcome : Nat) (x : PanelRun) (k : Leaves IsControl z d) :
    Leaves IsControl z (d.pNotify r outcome x) :=
  Leaves.ite (raiseIf_control _ (by decide) (push_control (by decide) _ _ k)) k

theorem pCutRegion_leaves (r : Nat) (k : Leaves IsControl z d) : Leaves IsControl z (d.pCutRegion r) := by
  unfold Dev.pCutRegion
  split
  case h_1 => exact k
  case h_2 x _ =>
    extract_lets frame e1 e2
    have h1 : Leaves IsControl z e1 :=
      Leaves.foldl k (fun d e _ k => Leaves.ite (pReach_leaves e.1 e.2.1 k) (pLose_leaves e.1 k))
    exact pNotify_leaves r 1 x (wrF_leaves (not_isControl (by decide)) _ _ (h1.of_regs rfl rfl))

theorem pCut_leaves (cause : Nat) (k : Leaves IsControl z d) : Leaves IsControl z (d.pCut cause) := by
  have hcut : Leaves IsControl z ((List.range 16).foldl Dev.pCutRegion d) :=
    Leaves.foldl k (fun _ r _ k => pCutRegion_leaves r k)
  exact Leaves.ite k (happen_leaves _ (flagEv_control (not_isControl (by decide)) 22 (by decide) hcut))

/-! The Ivgan link -/

/-- A set of registers that holds none of those that the end of a link writes. -/
def LinkApart (A : Nat → Prop) : Prop :=
  OutsideHost A ∧ ∀ a ∈ [R.PAR_LNKSTAT, R.PAR_ROLE, R.PAR_STAT, R.VLT_STGSTAT, R.JRN_STAT, R.PAR_LNKCNT, R.PAR_REJOIN], ¬ A a

theorem isControl_linkApart : LinkApart IsControl :=
  ⟨isControl_outsideHost, by
    have h := fun a => not_isControl (a := a)
    simp only [List.forall_mem_cons, List.not_mem_nil, false_implies, implies_true, and_true]
    exact ⟨h _ (by decide), h _ (by decide), h _ (by decide), h _ (by decide), h _ (by decide), h _ (by decide),
      h _ (by decide)⟩⟩

section
variable {A : Nat → Prop} (hA : LinkApart A)
include hA

theorem writeThrough_leaves (on : Bool) (k : Leaves A z d) : Leaves A z (d.writeThrough on) :=
  (wrF_leaves (hA.2 _ (by decide)) _ _ k : Leaves A z (d.wrF R.JRN_STAT F.JRN_STAT_WTHRU (b2n on))).of_regs
    rfl rfl

theorem setRole_leaves (r : Nat) (k : Leaves A z d) : Leaves A z (d.setRole r) := by
  have hset : Leaves A z ((d.wrF R.PAR_ROLE F.PAR_ROLE_ROLE r).raise 192) :=
    raise_leaves hA.1 (by decide) (wrF_leaves (hA.2 _ (by decide)) _ _ k)
  have hthrough := fun on => writeThrough_leaves hA on hset
  exact Leaves.ite k (Leaves.ite (hthrough _) ((hthrough _).of_regs rfl rfl))

theorem swapAbandon_leaves (k : Leaves A z d) : Leaves A z d.swapAbandon :=
  Leaves.ite ((wrF_leaves (hA.2 _ (by decide)) _ _ k :
    Leaves A z (d.wrF R.VLT_STGSTAT F.VLT_STGSTAT_STATE 3)).of_regs rfl rfl) k

theorem rejoinFailed_leaves (k : Leaves A z d) : Leaves A z d.rejoinFailed := by
  unfold Dev.rejoinFailed
  extract_lets now fails d1 d2 d3
  have h1 : Leaves A z d1 := k.of_regs rfl rfl
  have h2 : Leaves A z d2 := flagEv_leaves hA.1 (hA.2 _ (by decide)) 9 (by decide) h1
  have h3 : Leaves A z d3 := wrFs_leaves (hA.2 _ (by decide)) _ h2
  exact Leaves.ite (setRole_leaves hA 0 h3) h3

theorem linkGone_leaves (next : Nat) (k : Leaves A z d) : Leaves A z (d.linkGone next) := by
  have hrole : ¬ A R.PAR_ROLE := hA.2 _ (by decide)
  unfold Dev.linkGone
  extract_lets was d1 now d2 d3 d4 vault d5
  have h1 : Leaves A z d1 := wrFs_leaves (hA.2 _ (by decide)) _ k
  have h2 : Leaves A z d2 := h1.of_regs rfl rfl
  have h3 : Leaves A z d3 := (swapAbandon_leaves hA h2).of_regs rfl rfl
  have h4 : Leaves A z d4 := wrF_leaves (hA.2 _ (by decide)) _ _ h3
  have h5 : Leaves A z d5 := h4.of_regs rfl rfl
  exact Leaves.ite h2 (Leaves.ite (happen_leaves _ (wrF_leaves hrole _ _ (h5.of_regs rfl rfl)))
    (Leaves.ite (rejoinFailed_leaves hA h5) h5))

theorem linkLost_leaves (k : Leaves A z d) : Leaves A z d.linkLost :=
  Leaves.ite (linkGone_leaves hA 1 (flagEv_leaves hA.1 (hA.2 _ (by decide)) 3 (by decide)
    (incF_leaves (hA.2 _ (by decide)) _ k))) (Leaves.ite k (linkGone_leaves hA 1 k))

end

end

/-! A function's new STATE -/

theorem Func.reg_isControl (f : Func) : IsControl f.reg := ⟨f, rfl⟩

/-- A function's new STATE writes STATE, and no other control register. -/
theorem fEntered_leaves (d : Dev) (f : Func) (st : Nat) : Leaves IsControl (d.wrF f.reg fSTATE st) (d.fEntered f st) := by
  have k := Leaves.refl IsControl (d.wrF f.reg fSTATE st)
  have kh := Leaves.refl IsHeld (d.wrF f.reg fSTATE st)
  cases f with
  | xch n =>
    exact raiseIf_control _ (by decide) ((xStateRelease_leaves n.isLt
      (Leaves.ite (setXc_leaves _ _ (Leaves.ite (setXc_leaves _ _ kh) kh)) (Leaves.ite (setXc_leaves _ _ kh) kh))).mono
        fun _ => .inl)
  | supply n =>
    exact raiseIf_control _ (by decide)
      (Leaves.ite (lSupplyOn_leaves _ k) ((lSupplyOff_leaves n.isLt _ kh).mono fun _ => .inl))
  | qch n => exact qSwitches_leaves (Leaves.ite (qPowerLost_leaves isControl_chargeApart n.isLt k) k)
  | panel =>
    have hcut := Leaves.ite (c := st = 3) (pCut_leaves (if (d.wrF Func.panel.reg fSTATE st).holder then 1 else 2) k) k
    exact raiseIf_control _ (by decide) (Leaves.ite (hcut.of_regs rfl rfl) hcut)
  | link =>
    exact Leaves.ite (wrF_leaves (not_isControl (by decide)) _ _ k) (Leaves.ite (linkGone_leaves isControl_linkApart 0 k) k)

/-- A function that VHVLOW can hold back leaves the pending bits and the power block alone when it goes OFF or starts. -/
theorem fEntered_held (d : Dev) {f : Func} (hf : f.byVhv = true) {st : Nat} (hst : st ≤ 1) :
    Leaves IsHeld (d.wrF f.reg fSTATE st) (d.fEntered f st) := by
  have k := Leaves.refl IsHeld (d.wrF f.reg fSTATE st)
  cases f with
  | xch n =>
    exact raiseIf_held _ (by decide) (xStateRelease_leaves n.isLt
      (Leaves.ite (setXc_leaves _ _ (Leaves.ite (setXc_leaves _ _ k) k)) (Leaves.ite (setXc_leaves _ _ k) k)))
  | supply n => exact raiseIf_held _ (by decide) (Leaves.ite (lSupplyOn_leaves _ k) (lSupplyOff_leaves n.isLt _ k))
  | panel =>
    have hcut (e : Dev) : Leaves IsHeld e (if st = 3 then e.pCut (if e.holder then 1 else 2) else e) := by
      rw [if_neg (by omega)]
      exact Leaves.refl _ _
    exact raiseIf_held _ (by decide) (Leaves.ite ((hcut _).of_regs rfl rfl) (hcut _))
  | qch | link => cases hf

theorem vhvlow_fEntered (d : Dev) {f : Func} (hf : f.byVhv = true) {st : Nat} (hst : st ≤ 1) :
    (d.fEntered f st).vhvlow = d.vhvlow := by
  have hleaves := fEntered_held d hf hst
  have hreg : R.PWR_STAT ≠ f.reg := fun h => absurd (isControl_range ⟨f, h⟩) (by decide)
  rw [Dev.vhvlow, rdF_congr (hleaves.rd _ (.inr (.inr (by decide))) (by decide)),
    rdF_wrF_other _ f.reg R.PWR_STAT _ fSTATE _ hreg, ← Dev.vhvlow]

theorem gate_fEntered (d : Dev) (f : Func) (st : Nat) : (d.fEntered f st).gate = d.gate := (fEntered_leaves d f st).gate

theorem rdF_fEntered (d : Dev) (f : Func) (st : Nat) (x : Field) :
    (d.fEntered f st).rdF f.reg x = (d.wrF f.reg fSTATE st).rdF f.reg x :=
  rdF_congr ((fEntered_leaves d f st).rd _ f.reg_isControl (by have := isControl_range f.reg_isControl; omega)) x

theorem fState_fEntered (d : Dev) (f : Func) {st : Nat} (hst : st < 4) : (d.fEntered f st).fState f = st :=
  (rdF_fEntered d f st fSTATE).trans (rdF_wrF_of_lt d f.reg fSTATE (by decide) hst)

/-- EN and PEND stay as they are at a new STATE. -/
theorem rdF_fEntered_apart (d : Dev) (f : Func) (st : Nat) (x : Field) (hx : x = fEN ∨ x = fPEND) :
    (d.fEntered f st).rdF f.reg x = d.rdF f.reg x :=
  (rdF_fEntered d f st x).trans (rdF_wrF_apart d f.reg x fSTATE (by rcases hx with rfl | rfl <;> decide) st)

/-! Start-up and shutdown -/

theorem fState_fStart (d : Dev) (f : Func) :
    (d.fStart f).fState f = if f.byVhv && d.vhvlow then d.fState f else 1 := by
  unfold Dev.fStart
  split
  · rfl
  · exact fState_fEntered d f (by decide)

theorem rdF_fStart_apart (d : Dev) (f : Func) (x : Field) (hx : x = fEN ∨ x = fPEND) :
    (d.fStart f).rdF f.reg x = d.rdF f.reg x := by
  unfold Dev.fStart
  split
  · rfl
  · exact rdF_fEntered_apart d f 1 x hx

theorem gate_fStart (d : Dev) (f : Func) : (d.fStart f).gate = d.gate := by
  unfold Dev.fStart
  split
  · rfl
  · exact gate_fEntered d f 1

/-- A shutdown begins from RAMP_UP or ON, and nothing else does it in another STATE (R54). -/
theorem fShut_of (d : Dev) (f : Func) (h : d.fState f = 1 ∨ d.fState f = 2) : d.fShut f = d.fEntered f 3 := if_pos h

/-! A write of an enable field with no force on the function (R54) -/

section
variable (d : Dev) (f : Func) (en : Bool)

/-- The device with EN written. -/
def Dev.enWritten : Dev := d.wrF f.reg fEN (b2n en)

theorem fState_enWritten : (d.enWritten f en).fState f = d.fState f := rdF_wrF_apart d f.reg fSTATE fEN (by decide) _

theorem fEn_enWritten : (d.enWritten f en).rdF f.reg fEN = b2n en :=
  rdF_wrF_bool d f.reg fEN (by decide) (by decide) en

theorem vhvlow_enWritten : (d.enWritten f en).vhvlow = d.vhvlow := by
  have hreg : R.PWR_STAT ≠ f.reg := fun h => absurd (isControl_range ⟨f, h⟩) (by decide)
  rw [Dev.vhvlow, Dev.enWritten, rdF_wrF_other d f.reg R.PWR_STAT _ fEN _ hreg, ← Dev.vhvlow]

theorem fEnable_off (h : d.fState f = 0) :
    d.fEnable f en = if en then (d.enWritten f en).fStart f else d.enWritten f en := by
  have hst := (fState_enWritten d f en).trans h
  simp only [Dev.enWritten] at hst
  simp only [Dev.fEnable, hst, Dev.enWritten]

theorem fEnable_down (h : d.fState f = 3) : d.fEnable f en = (d.enWritten f en).wrF f.reg fPEND (b2n en) := by
  have hst := (fState_enWritten d f en).trans h
  simp only [Dev.enWritten] at hst
  simp only [Dev.fEnable, hst, Dev.enWritten]

theorem fEnable_up (h : d.fState f = 1 ∨ d.fState f = 2) :
    d.fEnable f en = if en then d.enWritten f en else (d.enWritten f en).fEntered f 3 := by
  have hst : (d.enWritten f en).fState f = 1 ∨ (d.enWritten f en).fState f = 2 := by rwa [fState_enWritten]
  rw [← fShut_of _ f hst]
  rcases h with h | h <;> rw [← fState_enWritten d f en] at h <;> simp only [Dev.enWritten] at h ⊢ <;>
    simp only [Dev.fEnable, h]

/-- The table of R54, and EN as written. -/
theorem fEnable_spec :
    (d.fEnable f en).gate = d.gate ∧ (d.fEnable f en).fEn f = en ∧
    (d.fState f = 0 → (d.fEnable f en).fState f = if en && !(f.byVhv && d.vhvlow) then 1 else 0) ∧
    ((d.fState f = 1 ∨ d.fState f = 2) → (d.fEnable f en).fState f = if en then d.fState f else 3) ∧
    (d.fState f = 3 → (d.fEnable f en).fState f = 3 ∧ (d.fEnable f en).rdF f.reg ⟨31, 1⟩ = b2n en) := by
  have hen : ∀ e : Dev, e.rdF f.reg fEN = b2n en → e.fEn f = en := fun e h => by
    rw [Dev.fEn, h]
    cases en <;> rfl
  have hw := fEn_enWritten d f en
  have hlt : d.fState f < 4 := rdF_lt d f.reg fSTATE
  have hcases : d.fState f = 0 ∨ (d.fState f = 1 ∨ d.fState f = 2) ∨ d.fState f = 3 := by omega
  rcases hcases with h | h | h
  · have hstart := (rdF_fStart_apart (d.enWritten f en) f fEN (.inl rfl)).trans hw
    have hstate := fState_fStart (d.enWritten f en) f
    rw [vhvlow_enWritten, fState_enWritten, h] at hstate
    rw [fEnable_off d f en h, h]
    cases en with
    | true =>
      refine ⟨gate_fStart _ f, hen _ hstart, fun _ => ?_, by omega, by omega⟩
      rw [if_pos rfl, hstate, Bool.true_and]
      cases f.byVhv && d.vhvlow <;> rfl
    | false => exact ⟨rfl, hen _ hw, fun _ => (fState_enWritten d f false).trans h, by omega, by omega⟩
  · rw [fEnable_up d f en h]
    refine ⟨?_, ?_, by omega, fun _ => ?_, by omega⟩ <;> cases en
    · exact gate_fEntered _ f 3
    · rfl
    · exact hen _ ((rdF_fEntered_apart _ f 3 fEN (.inl rfl)).trans hw)
    · exact hen _ hw
    · exact fState_fEntered _ f (by decide)
    · exact fState_enWritten d f true
  · rw [fEnable_down d f en h]
    refine ⟨rfl, hen _ ((rdF_wrF_apart _ f.reg fEN fPEND (by decide) _).trans hw), by omega, by omega, fun _ => ⟨?_, ?_⟩⟩
    · exact (rdF_wrF_apart _ f.reg fSTATE fPEND (by decide) _).trans ((fState_enWritten d f en).trans h)
    · exact rdF_wrF_bool _ f.reg fPEND (by decide) (by decide) en

end

/-! The key gate before a write (R47 to R49) -/

theorem passGate_opener {d : Dev} {sess : Nat} (h : d.GateFor sess) (addr : Nat) :
    d.passGate sess addr = (true, d.closeGate) := by
  obtain ⟨since, hgate⟩ := h
  simp [Dev.passGate, hgate]

theorem rd_closeGate_other (d : Dev) {a : Nat} (h : a ≠ R.SYS_KEYGATE) : d.closeGate.rd a = d.rd a :=
  rd_wr_other d R.SYS_KEYGATE a _ h

theorem rdF_closeGate_reg (d : Dev) (f : Func) (x : Field) : d.closeGate.rdF f.reg x = d.rdF f.reg x :=
  rdF_congr (rd_closeGate_other d (fun h => absurd (isControl_range ⟨f, h.symm⟩) (by decide))) x

theorem vhvlow_closeGate (d : Dev) : d.closeGate.vhvlow = d.vhvlow :=
  congrArg (· == 1) (rdF_congr (rd_closeGate_other d (a := R.PWR_STAT) (by decide)) F.PWR_STAT_VHVLOW)

/-! A host's enable write -/

theorem exec_enableWrite (sess : Nat) (en same : Bool) (f : Func) (s : State) :
    exec (enableWrite sess en same f) s = .next (s.onDev (fun d => d.whenUp (fun d => d.fEnWrite sess f en same))) := by
  cases f <;> rfl

theorem fEnWrite_free {d : Dev} {sess : Nat} {f : Func} (en : Bool) (h : d.GateFor sess)
    (hforced : d.closeGate.fForced f = false) (hexists : d.closeGate.fExists f = true) :
    d.fEnWrite sess f en false = d.closeGate.fEnable f en := by
  simp [Dev.fEnWrite, passGate_opener h, hforced, hexists]

theorem fEnWrite_forced {d : Dev} {sess : Nat} {f : Func} (en same : Bool) (h : d.GateFor sess)
    (hforced : d.closeGate.fForced f = true ∨ same = true) : d.fEnWrite sess f en same =
      d.closeGate.happen (hostOvr f.reg (BitVec.ofNat 32 (b2n en)) 1 resOverridden sess) := by
  simp [Dev.fEnWrite, passGate_opener h, hforced]

/-! The end of a sequence (R53, R55) -/

theorem fShutDone_pend (d : Dev) {f : Func} (hstate : d.fState f = 3) (hpend : d.rdF f.reg ⟨31, 1⟩ = 1) :
    d.fShutDone f = ((d.fEntered f 0).wrF f.reg fPEND 0).fStart f := by
  have hp : (d.fEntered f 0).rdF f.reg fPEND = 1 := (rdF_fEntered_apart d f 0 fPEND (.inr rfl)).trans hpend
  simp [Dev.fShutDone, hstate, hp]

theorem fShutDone_idle (d : Dev) {f : Func} (hstate : d.fState f = 3) (hpend : d.rdF f.reg ⟨31, 1⟩ = 0) :
    d.fShutDone f = d.fEntered f 0 := by
  have hp : (d.fEntered f 0).rdF f.reg fPEND = 0 := (rdF_fEntered_apart d f 0 fPEND (.inr rfl)).trans hpend
  simp [Dev.fShutDone, hstate, hp]

/-- With PEND at 1 the end of a shutdown clears it and begins a start-up, unless VHVLOW holds it back. -/
theorem fShutDone_pend_spec (d : Dev) {f : Func} (hstate : d.fState f = 3) (hpend : d.rdF f.reg ⟨31, 1⟩ = 1) :
    (d.fShutDone f).rdF f.reg ⟨31, 1⟩ = 0 ∧ (d.fShutDone f).fState f = if f.byVhv && d.vhvlow then 0 else 1 := by
  have hreg : R.PWR_STAT ≠ f.reg := fun h => absurd (isControl_range ⟨f, h⟩) (by decide)
  have hvhv : ((d.fEntered f 0).wrF f.reg fPEND 0).vhvlow = (d.fEntered f 0).vhvlow :=
    congrArg (· == 1) (rdF_wrF_other _ f.reg R.PWR_STAT F.PWR_STAT_VHVLOW fPEND 0 hreg)
  have hoff : ((d.fEntered f 0).wrF f.reg fPEND 0).fState f = 0 :=
    (rdF_wrF_apart _ f.reg fSTATE fPEND (by decide) 0).trans (fState_fEntered d f (by decide))
  rw [fShutDone_pend d hstate hpend]
  refine ⟨(rdF_fStart_apart _ f fPEND (.inr rfl)).trans (rdF_wrF_of_lt _ f.reg fPEND (by decide) (by decide)), ?_⟩
  rw [fState_fStart, hoff, hvhv]
  cases hf : f.byVhv with
  | true => rw [vhvlow_fEntered d hf (by decide)]
  | false => rfl

/-- Settles O11: the table of R54 is read off STATE after the write of EN; what a new STATE does to its unit writes no
control register. -/
theorem functionSequences : Obligations.FunctionSequences := by
  unfold Obligations.FunctionSequences
  refine ⟨?_, ?_, ?_, ?_, ?_, ?_, ?_⟩
  · intro s sess f en hup hgate hforced hexists
    obtain ⟨hclosed, hen, hoff, hon, hdown⟩ := fEnable_spec s.dev.closeGate f en
    have hstate : s.dev.closeGate.fState f = s.dev.fState f := rdF_closeGate_reg s.dev f fSTATE
    rw [hstate] at hoff hon hdown
    rw [vhvlow_closeGate] at hoff
    refine completes_of_up hup (exec_enableWrite sess en false f s) ?_
    rw [fEnWrite_free en hgate hforced hexists]
    exact ⟨hclosed, hen, hoff, hon, hdown⟩
  · intro s sess f en same hup hgate hforced
    exact exec_of_up hup (exec_enableWrite sess en same f s) (fEnWrite_forced en same hgate hforced)
  · intro s f hup hstate
    refine completes_of_up hup (f := fun d => d.fStartDone f) rfl ?_
    rw [Dev.fStartDone, if_pos hstate]
    exact fState_fEntered s.dev f (by decide)
  · intro s f hup hstate hpend
    refine completes_of_up hup (f := fun d => d.fShutDone f) rfl ?_
    rw [fShutDone_idle s.dev hstate hpend]
    exact fState_fEntered s.dev f (by decide)
  · intro s f hup hstate hpend
    exact completes_of_up hup (f := fun d => d.fShutDone f) rfl (fShutDone_pend_spec s.dev hstate hpend)
  · intro s f hstate
    exact exec_keeps (f := fun d => d.fStartDone f) rfl (if_neg hstate)
  · intro s f hstate
    exact exec_keeps (f := fun d => d.fShutDone f) rfl (if_pos hstate)

/-! Key-gated writes (R47 to R49) -/

theorem passGate_refused {d : Dev} {sess : Nat} (h : ∀ g, d.gate = some g → g.opener ≠ sess) (addr : Nat) :
    d.passGate sess addr = (false, guarded d sess addr) := by
  unfold Dev.passGate
  split
  case h_1 g hg => exact if_neg (h g hg)
  case h_2 => rfl

/-- A key-gated write: behind the gate its own change, and the record of R49 where the gate refuses it. -/
def Dev.gatedWrite (d : Dev) (sess addr : Nat) (f : Dev → Dev) : Dev :=
  if (d.passGate sess addr).1 then f (d.passGate sess addr).2 else (d.passGate sess addr).2

theorem gatedWrite_refused {d : Dev} {sess : Nat} (h : ∀ g, d.gate = some g → g.opener ≠ sess) (addr : Nat)
    (f : Dev → Dev) : d.gatedWrite sess addr f = guarded d sess addr := by
  simp [Dev.gatedWrite, passGate_refused h]

theorem gatedWrite_opener {d : Dev} {sess : Nat} (h : d.GateFor sess) (addr : Nat) (f : Dev → Dev) :
    d.gatedWrite sess addr f = f d.closeGate := by
  simp [Dev.gatedWrite, passGate_opener h]

/-- What a host's enable write does behind the gate. -/
def Dev.fEnPassed (f : Func) (sess : Nat) (en same : Bool) (d : Dev) : Dev :=
  if d.fForced f || same then d.happen (hostOvr f.reg (BitVec.ofNat 32 (b2n en)) 1 resOverridden sess)
  else if !d.fExists f then d
  else d.fEnable f en

theorem fEnWrite_eq_gatedWrite (d : Dev) (sess : Nat) (f : Func) (en same : Bool) :
    d.fEnWrite sess f en same = d.gatedWrite sess f.reg (Dev.fEnPassed f sess en same) := by
  simp only [Dev.fEnWrite, Dev.gatedWrite, Bool.not_eq_true', Dev.fEnPassed]
  cases (d.passGate sess f.reg).1 <;> rfl

theorem gate_fEnPassed (f : Func) (sess : Nat) (en same : Bool) (d : Dev) : (Dev.fEnPassed f sess en same d).gate = d.gate := by
  unfold Dev.fEnPassed
  split
  · rfl
  · split
    · rfl
    · exact (fEnable_spec d f en).1

/-- What a HANDOVER does behind the gate. -/
def Dev.handoverPassed (d : Dev) : Dev :=
  if d.role = 2 ∧ d.peerUp ∧ d.pair.castle = 0 ∧ d.pair.planned.isNone then d.plan 2 else d.flag R.PAR_STAT 11

theorem handover_eq_gatedWrite (d : Dev) (sess : Nat) :
    d.handover sess = d.gatedWrite sess R.PAR_CMD Dev.handoverPassed := by
  simp only [Dev.handover, Dev.gatedWrite, Bool.not_eq_true', Dev.handoverPassed]
  cases (d.passGate sess R.PAR_CMD).1 <;> rfl

theorem gate_handoverPassed (d : Dev) : d.handoverPassed.gate = d.gate := by
  unfold Dev.handoverPassed Dev.plan
  split <;> simp

/-- What a write of DOM_SET_HI does behind the gate. -/
def Dev.domSetPassed (sess : Nat) (hi : BitVec 16) (d : Dev) : Dev :=
  if !d.holder then d.domRefused
  else
    let v := (d.rd R.DOM_SET_LO).toNat + 2 ^ 32 * hi.toNat
    let d := d.setDom (fun x => { x with setVal := v })
    let shows := (d.wbWord R.DOM_SET_HI).isSome || hi.toNat != d.rdF R.DOM_SET_HI F.DOM_SET_HI_S_HI
    { d.wrF R.DOM_SET_HI F.DOM_SET_HI_PEND (b2n shows) with
      wb := (R.DOM_SET_HI, BitVec.ofNat 32 hi.toNat, sess) :: d.wb.filter (fun x => x.1 ≠ R.DOM_SET_HI) }

theorem domSet_eq_gatedWrite (d : Dev) (sess : Nat) (hi : BitVec 16) :
    d.domSet sess hi = d.gatedWrite sess R.DOM_SET_HI (Dev.domSetPassed sess hi) := by
  simp only [Dev.domSet, Dev.gatedWrite, Bool.not_eq_true', Dev.domSetPassed]
  cases (d.passGate sess R.DOM_SET_HI).1 <;> rfl

theorem gate_domRefused (d : Dev) : d.domRefused.gate = d.gate := by simp [Dev.domRefused]

theorem gate_domSetPassed (sess : Nat) (hi : BitVec 16) (d : Dev) : (Dev.domSetPassed sess hi d).gate = d.gate := by
  unfold Dev.domSetPassed
  split
  · exact gate_domRefused d
  · rfl

theorem gate_domWb (d : Dev) (sess a : Nat) (mask v : Word) : (d.domWb sess a mask v).gate = d.gate := by
  unfold Dev.domWb
  split
  · simp
  · exact gate_domRefused d

theorem gate_resetDie (d : Dev) (warm : Bool) : (d.resetDie warm).gate = none := rfl

/-- A reset of the die closes the gate. -/
theorem gate_resetAs (d : Dev) (cause detail : Nat) : (d.resetAs cause detail).gate = none := by
  unfold Dev.resetAs
  extract_lets d1 held d2 d3
  have h3 : d3.gate = none := gate_resetDie d2 true
  split
  · exact (wr_gate d3 _ _).trans h3
  · exact h3

theorem gate_swapBit (d : Dev) : d.swapBit.gate = d.gate := by
  unfold Dev.swapBit
  dsimp only
  repeat' split
  all_goals rfl

theorem gate_bootnextBit (d : Dev) : d.bootnextBit.gate = d.gate := by
  unfold Dev.bootnextBit
  split <;> rfl

theorem gate_abortBit (d : Dev) : d.abortBit.gate = d.gate := by
  have habandon : d.swapAbandon.gate = d.gate := by
    unfold Dev.swapAbandon
    split <;> rfl
  unfold Dev.abortBit
  split
  · rfl
  · exact habandon

/-- Each key-gated write is one: its change behind the gate leaves a closed gate closed. -/
theorem exec_gatedWrite {c : Instr} {sess addr : Nat} (hc : gatedWrite c = some (sess, addr)) :
    ∃ f : Dev → Dev, (∀ d, d.gate = none → (f d).gate = none) ∧
      ∀ s, exec c s = .next (s.onDev (fun d => d.whenUp (fun d => d.gatedWrite sess addr f))) := by
  have henable (f : Func) (en same : Bool) (s : State) : exec (enableWrite sess en same f) s =
      .next (s.onDev (fun d => d.whenUp (fun d => d.gatedWrite sess f.reg (Dev.fEnPassed f sess en same)))) := by
    simp only [exec_enableWrite, fEnWrite_eq_gatedWrite]
  cases c
  case xchEnWrite _ n w =>
    cases hc
    exact ⟨_, fun d h => (gate_fEnPassed _ _ _ _ d).trans h, henable (.xch n) w.en w.same⟩
  case loopSupplyEnWrite _ n w =>
    cases hc
    exact ⟨_, fun d h => (gate_fEnPassed _ _ _ _ d).trans h, henable (.supply n) w.en w.same⟩
  case qchPwrEnWrite _ n w =>
    cases hc
    exact ⟨_, fun d h => (gate_fEnPassed _ _ _ _ d).trans h, henable (.qch n) w.en w.same⟩
  case panelEnWrite _ w =>
    cases hc
    exact ⟨_, fun d h => (gate_fEnPassed _ _ _ _ d).trans h, henable .panel w.en w.same⟩
  case linkEnWrite _ w =>
    cases hc
    exact ⟨_, fun d h => (gate_fEnPassed _ _ _ _ d).trans h, henable .link w.en w.same⟩
  case handover =>
    cases hc
    refine ⟨_, fun d h => (gate_handoverPassed d).trans h, fun s => ?_⟩
    simp only [← handover_eq_gatedWrite]
    rfl
  case swap => cases hc; exact ⟨_, fun d h => (gate_swapBit d).trans h, fun _ => rfl⟩
  case bootnext => cases hc; exact ⟨_, fun d h => (gate_bootnextBit d).trans h, fun _ => rfl⟩
  case abort => cases hc; exact ⟨_, fun d h => (gate_abortBit d).trans h, fun _ => rfl⟩
  case set _ hi =>
    cases hc
    refine ⟨_, fun d h => (gate_domSetPassed sess hi d).trans h, fun s => ?_⟩
    simp only [← domSet_eq_gatedWrite]
    rfl
  case zone _ z => cases hc; exact ⟨_, fun d h => (gate_domWb d sess R.DOM_ZONE 0xFFF _).trans h, fun _ => rfl⟩
  case hostReset => cases hc; exact ⟨_, fun d _ => gate_resetAs d 4 sess, fun _ => rfl⟩
  case sleepRequest _ mask =>
    cases hc
    exact ⟨fun d => (d.wrF R.PWR_SLEEP F.PWR_SLEEP_WAKEMSK mask.toNat).wbWrite R.PWR_SLEEP 1 1 sess,
      fun d h => by simpa using h, fun _ => rfl⟩
  all_goals cases hc

/-- Settles O6: every key-gated write goes through one gate, which closes for the write it lets pass. -/
theorem keyGateRules : Obligations.KeyGateRules := by
  unfold Obligations.KeyGateRules
  refine ⟨?_, ⟨?_, ?_, ?_⟩, ?_, ?_⟩
  · intro c s sess addr hup hc hforeign
    obtain ⟨f, -, hexec⟩ := exec_gatedWrite hc
    exact exec_of_up hup (hexec s) (gatedWrite_refused hforeign addr f)
  · intro s sess hup hgate
    refine exec_of_up hup (f := fun d => d.keyWrite sess keyValue) rfl ?_
    rcases hgate with h | ⟨since, h⟩ <;> simp [Dev.keyWrite, h, Dev.openGate]
  · rintro s sess key hup ⟨since, h⟩ hkey
    refine exec_of_up hup (f := fun d => d.keyWrite sess key) rfl ?_
    have hkey' : key ≠ keyValue := hkey
    simp [Dev.keyWrite, h, hkey', Dev.closeGate]
  · intro s g hup h hlate
    refine exec_of_up hup (f := fun d => d.keyTimeout) rfl ?_
    have hlate' : g.since + gateCycles ≤ s.dev.clk := hlate
    simp [Dev.keyTimeout, h, hlate', Dev.closeGate]
  · intro s g sess key h hforeign
    have hkey (k : BitVec 16) : s.dev.keyWrite sess k = s.dev := by simp [Dev.keyWrite, h, hforeign]
    exact ⟨exec_keeps (f := fun d => d.keyWrite sess keyValue) rfl (hkey _),
      exec_keeps (f := fun d => d.keyWrite sess key) rfl (hkey key)⟩
  · intro c s sess addr hup hc hgate
    obtain ⟨f, hclosed, hexec⟩ := exec_gatedWrite hc
    refine completes_of_up hup (hexec s) ?_
    rw [gatedWrite_opener hgate]
    exact hclosed _ rfl

end Sys2Proof.Machine
end

section
/-!
PROOFS. The turn (chapter 01): what its parts leave of the turn's own data, the emit, the clock monitor, the overrun.
-/
namespace Sys2Proof.Machine

/-! Changes that leave the turn's data alone -/

/-- A fold over changes that leave the turn alone leaves it alone. -/
@[simp] theorem foldl_turn {α : Type} {f : Dev → α → Dev} (h : ∀ d x, (f d x).turn = d.turn) (l : List α) (d : Dev) :
    (l.foldl f d).turn = d.turn := by
  induction l generalizing d with
  | nil => rfl
  | cons x t ih => exact (ih (f d x)).trans (h d x)

@[simp] theorem doWithhold_turn (d : Dev) (turn tick m : Nat) :
    (d.doWithhold turn tick m).turn = d.turn := by
  simp [Dev.doWithhold, apply_ite Dev.turn]

@[simp] theorem loWithhold_turn (d : Dev) (turn tick m : Nat) (x : SetIn) :
    (d.loWithhold turn tick m x).turn = d.turn := by
  simp [Dev.loWithhold, apply_ite Dev.turn]

@[simp] theorem setLevel_turn (d : Dev) (m : Nat) (b : Bool) :
    (d.setLevel m b).turn = d.turn := by
  simp [Dev.setLevel]

@[simp] theorem doEmit_turn (d : Dev) (m : Nat) :
    (d.doEmit m).turn = d.turn := by
  simp [Dev.doEmit, apply_ite Dev.turn]

@[simp] theorem doTake_turn (d : Dev) :
    (d.doTake).turn = d.turn := by
  simp [Dev.doTake]

@[simp] theorem doEmitAll_turn (d : Dev) :
    (d.doEmitAll).turn = d.turn := by
  simp [Dev.doEmitAll]

@[simp] theorem loEmit_turn (d : Dev) (n : Nat) (x : SetIn) :
    (d.loEmit n x).turn = d.turn := by
  simp [Dev.loEmit, apply_ite Dev.turn]

@[simp] theorem pAim_turn (d : Dev) (e l : Nat) :
    (d.pAim e l).turn = d.turn := by
  simp [Dev.pAim]

@[simp] theorem pShow_turn (d : Dev) (r : Nat) :
    (d.pShow r).turn = d.turn := by
  simp [Dev.pShow]

@[simp] theorem pRequest_turn (d : Dev) (r q : Nat) :
    (d.pRequest r q).turn = d.turn := by
  simp [Dev.pRequest, apply_ite Dev.turn]

@[simp] theorem pPend_turn (d : Dev) (r : Nat) (b : Bool) :
    (d.pPend r b).turn = d.turn := by
  simp [Dev.pPend]

@[simp] theorem pnlEmit_turn (d : Dev) :
    (d.pnlEmit).turn = d.turn := by
  simp [Dev.pnlEmit, apply_ite Dev.turn]

@[simp] theorem emitLevels_turn (d : Dev) :
    (d.emitLevels).turn = d.turn := by
  simp [Dev.emitLevels]

@[simp] theorem xCompare_turn (d : Dev) (kind idx : Nat) (differs : Bool) (reg bit ev : Nat) :
    (d.xCompare kind idx differs reg bit ev).turn = d.turn := by
  simp [Dev.xCompare, apply_ite Dev.turn]

@[simp] theorem loCompare_turn (d : Dev) (n : Nat) :
    (d.loCompare n).turn = d.turn := by
  simp [Dev.loCompare, apply_ite Dev.turn]

@[simp] theorem doCompare_turn (d : Dev) :
    (d.doCompare).turn = d.turn := by
  simp [Dev.doCompare, apply_ite Dev.turn]

@[simp] theorem emitCompare_turn (d : Dev) :
    (d.emitCompare).turn = d.turn := by
  simp [Dev.emitCompare, apply_ite Dev.turn]

@[simp] theorem showPoint_turn (d : Dev) (p : Nat) :
    (d.showPoint p).turn = d.turn := by
  simp [Dev.showPoint, apply_ite Dev.turn]

@[simp] theorem showDev_turn (d : Dev) (k : Nat) :
    (d.showDev k).turn = d.turn := by
  simp [Dev.showDev]

@[simp] theorem showHost_turn (d : Dev) (h : Nat) :
    (d.showHost h).turn = d.turn := by
  simp [Dev.showHost]

@[simp] theorem showNode_turn (d : Dev) (n : Nat) :
    (d.showNode n).turn = d.turn := by
  simp [Dev.showNode]

@[simp] theorem showTimer_turn (d : Dev) (t : Nat) :
    (d.showTimer t).turn = d.turn := by
  simp [Dev.showTimer]

@[simp] theorem showCounts_turn (d : Dev) :
    (d.showCounts).turn = d.turn := by
  unfold Dev.showCounts
  extract_lets pts img d1 d2 oos d3
  have h1 : d1.turn = d.turn := foldl_turn (fun _ _ => wr_turn _ _ _) _ d
  exact (wr_turn d3 _ _).trans ((wr_turn d2 _ _).trans ((wr_turn d1 _ _).trans h1))

@[simp] theorem showBelfry_turn (d : Dev) :
    (d.showBelfry).turn = d.turn := by
  unfold Dev.showBelfry
  extract_lets b v d1 d2 d3 d4 d5 d6
  refine (foldl_turn (fun e c => ?_) _ d6).trans ?_
  · exact (wr_turn _ _ _).trans (wr_turn _ _ _)
  · simp [d6, d5, d4, d3, d2, d1]

@[simp] theorem latShow_turn (d : Dev) :
    (d.latShow).turn = d.turn := by
  simp [Dev.latShow]

@[simp] theorem jrnDue_turn (d : Dev) :
    (d.jrnDue).turn = d.turn := by
  unfold Dev.jrnDue
  exact foldl_turn (fun _ _ => by simp) _ d

@[simp] theorem jrnHeads_turn (d : Dev) :
    (d.jrnHeads).turn = d.turn := by
  simp [Dev.jrnHeads]

@[simp] theorem jrnShow_turn (d : Dev) :
    (d.jrnShow).turn = d.turn := by
  simp [Dev.jrnShow]

@[simp] theorem exportOne_turn (d : Dev) :
    (d.exportOne).turn = d.turn := by
  unfold Dev.exportOne
  repeat' split
  all_goals simp

@[simp] theorem exportAll_turn (d : Dev) :
    (d.exportAll).turn = d.turn := by
  simp [Dev.exportAll]

@[simp] theorem send60_turn (d : Dev) (b : List Byte) :
    (d.send60 b).turn = d.turn := by
  simp [Dev.send60]

@[simp] theorem mirrorSend_turn (d : Dev) :
    (d.mirrorSend).turn = d.turn := by
  simp [Dev.mirrorSend, apply_ite Dev.turn]

@[simp] theorem pushFree_turn (d : Dev) (q : Nat) (bytes : List Byte) (ref : Option HostRef) :
    (d.pushFree q bytes ref).turn = d.turn := by
  simp [Dev.pushFree, apply_ite Dev.turn]

@[simp] theorem setCanCh_turn (d : Dev) (n : Nat) (f : CanCh → CanCh) :
    (d.setCanCh n f).turn = d.turn := by
  simp [Dev.setCanCh]

@[simp] theorem placeOther_turn (d : Dev) (x : Place) :
    (d.placeOther x).turn = d.turn := by
  simp [Dev.placeOther, apply_ite Dev.turn]

@[simp] theorem setHart_turn (d : Dev) (n : Nat) (f : Hart → Hart) :
    (d.setHart n f).turn = d.turn := by
  simp [Dev.setHart]

@[simp] theorem hartAccept_turn (d : Dev) (n : Nat) (elem : List Byte) (ref : HostRef) :
    (d.hartAccept n elem ref).turn = d.turn := by
  simp [Dev.hartAccept]

@[simp] theorem placeOut_turn (d : Dev) (p : Place) :
    (d.placeOut p).turn = d.turn := by
  unfold Dev.placeOut
  extract_lets q e
  have he : e.turn = d.turn := by
    unfold e
    split <;> simp
  simp [apply_ite Dev.turn, he]

@[simp] theorem heartbeats_turn (d : Dev) :
    (d.heartbeats).turn = d.turn := by
  simp [Dev.heartbeats]

@[simp] theorem showBacklog_turn (d : Dev) (n : Nat) :
    (d.showBacklog n).turn = d.turn := by
  simp [Dev.showBacklog]

@[simp] theorem placeFrame_turn (d : Dev) (n : Nat) (e : LEntry) (resend resync : Bool) :
    (d.placeFrame n e resend resync).turn = d.turn := by
  simp [Dev.placeFrame, apply_ite Dev.turn]

@[simp] theorem placeEntry_turn (d : Dev) (e : LEntry) :
    (d.placeEntry e).turn = d.turn := by
  simp [Dev.placeEntry, apply_ite Dev.turn]

end Sys2Proof.Machine
end

section
namespace Sys2Proof.Machine

/-! The emit (R23, R42) -/

@[simp] theorem evalEvents_turn (d : Dev) (acc : Acc) :
    (d.evalEvents acc).turn = { d.turn with swapFlags := [] } := by
  simp [Dev.evalEvents, apply_ite Dev.turn]

@[simp] theorem withhold_turn (d : Dev) (r : TurnRun) : (d.withhold r).turn = d.turn := by
  simp [Dev.withhold, apply_ite Dev.turn]

@[simp] theorem emitFrames_turn (d : Dev) (r : TurnRun) : (d.emitFrames r).turn = { d.turn with places := [] } := by
  simp [Dev.emitFrames, apply_ite Dev.turn]

@[simp] theorem emissions_turn (d : Dev) (r : TurnRun) :
    (d.emissions r).turn = { d.turn with toEmit := [], places := [] } := by
  unfold Dev.emissions
  split <;> simp

@[simp] theorem emitShow_turn (d : Dev) : d.emitShow.turn = { d.turn with hpGone := [] } := by
  simp [Dev.emitShow]

/-- Placing an element in a queue clears no pending bit. -/
theorem evPending_push {d : Dev} {q m : Nat} (hm : m < 256) (hq : q < 64) (bytes : List Byte) (ref : Option HostRef)
    (h : d.evPending m = true) : (d.push q bytes ref).evPending m = true := by
  have hflag : ∀ e : Dev, (e.flag (R.HST_QSTAT q) 16).evPending m = e.evPending m := fun e =>
    evPending_wr_other e _ _ m (by simp only [R.HST_EVPEND, R.HST_QSTAT]; omega)
  unfold Dev.push Dev.refuse
  split
  · exact h
  · exact evPending_raise_of hm (.inr ((hflag d).trans h))

theorem evPending_mirrorSend {d : Dev} {m : Nat} (hm : m < 256) (h : d.evPending m = true) :
    d.mirrorSend.evPending m = true := by
  have hpushes (l : List (List Byte)) (e : Dev) (he : e.evPending m = true) :
      (l.foldl (fun d x => d.push 60 x none) e).evPending m = true := by
    induction l generalizing e with
    | nil => exact he
    | cons x t ih => exact ih _ (evPending_push hm (by decide) x none he)
  unfold Dev.mirrorSend
  split
  · exact hpushes _ d h
  · exact h

end Sys2Proof.Machine
end

section
namespace Sys2Proof.Machine

/-- Settles O14: the emit acts on a completed turn that has not emitted, and its parts keep the rest of the turn. -/
theorem emissionsAtEmit : Obligations.EmissionsAtEmit := by
  unfold Obligations.EmissionsAtEmit
  refine ⟨fun s hdone => exec_keeps (f := Dev.emit) rfl ?_, fun s r hup hrun hphase hemitted => ?_⟩
  · unfold Dev.emit
    split
    case h_1 => rfl
    case h_2 r hrun => exact if_neg (fun h => by rcases hdone r hrun with h' | h' <;> simp_all)
  · have hclk : s.dev.emit.clk = s.dev.clk := (emit_kept (Kept.refl s.dev)).clk
    refine completes_of_up hup (f := Dev.emit) rfl ?_
    revert hclk
    have hacts : r.phase = .completed ∧ !r.emitted := ⟨hphase, by rw [hemitted]; rfl⟩
    have hemit : s.dev.emit = (((((if r.held then s.dev else s.dev.evalEvents r.acc).emissions r).setRun
        (fun r => { r with emitted := true })).emitShow).mirrorSend) := by
      simp only [Dev.emit, hrun]
      exact if_pos hacts
    generalize hheld : (if r.held then s.dev else s.dev.evalEvents r.acc) = e at hemit
    have hturn : e.turn.run = some r ∧ e.turn.cur = s.dev.turn.cur ∧ e.turn.number = s.dev.turn.number := by
      rw [← hheld]
      split <;> simp [hrun]
    obtain ⟨hr, hcur, hnumber⟩ := hturn
    intro hclk
    refine ⟨?_, ?_, ?_, ?_, ?_, ?_, hclk⟩ <;> rw [hemit]
    · simp [Dev.setRun]
    · simp [Dev.setRun]
    · exact evPending_mirrorSend (by decide) (evPending_raise_same _ (by decide))
    · simp [Dev.setRun, hr]
    · simp [Dev.setRun, hcur]
    · simp [Dev.setRun, hnumber]

/-! Turn registers and the clock monitor -/

/-- A fold over indices of which one alone acts is that one's step. -/
theorem foldl_range_single {f : Dev → Nat → Dev} {k n : Nat} (hk : k < n) (h : ∀ d j, j ≠ k → f d j = d) (d : Dev) :
    (List.range n).foldl f d = f d k := by
  have hbelow : ∀ m, m ≤ k → (List.range m).foldl f d = d := by
    intro m hm
    induction m with
    | zero => rfl
    | succ m ih => rw [List.range_succ, List.foldl_append, ih (by omega)]; exact h d m (by omega)
  induction n with
  | zero => omega
  | succ n ih =>
    rw [List.range_succ, List.foldl_append]
    rcases Nat.lt_succ_iff_lt_or_eq.1 hk with hlt | rfl
    · rw [ih hlt]; exact h _ n (by omega)
    · rw [hbelow k (Nat.le_refl k)]; rfl

/-- The domain bits of one domain. -/
theorem bitOf_domain {k j : Nat} (hk : k < 11) : bitOf (BitVec.ofNat 11 (2 ^ k)).toNat j = decide (k = j) := by
  have hlt : 2 ^ k < 2 ^ 11 := Nat.pow_lt_pow_right (by decide) hk
  rw [bitOf_eq_testBit, BitVec.toNat_ofNat, Nat.mod_eq_of_lt hlt, Nat.testBit_two_pow]

theorem clockDomain_unmeasured (d : Dev) {measured : BitVec 11} (out : BitVec 11) {j : Nat}
    (h : bitOf measured.toNat j = false) : d.clockDomain measured out j = d := by simp [Dev.clockDomain, h]

/-- A window of one domain is that domain's alone. -/
theorem clockWindow_domain (d : Dev) {k : Nat} (hk : k < 11) (out : BitVec 11) :
    d.clockWindow (BitVec.ofNat 11 (2 ^ k)) out = d.clockDomain (BitVec.ofNat 11 (2 ^ k)) out k :=
  foldl_range_single hk (fun d j hj => clockDomain_unmeasured d out (by rw [bitOf_domain hk, decide_eq_false hj.symm])) d

theorem clockWindow_unmeasured (d : Dev) (out : BitVec 11) : d.clockWindow 0 out = d := by
  have hstep : ∀ (l : List Nat), l.foldl (fun d k => d.clockDomain 0 out k) d = d := by
    intro l
    induction l with
    | nil => rfl
    | cons j t ih =>
      rw [List.foldl_cons, clockDomain_unmeasured d out (by rw [bitOf_eq_testBit]; exact Nat.zero_testBit j)]
      exact ih
  exact hstep _

theorem upd_const {α : Type} (l : List α) (i : Nat) (x : α) : upd l i (fun _ => x) = l.set i x := by
  induction l generalizing i with
  | nil => rfl
  | cons y t ih =>
    cases i with
    | zero => rfl
    | succ i => exact congrArg (y :: ·) (ih i)

/-- A measured window outside the limit counts in its domain's run, and the second one acts (R37). -/
theorem clockDomain_outside (d : Dev) {k n : Nat} (hk : k < 11) (hk9 : k ≠ 9)
    (hn : satInc 3 (d.turn.clkRuns.getD k 0) = n) :
    d.clockDomain (BitVec.ofNat 11 (2 ^ k)) (BitVec.ofNat 11 (2 ^ k)) k =
      if n = 2 then
        (({ d with turn := { d.turn with clkRuns := d.turn.clkRuns.set k n } } : Dev).flagEv R.SYS_CLKSTAT k 4).declare
          (if k ≤ 2 then 0x01 else if k = 8 then 0x03 else 0x02) k
      else { d with turn := { d.turn with clkRuns := d.turn.clkRuns.set k n } } := by
  have hbit : bitOf (BitVec.ofNat 11 (2 ^ k)).toNat k = true := by rw [bitOf_domain hk, decide_eq_true rfl]
  have hmeasured : ¬ ((!true || k == 9) = true) := by simp [hk9]
  subst hn
  rw [← upd_const]
  unfold Dev.clockDomain
  rw [hbit]
  exact (if_neg hmeasured).trans (if_neg (by decide))

theorem clockDomain_inside (d : Dev) {k : Nat} (hk : k < 11) (hk9 : k ≠ 9) :
    d.clockDomain (BitVec.ofNat 11 (2 ^ k)) 0 k =
      { d with turn := { d.turn with clkRuns := upd d.turn.clkRuns k (fun _ => 0) } } := by
  have hbit : bitOf (BitVec.ofNat 11 (2 ^ k)).toNat k = true := by rw [bitOf_domain hk, decide_eq_true rfl]
  have hmeasured : ¬ ((!true || k == 9) = true) := by simp [hk9]
  have hin : bitOf (0 : BitVec 11).toNat k = false := by rw [bitOf_eq_testBit]; exact Nat.zero_testBit k
  unfold Dev.clockDomain
  rw [hbit, hin]
  exact (if_neg hmeasured).trans (if_pos rfl)

/-- The turn start resets both maxima that CLR has asked for. -/
theorem timingClear_of {d : Dev} (h : d.turn.clrMax = true) :
    d.timingClear = (d.wrFs R.SYS_TIMINGMAX [(F.SYS_TIMINGMAX_CDONE, 0), (F.SYS_TIMINGMAX_EVAL, 0)]).setTurn
      (fun t => { t with clrMax := false }) := if_pos h

/-- Settles O15: the two maxima are fields of one register; a window of one domain is that domain's step alone. -/
theorem timingAndClockMonitor : Obligations.TimingAndClockMonitor := by
  unfold Obligations.TimingAndClockMonitor
  refine ⟨⟨fun s hup => exec_of_up hup (f := Dev.timingmaxClr) rfl rfl, fun d hclr => ?_, fun s hup => ?_⟩, ?_⟩
  · rw [timingClear_of hclr]
    have hfield (f : Field) : ((d.wrFs R.SYS_TIMINGMAX [(F.SYS_TIMINGMAX_CDONE, 0), (F.SYS_TIMINGMAX_EVAL, 0)]).setTurn
        (fun t => { t with clrMax := false })).rdF R.SYS_TIMINGMAX f =
          getF f (putF F.SYS_TIMINGMAX_EVAL (putF F.SYS_TIMINGMAX_CDONE (d.rd R.SYS_TIMINGMAX) 0) 0) :=
      congrArg (getF f) (rd_wr_same d R.SYS_TIMINGMAX _)
    refine ⟨?_, ?_, rfl, fun a ha => rd_wr_other d R.SYS_TIMINGMAX a _ ha⟩
    · rw [hfield, getF_putF_apart _ _ (by decide), getF_putF _ (by decide)]
      exact Nat.zero_mod _
    · rw [hfield, getF_putF _ (by decide)]
      exact Nat.zero_mod _
  · refine completes_of_up hup (f := Dev.turnnumLoRead) rfl ⟨?_, onlyRegs_wr _ _ _⟩
    exact rdF_wrF _ _ _ (by decide) _
  · intro s k hup hk hk9 hlen
    have hwindow (out : BitVec 11) {e : Dev} (he : s.dev.clockDomain (BitVec.ofNat 11 (2 ^ k)) out k = e) :
        exec (.clockWindow (BitVec.ofNat 11 (2 ^ k)) out) s = .next (s.on e) :=
      exec_of_up hup (f := fun d => d.clockWindow (BitVec.ofNat 11 (2 ^ k)) out) rfl
        ((clockWindow_domain s.dev hk out).trans he)
    refine ⟨fun hrun => hwindow _ ?_, fun hrun => hwindow _ ?_, hwindow _ ?_, fun out => ?_⟩
    · exact clockDomain_outside (n := 2) _ hk hk9 (by rw [List.getD_eq_getElem?_getD, hrun]; rfl)
    · exact clockDomain_outside (n := 1) _ hk hk9 (by rw [List.getD_eq_getElem?_getD, hrun]; rfl)
    · rw [clockDomain_inside _ hk hk9, upd_const]
    · exact exec_keeps (f := fun d => d.clockWindow 0 out) rfl (clockWindow_unmeasured s.dev out)

end Sys2Proof.Machine
end

section
/-!
PROOFS. The turn (chapter 01), continued: overrun turns and the sample latch.
-/
namespace Sys2Proof.Machine

/-! Overrun turns (R27 to R29) -/

@[simp] theorem setRole_turn (d : Dev) (r : Nat) : (d.setRole r).turn = d.turn := by
  simp [Dev.setRole, Dev.writeThrough, apply_ite Dev.turn]

@[simp] theorem swapAbandon_turn (d : Dev) : d.swapAbandon.turn = d.turn := by
  simp [Dev.swapAbandon, apply_ite Dev.turn]

@[simp] theorem rejoinFailed_turn (d : Dev) : d.rejoinFailed.turn = d.turn := by
  simp [Dev.rejoinFailed, apply_ite Dev.turn]

@[simp] theorem linkGone_turn (d : Dev) (next : Nat) : (d.linkGone next).turn = d.turn := by
  simp [Dev.linkGone, apply_ite Dev.turn]

@[simp] theorem linkLost_turn (d : Dev) : d.linkLost.turn = d.turn := by
  simp [Dev.linkLost, apply_ite Dev.turn]

/-- A change that leaves the ingress queues, the write buffer and the clock of the device alone. -/
structure KeepsEntries (d e : Dev) : Prop where
  of ::
  ing : e.jrn.ing = d.jrn.ing
  wbuf : e.jrn.wbuf = d.jrn.wbuf

theorem swapAbandon_ing (d : Dev) : d.swapAbandon.jrn = d.jrn := by
  simp [Dev.swapAbandon, apply_ite Dev.jrn]

theorem setRole_keepsEntries (d : Dev) (r : Nat) : KeepsEntries d (d.setRole r) := by
  constructor <;> simp [Dev.setRole, Dev.writeThrough, apply_ite Dev.jrn, apply_ite Journal.ing, apply_ite Journal.wbuf]

theorem rejoinFailed_keepsEntries (d : Dev) : KeepsEntries d d.rejoinFailed := by
  constructor <;> simp [Dev.rejoinFailed, apply_ite Dev.jrn, apply_ite Journal.ing, apply_ite Journal.wbuf,
    (setRole_keepsEntries _ _).ing, (setRole_keepsEntries _ _).wbuf]

theorem linkGone_keepsEntries (d : Dev) (next : Nat) : KeepsEntries d (d.linkGone next) := by
  constructor <;> simp [Dev.linkGone, apply_ite Dev.jrn, apply_ite Journal.ing, apply_ite Journal.wbuf, swapAbandon_ing,
    (rejoinFailed_keepsEntries _).ing, (rejoinFailed_keepsEntries _).wbuf, Dev.happen]

theorem linkLost_keepsEntries (d : Dev) : KeepsEntries d d.linkLost := by
  constructor <;> simp [Dev.linkLost, apply_ite Dev.jrn, apply_ite Journal.ing, apply_ite Journal.wbuf,
    (linkGone_keepsEntries _ _).ing, (linkGone_keepsEntries _ _).wbuf]

/-- The flags of an overrun turn. -/
def Dev.overrunFlags (d : Dev) (bits : Nat) : Dev :=
  (List.range 3).foldl (fun d b => if bitOf bits b then d.flag R.SYS_TURNSTAT b else d) d

/-- TURNSTAT is none of the registers that the end of a link writes. -/
theorem turnstat_linkApart : LinkApart (· = R.SYS_TURNSTAT) :=
  ⟨fun q hq h => by simp only [R.HST_QSTAT, R.SYS_TURNSTAT] at h; omega, by decide⟩

section
variable (d : Dev) (bits : Nat)

@[simp] theorem overrunFlags_turn : (d.overrunFlags bits).turn = d.turn :=
  foldl_turn (fun d b => by simp [apply_ite Dev.turn]) _ d

theorem overrunFlags_jrn : (d.overrunFlags bits).jrn = d.jrn := by
  simp [Dev.overrunFlags, List.range_succ, apply_ite Dev.jrn]

theorem overrunFlags_wtc : (d.overrunFlags bits).wtc = d.wtc := by
  simp [Dev.overrunFlags, List.range_succ, apply_ite Dev.wtc]

/-- The flags leave the fields between them and SEQ. -/
theorem rdF_overrunFlags_apart {f : Field} (hlo : 3 ≤ f.lo) (hseq : f.lo + f.width ≤ 24) :
    (d.overrunFlags bits).rdF R.SYS_TURNSTAT f = d.rdF R.SYS_TURNSTAT f := by
  have hstep (b : Nat) (hb : b < 3) (e : Dev) :
      (if bitOf bits b then e.flag R.SYS_TURNSTAT b else e).rdF R.SYS_TURNSTAT f = e.rdF R.SYS_TURNSTAT f := by
    split
    · exact rdF_flag_apart e _ b f hseq (.inr (by omega))
    · rfl
  exact (hstep 2 (by decide) _).trans ((hstep 1 (by decide) _).trans (hstep 0 (by decide) d))

/-- Each bit sets its flag. -/
theorem rdF_overrunFlags_set {b : Nat} (hb : b < 3) (h : bitOf bits b = true) :
    (d.overrunFlags bits).rdF R.SYS_TURNSTAT ⟨b, 1⟩ = 1 := by
  have hkeep (c : Nat) (e : Dev) (he : e.rdF R.SYS_TURNSTAT ⟨b, 1⟩ = 1) :
      (if bitOf bits c then e.flag R.SYS_TURNSTAT c else e).rdF R.SYS_TURNSTAT ⟨b, 1⟩ = 1 := by
    split
    · exact rdF_flag_keep e c (by omega) he
    · exact he
  have hset (e : Dev) : (if bitOf bits b then e.flag R.SYS_TURNSTAT b else e).rdF R.SYS_TURNSTAT ⟨b, 1⟩ = 1 := by
    rw [if_pos h]
    exact rdF_flag_same e _ (by omega)
  have hb' : b = 0 ∨ b = 1 ∨ b = 2 := by omega
  rcases hb' with rfl | rfl | rfl
  · exact hkeep 2 _ (hkeep 1 _ (hset d))
  · exact hkeep 2 _ (hset _)
  · exact hset _

/-- An overrun turn as it is counted, shown and recorded, before its run is judged. -/
def Dev.overrunShown : Dev :=
  let d := d.setRun (fun r => { r with phase := .overrun })
  let d := ((d.overrunFlags bits).incF R.SYS_TURNSTAT F.SYS_TURNSTAT_OVRTOTAL).raise 2
  let eval := if bitOf bits 0 then 0xFF else ((d.turn.run.map TurnRun.evalUs).getD 0)
  (d.timing 0x7FF eval).overrunEntry bits

theorem overrunTurn_eq : d.overrunTurn bits = (d.overrunShown bits).overrunRun bits := rfl

@[simp] theorem overrunEntry_turn : (d.overrunEntry bits).turn = d.turn := by
  simp [Dev.overrunEntry, apply_ite Dev.turn]

@[simp] theorem overrunShown_turn : (d.overrunShown bits).turn =
    { d.turn with run := d.turn.run.map (fun r => { r with phase := .overrun }) } := by
  simp [Dev.overrunShown, Dev.timing, Dev.setRun]

theorem overrunShown_wtc : (d.overrunShown bits).wtc = d.wtc := by
  simp [Dev.overrunShown, Dev.timing, Dev.setRun, Dev.overrunEntry, apply_ite Dev.wtc, overrunFlags_wtc]

theorem overrunShown_keepsEntries : KeepsEntries d (d.overrunShown bits) := by
  constructor <;> simp [Dev.overrunShown, Dev.timing, Dev.setRun, Dev.overrunEntry, apply_ite Dev.jrn,
    apply_ite Journal.ing, apply_ite Journal.wbuf, Dev.happen, overrunFlags_jrn]

/-- What is shown of an overrun turn stands in TURNSTAT as the flags and the count leave it. -/
theorem rd_overrunShown : (d.overrunShown bits).rd R.SYS_TURNSTAT =
    (((d.setRun (fun r => { r with phase := .overrun })).overrunFlags bits).incF R.SYS_TURNSTAT
      F.SYS_TURNSTAT_OVRTOTAL).rd R.SYS_TURNSTAT := by
  have hentry (e : Dev) : (e.overrunEntry bits).rd R.SYS_TURNSTAT = e.rd R.SYS_TURNSTAT := by
    unfold Dev.overrunEntry
    split <;> rfl
  unfold Dev.overrunShown Dev.timing
  dsimp only
  rw [hentry]
  exact (rd_wr_other _ R.SYS_TIMINGMAX _ _ (by decide)).trans ((rd_wr_other _ R.SYS_TIMING _ _ (by decide)).trans
    (rd_raise_other _ 2 R.SYS_TURNSTAT (by decide) (by decide) (by decide)))

theorem rdF_overrunShown_total : (d.overrunShown bits).rdF R.SYS_TURNSTAT F.SYS_TURNSTAT_OVRTOTAL =
    min 65535 (d.rdF R.SYS_TURNSTAT F.SYS_TURNSTAT_OVRTOTAL + 1) := by
  rw [rdF_congr (rd_overrunShown d bits), rdF_incF _ _ _ (by decide), rdF_overrunFlags_apart _ _ (by decide) (by decide)]
  rfl

theorem rdF_overrunShown_flag {b : Nat} (hb : b < 3) (h : bitOf bits b = true) :
    (d.overrunShown bits).rdF R.SYS_TURNSTAT ⟨b, 1⟩ = 1 := by
  rw [rdF_congr (rd_overrunShown d bits), rdF_incF_apart _ _ _ _ (.inl (by simp only [F.SYS_TURNSTAT_OVRTOTAL]; omega))]
  exact rdF_overrunFlags_set _ bits hb h

theorem evPending_overrunShown : (d.overrunShown bits).evPending 2 = true := by
  have hentry (e : Dev) : (e.overrunEntry bits).evPending 2 = e.evPending 2 := by
    unfold Dev.overrunEntry
    split <;> rfl
  unfold Dev.overrunShown Dev.timing
  dsimp only
  rw [hentry]
  refine (evPending_wr_other _ R.SYS_TIMINGMAX _ 2 (by decide)).trans ((evPending_wr_other _ R.SYS_TIMING _ 2 (by decide)).trans ?_)
  exact evPending_raise_same _ (by decide)

/-- The first overrun turn after a completed one is counted, and no more. -/
theorem overrunRun_first (hover : d.turn.overruns = 0) (hcounted : d.wtc.counted = 0) (hbits : bits ≠ 4) :
    d.overrunRun bits = (d.setTurn (fun t => { t with overruns := t.overruns + 1 })).setWtc
      (fun w => { w with counted := w.counted + 1 }) := by
  simp [Dev.overrunRun, hover, hcounted, hbits]

/-- A run of turns late for want of the acknowledgement: a flag, and from the second turn on the end of the link. -/
theorem overrunRun_late (h : d.rdF R.SYS_TURNSTAT F.SYS_TURNSTAT_ACKLATE = 1) :
    (d.overrunRun 4).turn = { d.turn with overruns := d.turn.overruns + 1 } ∧ KeepsEntries d (d.overrunRun 4) ∧
    (d.overrunRun 4).rdF R.SYS_TURNSTAT F.SYS_TURNSTAT_ACKLATE = 1 := by
  unfold Dev.overrunRun
  extract_lets d1 d2 d3
  have hturn : d3.turn = { d.turn with overruns := d.turn.overruns + 1 } := by
    simp [d3, d2, d1, apply_ite Dev.turn]
  have hjrn : d3.jrn = d.jrn := by simp [d3, d2, d1, apply_ite Dev.jrn]
  have hflag : d3.rdF R.SYS_TURNSTAT F.SYS_TURNSTAT_ACKLATE = 1 := by
    show (if d1.turn.overruns ≥ 2 then d1.flag R.SYS_TURNSTAT 3 else d1).rdF R.SYS_TURNSTAT ⟨2, 1⟩ = 1
    split
    · exact rdF_flag_keep d1 3 (by decide) h
    · exact h
  have hlost : d3.linkLost.rdF R.SYS_TURNSTAT F.SYS_TURNSTAT_ACKLATE = 1 :=
    (rdF_congr ((linkLost_leaves turnstat_linkApart (Leaves.refl _ d3)).rd _ rfl (by decide)) _).trans hflag
  have hkeeps : KeepsEntries d d3 := ⟨congrArg Journal.ing hjrn, congrArg Journal.wbuf hjrn⟩
  rw [if_pos rfl]
  split
  · exact ⟨(linkLost_turn d3).trans hturn, ⟨(linkLost_keepsEntries d3).ing.trans hkeeps.ing,
      (linkLost_keepsEntries d3).wbuf.trans hkeeps.wbuf⟩, hlost⟩
  · exact ⟨hturn, hkeeps, hflag⟩

end

/-- The deadlines at which a turn overruns, with the bits of R27. -/
theorem exec_overrun {c : Instr} {s : State} {r : TurnRun} {bits : Nat} (hup : s.Up) (hrun : s.dev.turn.run = some r)
    (h : (c = .evalDeadline ∧ r.phase = .evaluating ∧ bits = 1) ∨ (c = .commitDeadline ∧ r.phase = .evaluating ∧ bits = 3) ∨
      (c = .commitDeadline ∧ r.phase = .committing ∧ bits = 2)) {P : Dev → Prop} (hP : P (s.dev.overrunTurn bits)) :
    Completes c s P := by
  rcases h with ⟨rfl, hphase, rfl⟩ | ⟨rfl, hphase, rfl⟩ | ⟨rfl, hphase, rfl⟩
  · exact completes_of_up hup (f := Dev.evalDeadline) rfl (by simpa only [Dev.evalDeadline, hrun, if_pos hphase] using hP)
  · exact completes_of_up hup (f := Dev.commitDeadline) rfl (by simpa only [Dev.commitDeadline, hrun, hphase] using hP)
  · exact completes_of_up hup (f := Dev.commitDeadline) rfl (by simpa only [Dev.commitDeadline, hrun, hphase] using hP)

/-- The deadline of a turn that lacks only the peer's acknowledgement. -/
theorem commitDeadline_waiting {d : Dev} {r : TurnRun} (hrun : d.turn.run = some r) (hphase : r.phase = .waiting)
    (hrole : d.role = 2) (hacked : r.acked = false) (hown : r.commitUs ≤ d.commitLimit) :
    d.commitDeadline = if d.pair.lostNow ∨ !d.peerUp then d.linksolo else d.overrunTurn 4 := by
  have hlacks : d.commitLacks r = 4 := by simp [Dev.commitLacks, hacked, Nat.not_lt.2 hown]
  have hstandby : d.standby = false := by simp [Dev.standby, hrole]
  simp [Dev.commitDeadline, hrun, hphase, hstandby, hlacks]

/-- Settles O13: an overrun turn is counted, shown and recorded; what it discards is the turn in hand alone. -/
theorem overrunTurnDiscardsItsWork : Obligations.OverrunTurnDiscardsItsWork := by
  unfold Obligations.OverrunTurnDiscardsItsWork
  refine ⟨fun s r hup hrun hover hcounted c bits h => exec_overrun hup hrun h ?_, ?_⟩
  · have hbits : bits ≠ 4 := by rcases h with h | h | h <;> omega
    have hturn := overrunShown_turn s.dev bits
    have hkeeps := overrunShown_keepsEntries s.dev bits
    rw [overrunTurn_eq, overrunRun_first _ _ (by simpa using hover) (by rw [overrunShown_wtc]; exact hcounted) hbits]
    have hrun' : (s.dev.overrunShown bits).turn.run = some { r with phase := .overrun } := by simp [hrun]
    refine ⟨?_, ?_, ?_, ?_, ?_, ?_, hkeeps.ing, hkeeps.wbuf, hrun', ?_, rdF_overrunShown_total s.dev bits,
      fun b hb hbit => rdF_overrunShown_flag s.dev bits hb hbit, evPending_overrunShown s.dev bits⟩ <;> simp [hover]
  · intro s r hup hrun hphase hrole hacked hown
    have hdeadline := commitDeadline_waiting hrun hphase hrole hacked hown
    refine ⟨fun hlost => exec_of_up hup (f := Dev.commitDeadline) rfl ?_,
      fun hlost hpeer => completes_of_up hup (f := Dev.commitDeadline) rfl ?_⟩
    · rw [hdeadline, if_pos (.inl hlost)]
      have hlate : ¬ s.dev.commitLimit < r.commitUs := by omega
      simp [Dev.linksolo, Dev.ownCommit, hrun, hlate, hown, Dev.sinceStart]
    · rw [hdeadline, if_neg (by simp [hlost, hpeer]), overrunTurn_eq]
      obtain ⟨hturn, hkeeps, hflag⟩ := overrunRun_late (s.dev.overrunShown 4)
        (rdF_overrunShown_flag s.dev 4 (b := 2) (by decide) (by decide))
      exact ⟨by simp [hturn, hrun], by simp [hturn], by simp [hturn], hflag,
        hkeeps.ing.trans (overrunShown_keepsEntries s.dev 4).ing⟩

end Sys2Proof.Machine
end

section
/-!
PROOFS. The phase bases and the schedule (chapter 03): the count of a base, what a base dispatches, edges, standstill and
late entries.
-/
namespace Sys2Proof.Machine

/-! The count of a base (R75, R76, R83) -/

theorem settleCount_free {x : Base} (h : x.hold = false) : settleCount x = { x with acc := x.ph } := by
  simp [settleCount, h]

theorem settleCount_ahead {x : Base} (h : x.hold = true) (hahead : ahead x.acc x.ph = true) : settleCount x = x := by
  simp [settleCount, h, hahead]

theorem settleCount_reached {x : Base} (h : x.hold = true) (hahead : ahead x.acc x.ph = false) :
    settleCount x = { x with hold := false, acc := x.ph } := by simp [settleCount, h, hahead]

/-- A base that runs free counts on with the true phase, and counts its wraps. -/
theorem baseTick_free {x : Base} (hrun : 2 ≤ x.state) (h : x.hold = false) :
    (baseTick x).acc = (x.ph + min x.incr ((x.limit + 2 ^ 32 - x.ph) % 2 ^ 32)) % 2 ^ 32 ∧
    (baseTick x).cyc = if (baseTick x).acc < x.acc then (x.cyc + 1) % 2 ^ 12 else x.cyc := by
  have hrun' : ¬ x.state < 2 := by omega
  unfold baseTick
  rw [if_neg hrun']
  extract_lets room ph y
  have hy : y = { x with ph := ph, acc := ph } := settleCount_free (x := { x with ph := ph }) h
  have hacc : y.acc = ph := by rw [hy]
  have hcyc : y.cyc = x.cyc := by rw [hy]
  split
  case isTrue => exact ⟨hacc, congrArg (fun c => (c + 1) % 2 ^ 12) hcyc⟩
  case isFalse => exact ⟨hacc, hcyc⟩

/-- A base at its limit holds there. -/
theorem add_min_room_self {acc limit incr : Nat} (hacc : acc < 2 ^ 32) (h : acc = limit) :
    (acc + min incr ((limit + 2 ^ 32 - acc) % 2 ^ 32)) % 2 ^ 32 = acc := by
  subst h
  have hroom : (acc + 2 ^ 32 - acc) % 2 ^ 32 = 0 := by omega
  rw [hroom, Nat.min_zero, Nat.add_zero, Nat.mod_eq_of_lt hacc]

theorem interpolate_ph (r : BaseRec) (x : Base) (s n t : Nat) : (interpolate r x s n t).ph = r.pos s * 4096 := by
  unfold interpolate
  rfl

theorem interpolate_acc (r : BaseRec) (x : Base) (s n t : Nat) : (interpolate r x s n t).acc = x.acc := by
  unfold interpolate
  rfl

theorem interpolate_hold (r : BaseRec) (x : Base) (s n t : Nat) : (interpolate r x s n t).hold = x.hold := by
  unfold interpolate
  rfl

/-! What a base dispatches (R91) -/

/-- The entries taken are the base's first ones, and the rest keep their order. -/
theorem takeDue_spec (b k : Nat) (l : List Due) :
    (takeDue b k l).1 = (l.filter (fun u => u.base == b)).take k ∧
    (takeDue b k l).1 ++ (takeDue b k l).2.filter (fun u => u.base == b) = l.filter (fun u => u.base == b) ∧
    (takeDue b k l).2.filter (fun u => u.base != b) = l.filter (fun u => u.base != b) := by
  fun_induction takeDue b k l with
  | case1 => simp
  | case2 l => simp
  | case3 k x xs hx r ih =>
    obtain ⟨htake, hall, hrest⟩ := ih
    simp [hx, r, ← htake, hall, hrest]
  | case4 k x xs hx r ih =>
    obtain ⟨htake, hall, hrest⟩ := ih
    simp [hx, r, ← htake, hall, hrest]

/-- Settles O17: a tick of a free base is its true phase's; at a tooth the phase is the tooth's position. -/
theorem baseCounts : Obligations.BaseCounts := by
  unfold Obligations.BaseCounts
  refine ⟨⟨fun x hrun hfree hph hacc _ => ?_, fun x h => if_pos h, fun r x s n t => ⟨fun h => ?_, fun h ha => ?_, fun h ha => ?_⟩⟩,
    fun d htlen _ => ?_, fun d b => takeDue_spec b _ d.phs.due⟩
  · obtain ⟨hcount, hcyc⟩ := baseTick_free hrun hfree
    rw [← hph] at hcount
    exact ⟨hcount, fun hlimit => hcount.trans (add_min_room_self hacc hlimit), hcyc⟩
  · rw [settleCount_free ((interpolate_hold r x s n t).trans h), ← interpolate_ph r x s n t]
  · rw [← interpolate_acc r x s n t, ← interpolate_ph r x s n t] at ha
    rw [settleCount_ahead ((interpolate_hold r x s n t).trans h) ha]
    exact ⟨interpolate_acc r x s n t, (interpolate_hold r x s n t).trans h⟩
  · rw [← interpolate_acc r x s n t, ← interpolate_ph r x s n t] at ha
    rw [settleCount_reached ((interpolate_hold r x s n t).trans h) ha]
    exact ⟨interpolate_ph r x s n t, rfl⟩
  · have hlen : max (d.image.phsb.tlen * 10) 1 = 10 * d.image.phsb.tlen := by omega
    rw [Dev.pb0, pb0Count, hlen]

end Sys2Proof.Machine
end

section
namespace Sys2Proof.Machine

/-! The state of a base -/

theorem base_setBase_same {d : Dev} {b : Nat} (x : Base) (hb : b - 1 < d.phs.bases.length) : (d.setBase b x).base b = x :=
  getD_upd_same d.phs.bases (fun _ => x) Base.empty hb

theorem base_setBase_other {d : Dev} {b c : Nat} (x : Base) (h : c - 1 ≠ b - 1) : (d.setBase b x).base c = d.base c :=
  getD_upd_other d.phs.bases (fun _ => x) Base.empty h

theorem base_congr {d e : Dev} (h : e.phs = d.phs) (b : Nat) : e.base b = d.base b := by rw [Dev.base, Dev.base, h]

/-! What a base's departure from SYNC leaves alone (R81) -/

section
variable {A : Nat → Prop} {z d : Dev}

theorem qCutTest_leaves (n : Nat) (k : Leaves A z d) : Leaves A z (d.qCutTest n) := setQc_leaves n _ k

theorem qCloseWin_leaves (n w : Nat) (k : Leaves A z d) : Leaves A z (d.qCloseWin n w) :=
  setQc_leaves n _ (Leaves.ite (qCutTest_leaves n k) k)

theorem closeBaseWindows_leaves (b : Nat) (k : Leaves A z d) : Leaves A z (d.closeBaseWindows b) :=
  Leaves.foldl k (fun _ _ _ k => Leaves.ite (qCloseWin_leaves _ _ k) k)

theorem qLeaveSync_leaves (hA : ChargeApart A) {n : Nat} (hn : n < 12) (still : Bool) (k : Leaves A z d) :
    Leaves A z (d.qLeaveSync n still) := by
  have hclosed := Leaves.foldl (l := List.range 8) (f := fun d w => if bitOf (d.qc n).win w then d.qCloseWin n w else d) k
    (fun _ w _ k => Leaves.ite (qCloseWin_leaves n w k) k)
  have hdropped := setQc_leaves n (fun c => { c with started := false }) (setQc_leaves n (fun c => { c with
    cyc := QCycle.empty, comp := none, held := none, conv := none, wait := [], feed := none }) hclosed)
  exact Leaves.ite (qRelease_leaves hA hn 3 0 none false hdropped) (qRelease_leaves hA hn 2 4 none false hdropped)

theorem qLeaveBase_leaves (hA : ChargeApart A) (b : Nat) (still : Bool) (k : Leaves A z d) :
    Leaves A z (d.qLeaveBase b still) :=
  Leaves.foldl k (fun _ _ hn k => Leaves.ite (qLeaveSync_leaves hA (List.mem_range.1 hn) still k) k)

/-- A base out of SYNC, with its due entries dropped. -/
def Dev.baseLeft (d : Dev) (b : Nat) : Dev :=
  let d := d.setBase b { d.base b with angleOn := false, lost := true }
  { d with phs := { d.phs with due := d.phs.due.filter (fun u => u.base != b) } }

/-- Beside the base itself a departure from SYNC touches the charge channels alone. -/
theorem leaveSync_leaves (hA : ChargeApart A) (d : Dev) (b : Nat) (still : Bool) :
    Leaves A (d.baseLeft b) (d.leaveSync b still) :=
  qLeaveBase_leaves hA b still (closeBaseWindows_leaves b (Leaves.refl A _))

end

theorem base_baseLeft (d : Dev) {b : Nat} (hb : b - 1 < d.phs.bases.length) :
    (d.baseLeft b).base b = { d.base b with angleOn := false, lost := true } := base_setBase_same _ hb

theorem length_baseLeft (d : Dev) (b : Nat) : (d.baseLeft b).phs.bases.length = d.phs.bases.length := length_upd _ _ _

/-- The registers of the phase bases, and the pending bits. -/
def IsPhase (a : Nat) : Prop := 0x10040 ≤ a ∧ a < 0x10200 ∨ 0x170040 ≤ a ∧ a < 0x170060

theorem isPhase_chargeApart : ChargeApart IsPhase where
  host q hq h := by
    simp only [IsPhase, R.HST_QSTAT] at h
    omega
  stat := by
    simp only [IsPhase, R.QCH_STAT]
    omega
  sts n hn h := by
    simp only [IsPhase, R.QCH_STS] at h
    omega
  cnt n hn h := by
    simp only [IsPhase, R.QCH_CNT] at h
    omega
  cyc n hn h := by
    simp only [IsPhase, R.QCH_CYC] at h
    omega
  res n w hn hw h := by
    simp only [IsPhase, R.QCH_RES] at h
    omega

/-! Standstill (R79) -/

/-- A base at STANDSTILL, with its flag and, out of SYNC, its loss shown. -/
def Dev.stillShown (d : Dev) (b : Nat) : Dev :=
  let x := d.base b
  let d := d.flagEv (R.PHS_STAT b) 14 (21 + b)
  let d := if x.state = 3 then (d.incF (R.PHS_CNT b) F.PHS_CNT_LOSSES).flagEv (R.PHS_STAT b) 15 (18 + b) else d
  let d := d.setBase b { d.base b with state := 0, edges := 0, refs := 0, cnt := 0, hold := false }
  d.wrF (R.PHS_SPEED b) F.PHS_SPEED_SPEED 0

/-- What the standstill of a base out of SYNC, or lost before, does beside. -/
def Dev.stillLeft (d : Dev) (b : Nat) : Dev :=
  (d.leaveSync b true).setBase b { (d.leaveSync b true).base b with lost := false }

theorem standstill_of {d : Dev} {b : Nat} (hb : b ≠ 0) (h : (d.base b).state ≠ 0) :
    d.standstill b = (if (d.base b).state = 3 ∨ (d.base b).lost then (d.stillShown b).stillLeft b
      else d.stillShown b).showBase b := by
  simp [Dev.standstill, hb, h, Dev.stillShown, Dev.stillLeft]

theorem base_showBase (d : Dev) (b c : Nat) : (d.showBase b).base c = d.base c := rfl

/-- The status of a base as its state leaves it. -/
theorem rd_showBase_stat (d : Dev) (b : Nat) :
    (d.showBase b).rd (R.PHS_STAT b) = (d.wrF (R.PHS_STAT b) F.PHS_STAT_STATE (d.base b).state).rd (R.PHS_STAT b) :=
  (rd_wr_other _ (R.PHS_PERIOD b) _ _ (by simp only [R.PHS_STAT, R.PHS_PERIOD]; omega)).trans
    (rd_wr_other _ (R.PHS_TOOTH b) _ _ (by simp only [R.PHS_STAT, R.PHS_TOOTH]; omega))

theorem rdF_showBase_state (d : Dev) (b : Nat) (h : (d.base b).state < 8) :
    (d.showBase b).rdF (R.PHS_STAT b) F.PHS_STAT_STATE = (d.base b).state :=
  (rdF_congr (rd_showBase_stat d b) _).trans (rdF_wrF_of_lt d _ F.PHS_STAT_STATE (by decide) h)

theorem rdF_showBase_flag (d : Dev) (b : Nat) {i : Nat} (hi : 11 ≤ i) :
    (d.showBase b).rdF (R.PHS_STAT b) ⟨i, 1⟩ = d.rdF (R.PHS_STAT b) ⟨i, 1⟩ :=
  (rdF_congr (rd_showBase_stat d b) _).trans (rdF_wrF_apart d _ ⟨i, 1⟩ F.PHS_STAT_STATE (.inr hi) _)

theorem rd_showBase_other (d : Dev) {b a : Nat} (hs : a ≠ R.PHS_STAT b) (ht : a ≠ R.PHS_TOOTH b) (hp : a ≠ R.PHS_PERIOD b) :
    (d.showBase b).rd a = d.rd a :=
  (rd_wr_other _ _ _ _ hp).trans ((rd_wr_other _ _ _ _ ht).trans (rd_wr_other _ _ _ _ hs))

theorem evPending_showBase (d : Dev) {b : Nat} (hb : b ≤ 3) (m : Nat) : (d.showBase b).evPending m = d.evPending m :=
  evPending_congr (rd_showBase_other d (by simp only [R.HST_EVPEND, R.PHS_STAT]; omega)
    (by simp only [R.HST_EVPEND, R.PHS_TOOTH]; omega) (by simp only [R.HST_EVPEND, R.PHS_PERIOD]; omega))

section
variable {d : Dev} {b : Nat} (hb : b ≠ 0 ∧ b ≤ 3) (hlen : d.phs.bases.length = 3)
include hb hlen

theorem base_stillShown : (d.stillShown b).base b =
    { d.base b with state := 0, edges := 0, refs := 0, cnt := 0, hold := false } := by
  have hin : b - 1 < d.phs.bases.length := by omega
  have hphs : ∀ e : Dev, e.phs = d.phs →
      (e.setBase b { e.base b with state := 0, edges := 0, refs := 0, cnt := 0, hold := false }).base b =
        { d.base b with state := 0, edges := 0, refs := 0, cnt := 0, hold := false } := fun e he => by
    rw [base_setBase_same _ (he ▸ hin), base_congr he]
  refine hphs _ ?_
  split <;> simp

omit hb in
theorem length_stillShown : (d.stillShown b).phs.bases.length = 3 := by
  have hphs : ∀ e : Dev, e.phs = d.phs → ∀ x, (e.setBase b x).phs.bases.length = 3 := fun e he x =>
    (length_upd _ _ _).trans (he ▸ hlen)
  refine hphs _ ?_ _
  split <;> simp

omit hlen in
/-- What a base's departure does at standstill leaves its registers and its state, and takes its angle entries off. -/
theorem stillLeft_spec {e : Dev} (helen : e.phs.bases.length = 3) :
    ((e.stillLeft b).base b).state = (e.base b).state ∧ ((e.stillLeft b).base b).angleOn = false ∧
    (∀ a, IsPhase a → a < 0x170040 → (e.stillLeft b).rd a = e.rd a) ∧
    ∀ m, m < 256 → e.evPending m = true → (e.stillLeft b).evPending m = true := by
  have hin : b - 1 < e.phs.bases.length := by omega
  have hbase := base_baseLeft e hin
  have hlength := length_baseLeft e b
  have hregs : ∀ a, (e.baseLeft b).rd a = e.rd a := fun _ => rfl
  have hpends : ∀ m, (e.baseLeft b).evPending m = e.evPending m := fun _ => rfl
  have k := leaveSync_leaves isPhase_chargeApart e b true
  unfold Dev.stillLeft
  generalize e.leaveSync b true = y at k ⊢
  generalize e.baseLeft b = x at k hbase hlength hregs hpends
  have hy : y.base b = { e.base b with angleOn := false, lost := true } := (base_congr k.phs b).trans hbase
  rw [base_setBase_same _ (by rw [k.phs, hlength]; exact hin), hy]
  refine ⟨rfl, rfl, fun a ha hlow => (k.rd a ha (.inl hlow)).trans (hregs a), fun m hm hp => k.pend m hm ?_ ((hpends m).trans hp)⟩
  simp only [IsPhase, R.HST_EVPEND]
  omega

/-- The standstill of a base in terms of what is shown of it. -/
theorem standstill_spec (h : (d.base b).state ≠ 0) :
    ((d.standstill b).base b).state = 0 ∧
    ((d.base b).state = 3 → ((d.standstill b).base b).angleOn = false) ∧
    (d.standstill b).rdF (R.PHS_STAT b) F.PHS_STAT_STATE = 0 ∧
    (∀ i, 11 ≤ i → (d.standstill b).rdF (R.PHS_STAT b) ⟨i, 1⟩ = (d.stillShown b).rdF (R.PHS_STAT b) ⟨i, 1⟩) ∧
    (d.standstill b).rd (R.PHS_SPEED b) = (d.stillShown b).rd (R.PHS_SPEED b) ∧
    (d.standstill b).rd (R.PHS_CNT b) = (d.stillShown b).rd (R.PHS_CNT b) ∧
    ∀ m, m < 256 → (d.stillShown b).evPending m = true → (d.standstill b).evPending m = true := by
  obtain ⟨hb0, hb3⟩ := hb
  obtain ⟨hstate, hangle, hrd, hpend⟩ := stillLeft_spec ⟨hb0, hb3⟩ (length_stillShown hlen)
  have hzero : ((d.stillShown b).base b).state = 0 := by rw [base_stillShown ⟨hb0, hb3⟩ hlen]
  have hphase : ∀ a ∈ [R.PHS_STAT b, R.PHS_SPEED b, R.PHS_CNT b], IsPhase a ∧ a < 0x170040 := by
    simp only [List.mem_cons, List.not_mem_nil, or_false, forall_eq_or_imp, forall_eq, IsPhase, R.PHS_STAT, R.PHS_SPEED,
      R.PHS_CNT]
    omega
  rw [standstill_of hb0 h]
  generalize hy : (if (d.base b).state = 3 ∨ (d.base b).lost then (d.stillShown b).stillLeft b else d.stillShown b) = y
  have hystate : (y.base b).state = 0 := by
    rw [← hy]
    split
    · exact hstate.trans hzero
    · exact hzero
  have hyrd : ∀ a ∈ [R.PHS_STAT b, R.PHS_SPEED b, R.PHS_CNT b], y.rd a = (d.stillShown b).rd a := fun a ha => by
    rw [← hy]
    split
    · exact hrd a (hphase a ha).1 (hphase a ha).2
    · rfl
  have hypend : ∀ m, m < 256 → (d.stillShown b).evPending m = true → y.evPending m = true := fun m hm hp => by
    rw [← hy]
    split
    · exact hpend m hm hp
    · exact hp
  refine ⟨hystate, fun h3 => ?_, ?_, fun i hi => ?_, ?_, ?_, fun m hm hp => ?_⟩
  · rw [base_showBase, ← hy, if_pos (.inl h3), hangle]
  · rw [rdF_showBase_state y b (by omega), hystate]
  · rw [rdF_showBase_flag y b hi, rdF_congr (hyrd _ (by simp))]
  · rw [rd_showBase_other y (by simp only [R.PHS_SPEED, R.PHS_STAT]; omega) (by simp only [R.PHS_SPEED, R.PHS_TOOTH]; omega)
      (by simp only [R.PHS_SPEED, R.PHS_PERIOD]; omega), hyrd _ (by simp)]
  · rw [rd_showBase_other y (by simp only [R.PHS_CNT, R.PHS_STAT]; omega) (by simp only [R.PHS_CNT, R.PHS_TOOTH]; omega)
      (by simp only [R.PHS_CNT, R.PHS_PERIOD]; omega), hyrd _ (by simp)]
  · rw [evPending_showBase y hb3]
    exact hypend m hm hp

end

end Sys2Proof.Machine
end

section
namespace Sys2Proof.Machine

/-! What is shown of a standstill -/

section
variable (d : Dev) {b : Nat} (hb : b ≤ 3)
include hb

theorem rdF_stillShown_still : (d.stillShown b).rdF (R.PHS_STAT b) ⟨14, 1⟩ = 1 := by
  have hlow : R.PHS_STAT b < 0x170000 := by
    simp only [R.PHS_STAT]
    omega
  have hflag := rdF_flagEv_same d hlow (by decide : 14 < 32) (21 + b)
  have hcnt : R.PHS_STAT b ≠ R.PHS_CNT b := by
    simp only [R.PHS_STAT, R.PHS_CNT]
    omega
  refine (rdF_wrF_other _ (R.PHS_SPEED b) _ _ _ _ (by simp only [R.PHS_STAT, R.PHS_SPEED]; omega)).trans ?_
  show (if (d.base b).state = 3 then _ else _ : Dev).rdF (R.PHS_STAT b) ⟨14, 1⟩ = 1
  split
  · exact rdF_flagEv_keep _ hlow (by decide) 15 _ ((rdF_incF_other _ _ _ _ _ hcnt).trans hflag)
  · exact hflag

theorem evPending_stillShown_still : (d.stillShown b).evPending (21 + b) = true := by
  have hev : R.HST_EVPEND ((21 + b) / 32) ≠ R.PHS_SPEED b := by
    simp only [R.HST_EVPEND, R.PHS_SPEED]
    omega
  refine (evPending_wr_other _ (R.PHS_SPEED b) _ _ hev).trans ?_
  show (if (d.base b).state = 3 then _ else _ : Dev).evPending (21 + b) = true
  have hflag := evPending_flagEv_same d (R.PHS_STAT b) 14 (by omega : 21 + b < 256)
  split
  · refine evPending_flagEv_keep (by simp only [R.PHS_STAT]; omega) (by omega) 15 _ ?_
    exact (evPending_wr_other _ (R.PHS_CNT b) _ _ (by simp only [R.HST_EVPEND, R.PHS_CNT]; omega)).trans hflag
  · exact hflag

omit hb in
theorem rdF_stillShown_speed : (d.stillShown b).rdF (R.PHS_SPEED b) F.PHS_SPEED_SPEED = 0 :=
  rdF_wrF_of_lt _ _ F.PHS_SPEED_SPEED (by decide) (by decide)

/-- Out of SYNC the loss is flagged and counted too. -/
theorem stillShown_loss (h : (d.base b).state = 3) :
    (d.stillShown b).rdF (R.PHS_STAT b) ⟨15, 1⟩ = 1 ∧
    (d.stillShown b).rdF (R.PHS_CNT b) F.PHS_CNT_LOSSES = min 255 (d.rdF (R.PHS_CNT b) F.PHS_CNT_LOSSES + 1) ∧
    (d.stillShown b).evPending (18 + b) = true := by
  have hlow : R.PHS_STAT b < 0x170000 := by
    simp only [R.PHS_STAT]
    omega
  have hlow' : R.PHS_CNT b < 0x170000 := by
    simp only [R.PHS_CNT]
    omega
  have hcnt : R.PHS_CNT b ≠ R.PHS_STAT b := by
    simp only [R.PHS_STAT, R.PHS_CNT]
    omega
  have hspeed : R.PHS_STAT b ≠ R.PHS_SPEED b ∧ R.PHS_CNT b ≠ R.PHS_SPEED b ∧
      R.HST_EVPEND ((18 + b) / 32) ≠ R.PHS_SPEED b := by
    simp only [R.PHS_STAT, R.PHS_CNT, R.PHS_SPEED, R.HST_EVPEND]
    omega
  obtain ⟨hs, hc, he⟩ := hspeed
  have hshown : ∃ e : Dev, e.regs = (((d.flagEv (R.PHS_STAT b) 14 (21 + b)).incF (R.PHS_CNT b) F.PHS_CNT_LOSSES).flagEv
      (R.PHS_STAT b) 15 (18 + b)).regs ∧ d.stillShown b = e.wrF (R.PHS_SPEED b) F.PHS_SPEED_SPEED 0 := by
    refine ⟨_, ?_, rfl⟩
    rw [if_pos h]
    rfl
  obtain ⟨e, hregs, hshown⟩ := hshown
  have hrd : ∀ a, e.rd a = (((d.flagEv (R.PHS_STAT b) 14 (21 + b)).incF (R.PHS_CNT b) F.PHS_CNT_LOSSES).flagEv
      (R.PHS_STAT b) 15 (18 + b)).rd a := fun a => by rw [Dev.rd, hregs, ← Dev.rd]
  rw [hshown]
  refine ⟨?_, ?_, ?_⟩
  · rw [rdF_wrF_other _ _ _ _ _ _ hs, rdF_congr (hrd _)]
    exact rdF_flagEv_same _ hlow (by decide) _
  · rw [rdF_wrF_other _ _ _ _ _ _ hc, rdF_congr (hrd _), rdF_congr (rd_flagEv_low_other _ hlow' hcnt _ _),
      rdF_incF _ _ _ (by decide), rdF_congr (rd_flagEv_low_other d hlow' hcnt _ _)]
    rfl
  · rw [Dev.wrF, evPending_wr_other _ _ _ _ he, evPending_congr (hrd _)]
    exact evPending_flagEv_same _ _ _ (by omega)

end

theorem standstill_keeps {d : Dev} {b : Nat} (h : b = 0 ∨ (d.base b).state = 0) : d.standstill b = d := if_pos h

end Sys2Proof.Machine
end

section
namespace Sys2Proof.Machine

/-! Angle edges (R70 to R72) -/

/-- What every edge shows: the level, and in VR the height of a falling edge's signal. -/
def Dev.edgeShown (d : Dev) (m peak : Nat) (level : Bool) (r : AngleRec) : Dev :=
  let d := d.wrF (R.PHS_INP m) F.PHS_INP_LEVEL_NOW (b2n level)
  if r.mode = 1 ∧ level = false then d.anglePeak m peak else d

/-- Whether the last accepted edge of an input is less than EDGEFLT ago. -/
def Dev.edgeClose (d : Dev) (m : Nat) (r : AngleRec) : Bool :=
  match d.phs.lastEdge.getD m none with
  | some l => decide (sinceEdge d l < 5 * r.edgeflt)
  | none => false

/-- Whether an edge is accepted (R71, R72). -/
def Dev.edgeAccepted (d : Dev) (m peak : Nat) (level : Bool) (r : AngleRec) : Bool :=
  edgeCounts r.mode level && r.reached (d.phs.lastPeak.getD m 0) peak && !d.edgeClose m r

/-- The stamp of an accepted edge (R70). -/
def Dev.edgeStamped (d : Dev) (m : Nat) : Dev :=
  { d with phs := { d.phs with lastEdge := upd d.phs.lastEdge m (fun _ => some d.edgeTimer) } }

theorem angleEdge_eq {d : Dev} {m : Nat} {r : AngleRec} (hr : d.image.phsb.inputs[m]? = some r) (peak : Nat) (level : Bool) :
    d.angleEdge m peak level =
      if d.edgeAccepted m peak level r then
        [1, 2, 3].foldl (fun e b => e.baseEdge m d.edgeTimer b) ((d.edgeShown m peak level r).edgeStamped m)
      else d.edgeShown m peak level r := by
  have hrec : d.image.phsb.inputs.getD m ⟨0, 0, 0⟩ = r := by rw [List.getD_eq_getElem?_getD, hr]; rfl
  have hshown : (d.edgeShown m peak level r).phs.lastEdge = d.phs.lastEdge ∧
      (d.edgeShown m peak level r).edgeTimer = d.edgeTimer := by
    unfold Dev.edgeShown
    constructor <;> split <;> rfl
  unfold Dev.angleEdge
  rw [hrec]
  extract_lets _ high d1 d2 t close phases d3
  have hd2 : d2 = d.edgeShown m peak level r := rfl
  have hclose : close = d.edgeClose m r := by
    unfold close t Dev.edgeClose sinceEdge
    rw [hd2, hshown.1, hshown.2]
    cases d.phs.lastEdge.getD m none <;> rfl
  have hd3 : d3 = (d.edgeShown m peak level r).edgeStamped m := by
    unfold d3 phases t Dev.edgeStamped
    rw [hd2]
  rw [hclose, hd2, hd3, show t = d.edgeTimer from hshown.2]
  have haccepted : d.edgeAccepted m peak level r = !(!(edgeCounts r.mode level && high) || d.edgeClose m r) := by
    rw [Bool.not_or, Bool.not_not]
    rfl
  rw [haccepted]
  cases !(edgeCounts r.mode level && high) || d.edgeClose m r <;> rfl

/-- The signal's height in the record's terms. -/
theorem reached_iff {d : Dev} {m : Nat} (hm : m < d.phs.lastPeak.length) (r : AngleRec) (peak : Nat) :
    r.reached (d.phs.lastPeak.getD m 0) peak = true ↔ ReachesLevel d m r peak := by
  have hget : d.phs.lastPeak[m]? = some (d.phs.lastPeak.getD m 0) := by
    rw [List.getD_eq_getElem?_getD, List.getElem?_eq_getElem hm]
    rfl
  unfold AngleRec.reached ReachesLevel
  rw [hget]
  by_cases h1 : r.mode = 1
  · simp [h1]
  · by_cases h3 : r.mode = 3 <;> simp [h1, h3]

theorem edgeClose_iff (d : Dev) (m : Nat) (r : AngleRec) : d.edgeClose m r = true ↔
    ∃ l, d.phs.lastEdge[m]? = some (some l) ∧ sinceEdge d l < 5 * r.edgeflt := by
  unfold Dev.edgeClose
  rw [List.getD_eq_getElem?_getD]
  cases h : d.phs.lastEdge[m]? with
  | none => simp
  | some x => cases x <;> simp

theorem edgeCounts_iff (mode : Nat) (level : Bool) :
    edgeCounts mode level = true ↔ (mode = 1 ∧ level = false) ∨ ((mode = 2 ∨ mode = 3) ∧ level = true) := by
  unfold edgeCounts
  split
  case isTrue h => simp [h]
  case isFalse h => simp [h]

end Sys2Proof.Machine
end

section
namespace Sys2Proof.Machine

/-- An edge that counts for nothing shows, and nothing more. -/
theorem edgeAccepted_false {d : Dev} {m peak : Nat} {level : Bool} {r : AngleRec} (hm : m < d.phs.lastPeak.length)
    (h : r.mode = 0 ∨ (r.mode = 1 ∧ level = true) ∨ ((r.mode = 2 ∨ r.mode = 3) ∧ level = false) ∨
      ¬ ReachesLevel d m r peak ∨ (∃ l, d.phs.lastEdge[m]? = some (some l) ∧ sinceEdge d l < 5 * r.edgeflt)) :
    d.edgeAccepted m peak level r = false := by
  have hcounts := edgeCounts_iff r.mode level
  rw [← edgeClose_iff, ← reached_iff hm] at h
  unfold Dev.edgeAccepted
  cases hc : edgeCounts r.mode level with
  | false => simp
  | true =>
    rw [hc] at hcounts
    have hmode := hcounts.1 rfl
    rcases h with h | h | h | h | h
    · omega
    · rcases hmode with ⟨-, h'⟩ | ⟨h', -⟩
      · rw [h.2] at h'
        cases h'
      · omega
    · rcases hmode with ⟨h', -⟩ | ⟨-, h'⟩
      · omega
      · rw [h.2] at h'
        cases h'
    · rw [Bool.not_eq_true] at h
      rw [h]
      rfl
    · rw [h, Bool.not_true, Bool.and_false]

theorem edgeAccepted_true {d : Dev} {m peak : Nat} {level : Bool} {r : AngleRec} (hm : m < d.phs.lastPeak.length)
    (hcounts : (r.mode = 1 ∧ level = false) ∨ ((r.mode = 2 ∨ r.mode = 3) ∧ level = true)) (hlevel : ReachesLevel d m r peak)
    (hapart : ∀ l, d.phs.lastEdge[m]? = some (some l) → 5 * r.edgeflt ≤ sinceEdge d l) :
    d.edgeAccepted m peak level r = true := by
  have hclose : d.edgeClose m r = false := by
    rw [← Bool.not_eq_true, edgeClose_iff]
    rintro ⟨l, hl, hlt⟩
    have := hapart l hl
    omega
  rw [Dev.edgeAccepted, (edgeCounts_iff r.mode level).2 hcounts, (reached_iff hm r peak).2 hlevel, hclose]
  rfl

/-! An accepted edge of a base at STANDSTILL (R79) -/

/-- A change that leaves one base, the image and some registers as they were. -/
structure LeavesBase (b : Nat) (A : Nat → Prop) (d e : Dev) : Prop where
  of ::
  base : e.base b = d.base b
  length : e.phs.bases.length = d.phs.bases.length
  image : e.image = d.image
  rd : ∀ a, A a → e.rd a = d.rd a

section
variable {b c : Nat} {A : Nat → Prop} {z d : Dev}

theorem LeavesBase.refl (b : Nat) (A : Nat → Prop) (d : Dev) : LeavesBase b A d d := ⟨rfl, rfl, rfl, fun _ _ => rfl⟩

theorem LeavesBase.trans {e : Dev} (h : LeavesBase b A z d) (k : LeavesBase b A d e) : LeavesBase b A z e :=
  ⟨k.base.trans h.base, k.length.trans h.length, k.image.trans h.image, fun a ha => (k.rd a ha).trans (h.rd a ha)⟩

theorem LeavesBase.of_leaves {e : Dev} (k : Leaves A d e) (hA : ∀ a, A a → a < 0x170040) : LeavesBase b A d e :=
  ⟨base_congr k.phs b, by rw [k.phs], k.image, fun a ha => k.rd a ha (.inl (hA a ha))⟩

theorem setBase_leavesBase (h : b - 1 ≠ c - 1) (x : Base) (k : LeavesBase b A z d) : LeavesBase b A z (d.setBase c x) :=
  k.trans ⟨base_setBase_other x h, length_upd _ _ _, rfl, fun _ _ => rfl⟩

/-- Registers of the phase block that no base's own work writes. -/
def IsPhaseInput (a : Nat) : Prop := 0x10040 ≤ a ∧ a < 0x10100

theorem isPhaseInput_chargeApart : ChargeApart IsPhaseInput where
  host q hq h := isPhase_chargeApart.host q hq (.inl ⟨h.1, by have := h.2; omega⟩)
  stat h := isPhase_chargeApart.stat (.inl ⟨h.1, by have := h.2; omega⟩)
  sts n hn h := isPhase_chargeApart.sts n hn (.inl ⟨h.1, by have := h.2; omega⟩)
  cnt n hn h := isPhase_chargeApart.cnt n hn (.inl ⟨h.1, by have := h.2; omega⟩)
  cyc n hn h := isPhase_chargeApart.cyc n hn (.inl ⟨h.1, by have := h.2; omega⟩)
  res n w hn hw h := isPhase_chargeApart.res n w hn hw (.inl ⟨h.1, by have := h.2; omega⟩)

theorem LeavesBase.of_inputs {e : Dev} (k : Leaves IsPhaseInput d e) : LeavesBase b IsPhaseInput d e :=
  LeavesBase.of_leaves k (fun a h => by have := h.2; omega)

theorem camFault_leaves (k : Leaves IsPhaseInput z d) : Leaves IsPhaseInput z (d.camFault c) := by
  have hcnt : ¬ IsPhaseInput (R.PHS_CNT c) := fun h => by
    simp only [IsPhaseInput, R.PHS_CNT] at h
    omega
  have hstat : ¬ IsPhaseInput (R.PHS_STAT c) := fun h => by
    simp only [IsPhaseInput, R.PHS_STAT] at h
    omega
  exact flagEv_leaves isPhaseInput_chargeApart.host hstat 17 (by decide) (incF_leaves hcnt _ k)

theorem leaveSync_leavesBase (h : b - 1 ≠ c - 1) (still : Bool) : LeavesBase b IsPhaseInput d (d.leaveSync c still) :=
  LeavesBase.trans (d := d.baseLeft c) ⟨base_setBase_other _ h, length_upd _ _ _, rfl, fun _ _ => rfl⟩
    (LeavesBase.of_inputs (leaveSync_leaves isPhaseInput_chargeApart d c still))

theorem baseSync_leavesBase (hc : c ≤ 3) (h : b - 1 ≠ c - 1) (x : Base) : LeavesBase b IsPhaseInput d (d.baseSync c x) :=
  LeavesBase.trans (setBase_leavesBase h _ (LeavesBase.refl _ _ _))
    (LeavesBase.of_inputs (raise_leaves isPhaseInput_chargeApart.host (by omega) (Leaves.refl _ _)))

theorem baseLoss_leavesBase (hc : c ≤ 3) (h : b - 1 ≠ c - 1) : LeavesBase b IsPhaseInput d (d.baseLoss c) := by
  have hcnt : ¬ IsPhaseInput (R.PHS_CNT c) := fun h => by
    simp only [IsPhaseInput, R.PHS_CNT] at h
    omega
  have hstat : ¬ IsPhaseInput (R.PHS_STAT c) := fun h => by
    simp only [IsPhaseInput, R.PHS_STAT] at h
    omega
  unfold Dev.baseLoss
  extract_lets _ d1 d2
  have h1 : LeavesBase b IsPhaseInput d d1 := setBase_leavesBase h _ (LeavesBase.refl _ _ _)
  have h2 : LeavesBase b IsPhaseInput d1 d2 := LeavesBase.of_inputs
    (flagEv_leaves isPhaseInput_chargeApart.host hstat 15 (by omega) (incF_leaves hcnt _ (Leaves.refl _ _)))
  exact (h1.trans h2).trans (leaveSync_leavesBase h false)

/-- A cam reference for one base leaves the others. -/
theorem camRef_leavesBase (hc : c ≤ 3) (h : b - 1 ≠ c - 1) : LeavesBase b IsPhaseInput d (d.camRef c) := by
  have hfault {e : Dev} (k : LeavesBase b IsPhaseInput d e) : LeavesBase b IsPhaseInput d (e.camFault c) :=
    k.trans (LeavesBase.of_inputs (camFault_leaves (Leaves.refl _ _)))
  have hset (x : Base) : LeavesBase b IsPhaseInput d (d.setBase c x) := setBase_leavesBase h x (LeavesBase.refl _ _ _)
  unfold Dev.camRef
  extract_lets r x pos other here there k w d1
  split
  · split
    · exact baseSync_leavesBase hc h _
    · split
      · exact baseSync_leavesBase hc h _
      · split
        · exact hfault (LeavesBase.refl _ _ _)
        · exact LeavesBase.refl _ _ _
  · split
    · split
      · exact hset _
      · split
        · split
          · exact (hfault (hset _)).trans (baseLoss_leavesBase hc h)
          · exact hset _
        · exact hfault (hset _)
    · exact LeavesBase.refl _ _ _

/-- A cam reference for a base that seeks does nothing. -/
theorem camRef_seeking (h : (d.base c).state = 1) : d.camRef c = d := by simp [Dev.camRef, h]

theorem showBase_leaves (k : Leaves IsPhaseInput z d) : Leaves IsPhaseInput z (d.showBase c) := by
  have hstat : ¬ IsPhaseInput (R.PHS_STAT c) := fun h => by
    simp only [IsPhaseInput, R.PHS_STAT] at h
    omega
  have htooth : ¬ IsPhaseInput (R.PHS_TOOTH c) := fun h => by
    simp only [IsPhaseInput, R.PHS_TOOTH] at h
    omega
  have hperiod : ¬ IsPhaseInput (R.PHS_PERIOD c) := fun h => by
    simp only [IsPhaseInput, R.PHS_PERIOD] at h
    omega
  exact wrF_leaves hperiod _ _ (wrF_leaves htooth _ _ (wrF_leaves hstat _ _ k))

/-- The cam references that a base's tooth is for other bases leave a base that seeks. -/
theorem camRefs_leavesBase (hb : b ≠ 0) (h : (d.base b).state = 1) (p : Dev → Nat → Bool) :
    LeavesBase b IsPhaseInput d
      ([1, 2, 3].foldl (fun d c => if p d c then (d.camRef c).showBase c else d) d) := by
  have hstep (e : Dev) (c : Nat) (hc : c ∈ [1, 2, 3]) (k : LeavesBase b IsPhaseInput d e) :
      LeavesBase b IsPhaseInput d (if p e c then (e.camRef c).showBase c else e) := by
    have hc' : c ≠ 0 ∧ c ≤ 3 := by
      simp only [List.mem_cons, List.not_mem_nil, or_false] at hc
      omega
    have hshow {y : Dev} (k : LeavesBase b IsPhaseInput d y) : LeavesBase b IsPhaseInput d (y.showBase c) :=
      k.trans (LeavesBase.of_inputs (showBase_leaves (Leaves.refl _ _)))
    split
    · by_cases hbc : b = c
      · subst hbc
        rw [camRef_seeking (k.base ▸ h)]
        exact hshow k
      · exact hshow (k.trans (camRef_leavesBase hc'.2 (by omega)))
    · exact k
  exact hstep _ 3 (by simp) (hstep _ 2 (by simp) (hstep _ 1 (by simp) (LeavesBase.refl _ _ _)))

end

/-- A base that leaves STANDSTILL at an accepted edge. -/
def Base.seeking (x : Base) (t : Nat) (ref : Bool) : Base :=
  { Base.empty with
    state := 1, tPrev := t, edges := 1, acc := x.acc, ph := x.acc, cyc := x.cyc, lost := x.lost
    refs := b2n ref, fallback := x.fallback, seen := x.seen, gseen := x.gseen }

theorem toothEdge_still {d : Dev} {b : Nat} (h : (d.base b).state = 0) (t : Nat) :
    ∃ ref, d.toothEdge b t = (ref, d.setBase b ((d.base b).seeking t ref)) :=
  ⟨_, if_pos h⟩

/-- An accepted edge of a tooth input takes a base at STANDSTILL to SEEKING. -/
theorem baseEdge_still {d : Dev} {m b : Nat} (hb : b ≠ 0 ∧ b ≤ 3) (hlen : d.phs.bases.length = 3)
    (hkind : (d.baseRec b).kind ≠ 0) (htpin : (d.baseRec b).tpin = m) (hipin : (d.baseRec b).ipin ≠ m)
    (hstate : (d.base b).state = 0) (t : Nat) :
    ∃ ref, ((d.baseEdge m t b).base b) = (d.base b).seeking t ref ∧ (d.baseEdge m t b).image = d.image ∧
      (d.baseEdge m t b).rdF (R.PHS_STAT b) F.PHS_STAT_STATE = 1 ∧
      ∀ a, IsPhaseInput a → (d.baseEdge m t b).rd a = d.rd a := by
  obtain ⟨ref, htooth⟩ := toothEdge_still hstate t
  have hset : (d.setBase b ((d.base b).seeking t ref)).base b = (d.base b).seeking t ref :=
    base_setBase_same _ (by omega)
  have hedge : ∃ p : Dev → Nat → Bool, d.baseEdge m t b =
      (if ref && (d.baseRec b).kind == 3 then [1, 2, 3].foldl (fun d c => if p d c then (d.camRef c).showBase c else d)
        (d.setBase b ((d.base b).seeking t ref)) else d.setBase b ((d.base b).seeking t ref)).showBase b := by
    refine ⟨fun d c => decide ((d.baseRec c).camsrc = b), ?_⟩
    simp only [Dev.baseEdge, if_neg hkind, if_neg hipin, htpin, ne_eq, not_true_eq_false, if_false, htooth, decide_eq_true_eq]
  obtain ⟨p, hedge⟩ := hedge
  have k : LeavesBase b IsPhaseInput (d.setBase b ((d.base b).seeking t ref))
      (if ref && (d.baseRec b).kind == 3 then [1, 2, 3].foldl (fun d c => if p d c then (d.camRef c).showBase c else d)
        (d.setBase b ((d.base b).seeking t ref)) else d.setBase b ((d.base b).seeking t ref)) := by
    split
    · exact camRefs_leavesBase hb.1 (by rw [hset]; rfl) p
    · exact LeavesBase.refl _ _ _
  rw [hedge]
  generalize (if ref && (d.baseRec b).kind == 3 then _ else _ : Dev) = e at k ⊢
  have hbase : e.base b = (d.base b).seeking t ref := k.base.trans hset
  exact ⟨ref, hbase, k.image, (rdF_showBase_state e b (by rw [hbase]; exact (by decide : 1 < 8))).trans (by rw [hbase]; rfl), fun a ha =>
    ((showBase_leaves (Leaves.refl _ e)).rd a ha (.inl (by have := ha.2; omega))).trans (k.rd a ha)⟩

theorem baseEdge_unused {d : Dev} {c : Nat} (h : (d.baseRec c).kind = 0) (m t : Nat) : d.baseEdge m t c = d := if_pos h

theorem baseRec_congr {d e : Dev} (h : e.image = d.image) (b : Nat) : e.baseRec b = d.baseRec b := by
  rw [Dev.baseRec, Dev.baseRec, h]

/-- An edge at an input that one base alone uses is that base's. -/
theorem baseEdges_single {d : Dev} {b : Nat} (hb : b ∈ [1, 2, 3]) (m t : Nat)
    (hothers : ∀ c, c ∈ [1, 2, 3] → c ≠ b → (d.baseRec c).kind = 0) (himage : (d.baseEdge m t b).image = d.image) :
    [1, 2, 3].foldl (fun e c => e.baseEdge m t c) d = d.baseEdge m t b := by
  have hbefore : ∀ c ∈ [1, 2, 3], c ≠ b → d.baseEdge m t c = d := fun c hc hne => baseEdge_unused (hothers c hc hne) m t
  have hafter : ∀ c ∈ [1, 2, 3], c ≠ b → (d.baseEdge m t b).baseEdge m t c = d.baseEdge m t b := fun c hc hne =>
    baseEdge_unused (by rw [baseRec_congr himage]; exact hothers c hc hne) m t
  simp only [List.mem_cons, List.not_mem_nil, or_false] at hb
  simp only [List.foldl_cons, List.foldl_nil]
  rcases hb with rfl | rfl | rfl
  · rw [hafter 2 (by simp) (by decide), hafter 3 (by simp) (by decide)]
  · rw [hbefore 1 (by simp) (by decide), hafter 3 (by simp) (by decide)]
  · rw [hbefore 1 (by simp) (by decide), hbefore 2 (by simp) (by decide)]

/-- What every edge shows leaves the image and the bases, and LEVEL_NOW reads the level. -/
theorem edgeShown_spec (d : Dev) (m peak : Nat) (level : Bool) (r : AngleRec) :
    (d.edgeShown m peak level r).image = d.image ∧ (d.edgeShown m peak level r).phs.bases = d.phs.bases ∧
    (d.edgeShown m peak level r).rdF (R.PHS_INP m) F.PHS_INP_LEVEL_NOW = b2n level := by
  have hlevel := rdF_wrF_bool d (R.PHS_INP m) F.PHS_INP_LEVEL_NOW (by decide) (by decide) level
  unfold Dev.edgeShown
  split <;> exact ⟨rfl, rfl, hlevel⟩

/-- Settles O16: the edge is accepted by its mode, height and distance; a standstill is shown before what the base's
departure does to the charge channels, which touches none of its registers. -/
theorem edgesAndLateEntries : Obligations.EdgesAndLateEntries := by
  unfold Obligations.EdgesAndLateEntries
  refine ⟨?_, ?_, ⟨?_, ?_, ?_, ?_⟩, ?_, ?_, ?_, ?_, ?_⟩
  · intro s m peak level r hup hpeaks hr h
    have hedge := angleEdge_eq hr peak level
    rw [edgeAccepted_false (by rw [hpeaks]; exact m.isLt) h, if_neg Bool.false_ne_true] at hedge
    refine ⟨fun hmode => exec_of_up hup (f := fun d => d.angleEdge m.val peak level) rfl (hedge.trans (if_neg ?_)),
      fun hmode hlevel => exec_of_up hup (f := fun d => d.angleEdge m.val peak level) rfl (hedge.trans (if_pos ⟨hmode, hlevel⟩))⟩
    rintro ⟨h1, h0⟩
    rcases hmode with hmode | hmode
    · exact hmode h1
    · rw [h0] at hmode
      cases hmode
  · intro s m peak level r b hup hb1 hb3 hbases hr hcounts hpeaks hlevel hapart hothers hkind htpin hipin hstate
    have hedge := angleEdge_eq hr peak level
    rw [edgeAccepted_true (by rw [hpeaks]; exact m.isLt) hcounts hlevel hapart, if_pos rfl] at hedge
    obtain ⟨himage, hbases', hnow⟩ := edgeShown_spec s.dev m.val peak level r
    generalize he : (s.dev.edgeShown m peak level r).edgeStamped m = e at hedge
    have himage' : e.image = s.dev.image := by rw [← he]; exact himage
    have hphs : e.phs.bases = s.dev.phs.bases := by rw [← he]; exact hbases'
    have hbase (c : Nat) : e.base c = s.dev.base c := by rw [Dev.base, Dev.base, hphs]
    have hrec := baseRec_congr himage'
    obtain ⟨ref, hx, himg, hshown, hrd⟩ := baseEdge_still (d := e) (m := m.val) (b := b) ⟨by omega, hb3⟩
      (by rw [hphs, hbases]) (by rw [hrec]; exact hkind) (by rw [hrec]; exact htpin) (by rw [hrec]; exact hipin)
      (by rw [hbase]; exact hstate) s.dev.edgeTimer
    have hmem : ∀ c, c ∈ [1, 2, 3] ↔ 1 ≤ c ∧ c ≤ 3 := fun c => by
      simp only [List.mem_cons, List.not_mem_nil, or_false]
      omega
    rw [baseEdges_single ((hmem b).2 ⟨hb1, hb3⟩) m.val _
      (fun c hc hne => by rw [hrec]; exact hothers c ((hmem c).1 hc).1 ((hmem c).1 hc).2 hne) himg] at hedge
    refine completes_of_up hup (f := fun d => d.angleEdge m.val peak level) rfl ?_
    rw [hedge, hx, hbase]
    refine ⟨rfl, rfl, rfl, hshown, ?_⟩
    have hin : IsPhaseInput (R.PHS_INP m.val) := by
      simp only [IsPhaseInput, R.PHS_INP]
      omega
    rw [rdF_congr (hrd _ hin), ← he]
    exact hnow
  · intro s b hup hb hbases hstate
    exact completes_of_up hup (f := fun d => d.standstill b.val) rfl
      (standstill_spec ⟨hb, by omega⟩ hbases hstate).1
  · intro s b hup hb hbases hstate _
    obtain ⟨-, -, hshown, hflag, hspeed, -, hpend⟩ := standstill_spec (d := s.dev) (b := b.val) ⟨hb, by omega⟩ hbases (by omega)
    refine completes_of_up hup (f := fun d => d.standstill b.val) rfl ⟨?_, hshown, ?_, ?_⟩
    · rw [hflag 14 (by decide), rdF_stillShown_still s.dev (by omega)]
    · rw [rdF_congr hspeed, rdF_stillShown_speed]
    · exact hpend _ (by omega) (evPending_stillShown_still s.dev (by omega))
  · intro s b hup hb hbases hstate
    obtain ⟨-, hangle, hshown, hflag, hspeed, hcnt, hpend⟩ :=
      standstill_spec (d := s.dev) (b := b.val) ⟨hb, by omega⟩ hbases (by omega)
    obtain ⟨hlossflag, hlosses, hlossev⟩ := stillShown_loss s.dev (b := b.val) (by omega) hstate
    refine completes_of_up hup (f := fun d => d.standstill b.val) rfl ⟨?_, ?_, hshown, ?_, ?_, ?_, ?_, hangle hstate⟩
    · rw [hflag 14 (by decide), rdF_stillShown_still s.dev (by omega)]
    · rw [hflag 15 (by decide), hlossflag]
    · rw [rdF_congr hspeed, rdF_stillShown_speed]
    · rw [rdF_congr hcnt, hlosses]
    · exact hpend _ (by omega) (evPending_stillShown_still s.dev (by omega))
    · exact hpend _ (by omega) hlossev
  · exact fun s b h => exec_keeps (f := fun d => d.standstill b.val) rfl (standstill_keeps h)
  · intro s
    refine exec_keeps (f := fun d => d.whenRuns 0 0 none none (fun d => d.schedNop false)) rfl ?_
    unfold Dev.whenRuns
    split <;> rfl
  · intro s hup hruns
    rw [exec_of_entryRuns (f := fun d => d.schedNop true) rfl hup hruns]
    have hcount := satInc_eq_min (m := 65535) (Nat.le_of_lt_succ (rdF_lt s.dev R.PHS_LATECNT F.PHS_LATECNT_COUNT))
    show Host.Outcome.next (s.on ((s.dev.wrF R.PHS_LATECNT F.PHS_LATECNT_COUNT
      (satInc 65535 (s.dev.rdF R.PHS_LATECNT F.PHS_LATECNT_COUNT))).flagEv R.PHS_ENGSTAT 0 28)) = _
    rw [hcount]
    rfl
  · exact fun s h => exec_keeps_of_not_entryRuns (f := fun d => d.schedNop true) rfl h
  · exact fun s hup => exec_of_up hup (f := Dev.latecntClr) rfl rfl
  · exact fun s b hup => exec_of_up hup (f := fun d => d.jumpClr b.val) rfl rfl

end Sys2Proof.Machine
end

section
/-!
PROOFS. Universal inputs (chapter 04): the conversions of a scan step, the reference check, the releases of a post-check,
clamp currents and diagnostic requests.
-/
namespace Sys2Proof.Machine

/-! Pending writes of a field that acts at its own instants (R43) -/

section
variable (d : Dev) (a : Nat)

@[simp] theorem wbApply_uin (mask : Word) : (d.wbApply a mask).uin = d.uin := by simp

@[simp] theorem uBoundary_uin (m : Nat) : (d.uBoundary m).uin = d.uin := by
  unfold Dev.uBoundary
  split <;> simp

theorem wbWord_wbDrop_same : (d.wbDrop a).wbWord a = none := by
  unfold Dev.wbWord Dev.wbDrop
  rw [List.find?_filter]
  simp

/-- A word kept pending shows PEND, and is the pending word. -/
theorem wbWrite_pends {mask value : Word} (h : ¬ (d.wbWord a = none ∧ value &&& mask = d.rd a &&& mask)) (sess : Nat) :
    (d.wbWrite a mask value sess).wbWord a = some (value &&& mask) ∧
    (d.wbWrite a mask value sess).rd a = (d.wrF a ⟨31, 1⟩ 1).rd a := by
  unfold Dev.wbWrite
  rw [if_neg h]
  exact ⟨by simp [Dev.wbWord], rfl⟩

end

theorem wbWrite_repeats {d : Dev} {a : Nat} {mask value : Word} (h : d.wbWord a = none ∧ value &&& mask = d.rd a &&& mask)
    (sess : Nat) : d.wbWrite a mask value sess = d := if_pos h

theorem wbApply_none {d : Dev} {a : Nat} (h : d.wbWord a = none) (mask : Word) : d.wbApply a mask = d := by
  unfold Dev.wbApply
  rw [h]

/-- A pending word acts: the masked bits are its own, and PEND ends. -/
theorem wbApply_some {d : Dev} {a : Nat} {v : Word} (h : d.wbWord a = some v) (mask : Word) :
    d.wbApply a mask = (d.wr a ((d.rd a &&& ~~~ mask) ||| (v &&& mask))).wbDrop a := by
  unfold Dev.wbApply
  rw [h]

theorem rd_wbDrop_same (d : Dev) (a : Nat) : (d.wbDrop a).rd a = (d.wrF a ⟨31, 1⟩ 0).rd a := rfl

/-! Diagnostic requests (R43, R44) -/

theorem toNat_and_one (w : Word) : (w &&& 1).toNat = getF F.UIN_DIAG_REQ w := by
  rw [BitVec.toNat_and]
  show w.toNat &&& 1 = w.toNat / 2 ^ 0 % 2 ^ 1
  rw [Nat.and_one_is_mod, Nat.pow_zero, Nat.div_one, Nat.pow_one]

theorem getF_setBit0 (w v : Word) : getF F.UIN_DIAG_REQ ((w &&& ~~~ 1) ||| (v &&& 1)) = getF F.UIN_DIAG_REQ v := by
  rw [← toNat_and_one, ← toNat_and_one]
  congr 1
  ext i
  simp only [BitVec.getElem_and, BitVec.getElem_or, BitVec.getElem_not]
  cases (1 : Word)[i] <;> simp

theorem and_one_eq_iff (v w : Word) : v &&& 1 = w &&& 1 ↔ getF F.UIN_DIAG_REQ v = getF F.UIN_DIAG_REQ w := by
  rw [← toNat_and_one, ← toNat_and_one, BitVec.toNat_inj]

theorem getF_b2n (req : Bool) : getF F.UIN_DIAG_REQ (BitVec.ofNat 32 (b2n req)) = b2n req := by cases req <;> rfl

section
variable {d : Dev} {n : Nat} {req : Bool}

/-- A request on a channel that is not in conversion acts at once. -/
theorem uDiagRequest_idle (hidle : d.uConverting n = false) (hnone : d.wbWord (R.UIN_DIAG n) = none)
    (hpend : d.rdF (R.UIN_DIAG n) ⟨31, 1⟩ = 0) :
    (d.uDiagRequest n req).rdF (R.UIN_DIAG n) F.UIN_DIAG_REQ = b2n req ∧
    (d.uDiagRequest n req).rdF (R.UIN_DIAG n) ⟨31, 1⟩ = 0 := by
  have hconv : (d.wbWrite (R.UIN_DIAG n) uDiagMask (BitVec.ofNat 32 (b2n req))).uConverting n = d.uConverting n := by
    simp [Dev.uConverting, Dev.scan, Dev.uChanOf, Dev.uconv]
  have heq : d.uDiagRequest n req =
      (d.wbWrite (R.UIN_DIAG n) uDiagMask (BitVec.ofNat 32 (b2n req))).wbApply (R.UIN_DIAG n) uDiagMask :=
    if_neg (by rw [hconv, hidle]; exact Bool.false_ne_true)
  rw [heq]
  by_cases hsame : d.wbWord (R.UIN_DIAG n) = none ∧
      BitVec.ofNat 32 (b2n req) &&& uDiagMask = d.rd (R.UIN_DIAG n) &&& uDiagMask
  · rw [wbWrite_repeats hsame, wbApply_none hnone]
    exact ⟨((and_one_eq_iff _ _).1 hsame.2).symm.trans (getF_b2n req), hpend⟩
  · obtain ⟨hword, -⟩ := wbWrite_pends d _ hsame 0
    rw [wbApply_some hword]
    generalize d.wbWrite (R.UIN_DIAG n) uDiagMask (BitVec.ofNat 32 (b2n req)) = e
    have hreq : getF F.UIN_DIAG_REQ ((e.rd (R.UIN_DIAG n) &&& ~~~ uDiagMask) |||
        (BitVec.ofNat 32 (b2n req) &&& uDiagMask &&& uDiagMask)) = b2n req := by
      rw [BitVec.and_assoc, BitVec.and_self]
      exact (getF_setBit0 _ _).trans (getF_b2n req)
    refine ⟨?_, ?_⟩
    · rw [rdF_congr (rd_wbDrop_same _ _), rdF_wrF_apart _ _ _ ⟨31, 1⟩ (by decide), Dev.rdF, rd_wr_same]
      exact hreq
    · rw [rdF_congr (rd_wbDrop_same _ _)]
      exact rdF_wrF_of_lt _ _ ⟨31, 1⟩ (by decide) (by decide)

/-- A request on a channel in conversion waits with PEND. -/
theorem uDiagRequest_converting (hconv : d.uConverting n = true) (hreq : d.rdF (R.UIN_DIAG n) F.UIN_DIAG_REQ = 0) :
    (d.uDiagRequest n true).rdF (R.UIN_DIAG n) F.UIN_DIAG_REQ = 0 ∧
    (d.uDiagRequest n true).rdF (R.UIN_DIAG n) ⟨31, 1⟩ = 1 := by
  have hconv' : (d.wbWrite (R.UIN_DIAG n) uDiagMask (BitVec.ofNat 32 (b2n true))).uConverting n = true := by
    rw [← hconv]
    simp [Dev.uConverting, Dev.scan, Dev.uChanOf, Dev.uconv]
  have hnew : ¬ (d.wbWord (R.UIN_DIAG n) = none ∧
      BitVec.ofNat 32 (b2n true) &&& uDiagMask = d.rd (R.UIN_DIAG n) &&& uDiagMask) := fun ⟨_, h⟩ => by
    have := (and_one_eq_iff _ _).1 h
    rw [getF_b2n] at this
    exact absurd (this.trans hreq) (by decide)
  obtain ⟨-, hrd⟩ := wbWrite_pends d _ hnew 0
  have heq : d.uDiagRequest n true = d.wbWrite (R.UIN_DIAG n) uDiagMask (BitVec.ofNat 32 (b2n true)) := if_pos hconv'
  rw [heq]
  refine ⟨?_, ?_⟩
  · rw [rdF_congr hrd, rdF_wrF_apart _ _ _ ⟨31, 1⟩ (by decide)]
    exact hreq
  · rw [rdF_congr hrd]
    exact rdF_wrF_of_lt _ _ ⟨31, 1⟩ (by decide) (by decide)

end

/-- Settles O21: a clamp current outranks every check; a request waits in the register's pending word. -/
theorem clampAndDiagnosticRequest : Obligations.ClampAndDiagnosticRequest := by
  unfold Obligations.ClampAndDiagnosticRequest
  refine ⟨?_, ?_, ?_, ?_, ?_, ?_⟩
  · intro s n hup
    exact congrArg (fun d => Host.Outcome.next (s.on d)) (if_pos hup)
  · intro s n hboot
    have h3 : s.dev.pwr.boot ≠ 3 := by omega
    have h0 : s.dev.pwr.boot ≠ 0 := by omega
    exact congrArg (fun d => Host.Outcome.next (s.on d)) ((if_neg h3).trans (if_neg h0))
  · intro s n hboot
    have h3 : s.dev.pwr.boot ≠ 3 := by omega
    exact congrArg (fun d => Host.Outcome.next (s.on d)) ((if_neg h3).trans (if_pos hboot))
  · intro d m n rloop checks hclamp
    exact if_pos hclamp
  · intro s n req hup hidle hnone hpend
    exact completes_of_up hup (f := fun d => d.uDiagRequest n.val req) rfl (uDiagRequest_idle hidle hnone hpend)
  · intro s n hup hconv hreq
    exact completes_of_up hup (f := fun d => d.uDiagRequest n.val true) rfl (uDiagRequest_converting hconv hreq)

end Sys2Proof.Machine
end

section
namespace Sys2Proof.Machine

/-! A converter's steps (R104, R121) -/

theorem rd_setScan_other (d : Dev) {m a : Nat} (f : UScan → UScan) (h : a ≠ R.UIN_SCSTAT m) :
    (d.setScan m f).rd a = d.rd a := rd_wr_other { d with uin := { d.uin with scans := upd d.uin.scans m f } } _ _ _ h

theorem evPending_setScan (d : Dev) {m : Nat} (hm : m < 4) (f : UScan → UScan) (i : Nat) :
    (d.setScan m f).evPending i = d.evPending i :=
  evPending_congr (rd_setScan_other d f (by simp only [R.HST_EVPEND, R.UIN_SCSTAT]; omega))

/-- The step after this one of a scheduled converter waits for its entry. -/
theorem uNext_scheduled {d : Dev} {m : Nat} (hmode : (d.uconv m).mode = 2) (hstep : (d.scan m).step + 1 ≠ (d.uconv m).len) :
    d.uNext m = d.setScan m (fun s => { s with phase := 0 }) := by simp [Dev.uNext, hmode, hstep]

/-- The end of a main conversion. -/
theorem uConvEnd_spec {d : Dev} {m : Nat} (hm : m < d.uin.scans.length) (hphase : (d.scan m).phase = 3)
    (hkind : (stepNow d m).kind ≠ 2) (code : BitVec 24) :
    ((d.uConvEnd m code).scan m).phase = (if (stepNow d m).kind = 0 ∧ (d.urec (stepNow d m).chan).mode = 2 ∧
      (d.urec (stepNow d m).chan).wires = 2 then 4 else 5) ∧
    ((d.uConvEnd m code).scan m).code = code.toInt ∧ (d.uConvEnd m code).uin.chans = d.uin.chans := by
  have hbegun : ¬ ((d.scan m).phase ≠ 3 ∨ (stepNow d m).kind = 2) := by omega
  have heq : d.uConvEnd m code =
      (let lead := (stepNow d m).kind == 0 && (d.urec (stepNow d m).chan).mode == 2 && (d.urec (stepNow d m).chan).wires == 2
       let e := d.setScan m (fun s => { s with phase := if lead then 4 else 5, code := code.toInt, lcode := 0 })
       if lead then e else e.uBoundary m) := if_neg hbegun
  have hscan : (d.uConvEnd m code).uin = (d.setScan m (fun s => { s with
      phase := if (stepNow d m).kind = 0 ∧ (d.urec (stepNow d m).chan).mode = 2 ∧ (d.urec (stepNow d m).chan).wires = 2
        then 4 else 5, code := code.toInt, lcode := 0 })).uin := by
    rw [heq]
    simp only [Bool.and_eq_true, beq_iff_eq, and_assoc]
    split
    · rfl
    · exact uBoundary_uin _ _
  have hsame := scan_setScan_same d (fun s => { s with
      phase := if (stepNow d m).kind = 0 ∧ (d.urec (stepNow d m).chan).mode = 2 ∧ (d.urec (stepNow d m).chan).wires = 2
        then 4 else 5, code := code.toInt, lcode := 0 }) hm
  rw [Dev.scan, hscan, ← Dev.scan, hsame]
  exact ⟨rfl, rfl, rfl⟩

/-- The end of a lead conversion. -/
theorem uLeadEnd_spec {d : Dev} {m : Nat} (hm : m < d.uin.scans.length) (hphase : (d.scan m).phase = 4) (code : BitVec 24) :
    (d.uLeadEnd m code).scan m = { d.scan m with phase := 5, lcode := code.toInt } ∧
    (d.uLeadEnd m code).uin.chans = d.uin.chans := by
  have heq : d.uLeadEnd m code = (d.setScan m (fun s => { s with phase := 5, lcode := code.toInt })).uBoundary m :=
    if_neg (by omega)
  rw [heq, Dev.scan, uBoundary_uin, ← Dev.scan, scan_setScan_same d _ hm]
  exact ⟨rfl, rfl⟩

/-- The reference check noted, with its instant. -/
def Dev.refNoted (d : Dev) (m : Nat) (bad : Bool) : Dev :=
  let d := d.setScan m (fun s => { s with refBad := bad })
  { d with uin := { d.uin with refAt := upd d.uin.refAt m (fun _ => some d.clk) } }

theorem uRefEnd_of {d : Dev} {m : Nat} (hphase : (d.scan m).phase = 3) (hkind : (stepNow d m).kind = 2) (code : BitVec 24) :
    d.uRefEnd m code = (((d.refNoted m (refFails code.toInt (Config.refchkCode m))).uOnset (d.scan m).refBad
      (refFails code.toInt (Config.refchkCode m)) (12 + m) (36 + m)).uNext m) := by
  have hbegun : ¬ ((d.scan m).phase ≠ 3 ∨ (stepNow d m).kind ≠ 2) := by omega
  exact if_neg hbegun

@[simp] theorem uOnset_uin (d : Dev) (was bad : Bool) (bit ev : Nat) : (d.uOnset was bad bit ev).uin = d.uin := by
  unfold Dev.uOnset
  split <;> simp

@[simp] theorem uOnset_image (d : Dev) (was bad : Bool) (bit ev : Nat) : (d.uOnset was bad bit ev).image = d.image := by
  unfold Dev.uOnset
  split <;> simp

theorem rd_refNoted_other (d : Dev) {m a : Nat} (bad : Bool) (h : a ≠ R.UIN_SCSTAT m) : (d.refNoted m bad).rd a = d.rd a :=
  rd_setScan_other d (fun s => { s with refBad := bad }) h

theorem scan_refNoted (d : Dev) {m : Nat} (bad : Bool) (hm : m < d.uin.scans.length) :
    (d.refNoted m bad).scan m = { d.scan m with refBad := bad } := scan_setScan_same d _ hm

/-- The end of a reference check of a scheduled converter, not the last step of its pass. -/
theorem uRefEnd_scheduled {d : Dev} {m : Nat} (hm : m < d.uin.scans.length) (hphase : (d.scan m).phase = 3)
    (hkind : (stepNow d m).kind = 2) (hmode : (d.uconv m).mode = 2) (hstep : (d.scan m).step + 1 ≠ (d.uconv m).len)
    (code : BitVec 24) :
    d.uRefEnd m code = ((d.refNoted m (refFails code.toInt (Config.refchkCode m))).uOnset (d.scan m).refBad
      (refFails code.toInt (Config.refchkCode m)) (12 + m) (36 + m)).setScan m (fun s => { s with phase := 0 }) := by
  rw [uRefEnd_of hphase hkind, uNext_scheduled]
  · rw [Dev.uconv, uOnset_image]
    exact hmode
  · rw [Dev.scan, uOnset_uin, ← Dev.scan, scan_refNoted d _ hm, Dev.uconv, uOnset_image]
    exact hstep

/-- Settles O20: each conversion's end changes its converter's scan alone; the reference check notes its verdict and
flags its onset. -/
theorem scanConversions : Obligations.ScanConversions := by
  unfold Obligations.ScanConversions
  refine ⟨⟨fun s m code hup hshape hphase hkind => ?_, fun s m code hup hshape hphase => ?_⟩,
    fun s m code hup hshape hphase hkind hmode hstep => ?_, fun d m n rloop checks hbad hclamp => ?_, fun _ _ => rfl⟩
  · exact completes_of_up hup (f := fun d => d.uConvEnd m.val code) rfl
      (uConvEnd_spec (scans_lt hshape m) hphase hkind code)
  · obtain ⟨hscan, hchans⟩ := uLeadEnd_spec (scans_lt hshape m) hphase code
    refine completes_of_up hup (f := fun d => d.uLeadEnd m.val code) rfl ?_
    rw [hscan]
    exact ⟨rfl, rfl, rfl, hchans⟩
  · have hm := scans_lt hshape m
    refine completes_of_up hup (f := fun d => d.uRefEnd m.val code) rfl ?_
    rw [uRefEnd_scheduled hm hphase hkind hmode hstep code]
    generalize hbad : refFails code.toInt (Config.refchkCode m.val) = bad
    generalize he : (s.dev.refNoted m.val bad).uOnset (s.dev.scan m.val).refBad bad (12 + m.val) (36 + m.val) = e
    have huin : e.uin = (s.dev.refNoted m.val bad).uin := by rw [← he, uOnset_uin]
    have hscan : e.scan m.val = { s.dev.scan m.val with refBad := bad } := by
      rw [Dev.scan, huin, ← Dev.scan, scan_refNoted _ _ hm]
    have hlen : m.val < e.uin.scans.length := by
      rw [huin]
      exact lt_of_lt_of_eq hm (length_upd _ _ _).symm
    have hstat : R.UIN_STAT ≠ R.UIN_SCSTAT m.val := by
      simp only [R.UIN_STAT, R.UIN_SCSTAT]
      omega
    rw [scan_setScan_same e _ hlen, hscan]
    refine ⟨rfl, rfl, fun hfails hwas => ?_, fun hok => ?_⟩
    · rw [hfails, hwas] at he
      rw [rdF_congr (rd_setScan_other e _ hstat), evPending_setScan e m.isLt, ← he]
      exact ⟨rdF_flagEv_same _ (by decide) (by omega) _, evPending_flagEv_same _ _ _ (by omega)⟩
    · rw [hok] at he
      rw [rd_setScan_other e _ hstat, ← he]
      exact rd_refNoted_other s.dev _ hstat
  · have hchan : ¬ (d.uin.chans.getD n UChan.empty).clamp = true := by
      rw [hclamp]
      exact Bool.false_ne_true
    exact (if_neg hchan).trans (if_pos hbad)

end Sys2Proof.Machine
end

section
namespace Sys2Proof.Machine

/-! What a release shows (R113 to R119) -/

/-- The exchange of a channel's status, and its map and clamp. -/
def Dev.statusShown (d : Dev) (n st : Nat) : Dev :=
  ((d.wrF (R.UIN_STS n) F.UIN_STS_STATUS st).uMap n (uFault st)).setUch n (fun c => { c with clamp := false })

theorem uMap_uin (d : Dev) (n : Nat) (b : Bool) : (d.uMap n b).uin = d.uin ∧ (d.uMap n b).clk = d.clk ∧
    (d.uMap n b).image = d.image := by
  unfold Dev.uMap
  split <;> exact ⟨rfl, rfl, rfl⟩

theorem rd_uMap_other (d : Dev) (n : Nat) (b : Bool) {a : Nat} (hlo : a ≠ R.UIN_FLTMAP_LO) (hhi : a ≠ R.UIN_FLTMAP_HI) :
    (d.uMap n b).rd a = d.rd a := by
  unfold Dev.uMap
  split
  · exact rd_wr_other _ _ _ _ hlo
  · exact rd_wr_other _ _ _ _ hhi

section
variable (d : Dev) (n st : Nat)

theorem statusShown_same : (d.statusShown n st).uin.scans = d.uin.scans ∧ (d.statusShown n st).image = d.image ∧
    (d.statusShown n st).clk = d.clk := by
  obtain ⟨huin, hclk, himage⟩ := uMap_uin (d.wrF (R.UIN_STS n) F.UIN_STS_STATUS st) n (uFault st)
  exact ⟨(congrArg Universal.scans huin :), himage, hclk⟩

theorem chan_statusShown :
    (d.statusShown n st).uin.chans[n]? = (d.uin.chans[n]?).map (fun c => { c with clamp := false }) := by
  obtain ⟨huin, -, -⟩ := uMap_uin (d.wrF (R.UIN_STS n) F.UIN_STS_STATUS st) n (uFault st)
  refine (getElem?_upd_same _ n _).trans ?_
  rw [huin]
  rfl

theorem rd_statusShown {a : Nat} (hlo : a ≠ R.UIN_FLTMAP_LO) (hhi : a ≠ R.UIN_FLTMAP_HI) :
    (d.statusShown n st).rd a = (d.wrF (R.UIN_STS n) F.UIN_STS_STATUS st).rd a := rd_uMap_other _ _ _ hlo hhi

/-- The events that go with a release. -/
def Dev.releaseEvents (old : Nat) : Dev :=
  ((d.raiseIf (uFault st && old ≤ 2) 46).raiseIf (st ≤ 2 && uFault old) 47).raiseIf ((st == 1 || st == 2) && old == 0) 52

theorem releaseEvents_same (old : Nat) : (d.releaseEvents st old).uin = d.uin ∧ (d.releaseEvents st old).image = d.image := by
  simp [Dev.releaseEvents]

theorem rd_releaseEvents (old : Nat) {a : Nat} (ha : a < 0x170000) : (d.releaseEvents st old).rd a = d.rd a :=
  (rd_raiseIf_low _ _ _ ha).trans ((rd_raiseIf_low _ _ _ ha).trans (rd_raiseIf_low _ _ _ ha))

theorem uRelease_value (h : st ≤ 2) (v : Int) : d.uRelease n st v =
    ((((d.statusShown n st).wr (R.UIN_VAL n) (wordOfInt v)).setUch n (fun c => { c with
      relClk := some (d.statusShown n st).clk, hasVal := true })).releaseEvents st
        (d.rdF (R.UIN_STS n) F.UIN_STS_STATUS)) := by
  unfold Dev.uRelease
  simp only [if_pos h]
  rfl

theorem uRelease_fault (h : ¬ st ≤ 2) (v : Int) : d.uRelease n st v =
    (((d.statusShown n st).flag (R.UIN_STS n) 22).releaseEvents st (d.rdF (R.UIN_STS n) F.UIN_STS_STATUS)) := by
  unfold Dev.uRelease
  simp only [if_neg h]
  rfl

end

/-- The registers of a channel lie apart. -/
theorem uin_sts_val {n k : Nat} (hn : n < 48) (hk : k < 48) : R.UIN_STS n ≠ R.UIN_VAL k ∧ R.UIN_STS n ≠ R.UIN_FLTMAP_LO ∧
    R.UIN_STS n ≠ R.UIN_FLTMAP_HI ∧ R.UIN_VAL k ≠ R.UIN_FLTMAP_LO ∧ R.UIN_VAL k ≠ R.UIN_FLTMAP_HI ∧
    R.UIN_STS n < 0x170000 ∧ R.UIN_VAL k < 0x170000 := by
  simp only [R.UIN_STS, R.UIN_VAL, R.UIN_FLTMAP_LO, R.UIN_FLTMAP_HI]
  omega

section
variable (d : Dev) {n : Nat} (hn : n < 48) (st : Nat) (v : Int)
include hn

/-- A release with a value: the status, the value and its instant. -/
theorem uRelease_value_spec (h : st ≤ 2) :
    (d.uRelease n st v).rdF (R.UIN_STS n) F.UIN_STS_STATUS = st ∧ (d.uRelease n st v).rd (R.UIN_VAL n) = wordOfInt v ∧
    ((d.uRelease n st v).uin.chans[n]?).map UChan.relClk = (d.uin.chans[n]?).map (fun _ => some d.clk) ∧
    (d.uRelease n st v).uin.scans = d.uin.scans ∧ (d.uRelease n st v).image = d.image := by
  obtain ⟨hsv, hslo, hshi, hvlo, hvhi, hs, hv⟩ := uin_sts_val hn hn
  obtain ⟨hscans, himage, hclk⟩ := statusShown_same d n st
  have hchan := chan_statusShown d n st
  have hsts := rdF_congr (rd_statusShown d n st hslo hshi) F.UIN_STS_STATUS
  rw [rdF_wrF_of_lt d _ F.UIN_STS_STATUS (by decide) (show st < 16 by omega)] at hsts
  rw [uRelease_value d n st h]
  generalize d.statusShown n st = e at hscans himage hclk hchan hsts
  obtain ⟨huin', himage'⟩ := releaseEvents_same ((e.wr (R.UIN_VAL n) (wordOfInt v)).setUch n (fun c => { c with
    relClk := some e.clk, hasVal := true })) st (d.rdF (R.UIN_STS n) F.UIN_STS_STATUS)
  refine ⟨?_, ?_, ?_, ?_, himage'.trans himage⟩
  · rw [rdF_congr (rd_releaseEvents _ _ _ hs)]
    exact (rdF_congr (rd_wr_other e _ _ _ hsv) _).trans hsts
  · rw [rd_releaseEvents _ _ _ hv]
    exact rd_wr_same e _ _
  · rw [huin']
    refine (congrArg (Option.map UChan.relClk) (getElem?_upd_same _ n _)).trans ?_
    show Option.map _ (Option.map _ (e.uin.chans[n]?)) = _
    rw [hchan, hclk]
    cases d.uin.chans[n]? <;> rfl
  · rw [huin']
    exact hscans

/-- A release without a value: the status alone. -/
theorem uRelease_fault_spec (h : ¬ st ≤ 2) :
    (d.uRelease n st v).rdF (R.UIN_STS n) F.UIN_STS_STATUS = st % 16 ∧ (d.uRelease n st v).rd (R.UIN_VAL n) = d.rd (R.UIN_VAL n) ∧
    (d.uRelease n st v).uin.chans[n]? = (d.uin.chans[n]?).map (fun c => { c with clamp := false }) ∧
    (d.uRelease n st v).uin.scans = d.uin.scans ∧ (d.uRelease n st v).image = d.image := by
  obtain ⟨hsv, hslo, hshi, hvlo, hvhi, hs, hv⟩ := uin_sts_val hn hn
  obtain ⟨hscans, himage, -⟩ := statusShown_same d n st
  have hchan := chan_statusShown d n st
  have hsts := rdF_congr (rd_statusShown d n st hslo hshi) F.UIN_STS_STATUS
  have hval := rd_statusShown d n st hvlo hvhi
  rw [rdF_wrF d _ F.UIN_STS_STATUS (by decide)] at hsts
  rw [rd_wrF_other d _ _ _ _ hsv.symm] at hval
  rw [uRelease_fault d n st h]
  generalize d.statusShown n st = e at hscans himage hchan hsts hval
  obtain ⟨huin', himage'⟩ := releaseEvents_same (e.flag (R.UIN_STS n) 22) st (d.rdF (R.UIN_STS n) F.UIN_STS_STATUS)
  refine ⟨?_, ?_, ?_, ?_, himage'.trans himage⟩
  · rw [rdF_congr (rd_releaseEvents _ _ _ hs), rdF_flag_apart _ _ _ _ (by decide) (by decide)]
    exact hsts
  · rw [rd_releaseEvents _ _ _ hv, rd_flag_other _ _ _ _ hsv.symm]
    exact hval
  · rw [huin']
    exact hchan
  · rw [huin']
    exact hscans

end

end Sys2Proof.Machine
end

section
namespace Sys2Proof.Machine

/-! The end of a post-check (R113 to R120) -/

theorem uCheck_fault {d : Dev} {m n rloop : Nat} {checks : BitVec 4} (h : d.uCheck m n rloop checks ≠ 0) :
    ¬ d.uCheck m n rloop checks ≤ 2 := by
  revert h
  unfold Dev.uCheck
  dsimp only
  repeat' split
  all_goals decide

/-- The excitation flags of a step leave its channel and its scan. -/
theorem uExcFlags_spec (d : Dev) (m n : Nat) (checks : BitVec 4) :
    (d.uExcFlags m n checks).uin.chans = d.uin.chans ∧ (d.uExcFlags m n checks).uin.scans = d.uin.scans ∧
    (d.uExcFlags m n checks).image = d.image ∧ (d.uExcFlags m n checks).clk = d.clk ∧
    ∀ a, a ≠ R.UIN_STAT → a < 0x170000 → (d.uExcFlags m n checks).rd a = d.rd a := by
  have honset (e : Dev) (was bad : Bool) (bit ev : Nat) : (e.uOnset was bad bit ev).clk = e.clk ∧
      ∀ a, a ≠ R.UIN_STAT → a < 0x170000 → (e.uOnset was bad bit ev).rd a = e.rd a := by
    unfold Dev.uOnset
    split
    · exact ⟨by simp, fun a ha hlow => rd_flagEv_low_other e hlow ha bit ev⟩
    · exact ⟨rfl, fun _ _ _ => rfl⟩
  unfold Dev.uExcFlags
  dsimp only
  split
  · rw [uOnset_uin, uOnset_image, (honset _ _ _ _ _).1]
    exact ⟨rfl, rfl, rfl, rfl, fun a ha hlow => (honset _ _ _ _ _).2 a ha hlow⟩
  · split
    · rw [uOnset_uin, uOnset_image, (honset _ _ _ _ _).1]
      exact ⟨rfl, rfl, rfl, rfl, fun a ha hlow => (honset _ _ _ _ _).2 a ha hlow⟩
    · exact ⟨rfl, rfl, rfl, rfl, fun _ _ _ => rfl⟩

/-- A faulty channel step releases its fault. -/
theorem uChanEnd_fault {d : Dev} {m n rloop : Nat} {checks : BitVec 4} (hdiag : (d.scan m).diag = false)
    (h : d.uCheck m n rloop checks ≠ 0) :
    ∃ v, d.uChanEnd m n rloop checks = (d.uExcFlags m n checks).uRelease n (d.uCheck m n rloop checks) v := by
  simp only [Dev.uChanEnd, hdiag, if_neg h, Bool.false_eq_true, if_false]
  exact ⟨_, rfl⟩

/-- A good channel step in the VOLT mode releases its value, clipped. -/
theorem uChanEnd_volt {d : Dev} {m n rloop : Nat} {checks : BitVec 4} (hdiag : (d.scan m).diag = false)
    (h : d.uCheck m n rloop checks = 0) (hmode : (d.urec n).mode = 3) :
    d.uChanEnd m n rloop checks = (d.uExcFlags m n checks).uRelease n
      (clipRange (uRange (d.urec n)).1 (uRange (d.urec n)).2 (voltOut (d.urec n).subtype (d.scan m).code)).1
      (clipRange (uRange (d.urec n)).1 (uRange (d.urec n)).2 (voltOut (d.urec n).subtype (d.scan m).code)).2 := by
  obtain ⟨-, -, himage, -, -⟩ := uExcFlags_spec d m n checks
  have hrec : (d.uExcFlags m n checks).urec n = d.urec n := by rw [Dev.urec, himage, ← Dev.urec]
  have hvalue : (d.uExcFlags m n checks).uValue n (d.scan m).code (d.scan m).lcode =
      some (voltOut (d.urec n).subtype (d.scan m).code) := by simp [Dev.uValue, hrec, hmode]
  simp only [Dev.uChanEnd, hdiag, h, hvalue, hrec, Bool.false_eq_true, if_false, if_true]

theorem clipRange_le (lo hi x : Int) : (clipRange lo hi x).1 ≤ 2 := by
  unfold clipRange
  split
  · exact Nat.le_succ 1
  · split
    · exact Nat.le_refl 2
    · exact Nat.zero_le 2

/-- What the post-check of a channel's step does before the next step. -/
theorem uPostEnd_chan {d : Dev} {m n : Nat} (hphase : (d.scan m).phase = 5) (hkind : (stepNow d m).kind = 0)
    (hchan : (stepNow d m).chan = n) (rloop : Nat) (checks : BitVec 4) :
    d.uPostEnd m rloop checks =
      (if (d.scan m).drop then d.uDiscard m else d.uChanEnd m n rloop checks).uNext m := by
  have hkind' : ((d.uconv m).stepAt (d.scan m).step).kind = 0 := hkind
  have hchan' : ((d.uconv m).stepAt (d.scan m).step).chan = n := hchan
  simp [Dev.uPostEnd, hphase, hkind', hchan']

/-- The next step, after a post-check that leaves the scans. -/
theorem uNext_after {d e : Dev} {m : Nat} (hscans : e.uin.scans = d.uin.scans) (himage : e.image = d.image)
    (hmode : (d.uconv m).mode = 2) (hstep : (d.scan m).step + 1 ≠ (d.uconv m).len) :
    e.uNext m = e.setScan m (fun s => { s with phase := 0 }) := by
  apply uNext_scheduled
  · rw [Dev.uconv, himage]
    exact hmode
  · rw [Dev.scan, hscans, Dev.uconv, himage]
    exact hstep

theorem phase_setScan_zero {e : Dev} {m : Nat} (hm : m < e.uin.scans.length) :
    ((e.setScan m (fun s => { s with phase := 0 })).scan m).phase = 0 := by rw [scan_setScan_same e _ hm]

/-- The scan's status lies apart from the channels' registers and the counts. -/
theorem uin_scstat {m n : Nat} (hm : m < 4) (hn : n < 48) : R.UIN_STS n ≠ R.UIN_SCSTAT m ∧ R.UIN_VAL n ≠ R.UIN_SCSTAT m ∧
    R.UIN_SCCNT m ≠ R.UIN_SCSTAT m ∧ R.UIN_STS n ≠ R.UIN_SCCNT m ∧ R.UIN_VAL n ≠ R.UIN_SCCNT m ∧
    R.UIN_STS n ≠ R.UIN_STAT ∧ R.UIN_VAL n ≠ R.UIN_STAT := by
  simp only [R.UIN_STS, R.UIN_VAL, R.UIN_SCSTAT, R.UIN_SCCNT, R.UIN_STAT]
  omega

/-- Settles O19: a post-check releases a fault's status or a value's, or counts a discarded step; the next step changes
the scan alone. -/
theorem postcheckReleases : Obligations.PostcheckReleases := by
  unfold Obligations.PostcheckReleases
  intro s m rloop n checks hup hshape hn hphase hkind hchan hdiag hmode hstep
  have hm := scans_lt hshape m
  have hin : n < s.dev.uin.chans.length := by rw [hshape.2]; exact hn
  obtain ⟨hsts, hval, hcnt, hstscnt, hvalcnt, hstsstat, hvalstat⟩ := uin_scstat m.isLt hn
  obtain ⟨-, -, -, -, -, hslow, hvlow⟩ := uin_sts_val hn hn
  obtain ⟨hchans, hscans, himage, hclk, hrd⟩ := uExcFlags_spec s.dev m.val n checks
  have hpost := uPostEnd_chan hphase hkind hchan rloop checks
  refine ⟨fun hdrop hfault => ?_, fun hdrop hgood hvolt => ?_, fun hdrop => ?_⟩
  all_goals
    refine completes_of_up hup (f := fun d => d.uPostEnd m.val rloop checks) rfl ?_
    rw [hpost, hdrop]
  · obtain ⟨v, hend⟩ := uChanEnd_fault hdiag hfault
    obtain ⟨hstatus, hvalue, hchan', hscans', himage'⟩ := uRelease_fault_spec (s.dev.uExcFlags m.val n checks) hn
      (s.dev.uCheck m.val n rloop checks) v (uCheck_fault hfault)
    rw [if_neg Bool.false_ne_true, hend, uNext_after (hscans'.trans hscans) (himage'.trans himage) hmode hstep]
    rw [rdF_congr (rd_setScan_other _ _ hsts), rd_setScan_other _ _ hval, chans_setScan, hchan', hchans]
    refine ⟨hstatus, hvalue.trans (hrd _ hvalstat hvlow), ?_, ?_, phase_setScan_zero (by rw [hscans', hscans]; exact hm)⟩
    · rw [List.getElem?_eq_getElem hin]
      rfl
    · rw [List.getElem?_eq_getElem hin]
      rfl
  · obtain ⟨hstatus, hvalue, hrel, hscans', himage'⟩ := uRelease_value_spec (s.dev.uExcFlags m.val n checks) hn _
      (clipRange (uRange (s.dev.urec n)).1 (uRange (s.dev.urec n)).2
        (voltOut (s.dev.urec n).subtype (s.dev.scan m.val).code)).2
      (clipRange_le (uRange (s.dev.urec n)).1 (uRange (s.dev.urec n)).2
        (voltOut (s.dev.urec n).subtype (s.dev.scan m.val).code))
    rw [if_neg Bool.false_ne_true, uChanEnd_volt hdiag hgood hvolt,
      uNext_after (hscans'.trans hscans) (himage'.trans himage) hmode hstep]
    refine ⟨?_, ?_, ?_, phase_setScan_zero (by rw [hscans', hscans]; exact hm)⟩
    · rw [rdF_congr (rd_setScan_other _ _ hsts)]
      exact hstatus
    · rw [rd_setScan_other _ _ hval]
      exact hvalue
    · rw [chans_setScan, hrel, hchans, hclk, List.getElem?_eq_getElem hin]
      rfl
  · rw [if_pos rfl, uNext_after (d := s.dev) (e := s.dev.uDiscard m.val) rfl rfl hmode hstep]
    refine ⟨?_, ?_, ?_, rfl, phase_setScan_zero (e := s.dev.uDiscard m.val) hm⟩
    · rw [rd_setScan_other _ _ hsts]
      exact rd_wrF_other _ _ _ _ _ hstscnt
    · rw [rd_setScan_other _ _ hval]
      exact rd_wrF_other _ _ _ _ _ hvalcnt
    · rw [rdF_congr (rd_setScan_other _ _ hcnt)]
      exact rdF_incF s.dev _ F.UIN_SCCNT_DROPS (by decide)

end Sys2Proof.Machine
end

section
/-!
PROOFS. Charge channels (chapter 05): the first maximum, the windows, the test sequence, sampling and ranges.
-/
namespace Sys2Proof.Machine

/-! Single bits of a mask -/

/-- Adding the power of an unset bit sets that bit alone. -/
theorem testBit_add_two_pow {n i : Nat} (h : n.testBit i = false) (k : Nat) :
    (n + 2 ^ i).testBit k = (n.testBit k || k == i) := by
  have hlow : n % 2 ^ (i + 1) < 2 ^ i := by
    have hdiv := Nat.testBit_eq_decide_div_mod_eq ▸ h
    have hsplit : n % 2 ^ (i + 1) = n % 2 ^ i + 2 ^ i * (n / 2 ^ i % 2) := by rw [Nat.pow_succ, Nat.mod_mul]
    have hbit : n / 2 ^ i % 2 = 0 := by
      have := of_decide_eq_false hdiv
      omega
    rw [hsplit, hbit, Nat.mul_zero, Nat.add_zero]
    exact Nat.mod_lt n (Nat.two_pow_pos i)
  have hlow' : 2 ^ i + n % 2 ^ (i + 1) < 2 ^ (i + 1) := by
    have hpow := Nat.pow_succ (n := 2) (m := i)
    omega
  have hn := Nat.div_add_mod n (2 ^ (i + 1))
  have hn' : n + 2 ^ i = 2 ^ (i + 1) * (n / 2 ^ (i + 1)) + (2 ^ i + n % 2 ^ (i + 1)) := by omega
  have hset := Nat.testBit_two_pow_mul_add (n / 2 ^ (i + 1)) hlow' k
  have hold := Nat.testBit_two_pow_mul_add (n / 2 ^ (i + 1)) (Nat.mod_lt n (Nat.two_pow_pos (i + 1))) k
  rw [← hn'] at hset
  rw [hn] at hold
  rw [hset, hold]
  rcases Nat.lt_trichotomy k i with hlt | rfl | hgt
  · rw [if_pos (by omega), if_pos (by omega), Nat.testBit_two_pow_add_gt hlt, beq_false_of_ne (by omega), Bool.or_false]
  · rw [if_pos (by omega), Nat.testBit_two_pow_add_eq, Nat.testBit_lt_two_pow hlow, beq_self_eq_true, Bool.or_true]
    rfl
  · rw [if_neg (by omega), if_neg (by omega), beq_false_of_ne (by omega), Bool.or_false]

/-- A bit put into a mask reads back, and every other bit stays. -/
theorem bitOf_putBit (n i : Nat) (b : Bool) (k : Nat) : bitOf (putBit n i b) k = if k = i then b else bitOf n k := by
  unfold putBit
  simp only [bitOf_eq_testBit]
  cases hi : n.testBit i <;> cases b <;> simp only [Bool.false_eq_true, if_false, if_true]
  case false.false => split <;> simp_all
  case false.true =>
    rw [testBit_add_two_pow hi]
    split <;> simp_all
  case true.true => split <;> simp_all
  case true.false =>
    have hle : 2 ^ i ≤ n := Nat.ge_two_pow_of_testBit hi
    have hback : n - 2 ^ i + 2 ^ i = n := by omega
    have hclear : (n - 2 ^ i).testBit i = false := by
      have h := Nat.testBit_two_pow_add_eq (n - 2 ^ i) i
      rw [Nat.add_comm, hback, hi] at h
      simpa using h.symm
    have hothers := testBit_add_two_pow hclear k
    rw [hback] at hothers
    split
    case isTrue h => rw [h, hclear]
    case isFalse h => rw [hothers, beq_false_of_ne h, Bool.or_false]

/-! The first maximum (R150) -/

theorem firstMax_append_singleton (l : List Int) (hl : l ≠ []) (x : Int) :
    firstMax (l ++ [x]) = if x > (firstMax l).1 then (x, l.length) else firstMax l := by
  have hzip : List.zip (l ++ [x]) (List.range (l ++ [x]).length) = List.zip l (List.range l.length) ++ [(x, l.length)] := by
    rw [List.length_append, List.length_singleton, List.range_succ, List.zip_append (by simp)]
    rfl
  have hhead : (l ++ [x]).headD 0 = l.headD 0 := by
    cases l with
    | nil => exact absurd rfl hl
    | cons y t => rfl
  unfold firstMax
  rw [hzip, hhead, List.foldl_append]
  rfl

/-- The first maximum is a largest value, at the first place that has it. -/
structure IsFirstMax (l : List Int) (m : Int × Nat) : Prop where
  place : l[m.2]? = some m.1
  largest : ∀ x ∈ l, x ≤ m.1
  first : ∀ k, k < m.2 → ∀ x, l[k]? = some x → x < m.1

/-- By induction from the last value on: a value behind a first maximum replaces it when it is larger. -/
theorem isFirstMax_reverse (s : List Int) (hl : s.reverse ≠ []) : IsFirstMax s.reverse (firstMax s.reverse) := by
  induction s with
  | nil => exact absurd rfl hl
  | cons x s ih =>
    rw [List.reverse_cons]
    generalize s.reverse = t at ih
    by_cases ht : t = []
    · subst ht
      refine ⟨?_, fun y hy => ?_, fun k hk => ?_⟩ <;> simp_all [firstMax]
    · obtain ⟨hplace, hlargest, hfirst⟩ := ih ht
      have hin : (firstMax t).2 < t.length := (List.getElem?_eq_some_iff.1 hplace).1
      rw [firstMax_append_singleton t ht x]
      split
      case isTrue hgt =>
        refine ⟨?_, fun y hy => ?_, fun k hk y hy => ?_⟩
        · simp
        · rcases List.mem_append.1 hy with hy | hy
          · exact Int.le_of_lt (Int.lt_of_le_of_lt (hlargest y hy) hgt)
          · exact Int.le_of_eq (List.mem_singleton.1 hy)
        · rw [List.getElem?_append_left hk] at hy
          exact Int.lt_of_le_of_lt (hlargest y (List.mem_of_getElem? hy)) hgt
      case isFalse hle =>
        refine ⟨by rw [List.getElem?_append_left hin]; exact hplace, fun y hy => ?_, fun k hk y hy => ?_⟩
        · rcases List.mem_append.1 hy with hy | hy
          · exact hlargest y hy
          · exact (List.mem_singleton.1 hy) ▸ Int.not_lt.1 hle
        · rw [List.getElem?_append_left (Nat.lt_trans hk hin)] at hy
          exact hfirst k hk y hy

theorem isFirstMax_firstMax (l : List Int) (hl : l ≠ []) : IsFirstMax l (firstMax l) := by
  have h := isFirstMax_reverse l.reverse (by rwa [List.reverse_reverse])
  rwa [List.reverse_reverse] at h

/-- Settles O25: by induction on the samples from the last one on. -/
theorem peakIsTheFirstMaximum : Obligations.PeakIsTheFirstMaximum := by
  unfold Obligations.PeakIsTheFirstMaximum
  intro p hp
  obtain ⟨hplace, hlargest, hfirst⟩ := isFirstMax_firstMax p hp
  exact ⟨(List.getElem?_eq_some_iff.1 hplace).1, hplace, hlargest, hfirst⟩

end Sys2Proof.Machine
end

section
namespace Sys2Proof.Machine

/-! The state of a channel -/

section
variable {d : Dev} {n k : Nat} (f : QChan → QChan)

theorem qc_setQc_same (hn : n < d.qch.chans.length) : (d.setQc n f).qc n = f (d.qc n) := getD_upd_same _ f _ hn

theorem qc_setQc_other (h : k ≠ n) : (d.setQc n f).qc k = d.qc k := getD_upd_other _ f _ h

@[simp] theorem length_setQc : (d.setQc n f).qch.chans.length = d.qch.chans.length := length_upd _ _ _

end

@[simp] theorem qLate_false (d : Dev) (n : Nat) : d.qLate n false = d := rfl

theorem bitOf_putBit_true (m w k : Nat) : bitOf (putBit m w true) k = (bitOf m k || k == w) := by
  rw [bitOf_putBit]
  split
  case isTrue h => simp [h]
  case isFalse h => simp [h]

theorem bitOf_putBit_false (m w k : Nat) : bitOf (putBit m w false) k = (bitOf m k && k != w) := by
  rw [bitOf_putBit]
  split
  case isTrue h => simp [h]
  case isFalse h => simp [h]

/-! Windows (R136) -/

section
variable {d : Dev} {n arg : Nat}

theorem qWinOpen_off (h : d.qOn n = false) : d.qWinOpen n arg false = d := by simp [Dev.qWinOpen, h]

theorem qWinClose_off (h : d.qOn n = false) : d.qWinClose n arg false = d := by simp [Dev.qWinClose, h]

theorem qWinOpen_again (hon : d.qOn n = true) (h : bitOf (d.qc n).win (arg % 8) = true) :
    d.qWinOpen n arg false = d.qWinErr n := by simp [Dev.qWinOpen, hon, h]

theorem qWinClose_again (hon : d.qOn n = true) (h : bitOf (d.qc n).win (arg % 8) = false) :
    d.qWinClose n arg false = d.qWinErr n := by simp [Dev.qWinClose, hon, h]

theorem qWinClose_open (hon : d.qOn n = true) (h : bitOf (d.qc n).win (arg % 8) = true) :
    d.qWinClose n arg false = d.qCloseWin n (arg % 8) := by simp [Dev.qWinClose, hon, h]

/-- A window that opens: its bit, and a QUIET window has had no release. -/
def Dev.qWinOpened (d : Dev) (n w : Nat) : Dev :=
  d.setQc n (fun c => { c with win := putBit c.win w true,
                               quietRel := if (d.qrec n).acq.kind w = 2 then false else c.quietRel })

theorem qWinOpen_plain (hon : d.qOn n = true) (h : bitOf (d.qc n).win (arg % 8) = false)
    (hkind : (d.qrec n).acq.kind (arg % 8) ≠ 1) : d.qWinOpen n arg false = d.qWinOpened n (arg % 8) := by
  simp only [Dev.qWinOpen, qLate_false, hon, h, hkind, Bool.not_true, Bool.false_eq_true, if_false]
  rfl

theorem qWinOpen_acq (hon : d.qOn n = true) (h : bitOf (d.qc n).win (arg % 8) = false)
    (hkind : (d.qrec n).acq.kind (arg % 8) = 1) :
    d.qWinOpen n arg false = ((d.qCutTest n).qWinOpened n (arg % 8)).qOpenAcq n := by
  have hrec : ((d.qCutTest n).qrec n).acq.kind (arg % 8) = 1 := hkind
  simp [Dev.qWinOpen, hon, h, hkind, Dev.qWinOpened, hrec]

end

/-- What the closing of a window does: to its channel, to the others, and to the rest of the device. -/
theorem qCloseWin_spec {d : Dev} {n : Nat} (hn : n < d.qch.chans.length) (w : Nat) :
    (d.qCloseWin n w).qc n = { d.qc n with
      win := putBit (d.qc n).win w false
      test := if (d.qc n).test.any (fun t => t.window == some w) then none else (d.qc n).test } ∧
    (∀ k, k ≠ n → (d.qCloseWin n w).qc k = d.qc k) ∧ d.qCloseWin n w = { d with qch := (d.qCloseWin n w).qch } ∧
    (d.qCloseWin n w).qch.ring = d.qch.ring ∧ (d.qCloseWin n w).qch.desc = d.qch.desc := by
  have hcut : d.qCloseWin n w = (if (d.qc n).test.any (fun t => t.window == some w) then d.qCutTest n else d).setQc n
      (fun c => { c with win := putBit c.win w false }) := by
    unfold Dev.qCloseWin
    cases (d.qc n).test <;> rfl
  rw [hcut]
  split
  · refine ⟨?_, fun k hk => ?_, rfl, rfl, rfl⟩
    · rw [qc_setQc_same _ (by rw [Dev.qCutTest, length_setQc]; exact hn), Dev.qCutTest, qc_setQc_same _ hn]
    · rw [qc_setQc_other _ hk, Dev.qCutTest, qc_setQc_other _ hk]
  · exact ⟨qc_setQc_same _ hn, fun k hk => qc_setQc_other _ hk, rfl, rfl, rfl⟩

/-- The cause of a cycle leaves its slot, its opening and the windows alone. -/
theorem qCause_spec {d : Dev} {n : Nat} (hn : n < d.qch.chans.length) (cause : Nat) :
    (d.qCause n cause).qc n = { d.qc n with cyc := (d.qc n).cyc.fail cause } ∧
    (∀ k, k ≠ n → (d.qCause n cause).qc k = d.qc k) ∧ (d.qCause n cause).qch.ring = d.qch.ring := by
  have hqch : (d.qCause n cause).qch = (d.setCyc n (QCycle.fail · cause)).qch := by
    unfold Dev.qCause
    dsimp only
    repeat' split
    all_goals simp
  have hqc : ∀ k, (d.qCause n cause).qc k = (d.setCyc n (QCycle.fail · cause)).qc k := fun k => by
    rw [Dev.qc, hqch, ← Dev.qc]
  refine ⟨(hqc n).trans (qc_setQc_same _ hn), fun k hk => (hqc k).trans (qc_setQc_other _ hk), ?_⟩
  rw [hqch]
  rfl

theorem fail_opened (x : QCycle) (cause : Nat) : (x.fail cause).opened = x.opened := by
  unfold QCycle.fail
  split <;> rfl

/-- The opening of the ACQ window moves to the next of the 32 slots of the ring. -/
theorem qOpenAcq_spec {d : Dev} {n : Nat} (hn : n < d.qch.chans.length) :
    ((d.qOpenAcq n).qc n).win = (d.qc n).win ∧ ((d.qOpenAcq n).qc n).test = (d.qc n).test ∧
    ((d.qOpenAcq n).qc n).slot = ((d.qc n).slot + 1) % 32 ∧ ((d.qOpenAcq n).qc n).cyc.opened = true ∧
    ((d.qOpenAcq n).qc n).blocked = false ∧ (∀ k, k ≠ n → (d.qOpenAcq n).qc k = d.qc k) ∧
    (d.qOpenAcq n).qch.ring = d.qch.ring := by
  have hstep : ∃ x : QCycle, x.opened = true ∧ ∃ e : Dev, d.qOpenAcq n = (if (e.qc n).selNone then e.qCause n 3 else e) ∧
      e.qch.chans.length = d.qch.chans.length ∧ (∀ k, k ≠ n → e.qc k = d.qc k) ∧ e.qch.ring = d.qch.ring ∧
      e.qc n = { d.qc n with slot := ((d.qc n).slot + 1) % 32, blocked := false, cyc := x } := by
    refine ⟨_, ?_, _, rfl, length_setQc _, fun k hk => qc_setQc_other _ hk, rfl, qc_setQc_same _ hn⟩
    split <;> rfl
  obtain ⟨x, hx, e, heq, hlen, hothers, hring, hqc⟩ := hstep
  obtain ⟨hcause, hcauses, hcausering⟩ := qCause_spec (d := e) (by rw [hlen]; exact hn) 3
  rw [heq]
  split
  · rw [hcause, hqc]
    exact ⟨rfl, rfl, rfl, (fail_opened x 3).trans hx, rfl, fun k hk => (hcauses k hk).trans (hothers k hk),
      hcausering.trans hring⟩
  · rw [hqc]
    exact ⟨rfl, rfl, rfl, hx, rfl, hothers, hring⟩

/-- Settles O22: a window's action is the window's bit in its channel, with what an opening ACQ window or a cut test adds. -/
theorem windowActions : Obligations.WindowActions := by
  unfold Obligations.WindowActions
  intro s n arg hup hlen w c opens closes
  have hn : n.val < s.dev.qch.chans.length := by rw [hlen]; exact n.isLt
  have hopen (hruns : opens = true) {e : Dev} (h : s.dev.qWinOpen n.val arg.toNat false = e) :
      exec (.winopen n arg false) s = .next (s.on e) := h ▸
    exec_of_entryRuns (f := fun d => (d.lateMark false).qWinOpen n.val arg.toNat false) rfl hup hruns
  have hclose (hruns : closes = true) {e : Dev} (h : s.dev.qWinClose n.val arg.toNat false = e) :
      exec (.winclose n arg false) s = .next (s.on e) := h ▸
    exec_of_entryRuns (f := fun d => (d.lateMark false).qWinClose n.val arg.toNat false) rfl hup hruns
  refine ⟨fun h => ?_, fun h => ?_, fun hon hopens hcloses hbit => ⟨hopen hopens (qWinOpen_again hon hbit), ?_⟩,
    fun hon hopens hcloses hbit => ⟨hclose hcloses (qWinClose_again hon hbit), fun hkind => ?_, fun hkind => ?_⟩⟩
  · cases hruns : opens with
    | false => exact exec_keeps_of_not_entryRuns (f := fun d => (d.lateMark false).qWinOpen n.val arg.toNat false) rfl hruns
    | true => exact hopen hruns (qWinOpen_off (h.resolve_right (by simp [hruns])))
  · cases hruns : closes with
    | false => exact exec_keeps_of_not_entryRuns (f := fun d => (d.lateMark false).qWinClose n.val arg.toNat false) rfl hruns
    | true => exact hclose hruns (qWinClose_off (h.resolve_right (by simp [hruns])))
  · obtain ⟨hqc, hothers, hframe, hring, hdesc⟩ := qCloseWin_spec hn w
    refine completes_of_exec_on (hclose hcloses (qWinClose_open hon hbit)) ?_
    rw [hqc]
    exact ⟨fun k => bitOf_putBit_false _ _ _, rfl, hothers, hframe, hring, hdesc⟩
  · refine completes_of_exec_on (hopen hopens (qWinOpen_plain hon hbit hkind)) ?_
    rw [show (s.dev.qWinOpened n.val w).qc n.val = _ from qc_setQc_same _ hn]
    exact ⟨fun k => bitOf_putBit_true _ _ _, rfl, fun k hk => qc_setQc_other _ hk, rfl, rfl, rfl⟩
  · have hcut : (s.dev.qCutTest n.val).qc n.val = { s.dev.qc n.val with test := none } := qc_setQc_same _ hn
    have hncut : n.val < (s.dev.qCutTest n.val).qch.chans.length := by rw [Dev.qCutTest, length_setQc]; exact hn
    have hopened : ((s.dev.qCutTest n.val).qWinOpened n.val w).qc n.val = _ := qc_setQc_same _ hncut
    obtain ⟨hwin, htest, hslot, hcyc, hblocked, hothers, hring⟩ :=
      qOpenAcq_spec (d := (s.dev.qCutTest n.val).qWinOpened n.val w) (n := n.val)
        (by rw [Dev.qWinOpened, length_setQc]; exact hncut)
    refine completes_of_exec_on (hopen hopens (qWinOpen_acq hon hbit hkind)) ⟨fun k => ?_, ?_, ?_, hcyc, hblocked, fun k hk => ?_, ?_⟩
    · rw [hwin, hopened, hcut]
      exact bitOf_putBit_true _ _ _
    · rw [htest, hopened, hcut]
    · rw [hslot, hopened, hcut]
    · rw [hothers k hk, Dev.qWinOpened, qc_setQc_other _ hk, Dev.qCutTest, qc_setQc_other _ hk]
    · rw [hring]
      rfl

end Sys2Proof.Machine
end

section
/-!
PROOFS. The journal (chapter 11): what a commit takes, the chain of its entries, the journal's own commands.
-/
namespace Sys2Proof.Machine

/-! Lengths of byte strings -/

@[simp] theorem length_leBytes (k v : Nat) : (leBytes k v).length = k := by
  induction k generalizing v with
  | zero => rfl
  | succ k ih => simp [leBytes, ih]

@[simp] theorem length_padTo (k : Nat) (bs : List Byte) : (padTo k bs).length = k := by
  simp only [padTo, List.length_append, List.length_take, List.length_replicate]
  omega

theorem length_shaBlocks (n : Nat) {h : List Word} (hh : h.length = 8) (bs : List Byte) : (shaBlocks n h bs).length = 8 := by
  induction n generalizing h bs with
  | zero => exact hh
  | succ n ih => exact ih (by simp [shaBlock, ShaHalves.words, hh]) _

/-- A hash has 32 bytes. -/
theorem length_sha256 (m : List Byte) : (sha256 m).length = 32 := by
  have hwords (l : List Word) : (l.flatMap (fun w => beBytes 4 w.toNat)).length = 4 * l.length := by
    induction l with
    | nil => rfl
    | cons w t ih =>
      rw [List.flatMap_cons, List.length_append, ih, List.length_cons, beBytes, List.length_reverse, length_leBytes]
      omega
  rw [sha256, hwords, length_shaBlocks _ (by simp [wordsOf256])]

/-! The entries of a commit (R282, R285, R288) -/

/-- The 56 bytes of an entry before its CHAIN. -/
def entryHead (seq tick turn src kind ing deft : Nat) (payload : List Byte) : List Byte :=
  leBytes 8 seq ++ leBytes 6 tick ++ leBytes 6 turn ++ [byteOf src, byteOf kind, byteOf ing, byteOf deft] ++ padTo 32 payload

theorem length_entryHead (seq tick turn src kind ing deft : Nat) (payload : List Byte) :
    (entryHead seq tick turn src kind ing deft payload).length = 56 := by simp [entryHead]

/-- An entry has 64 bytes, the last eight of them its CHAIN. -/
theorem entryBytes_spec (seq tick turn src kind ing deft : Nat) (payload prev : List Byte) :
    (entryBytes seq tick turn src kind ing deft payload prev).length = 64 ∧
    slice (entryBytes seq tick turn src kind ing deft payload prev) 56 8 =
      (sha256 (prev ++ (entryBytes seq tick turn src kind ing deft payload prev).take 56)).take 8 := by
  have hhead := length_entryHead seq tick turn src kind ing deft payload
  have hbytes : entryBytes seq tick turn src kind ing deft payload prev = entryHead seq tick turn src kind ing deft payload
      ++ (sha256 (prev ++ entryHead seq tick turn src kind ing deft payload)).take 8 := rfl
  rw [hbytes]
  refine ⟨by simp [hhead, length_sha256], ?_⟩
  rw [slice, List.take_left' hhead, List.drop_left' hhead, List.take_take]
  rfl

/-- One entry behind those formed so far. -/
def formNext (turn next : Nat) (x : List LEntry × List Byte) (e : Entry) : List LEntry × List Byte :=
  (x.1 ++ [fromIngress turn (next + x.1.length) x.2 e], (fromIngress turn (next + x.1.length) x.2 e).chain)

/-- Entries that are numbered from `next` and chained from `prev` on. -/
structure Chained (next : Nat) (prev : List Byte) (x : List LEntry × List Byte) : Prop where
  last : x.2 = if x.1.length = 0 then prev else ((x.1[x.1.length - 1]?).map LEntry.chain).getD []
  each : ∀ (k : Nat) (e : LEntry), x.1[k]? = some e → e.seq = next + k ∧ e.bytes.length = 64 ∧
    e.chain = (sha256 ((if k = 0 then prev else ((x.1[k - 1]?).map LEntry.chain).getD []) ++ e.bytes.take 56)).take 8

theorem chained_formNext {next : Nat} {prev : List Byte} {x : List LEntry × List Byte} (h : Chained next prev x)
    (turn : Nat) (e : Entry) : Chained next prev (formNext turn next x e) := by
  obtain ⟨hlast, heach⟩ := h
  refine ⟨?_, fun k l hk => ?_⟩
  · simp [formNext]
  · simp only [formNext] at hk ⊢
    by_cases hold : k < x.1.length
    · rw [List.getElem?_append_left hold] at hk
      rw [List.getElem?_append_left (by omega)]
      exact heach k l hk
    · have hnew : k = x.1.length := by
        have := (List.getElem?_eq_some_iff.1 hk).1
        rw [List.length_append, List.length_singleton] at this
        omega
      subst hnew
      rw [List.getElem?_concat_length] at hk
      cases hk
      obtain ⟨hlen, hchain⟩ := entryBytes_spec (next + x.1.length) e.tick e.turn e.src e.kind
        ((if e.turn < turn then 0x80 else 0) + e.ing) (min 255 (turn - e.turn)) e.payload x.2
      refine ⟨rfl, hlen, hchain.trans ?_⟩
      rw [hlast]
      split
      · rfl
      · rw [List.getElem?_append_left (by omega)]
        rfl

theorem length_foldl_formNext (turn next : Nat) (taken : List Entry) (x : List LEntry × List Byte) :
    (taken.foldl (formNext turn next) x).1.length = x.1.length + taken.length := by
  induction taken generalizing x with
  | nil => rfl
  | cons e t ih =>
    rw [List.foldl_cons, ih, List.length_cons, formNext, List.length_append, List.length_singleton]
    omega

theorem chained_foldl_formNext {next : Nat} {prev : List Byte} {x : List LEntry × List Byte} (h : Chained next prev x)
    (turn : Nat) (taken : List Entry) : Chained next prev (taken.foldl (formNext turn next) x) := by
  induction taken generalizing x with
  | nil => exact h
  | cons e t ih => exact ih (chained_formNext h turn e)

/-- Without a GENESIS and a checkpoint to form, a commit's entries are the ones taken. -/
theorem formEntries_taken {d : Dev} (hgenesis : d.jrn.genesis = false) (hsigned : d.jrn.signed = []) (tick : Nat)
    (taken : List Entry) :
    d.formEntries tick taken = (taken.foldl (formNext d.turn.number d.jrn.next) ([], d.jrn.chain)).1 := by
  simp [Dev.formEntries, hgenesis, hsigned, Journal.checkpoints]
  rfl

/-! What a commit takes (R19, R20, R304) -/

theorem ingCount_eq_sum (ing : List (List Entry)) : ingCount ing = (ing.map List.length).sum := by
  rw [ingCount, List.sum_eq_foldl]

/-- Taking the head of a queue lowers the count by one. -/
theorem ingCount_tail {ing : List (List Entry)} {q : Nat} {e : Entry} (h : ingHead ing q = some e) :
    ingCount (upd ing q List.tail) + 1 = ingCount ing := by
  simp only [ingCount_eq_sum]
  induction ing generalizing q with
  | nil => cases h
  | cons x t ih =>
    cases q with
    | zero =>
      cases x with
      | nil => cases h
      | cons y s => simp [upd]; omega
    | succ q =>
      have := ih (q := q) h
      simp only [upd, List.map_cons, List.sum_cons]
      omega

theorem lt_of_ingHead {ing : List (List Entry)} {q : Nat} {e : Entry} (h : ingHead ing q = some e) : q < ing.length := by
  refine Nat.lt_of_not_le fun hge => ?_
  rw [ingHead, getD_of_length_le _ _ hge] at h
  cases h

theorem getD_of_ingHead {ing : List (List Entry)} {q : Nat} {e : Entry} (h : ingHead ing q = some e) :
    ing.getD q [] = e :: (upd ing q List.tail).getD q [] := by
  rw [getD_upd_same _ _ _ (lt_of_ingHead h)]
  obtain ⟨es, hes⟩ := List.head?_eq_some_iff.mp (show (ing.getD q []).head? = some e from h)
  rw [hes]
  rfl

/-- What the taking of entries keeps: those taken, refused and waiting, and the order in each queue. -/
structure Taking (t u : Take) : Prop where
  count : u.taken.length + u.refused + ingCount u.ing = t.taken.length + t.refused + ingCount t.ing
  queues : u.ing.length = t.ing.length
  classD : (u.ing.getD 3 []).length + u.refused ≤ (t.ing.getD 3 []).length + t.refused
  order : ∀ q, ∃ pre, t.ing.getD q [] = pre ++ u.ing.getD q []

theorem Taking.refl (t : Take) : Taking t t := ⟨rfl, rfl, Nat.le_refl _, fun _ => ⟨[], rfl⟩⟩

theorem Taking.trans {t u v : Take} (h : Taking t u) (k : Taking u v) : Taking t v :=
  ⟨k.count.trans h.count, k.queues.trans h.queues, Nat.le_trans k.classD h.classD, fun q => by
    obtain ⟨p, hp⟩ := h.order q
    obtain ⟨r, hr⟩ := k.order q
    exact ⟨p ++ r, by rw [hp, hr, List.append_assoc]⟩⟩

/-- A queue's head leaves it: the entry is taken, or refused from class D. -/
theorem taking_head {t u : Take} {q : Nat} {e : Entry} (hhead : ingHead t.ing q = some e)
    (hing : u.ing = upd t.ing q List.tail)
    (hcount : u.taken.length + u.refused = t.taken.length + t.refused + 1)
    (hrefused : u.refused = t.refused ∨ (q = 3 ∧ u.refused = t.refused + 1)) : Taking t u := by
  have htail := ingCount_tail hhead
  have hsame := getD_of_ingHead hhead
  have hother {p : Nat} (hp : p ≠ q) : u.ing.getD p [] = t.ing.getD p [] := by rw [hing, getD_upd_other _ _ _ hp]
  rw [← hing] at htail hsame
  refine ⟨by omega, by rw [hing, length_upd], ?_, fun p => ?_⟩
  · by_cases hq : q = 3
    · subst hq
      rw [hsame, List.length_cons]
      omega
    · rw [hother (Ne.symm hq)]
      omega
  · by_cases hp : p = q
    · exact ⟨[e], by rw [hp, hsame]; rfl⟩
    · exact ⟨[], by rw [hother hp]; rfl⟩

/-- The taking of entries takes at most the capacity left, and keeps what `Taking` says. -/
theorem takeEntries_spec (turn agelim free fuel k n : Nat) (t : Take) :
    Taking t (takeEntries turn agelim free fuel k n t) ∧
    (takeEntries turn agelim free fuel k n t).taken.length ≤ t.taken.length + k := by
  induction fuel generalizing k n t with
  | zero => exact ⟨Taking.refl t, Nat.le_add_right _ _⟩
  | succ fuel ih =>
    have hbehind {k' n' : Nat} {u : Take} (h : Taking t u) (hk : u.taken.length + k' ≤ t.taken.length + k) :
        Taking t (takeEntries turn agelim free fuel k' n' u) ∧
        (takeEntries turn agelim free fuel k' n' u).taken.length ≤ t.taken.length + k :=
      ⟨h.trans (ih k' n' u).1, Nat.le_trans (ih k' n' u).2 hk⟩
    unfold takeEntries
    split
    case isTrue => exact ⟨Taking.refl t, Nat.le_add_right _ _⟩
    case isFalse hk =>
      split
      case h_1 => exact ⟨Taking.refl t, Nat.le_add_right _ _⟩
      case h_2 q hq =>
        split
        case h_1 => exact ⟨Taking.refl t, Nat.le_add_right _ _⟩
        case h_2 e he =>
          dsimp only
          split
          case isTrue hq3 =>
            split
            · exact hbehind (taking_head he rfl (by simp; omega) (.inl rfl)) (by simp; omega)
            · exact hbehind (taking_head he rfl (by simp; omega) (.inr ⟨hq3, rfl⟩)) (by simp)
          case isFalse =>
            split
            · exact hbehind (taking_head he rfl (by simp; omega) (.inl rfl)) (by simp; omega)
            · exact hbehind ⟨rfl, rfl, Nat.le_refl _, fun _ => ⟨[], rfl⟩⟩ (by simp)

/-- With room for the capacity left, a class A entry that still waits means that only class A was taken. -/
theorem takeEntries_classA {turn agelim free fuel k n : Nat} {t : Take} (hfree : n + k + 16 ≤ free)
    (hwaits : t.waits = false) (hfuel : (t.ing.getD 0 []).length ≤ fuel)
    (hleft : (takeEntries turn agelim free fuel k n t).ing.getD 0 [] ≠ []) :
    (takeEntries turn agelim free fuel k n t).taken = t.taken ++ (t.ing.getD 0 []).take k := by
  induction fuel generalizing k n t with
  | zero =>
    have hnil : t.ing.getD 0 [] = [] := List.eq_nil_of_length_eq_zero (by omega)
    exact absurd hnil hleft
  | succ fuel ih =>
    cases k with
    | zero => simp [takeEntries]
    | succ k =>
      cases hA : t.ing.getD 0 [] with
      | nil =>
        obtain ⟨pre, hpre⟩ := (takeEntries_spec turn agelim free (fuel + 1) (k + 1) n t).1.order 0
        rw [hA] at hpre
        exact absurd (List.append_eq_nil_iff.1 hpre.symm).2 hleft
      | cons e es =>
        have hhead : ingHead t.ing 0 = some e := by rw [ingHead, hA]; rfl
        have hnext : nextIngress t.ing turn agelim t.waits = some 0 := by simp [nextIngress, hwaits, hhead]
        have hrest : (upd t.ing 0 List.tail).getD 0 [] = es := by
          have := getD_of_ingHead hhead
          rw [hA] at this
          exact (List.cons.inj this).2.symm
        have hstep : takeEntries turn agelim free (fuel + 1) (k + 1) n t = takeEntries turn agelim free fuel k (n + 1)
            { t with taken := t.taken ++ [e], ing := upd t.ing 0 List.tail } := by
          conv => lhs; unfold takeEntries
          simp [hnext, hhead]
          omega
        rw [hA, List.length_cons] at hfuel
        rw [hstep] at hleft ⊢
        have hgo := ih (k := k) (n := n + 1) (t := { t with taken := t.taken ++ [e], ing := upd t.ing 0 List.tail })
          (by omega) hwaits (by rw [hrest]; omega) hleft
        rw [hgo, hrest, List.append_assoc]
        rfl

/-- Settles O37: what a commit takes, by induction on its fuel; its entries, by induction on those taken. -/
theorem commitOrderAndChain : Obligations.CommitOrderAndChain := by
  unfold Obligations.CommitOrderAndChain
  refine ⟨fun ing turn agelim free k hlen => ?_, fun d tick taken hgenesis hsigned => ?_⟩
  · intro t
    obtain ⟨⟨hcount, hqueues, hclassD, horder⟩, hk⟩ :=
      takeEntries_spec turn agelim free (ingCount ing + 1) k 0 ⟨[], [], ing, 0, false, false⟩
    refine ⟨by simpa using hk, by simpa using hcount, by rw [hqueues, hlen], by simpa using hclassD,
      fun q _ => horder q, fun hfree hleft => ?_⟩
    have hfuel : (ing.getD 0 []).length ≤ ingCount ing + 1 := by
      cases ing with
      | nil => cases hlen
      | cons x s => simp [ingCount_eq_sum]; omega
    exact takeEntries_classA (by omega) rfl hfuel hleft
  · intro es
    have hes : es = (taken.foldl (formNext d.turn.number d.jrn.next) ([], d.jrn.chain)).1 :=
      formEntries_taken hgenesis hsigned tick taken
    rw [hes]
    refine ⟨by simp [length_foldl_formNext], fun k e hk => ?_⟩
    exact (chained_foldl_formNext ⟨rfl, fun _ _ h => by cases h⟩ d.turn.number taken).each k e hk

end Sys2Proof.Machine
end
section
namespace Sys2Proof.Machine

/-! Pending words of a register's low bits (R43) -/

theorem toNat_and_lowMask (w : Word) {k : Nat} (hk : k ≤ 32) :
    (w &&& BitVec.ofNat 32 (2 ^ k - 1)).toNat = w.toNat % 2 ^ k := by
  have hpow : 2 ^ k ≤ 2 ^ 32 := Nat.pow_le_pow_right (by decide) hk
  have hpos := Nat.two_pow_pos k
  rw [BitVec.toNat_and, BitVec.toNat_ofNat, Nat.mod_eq_of_lt (by omega), Nat.and_two_pow_sub_one_eq_mod]

theorem and_lowMask {v k : Nat} (hk : k ≤ 32) (hv : v < 2 ^ k) :
    BitVec.ofNat 32 v &&& BitVec.ofNat 32 (2 ^ k - 1) = BitVec.ofNat 32 v := by
  have hpow : 2 ^ k ≤ 2 ^ 32 := Nat.pow_le_pow_right (by decide) hk
  apply BitVec.eq_of_toNat_eq
  rw [toNat_and_lowMask _ hk, BitVec.toNat_ofNat, Nat.mod_eq_of_lt (by omega : v < 2 ^ 32), Nat.mod_eq_of_lt hv]

/-- Low bits that differ from a register's differ under their mask. -/
theorem lowMask_differs {d : Dev} {a k v : Nat} (hk : k ≤ 32) (hv : v < 2 ^ k) (hnew : d.rdF a ⟨0, k⟩ ≠ v) :
    ¬ BitVec.ofNat 32 v &&& BitVec.ofNat 32 (2 ^ k - 1) = d.rd a &&& BitVec.ofNat 32 (2 ^ k - 1) := fun h => by
  rw [and_lowMask hk hv] at h
  have hnat := congrArg BitVec.toNat h
  rw [toNat_and_lowMask _ hk, BitVec.toNat_ofNat,
    Nat.mod_eq_of_lt (Nat.lt_of_lt_of_le hv (Nat.pow_le_pow_right (by decide) hk))] at hnat
  apply hnew
  rw [Dev.rdF, getF, hnat, Nat.pow_zero, Nat.div_one]

/-! The journal's own commands (R290, R294, R295, R302, R303) -/

section
variable (d : Dev)

theorem drain_nil {d : Dev} (h : d.jrn.wbuf = []) : d.drain = d := by simp only [Dev.drain, h]

theorem drain_cons {d : Dev} {e : LEntry} {es : List LEntry} (h : d.jrn.wbuf = e :: es) :
    d.drain = d.setJrn (fun j => { j with
      wbuf := es, ledger := (e :: j.ledger).take ringSlots, replay := noteReplay j.replay e
      sealed := if j.wthru then j.sealed else none }) := by simp only [Dev.drain, h]

/-- A drain leaves the journal's numbering, its chain and the registers. -/
theorem drain_keeps : d.drain.jrn.next = d.jrn.next ∧ d.drain.jrn.chain = d.jrn.chain ∧ d.drain.regs = d.regs := by
  unfold Dev.drain
  split <;> exact ⟨rfl, rfl, rfl⟩

/-- As many drains as there are entries empty the write buffer into the ledger. -/
theorem foldl_drain {α : Type} (l : List α) (d : Dev) (hlen : l.length = d.jrn.wbuf.length) :
    let e := l.foldl (fun d _ => d.drain) d
    e.jrn.wbuf = [] ∧ e.jrn.next = d.jrn.next ∧ e.jrn.chain = d.jrn.chain ∧ e.regs = d.regs ∧
    e.jrn.ledger = (d.jrn.wbuf.reverse ++ d.jrn.ledger).take (if d.jrn.wbuf = [] then d.jrn.ledger.length else ringSlots) := by
  induction l generalizing d with
  | nil =>
    have hnil : d.jrn.wbuf = [] := List.eq_nil_of_length_eq_zero hlen.symm
    simp [hnil]
  | cons x t ih =>
    cases hw : d.jrn.wbuf with
    | nil => rw [hw] at hlen; cases hlen
    | cons e es =>
      obtain ⟨hnext, hchain, hregs⟩ := drain_keeps d
      have hdrain := drain_cons hw
      have hwbuf : d.drain.jrn.wbuf = es := by rw [hdrain]; rfl
      have hledger : d.drain.jrn.ledger = (e :: d.jrn.ledger).take ringSlots := by rw [hdrain]; rfl
      obtain ⟨hempty, hn, hc, hr, hl⟩ := ih d.drain (by rw [hwbuf]; rw [hw] at hlen; exact Nat.succ.inj hlen)
      refine ⟨hempty, hn.trans hnext, hc.trans hchain, hr.trans hregs, hl.trans ?_⟩
      rw [hwbuf, hledger, if_neg (List.cons_ne_nil e es), List.reverse_cons, List.append_assoc]
      by_cases hes : es = []
      · subst hes
        rw [if_pos rfl]
        exact List.take_length
      · rw [if_neg hes, List.singleton_append, List.take_append, List.take_append, List.take_take]
        rw [Nat.min_eq_left (Nat.sub_le _ _)]

end

/-- The seal's write: every accepted entry is in the ledger, and the seal holds the next SEQ and the chain. -/
theorem sealWrite_spec (d : Dev) (us : BitVec 10) :
    (d.sealWrite us).jrn.wbuf = [] ∧ (d.sealWrite us).jrn.sealed.map Seal.head = some d.jrn.next ∧
    (d.sealWrite us).jrn.sealed.map Seal.chain = some d.jrn.chain ∧
    (d.sealWrite us).jrn.ledger =
      (d.jrn.wbuf.reverse ++ d.jrn.ledger).take (if d.jrn.wbuf = [] then d.jrn.ledger.length else ringSlots) ∧
    (d.sealWrite us).rdF R.JRN_FLUSH F.JRN_FLUSH_LAST = us.toNat ∧ (d.sealWrite us).jrn.next = d.jrn.next := by
  obtain ⟨hempty, hnext, hchain, -, hledger⟩ := foldl_drain (List.range d.jrn.wbuf.length) d List.length_range
  refine ⟨hempty, congrArg some hnext, congrArg some hchain, hledger, ?_, hnext⟩
  exact rdF_wrF_of_lt _ _ _ (by decide) us.isLt

theorem checkpointSigned_holder {d : Dev} {seg : Nat × Nat} {segs : List (Nat × Nat)} (hholder : d.holder = true)
    (h : d.jrn.unsigned = seg :: segs) :
    d.checkpointSigned = d.setJrn (fun j => { j with unsigned := segs, signed := j.signed ++ [seg] }) := by
  simp only [Dev.checkpointSigned, hholder, if_true, h]

/-- One entry that is due goes behind Q48's others. -/
theorem exportOne_spec {d : Dev} {e : LEntry} (hexports : d.exports = true) (hdue : d.jrn.exported < d.exportEnd)
    (hentry : d.jrn.entryAt d.jrn.exported = some e) (hroom : (d.queue 48).length < 1536)
    (hqueues : d.queues.q.length = 64) :
    (d.exportOne.queue 48).map QElem.bytes = (d.queue 48).map QElem.bytes ++ [padTo 64 e.bytes] ∧
    d.exportOne.jrn = { d.jrn with exported := d.jrn.exported + 1 } := by
  have hhas : d.hasRoom 48 = true := decide_eq_true hroom
  have hone : d.exportOne = ((d.push 48 e.bytes none).setJrn (fun j => { j with exported := j.exported + 1 })).raiseIf
      (d.queue 48).isEmpty 157 := by
    simp only [Dev.exportOne, hexports, hdue, hhas, and_self, if_true, hentry]
  have hqueue : d.exportOne.queue 48 = d.queue 48 ++ [d.elem (padTo 64 e.bytes) none] := by
    rw [hone, Dev.raiseIf]
    have hpush : (d.push 48 e.bytes none).queue 48 = d.queue 48 ++ [d.elem (padTo 64 e.bytes) none] := by
      rw [push_of_room e.bytes none hroom]
      exact queue_setQueue_same d _ (by omega)
    split
    · exact (queue_raise_other _ 157 (by decide)).trans hpush
    · exact hpush
  refine ⟨?_, by rw [hone]; simp⟩
  rw [hqueue, List.map_append]
  rfl

theorem exportOne_closed {d : Dev} (h : d.exports = false) : d.exportOne = d := by simp [Dev.exportOne, h]

/-- A fold whose steps leave its start leaves it. -/
theorem foldl_of_fixed {α β : Type} {f : β → α → β} {b : β} (h : ∀ x, f b x = b) (l : List α) : l.foldl f b = b := by
  induction l with
  | nil => rfl
  | cons x t ih => rw [List.foldl_cons, h x, ih]

theorem exportAll_closed {d : Dev} (h : d.exports = false) : d.exportAll = d := foldl_of_fixed (fun _ => exportOne_closed h) _

/-- A write to a register's low bits that differs from the active ones waits with PEND. -/
theorem wbWrite_low_pends {d : Dev} {a k v : Nat} {mask : Word} (hmask : mask = BitVec.ofNat 32 (2 ^ k - 1)) (hk : k ≤ 32)
    (hv : v < 2 ^ k) (hnew : d.rdF a ⟨0, k⟩ ≠ v) (sess : Nat) :
    (d.wbWrite a mask (BitVec.ofNat 32 v) sess).wbWord a = some (BitVec.ofNat 32 v) ∧
    (d.wbWrite a mask (BitVec.ofNat 32 v) sess).rd a = (d.wrF a ⟨31, 1⟩ 1).rd a := by
  subst hmask
  obtain ⟨hpend, hrd⟩ := wbWrite_pends d a (fun h => lowMask_differs hk hv hnew h.2) sess
  rw [and_lowMask hk hv] at hpend
  exact ⟨hpend, hrd⟩

/-- A confirmation that differs from the active one waits for the sample latch. -/
theorem expackWrite_waits {d : Dev} {lo : BitVec 30} (hholder : d.holder = true)
    (hnew : d.rdF R.JRN_EXPACK F.JRN_EXPACK_SEQLO ≠ lo.toNat) (sess : Nat) :
    (d.expackWrite sess (BitVec.ofNat 32 lo.toNat)).wbWord R.JRN_EXPACK = some (BitVec.ofNat 32 lo.toNat) ∧
    (d.expackWrite sess (BitVec.ofNat 32 lo.toNat)).jrn = d.jrn := by
  have hdiffers : ¬ BitVec.ofNat 32 lo.toNat &&& expackMask = d.rd R.JRN_EXPACK &&& expackMask :=
    lowMask_differs (k := 30) (by decide) lo.isLt hnew
  have hwrite : d.expackWrite sess (BitVec.ofNat 32 lo.toNat) =
      d.wbWrite R.JRN_EXPACK expackMask (BitVec.ofNat 32 lo.toNat) sess := by
    simp only [Dev.expackWrite, hholder, Bool.not_true, Bool.false_eq_true, if_false, if_neg (fun h => hdiffers (And.right h))]
  rw [hwrite]
  exact ⟨(wbWrite_low_pends (k := 30) rfl (by decide) lo.isLt hnew sess).1, by simp⟩

theorem expackWrite_standby {d : Dev} (h : d.holder = false) (sess : Nat) (v : Word) : d.expackWrite sess v = d := by
  simp [Dev.expackWrite, h]

/-- Settles O36: each command is one operation of the journal, whose equation says what it does. -/
theorem journalCommands : Obligations.JournalCommands := by
  unfold Obligations.JournalCommands
  intro s hup j
  refine ⟨fun hempty => ?_, fun e es h => ?_, fun us => ?_, fun seg segs h => ⟨fun hholder => ?_, fun hholder => ?_⟩,
    fun e hholder hnext hdue hentry hroom hqueues => ?_, fun h => ?_, fun lo => ⟨fun h => ?_, fun hholder _ hnew => ?_⟩,
    exec_of_up hup rfl rfl, exec_of_up hup rfl rfl, exec_of_up hup rfl rfl, exec_of_up hup rfl rfl, exec_of_up hup rfl rfl⟩
  · exact exec_keeps (f := fun d => d.drain) rfl (drain_nil hempty)
  · refine completes_of_up hup (f := fun d => d.drain) rfl ?_
    rw [drain_cons h]
    exact ⟨rfl, rfl, rfl, rfl, rfl, rfl⟩
  · exact completes_of_up hup (f := fun d => d.sealWrite us) rfl (sealWrite_spec s.dev us)
  · refine completes_of_up hup (f := fun d => d.checkpointSigned) rfl ?_
    rw [checkpointSigned_holder hholder h]
    exact ⟨rfl, rfl, rfl⟩
  · exact exec_keeps (f := fun d => d.checkpointSigned) rfl (by simp [Dev.checkpointSigned, hholder])
  · have hall : s.dev.exportAll = s.dev.exportOne := by
      have hcount : min (queueDepth 48) (s.dev.jrn.next - s.dev.jrn.exported) = 1 := by
        have : s.dev.jrn.next = s.dev.jrn.exported + 1 := hnext
        rw [this, Nat.add_sub_cancel_left]
        rfl
      rw [Dev.exportAll, hcount]
      rfl
    refine completes_of_up hup (f := fun d => d.exportAll) rfl ?_
    obtain ⟨hbytes, hjrn⟩ := exportOne_spec (d := s.dev) (by simp [Dev.exports, hholder])
      (by simpa [Dev.exportEnd, hholder] using hdue) hentry hroom hqueues
    rw [hall, hjrn]
    exact ⟨hbytes, rfl, rfl, rfl⟩
  · exact exec_keeps (f := fun d => d.exportAll) rfl (exportAll_closed h)
  · exact exec_keeps (f := fun d => d.expackWrite 0 (BitVec.ofNat 32 lo.toNat)) rfl (expackWrite_standby h _ _)
  · exact completes_of_up hup (f := fun d => d.expackWrite 0 (BitVec.ofNat 32 lo.toNat)) rfl (expackWrite_waits hholder hnew 0)

end Sys2Proof.Machine
end

section
/-!
PROOFS. The lattice and the belfry (chapters 09 and 10): the parts of the turn in hand, the counts and the belfry's steps.
-/
namespace Sys2Proof.Machine

/-! Parts of the turn in hand -/

section
variable {d : Dev} {r : TurnRun} {part : EvalState → EvalState → EvalState}

theorem evalPart_idle (h : d.turn.run = none) : d.evalPart part = d := by simp only [Dev.evalPart, h]

theorem evalPart_stopped (h : d.turn.run = some r) (hstop : r.held = true ∨ r.phase = .overrun) : d.evalPart part = d := by
  simp only [Dev.evalPart, h, hstop, if_true]

theorem evalPart_runs (h : d.turn.run = some r) (hheld : r.held = false) (hphase : r.phase ≠ .overrun) :
    d.evalPart part = { d with turn := { d.turn with
      run := some { r with next := part (evaluate d.image r.inp r.last).1 r.next }
      cur := if r.phase = .completed then part (evaluate d.image r.inp r.last).1 d.turn.cur else d.turn.cur } } := by
  have hruns : ¬ (r.held = true ∨ r.phase = .overrun) := by simp [hheld, hphase]
  simp only [Dev.evalPart, h, if_neg hruns, Dev.setRun]
  split <;> simp only [Dev.setTurn, h, Option.map]

end

/-- A command that is a part's evaluation computes that part. -/
theorem computesPart_of_evalPart {c : Instr} {s : State} {part : EvalState → EvalState → EvalState} (hup : s.Up)
    (h : exec c s = .next (s.onDev (fun d => d.whenUp (fun d => d.evalPart part)))) : ComputesPart c s part := by
  refine ⟨fun hidle => exec_keeps h (evalPart_idle hidle), fun r hr => ⟨fun hstop => ?_, fun hheld hphase => ?_⟩⟩
  · exact exec_keeps h (evalPart_stopped hr hstop)
  · exact exec_of_up hup h (evalPart_runs hr hheld hphase)

/-! Counts that complete (R234, R239, R245, R258) -/

/-- Settles O34: each command is one part's evaluation; the evaluation's own steps compare a count with its limit. -/
theorem latticeCountsComplete : Obligations.LatticeCountsComplete := by
  unfold Obligations.LatticeCountsComplete
  refine ⟨fun s p k hup => computesPart_of_evalPart hup rfl, fun s p hup => computesPart_of_evalPart hup rfl,
    fun s h hup => computesPart_of_evalPart hup rfl, fun s t hup => computesPart_of_evalPart hup rfl,
    fun ck a => ⟨fun h => ?_, fun hr hc => ?_, fun hr hc => ?_⟩, fun r turn x => ⟨fun h => ?_, fun hwin hturn hq href => ?_,
    fun hwin hturn hq => ?_⟩, fun img h turn t x htimeout hst => ?_, fun pt t => ⟨fun h => ?_, fun h => ?_, ?_, ?_⟩⟩
  · simp [delayStep, h]
  · simp [delayStep, hr, hc]
  · simp [delayStep, hr, hc]
  · simp only [Machine.rateWindow, h, if_true]
  · simp [Machine.rateWindow, hwin, hturn, hq, href, qV]
  · simp [Machine.rateWindow, hwin, hturn, hq, qV]
  · have hst3 : x.status ≠ 3 := by omega
    simp only [hostStale, htimeout, HostPt.aged, if_neg hst3, hst, true_and, ge_iff_le]
    split <;> rfl
  · refine ⟨by simp [timerStep, Nat.not_lt.2 h], ?_⟩
    cases hq : t.q <;> simp [timerStep, hq, Nat.not_lt.2 h]
  · exact ⟨by simp [timerStep, h], by simp [timerStep, h], fun hq => ⟨by simp [timerStep, hq, h], by simp [timerStep, hq, h]⟩⟩
  · simp [timerStep]
  · simp [timerStep]

/-! The belfry's steps (R261 to R269) -/

/-- A chain that calls, with its trigger standing: a station accepts it, or its stage's time counts. -/
theorem chainStep_calling {r : ChainRec} {tv : Int} {x : Chain} (hst : x.st = 1) :
    (∀ station src, (chainStep r true tv (some (station, src)) x).2 = 3 ∧
      (chainStep r true tv (some (station, src)) x).1.st = 2 ∧
      (chainStep r true tv (some (station, src)) x).1.accst = station) ∧
    (x.stg < lastStage r → (r.stages.getD x.stg ⟨0, false, false, false, 0⟩).tmo ≠ 0 → x.cnt < 0xFFFFFF →
      (100 * (r.stages.getD x.stg ⟨0, false, false, false, 0⟩).tmo ≤ x.cnt + 1 →
        (chainStep r true tv none x).2 = 2 ∧ (chainStep r true tv none x).1.stg = x.stg + 1 ∧
        (chainStep r true tv none x).1.cnt = 0) ∧
      (x.cnt + 1 < 100 * (r.stages.getD x.stg ⟨0, false, false, false, 0⟩).tmo →
        (chainStep r true tv none x).2 = 0 ∧ (chainStep r true tv none x).1.stg = x.stg ∧
        (chainStep r true tv none x).1.cnt = x.cnt + 1)) := by
  refine ⟨fun station src => ?_, fun hstage htmo hcnt => ?_⟩
  · simp only [chainStep, hst]
    exact ⟨rfl, rfl, rfl⟩
  · have hinc : satInc 0xFFFFFF x.cnt = x.cnt + 1 := if_pos hcnt
    refine ⟨fun hdue => ?_, fun hearly => ?_⟩
    · simp only [chainStep, hst, hinc]
      rw [if_neg (by decide), if_pos trivial, if_neg (by simp), if_pos ⟨htmo, hdue, hstage⟩]
      exact ⟨rfl, rfl, rfl⟩
    · simp only [chainStep, hst, hinc]
      rw [if_neg (by decide), if_pos trivial, if_neg (by simp), if_neg (fun h => by omega)]
      exact ⟨rfl, rfl, rfl⟩

/-- An accepted chain whose trigger stands calls again after REARM. -/
theorem chainStep_rearm {r : ChainRec} (tv : Int) (acc : Option (Nat × Nat)) {x : Chain} (hst : x.st = 2)
    (hrearm : r.rearm ≠ 0) (hdue : r.rearm ≤ x.cnt + 1) :
    (chainStep r true tv acc x).2 = 4 ∧ (chainStep r true tv acc x).1.st = 1 ∧
    (chainStep r true tv acc x).1.stg = 0 ∧ (chainStep r true tv acc x).1.cnt = 0 := by
  simp only [chainStep, hst]
  rw [if_neg (by decide), if_neg (by decide), if_neg (by simp), if_pos (.inr ⟨hrearm, hdue⟩)]
  exact ⟨rfl, rfl, rfl, rfl⟩

/-- A watch that is on counts up from its reset, through PRE to EXP; one that is off stands at 0. -/
theorem watchStep_cases {wtime wpre wst wc : Nat} (hpre : wpre < wtime) (hwst : wst ≠ 0) (hwc : wc < 0xFFFFFFFF) :
    watchStep wtime wpre true true wst wc = (1, 0) ∧
    watchStep wtime wpre true false wst wc
      = (if wtime ≤ wc + 1 then 3 else if wtime - wpre ≤ wc + 1 then 2 else 1, wc + 1) ∧
    watchStep wtime wpre false false wst wc = (0, 0) := by
  have hinc : satInc 0xFFFFFFFF wc = wc + 1 := if_pos hwc
  refine ⟨?_, ?_, rfl⟩
  · have hlong : ¬ 0 ≥ wtime := by omega
    have hlate : ¬ 0 ≥ wtime - wpre := by omega
    simp [watchStep, hlong, hlate]
  · simp [watchStep, hwst, hinc]

/-- The duty goes to an engineer who exists and is present, and to nobody else. -/
theorem dutyAct_cases (img : Image) (inp : InImage) (x : Belfry × BelTurn × Acc) (e cause code : Nat) (sk : Bool)
    (minute : Nat) :
    (e < img.belf.neng → engPresent x.1 e = true → (dutyAct img inp x e cause code sk minute).1.duty = some e ∧
      (dutyAct img inp x e cause code sk minute).1.lastsrc = cause) ∧
    (img.belf.neng ≤ e ∨ engPresent x.1 e = false → (dutyAct img inp x e cause code sk minute).1 = x.1) := by
  refine ⟨fun he hpresent => ?_, fun h => ?_⟩
  · simp only [dutyAct]
    rw [if_neg (by simp [hpresent, he])]
    exact ⟨rfl, rfl⟩
  · have hrefused : e ≥ img.belf.neng ∨ ¬ engPresent x.1 e := by simpa using h
    simp only [dutyAct]
    rw [if_pos hrefused]

/-- Settles O35: each command is one part's evaluation; the evaluation's own steps are those of a chain, of the watch and
of the duty. -/
theorem belfrySteps : Obligations.BelfrySteps := by
  unfold Obligations.BelfrySteps
  refine ⟨fun s c i hup hi => ?_, fun s k i hup hi => ?_, fun s k hup => computesPart_of_evalPart hup rfl,
    fun s hup => computesPart_of_evalPart hup rfl, fun s hup => computesPart_of_evalPart hup rfl,
    fun r tv x hst => chainStep_calling hst, fun r tv acc x hst hrearm hdue => chainStep_rearm tv acc hst hrearm hdue,
    fun wtime wpre wst wc hpre hwst hwc => watchStep_cases hpre hwst hwc, dutyAct_cases, fun l minute => ?_⟩
  · rcases hi with rfl | rfl <;> exact computesPart_of_evalPart hup rfl
  · rcases hi with rfl | rfl | rfl <;> exact computesPart_of_evalPart hup rfl
  · simp only [schedTime]
    omega

end Sys2Proof.Machine
end

section
/-!
PROOFS. Feeds, resets, sleep and the ejector (chapter 19).
-/
namespace Sys2Proof.Machine

/-! Commands that act while the die is down, too -/

theorem completes_of_onDev {c : Instr} {s : State} {f : Dev → Dev} {P : Dev → Prop}
    (hexec : exec c s = .next (s.onDev f)) (hP : P (f s.dev)) : Completes c s P := ⟨s.onDev f, hexec, rfl, hP⟩

theorem exec_onDev_keeps {c : Instr} {s : State} {f : Dev → Dev} (hexec : exec c s = .next (s.onDev f))
    (hf : f s.dev = s.dev) : exec c s = .next s := by rw [hexec, State.onDev, hf]

theorem onlyRegs_trans {d e f : Dev} {as : List Nat} (h : d.OnlyRegs e as) (k : e.OnlyRegs f as) : d.OnlyRegs f as :=
  ⟨k.1.trans (by rw [h.1]), fun a ha => (k.2 a ha).trans (h.2 a ha)⟩

/-! The feeds (R487, R489) -/

/-- A bit put into a number of so many bits leaves a number of so many bits. -/
theorem putBit_lt {n i w : Nat} (hn : n < 2 ^ w) (hi : i < w) (b : Bool) : putBit n i b < 2 ^ w := by
  apply Nat.lt_pow_two_of_testBit
  intro k hk
  rw [← bitOf_eq_testBit, bitOf_putBit, if_neg (by omega), bitOf_eq_testBit]
  exact Nat.testBit_lt_two_pow (Nat.lt_of_lt_of_le hn (Nat.pow_le_pow_right (by decide) hk))

section
variable (d : Dev) (b v : Bool) {i : Nat} (k : Nat)

theorem bitOf_feed_setFeed_same (hi : i < 5) :
    bitOf ((d.setFeed b i v).feed b) k = if k = i then v else bitOf (d.feed b) k := by
  have hlt : putBit (d.feed b) i v < 2 ^ (feedField b).width := by
    have hfeed := rdF_lt d R.PWR_FEEDFLG (feedField b)
    have hwidth : (feedField b).width = 5 := by cases b <;> rfl
    rw [hwidth] at hfeed ⊢
    exact putBit_lt hfeed hi v
  have hset : (d.setFeed b i v).feed b = putBit (d.feed b) i v :=
    rdF_wrF_of_lt d _ _ (by cases b <;> decide) hlt
  rw [hset, bitOf_putBit]

theorem feed_setFeed_other : (d.setFeed b i v).feed (!b) = d.feed (!b) :=
  rdF_wrF_apart d _ _ _ (by cases b <;> decide) _

theorem onlyRegs_setFeed : d.OnlyRegs (d.setFeed b i v) [R.PWR_FEEDFLG] := onlyRegs_wr d _ _

end

/-- What a change of the ranges does to a gate: its own bit 4, and nothing else. -/
inductive GateSet (d : Dev) (b : Bool) : Dev → Prop
  | kept : GateSet d b d
  | set (v : Bool) : GateSet d b (d.setFeed b 4 v)

theorem gateSet_gateRange (before d : Dev) (b : Bool) : GateSet d b (Dev.gateRange before d b) := by
  unfold Dev.gateRange
  split
  · exact .set _
  · split
    · exact .set _
    · exact .kept

section
variable {before d e : Dev} {b : Bool}

theorem GateSet.bit (h : GateSet d b e) (c : Bool) {k : Nat} (hk : k ≠ 4) : bitOf (e.feed c) k = bitOf (d.feed c) k := by
  cases h with
  | kept => rfl
  | set v =>
    by_cases hc : c = b
    · rw [hc, bitOf_feed_setFeed_same d b v k (by decide), if_neg hk]
    · have hc' : c = !b := by cases c <;> cases b <;> simp_all
      rw [hc', feed_setFeed_other]

theorem GateSet.other (h : GateSet d b e) : e.feed (!b) = d.feed (!b) := by
  cases h with
  | kept => rfl
  | set v => exact feed_setFeed_other d b v

theorem GateSet.onlyRegs (h : GateSet d b e) : d.OnlyRegs e [R.PWR_FEEDFLG] := by
  cases h with
  | kept => exact onlyRegs_refl d _
  | set v => exact onlyRegs_setFeed d b v

theorem GateSet.gateHeld (h : GateSet d b e) (c : Bool) : e.gateHeld c = d.gateHeld c := by
  rw [Dev.gateHeld, Dev.gateHeld, h.bit _ (by decide), h.bit _ (by decide)]

/-- A feed that is held has its gate off. -/
theorem bitOf_gateRange_held (h : d.gateHeld b = true) : bitOf ((Dev.gateRange before d b).feed b) 4 = false := by
  rw [Dev.gateRange, if_pos h, bitOf_feed_setFeed_same d b false 4 (by decide), if_pos rfl]

end

/-! Events of a die that runs or starts up -/

section
variable (d : Dev)

theorem rd_raise_power (n : Nat) {a : Nat} (ha : 0x180000 ≤ a) (hn : n < 256) : (d.raise n).rd a = d.rd a :=
  rd_raise_other d n a (by simp only [R.HST_EVPEND]; omega) (by simp only [R.HST_EVPEND]; omega)
    (by simp only [R.HST_QSTAT]; omega)

theorem rd_raiseOn_power {n : Nat} (hn : n < 256) {a : Nat} (ha : 0x180000 ≤ a) : (d.raiseOn n).rd a = d.rd a := by
  unfold Dev.raiseOn
  split
  · exact rd_raise_power d n ha hn
  · rfl

theorem rd_flagOn_power_other {n x b : Nat} (hn : n < 256) {a : Nat} (ha : 0x180000 ≤ a) (hx : a ≠ x) :
    (d.flagOn x b n).rd a = d.rd a := by
  unfold Dev.flagOn
  split
  · exact (rd_raise_power _ n ha hn).trans (rd_flag_other d x b a hx)
  · rfl

/-- A flag event leaves the fields of its register below SEQ that do not hold the flag. -/
theorem rdF_flagOn_stat {n b : Nat} (hn : n < 256) {f : Field} (hseq : f.lo + f.width ≤ 24)
    (hb : f.lo + f.width ≤ b ∨ b + 1 ≤ f.lo) : (d.flagOn R.PWR_STAT b n).rdF R.PWR_STAT f = d.rdF R.PWR_STAT f := by
  unfold Dev.flagOn
  split
  · exact (rdF_congr (rd_raise_power _ n (by decide) hn) f).trans (rdF_flag_apart d _ b f hseq hb)
  · rfl

theorem rd_happenOn (e : Entry) (a : Nat) : (d.happenOn e).rd a = d.rd a := by
  unfold Dev.happenOn
  split <;> rfl

theorem evPending_happenOn (e : Entry) (n : Nat) : (d.happenOn e).evPending n = d.evPending n :=
  evPending_congr (rd_happenOn d e _)

end

theorem awake_of_up {s : State} (hup : s.Up) : s.dev.awake = true := by
  unfold State.Up at hup
  simp [Dev.awake, hup]

theorem raiseOn_awake {d : Dev} (h : d.awake = true) (n : Nat) : d.raiseOn n = d.raise n := if_pos h

theorem flagOn_awake {d : Dev} (h : d.awake = true) (a b n : Nat) : d.flagOn a b n = d.flagEv a b n := if_pos h

theorem happenOn_awake {d : Dev} (h : d.awake = true) (e : Entry) : d.happenOn e = d.happen e := if_pos h

theorem awake_setFeed (d : Dev) (b v : Bool) (i : Nat) : (d.setFeed b i v).awake = d.awake := rfl

/-- What a reverse voltage does: the gate goes off, REV sets, and EV254 tells its onset. -/
theorem diodeReverse_spec (d : Dev) (b : Bool) :
    bitOf ((d.diodeReverse b).feed b) 3 = true ∧ bitOf ((d.diodeReverse b).feed b) 4 = false ∧
    (d.diodeReverse b).feed (!b) = d.feed (!b) ∧
    (∀ k, k < 3 → bitOf ((d.diodeReverse b).feed b) k = bitOf (d.feed b) k) ∧
    (d.awake = true → bitOf (d.feed b) 3 = false → (d.diodeReverse b).evPending 254 = true) := by
  have hfeed (c : Bool) : (d.diodeReverse b).feed c = ((d.setFeed b 4 false).setFeed b 3 true).feed c := by
    unfold Dev.diodeReverse
    dsimp only
    split
    · rfl
    · exact rdF_congr (rd_raiseOn_power _ (by decide) (by decide)) _
  have hbit := bitOf_feed_setFeed_same (d.setFeed b 4 false) b true (i := 3)
  have hbit' := bitOf_feed_setFeed_same d b false (i := 4)
  simp only [hfeed]
  refine ⟨by rw [hbit 3 (by decide), if_pos rfl], ?_, ?_, fun k hk => ?_, fun hup hnew => ?_⟩
  · rw [hbit 4 (by decide), if_neg (by decide), hbit' 4 (by decide), if_pos rfl]
  · rw [feed_setFeed_other, feed_setFeed_other]
  · rw [hbit k (by decide), if_neg (by omega), hbit' k (by decide), if_neg (by omega)]
  · simp only [Dev.diodeReverse, hnew, Bool.false_eq_true, if_false]
    rw [raiseOn_awake (by rw [awake_setFeed, awake_setFeed, hup])]
    exact evPending_raise_same _ (by decide)

/-- What a change of a feed's range does: the three bits show it, a held gate is off, and a change of INRANGE has its
flag and event. -/
theorem feedRange_spec (d : Dev) (b inrange ov uv : Bool) :
    bitOf ((d.feedRange b inrange ov uv).feed b) 0 = inrange ∧ bitOf ((d.feedRange b inrange ov uv).feed b) 1 = uv ∧
    bitOf ((d.feedRange b inrange ov uv).feed b) 2 = ov ∧
    bitOf ((d.feedRange b inrange ov uv).feed b) 3 = bitOf (d.feed b) 3 ∧
    (ov = true → bitOf (d.feed (!b)) 0 = true → bitOf ((d.feedRange b inrange ov uv).feed b) 4 = false) ∧
    (d.awake = true → bitOf (d.feed b) 0 ≠ inrange →
      (d.feedRange b inrange ov uv).rdF R.PWR_STAT F.PWR_STAT_FEEDCHG = 1 ∧
      (d.feedRange b inrange ov uv).evPending 254 = true) ∧
    (bitOf (d.feed b) 0 = inrange → d.OnlyRegs (d.feedRange b inrange ov uv) [R.PWR_FEEDFLG]) := by
  have hshow : ∃ shown : Dev, shown = ((d.setFeed b 0 inrange).setFeed b 2 ov).setFeed b 1 uv := ⟨_, rfl⟩
  obtain ⟨shown, hshown⟩ := hshow
  have hA := gateSet_gateRange d shown false
  have hB := gateSet_gateRange d (Dev.gateRange d shown false) true
  have hdef : d.feedRange b inrange ov uv =
      (if bitOf (d.feed b) 0 = inrange then Dev.gateRange d (Dev.gateRange d shown false) true
       else ((Dev.gateRange d (Dev.gateRange d shown false) true).flagOn R.PWR_STAT 2 254).happenOn (sysEntry 0x0041
        [byteOf (b2n b), byteOf (d.feed b), byteOf ((Dev.gateRange d (Dev.gateRange d shown false) true).feed b)])) := by
    rw [hshown]
    rfl
  have hgate : shown.gateHeld b = (ov && bitOf (d.feed (!b)) 0) := by
    rw [Dev.gateHeld, hshown, feed_setFeed_other, feed_setFeed_other, feed_setFeed_other,
      bitOf_feed_setFeed_same _ b uv 2 (by decide), if_neg (by decide), bitOf_feed_setFeed_same _ b ov 2 (by decide),
      if_pos rfl]
  have hheld : ov = true → bitOf (d.feed (!b)) 0 = true →
      bitOf ((Dev.gateRange d (Dev.gateRange d shown false) true).feed b) 4 = false := fun hov hother => by
    have hhold : shown.gateHeld b = true := by rw [hgate, hov, hother]; rfl
    cases b with
    | true => exact bitOf_gateRange_held (by rw [hA.gateHeld, hhold])
    | false =>
      have := hB.other
      simp only [Bool.not_true] at this
      rw [this]
      exact bitOf_gateRange_held hhold
  have hbit {k : Nat} (hk : k ≠ 4) : bitOf ((Dev.gateRange d (Dev.gateRange d shown false) true).feed b) k =
      if k = 1 then uv else if k = 2 then ov else if k = 0 then inrange else bitOf (d.feed b) k := by
    rw [hB.bit b hk, hA.bit b hk, hshown, bitOf_feed_setFeed_same _ b uv k (by decide),
      bitOf_feed_setFeed_same _ b ov k (by decide), bitOf_feed_setFeed_same _ b inrange k (by decide)]
  have hregs : d.OnlyRegs (Dev.gateRange d (Dev.gateRange d shown false) true) [R.PWR_FEEDFLG] := by
    refine onlyRegs_trans (onlyRegs_trans ?_ hA.onlyRegs) hB.onlyRegs
    rw [hshown]
    exact onlyRegs_trans (onlyRegs_trans (onlyRegs_setFeed d b _) (onlyRegs_setFeed _ b _)) (onlyRegs_setFeed _ b _)
  have hpwr : (Dev.gateRange d (Dev.gateRange d shown false) true).pwr = d.pwr := by rw [hregs.1]
  generalize Dev.gateRange d (Dev.gateRange d shown false) true = e at *
  have hfeed : (d.feedRange b inrange ov uv).feed b = e.feed b := by
    rw [hdef]
    split
    · rfl
    · exact (rdF_congr (rd_happenOn _ _ _) _).trans (rdF_congr (rd_flagOn_power_other e (by decide) (by decide) (by decide)) _)
  rw [hfeed]
  refine ⟨(hbit (by decide)).trans rfl, (hbit (by decide)).trans rfl, (hbit (by decide)).trans rfl,
    (hbit (by decide)).trans rfl, hheld, fun hup hchange => ?_, fun hsame => by rw [hdef, if_pos hsame]; exact hregs⟩
  have hawake : e.awake = true := by rw [Dev.awake, hpwr]; exact hup
  rw [hdef, if_neg hchange, flagOn_awake hawake]
  refine ⟨(rdF_congr (rd_happenOn _ _ _) _).trans ((rdF_congr (rd_raise_power _ 254 (by decide) (by decide)) _).trans
    (rdF_flag_same e _ (by decide))), ?_⟩
  rw [evPending_happenOn]
  exact evPending_flagEv_same e _ _ (by decide)

/-! The VHV rail (R491) -/

/-- The pending bits and the power block's registers. -/
def IsRail (a : Nat) : Prop := (0x170040 ≤ a ∧ a < 0x170060) ∨ 0x180000 ≤ a

/-- The start-ups that VHVLOW has held back leave the pending bits and the power block alone. -/
theorem fHeld_leaves (d : Dev) : Leaves IsRail d d.fHeld := by
  refine Leaves.foldl (Leaves.refl _ _) (fun e f _ k => ?_)
  have hreg : ¬ IsRail f.reg := fun h => by
    have := isControl_range f.reg_isControl
    rcases h with h | h <;> omega
  split
  case isTrue hheld =>
    have hvhv : f.byVhv = true := by
      simp only [Bool.and_eq_true] at hheld
      exact hheld.1.1.1
    unfold Dev.fStart
    split
    · exact k
    · exact (k.trans (wrF_leaves hreg _ _ (Leaves.refl _ _))).trans
        ((fEntered_held e hvhv (by decide)).mono fun _ => .inr)
  case isFalse => exact k

theorem vhvlow_wrF (d : Dev) (low : Bool) : (d.wrF R.PWR_STAT F.PWR_STAT_VHVLOW (b2n low)).vhvlow = low := by
  rw [Dev.vhvlow, rdF_wrF_bool d _ _ (by decide) (by decide)]
  cases low <;> rfl

theorem vhvlow_congr {d e : Dev} (h : e.rd R.PWR_STAT = d.rd R.PWR_STAT) : e.vhvlow = d.vhvlow :=
  congrArg (· == 1) (rdF_congr h F.PWR_STAT_VHVLOW)

theorem vhvChange_low {d : Dev} (h : d.vhvlow = false) :
    d.vhvChange true = (d.wrF R.PWR_STAT F.PWR_STAT_VHVLOW (b2n true)).flagOn R.PWR_STAT 1 254 := by
  simp [Dev.vhvChange, h]

theorem vhvChange_good {d : Dev} (h : d.vhvlow = true) :
    d.vhvChange false = ((d.wrF R.PWR_STAT F.PWR_STAT_VHVLOW (b2n false)).raiseOn 254).fHeld := by
  simp [Dev.vhvChange, h]

/-- What a change of VHV does: VHVLOW follows it, with EV254, and its loss sets VHVSEEN. -/
theorem vhvChange_spec (d : Dev) (low : Bool) :
    (d.vhvChange low).vhvlow = low ∧ (d.awake = true → d.vhvlow ≠ low → (d.vhvChange low).evPending 254 = true) ∧
    (d.awake = true → d.vhvlow = false → low = true → (d.vhvChange low).rdF R.PWR_STAT F.PWR_STAT_VHVSEEN = 1) ∧
    (d.vhvlow = low → d.vhvChange low = d) := by
  have hset := vhvlow_wrF d low
  by_cases hsame : d.vhvlow = low
  · have hid : d.vhvChange low = d := if_pos hsame.symm
    rw [hid]
    exact ⟨hsame, fun _ h => absurd hsame h, fun _ hoff hon => by rw [hoff, hon] at hsame; exact absurd hsame (by decide),
      fun _ => rfl⟩
  · cases low with
    | true =>
      have hoff : d.vhvlow = false := by simpa using hsame
      rw [vhvChange_low hoff]
      have hawake : (d.wrF R.PWR_STAT F.PWR_STAT_VHVLOW (b2n true)).awake = d.awake := rfl
      generalize d.wrF R.PWR_STAT F.PWR_STAT_VHVLOW (b2n true) = e at hset hawake ⊢
      refine ⟨?_, fun hup _ => ?_, fun hup _ _ => ?_, fun h => absurd h hsame⟩
      · rw [← hset, Dev.vhvlow, Dev.vhvlow, rdF_flagOn_stat e (by decide) (by decide) (by decide)]
      · rw [flagOn_awake (hawake.trans hup)]
        exact evPending_flagEv_same e _ _ (by decide)
      · rw [flagOn_awake (hawake.trans hup)]
        exact (rdF_congr (rd_raise_power _ 254 (by decide) (by decide)) _).trans (rdF_flag_same e _ (by decide))
    | false =>
      have hon : d.vhvlow = true := by simpa using hsame
      have hawake : (d.wrF R.PWR_STAT F.PWR_STAT_VHVLOW (b2n false)).awake = d.awake := rfl
      rw [vhvChange_good hon]
      generalize d.wrF R.PWR_STAT F.PWR_STAT_VHVLOW (b2n false) = e at hset hawake ⊢
      have hleaves := fHeld_leaves (e.raiseOn 254)
      refine ⟨?_, fun hup _ => ?_, fun _ h => absurd h (by rw [hon]; decide), fun h => absurd h hsame⟩
      · rw [vhvlow_congr (hleaves.rd _ (.inr (by decide)) (by decide)), vhvlow_congr (rd_raiseOn_power e (by decide) (by decide)), hset]
      · refine hleaves.pend 254 (by decide) (.inl (by decide)) ?_
        rw [raiseOn_awake (hawake.trans hup)]
        exact evPending_raise_same e (by decide)

/-- Settles O54: each change is one of the power block's operations, on its registers' own bits. -/
theorem feedsAndRails : Obligations.FeedsAndRails := by
  unfold Obligations.FeedsAndRails
  refine ⟨fun s b => ?_, fun s b => ?_, fun s b inrange ov uv => ?_, fun s low => ?_, fun s hup => ?_⟩
  · obtain ⟨hrev, hgate, hother, hrest, hev⟩ := diodeReverse_spec s.dev b
    exact completes_of_onDev (f := fun d => d.diodeReverse b) rfl
      ⟨hrev, hgate, hother, hrest, fun hup => hev (awake_of_up hup)⟩
  · refine completes_of_onDev (f := fun d => d.gateOn b) rfl ⟨?_, ?_, ?_⟩
    · rw [Dev.gateOn, bitOf_feed_setFeed_same _ b _ 3 (by decide), if_neg (by decide),
        bitOf_feed_setFeed_same _ b _ 3 (by decide), if_pos rfl]
    · rw [Dev.gateOn, bitOf_feed_setFeed_same _ b _ 4 (by decide), if_pos rfl]
    · exact onlyRegs_trans (onlyRegs_setFeed _ b _) (onlyRegs_setFeed _ b _)
  · obtain ⟨hin, huv, hov, hrev, hheld, hchange, hsame⟩ := feedRange_spec s.dev b inrange ov uv
    exact completes_of_onDev (f := fun d => d.feedRange b inrange ov uv) rfl
      ⟨hin, huv, hov, hrev, hheld, fun hup => hchange (awake_of_up hup), hsame⟩
  · obtain ⟨hlow, hev, hseen, hsame⟩ := vhvChange_spec s.dev low
    exact completes_of_onDev (f := fun d => d.vhvChange low) rfl
      ⟨hlow, fun hup => hev (awake_of_up hup), fun hup => hseen (awake_of_up hup), hsame⟩
  · refine completes_of_up hup (f := fun d => d.combClr) rfl ⟨?_, fun a ha => rd_wr_other _ _ _ _ ha⟩
    have hv : (s.dev.freeVal 15).1 < 2 ^ 15 := Nat.mod_lt _ (Nat.two_pow_pos 15)
    rw [Dev.combClr]
    generalize s.dev.freeVal 15 = v at hv ⊢
    rw [Dev.wrFs, Dev.rdF, Dev.rdF, rd_wr_same]
    simp only [List.foldl]
    rw [getF_putF_apart _ _ (by decide), getF_putF _ (by decide), getF_putF _ (by decide)]
    exact (Nat.mod_eq_of_lt hv).trans (Nat.mod_eq_of_lt (Nat.lt_trans hv (by decide))).symm

/-! The reset of the digital die (R499, R500) -/

section
variable (regs : List (Nat × Word))

/-- A register that is not among those kept keeps the value it is given first. -/
theorem regGet_foldl_regSet_other {α : Type} (key : α → Nat) (word : α → Word) (kept : List α) {a : Nat}
    (h : a ∉ kept.map key) : regGet (kept.foldl (fun r x => regSet r (key x) (word x)) regs) a = regGet regs a := by
  induction kept generalizing regs with
  | nil => rfl
  | cons x t ih =>
    simp only [List.map_cons, List.mem_cons, not_or] at h
    rw [List.foldl_cons, ih _ h.2, regGet_regSet, if_neg h.1]

theorem regGet_keepRegs_other {kept : List (Nat × Word)} {a : Nat} (h : a ∉ kept.map Prod.fst) :
    regGet (keepRegs regs kept) a = resetWord a :=
  regGet_foldl_regSet_other [] Prod.fst (fun x => (resetWord x.1 &&& ~~~ x.2) ||| (regGet regs x.1 &&& x.2)) kept h

/-- A register that is kept under a mask, by the last place that names it. -/
theorem regGet_keepRegs_same {before behind : List (Nat × Word)} {a : Nat} (m : Word) (h : a ∉ behind.map Prod.fst) :
    regGet (keepRegs regs (before ++ (a, m) :: behind)) a = (resetWord a &&& ~~~ m) ||| (regGet regs a &&& m) := by
  rw [keepRegs, List.foldl_append, List.foldl_cons]
  exact (regGet_foldl_regSet_other _ Prod.fst (fun x => (resetWord x.1 &&& ~~~ x.2) ||| (regGet regs x.1 &&& x.2)) behind
    h).trans ((regGet_regSet _ _ _ _).trans (if_pos rfl))

end

section
variable (d : Dev) (warm : Bool)

theorem regs_resetDie :
    (d.resetDie warm).regs = keepRegs d.regs (if warm then keptAlways ++ keptWarm else keptAlways) := rfl

theorem rd_resetDie_dropped {a : Nat} (h : a ∉ (keptAlways ++ keptWarm).map Prod.fst) :
    (d.resetDie warm).rd a = resetWord a := by
  have halways : a ∉ keptAlways.map Prod.fst := fun hm => h (by rw [List.map_append]; exact List.mem_append_left _ hm)
  rw [Dev.rd, regs_resetDie]
  cases warm
  · exact regGet_keepRegs_other d.regs halways
  · exact regGet_keepRegs_other d.regs h

theorem keptAlways_eq : keptAlways = keptAlways.dropLast ++ [(R.PAR_ROLE, 0x1A00)] := by decide

/-- What PAR_ROLE keeps through a reset. -/
theorem rd_resetDie_role : (d.resetDie warm).rd R.PAR_ROLE =
    (resetWord R.PAR_ROLE &&& ~~~ 0x1A00) ||| (d.rd R.PAR_ROLE &&& 0x1A00) := by
  rw [Dev.rd, regs_resetDie, Dev.rd]
  cases warm
  · rw [if_neg (by decide), keptAlways_eq]
    exact regGet_keepRegs_same d.regs 0x1A00 (by simp)
  · rw [if_pos rfl, keptAlways_eq, List.append_assoc]
    exact regGet_keepRegs_same d.regs (behind := keptWarm) 0x1A00 (by decide)

/-- A reset takes the role away. -/
theorem role_resetDie : (d.resetDie warm).role = 0 := by
  have hlow : (d.resetDie warm).rd R.PAR_ROLE &&& 7 = 0 := by
    have hreset : resetWord R.PAR_ROLE &&& ~~~ 0x1A00 &&& 7 = (0 : Word) := by decide
    have hkept : (0x1A00 : Word) &&& 7 = 0 := by decide
    rw [rd_resetDie_role, BitVec.and_or_distrib_right, hreset, BitVec.and_assoc, hkept]
    simp
  have hnat := congrArg BitVec.toNat hlow
  rw [BitVec.toNat_and] at hnat
  have hmod : ((d.resetDie warm).rd R.PAR_ROLE).toNat &&& (2 ^ 3 - 1) = 0 := hnat
  rw [Nat.and_two_pow_sub_one_eq_mod] at hmod
  show ((d.resetDie warm).rd R.PAR_ROLE).toNat / 2 ^ 0 % 2 ^ 3 = 0
  rw [Nat.pow_zero, Nat.div_one]
  exact hmod

end

/-! Sleep and the ejector (R502, R503, R507, R508) -/

/-- An accepted sleep request waits for the latch with its mask. -/
theorem sleepRequest_spec {d : Dev} {sess : Nat} {mask : BitVec 4} (hgate : d.GateFor sess)
    (hnew : d.wbWord R.PWR_SLEEP ≠ none ∨ d.rdF R.PWR_SLEEP F.PWR_SLEEP_REQ = 0) :
    (d.sleepRequest sess mask).wbWord R.PWR_SLEEP = some 1 ∧
    (d.sleepRequest sess mask).rdF R.PWR_SLEEP F.PWR_SLEEP_WAKEMSK = mask.toNat ∧
    (d.sleepRequest sess mask).rdF R.PWR_SLEEP F.PWR_SLEEP_PEND = 1 ∧
    (d.sleepRequest sess mask).gate = none ∧ (d.sleepRequest sess mask).turn = d.turn ∧
    (d.sleepRequest sess mask).pwr = d.pwr := by
  have hreq : d.sleepRequest sess mask =
      (d.closeGate.wrF R.PWR_SLEEP F.PWR_SLEEP_WAKEMSK mask.toNat).wbWrite R.PWR_SLEEP 1 1 sess := by
    simp [Dev.sleepRequest, passGate_opener hgate]
  have hrd : d.closeGate.rdF R.PWR_SLEEP F.PWR_SLEEP_REQ = d.rdF R.PWR_SLEEP F.PWR_SLEEP_REQ :=
    rdF_congr (rd_closeGate_other d (by decide)) _
  have hmask : (d.closeGate.wrF R.PWR_SLEEP F.PWR_SLEEP_WAKEMSK mask.toNat).rdF R.PWR_SLEEP F.PWR_SLEEP_WAKEMSK
      = mask.toNat := rdF_wrF_of_lt _ _ _ (by decide) mask.isLt
  have hone : (d.closeGate.wrF R.PWR_SLEEP F.PWR_SLEEP_WAKEMSK mask.toNat).rdF R.PWR_SLEEP F.PWR_SLEEP_REQ
      = d.rdF R.PWR_SLEEP F.PWR_SLEEP_REQ := (rdF_wrF_apart _ _ _ _ (by decide) _).trans hrd
  have hwb : (d.closeGate.wrF R.PWR_SLEEP F.PWR_SLEEP_WAKEMSK mask.toNat).wbWord R.PWR_SLEEP = d.wbWord R.PWR_SLEEP := rfl
  have hgone : (d.closeGate.wrF R.PWR_SLEEP F.PWR_SLEEP_WAKEMSK mask.toNat).gate = none := rfl
  have hturn : (d.closeGate.wrF R.PWR_SLEEP F.PWR_SLEEP_WAKEMSK mask.toNat).turn = d.turn ∧
      (d.closeGate.wrF R.PWR_SLEEP F.PWR_SLEEP_WAKEMSK mask.toNat).pwr = d.pwr := ⟨rfl, rfl⟩
  rw [hreq]
  generalize d.closeGate.wrF R.PWR_SLEEP F.PWR_SLEEP_WAKEMSK mask.toNat = e at *
  have hdiffers : ¬ (e.wbWord R.PWR_SLEEP = none ∧ (1 : Word) &&& 1 = e.rd R.PWR_SLEEP &&& 1) := fun ⟨hnone, hsame⟩ => by
    rw [hwb] at hnone
    have hbit := (and_one_eq_iff 1 _).1 hsame
    have hzero := hnew.resolve_left (fun h => h hnone)
    rw [← hone] at hzero
    exact absurd (hbit.trans hzero) (by decide)
  obtain ⟨hword, hrdw⟩ := wbWrite_pends e R.PWR_SLEEP hdiffers sess
  refine ⟨hword, ?_, ?_, ?_, ?_, ?_⟩
  · rw [rdF_congr hrdw, rdF_wrF_apart _ _ _ ⟨31, 1⟩ (by decide), hmask]
  · rw [rdF_congr hrdw]
    exact rdF_wrF_of_lt _ _ ⟨31, 1⟩ (by decide) (by decide)
  · simpa using hgone
  · simpa using hturn.1
  · simpa using hturn.2

/-- A sleep request at the latch: it ends, and a device that may not sleep shows its refusal. -/
theorem sleepLatch_spec {d : Dev} (hword : d.wbWord R.PWR_SLEEP ≠ none) :
    (d.role ≠ 1 ∨ d.pfw = true ∨ d.danger = true ∨ d.rdF R.PWR_SLEEP F.PWR_SLEEP_WAKEMSK = 0 ∨
      d.rdF (R.LAT_CNT 0) F.LAT_CNT_ACTIVE ≠ 0 ∨ d.rdF (R.LAT_CNT 0) F.LAT_CNT_UNACK ≠ 0 →
      d.sleepLatch.rdF R.PWR_STAT F.PWR_STAT_SLPREF = 1 ∧ d.sleepLatch.pwr = d.pwr) ∧
    d.sleepLatch.wbWord R.PWR_SLEEP = none := by
  have hrd {a : Nat} (ha : a ≠ R.PWR_SLEEP) (f : Field) : (d.wbDrop R.PWR_SLEEP).rdF a f = d.rdF a f :=
    rdF_wrF_other d R.PWR_SLEEP a f _ 0 ha
  have hmask : (d.wbDrop R.PWR_SLEEP).rdF R.PWR_SLEEP F.PWR_SLEEP_WAKEMSK = d.rdF R.PWR_SLEEP F.PWR_SLEEP_WAKEMSK :=
    (rdF_congr (rd_wbDrop_same d _) _).trans (rdF_wrF_apart d _ _ ⟨31, 1⟩ (by decide) 0)
  have hdrop := wbWord_wbDrop_same d R.PWR_SLEEP
  refine ⟨fun hbar => ?_, ?_⟩
  · have hbarred : (d.wbDrop R.PWR_SLEEP).sleepBarred = true := by
      simp only [Dev.sleepBarred, Dev.role, Dev.pfw, Dev.danger, hmask, hrd (show R.PAR_ROLE ≠ _ by decide),
        hrd (show R.PWR_STAT ≠ _ by decide), hrd (show R.WTC_STAT ≠ _ by decide), hrd (show R.LAT_CNT 0 ≠ _ by decide)]
      simp only [Dev.role, Dev.pfw, Dev.danger] at hbar
      rcases hbar with h | h | h | h | h | h <;> simp [h]
    simp only [Dev.sleepLatch, if_neg hword, hbarred, if_true]
    exact ⟨rdF_flag_same _ _ (by decide), rfl⟩
  · simp only [Dev.sleepLatch, if_neg hword]
    split
    · exact hdrop
    · exact hdrop

theorem rd_of_regs {d e : Dev} (h : e.regs = d.regs) (a : Nat) : e.rd a = d.rd a := by rw [Dev.rd, h, ← Dev.rd]

theorem role_of_regs {d e : Dev} (h : e.regs = d.regs) : e.role = d.role := rdF_congr (rd_of_regs h _) _

/-- Sleep holds the die in reset with its mask, and empties the write buffer into the ledger. -/
theorem sleepEnter_spec {d : Dev} {m : Nat} (hboot : d.pwr.boot = 3) (hready : d.sleepReady = true)
    (hmask : d.pwr.sleepMask = some m) :
    d.sleepEnter.pwr.boot = 4 ∧ d.sleepEnter.pwr.sleepMask = some m ∧ d.sleepEnter.role = 0 ∧
    d.sleepEnter.jrn.wbuf = [] ∧ d.sleepEnter.rd R.DIO_OUT = 0 := by
  simp only [Dev.sleepEnter]
  rw [if_neg (by simp [hready, hboot]), hmask]
  generalize (d.fForceAll (fun _ => true)).flush = e
  have hrole := role_resetDie e true
  have hwbuf : (e.resetDie true).jrn.wbuf = [] := rfl
  have hout : (e.resetDie true).rd R.DIO_OUT = 0 := (rd_resetDie_dropped e true (by decide)).trans (by decide)
  generalize e.resetDie true = x at hrole hwbuf hout ⊢
  exact ⟨rfl, rfl, (role_of_regs rfl).trans hrole, hwbuf, (rd_of_regs rfl _).trans hout⟩

theorem rdF_setCause_cause (d : Dev) {cause : Nat} (hc : cause < 16) (detail : Nat) (nowarn : Bool) :
    (d.setCause cause detail nowarn).rdF R.PWR_RSTCAUSE F.PWR_RSTCAUSE_CAUSE = cause := by
  rw [Dev.setCause, Dev.rdF, rd_wr_same, packF]
  exact (getF_putF _ (by decide) _ _).trans (Nat.mod_eq_of_lt hc)

theorem rdF_setCause_detail (d : Dev) (cause detail : Nat) (nowarn : Bool) :
    (d.setCause cause detail nowarn).rdF R.PWR_RSTCAUSE F.PWR_RSTCAUSE_DETAIL = detail % 256 := by
  rw [Dev.setCause, Dev.rdF, rd_wr_same, packF]
  simp only [List.foldl]
  rw [getF_putF_apart _ _ (by decide), getF_putF_apart _ _ (by decide), getF_putF _ (by decide)]
  rfl

/-- An enabled source wakes the device with cause WAKE. -/
theorem wake_hit {d : Dev} {source : BitVec 4} {m : Nat} (hboot : d.pwr.boot = 4) (hmask : d.pwr.sleepMask = some m)
    (hhit : source.toNat &&& m ≠ 0) :
    d.wake source = (d.setCause 6 (source.toNat &&& m) false).setPwr (fun p => { p with boot := 2, sleepMask := none }) := by
  simp only [Dev.wake, hmask, Option.getD_some]
  rw [if_neg (by simp [hboot, hhit])]

section
variable {d : Dev}

theorem ejected_congr {e : Dev} (h : e.rd R.PWR_STAT = d.rd R.PWR_STAT) : e.ejected = d.ejected :=
  congrArg (· == 1) (rdF_congr h F.PWR_STAT_EJECT)

/-- A debounced change of EJECT_N shows in both registers and raises EV255. -/
theorem ejectChange_spec (hup : d.awake = true) (on : Bool) :
    (d.ejectChange on).ejected = on ∧ (d.ejectChange on).evPending 255 = true ∧
    (d.ejectChange on).rdF R.PAR_ROLE F.PAR_ROLE_EJECT = b2n on ∧ (d.ejectChange on).role = d.role ∧
    (d.ejectChange on).pfw = d.pfw ∧ (d.ejectChange on).turn = d.turn ∧ (d.ejectChange on).pwr = d.pwr ∧
    (d.ejectChange on).pair = d.pair := by
  obtain ⟨e, he⟩ : ∃ e : Dev, e = (d.wrF R.PWR_STAT F.PWR_STAT_EJECT (b2n on)).wrF R.PAR_ROLE F.PAR_ROLE_EJECT (b2n on) :=
    ⟨_, rfl⟩
  have hchange : d.ejectChange on = (e.raise 255).happen (sysEntry 0x0042 [byteOf (b2n on)]) := by
    rw [Dev.ejectChange, ← he]
    have hawake : e.awake = true := by rw [he]; exact hup
    rw [raiseOn_awake hawake]
    refine happenOn_awake ?_ _
    rw [Dev.awake, show (e.raise 255).pwr = e.pwr by simp]
    exact hawake
  have hrole : (d.ejectChange on).rd R.PAR_ROLE = e.rd R.PAR_ROLE := by
    rw [hchange]
    exact rd_raise_low e 255 (by decide)
  have hstat : (d.ejectChange on).rd R.PWR_STAT = e.rd R.PWR_STAT := by
    rw [hchange]
    exact rd_raise_power e 255 (by decide) (by decide)
  have hestat (f : Field) : e.rdF R.PWR_STAT f = (d.wrF R.PWR_STAT F.PWR_STAT_EJECT (b2n on)).rdF R.PWR_STAT f := by
    rw [he]
    exact rdF_wrF_other _ _ _ _ _ _ (by decide)
  refine ⟨?_, ?_, ?_, ?_, ?_, ?_, ?_, ?_⟩
  · rw [ejected_congr hstat, Dev.ejected, hestat, rdF_wrF_bool d _ _ (by decide) (by decide)]
    cases on <;> rfl
  · rw [hchange]
    exact evPending_raise_same e (by decide)
  · rw [rdF_congr hrole, he]
    exact rdF_wrF_bool _ _ _ (by decide) (by decide) on
  · rw [Dev.role, rdF_congr hrole, he, rdF_wrF_apart _ _ _ _ (by decide), rdF_wrF_other _ _ _ _ _ _ (by decide), Dev.role]
  · rw [Dev.pfw, rdF_congr hstat, hestat, rdF_wrF_apart _ _ _ _ (by decide), Dev.pfw]
  · rw [hchange, he]
    simp [Dev.happen]
  · rw [hchange, he]
    simp [Dev.happen]
  · rw [hchange, he]
    simp [Dev.happen]

theorem rd_writeThrough_other (on : Bool) {a : Nat} (ha : a ≠ R.JRN_STAT) : (d.writeThrough on).rd a = d.rd a :=
  rd_wrF_other d R.JRN_STAT a _ _ ha

theorem evPending_writeThrough (on : Bool) {n : Nat} : (d.writeThrough on).evPending n = d.evPending n :=
  evPending_congr (rd_writeThrough_other on (by simp only [R.HST_EVPEND, R.JRN_STAT]; omega))

end

/-- Settles O57: the request, its latch, the sleep, the wake and EJECT_N are one operation each. -/
theorem sleepAndEject : Obligations.SleepAndEject := by
  unfold Obligations.SleepAndEject
  refine ⟨fun s sess mask hup hgate hnew => ?_, fun d hword => sleepLatch_spec hword, fun s m hup hready hmask => ?_,
    fun s hready => ?_, fun s source m hboot hmask => ⟨fun hhit => ?_, fun hmiss => ?_⟩, fun s hup hrole hcastle =>
    ⟨fun hej => ?_, fun hej => ?_, fun hej => ?_, fun hej => ?_⟩⟩
  · exact completes_of_up hup (f := fun d => d.sleepRequest sess mask) rfl (sleepRequest_spec hgate hnew)
  · exact completes_of_up hup (f := fun d => d.sleepEnter) rfl (sleepEnter_spec hup hready hmask)
  · exact exec_keeps (f := fun d => d.sleepEnter) rfl (by simp [Dev.sleepEnter, hready])
  · refine completes_of_onDev (f := fun d => d.wake source) rfl ?_
    have hdetail := rdF_setCause_detail s.dev 6 (source.toNat &&& m) false
    rw [Nat.mod_eq_of_lt (Nat.lt_of_le_of_lt Nat.and_le_left (Nat.lt_trans source.isLt (by decide)))] at hdetail
    rw [wake_hit hboot hmask hhit]
    exact ⟨rfl, rdF_setCause_cause s.dev (by decide) _ _, hdetail, rfl⟩
  · exact exec_onDev_keeps (f := fun d => d.wake source) rfl (by simp [Dev.wake, hmask, hmiss])
  · obtain ⟨hon, hev, heject, hsame, -, hturn, hpwr, hpair⟩ := ejectChange_spec (awake_of_up hup) true
    have hassert : s.dev.ejectAssert = (s.dev.ejectChange true).writeThrough true := by
      have hawake : (s.dev.ejectChange true).awake = true := by rw [Dev.awake, hpwr]; exact awake_of_up hup
      have hrole' : (s.dev.ejectChange true).role = 1 := hsame.trans hrole
      have hcastle' : (s.dev.ejectChange true).pair.castle = 0 := by rw [hpair]; exact hcastle
      have hstandby : (s.dev.ejectChange true).standby = false := by simp [Dev.standby, hrole']
      have hthru : ((s.dev.ejectChange true).writeThrough true).role = 1 :=
        (rdF_congr (rd_writeThrough_other _ (by decide)) _).trans hrole'
      have heffect : ((s.dev.ejectChange true).writeThrough true).ejectEffect = (s.dev.ejectChange true).writeThrough true := by
        simp [Dev.ejectEffect, hthru, Dev.standby]
      have hcastle'' : ((s.dev.ejectChange true).writeThrough true).pair.castle = 0 := hcastle'
      simp [Dev.ejectAssert, hej, hawake, hstandby, hcastle'', heffect]
    refine completes_of_onDev (f := fun d => d.ejectAssert) rfl ?_
    rw [hassert]
    generalize s.dev.ejectChange true = e at *
    refine ⟨(ejected_congr (rd_writeThrough_other _ (by decide))).trans hon, (evPending_writeThrough _).trans hev,
      (rdF_congr (rd_writeThrough_other _ (by decide)) _).trans heject, rfl,
      (rdF_congr (rd_writeThrough_other _ (by decide)) _).trans (hsame.trans hrole), hturn⟩
  · obtain ⟨hoff, hev, heject, -, hpfw, hturn, hpwr, -⟩ := ejectChange_spec (awake_of_up hup) false
    refine completes_of_onDev (f := fun d => d.ejectRelease) rfl ?_
    have hawake : (s.dev.ejectChange false).awake = true := by rw [Dev.awake, hpwr]; exact awake_of_up hup
    have hrelease : s.dev.ejectRelease = if s.dev.pfw then (s.dev.ejectChange false).setPair (fun p => { p with ejectWaits := false })
        else ((s.dev.ejectChange false).setPair (fun p => { p with ejectWaits := false })).writeThrough false := by
      have hawake' : ((s.dev.ejectChange false).setPair (fun p => { p with ejectWaits := false })).awake = true := hawake
      have hpfw' : ((s.dev.ejectChange false).setPair (fun p => { p with ejectWaits := false })).pfw = s.dev.pfw := hpfw
      cases h : s.dev.pfw <;> simp [Dev.ejectRelease, hej, hawake', hpfw', h]
    rw [hrelease]
    generalize s.dev.ejectChange false = e at *
    cases h : s.dev.pfw with
    | true => exact ⟨hoff, hev, heject, fun h => absurd h (by decide), hturn⟩
    | false =>
      exact ⟨(ejected_congr (rd_writeThrough_other _ (by decide))).trans hoff, (evPending_writeThrough _).trans hev,
        (rdF_congr (rd_writeThrough_other _ (by decide)) _).trans heject, fun _ => rfl, hturn⟩
  · exact exec_onDev_keeps (f := fun d => d.ejectAssert) rfl (by simp [Dev.ejectAssert, hej])
  · exact exec_onDev_keeps (f := fun d => d.ejectRelease) rfl (by simp [Dev.ejectRelease, hej])

end Sys2Proof.Machine
end

section
/-!
PROOFS. The power-fail warning (R492 to R495): a panel update that runs over an element beyond the panel's own registers.
-/
namespace Sys2Proof.Machine

/-- A running machine without a warning, whose panel is ON and drives region 0; the update's only element is
number 32 · 0x7F40 + 11, whose place among PNL_UNK, 0x160300 + 4 · 0x7F40, is bit 11 of PWR_STAT, the PFW bit. -/
def cutOverPower : State := State.reset.on
  { ((State.reset.dev.wrF R.PNL_CTRL F.PNL_CTRL_STATE 2).wrF R.PNL_REGMAP F.PNL_REGMAP_RUN 1) with
    pwr := { State.reset.dev.pwr with boot := 3 }
    pnl := { State.reset.dev.pnl with runs := [some ⟨0, 0, 0, [(32 * 0x7F40 + 11, 0, 0, 0)]⟩] } }

/-- The shutdown that the warning forces cuts the update, whose element then writes PFW back to 0. -/
theorem pfw_powerFail_cutOverPower : (cutOverPower.dev.powerFail false).pfw = false := by decide +kernel

/-- Refutes O55: of a running update whose element lies beyond the panel's registers, the cut that the warning forces
clears the PFW bit that the warning has just set. -/
theorem not_powerFailWarning : ¬ Obligations.PowerFailWarning := by
  unfold Obligations.PowerFailWarning
  rintro ⟨honset, -⟩
  obtain ⟨t, hexec, -, hpfw, -⟩ := honset cutOverPower false rfl (by decide +kernel)
  have hnext : exec (.powerFailWarning false) cutOverPower =
      .next (cutOverPower.onDev (fun d => d.powerFail false)) := rfl
  rw [hnext] at hexec
  injection hexec with ht
  rw [← ht] at hpfw
  exact absurd hpfw (by rw [onDev_dev, pfw_powerFail_cutOverPower]; decide)

end Sys2Proof.Machine
end

section
/-!
PROOFS. The current loops (chapter 07): conversions of inputs, outputs, HART transactions.
-/
namespace Sys2Proof.Machine

theorem satInc_eq (m v : Nat) : satInc m v = min m (v + 1) := by
  unfold satInc
  split <;> omega

theorem clampI_eq {lo hi : Int} (h : lo ≤ hi) (x : Int) : clampI lo hi x = max lo (min hi x) := by
  unfold clampI
  split
  · omega
  · split <;> omega

/-! Fields of the registers below the host port's -/

theorem rdF_raise_low (d : Dev) (n : Nat) {a : Nat} (ha : a < 0x170000) (f : Field) : (d.raise n).rdF a f = d.rdF a f :=
  rdF_congr (rd_raise_low d n ha) f

theorem rdF_raiseIf_low (d : Dev) (b : Bool) (n : Nat) {a : Nat} (ha : a < 0x170000) (f : Field) :
    (d.raiseIf b n).rdF a f = d.rdF a f := rdF_congr (rd_raiseIf_low d b n ha) f

/-- A flag event leaves the fields of its register below SEQ that do not hold the flag. -/
theorem rdF_flagEv_apart (d : Dev) {a : Nat} (ha : a < 0x170000) (b n : Nat) (f : Field) (hseq : f.lo + f.width ≤ 24)
    (hb : f.lo + f.width ≤ b ∨ b + 1 ≤ f.lo) : (d.flagEv a b n).rdF a f = d.rdF a f :=
  (rdF_raise_low _ n ha f).trans (rdF_flag_apart d a b f hseq hb)

theorem rdF_flagEv_other (d : Dev) {x a : Nat} (hx : x < 0x170000) (hne : x ≠ a) (b n : Nat) (f : Field) :
    (d.flagEv a b n).rdF x f = d.rdF x f := rdF_congr (rd_flagEv_low_other d hx hne b n) f

/-- A field written in a register below the host port's clears no pending bit. -/
theorem evPending_wrF_low (d : Dev) {a : Nat} (ha : a < 0x170000) (f : Field) (v m : Nat) :
    (d.wrF a f v).evPending m = d.evPending m :=
  evPending_wr_other d a _ m (by simp only [R.HST_EVPEND]; omega)

/-- A counter of eight bits rises by one and saturates. -/
theorem rdF_incF_byte (d : Dev) (a : Nat) (f : Field) (hf : f.lo + f.width ≤ 32) (hw : f.width = 8) :
    (d.incF a f).rdF a f = min 255 (d.rdF a f + 1) := by
  have hinc := rdF_incF d a f hf
  rw [hw] at hinc
  exact hinc

/-! Loop outputs (R203 to R205) -/

/-- A tracked setpoint lies between 3800 and 20500 µA. -/
theorem clampI_toNat {lo hi : Int} (hlo : 0 ≤ lo) (h : lo ≤ hi) (x : Int) :
    ((clampI lo hi x).toNat : Int) = max lo (min hi x) := by
  rw [clampI_eq h, Int.toNat_of_nonneg (by omega)]

theorem selectSetpoint_cases (r : LoRec) (x : SetIn) :
    (x.safe = true → selectSetpoint r x
      = (4, if r.safe = 0 then 3500 else if r.safe = 1 then 21750 else if r.safe = 2 then x.applied else 0)) ∧
    (x.safe = false → r.almsrc ≠ 0xFFFF → x.almActive = true →
      selectSetpoint r x = (2, if r.almlvl = 0 then 3500 else 21750)) ∧
    (x.safe = false → (r.almsrc = 0xFFFF ∨ x.almActive = false) → r.trksrc = 0xFFFF →
      selectSetpoint r x = (0, x.hset)) ∧
    (x.safe = false → (r.almsrc = 0xFFFF ∨ x.almActive = false) → r.trksrc ≠ 0xFFFF → x.trkFault = true →
      selectSetpoint r x = (3, if r.almlvl = 0 then 3500 else 21750)) ∧
    (x.safe = false → (r.almsrc = 0xFFFF ∨ x.almActive = false) → r.trksrc ≠ 0xFFFF → x.trkFault = false →
      (selectSetpoint r x).1 = 1 ∧ ((selectSetpoint r x).2 : Int)
        = max 3800 (min 20500 (4000 + divRound ((x.v - r.trklo) * 16000) (r.trkhi - r.trklo)))) := by
  have hfree : (r.almsrc = 0xFFFF ∨ x.almActive = false) → ¬ (r.almsrc ≠ 0xFFFF ∧ x.almActive = true) := by
    rintro (h | h) ⟨hsrc, hact⟩
    · exact hsrc h
    · rw [h] at hact
      cases hact
  refine ⟨fun hsafe => ?_, fun hsafe hsrc hact => ?_, fun hsafe halm htrk => ?_, fun hsafe halm htrk hflt => ?_,
    fun hsafe halm htrk hflt => ?_⟩
  · simp [selectSetpoint, hsafe]
  · simp [selectSetpoint, hsafe, hsrc, hact, lpLevel]
  · simp only [selectSetpoint, hsafe, Bool.false_eq_true, if_false, if_neg (hfree halm), htrk]
    rfl
  · simp only [selectSetpoint, hsafe, Bool.false_eq_true, if_false, if_neg (hfree halm), if_pos htrk, hflt, if_true, lpLevel]
  · simp only [selectSetpoint, hsafe, Bool.false_eq_true, if_false, if_neg (hfree halm), if_pos htrk, hflt, true_and]
    exact clampI_toNat (by decide) (by decide) _

section
variable {d : Dev} {n : Nat} {actual : BitVec 16}

/-- The register of a loop output's state lies below the host port's. -/
theorem lopOsts_low (hn : n < 4) : R.LOP_OSTS n < 0x170000 := by
  simp only [R.LOP_OSTS]
  omega

theorem lopOact_low (hn : n < 4) : R.LOP_OACT n < 0x170000 := by
  simp only [R.LOP_OACT]
  omega

theorem lopOact_ne_osts (n : Nat) : R.LOP_OACT n ≠ R.LOP_OSTS n := by
  simp only [R.LOP_OACT, R.LOP_OSTS]
  omega

/-- The readback noted, which the check of R205 judges. -/
def Dev.loRead (d : Dev) (n : Nat) (actual : BitVec 16) : Dev := d.wrF (R.LOP_OACT n) F.LOP_OACT_ACTUAL actual.toNat

theorem applied_loRead : (d.loRead n actual).rdF (R.LOP_OACT n) F.LOP_OACT_APPLIED = d.rdF (R.LOP_OACT n) F.LOP_OACT_APPLIED :=
  rdF_wrF_apart d _ _ _ (by decide) _

theorem compl_loRead : (d.loRead n actual).rdF (R.LOP_OSTS n) F.LOP_OSTS_COMPL = d.rdF (R.LOP_OSTS n) F.LOP_OSTS_COMPL :=
  rdF_wrF_other d _ _ _ _ _ (Ne.symm (lopOact_ne_osts n))

theorem loDrives_loRead (hn : n < 4) : (d.loRead n actual).loDrives n = d.loDrives n := by
  have hrole : (d.loRead n actual).holder = d.holder := by
    have hne : R.PAR_ROLE ≠ R.LOP_OACT n := by
      simp only [R.PAR_ROLE, R.LOP_OACT]
      omega
    simp only [Dev.holder, Dev.role, Dev.loRead, rdF_wrF_other d _ _ _ _ _ hne]
  rw [Dev.loDrives, hrole]
  rfl

/-- A deviating output after 5 ms: COMPL sets with EV103, and at 21750 µA the lower alarm level drives. -/
theorem loCompl_deviates (hn : n < 4) (hdrives : d.loDrives n = true) (hhand : d.loHandover n = false)
    (hfar : ((actual.toNat : Int) - d.rdF (R.LOP_OACT n) F.LOP_OACT_APPLIED).natAbs > 100)
    (hoff : d.rdF (R.LOP_OSTS n) F.LOP_OSTS_COMPL = 0) :
    let e := d.loCompl n true actual
    e.rdF (R.LOP_OSTS n) F.LOP_OSTS_COMPL = 1 ∧ e.rdF (R.LOP_OACT n) F.LOP_OACT_ACTUAL = actual.toNat ∧
    e.evPending 103 = true ∧ e.rdF (R.LOP_OACT n) F.LOP_OACT_APPLIED
      = (if d.rdF (R.LOP_OACT n) F.LOP_OACT_APPLIED = 21750 then 3500 else d.rdF (R.LOP_OACT n) F.LOP_OACT_APPLIED) ∧
    (d.rdF (R.LOP_OACT n) F.LOP_OACT_APPLIED = 21750 → e.rdF (R.LOP_OSTS n) F.LOP_OSTS_LOWALT = 1 ∧ e.evPending 105 = true) := by
  have hlow := lopOsts_low hn
  have hact := lopOact_low hn
  have hne := lopOact_ne_osts n
  obtain ⟨g, hg⟩ : ∃ g : Dev, g = ((d.loRead n actual).wrF (R.LOP_OSTS n) F.LOP_OSTS_COMPL 1).flagEv (R.LOP_OSTS n) 23 103 :=
    ⟨_, rfl⟩
  have hcompl : d.loCompl n true actual = if d.rdF (R.LOP_OACT n) F.LOP_OACT_APPLIED = 21750 then
      ((g.wrF (R.LOP_OSTS n) F.LOP_OSTS_LOWALT 1).wrF (R.LOP_OACT n) F.LOP_OACT_APPLIED 3500).raise 105 else g := by
    have hd := loDrives_loRead (actual := actual) (d := d) hn
    have ha := applied_loRead (d := d) (n := n) (actual := actual)
    have hc := compl_loRead (d := d) (n := n) (actual := actual)
    have hh : (d.loRead n actual).loHandover n = d.loHandover n := rfl
    simp only [Dev.loRead] at hd ha hc hh
    rw [hg]
    simp [Dev.loCompl, Dev.loRead, hd, ha, hc, hh, hdrives, hhand, hoff, hfar]
  have hgact (f : Field) : g.rdF (R.LOP_OACT n) f = (d.loRead n actual).rdF (R.LOP_OACT n) f := by
    rw [hg, rdF_flagEv_other _ hact hne, rdF_wrF_other _ _ _ _ _ _ hne]
  have hgcompl : g.rdF (R.LOP_OSTS n) F.LOP_OSTS_COMPL = 1 := by
    rw [hg, rdF_flagEv_apart _ hlow _ _ _ (by decide) (by decide)]
    exact rdF_wrF_of_lt _ _ _ (by decide) (by decide)
  have hgev : g.evPending 103 = true := by
    rw [hg]
    exact evPending_flagEv_same _ _ _ (by decide)
  have hgactual : g.rdF (R.LOP_OACT n) F.LOP_OACT_ACTUAL = actual.toNat :=
    (hgact _).trans (rdF_wrF_of_lt _ _ _ (by decide) actual.isLt)
  have hgapplied : g.rdF (R.LOP_OACT n) F.LOP_OACT_APPLIED = d.rdF (R.LOP_OACT n) F.LOP_OACT_APPLIED :=
    (hgact _).trans applied_loRead
  intro e
  have he : e = d.loCompl n true actual := rfl
  rw [he, hcompl]
  split
  case isTrue h =>
    have hkeep : (g.wrF (R.LOP_OSTS n) F.LOP_OSTS_LOWALT 1).rdF (R.LOP_OSTS n) F.LOP_OSTS_COMPL = 1 :=
      (rdF_wrF_apart _ _ _ _ (by decide) _).trans hgcompl
    refine ⟨?_, ?_, ?_, ?_, fun _ => ⟨?_, evPending_raise_same _ (by decide)⟩⟩
    · rw [rdF_raise_low _ _ hlow, rdF_wrF_other _ _ _ _ _ _ (Ne.symm hne), hkeep]
    · rw [rdF_raise_low _ _ hact, rdF_wrF_apart _ _ _ _ (by decide), rdF_wrF_other _ _ _ _ _ _ hne, hgactual]
    · refine evPending_raise_of (by decide) (.inr ?_)
      rw [evPending_wrF_low _ hact, evPending_wrF_low _ hlow, hgev]
    · rw [rdF_raise_low _ _ hact]
      exact rdF_wrF_of_lt _ _ _ (by decide) (by decide)
    · rw [rdF_raise_low _ _ hlow, rdF_wrF_other _ _ _ _ _ _ (Ne.symm hne)]
      exact rdF_wrF_of_lt _ _ _ (by decide) (by decide)
  case isFalse h => exact ⟨hgcompl, hgactual, hgev, hgapplied, fun h' => absurd h' h⟩

/-- An output back within 100 µA after 5 ms: COMPL clears with EV104. -/
theorem loCompl_back (hn : n < 4) (hdrives : d.loDrives n = true) (hhand : d.loHandover n = false)
    (hnear : ((actual.toNat : Int) - d.rdF (R.LOP_OACT n) F.LOP_OACT_APPLIED).natAbs ≤ 100)
    (hon : d.rdF (R.LOP_OSTS n) F.LOP_OSTS_COMPL = 1) :
    let e := d.loCompl n false actual
    e.rdF (R.LOP_OSTS n) F.LOP_OSTS_COMPL = 0 ∧ e.evPending 104 = true ∧
    e.rdF (R.LOP_OACT n) F.LOP_OACT_APPLIED = d.rdF (R.LOP_OACT n) F.LOP_OACT_APPLIED := by
  have hcompl : d.loCompl n false actual = ((d.loRead n actual).wrF (R.LOP_OSTS n) F.LOP_OSTS_COMPL 0).raise 104 := by
    have hd := loDrives_loRead (actual := actual) (d := d) hn
    have ha := applied_loRead (d := d) (n := n) (actual := actual)
    have hc := compl_loRead (d := d) (n := n) (actual := actual)
    have hh : (d.loRead n actual).loHandover n = d.loHandover n := rfl
    have hfar : ¬ ((actual.toNat : Int) - d.rdF (R.LOP_OACT n) F.LOP_OACT_APPLIED).natAbs > 100 := Nat.not_lt.2 hnear
    simp only [Dev.loRead] at hd ha hc hh
    simp [Dev.loCompl, Dev.loRead, hd, ha, hc, hh, hdrives, hhand, hon, hfar]
  intro e
  have he : e = d.loCompl n false actual := rfl
  rw [he, hcompl]
  refine ⟨?_, evPending_raise_same _ (by decide), ?_⟩
  · rw [rdF_raise_low _ _ (lopOsts_low hn)]
    exact rdF_wrF_of_lt _ _ _ (by decide) (by decide)
  · rw [rdF_raise_low _ _ (lopOact_low hn), rdF_wrF_other _ _ _ _ _ _ (lopOact_ne_osts n), applied_loRead]

end

/-- Settles O29: the selection's branches; a host setpoint waits in the pending word; COMPL follows its check. -/
theorem loopOutputs : Obligations.LoopOutputs := by
  unfold Obligations.LoopOutputs
  refine ⟨selectSetpoint_cases, fun s sess n v hup _ hnew => ?_, fun s n actual hup hdrives hhand => ?_⟩
  · refine completes_of_up hup (f := fun d => d.osetWrite sess n.val v) rfl ?_
    obtain ⟨hword, hrd⟩ := wbWrite_low_pends (k := 15) (mask := osetMask) rfl (by decide) v.isLt hnew sess
    exact ⟨hword, (rdF_congr hrd _).trans (rdF_wrF_apart _ _ _ ⟨31, 1⟩ (by decide) _)⟩
  · exact ⟨fun hfar hoff => completes_of_up hup (f := fun d => d.loCompl n.val true actual) rfl
        (loCompl_deviates n.isLt hdrives hhand hfar hoff),
      fun hnear hon => completes_of_up hup (f := fun d => d.loCompl n.val false actual) rfl
        (loCompl_back n.isLt hdrives hhand hnear hon)⟩

/-! Conversions of loop inputs (R187 to R193) -/

theorem li_setLi_same {d : Dev} {n : Nat} (f : LoopIn → LoopIn) (hn : n < d.lop.ins.length) :
    (d.setLi n f).li n = f (d.li n) := getD_upd_same _ f _ hn

section
variable (d : Dev) (n st : Nat) (raw value : Int)

/-- A release takes the clamp away, and damping starts anew after one without a value. -/
theorem li_lRelease (hn : n < d.lop.ins.length) : ∃ rel flt, (d.lRelease n st raw value).li n =
    { d.li n with clamp := false, reload := decide (st > 2), relClk := rel, faulted := flt } := by
  unfold Dev.lRelease
  extract_lets old d1 d2 d3 d4 d5 d6 d7 d8 d9
  have h3 : d3.li n = { d.li n with clamp := false, reload := decide (st > 2) } := li_setLi_same _ hn
  have hlen : d3.lop.ins.length = d.lop.ins.length := length_upd _ _ _
  have h4 : (∃ rel, d4.li n = { d.li n with clamp := false, reload := decide (st > 2), relClk := rel }) ∧
      d4.lop.ins.length = d.lop.ins.length := by
    have hkept : ∃ rel, d3.li n = { d.li n with clamp := false, reload := decide (st > 2), relClk := rel } := ⟨_, h3⟩
    unfold d4
    split
    · refine ⟨⟨some d3.clk, ?_⟩, (length_upd _ _ _).trans hlen⟩
      rw [li_setLi_same _ (by rw [wr_lop, wr_lop, hlen]; exact hn)]
      show { d3.li n with relClk := some d3.clk } = _
      rw [h3]
    · split
      · exact ⟨hkept, hlen⟩
      · exact ⟨hkept, hlen⟩
  have h8 : d8.lop = d4.lop := by
    have h5 : d5.lop = d4.lop := by
      unfold d5
      split <;> simp
    have h6 : d6.lop = d5.lop := by
      unfold d6
      split <;> simp
    have h7 : d7.lop = d6.lop := by simp [d7]
    have h8 : d8.lop = d7.lop := by simp [d8]
    rw [h8, h7, h6, h5]
  obtain ⟨⟨rel, hli⟩, hlen4⟩ := h4
  have hli8 : d8.li n = d4.li n := by rw [Dev.li, h8, ← Dev.li]
  refine ⟨rel, lFault st || ((d8.li n).faulted && decide (st > 2)), ?_⟩
  have hend : (d9.raiseIf ((st == 1 || st == 2) && old == 0) 90).li n = d9.li n := by simp [Dev.li]
  rw [hend]
  show (d8.setLi n _).li n = _
  rw [li_setLi_same _ (by rw [h8, hlen4]; exact hn), hli8, hli]

variable {d n} {A : Nat → Prop}

/-- A release leaves every register alone but the status, the fault map and the value's. -/
theorem lRelease_leaves (hA : OutsideHost A) (hsts : ¬ A (R.LOP_STS n)) (hstat : ¬ A R.LOP_STAT)
    (hvalues : st ≤ 2 → ¬ A (R.LOP_RAW n) ∧ ¬ A (R.LOP_VAL n)) : Leaves A d (d.lRelease n st raw value) := by
  unfold Dev.lRelease
  extract_lets old d1 d2 d3 d4 d5 d6 d7 d8 d9
  have h3 : Leaves A d d3 :=
    (wrF_leaves hstat _ _ (wrF_leaves hsts _ _ (Leaves.refl A d))).of_regs rfl rfl
  have h4 : Leaves A d d4 := by
    unfold d4
    split
    case isTrue hst =>
      obtain ⟨hraw, hval⟩ := hvalues hst
      exact (wr_leaves hval _ (wr_leaves hraw _ h3)).of_regs rfl rfl
    case isFalse => exact Leaves.ite (flag_leaves hsts 22 h3) h3
  have h5 : Leaves A d d5 := Leaves.ite (flagEv_leaves hA hsts 21 (by decide) h4) h4
  have h6 : Leaves A d d6 := Leaves.ite (flagEv_leaves hA hsts 20 (by decide) h5) h5
  have h8 : Leaves A d d8 := raiseIf_leaves hA _ (by decide) (raiseIf_leaves hA _ (by decide) h6)
  exact raiseIf_leaves hA _ (by decide) (h8.of_regs rfl rfl)

theorem lopSts_low (hn : n < 16) : R.LOP_STS n < 0x170000 := by
  simp only [R.LOP_STS]
  omega

/-- A release shows its status, and one with a value shows it. -/
theorem lRelease_shows (hn : n < 16) (hst : st < 16) : (d.lRelease n st raw value).rdF (R.LOP_STS n) F.LOP_STS_STATUS = st ∧
    (st ≤ 2 → (d.lRelease n st raw value).rd (R.LOP_RAW n) = wordOfInt raw ∧
      (d.lRelease n st raw value).rd (R.LOP_VAL n) = wordOfInt value) := by
  have hlow := lopSts_low hn
  have hraw : R.LOP_RAW n ≠ R.LOP_STS n ∧ R.LOP_RAW n < 0x170000 ∧ R.LOP_RAW n ≠ R.LOP_VAL n := by
    simp only [R.LOP_RAW, R.LOP_STS, R.LOP_VAL]
    omega
  have hval : R.LOP_VAL n ≠ R.LOP_STS n ∧ R.LOP_VAL n < 0x170000 := by
    simp only [R.LOP_VAL, R.LOP_STS]
    omega
  unfold Dev.lRelease
  extract_lets old d1 d2 d3 d4 d5 d6 d7 d8 d9
  have h3 : d3.rdF (R.LOP_STS n) F.LOP_STS_STATUS = st := by
    have hne : R.LOP_STS n ≠ R.LOP_STAT := by
      simp only [R.LOP_STS, R.LOP_STAT]
      omega
    exact (rdF_wrF_other d1 _ _ _ _ _ hne).trans (rdF_wrF_of_lt d _ _ (by decide) hst)
  have h4 : d4.rdF (R.LOP_STS n) F.LOP_STS_STATUS = st ∧ (st ≤ 2 → d4.rd (R.LOP_RAW n) = wordOfInt raw ∧
      d4.rd (R.LOP_VAL n) = wordOfInt value) := by
    unfold d4
    split
    · refine ⟨?_, fun _ => ⟨?_, ?_⟩⟩
      · rw [rdF_congr (setLi_rd _ _ _ _), rdF_congr (rd_wr_other _ _ _ _ (Ne.symm hval.1)),
          rdF_congr (rd_wr_other _ _ _ _ (Ne.symm hraw.1)), h3]
      · rw [setLi_rd, rd_wr_other _ _ _ _ hraw.2.2, rd_wr_same]
      · rw [setLi_rd, rd_wr_same]
    · refine ⟨?_, fun h => absurd h ‹_›⟩
      split
      · rw [rdF_flag_apart _ _ _ _ (by decide) (by decide), h3]
      · exact h3
  obtain ⟨hstatus, hvalues⟩ := h4
  have hkeep (e : Dev) (b ev : Nat) (hb : 20 ≤ b) (p : Prop) [Decidable p] :
      (if p then e.flagEv (R.LOP_STS n) b ev else e).rdF (R.LOP_STS n) F.LOP_STS_STATUS =
        e.rdF (R.LOP_STS n) F.LOP_STS_STATUS ∧
      (∀ a, a < 0x170000 → a ≠ R.LOP_STS n → (if p then e.flagEv (R.LOP_STS n) b ev else e).rd a = e.rd a) := by
    split
    · exact ⟨rdF_flagEv_apart e hlow b ev _ (by decide) (.inl hb), fun a ha hne => rd_flagEv_low_other e ha hne b ev⟩
    · exact ⟨rfl, fun _ _ _ => rfl⟩
  obtain ⟨hs5, hr5⟩ := hkeep d4 21 91 (by decide) (st = 7 ∧ old ≠ 7)
  obtain ⟨hs6, hr6⟩ := hkeep d5 20 92 (by decide) (st = 6 ∧ old ≠ 6)
  have hend (a : Nat) (ha : a < 0x170000) : (d9.raiseIf ((st == 1 || st == 2) && old == 0) 90).rd a = d6.rd a := by
    rw [rd_raiseIf_low _ _ _ ha]
    show d8.rd a = d6.rd a
    rw [rd_raiseIf_low d7 _ _ ha, rd_raiseIf_low d6 _ _ ha]
  refine ⟨(rdF_congr (hend _ hlow) _).trans (hs6.trans (hs5.trans hstatus)), fun hle => ⟨?_, ?_⟩⟩
  · rw [hend _ hraw.2.1]
    exact (hr6 _ hraw.2.1 hraw.1).trans ((hr5 _ hraw.2.1 hraw.1).trans (hvalues hle).1)
  · rw [hend _ hval.2]
    exact (hr6 _ hval.2 hval.1).trans ((hr5 _ hval.2 hval.1).trans (hvalues hle).2)

end

/-- The runs of a conversion: what a loop input holds before its release. -/
def LoopIn.ran (x : LoopIn) (own : Bool) (isup : Int) (limUs s lo hi mis sinceTr band : Nat) : LoopIn :=
  let x := if own then { x with mirIsup := isup, mirLim := limUs } else x
  if s = 8 then { x with lo := 0, hi := 0, mis := 0, sinceTr := 0, band := band }
  else { x with lo := lo, hi := hi, mis := mis, sinceTr := sinceTr, band := band }

/-- The runs counted in a conversion of LIn: of FLO, of FHI, of the supply's mismatch. -/
def Dev.loRun (d : Dev) (n : Nat) (raw : Int) : Nat := if loopBand raw = 0 then satInc 255 (d.li n).lo else 0
def Dev.hiRun (d : Dev) (n : Nat) (raw : Int) : Nat := if loopBand raw = 4 then satInc 255 (d.li n).hi else 0
def Dev.misRun (d : Dev) (n : Nat) (raw isup : Int) (limUs : Nat) : Nat :=
  if ((d.lrec n).mode == 1) ∧ (d.supplyValues n isup limUs).2.2 ∧
    decide (((d.supplyValues n isup limUs).1 - raw).natAbs > 500000) then satInc 255 (d.li n).mis else 0

/-- The status that a conversion of LIn releases. -/
def Dev.convStatus (d : Dev) (n : Nat) (raw isup : Int) (limUs : Nat) : Nat :=
  let ms := (d.lrec n).tliMs
  let st := d.rdF (R.LOP_SUPCTRL n) F.LOP_SUPCTRL_STATE
  loopStatus (d.li n).clamp
    ((d.lrec n).mode == 1 && decide (min (d.supplyValues n isup limUs).2.1 (satInc 0xFFFF (d.li n).sinceTr * ms * 1000) ≥ 50000))
    (persisted ms (d.misRun n raw isup limUs)) (persisted ms (d.loRun n raw)) (persisted ms (d.hiRun n raw))
    ((d.lrec n).mode == 1 && (st == 1 || st == 3 || (d.li n).tstart)) (loopBand raw)

/-- A conversion is its runs, and one release. -/
theorem lConvEnd_release {d : Dev} {n : Nat} (h16 : n < 16) (hmode : (d.lrec n).mode ≠ 0) (hrunning : d.lop.running = true)
    (hn : n < d.lop.ins.length) (raw isup : Int) (limUs : Nat) : ∃ e : Dev,
    d.lConvEnd n raw isup limUs = e.lRelease n (d.convStatus n raw isup limUs) raw
      (if (d.li n).reload then raw else damp ((d.lrec n).tliMs / 10) (d.lrec n).td raw
        (signed 32 (d.rd (R.LOP_VAL n)).toNat)) ∧
    e.lop.ins.length = d.lop.ins.length ∧ (∀ a, a ≠ R.LOP_SUPI n → e.rd a = d.rd a) ∧
    e.li n = (d.li n).ran d.holder isup limUs (d.convStatus n raw isup limUs) (d.loRun n raw) (d.hiRun n raw)
      (d.misRun n raw isup limUs) (satInc 0xFFFF (d.li n).sinceTr) (loopBand raw) := by
  unfold Dev.lConvEnd
  rw [if_neg (by simp [hmode, hrunning])]
  refine ⟨_, rfl, ?_, fun a ha => ?_, ?_⟩
  · exact (length_upd _ _ _).trans (length_upd _ _ _)
  · exact rd_wr_other _ _ _ _ ha
  · have hholder : (d.lSupply n isup limUs).holder = d.holder := by
      have hne : R.PAR_ROLE ≠ R.LOP_SUPI n := by
        simp only [R.PAR_ROLE, R.LOP_SUPI]
        omega
      simp only [Dev.holder, Dev.role, rdF_congr (rd_wr_other _ _ _ _ hne), Dev.lSupply, Dev.wrFs]
    have hsupply : n < (d.lSupply n isup limUs).lop.ins.length := hn
    rw [li_setLi_same _ ((length_upd _ _ _).symm ▸ hsupply), li_setLi_same _ hsupply, hholder]
    rfl

/-- The run of a band under its persistence. -/
theorem persisted_eq (ms k : Nat) : persisted ms k = decide (k ≥ 1 ∧ (k - 1) * ms ≥ 50) := by simp [persisted]

theorem loopBand_zero {raw : Int} : loopBand raw = 0 ↔ raw ≤ 3600000 := by
  unfold loopBand
  repeat' split
  all_goals omega

theorem loopBand_four {raw : Int} : loopBand raw = 4 ↔ 21000000 ≤ raw := by
  unfold loopBand
  repeat' split
  all_goals omega

theorem loopBand_low {raw : Int} : loopBand raw ≤ 1 ↔ raw < 3800000 := by
  unfold loopBand
  repeat' split
  all_goals omega

theorem loopBand_high {raw : Int} : loopBand raw ≥ 3 ↔ raw > 20500000 := by
  unfold loopBand
  repeat' split
  all_goals omega

theorem loRun_eq (d : Dev) (n : Nat) (raw : Int) :
    d.loRun n raw = if raw ≤ 3600000 then min 255 ((d.li n).lo + 1) else 0 := by
  simp only [Dev.loRun, loopBand_zero, satInc_eq]

theorem hiRun_eq (d : Dev) (n : Nat) (raw : Int) :
    d.hiRun n raw = if 21000000 ≤ raw then min 255 ((d.li n).hi + 1) else 0 := by
  simp only [Dev.hiRun, loopBand_four, satInc_eq]

/-- On a 4-wire input no supply judges the conversion. -/
theorem convStatus_fourWire {d : Dev} {n : Nat} (hmode : (d.lrec n).mode = 2) (raw isup : Int) (limUs : Nat) :
    d.misRun n raw isup limUs = 0 ∧ d.convStatus n raw isup limUs =
      (if (d.li n).clamp then 5 else if d.loRun n raw ≥ 1 ∧ (d.loRun n raw - 1) * (d.lrec n).tliMs ≥ 50 then 3
        else if d.hiRun n raw ≥ 1 ∧ (d.hiRun n raw - 1) * (d.lrec n).tliMs ≥ 50 then 4
        else if raw < 3800000 then 2 else if raw > 20500000 then 1 else 0) := by
  have hmis : d.misRun n raw isup limUs = 0 := by simp [Dev.misRun, hmode]
  refine ⟨hmis, ?_⟩
  simp only [Dev.convStatus, loopStatus, hmis, hmode, persisted_eq, decide_eq_true_eq, loopBand_low, loopBand_high]
  rfl

/-- While the supply starts up or goes down a 2-wire input without a run shows TRANSIT. -/
theorem convStatus_transit {d : Dev} {n : Nat} (hmode : (d.lrec n).mode = 1) (hrole : d.role = 1)
    (hclamp : (d.li n).clamp = false) (hlo : (d.li n).lo = 0) (hhi : (d.li n).hi = 0) (hmis : (d.li n).mis = 0)
    (htransit : d.rdF (R.LOP_SUPCTRL n) F.LOP_SUPCTRL_STATE = 1 ∨ (d.li n).tstart = true) (raw isup : Int) :
    d.convStatus n raw isup 0 = 8 := by
  have hrun {k : Nat} (hk : k ≤ 1) : persisted (d.lrec n).tliMs k = false := by
    rw [persisted_eq, Nat.sub_eq_zero_of_le hk]
    simp
  have hlim : (d.supplyValues n isup 0).2.1 = 0 := by simp [Dev.supplyValues, Dev.holder, hrole]
  have hlorun : d.loRun n raw ≤ 1 := by
    rw [Dev.loRun, hlo]
    split <;> simp [satInc]
  have hhirun : d.hiRun n raw ≤ 1 := by
    rw [Dev.hiRun, hhi]
    split <;> simp [satInc]
  have hmisrun : d.misRun n raw isup 0 ≤ 1 := by
    rw [Dev.misRun, hmis]
    split <;> simp [satInc]
  simp only [Dev.convStatus, loopStatus, hclamp, hrun hlorun, hrun hhirun, hrun hmisrun, hlim, hmode]
  rcases htransit with h | h <;> simp [h]

theorem loopStatus_lt (clamp lim mis lo hi transit : Bool) (band : Nat) :
    loopStatus clamp lim mis lo hi transit band < 16 := by
  unfold loopStatus
  repeat' split
  all_goals decide

/-- What a conversion of LIn leaves: its status, its runs, and the value of a release with one. -/
theorem lConvEnd_shows {d : Dev} {n : Nat} (h16 : n < 16) (hmode : (d.lrec n).mode ≠ 0) (hrunning : d.lop.running = true)
    (hn : n < d.lop.ins.length) (raw isup : Int) (limUs : Nat) {st : Nat} (hst : d.convStatus n raw isup limUs = st) :
    (d.lConvEnd n raw isup limUs).rdF (R.LOP_STS n) F.LOP_STS_STATUS = st ∧
    ((d.lConvEnd n raw isup limUs).li n).clamp = false ∧
    ((d.lConvEnd n raw isup limUs).li n).reload = decide (st > 2) ∧
    (st ≠ 8 → ((d.lConvEnd n raw isup limUs).li n).lo = d.loRun n raw ∧
      ((d.lConvEnd n raw isup limUs).li n).hi = d.hiRun n raw) ∧
    (st = 8 → ((d.lConvEnd n raw isup limUs).li n).lo = 0 ∧ ((d.lConvEnd n raw isup limUs).li n).hi = 0 ∧
      ((d.lConvEnd n raw isup limUs).li n).mis = 0 ∧ ((d.lConvEnd n raw isup limUs).li n).sinceTr = 0) ∧
    (st ≤ 2 → (d.lConvEnd n raw isup limUs).rd (R.LOP_RAW n) = wordOfInt raw ∧
      (d.lConvEnd n raw isup limUs).rd (R.LOP_VAL n) = wordOfInt (if (d.li n).reload then raw
        else damp ((d.lrec n).tliMs / 10) (d.lrec n).td raw (signed 32 (d.rd (R.LOP_VAL n)).toNat))) ∧
    (st > 2 → (d.lConvEnd n raw isup limUs).rd (R.LOP_RAW n) = d.rd (R.LOP_RAW n) ∧
      (d.lConvEnd n raw isup limUs).rd (R.LOP_VAL n) = d.rd (R.LOP_VAL n)) := by
  have hst16 : st < 16 := hst ▸ loopStatus_lt _ _ _ _ _ _ _
  obtain ⟨e, heq, hlen, hrd, hli⟩ := lConvEnd_release h16 hmode hrunning hn raw isup limUs
  rw [hst] at heq hli
  rw [heq]
  generalize (if (d.li n).reload then raw else damp ((d.lrec n).tliMs / 10) (d.lrec n).td raw
    (signed 32 (d.rd (R.LOP_VAL n)).toNat)) = value
  obtain ⟨hstatus, hvalues⟩ := lRelease_shows (d := e) st raw value h16 hst16
  obtain ⟨rel, flt, hreleased⟩ := li_lRelease e n st raw value (hlen ▸ hn)
  rw [hreleased, hli]
  refine ⟨hstatus, rfl, rfl, fun h8 => ?_, fun h8 => ?_, hvalues, fun hgt => ?_⟩
  · simp only [LoopIn.ran, if_neg h8, and_self]
  · simp only [LoopIn.ran, if_pos h8, and_self]
  · have hleaves := lRelease_leaves (A := fun a => a = R.LOP_RAW n ∨ a = R.LOP_VAL n) (d := e) (n := n) st raw value
      (fun q hq h => by simp only [R.HST_QSTAT, R.LOP_RAW, R.LOP_VAL] at h; omega)
      (by simp only [R.LOP_RAW, R.LOP_STS, R.LOP_VAL]; omega) (by simp only [R.LOP_RAW, R.LOP_STAT, R.LOP_VAL]; omega)
      (fun hle => absurd hgt (Nat.not_lt.2 hle))
    refine ⟨?_, ?_⟩
    · rw [hleaves.rd _ (.inl rfl) (by simp only [R.LOP_RAW]; omega), hrd _ (by simp only [R.LOP_RAW, R.LOP_SUPI]; omega)]
    · rw [hleaves.rd _ (.inr rfl) (by simp only [R.LOP_VAL]; omega), hrd _ (by simp only [R.LOP_VAL, R.LOP_SUPI]; omega)]

/-- Settles O27: a conversion is the counting of its runs and one release of the status that they give. -/
theorem loopInputConversions : Obligations.LoopInputConversions := by
  unfold Obligations.LoopInputConversions
  refine ⟨fun s n raw isup limUs hup hlen hrunning hmode => ?_, fun s n raw isup hup hlen hrunning hmode hrole hclamp hlo hhi
    hmis htransit => ?_, fun s n hup => exec_of_up hup (f := fun d => d.lTstartEnd n.val) rfl rfl, fun s k hup => ⟨fun hk => ?_, fun hk => ?_⟩⟩
  · obtain ⟨-, hconv⟩ := convStatus_fourWire hmode raw isup limUs
    have hshows := lConvEnd_shows n.isLt (by omega) hrunning (by omega) raw isup limUs hconv
    simp only [loRun_eq, hiRun_eq] at hshows
    obtain ⟨hstatus, hclamp, hreload, hruns, -, hvalue, hkept⟩ := hshows
    obtain ⟨hlo, hhi⟩ := hruns (by repeat' split
                                   all_goals decide)
    exact completes_of_up hup (f := fun d => d.lConvEnd n.val raw isup limUs) rfl
      ⟨hstatus, hlo, hhi, hclamp, hreload, hvalue, hkept⟩
  · have hconv := convStatus_transit hmode hrole hclamp hlo hhi hmis htransit raw isup
    obtain ⟨hstatus, -, -, -, hruns, -, hkept⟩ := lConvEnd_shows n.isLt (by omega) hrunning (by omega) raw isup 0 hconv
    obtain ⟨hlo', hhi', hmis', htr⟩ := hruns rfl
    exact completes_of_up hup (f := fun d => d.lConvEnd n.val raw isup 0) rfl
      ⟨hstatus, hlo', hhi', hmis', htr, (hkept (by decide)).2⟩
  · exact exec_of_up hup (f := fun d => d.lClamp k.val) rfl (if_pos hk)
  · exact exec_of_up hup (f := fun d => d.lClamp k.val) rfl (if_neg (Nat.not_lt.2 hk))

end Sys2Proof.Machine
end

section
/-!
PROOFS. HART on the loop inputs (R197 to R199).
-/
namespace Sys2Proof.Machine

section
variable {d : Dev} {n : Nat} (f : Hart → Hart)

theorem hart_setHart_same (hn : n < d.lop.ins.length) : (d.setHart n f).hart n = f (d.hart n) :=
  congrArg LoopIn.hart (li_setLi_same _ hn)

@[simp] theorem setHart_rd (a : Nat) : (d.setHart n f).rd a = d.rd a := rfl

@[simp] theorem setHart_queue (q : Nat) : (d.setHart n f).queue q = d.queue q := rfl

@[simp] theorem setHart_evPending (m : Nat) : (d.setHart n f).evPending m = d.evPending m := rfl

@[simp] theorem length_setHart : (d.setHart n f).lop.ins.length = d.lop.ins.length := length_upd _ _ _

end

/-- The running transaction ends, and the next of those that wait is in hand. -/
theorem run_over {h : Hart} {tx : HartTx} (hrun : h.run = some tx) : (h.over tx).run = h.waits.head? := by
  simp [Hart.over, hrun]

/-- The head of the channel's queue starts. -/
theorem hartStart_head {d : Dev} {n : Nat} {e : QElem} {es : List QElem} (hq : d.queue (16 + n) = e :: es)
    (hholder : d.holder = true) (hhart : (d.lrec n).hart ≠ 0) (hidle : (d.hart n).run = none) :
    d.hartStart n = (d.pop (16 + n)).setHart n (fun h => { h with run := some (d.hartTx n e.bytes e.ref false) }) := by
  simp [Dev.hartStart, hq, hholder, hhart, hidle]

section
variable {d : Dev} {n : Nat} {tx : HartTx}

/-- A time-out with attempts left sends the request again. -/
theorem hartTimeout_again (hrun : (d.hart n).run = some tx) (hwait : tx.waitOnly = false) (htries : tx.tries ≤ tx.retry) :
    d.hartTimeout n = (((d.incF (R.LOP_HCNT n) F.LOP_HCNT_TIMEOUTS).incF (R.LOP_HCNT n) F.LOP_HCNT_RETRIES).setHart n
      (fun h => { h with run := some { tx with tries := tx.tries + 1 } })) := by
  simp [Dev.hartTimeout, hrun, Dev.hartRetry, hwait, htries]

/-- The last time-out ends the transaction with COMMERR and EV98. -/
theorem hartTimeout_last (hrun : (d.hart n).run = some tx) (hwait : tx.waitOnly = false) (href : tx.ref = none)
    (htries : tx.retry < tx.tries) : d.hartTimeout n =
      ((d.incF (R.LOP_HCNT n) F.LOP_HCNT_TIMEOUTS).setHart n (fun h => h.over tx)).flagEv (R.LOP_HSTAT n) 22 98 := by
  simp [Dev.hartTimeout, hrun, Dev.hartRetry, hwait, Nat.not_le.2 htries, Dev.hartDone, href]

end

theorem lopHstat_low {n : Nat} (hn : n < 16) : R.LOP_HSTAT n < 0x170000 := by
  simp only [R.LOP_HSTAT]
  omega

/-- The status of the variables that a channel shows. -/
def Dev.hartShown (d : Dev) (n : Nat) : Nat :=
  if bitOf (d.rdF (R.LOP_HSTAT n) F.LOP_HSTAT_FDSTAT) 7 then 4
  else if (d.hart n).stale then 3 else if (d.hart n).updated then 0 else 0xF

theorem hartStatus_spec (d : Dev) {n : Nat} (hn : n < 16) :
    (d.hartStatus n).rdF (R.LOP_HSTAT n) F.LOP_HSTAT_VSTATUS = d.hartShown n ∧
    (d.hartStatus n).rdF (R.LOP_HSTAT n) F.LOP_HSTAT_FDSTAT = d.rdF (R.LOP_HSTAT n) F.LOP_HSTAT_FDSTAT ∧
    (d.hartStatus n).lop = d.lop ∧
    (d.hartShown n = 3 → d.rdF (R.LOP_HSTAT n) F.LOP_HSTAT_VSTATUS ≠ 3 → (d.hartStatus n).evPending 96 = true) := by
  have hlow := lopHstat_low hn
  have hlt : d.hartShown n < 16 := by
    unfold Dev.hartShown
    repeat' split
    all_goals decide
  have hstatus : d.hartStatus n = if d.hartShown n = 3 ∧ d.rdF (R.LOP_HSTAT n) F.LOP_HSTAT_VSTATUS ≠ 3 then
      (d.wrF (R.LOP_HSTAT n) F.LOP_HSTAT_VSTATUS (d.hartShown n)).flagEv (R.LOP_HSTAT n) 23 96
      else d.wrF (R.LOP_HSTAT n) F.LOP_HSTAT_VSTATUS (d.hartShown n) := rfl
  have hshown : (d.wrF (R.LOP_HSTAT n) F.LOP_HSTAT_VSTATUS (d.hartShown n)).rdF (R.LOP_HSTAT n) F.LOP_HSTAT_VSTATUS
      = d.hartShown n := rdF_wrF_of_lt d _ _ (by decide) hlt
  have hfd : (d.wrF (R.LOP_HSTAT n) F.LOP_HSTAT_VSTATUS (d.hartShown n)).rdF (R.LOP_HSTAT n) F.LOP_HSTAT_FDSTAT
      = d.rdF (R.LOP_HSTAT n) F.LOP_HSTAT_FDSTAT := rdF_wrF_apart d _ _ _ (by decide) _
  rw [hstatus]
  split
  case isTrue h =>
    exact ⟨(rdF_flagEv_apart _ hlow 23 96 _ (by decide) (by decide)).trans hshown,
      (rdF_flagEv_apart _ hlow 23 96 _ (by decide) (by decide)).trans hfd, by simp, fun _ _ =>
      evPending_flagEv_same _ _ _ (by decide)⟩
  case isFalse h => exact ⟨hshown, hfd, rfl, fun h3 hold => absurd ⟨h3, hold⟩ h⟩

/-- A response without variables shows its field-device status. -/
theorem hartDecode_spec (d : Dev) {n : Nat} (hn : n < 16) {f : HartFrame} (hfd : f.fd < 256) (hoff : hartOffsets f.cmd = []) :
    (d.hartDecode n f).lop = d.lop ∧ (d.hartDecode n f).rdF (R.LOP_HSTAT n) F.LOP_HSTAT_FDSTAT = f.fd ∧
    (128 ≤ f.fd → (d.hartDecode n f).rdF (R.LOP_HSTAT n) F.LOP_HSTAT_VSTATUS = 4) := by
  have hnone : hartDecodes f = false := by simp [hartDecodes, hoff]
  obtain ⟨e, he, hlop, hshown⟩ : ∃ e : Dev, d.hartDecode n f = e.hartStatus n ∧ e.lop = d.lop ∧
      e.rdF (R.LOP_HSTAT n) F.LOP_HSTAT_FDSTAT = f.fd := by
    have hset : (d.wrF (R.LOP_HSTAT n) F.LOP_HSTAT_FDSTAT f.fd).rdF (R.LOP_HSTAT n) F.LOP_HSTAT_FDSTAT = f.fd :=
      rdF_wrF_of_lt d _ _ (by decide) hfd
    unfold Dev.hartDecode
    simp only [hnone, Bool.false_and, Bool.false_eq_true, if_false]
    refine ⟨_, rfl, ?_, ?_⟩
    · split <;> simp
    · split
      · exact (rdF_flagEv_apart _ (lopHstat_low hn) 21 97 _ (by decide) (by decide)).trans hset
      · exact hset
  obtain ⟨hstatus, hkeep, hsame, -⟩ := hartStatus_spec e hn
  rw [he]
  refine ⟨hsame.trans hlop, hkeep.trans hshown, fun h128 => hstatus.trans ?_⟩
  have hbit : bitOf f.fd 7 = true := by
    simp only [bitOf, beq_iff_eq]
    omega
  rw [Dev.hartShown, hshown, if_pos hbit]

/-- The response to the running request: it decodes, and ends the transaction. -/
theorem hartFrame_answer {d : Dev} {n : Nat} {tx : HartTx} {bytes : List Byte} {f : HartFrame}
    (hhart : (d.lrec n).hart ≠ 0) (hcopy : tx.copy = false) (hrun : (d.hart n).run = some tx) (href : tx.ref = none)
    (hparse : hartParse bytes = some f) (hchecked : hartChecked bytes = true) (hkind : f.kind = 6)
    (hanswers : hartAnswers tx f = true) (hn : n < 16) (hfd : f.fd < 256) (hoff : hartOffsets f.cmd = [])
    (hlen : n < d.lop.ins.length) :
    ((d.hartFrame n bytes false).hart n).run = (d.hart n).waits.head? ∧
    (d.hartFrame n bytes false).rdF (R.LOP_HSTAT n) F.LOP_HSTAT_FDSTAT = f.fd ∧
    (128 ≤ f.fd → (d.hartFrame n bytes false).rdF (R.LOP_HSTAT n) F.LOP_HSTAT_VSTATUS = 4) := by
  obtain ⟨e, he, herun, hewaits, helen, herec⟩ : ∃ e : Dev, e = (if (d.hart n).opened.isEmpty then d
      else d.setHart n (fun h => { h with seen := h.seen ++ [(bytes, false)] })) ∧ (e.hart n).run = some tx ∧
      (e.hart n).waits = (d.hart n).waits ∧ n < e.lop.ins.length ∧ e.lrec n = d.lrec n := by
    refine ⟨_, rfl, ?_⟩
    split
    · exact ⟨hrun, rfl, hlen, rfl⟩
    · rw [hart_setHart_same _ hlen]
      exact ⟨hrun, rfl, by rw [length_setHart]; exact hlen, rfl⟩
  obtain ⟨hlop, hshown, hmal⟩ := hartDecode_spec e hn hfd hoff
  have hhart' : (e.hartDecode n f).hart n = e.hart n := by rw [Dev.hart, Dev.li, hlop, ← Dev.li, ← Dev.hart]
  have hframe : d.hartFrame n bytes false = (e.hartDecode n f).setHart n (fun h => h.over tx) := by
    have hbad : (false || ((hartParse bytes).isSome && !hartChecked bytes)) = false := by rw [hchecked]; simp
    simp only [Dev.hartFrame, hbad, hrun]
    rw [if_neg (by simp), ← he]
    simp [hparse, hkind, hhart, herun, hanswers, href, hcopy, Dev.hartDone]
  rw [hframe, hart_setHart_same _ (by rw [hlop]; exact helen), run_over (by rw [hhart', herun]), hhart', hewaits]
  exact ⟨rfl, hshown, hmal⟩

/-- A poll's element of Q(16 + n): no command ID, the address form, the poll command without data. -/
def Dev.pollBytes (d : Dev) (n : Nat) : List Byte :=
  leBytes 4 0 ++ [byteOf (b2n (d.lrec n).long), byteOf (d.lrec n).pcmd, 0, 0] ++
    (if (d.lrec n).long then (d.lrec n).uid else [0])

theorem elemSize_hart : ∀ n : Fin 16, elemSize (16 + n.val) = 256 := by decide

theorem hartPoll_idle {d : Dev} {n : Nat} (h : (d.lrec n).hart = 0 ∨ (d.lrec n).pcmd = 0xFF ∨ d.holder = false ∨
    d.hartPolling n = true) : d.hartPoll n = d := by
  have hidle : (d.lrec n).hart = 0 ∨ (d.lrec n).pcmd = 0xFF ∨ ¬ d.holder ∨ d.hartPolling n := by simpa using h
  exact if_pos hidle

section
variable {d : Dev} {n : Nat} (hhart : (d.lrec n).hart ≠ 0) (hpcmd : (d.lrec n).pcmd ≠ 0xFF) (hholder : d.holder = true)
  (hpolling : d.hartPolling n = false)
include hhart hpcmd hholder hpolling

theorem hartPoll_due : d.hartPoll n = if d.hasFree (16 + n) then d.push (16 + n) (d.pollBytes n) none
    else ((d.refuse (16 + n)).incF (R.LOP_HCNT n) F.LOP_HCNT_POLLSKIP).raise 102 := by
  simp only [Dev.hartPoll, hhart, hpcmd, hholder, hpolling, not_true, or_self, if_false, Bool.false_eq_true]
  rfl

/-- A poll with room beside the commands' reserve is queued behind the other elements. -/
theorem hartPoll_queued (hn : n < 16) (hlen : d.queues.q.length = 64) (hlt : (d.lrec n).pcmd < 256)
    (hfree : d.hasFree (16 + n) = true) : ∃ e, (d.hartPoll n).queue (16 + n) = d.queue (16 + n) ++ [e] ∧ e.ref = none ∧
      hartCmd e.bytes = (d.lrec n).pcmd ∧ e.bytes.length = 256 := by
  have hroom : (d.queue (16 + n)).length < queueDepth (16 + n) := by
    have := of_decide_eq_true hfree
    omega
  have hsize : elemSize (16 + n) = 256 := elemSize_hart ⟨n, hn⟩
  refine ⟨d.elem (padTo (elemSize (16 + n)) (d.pollBytes n)) none, ?_, rfl, ?_, ?_⟩
  · rw [hartPoll_due hhart hpcmd hholder hpolling, if_pos hfree, push_of_room _ _ hroom]
    exact queue_setQueue_same d _ (by omega)
  · rw [hsize]
    simp only [hartCmd, Dev.elem, byteAt, padTo, Dev.pollBytes, leBytes, List.cons_append, List.nil_append, List.take_succ_cons]
    simp [byteOf, Nat.mod_eq_of_lt hlt]
  · rw [hsize]
    exact length_padTo 256 _

/-- A poll without that room is skipped, and counted. -/
theorem hartPoll_skipped (hn : n < 16) (hfull : d.hasFree (16 + n) = false) :
    (d.hartPoll n).rdF (R.LOP_HCNT n) F.LOP_HCNT_POLLSKIP = min 255 (d.rdF (R.LOP_HCNT n) F.LOP_HCNT_POLLSKIP + 1) ∧
    (d.hartPoll n).evPending 102 = true ∧ (d.hartPoll n).queue (16 + n) = d.queue (16 + n) := by
  have hlow : R.LOP_HCNT n < 0x170000 := by
    simp only [R.LOP_HCNT]
    omega
  have hskip : d.hartPoll n = ((d.refuse (16 + n)).incF (R.LOP_HCNT n) F.LOP_HCNT_POLLSKIP).raise 102 := by
    rw [hartPoll_due hhart hpcmd hholder hpolling, hfull]
    rfl
  have hne : R.LOP_HCNT n ≠ R.HST_QSTAT (16 + n) := by
    simp only [R.LOP_HCNT, R.HST_QSTAT]
    omega
  rw [hskip]
  refine ⟨?_, evPending_raise_same _ (by decide), ?_⟩
  · rw [rdF_raise_low _ _ hlow, rdF_incF_byte _ _ _ (by decide) rfl, Dev.refuse, rdF_raise_low _ _ hlow,
      rdF_flag_other _ _ _ _ _ hne]
  · rw [queue_raise_other _ _ (by omega)]
    exact (queue_raise_other _ 249 (by omega)).trans (queue_flag _ _ _ _)

end

/-- Settles O28: a transaction starts, is retried, ends and is polled for by one operation each. -/
theorem hartTransactions : Obligations.HartTransactions := by
  unfold Obligations.HartTransactions
  refine ⟨fun s n e es hup hqueues hlen hq hholder hhart hidle => ?_, fun s n tx hup hlen hrun hwait href => ⟨fun htries => ?_,
    fun htries => ?_⟩, fun s n tx bytes f hup hlen hhart hcopy hrun href hparse hchecked hkind hanswers hfd hoff => ?_,
    fun s n hup hqueues => ?_, fun s n hup hlen hhart hstale => ?_⟩
  · refine completes_of_up hup (f := fun d => d.hartStart n.val) rfl ?_
    have hn : n.val < (s.dev.pop (16 + n.val)).lop.ins.length := by
      show n.val < s.dev.lop.ins.length
      omega
    rw [hartStart_head hq hholder hhart hidle, hart_setHart_same _ hn, setHart_queue, queue_pop_same (by rw [hq]; simp), hq]
    exact ⟨rfl, rfl, rfl⟩
  · refine completes_of_up hup (f := fun d => d.hartTimeout n.val) rfl ?_
    rw [hartTimeout_again hrun hwait htries, hart_setHart_same]
    · refine ⟨rfl, ?_⟩
      rw [rdF_congr (setHart_rd _ _), rdF_incF_byte _ _ _ (by decide) rfl, rdF_incF_apart _ _ _ _ (by decide)]
    · simpa [Dev.incF] using by omega
  · refine completes_of_up hup (f := fun d => d.hartTimeout n.val) rfl ?_
    rw [hartTimeout_last hrun hwait href htries]
    refine ⟨?_, rdF_flagEv_same _ (lopHstat_low n.isLt) (by decide) _, evPending_flagEv_same _ _ _ (by decide)⟩
    have hhart (e : Dev) (a b ev : Nat) : (e.flagEv a b ev).hart n.val = e.hart n.val := by simp [Dev.hart, Dev.li]
    rw [hhart, hart_setHart_same]
    · exact run_over hrun
    · simpa [Dev.incF] using by omega
  · exact completes_of_up hup (f := fun d => d.hartFrame n.val bytes false) rfl
      (hartFrame_answer hhart hcopy hrun href hparse hchecked hkind hanswers n.isLt hfd hoff (by omega))
  · intro r
    exact ⟨fun hidle => exec_keeps (f := fun d => d.hartPoll n.val) rfl (hartPoll_idle hidle),
      fun hhart hpcmd hlt hholder hpolling hfree => completes_of_up hup (f := fun d => d.hartPoll n.val) rfl
        (hartPoll_queued hhart hpcmd hholder hpolling n.isLt hqueues hlt hfree),
      fun hhart hpcmd hholder hpolling hfull => completes_of_up hup (f := fun d => d.hartPoll n.val) rfl
        (hartPoll_skipped hhart hpcmd hholder hpolling n.isLt hfull)⟩
  · refine completes_of_up hup (f := fun d => d.hartStale n.val) rfl ?_
    have heq : s.dev.hartStale n.val = (s.dev.setHart n.val (fun h => { h with stale := true })).hartStatus n.val :=
      if_neg (by simp [hhart, hstale])
    obtain ⟨hstatus, -, -, hev⟩ := hartStatus_spec (s.dev.setHart n.val (fun h => { h with stale := true })) n.isLt
    have hshown : (s.dev.setHart n.val (fun h => { h with stale := true })).hartShown n.val =
        if bitOf (s.dev.rdF (R.LOP_HSTAT n.val) F.LOP_HSTAT_FDSTAT) 7 then 4 else 3 := by
      rw [Dev.hartShown, hart_setHart_same _ (by omega)]
      rfl
    rw [heq]
    refine ⟨hstatus.trans hshown, fun hbit hold => hev ?_ hold⟩
    rw [hshown, hbit]
    rfl

end Sys2Proof.Machine
end

section
/-!
PROOFS. Excitation channels (chapter 06). First, what changes leave of the fields of registers below the host port's.
-/
namespace Sys2Proof.Machine

/-! Changes that leave fields alone -/

/-- A change of the device that leaves the fields of a list as they were, and clears no pending bit. -/
structure LeavesFields (l : List (Nat × Field)) (d e : Dev) : Prop where
  of ::
  field : ∀ x ∈ l, e.rdF x.1 x.2 = d.rdF x.1 x.2
  pend : ∀ m, m < 256 → d.evPending m = true → e.evPending m = true

/-- The fields of a list lie below the host port's registers. -/
def FieldsLow (l : List (Nat × Field)) : Prop := ∀ x ∈ l, x.1 < 0x170000

/-- No field of a list meets a field of a register. -/
def FieldsClear (l : List (Nat × Field)) (a : Nat) (g : Field) : Prop :=
  ∀ x ∈ l, x.1 = a → x.2.lo + x.2.width ≤ g.lo ∨ g.lo + g.width ≤ x.2.lo

/-- No field of a list is of a register. -/
def FieldsOff (l : List (Nat × Field)) (a : Nat) : Prop := ∀ x ∈ l, x.1 ≠ a

/-- No field of a list meets a flag of a register, or its SEQ. -/
def FieldsUnflagged (l : List (Nat × Field)) (a b : Nat) : Prop :=
  ∀ x ∈ l, x.1 = a → x.2.lo + x.2.width ≤ 24 ∧ (x.2.lo + x.2.width ≤ b ∨ b + 1 ≤ x.2.lo)

section
variable {l : List (Nat × Field)} {z d e : Dev}

theorem LeavesFields.refl (l : List (Nat × Field)) (d : Dev) : LeavesFields l d d := ⟨fun _ _ => rfl, fun _ _ h => h⟩

theorem LeavesFields.trans {f : Dev} (h : LeavesFields l d e) (k : LeavesFields l e f) : LeavesFields l d f :=
  ⟨fun x hx => (k.field x hx).trans (h.field x hx), fun m hm hp => k.pend m hm (h.pend m hm hp)⟩

/-- A change of other parts than the registers. -/
theorem LeavesFields.of_regs (k : LeavesFields l z d) (h : e.regs = d.regs) : LeavesFields l z e :=
  k.trans ⟨fun _ _ => rdF_congr (rd_of_regs h _) _, fun _ _ hp => (evPending_congr (rd_of_regs h _)).trans hp⟩

theorem LeavesFields.ite {f : Dev} {c : Prop} [Decidable c] (h : LeavesFields l d e) (k : LeavesFields l d f) :
    LeavesFields l d (if c then e else f) := by
  split <;> assumption

theorem LeavesFields.foldl {α : Type} {f : Dev → α → Dev} {as : List α} (k : LeavesFields l z d)
    (h : ∀ d x, x ∈ as → LeavesFields l z d → LeavesFields l z (f d x)) : LeavesFields l z (as.foldl f d) := by
  induction as generalizing d with
  | nil => exact k
  | cons x t ih => exact ih (h d x List.mem_cons_self k) (fun d y hy => h d y (List.mem_cons_of_mem x hy))

theorem wr_fields {a : Nat} (ha : a < 0x170000) (hoff : FieldsOff l a) (w : Word) (k : LeavesFields l z d) :
    LeavesFields l z (d.wr a w) :=
  k.trans ⟨fun x hx => rdF_congr (rd_wr_other d a _ w (hoff x hx)) _,
    fun m _ hp => (evPending_wr_other d a w m (by simp only [R.HST_EVPEND]; omega)).trans hp⟩

theorem wrF_fields {a : Nat} (ha : a < 0x170000) {g : Field} (hclear : FieldsClear l a g) (v : Nat)
    (k : LeavesFields l z d) : LeavesFields l z (d.wrF a g v) :=
  k.trans ⟨fun x hx => by
    by_cases hxa : x.1 = a
    · rw [hxa]
      exact rdF_wrF_apart d a x.2 g (hclear x hx hxa) v
    · exact rdF_wrF_other d a x.1 x.2 g v hxa, fun m _ hp => (evPending_wrF_low d ha g v m).trans hp⟩

theorem wrFs_fields {a : Nat} (ha : a < 0x170000) (hoff : FieldsOff l a) (fs : List (Field × Nat))
    (k : LeavesFields l z d) : LeavesFields l z (d.wrFs a fs) := wr_fields ha hoff _ k

theorem incF_fields {a : Nat} (ha : a < 0x170000) {g : Field} (hclear : FieldsClear l a g) (k : LeavesFields l z d) :
    LeavesFields l z (d.incF a g) := wrF_fields ha hclear _ k

theorem flag_fields {a b : Nat} (ha : a < 0x170000) (hflag : FieldsUnflagged l a b) (k : LeavesFields l z d) :
    LeavesFields l z (d.flag a b) :=
  k.trans ⟨fun x hx => by
    by_cases hxa : x.1 = a
    · obtain ⟨hseq, hbit⟩ := hflag x hx hxa
      rw [hxa]
      exact rdF_flag_apart d a b x.2 hseq hbit
    · exact rdF_flag_other d a b x.1 x.2 hxa,
    fun m _ hp => (evPending_wr_other d a _ m (by simp only [R.HST_EVPEND]; omega)).trans hp⟩

theorem raise_fields (hl : FieldsLow l) (n : Nat) (k : LeavesFields l z d) : LeavesFields l z (d.raise n) :=
  k.trans ⟨fun x hx => rdF_raise_low d n (hl x hx) _, fun _ hm hp => evPending_raise_of hm (.inr hp)⟩

theorem raiseIf_fields (hl : FieldsLow l) (b : Bool) (n : Nat) (k : LeavesFields l z d) :
    LeavesFields l z (d.raiseIf b n) := LeavesFields.ite (raise_fields hl n k) k

theorem flagEv_fields (hl : FieldsLow l) {a b : Nat} (ha : a < 0x170000) (hflag : FieldsUnflagged l a b) (n : Nat)
    (k : LeavesFields l z d) : LeavesFields l z (d.flagEv a b n) := raise_fields hl n (flag_fields ha hflag k)

theorem LeavesFields.field_eq (k : LeavesFields l d e) {a : Nat} {f : Field} (h : (a, f) ∈ l) : e.rdF a f = d.rdF a f :=
  k.field (a, f) h

/-- A register is the field of all its bits. -/
theorem rd_of_full {a : Nat} (h : e.rdF a ⟨0, 32⟩ = d.rdF a ⟨0, 32⟩) : e.rd a = d.rd a := by
  apply BitVec.eq_of_toNat_eq
  have hw (w : Word) : getF ⟨0, 32⟩ w = w.toNat := by
    rw [getF, Nat.pow_zero, Nat.div_one, Nat.mod_eq_of_lt w.isLt]
  rwa [Dev.rdF, Dev.rdF, hw, hw] at h

end

/-! The state of a channel -/

theorem foldl_xch {α : Type} (l : List α) {f : Dev → α → Dev} (h : ∀ d x, (f d x).xch = d.xch) (d : Dev) :
    (l.foldl f d).xch = d.xch := by
  induction l generalizing d with
  | nil => rfl
  | cons x t ih => exact (ih (f d x)).trans (h d x)

section
variable {d : Dev} {n : Nat} (f : XChan → XChan)

theorem xc_setXc_same (hn : n < d.xch.length) : (d.setXc n f).xc n = f (d.xc n) := getD_upd_same _ f _ hn

@[simp] theorem length_setXc : (d.setXc n f).xch.length = d.xch.length := length_upd _ _ _

end

/-- A release notes whether a sensor fault stands, and the TRIM it was measured with. -/
theorem xc_xRelease (d : Dev) {n : Nat} (hn : n < d.xch.length) (st : Nat) (v aux : Int) :
    (d.xRelease n st v aux).xc n = { d.xc n with
      faulted := xFault st || ((d.xc n).faulted && decide (2 < st))
      relTrim := d.rdF (R.XCH_TRIM n) F.XCH_TRIM_TRIM } ∧
    (d.xRelease n st v aux).xch.length = d.xch.length := by
  have hxch : (d.xRelease n st v aux).xch = (d.setXc n (fun x => { x with
      faulted := xFault st || (x.faulted && decide (2 < st)), relTrim := d.rdF (R.XCH_TRIM n) F.XCH_TRIM_TRIM })).xch := by
    unfold Dev.xRelease
    extract_lets old again trim d1 d2 d3 d4 d5 d6 d7
    have h4 : d4.xch = d1.xch := by
      unfold d4
      split
      · rfl
      · split <;> rfl
    simp only [raiseIf_frame, d7, d6, d5, h4]
    rfl
  rw [Dev.xc, hxch]
  exact ⟨xc_setXc_same _ hn, length_setXc _⟩

/-- The places of a channel's registers. -/
theorem xch_low {n : Nat} (hn : n < 8) : R.XCH_STS n < 0x170000 ∧ R.XCH_VAL n < 0x170000 ∧ R.XCH_AUX n < 0x170000 ∧
    R.XCH_CNT n < 0x170000 ∧ R.XCH_DRVMON n < 0x170000 ∧ R.XCH_TRIM n < 0x170000 ∧ R.XCH_CTRL n < 0x170000 := by
  simp only [R.XCH_STS, R.XCH_VAL, R.XCH_AUX, R.XCH_CNT, R.XCH_DRVMON, R.XCH_TRIM, R.XCH_CTRL]
  omega

/-- A release writes the status, the fault map, and the values of one with a value. -/
theorem xRelease_fields {l : List (Nat × Field)} (hl : FieldsLow l) {z d : Dev} {n : Nat} (hn : n < 8) (st : Nat) (v aux : Int)
    (hsts : FieldsClear l (R.XCH_STS n) F.XCH_STS_STATUS) (hstat : FieldsClear l R.XCH_STAT ⟨n, 1⟩)
    (hvalues : st ≤ 2 → FieldsOff l (R.XCH_VAL n) ∧ FieldsOff l (R.XCH_AUX n))
    (hflag : 2 < st → FieldsUnflagged l (R.XCH_STS n) 23) (k : LeavesFields l z d) :
    LeavesFields l z (d.xRelease n st v aux) := by
  obtain ⟨hlsts, hlval, hlaux, -⟩ := xch_low hn
  unfold Dev.xRelease
  extract_lets old again trim d1 d2 d3 d4 d5 d6 d7
  have h3 : LeavesFields l z d3 := wrF_fields (by decide) hstat _ (wrF_fields hlsts hsts _ (k.of_regs rfl))
  have h4 : LeavesFields l z d4 := by
    unfold d4
    split
    case isTrue h =>
      obtain ⟨hval, haux⟩ := hvalues h
      exact wr_fields hlaux haux _ (wr_fields hlval hval _ h3)
    case isFalse h => exact LeavesFields.ite (flag_fields hlsts (hflag (Nat.not_le.1 h)) h3) h3
  exact raiseIf_fields hl _ _ (raiseIf_fields hl _ _ (raiseIf_fields hl _ _ (raiseIf_fields hl _ _ h4)))

/-- A release shows its status, and one with a value shows it. -/
theorem xRelease_shows (d : Dev) {n : Nat} (hn : n < 8) {st : Nat} (hst : st < 16) (v aux : Int) :
    (d.xRelease n st v aux).rdF (R.XCH_STS n) F.XCH_STS_STATUS = st ∧
    (st ≤ 2 → (d.xRelease n st v aux).rd (R.XCH_VAL n) = wordOfInt v) := by
  obtain ⟨hlsts, hlval, hlaux, -⟩ := xch_low hn
  have hstat : R.XCH_STS n ≠ R.XCH_STAT := by
    simp only [R.XCH_STS, R.XCH_STAT]
    omega
  have hvalsts : R.XCH_VAL n ≠ R.XCH_STS n := by
    simp only [R.XCH_STS, R.XCH_VAL]
    omega
  have hauxsts : R.XCH_AUX n ≠ R.XCH_STS n := by
    simp only [R.XCH_STS, R.XCH_AUX]
    omega
  have hauxval : R.XCH_AUX n ≠ R.XCH_VAL n := by
    simp only [R.XCH_VAL, R.XCH_AUX]
    omega
  unfold Dev.xRelease
  extract_lets old again trim d1 d2 d3 d4 d5 d6 d7
  have hend {a : Nat} (ha : a < 0x170000) : (d7.raiseIf ((st == 1 || st == 2) && old == 0) 85).rd a = d4.rd a := by
    rw [rd_raiseIf_low _ _ _ ha, rd_raiseIf_low d6 _ _ ha, rd_raiseIf_low d5 _ _ ha, rd_raiseIf_low d4 _ _ ha]
  have h3 : d3.rdF (R.XCH_STS n) F.XCH_STS_STATUS = st :=
    (rdF_wrF_other d2 _ _ _ _ _ hstat).trans (rdF_wrF_of_lt d1 _ _ (by decide) hst)
  refine ⟨(rdF_congr (hend hlsts) _).trans ?_, fun hle => (hend hlval).trans ?_⟩
  · unfold d4
    split
    · rw [rdF_congr (rd_wr_other _ _ _ _ (Ne.symm hauxsts)), rdF_congr (rd_wr_other _ _ _ _ (Ne.symm hvalsts)), h3]
    · split
      · rw [rdF_flag_apart _ _ _ _ (by decide) (by decide), h3]
      · exact h3
  · unfold d4
    rw [if_pos hle, rd_wr_other _ _ _ _ (Ne.symm hauxval), rd_wr_same]

/-! The checks of a drive period (R170, R171) -/

/-- A mask of which nothing has failed twice declares nothing. -/
theorem xJudge_first {d : Dev} {n m : Nat} (h : m &&& (d.xc n).lastFail = 0) :
    d.xJudge n m = d.setXc n (fun x => { x with lastFail := m, declared := 0, bad := x.bad || m != 0 }) := by
  simp [Dev.xJudge, h]

/-- What one declared check gives: itself, its status, and no other check. -/
theorem maskOf_check : ∀ k : Fin 13, 1 ≤ k.val → 2 ^ k.val &&& (0 ^^^ 0x1FFF) = 2 ^ k.val ∧
    maskStatus (2 ^ k.val) = whyStatus k.val ∧ maskWhy (2 ^ k.val) = k.val ∧ 2 < whyStatus k.val ∧ whyStatus k.val < 16 := by
  decide

theorem bitOf_two_pow (k j : Nat) : bitOf (2 ^ k) j = decide (k = j) := by
  rw [bitOf_eq_testBit, Nat.testBit_two_pow]

/-- A check that fails twice in a row: it is counted once, and released with its WHY. -/
theorem xJudge_second {d : Dev} {n k : Nat} (hk : 1 ≤ k) (hk12 : k ≤ 12) (hlast : (d.xc n).lastFail = 2 ^ k)
    (hnew : (d.xc n).declared = 0) : d.xJudge n (2 ^ k) =
      (((d.setXc n (fun x => { x with lastFail := 2 ^ k, declared := 2 ^ k, bad := (x.bad || 2 ^ k != 0) })).incF
        (R.XCH_CNT n) F.XCH_CNT_FAULTS).wrF (R.XCH_STS n) F.XCH_STS_WHY k).xRelease n (whyStatus k) 0 0 := by
  obtain ⟨hdeclared, hstatus, hwhy, -⟩ := maskOf_check ⟨k, by omega⟩ hk
  simp only at hdeclared hstatus hwhy
  have hpos := Nat.two_pow_pos k
  have hcount (e : Dev) : (List.range 13).foldl (fun d j =>
      if bitOf (2 ^ k) j then d.incF (R.XCH_CNT n) F.XCH_CNT_FAULTS else d) e = e.incF (R.XCH_CNT n) F.XCH_CNT_FAULTS := by
    rw [foldl_range_single (k := k) (by omega) (fun x j hj => by rw [bitOf_two_pow, if_neg (by simp; omega)])]
    rw [bitOf_two_pow, if_pos (by simp)]
  simp only [Dev.xJudge, hlast, hnew, Nat.and_self, hdeclared, hcount, hwhy, hstatus]
  rw [if_neg (by omega)]

/-- A check that fails in two drive periods in a row is counted once and released with its WHY. -/
theorem xJudge_declared {d : Dev} {n k : Nat} (hn : n < 8) (hk : 1 ≤ k) (hk12 : k ≤ 12) (hlast : (d.xc n).lastFail = 2 ^ k)
    (hnew : (d.xc n).declared = 0) :
    (d.xJudge n (2 ^ k)).rdF (R.XCH_STS n) F.XCH_STS_STATUS = whyStatus k ∧
    (d.xJudge n (2 ^ k)).rdF (R.XCH_STS n) F.XCH_STS_WHY = k ∧
    (d.xJudge n (2 ^ k)).rd (R.XCH_VAL n) = d.rd (R.XCH_VAL n) ∧
    (d.xJudge n (2 ^ k)).rdF (R.XCH_CNT n) F.XCH_CNT_FAULTS = min 255 (d.rdF (R.XCH_CNT n) F.XCH_CNT_FAULTS + 1) := by
  obtain ⟨hlsts, hlval, hlaux, hlcnt, -⟩ := xch_low hn
  obtain ⟨-, -, -, hfault, hlt⟩ := maskOf_check ⟨k, by omega⟩ hk
  rw [xJudge_second hk hk12 hlast hnew]
  obtain ⟨e, he⟩ : ∃ e : Dev, e = d.setXc n (fun x => { x with
      lastFail := 2 ^ k, declared := 2 ^ k, bad := (x.bad || 2 ^ k != 0) }) := ⟨_, rfl⟩
  have hed (a : Nat) : e.rd a = d.rd a := by rw [he]; rfl
  rw [← he]
  have hrelease := xRelease_fields (n := n) (d := (e.incF (R.XCH_CNT n) F.XCH_CNT_FAULTS).wrF (R.XCH_STS n) F.XCH_STS_WHY k)
    (l := [(R.XCH_STS n, F.XCH_STS_WHY), (R.XCH_VAL n, ⟨0, 32⟩), (R.XCH_CNT n, F.XCH_CNT_FAULTS)])
    (by simp [FieldsLow, hlsts, hlval, hlcnt]) hn (whyStatus k) 0 0
    (by simp [FieldsClear, R.XCH_STS, R.XCH_VAL, R.XCH_CNT]; decide)
    (by simp [FieldsClear, R.XCH_STS, R.XCH_VAL, R.XCH_CNT, R.XCH_STAT]; omega)
    (fun h => absurd h (Nat.not_le.2 hfault)) (fun _ => by simp [FieldsUnflagged, R.XCH_STS, R.XCH_VAL, R.XCH_CNT]; decide)
    (LeavesFields.refl _ _)
  have hcnt : R.XCH_CNT n ≠ R.XCH_STS n := by
    simp only [R.XCH_CNT, R.XCH_STS]
    omega
  have hval : R.XCH_VAL n ≠ R.XCH_STS n ∧ R.XCH_VAL n ≠ R.XCH_CNT n := by
    simp only [R.XCH_CNT, R.XCH_STS, R.XCH_VAL]
    omega
  refine ⟨(xRelease_shows _ hn hlt 0 0).1, ?_, ?_, ?_⟩
  · rw [hrelease.field_eq (by simp)]
    exact rdF_wrF_of_lt _ _ _ (by decide) (by simp only [F.XCH_STS_WHY]; omega)
  · rw [rd_of_full (hrelease.field_eq (by simp)), rd_wrF_other _ _ _ _ _ hval.1, Dev.incF, rd_wrF_other _ _ _ _ _ hval.2, hed]
  · rw [hrelease.field_eq (by simp), rdF_wrF_other _ _ _ _ _ _ hcnt, rdF_incF_byte _ _ _ (by decide) rfl, rdF_congr (hed _)]

/-! Drive periods (R168, R170, R174) -/

theorem two_lt_maskStatus (m : Nat) : 2 < maskStatus m := by
  unfold maskStatus
  extract_lets has
  repeat' split
  all_goals decide

/-- What an excitation channel's fields must be clear of for its checks to leave them alone. -/
structure CheckApart (l : List (Nat × Field)) (n : Nat) : Prop where
  low : FieldsLow l
  status : FieldsClear l (R.XCH_STS n) F.XCH_STS_STATUS
  why : FieldsClear l (R.XCH_STS n) F.XCH_STS_WHY
  flags : ∀ b, 20 ≤ b → FieldsUnflagged l (R.XCH_STS n) b
  map : FieldsClear l R.XCH_STAT ⟨n, 1⟩
  faults : FieldsClear l (R.XCH_CNT n) F.XCH_CNT_FAULTS

section
variable {l : List (Nat × Field)} {z d : Dev} {n : Nat} (hl : CheckApart l n) (hn : n < 8)
include hl hn

theorem xJudge_fields (m : Nat) (k : LeavesFields l z d) : LeavesFields l z (d.xJudge n m) := by
  obtain ⟨hlsts, -, -, hlcnt, -⟩ := xch_low hn
  unfold Dev.xJudge
  extract_lets x both new d1 d2 d3
  have h1 : LeavesFields l z d1 := k.of_regs rfl
  have h2 : LeavesFields l z d2 := LeavesFields.foldl h1 (fun e j _ k => by
    split
    · exact incF_fields hlcnt hl.faults k
    · exact k)
  have h3 : LeavesFields l z d3 := wrF_fields hlsts hl.why _ h2
  split
  · exact h1
  · exact xRelease_fields hl.low hn _ 0 0 hl.status hl.map (fun h => absurd h (Nat.not_le.2 (two_lt_maskStatus _)))
      (fun _ => hl.flags 23 (by decide)) h3

theorem xClip_fields (clip : Bool) (k : LeavesFields l z d) : LeavesFields l z (d.xClip n clip) := by
  obtain ⟨hlsts, -⟩ := xch_low hn
  unfold Dev.xClip
  exact LeavesFields.ite (flagEv_fields hl.low hlsts (hl.flags 22 (by decide)) 82 (k.of_regs rfl)) (k.of_regs rfl)

end

/-- The checks write their own part of a channel's state. -/
theorem xc_xJudge {d : Dev} {n : Nat} (hn : n < d.xch.length) (m : Nat) : ∃ fail decl bad flt trim,
    (d.xJudge n m).xc n = { d.xc n with
      lastFail := fail, declared := decl, bad := bad, faulted := flt, relTrim := trim } := by
  unfold Dev.xJudge
  extract_lets x both new d1 d2 d3
  have h1 : d1.xc n = { d.xc n with lastFail := m, declared := both, bad := ((d.xc n).bad || m != 0) } := xc_setXc_same _ hn
  have hlen : d1.xch.length = d.xch.length := length_setXc _
  have h2 : d2.xch = d1.xch := foldl_xch _ (fun e j => by
    split
    · rfl
    · rfl) _
  split
  · exact ⟨_, _, _, _, _, h1⟩
  · have h3 : d3.xc n = d1.xc n := by
      rw [Dev.xc, show d3.xch = d2.xch from rfl, h2, ← Dev.xc]
    obtain ⟨hrelease, -⟩ := xc_xRelease d3 (n := n) (by rw [show d3.xch = d2.xch from rfl, h2, hlen]; exact hn) (maskStatus both) 0 0
    rw [hrelease, h3, h1]
    exact ⟨_, _, _, _, _, rfl⟩

theorem xc_xClip {d : Dev} {n : Nat} (hn : n < d.xch.length) (clip : Bool) :
    (d.xClip n clip).xc n = { d.xc n with clip := clip } ∧ (d.xClip n clip).xch.length = d.xch.length := by
  have hxch : (d.xClip n clip).xch = (d.setXc n (fun x => { x with clip := clip })).xch := by
    unfold Dev.xClip
    extract_lets was d1
    split <;> simp [d1]
  rw [Dev.xc, hxch]
  exact ⟨xc_setXc_same _ hn, length_setXc _⟩

/-- The free values of the checks touch neither registers nor channels. -/
theorem checkInputs_frame (d : Dev) (r : XcRec) (c : List F64) :
    (d.checkInputs r c).2.regs = d.regs ∧ (d.checkInputs r c).2.xch = d.xch := by
  have hfree (x : Option Int) : (d.orFree x).2.regs = d.regs ∧ (d.orFree x).2.xch = d.xch := by
    cases x <;> exact ⟨rfl, rfl⟩
  unfold Dev.checkInputs
  split
  · exact hfree _
  · split
    · exact ⟨rfl, rfl⟩
    · exact hfree _
  · exact hfree _

/-- The device after the lock's part of a drive period. -/
def Dev.xLocked (d : Dev) (n err : Nat) : Dev := if d.holder then d else (d.xLock n err).2

section
variable {d : Dev} {n : Nat} (samples : List (BitVec 16 × BitVec 16 × BitVec 16)) (irms : BitVec 16) (limit : Nat)
  (ph : Word) (err : Nat)

theorem xPeriod_lock : (if d.holder then (false, d) else d.xLock n err).2 = d.xLocked n err := by
  unfold Dev.xLocked
  split <;> rfl

/-- After the lock a drive period writes its monitor, and what the checks write. -/
theorem xPeriod_fields {l : List (Nat × Field)} (hl : CheckApart l n) (hn : n < 8) (hmon : FieldsOff l (R.XCH_DRVMON n)) :
    LeavesFields l (d.xLocked n err) (d.xPeriod n samples irms limit ph err) := by
  have hlmon : R.XCH_DRVMON n < 0x170000 := by
    simp only [R.XCH_DRVMON]
    omega
  unfold Dev.xPeriod
  extract_lets r runs lk d1 phase trim s c d2 on d3 lost clip d4 q m d5
  have hlock : d1 = d.xLocked n err := xPeriod_lock err
  have h3 : LeavesFields l d1 d3 := ((wrFs_fields hlmon hmon _ (LeavesFields.refl l d1)).of_regs rfl)
  have h4 : LeavesFields l d1 d4 := xClip_fields hl hn clip h3
  obtain ⟨hregs, -⟩ := checkInputs_frame d4 r c
  have h5 : LeavesFields l d1 d5 := h4.of_regs hregs
  rw [← hlock]
  split
  · exact LeavesFields.ite (xJudge_fields hl hn _ h3) h3
  · exact xJudge_fields hl hn _ h5

/-- The device after the wrap that ends a drive period: monitor, path, ramp and phase of its channel. -/
def Dev.xWrapped (d : Dev) (n : Nat) (c : List F64) (irms acc : Nat) (on : Bool) : Dev :=
  (((d.xMonitor n c irms).xPath n c).xRamp n).setXc n (fun x => { x with acc := acc, began := on })

theorem xc_xWrapped {e : Dev} (hn : n < e.xch.length) (c : List F64) (ir acc : Nat) (on : Bool) :
    ((e.xWrapped n c ir acc on).xc n).locked = (e.xc n).locked ∧ ((e.xWrapped n c ir acc on).xc n).n = (e.xc n).n ∧
    ((e.xWrapped n c ir acc on).xc n).periods = (e.xc n).periods ∧ ((e.xWrapped n c ir acc on).xc n).acc = acc ∧
    (e.xWrapped n c ir acc on).xch.length = e.xch.length := by
  have hmon : n < (e.xMonitor n c ir).xch.length := hn
  have hpath : n < ((e.xMonitor n c ir).xPath n c).xch.length := by rw [Dev.xPath, length_setXc]; exact hmon
  have hramp : n < (((e.xMonitor n c ir).xPath n c).xRamp n).xch.length := by rw [Dev.xRamp, length_setXc]; exact hpath
  rw [Dev.xWrapped, xc_setXc_same _ hramp, Dev.xRamp, xc_setXc_same _ hpath, Dev.xPath, xc_setXc_same _ hmon, length_setXc,
    length_setXc, length_setXc]
  exact ⟨rfl, rfl, rfl, rfl, rfl⟩

/-- A drive period keeps the lock that its lock step left. -/
theorem locked_xPeriod (hn : n < (d.xLocked n err).xch.length) :
    ((d.xPeriod n samples irms limit ph err).xc n).locked = ((d.xLocked n err).xc n).locked := by
  unfold Dev.xPeriod
  extract_lets r runs lk d1 phase trim s c d2 on d3 lost clip d4 q m d5
  have hlock : d1 = d.xLocked n err := xPeriod_lock err
  rw [← hlock] at hn ⊢
  obtain ⟨h3, -, -, -, hlen3⟩ := xc_xWrapped hn c irms.toNat ((phase + samples.length * r.incr) % 2 ^ 32) on
  have h3 : (d3.xc n).locked = (d1.xc n).locked := h3
  have hn3 : n < d3.xch.length := hlen3 ▸ hn
  have hjudge {e : Dev} (he : n < e.xch.length) (m : Nat) : ((e.xJudge n m).xc n).locked = (e.xc n).locked := by
    obtain ⟨fail, decl, bad, flt, trim, h⟩ := xc_xJudge he m
    rw [h]
  obtain ⟨h4, hlen4⟩ := xc_xClip hn3 clip
  obtain ⟨-, hxch⟩ := checkInputs_frame d4 r c
  have hn5 : n < q.2.xch.length := by rw [hxch, hlen4]; exact hn3
  have h5 : (d5.xc n).locked = (d3.xc n).locked := by
    rw [show d5.xc n = _ from xc_setXc_same _ hn5]
    show (q.2.xc n).locked = _
    rw [Dev.xc, hxch, ← Dev.xc, h4]
  split
  · split
    · rw [hjudge hn3, h3]
    · exact h3
  · rw [hjudge (by rw [show d5.xch.length = q.2.xch.length from length_setXc _]; exact hn5), h5, h3]

/-- A drive period of a channel that runs, in the driving device: its samples are added, the phase moves on, and the
monitor shows the current. -/
theorem xPeriod_driven (h8 : n < 8) (hn : n < d.xch.length) (hholder : d.holder = true) (hruns : d.xRuns n = true) :
    ((d.xPeriod n samples irms limit ph err).xc n).periods = (d.xc n).periods + 1 ∧
    ((d.xPeriod n samples irms limit ph err).xc n).n = (d.xc n).n + samples.length ∧
    ((d.xPeriod n samples irms limit ph err).xc n).acc = ((d.xc n).acc + samples.length * (d.xrec n).incr) % 2 ^ 32 ∧
    (d.xPeriod n samples irms limit ph err).rdF (R.XCH_DRVMON n) F.XCH_DRVMON_IRMS = irms.toNat := by
  have hl : CheckApart [(R.XCH_DRVMON n, F.XCH_DRVMON_IRMS)] n := by
    constructor <;> simp only [FieldsLow, FieldsClear, FieldsUnflagged, List.forall_mem_singleton, R.XCH_DRVMON, R.XCH_STS,
      R.XCH_STAT, R.XCH_CNT] <;> omega
  unfold Dev.xPeriod
  extract_lets r runs lk d1 phase trim s c d2 on d3 lost clip d4 q m d5
  have hd1 : d1 = d := by
    show (if d.holder then (false, d) else d.xLock n err).2 = d
    rw [if_pos hholder]
  have hphase : phase = (d.xc n).acc := by
    show (if d1.holder then (d1.xc n).acc else ph.toNat) = _
    rw [hd1, if_pos hholder]
  obtain ⟨-, hcount, hperiods, hacc, hlen3⟩ := xc_xWrapped (hd1.symm ▸ hn : n < d1.xch.length) c irms.toNat
    ((phase + samples.length * r.incr) % 2 ^ 32) on
  have hcount : (d3.xc n).n = (d1.xc n).n := hcount
  have hperiods : (d3.xc n).periods = (d1.xc n).periods := hperiods
  have hacc : (d3.xc n).acc = (phase + samples.length * r.incr) % 2 ^ 32 := hacc
  have hn3 : n < d3.xch.length := by
    rw [show d3.xch.length = d1.xch.length from hlen3, hd1]
    exact hn
  obtain ⟨h4, hlen4⟩ := xc_xClip hn3 clip
  obtain ⟨hregs, hxch⟩ := checkInputs_frame d4 r c
  have hn5 : n < q.2.xch.length := by rw [hxch, hlen4]; exact hn3
  have hq : q.2.xc n = d4.xc n := by rw [Dev.xc, hxch, ← Dev.xc]
  obtain ⟨fail, decl, bad, flt, tr, hjudge⟩ := xc_xJudge (d := d5) (n := n)
    (by rw [show d5.xch.length = q.2.xch.length from length_setXc _]; exact hn5) (m + if lost then 0x1000 else 0)
  have hrun : ¬ (!runs) = true := by
    show ¬ (!(d.xRuns n)) = true
    rw [hruns]
    decide
  rw [if_neg hrun, hjudge, show d5.xc n = _ from xc_setXc_same _ hn5, hq, h4]
  refine ⟨by rw [hperiods, hd1], by rw [hcount, hd1], by rw [hacc, hphase], ?_⟩
  have hmonitor : d3.rdF (R.XCH_DRVMON n) F.XCH_DRVMON_IRMS = irms.toNat := by
    show (d1.xMonitor n c irms.toNat).rdF (R.XCH_DRVMON n) F.XCH_DRVMON_IRMS = irms.toNat
    rw [hd1]
    simp only [Dev.xMonitor, Dev.wrFs, Dev.rdF, rd_wr_same, List.foldl, hholder, if_true]
    rw [getF_putF _ (by decide)]
    exact Nat.mod_eq_of_lt irms.isLt
  have hrest : LeavesFields [(R.XCH_DRVMON n, F.XCH_DRVMON_IRMS)] d3 (d5.xJudge n (m + if lost then 0x1000 else 0)) :=
    xJudge_fields hl h8 _ ((xClip_fields hl h8 clip (LeavesFields.refl _ d3)).of_regs hregs)
  rw [hrest.field_eq (by simp), hmonitor]

end

/-- A second bad period in a row loses the lock of a device without the token. -/
theorem xLocked_lost {d : Dev} {n err : Nat} (h8 : n < 8) (hn : n < d.xch.length) (hholder : d.holder = false)
    (hlocked : (d.xc n).locked = true) (herr : 2000 < err) (hbad : (d.xc n).badRun = 1) :
    ((d.xLocked n err).xc n).locked = false ∧ (d.xLocked n err).xch.length = d.xch.length ∧
    (d.xLocked n err).rdF R.XCH_STAT ⟨8 + n, 1⟩ = 0 ∧ (d.xLocked n err).evPending 84 = true ∧
    (d.xLocked n err).rdF (R.XCH_CNT n) F.XCH_CNT_LOCKLOSSES = min 255 (d.rdF (R.XCH_CNT n) F.XCH_CNT_LOCKLOSSES + 1) := by
  have hstep : (d.xc n).lockStep err = ({ d.xc n with locked := false, goodRun := 0, badRun := 2 }, true) := by
    simp [XChan.lockStep, hlocked, herr, hbad]
  have hlost : d.xLocked n err = (((d.setXc n (fun _ => { d.xc n with locked := false, goodRun := 0, badRun := 2 })).wrF
      R.XCH_STAT ⟨8 + n, 1⟩ (b2n false)).incF (R.XCH_CNT n) F.XCH_CNT_LOCKLOSSES).flagEv (R.XCH_STS n) 21 84 := by
    simp [Dev.xLocked, hholder, Dev.xLock, hstep]
  obtain ⟨hlsts, -, -, hlcnt, -⟩ := xch_low h8
  have hne : R.XCH_STAT ≠ R.XCH_STS n ∧ R.XCH_STAT ≠ R.XCH_CNT n ∧ R.XCH_CNT n ≠ R.XCH_STS n ∧ R.XCH_CNT n ≠ R.XCH_STAT := by
    simp only [R.XCH_STAT, R.XCH_STS, R.XCH_CNT]
    omega
  obtain ⟨hstatsts, hstatcnt, hcntsts, hcntstat⟩ := hne
  have hxch : (d.xLocked n err).xch = (d.setXc n (fun _ => { d.xc n with locked := false, goodRun := 0, badRun := 2 })).xch := by
    rw [hlost]
    simp [Dev.incF]
  refine ⟨?_, by rw [hxch, length_setXc], ?_, ?_, ?_⟩
  · rw [Dev.xc, hxch, ← Dev.xc, xc_setXc_same _ hn]
  · rw [hlost, rdF_flagEv_other _ (by decide) hstatsts, rdF_incF_other _ _ _ _ _ hstatcnt,
      rdF_wrF_bool _ _ _ (by simp only; omega) Nat.one_pos]
    rfl
  · rw [hlost]
    exact evPending_flagEv_same _ _ _ (by decide)
  · rw [hlost, rdF_flagEv_other _ hlcnt hcntsts, rdF_incF_byte _ _ _ (by decide) rfl, rdF_wrF_other _ _ _ _ _ _ hcntstat]
    rfl

/-! The end of a demodulation period (R168, R169, R172, R179) -/

section
variable {l : List (Nat × Field)} {z d : Dev} {n : Nat}

theorem xIq_fields (h8 : n < 8) (hoff : ∀ j, j < 6 → FieldsOff l (R.XCH_IQ n j)) (c : List F64) (k : LeavesFields l z d) :
    LeavesFields l z (d.xIq n c) := by
  refine LeavesFields.foldl k (fun e j hj k => wr_fields ?_ (hoff j (List.mem_range.1 hj)) _ k)
  have := List.mem_range.1 hj
  simp only [R.XCH_IQ]
  omega

theorem xDiscard_fields (h8 : n < 8) (hcnt : FieldsClear l (R.XCH_CNT n) F.XCH_CNT_DISCARDS)
    (hsts : FieldsUnflagged l (R.XCH_STS n) 20) (k : LeavesFields l z d) : LeavesFields l z (d.xDiscard n) := by
  obtain ⟨hlsts, -, -, hlcnt, -⟩ := xch_low h8
  exact flag_fields hlsts hsts (incF_fields hlcnt hcnt k)

/-- With no mirror's TRIM waiting, the end of a period applies the pending word alone. -/
theorem xTrim_of (h : (d.xc n).mirTrim = none) : d.xTrim n = d.wbApply (R.XCH_TRIM n) 0xFFFF := by
  have hxc : (d.wbApply (R.XCH_TRIM n) 0xFFFF).xc n = d.xc n := by simp [Dev.xc]
  simp only [Dev.xTrim, hxc, h]

theorem wbApply_fields {a : Nat} (ha : a < 0x170000) (hoff : FieldsOff l a) (mask : Word) (k : LeavesFields l z d) :
    LeavesFields l z (d.wbApply a mask) := by
  have hpend : FieldsClear l a ⟨31, 1⟩ := fun x hx hxa => absurd hxa (hoff x hx)
  unfold Dev.wbApply
  split
  · exact k
  · exact (wrF_fields ha hpend 0 (wr_fields ha hoff _ k)).of_regs rfl

end

theorem orFree_frame (d : Dev) (x : Option Int) : (d.orFree x).2.regs = d.regs ∧ (d.orFree x).2.xch = d.xch ∧
    (d.orFree x).2.wb = d.wb := by cases x <;> exact ⟨rfl, rfl, rfl⟩

theorem clipRange_status (lo hi x : Int) : (clipRange lo hi x).1 ≤ 2 := by
  unfold clipRange
  repeat' split
  all_goals simp

theorem xClipValue_status (mode : Nat) (v : Int) : (xClipValue mode v).1 ≤ 2 := by
  unfold xClipValue
  split <;> exact clipRange_status _ _ _

/-- The device at the end of a demodulation period: with its components, discarded, or with a value released. -/
def Dev.xEnded (d : Dev) (n : Nat) : Dev :=
  let x := d.xc n
  let r := d.xrec n
  let c := components x.sums (max x.n 1)
  let d := d.xIq n c
  if x.bad then d.xDiscard n
  else
    let m := measure r c
    let v := d.orFree m.1
    let a := v.2.orFree m.2
    let k := xClipValue r.mode v.1
    a.2.xRelease n k.1 k.2 (satS 32 a.1)

theorem xDemod_ended {d : Dev} {n : Nat} (hruns : d.xRuns n = true) (hdue : (d.xrec n).demn ≤ (d.xc n).periods) :
    d.xDemod n = ((d.xEnded n).xClear n).xTrim n := by
  simp only [Dev.xDemod, hruns]
  rw [if_neg (by simp; omega)]
  rfl

theorem xDemod_idle {d : Dev} {n : Nat} (h : d.xRuns n = false ∨ (d.xc n).periods < (d.xrec n).demn) : d.xDemod n = d := by
  simp only [Dev.xDemod]
  rw [if_pos (by rcases h with h | h <;> simp [h])]

/-- A word put under the mask of its register's low bits shows there. -/
theorem getF_maskedLow (x v : Word) {k : Nat} (hk : k ≤ 32) :
    getF ⟨0, k⟩ ((x &&& ~~~ BitVec.ofNat 32 (2 ^ k - 1)) ||| (v &&& BitVec.ofNat 32 (2 ^ k - 1))) = v.toNat % 2 ^ k := by
  rw [getF, Nat.pow_zero, Nat.div_one, ← toNat_and_lowMask _ hk, ← toNat_and_lowMask v hk]
  congr 1
  ext i
  simp only [BitVec.getElem_and, BitVec.getElem_or, BitVec.getElem_not]
  cases (BitVec.ofNat 32 (2 ^ k - 1))[i] <;> simp

section
variable {d : Dev} {n : Nat}

theorem xch_xIq (c : List F64) : (d.xIq n c).xch = d.xch := by
  unfold Dev.xIq
  exact foldl_xch _ (f := fun d k => d.wr (R.XCH_IQ n k) (wordOfInt (scaled (comp c k) 1000000))) (fun _ _ => rfl) d

theorem wb_xIq (c : List F64) : (d.xIq n c).wb = d.wb := by
  unfold Dev.xIq
  generalize List.range 6 = js
  induction js generalizing d with
  | nil => rfl
  | cons j t ih => exact ih

theorem xDiscard_frame : (d.xDiscard n).xch = d.xch ∧ (d.xDiscard n).wb = d.wb := ⟨rfl, rfl⟩

theorem xEnded_bad (hbad : (d.xc n).bad = true) :
    d.xEnded n = (d.xIq n (components (d.xc n).sums (max (d.xc n).n 1))).xDiscard n := if_pos hbad

/-- What the release at the end of a clean period is of: a device with the same channels, pending words and registers but
the components, and the status and value of the measurement. -/
theorem xEnded_clean (hbad : (d.xc n).bad = false) : ∃ (e : Dev) (v aux : Int), d.xEnded n =
      e.xRelease n (xClipValue (d.xrec n).mode v).1 (xClipValue (d.xrec n).mode v).2 aux ∧
    e.xch = d.xch ∧ e.wb = d.wb ∧
    (∀ x, (measure (d.xrec n) (components (d.xc n).sums (max (d.xc n).n 1))).1 = some x → v = x) := by
  obtain ⟨-, hxch1, hwb1⟩ := orFree_frame (d.xIq n (components (d.xc n).sums (max (d.xc n).n 1)))
    (measure (d.xrec n) (components (d.xc n).sums (max (d.xc n).n 1))).1
  obtain ⟨-, hxch2, hwb2⟩ := orFree_frame ((d.xIq n (components (d.xc n).sums (max (d.xc n).n 1))).orFree
    (measure (d.xrec n) (components (d.xc n).sums (max (d.xc n).n 1))).1).2
    (measure (d.xrec n) (components (d.xc n).sums (max (d.xc n).n 1))).2
  refine ⟨_, _, _, by rw [Dev.xEnded, if_neg (by simp [hbad])], ?_, ?_, fun x hx => ?_⟩
  · rw [hxch2, hxch1, xch_xIq]
  · rw [hwb2, hwb1, wb_xIq]
  · rw [hx]
    rfl

theorem wb_xRelease (st : Nat) (v aux : Int) : (d.xRelease n st v aux).wb = d.wb := by
  unfold Dev.xRelease
  extract_lets old again trim d1 d2 d3 d4 d5 d6 d7
  have h4 : d4.wb = d3.wb := by
    unfold d4
    split
    · rfl
    · split <;> rfl
  simp only [raiseIf_frame, d7, d6, d5, h4]
  rfl

theorem wb_xEnded : (d.xEnded n).wb = d.wb := by
  rcases Bool.eq_false_or_eq_true (d.xc n).bad with hbad | hbad
  case inl =>
    rw [xEnded_bad hbad, xDiscard_frame.2, wb_xIq]
  case inr =>
    obtain ⟨e, v, aux, he, -, hwb, -⟩ := xEnded_clean hbad
    rw [he, wb_xRelease, hwb]

theorem xc_of_xch {e : Dev} (h : e.xch = d.xch) : e.xc n = d.xc n := by rw [Dev.xc, h, ← Dev.xc]

/-- A value of a measurement is no sensor fault. -/
theorem xFault_xClipValue (mode : Nat) (v : Int) : xFault (xClipValue mode v).1 = false := by
  have hfault : ∀ k : Fin 3, xFault k.val = false := by decide
  exact hfault ⟨_, Nat.lt_succ_of_le (xClipValue_status mode v)⟩

/-- The end of a period leaves a channel's TRIM of a mirror waiting, and after a clean one no fault stands. -/
theorem xc_xEnded (hn : n < d.xch.length) : ((d.xEnded n).xc n).mirTrim = (d.xc n).mirTrim ∧
    (d.xEnded n).xch.length = d.xch.length ∧ ((d.xc n).bad = false → ((d.xEnded n).xc n).faulted = false) := by
  rcases Bool.eq_false_or_eq_true (d.xc n).bad with hbad | hbad
  case inl =>
    have hxch : (d.xEnded n).xch = d.xch := by rw [xEnded_bad hbad, xDiscard_frame.1, xch_xIq]
    rw [xc_of_xch hxch, hxch]
    exact ⟨rfl, rfl, fun h => absurd (hbad.symm.trans h) (by decide)⟩
  case inr =>
    obtain ⟨e, v, aux, he, hxch, -, -⟩ := xEnded_clean hbad
    obtain ⟨hxc, hlen⟩ := xc_xRelease e (n := n) (by rw [hxch]; exact hn) (xClipValue (d.xrec n).mode v).1
      (xClipValue (d.xrec n).mode v).2 aux
    have hnot : ¬ 2 < (xClipValue (d.xrec n).mode v).1 := Nat.not_lt.2 (xClipValue_status _ v)
    rw [he, hxc, hlen, xc_of_xch hxch, hxch]
    exact ⟨rfl, rfl, fun _ => by simp [hnot, xFault_xClipValue]⟩

/-- The end of a period: the sums are cleared, and the pending TRIM applies. -/
theorem xDemod_due (hn : n < d.xch.length) (hruns : d.xRuns n = true) (hdue : (d.xrec n).demn ≤ (d.xc n).periods)
    (hmirror : (d.xc n).mirTrim = none) : d.xDemod n = ((d.xEnded n).xClear n).wbApply (R.XCH_TRIM n) 0xFFFF ∧
    ((d.xDemod n).xc n).bad = false ∧ ((d.xDemod n).xc n).periods = 0 ∧
    ((d.xDemod n).xc n).faulted = ((d.xEnded n).xc n).faulted := by
  obtain ⟨hmir, hlen, -⟩ := xc_xEnded hn
  have hclear : ((d.xEnded n).xClear n).xc n = { (d.xEnded n).xc n with
      sums := [0, 0, 0, 0, 0, 0], n := 0, periods := 0, bad := false } := xc_setXc_same _ (by rw [hlen]; exact hn)
  have heq : d.xDemod n = ((d.xEnded n).xClear n).wbApply (R.XCH_TRIM n) 0xFFFF := by
    rw [xDemod_ended hruns hdue, xTrim_of (by rw [hclear]; exact hmir.trans hmirror)]
  have hxc : (d.xDemod n).xc n = ((d.xEnded n).xClear n).xc n := by
    rw [heq]
    exact xc_of_xch (by simp)
  rw [hxc, hclear]
  exact ⟨heq, rfl, rfl, rfl⟩

/-- What the end of a period, after its release, leaves: everything but TRIM. -/
theorem xDemod_fields {l : List (Nat × Field)} (h8 : n < 8) (hoff : FieldsOff l (R.XCH_TRIM n)) {z : Dev}
    (k : LeavesFields l z (d.xEnded n)) :
    LeavesFields l z (((d.xEnded n).xClear n).wbApply (R.XCH_TRIM n) 0xFFFF) := by
  obtain ⟨-, -, -, -, -, hltrim, -⟩ := xch_low h8
  exact wbApply_fields hltrim hoff _ (k.of_regs rfl)

/-- The end of a period that had a failed drive period. -/
theorem xDemod_bad (h8 : n < 8) (hn : n < d.xch.length) (hruns : d.xRuns n = true) (hdue : (d.xrec n).demn ≤ (d.xc n).periods)
    (hmirror : (d.xc n).mirTrim = none) (hbad : (d.xc n).bad = true) :
    (d.xDemod n).rd (R.XCH_VAL n) = d.rd (R.XCH_VAL n) ∧ (d.xDemod n).rd (R.XCH_AUX n) = d.rd (R.XCH_AUX n) ∧
    (d.xDemod n).rdF (R.XCH_STS n) F.XCH_STS_STATUS = d.rdF (R.XCH_STS n) F.XCH_STS_STATUS ∧
    (d.xDemod n).rdF (R.XCH_CNT n) F.XCH_CNT_DISCARDS = min 255 (d.rdF (R.XCH_CNT n) F.XCH_CNT_DISCARDS + 1) := by
  obtain ⟨hlsts, -, -, hlcnt, -⟩ := xch_low h8
  obtain ⟨hdem, -⟩ := xDemod_due hn hruns hdue hmirror
  have hcntsts : R.XCH_CNT n ≠ R.XCH_STS n := by
    simp only [R.XCH_CNT, R.XCH_STS]
    omega
  have hkeep : LeavesFields [(R.XCH_VAL n, ⟨0, 32⟩), (R.XCH_AUX n, ⟨0, 32⟩), (R.XCH_STS n, F.XCH_STS_STATUS)] d (d.xEnded n) := by
    rw [xEnded_bad hbad]
    refine xDiscard_fields h8 ?_ ?_ (xIq_fields h8 (fun j hj => ?_) _ (.refl _ _)) <;>
      simp only [FieldsClear, FieldsUnflagged, FieldsOff, List.forall_mem_cons, List.not_mem_nil, false_implies, implies_true, and_true, true_implies,
       
        R.XCH_VAL, R.XCH_AUX, R.XCH_STS, R.XCH_CNT, R.XCH_IQ, F.XCH_STS_STATUS, F.XCH_CNT_DISCARDS] <;> omega
  have hend := xDemod_fields h8 (by
    simp only [FieldsOff, List.forall_mem_cons, List.not_mem_nil, false_implies, implies_true, and_true,
        R.XCH_VAL, R.XCH_AUX, R.XCH_STS,
      R.XCH_TRIM]
    omega) hkeep
  have hcount : LeavesFields [(R.XCH_CNT n, F.XCH_CNT_DISCARDS)] d (d.xIq n (components (d.xc n).sums (max (d.xc n).n 1))) := by
    refine xIq_fields h8 (fun j hj => ?_) _ (.refl _ _)
    simp only [FieldsOff, List.forall_mem_singleton, R.XCH_CNT, R.XCH_IQ]
    omega
  have hcounted : LeavesFields [(R.XCH_CNT n, F.XCH_CNT_DISCARDS)] (d.xEnded n) (d.xDemod n) := by
    rw [hdem]
    refine xDemod_fields h8 ?_ (.refl _ _)
    simp only [FieldsOff, List.forall_mem_singleton, R.XCH_CNT, R.XCH_TRIM]
    omega
  rw [← hdem] at hend
  refine ⟨rd_of_full (hend.field_eq (by simp)), rd_of_full (hend.field_eq (by simp)), hend.field_eq (by simp), ?_⟩
  rw [hcounted.field_eq (by simp), xEnded_bad hbad]
  rw [Dev.xDiscard, rdF_flag_other _ _ _ _ _ hcntsts, rdF_incF_byte _ _ _ (by decide) rfl, hcount.field_eq (by simp)]

/-- The end of a clean period releases a status with a value; in mode RATIO the value of its sums. -/
theorem xDemod_clean (h8 : n < 8) (hn : n < d.xch.length) (hruns : d.xRuns n = true) (hdue : (d.xrec n).demn ≤ (d.xc n).periods)
    (hmirror : (d.xc n).mirTrim = none) (hbad : (d.xc n).bad = false) :
    (d.xDemod n).rdF (R.XCH_STS n) F.XCH_STS_STATUS ≤ 2 ∧
    (∀ v, (d.xrec n).mode = 1 → ratioValue (components (d.xc n).sums (max (d.xc n).n 1)) = some v →
      (d.xDemod n).rd (R.XCH_VAL n) = wordOfInt (xClipValue 1 v).2) := by
  obtain ⟨hdem, -⟩ := xDemod_due hn hruns hdue hmirror
  obtain ⟨e, v, aux, he, -, -, hv⟩ := xEnded_clean hbad
  have hst := xClipValue_status (d.xrec n).mode v
  obtain ⟨hstatus, hvalue⟩ := xRelease_shows e h8 (Nat.lt_of_le_of_lt hst (by decide)) (xClipValue (d.xrec n).mode v).2 aux
  have hkeep : LeavesFields [(R.XCH_VAL n, ⟨0, 32⟩), (R.XCH_STS n, F.XCH_STS_STATUS)] (d.xEnded n) (d.xDemod n) := by
    rw [hdem]
    refine xDemod_fields h8 ?_ (.refl _ _)
    simp only [FieldsOff, List.forall_mem_cons, List.not_mem_nil, false_implies, implies_true, and_true,
        R.XCH_VAL, R.XCH_STS, R.XCH_TRIM]
    omega
  refine ⟨?_, fun x hmode hx => ?_⟩
  · rw [hkeep.field_eq (by simp), he, hstatus]
    exact hst
  · have hvx : v = x := hv x (by rw [measure, hmode]; exact hx)
    rw [rd_of_full (hkeep.field_eq (by simp)), he, hvalue hst, hmode, hvx]

/-- A TRIM that alone waited is in use after the end of a period. -/
theorem xDemod_trim (hn : n < d.xch.length) (hruns : d.xRuns n = true) (hdue : (d.xrec n).demn ≤ (d.xc n).periods)
    (hmirror : (d.xc n).mirTrim = none) {w : Word} {sess : Nat} (hwb : d.wb = [(R.XCH_TRIM n, w, sess)]) :
    (d.xDemod n).rdF (R.XCH_TRIM n) F.XCH_TRIM_TRIM = w.toNat % 65536 ∧ (d.xDemod n).wb = [] := by
  obtain ⟨hdem, -⟩ := xDemod_due hn hruns hdue hmirror
  have hcleared : ((d.xEnded n).xClear n).wb = [(R.XCH_TRIM n, w, sess)] := wb_xEnded.trans hwb
  rw [hdem, wbApply_some (v := w) (by simp [Dev.wbWord, hcleared]) 0xFFFF]
  constructor
  · exact (rdF_wrF_apart _ _ _ _ (by decide) _).trans
      ((congrArg (getF _) (rd_wr_same _ _ _)).trans (getF_maskedLow _ w (k := 16) (by decide)))
  · show List.filter _ ((d.xEnded n).xClear n).wb = []
    rw [hcleared]
    simp

end

/-- A TRIM that differs from the one in use waits. -/
theorem xTrimWrite_waits {d : Dev} {n : Nat} {v : BitVec 16} (hholder : d.holder = true)
    (hnew : d.rdF (R.XCH_TRIM n) F.XCH_TRIM_TRIM ≠ v.toNat) :
    (d.xTrimWrite n v).rdF (R.XCH_TRIM n) F.XCH_TRIM_TRIM = d.rdF (R.XCH_TRIM n) F.XCH_TRIM_TRIM ∧
    (d.xTrimWrite n v).rdF (R.XCH_TRIM n) F.XCH_TRIM_PEND = 1 ∧
    (d.xTrimWrite n v).wbWord (R.XCH_TRIM n) = some (BitVec.ofNat 32 v.toNat) := by
  obtain ⟨hword, hrd⟩ := wbWrite_low_pends (d := d) (k := 16) (mask := 0xFFFF) rfl (by decide) v.isLt hnew 0
  have heq : d.xTrimWrite n v = d.wbWrite (R.XCH_TRIM n) 0xFFFF (BitVec.ofNat 32 v.toNat) := by simp [Dev.xTrimWrite, hholder]
  rw [heq]
  exact ⟨(rdF_congr hrd _).trans (rdF_wrF_apart _ _ _ _ (by decide) _),
    (rdF_congr hrd _).trans (rdF_wrF_of_lt _ _ _ (by decide) (by decide)), hword⟩

/-- Settles O26: the checks of a drive period by their masks, the lock by its step, and a demodulation period by what its end
releases, clears and applies. -/
theorem excitationPeriods : Obligations.ExcitationPeriods := by
  unfold Obligations.ExcitationPeriods
  refine ⟨fun d n m _ _ h => xJudge_first h, fun d n k hn _ h1 h12 hlast hnew => xJudge_declared hn h1 h12 hlast hnew,
    fun s n samples irms limit ph err hup hlen hholder hlocked herr hbad => ?_,
    fun s n samples irms limit ph err hup hlen hholder hruns => ?_, fun s n hup hlen hruns hdue hmirror => ?_,
    fun s n hidle => exec_keeps rfl (xDemod_idle hidle), fun s n v hup => ⟨fun hholder => ?_, fun hholder _ hnew => ?_⟩⟩
  · have hn : n.val < s.dev.xch.length := by omega
    obtain ⟨hlost, hlen', hstat, hev, hcnt⟩ := xLocked_lost n.isLt hn hholder hlocked herr hbad
    have hfields := xPeriod_fields (d := s.dev) (samples := samples) (irms := irms) (limit := limit.val) (ph := ph) (err := err)
      (n := n.val) (l := [(R.XCH_STAT, ⟨8 + n.val, 1⟩), (R.XCH_CNT n.val, F.XCH_CNT_LOCKLOSSES)]) ?_ n.isLt ?_
    · refine completes_of_up hup (f := fun d => d.xPeriod n.val samples irms limit.val ph err) rfl ⟨?_, ?_, ?_, ?_⟩
      · rw [locked_xPeriod _ _ _ _ _ (by omega), hlost]
      · rw [hfields.field_eq (by simp), hstat]
      · exact hfields.pend 84 (by decide) hev
      · rw [hfields.field_eq (by simp), hcnt]
    · have := n.isLt
      constructor <;> simp only [FieldsLow, FieldsClear, FieldsUnflagged, List.forall_mem_cons, List.not_mem_nil, false_implies,
        implies_true, and_true, true_implies, R.XCH_STS, R.XCH_STAT, R.XCH_CNT,
        F.XCH_CNT_FAULTS, F.XCH_CNT_LOCKLOSSES, F.XCH_STS_STATUS] <;> omega
    · have := n.isLt
      simp only [FieldsOff, List.forall_mem_cons, List.not_mem_nil, false_implies, implies_true, and_true,
        R.XCH_DRVMON, R.XCH_STAT,
        R.XCH_CNT]
      omega
  · exact completes_of_up hup (f := fun d => d.xPeriod n.val samples irms limit.val ph err) rfl
      (xPeriod_driven _ _ _ _ _ n.isLt (by omega) hholder hruns)
  · have hn : n.val < s.dev.xch.length := by omega
    obtain ⟨-, hbad0, hperiods, hfaulted⟩ := xDemod_due hn hruns hdue hmirror
    refine ⟨fun hbad => ?_, fun hbad => ?_, fun w sess hwb => ?_⟩ <;>
      refine completes_of_up hup (f := fun d => d.xDemod n.val) rfl ?_
    · obtain ⟨hval, haux, hsts, hcnt⟩ := xDemod_bad n.isLt hn hruns hdue hmirror hbad
      exact ⟨hval, haux, hsts, hcnt, hbad0, hperiods⟩
    · obtain ⟨hsts, hval⟩ := xDemod_clean n.isLt hn hruns hdue hmirror hbad
      obtain ⟨-, -, hclean⟩ := xc_xEnded hn
      exact ⟨hsts, hfaulted.trans (hclean hbad), hperiods, hval⟩
    · exact xDemod_trim hn hruns hdue hmirror hwb
  · exact exec_keeps rfl (by simp [Dev.xTrimWrite, hholder])
  · exact completes_of_up hup (f := fun d => d.xTrimWrite n.val v) rfl (xTrimWrite_waits hholder hnew)

end Sys2Proof.Machine
end

section
/-!
PROOFS. Charge channels (chapter 05): QRESET, the test sequence and its outcome.
-/
namespace Sys2Proof.Machine

/-! QRESET (R136, R145) -/

section
variable {d : Dev} {n : Nat}

theorem quiet_isNone (c : QChan) (r : QcAcq) : (c.quiet r).isNone = !c.open_ r 2 := by
  rw [QChan.quiet, QChan.open_, ← Option.not_isSome, Bool.not_inj_iff, Bool.eq_iff_iff, List.find?_isSome, List.any_eq_true]

theorem qReset_idle {fb : Bool} (h : d.qOn n = false ∨ (d.qc n).test ≠ none) : d.qReset n fb false = d := by
  simp only [Dev.qReset, Dev.qLate, Bool.false_and, Bool.false_eq_true, if_false]
  rw [if_pos]
  rcases h with h | h
  · simp [h]
  · simp [Option.isSome_iff_ne_none.2 h]

theorem qReset_skipped (hon : d.qOn n = true) (htest : (d.qc n).test = none)
    (h : (d.qc n).open_ (d.qrec n).acq 1 = true ∨ (d.qc n).open_ (d.qrec n).acq 2 = false) :
    d.qReset n false false = (d.flag (R.QCH_STS n) 19).raise 71 := by
  simp only [Dev.qReset, Dev.qLate, Bool.false_and, Bool.false_eq_true, if_false, hon, htest, quiet_isNone, Option.isSome_none,
    Bool.not_true, Bool.or_false]
  rw [if_pos (by rcases h with h | h <;> simp [h])]
  rfl

theorem qReset_fallback (hon : d.qOn n = true) (htest : (d.qc n).test = none) :
    d.qReset n true false = d.setQc n (fun c => { c with test := some ⟨d.clk, none⟩ }) := by
  simp [Dev.qReset, Dev.qLate, hon, htest]

theorem qReset_quiet (hon : d.qOn n = true) (htest : (d.qc n).test = none)
    (hacq : (d.qc n).open_ (d.qrec n).acq 1 = false) (hquiet : (d.qc n).open_ (d.qrec n).acq 2 = true) :
    d.qReset n false false = d.setQc n (fun c => { c with test := some ⟨d.clk, c.quiet (d.qrec n).acq⟩ }) := by
  simp [Dev.qReset, Dev.qLate, hon, htest, quiet_isNone, hacq, hquiet]

end

/-! The release of a channel (R147 to R149, R155) -/

/-- What a release writes of the cycle that it carries. -/
def Dev.qCarry (d : Dev) (n st : Nat) (miss : Bool) (x : QHeld) : Dev :=
  let d := d.wr (R.QCH_CYC n) (BitVec.ofNat 32 (d.qc n).cycles)
  let d := d.wrF (R.QCH_STS n) F.QCH_STS_R10 x.r10
  if st ≤ 1 then
    let w := d.qWords x
    (w.2.qStoreRes n x w.1).qDescriptor n st miss x w.1
  else
    let w := d.qOpenWords x
    w.2.qDescriptor n st miss x w.1

section
variable {d : Dev} {n : Nat}

theorem qch_fit (w : Nat) (sgn : Bool) (x : Int) : (d.fit w sgn x).2.qch = d.qch := by
  unfold Dev.fit
  extract_lets lo hi
  split <;> rfl

theorem qch_fits (l : List (Nat × Bool × Int)) : (d.fits l).2.qch = d.qch := by
  induction l generalizing d with
  | nil => rfl
  | cons x t ih => exact ih.trans (qch_fit _ _ _)

theorem qch_freeVals (w k : Nat) : (d.freeVals w k).2.qch = d.qch := by
  induction k generalizing d with
  | zero => rfl
  | succ k ih => exact ih

theorem qch_qOpenWords (h : QHeld) : (d.qOpenWords h).2.qch = d.qch := by
  unfold Dev.qOpenWords
  split
  · exact qch_fits _
  · split
    · exact qch_freeVals 32 8
    · exact (qch_fits (d := (d.freeVals 32 7).2) [(16, true, h.a0)]).trans (qch_freeVals 32 7)

theorem qch_qStoreRes (h : QHeld) (ws : List Nat) : (d.qStoreRes n h ws).qch = d.qch := by simp [Dev.qStoreRes]

theorem chans_qDescriptor (st : Nat) (miss : Bool) (h : QHeld) (ws : List Nat) :
    (d.qDescriptor n st miss h ws).qch.chans = d.qch.chans := by
  unfold Dev.qDescriptor
  split
  · rfl
  · extract_lets bytes e f
    split <;> simp only [push_frame, flagEv_frame, refuse_frame, e, f]

theorem chans_qCarry (st : Nat) (miss : Bool) (x : QHeld) : (d.qCarry n st miss x).qch.chans = d.qch.chans := by
  unfold Dev.qCarry
  extract_lets d1 d2 w1 w2
  have h1 : w1.2.qch = d.qch := qch_fits (d := d2) _
  have h2 : w2.2.qch = d.qch := qch_qOpenWords (d := d2) x
  split
  · rw [chans_qDescriptor, qch_qStoreRes, h1]
  · rw [chans_qDescriptor, h2]

/-- A release with a cycle, of a status that is neither COARSE nor INVALID and without TESTMISS. -/
theorem qRelease_carried (hon : d.qOn n = true) {st : Nat} (h1 : st ≠ 1) (h2 : st ≠ 2) (cause : Nat) (x : QHeld) :
    ∃ f : QChan → QChan, (∀ c, (f c).test = c.test ∧ (f c).held = c.held) ∧ ∃ old,
    d.qRelease n st cause (some x) false = (((((d.setQc n f).wrF (R.QCH_STS n) F.QCH_STS_STATUS st).wrF R.QCH_STAT ⟨n, 1⟩
      (b2n (qFault st))).qCarry n st false x).qEvents old st true) := by
  have hst (invlim inv : Nat) : (qInvalid invlim inv st).1 = st := by
    simp only [qInvalid, if_neg h2]
    split <;> rfl
  refine ⟨_, ?_, d.rdF (R.QCH_STS n) F.QCH_STS_STATUS, by
    simp only [Dev.qRelease, hon, if_true, hst, if_neg h1, if_neg h2, Bool.false_eq_true, if_false]
    rfl⟩
  exact fun c => ⟨rfl, rfl⟩

theorem chans_qEvents (old st : Nat) (carries : Bool) : (d.qEvents old st carries).qch = d.qch := by
  simp only [Dev.qEvents, raiseIf_frame]

end

section
variable {A : Nat → Prop} {z d : Dev} {n : Nat}

theorem qCarry_leaves (hhost : OutsideHost A) (hstat : ¬ A R.QCH_STAT) (hcyc : ¬ A (R.QCH_CYC n)) (hsts : ¬ A (R.QCH_STS n))
    {st : Nat} (hres : st ≤ 1 → ∀ w, w < 7 → ¬ A (R.QCH_RES n w)) (miss : Bool) (x : QHeld) (k : Leaves A z d) :
    Leaves A z (d.qCarry n st miss x) := by
  unfold Dev.qCarry
  extract_lets d1 d2 w1 w2
  have h2 : Leaves A z d2 := wrF_leaves hsts _ _ (wr_leaves hcyc _ k)
  split
  case isTrue h => exact qDescriptor_leaves hhost hstat n st miss x _ (qStoreRes_leaves (hres h) x _ (fits_leaves _ h2))
  case isFalse h => exact qDescriptor_leaves hhost hstat n st miss x _ (qOpenWords_leaves x h2)

/-- The status of a channel stays while its cycle's results are written. -/
theorem status_qCarry (hn : n < 12) (st : Nat) (miss : Bool) (x : QHeld) :
    (d.qCarry n st miss x).rdF (R.QCH_STS n) F.QCH_STS_STATUS = d.rdF (R.QCH_STS n) F.QCH_STS_STATUS := by
  have hhost : OutsideHost (· = R.QCH_STS n) := fun q hq h => by
    simp only [R.HST_QSTAT, R.QCH_STS] at h
    omega
  have hne : R.QCH_STS n ≠ R.QCH_CYC n ∧ R.QCH_STAT ≠ R.QCH_STS n := by
    simp only [R.QCH_STS, R.QCH_CYC, R.QCH_STAT]
    omega
  have hres (w : Nat) : R.QCH_RES n w ≠ R.QCH_STS n := by
    simp only [R.QCH_STS, R.QCH_RES]
    omega
  obtain ⟨hcyc, hstat⟩ := hne
  have hlow : R.QCH_STS n < 0x170040 := by
    simp only [R.QCH_STS]
    omega
  unfold Dev.qCarry
  extract_lets d1 d2 w1 w2
  have h2 : d2.rdF (R.QCH_STS n) F.QCH_STS_STATUS = d.rdF (R.QCH_STS n) F.QCH_STS_STATUS :=
    (rdF_wrF_apart d1 _ _ _ (by decide) _).trans (rdF_congr (rd_wr_other d _ _ _ hcyc) _)
  rw [← h2]
  split
  · exact rdF_congr ((qDescriptor_leaves hhost hstat n st miss x _ (qStoreRes_leaves (fun w _ => hres w) x _
      (fits_leaves _ (.refl _ d2)))).rd _ rfl (.inl hlow)) _
  · exact rdF_congr ((qDescriptor_leaves hhost hstat n st miss x _ (qOpenWords_leaves x (.refl _ d2))).rd _ rfl (.inl hlow)) _

theorem fit_unsigned {x : Int} (hx : 0 ≤ x) (hlt : x < 2 ^ 32) : (d.fit 32 false x).1 = x.toNat := by
  have hpow : ((2 ^ 32 : Nat) : Int) = 2 ^ 32 := rfl
  simp only [Dev.fit, Bool.false_eq_true, if_false, hpow]
  rw [if_pos ⟨hx, hlt⟩, pattern, hpow, Int.emod_eq_of_lt hx hlt]

theorem fits_fifth (d : Dev) (a b c p q : Nat × Bool × Int) (l : List (Nat × Bool × Int)) :
    ∃ e : Dev, (d.fits (a :: b :: c :: p :: q :: l)).1.getD 4 0 = (e.fit q.1 q.2.1 q.2.2).1 := ⟨_, rfl⟩

theorem eq_six_of_length {α : Type} {l : List α} (h : l.length = 6) : ∃ a b c p q r, l = [a, b, c, p, q, r] :=
  match l, h with
  | [a, b, c, p, q, r], _ => ⟨a, b, c, p, q, r, rfl⟩

/-- The fifth result word of a release with values is the cycle's fifth result, where its field holds it. -/
theorem res4_qCarry (hn : n < 12) {st : Nat} (hst : st ≤ 1) (miss : Bool) (x : QHeld) (hlen : x.res.length = 6)
    (h0 : 0 ≤ x.res.getD 4 0) (hlt : x.res.getD 4 0 < 2 ^ 32) :
    ((d.qCarry n st miss x).rd (R.QCH_RES n 4)).toNat = (x.res.getD 4 0).toNat := by
  have hhost : OutsideHost (· = R.QCH_RES n 4) := fun q hq h => by
    simp only [R.HST_QSTAT, R.QCH_RES] at h
    omega
  have hstat : R.QCH_STAT ≠ R.QCH_RES n 4 := by
    simp only [R.QCH_STAT, R.QCH_RES]
    omega
  have h45 : R.QCH_RES n 4 ≠ R.QCH_RES n 5 ∧ R.QCH_RES n 4 ≠ R.QCH_RES n 6 := by
    simp only [R.QCH_RES]
    omega
  obtain ⟨h5, h6⟩ := h45
  have hword (e : Dev) : (e.qWords x).1.getD 4 0 = (x.res.getD 4 0).toNat := by
    obtain ⟨a, b, c, p, q, r, hres⟩ := eq_six_of_length hlen
    have hq : x.res.getD 4 0 = q := by rw [hres, List.getD_cons_succ, List.getD_cons_succ, List.getD_cons_succ,
      List.getD_cons_succ, List.getD_cons_zero]
    rw [hq] at h0 hlt ⊢
    rw [Dev.qWords, hres]
    obtain ⟨e', he'⟩ := fits_fifth e (32, true, a) (32, true, b) (32, true, c) (32, true, p) (32, false, q)
      [(16, true, r), (32, true, x.off), (16, true, x.a0)]
    exact he'.trans (fit_unsigned h0 hlt)
  unfold Dev.qCarry
  extract_lets d1 d2 w1 w2
  rw [if_pos hst, (qDescriptor_leaves hhost hstat n st miss x _ (.refl _ _)).rd _ rfl (.inl (by simp only [R.QCH_RES]; omega))]
  have hstored : (w1.2.qStoreRes n x w1.1).rd (R.QCH_RES n 4) = BitVec.ofNat 32 (w1.1.getD 4 0) := by
    unfold Dev.qStoreRes
    extract_lets put e0 e1 e2 e3 e4 e5
    exact (rd_wr_other _ _ _ _ h6).trans ((rd_wr_other _ _ _ _ h5).trans (rd_wr_same _ _ _))
  rw [hstored, hword, BitVec.toNat_ofNat, Nat.mod_eq_of_lt (by omega)]

theorem evPending_qEvents_value {old st : Nat} (hst : st ≤ 2) : (d.qEvents old st true).evPending 64 = true := by
  have hkeep (b : Bool) (m : Nat) {e : Dev} (h : e.evPending 64 = true) : (e.raiseIf b m).evPending 64 = true := by
    cases b with
    | false => exact h
    | true => exact evPending_raise_of (by decide) (.inr h)
  have hraised : (d.raiseIf (true && decide (st ≤ 2)) 64).evPending 64 = true := by
    simp only [hst, decide_true, Bool.and_self, Dev.raiseIf, if_true]
    exact evPending_raise_same _ (by decide)
  exact hkeep _ _ (hkeep _ _ (hkeep _ _ (hkeep _ _ hraised)))

end

/-! The end of a test sequence (R145 to R147) -/

theorem testOutcome_cases (cmin cmax leakq c0 c1a c1 c2 q : Int) : testOutcome cmin cmax leakq c0 c1a c1 c2 q = 0 ∨
    testOutcome cmin cmax leakq c0 c1a c1 c2 q = 4 ∨ testOutcome cmin cmax leakq c0 c1a c1 c2 q = 5 ∨
    testOutcome cmin cmax leakq c0 c1a c1 c2 q = 6 := by
  unfold testOutcome
  extract_lets cin leak
  repeat' split
  all_goals simp

section
variable {d : Dev} {n : Nat}

theorem qCin_leaves {A : Nat → Prop} {z : Dev} (hres : ¬ A (R.QCH_RES n 7)) (c0 c1a c1 q : Int) (k : Leaves A z d) :
    Leaves A z (d.qCin n c0 c1a c1 q) := wr_leaves hres _ (fit_leaves 16 false _ k)

/-- What a release with the held cycle shows, for an outcome of the test. -/
theorem qRelease_shows (hn : n < 12) (hlen : n < d.qch.chans.length) (hon : d.qOn n = true) {st : Nat} (h1 : st ≠ 1) (h2 : st ≠ 2)
    (h16 : st < 16) (cause : Nat) (x : QHeld) (hres : x.res.length = 6) :
    ((d.qRelease n st cause (some x) false).qc n).test = (d.qc n).test ∧
    ((d.qRelease n st cause (some x) false).qc n).held = (d.qc n).held ∧
    n < (d.qRelease n st cause (some x) false).qch.chans.length ∧
    (d.qRelease n st cause (some x) false).rdF (R.QCH_STS n) F.QCH_STS_STATUS = st ∧
    (st = 0 → (d.qRelease n st cause (some x) false).evPending 64 = true ∧ (0 ≤ x.res.getD 4 0 → x.res.getD 4 0 < 2 ^ 32 →
      ((d.qRelease n st cause (some x) false).rd (R.QCH_RES n 4)).toNat = (x.res.getD 4 0).toNat)) ∧
    (st ≠ 0 → ∀ w, w < 7 → (d.qRelease n st cause (some x) false).rd (R.QCH_RES n w) = d.rd (R.QCH_RES n w)) := by
  obtain ⟨f, hf, old, heq⟩ := qRelease_carried hon h1 h2 cause x
  have hchans : (d.qRelease n st cause (some x) false).qch.chans = (d.setQc n f).qch.chans := by
    rw [heq, chans_qEvents, chans_qCarry]
    rfl
  have hqc : (d.qRelease n st cause (some x) false).qc n = f (d.qc n) := by
    rw [Dev.qc, hchans]
    exact qc_setQc_same f hlen
  have hhost {a : Nat} (ha : a < 0x170000) : OutsideHost (· = a) := fun q hq h => by
    simp only [R.HST_QSTAT] at h
    omega
  have hev {a : Nat} (ha : a < 0x170000) (e : Dev) : (e.qEvents old st true).rd a = e.rd a :=
    (qEvents_leaves (hhost ha) old st true (.refl _ e)).rd a rfl (.inl (by omega))
  have hlow : R.QCH_STS n < 0x170000 ∧ R.QCH_STS n ≠ R.QCH_STAT := by
    simp only [R.QCH_STS, R.QCH_STAT]
    omega
  have hapart (w : Nat) (hw : w < 7) : R.QCH_RES n w < 0x170000 ∧ R.QCH_RES n w ≠ R.QCH_STAT ∧
      R.QCH_RES n w ≠ R.QCH_STS n ∧ R.QCH_RES n w ≠ R.QCH_CYC n := by
    simp only [R.QCH_STS, R.QCH_STAT, R.QCH_RES, R.QCH_CYC]
    omega
  obtain ⟨hlsts, hstsstat⟩ := hlow
  have hlres (w : Nat) (hw : w < 7) : R.QCH_RES n w < 0x170000 := (hapart w hw).1
  obtain ⟨htest, hheld⟩ := hf (d.qc n)
  refine ⟨by rw [hqc, htest], by rw [hqc, hheld], by rw [hchans, length_setQc]; exact hlen, ?_, fun h0 => ⟨?_, fun hx hlt => ?_⟩,
    fun h0 w hw => ?_⟩
  · rw [heq, rdF_congr (hev hlsts _), status_qCarry hn, rdF_wrF_other _ _ _ _ _ _ hstsstat,
      rdF_wrF_of_lt _ _ _ (by decide) h16]
  · rw [heq]
    exact evPending_qEvents_value (by omega)
  · rw [heq, hev (hlres 4 (by decide)), res4_qCarry hn (by omega) false x hres hx hlt]
  · obtain ⟨-, hstat, hsts, hcyc⟩ := hapart w hw
    rw [heq, hev (hlres w hw)]
    have hk : Leaves (· = R.QCH_RES n w) d (((d.setQc n f).wrF (R.QCH_STS n) F.QCH_STS_STATUS st).wrF R.QCH_STAT ⟨n, 1⟩
        (b2n (qFault st))) :=
      wrF_leaves (A := (· = R.QCH_RES n w)) (Ne.symm hstat) _ _ (wrF_leaves (A := (· = R.QCH_RES n w)) (Ne.symm hsts) _ _ (setQc_leaves n f (.refl _ d)))
    exact (qCarry_leaves (hhost (hlres w hw)) (Ne.symm hstat) (Ne.symm hcyc) (Ne.symm hsts) (fun h => absurd h (by omega)) false x
      hk).rd _ rfl (.inl (by have := hlres w hw; omega))

end

/-- What a test's end that finds held results releases: the results, or the failing outcome in their place. -/
theorem qTestRelease_held {d : Dev} {n out : Nat} {x : QHeld} (hcomp : (d.qc n).comp = none) (hheld : (d.qc n).held = some x)
    (hquiet : (d.qc n).quietRel = false) (hx : x.status = 0) : ∃ (f g : QChan → QChan) (cause : Nat), (∀ c, (g c).held = none) ∧
    d.qTestRelease n out = ((d.setQc n f).setQc n g).qRelease n out cause (some x) false := by
  have hfinish : d.qFinish n = d := by simp only [Dev.qFinish, hcomp]
  by_cases hout : out = 0
  · refine ⟨_, _, x.cause, ?_, by
      simp only [Dev.qTestRelease, hfinish, hquiet, hheld, hout, hx, Bool.false_eq_true, if_false, ne_eq, not_true_eq_false]
      rfl⟩
    exact fun c => rfl
  · refine ⟨_, _, 0, ?_, by
      simp only [Dev.qTestRelease, hfinish, hquiet, hheld, hout, Bool.false_eq_true, if_false, ne_eq, not_false_eq_true, if_true]
      rfl⟩
    exact fun c => rfl

/-- The end of a test sequence of a channel with held results. -/
theorem qTestDone_held {d : Dev} {n : Nat} (h12 : n < 12) (hlen : n < d.qch.chans.length) (hon : d.qOn n = true) (hrole : d.role = 1)
    {t : QTest} {x : QHeld} (htest : (d.qc n).test = some t) (hcomp : (d.qc n).comp = none) (hheld : (d.qc n).held = some x)
    (hx : x.status = 0) (hres : x.res.length = 6) (hquiet : (d.qc n).quietRel = false) (c0 c1a c1 c2 : BitVec 16) {out : Nat}
    (hout : out = testOutcome (d.qrec n).acq.cmin (d.qrec n).acq.cmax (d.qrec n).acq.leakq c0.toInt c1a.toInt c1.toInt c2.toInt
      (qfs (d.rdF (R.QCH_RANGE n) F.QCH_RANGE_RANGE))) :
    ((d.qTestDone n c0 c1a c1 c2).qc n).test = none ∧ ((d.qTestDone n c0 c1a c1 c2).qc n).held = none ∧
    (d.qTestDone n c0 c1a c1 c2).rdF (R.QCH_STS n) F.QCH_STS_STATUS = out ∧
    (out = 0 → (d.qTestDone n c0 c1a c1 c2).evPending 64 = true ∧ (0 ≤ x.res.getD 4 0 → x.res.getD 4 0 < 2 ^ 32 →
      ((d.qTestDone n c0 c1a c1 c2).rd (R.QCH_RES n 4)).toNat = (x.res.getD 4 0).toNat)) ∧
    (out ≠ 0 → ∀ w, w < 7 → (d.qTestDone n c0 c1a c1 c2).rd (R.QCH_RES n w) = d.rd (R.QCH_RES n w)) := by
  obtain ⟨e, he⟩ : ∃ e, e = d.qCin n c0.toInt c1a.toInt c1.toInt (qfs (d.rdF (R.QCH_RANGE n) F.QCH_RANGE_RANGE)) := ⟨_, rfl⟩
  have hrd {a : Nat} (ha : a ≠ R.QCH_RES n 7) (hlow : a < 0x170000) : e.rd a = d.rd a := by
    rw [he]
    exact (qCin_leaves (A := (· ≠ R.QCH_RES n 7)) (fun h => h rfl) _ _ _ _ (.refl _ d)).rd a ha (.inl (by omega))
  have hqch : e.qch = d.qch := by
    rw [he]
    exact qch_fit 16 false _
  have hqc : e.qc n = d.qc n := by rw [Dev.qc, hqch, ← Dev.qc]
  have hapart : R.QCH_PWR n ≠ R.QCH_RES n 7 ∧ R.QCH_PWR n < 0x170000 ∧ R.PAR_ROLE ≠ R.QCH_RES n 7 := by
    simp only [R.QCH_PWR, R.QCH_RES, R.PAR_ROLE]
    omega
  obtain ⟨hpwr, hpwrlow, hpair⟩ := hapart
  have heon : e.qOn n = true := by
    rw [Dev.qOn, rdF_congr (hrd hpwr hpwrlow), ← Dev.qOn, hon]
  have hstandby : e.standby = false := by
    have hrole' : e.role = 1 := (rdF_congr (hrd hpair (by decide)) _).trans hrole
    simp [Dev.standby, hrole']
  obtain ⟨f, g, cause, hg, hrel⟩ := qTestRelease_held (d := e) (n := n) (out := out) (hqc ▸ hcomp) (hqc ▸ hheld) (hqc ▸ hquiet) hx
  have hdone : d.qTestDone n c0 c1a c1 c2 = (((e.setQc n f).setQc n g).qRelease n out cause (some x) false).setQc n
      (fun c => { c with test := none, testAt := some e.clk }) := by
    rw [← hrel, hout, he]
    simp only [Dev.qTestDone, htest, ← he, hstandby, Bool.false_eq_true, if_false]
  obtain ⟨hne1, hne2, h16⟩ : out ≠ 1 ∧ out ≠ 2 ∧ out < 16 := by
    rw [hout]
    rcases testOutcome_cases (d.qrec n).acq.cmin (d.qrec n).acq.cmax (d.qrec n).acq.leakq c0.toInt c1a.toInt c1.toInt c2.toInt
      (qfs (d.rdF (R.QCH_RANGE n) F.QCH_RANGE_RANGE)) with h | h | h | h <;> rw [h] <;> decide
  obtain ⟨-, hheld', hlen', hstatus, hgood, hfail⟩ := qRelease_shows (d := (e.setQc n f).setQc n g) h12
    (by rw [length_setQc, length_setQc, hqch]; exact hlen) heon hne1 hne2 h16 cause x hres
  rw [hdone, qc_setQc_same _ hlen']
  refine ⟨rfl, ?_, hstatus, hgood, fun h0 w hw => (hfail h0 w hw).trans (hrd ?_ ?_)⟩
  · rw [hheld', qc_setQc_same _ (by rw [length_setQc, hqch]; exact hlen), hg]
  · simp only [R.QCH_RES]
    omega
  · simp only [R.QCH_RES]
    omega

/-- Settles O23: QRESET by its guards, the outcome by R146's order, and the end of the sequence by the release that it makes
with the held results. -/
theorem testSequence : Obligations.TestSequence := by
  unfold Obligations.TestSequence
  refine ⟨fun s n hup hlen => ?_, fun cmin cmax leakq c0 c1a c1 c2 q => ⟨fun h => if_pos h, fun h => ?_⟩,
    fun s n c0 c1a c1 c2 t x hup hlen hon hrole htest hcomp hheld hx hres hquiet => ?_⟩
  · intro runs
    have hn : n.val < s.dev.qch.chans.length := by rw [hlen]; exact n.isLt
    have hreset {fb : Bool} (hruns : s.dev.entryRuns 4 (64 + n.val) none (some fb) = true) {e : Dev}
        (h : s.dev.qReset n.val fb false = e) : exec (.qreset n fb false) s = .next (s.on e) := h ▸
      exec_of_entryRuns (f := fun d => (d.lateMark false).qReset n.val fb false) rfl hup hruns
    refine ⟨fun h => ?_, fun hruns hon htest h => hreset hruns (qReset_skipped hon htest h),
      fun hruns hon htest => hreset hruns (qReset_fallback hon htest), fun hruns hon htest hacq hquiet => ?_⟩
    · cases hruns : runs with
      | false => exact exec_keeps_of_not_entryRuns (f := fun d => (d.lateMark false).qReset n.val false false) rfl hruns
      | true => exact hreset hruns (qReset_idle (by simpa [hruns] using h))
    · refine completes_of_exec_on (hreset hruns (qReset_quiet hon htest hacq hquiet)) ⟨?_, rfl⟩
      rw [qc_setQc_same _ hn]
      rfl
  · simp only [testOutcome, if_neg h]
    rfl
  · intro a out
    exact completes_of_up hup (f := fun d => d.qTestDone n.val c0 c1a c1 c2) rfl (qTestDone_held n.isLt (by rw [hlen]; exact n.isLt) hon
      hrole htest hcomp hheld hx hres hquiet c0 c1a c1 c2 rfl)

end Sys2Proof.Machine
end

section
/-!
PROOFS. Charge channels (chapter 05): sampling, the range change, and the cycles.
-/
namespace Sys2Proof.Machine

theorem upd_congr {α : Type} (l : List α) (i : Nat) (x : α) {f g : α → α} (h : f (l.getD i x) = g (l.getD i x)) :
    upd l i f = upd l i g := by
  induction l generalizing i with
  | nil => rfl
  | cons y t ih =>
    cases i with
    | zero => exact congrArg (· :: t) h
    | succ i => exact congrArg (y :: ·) (ih i h)

theorem setQc_congr {d : Dev} {n : Nat} {f g : QChan → QChan} (h : f (d.qc n) = g (d.qc n)) : d.setQc n f = d.setQc n g := by
  rw [Dev.setQc, upd_congr _ _ _ h, ← Dev.setQc]

/-! Due points (R137, R138, R140, R142) -/

/-- The channel samples: it is ON, its ACQ window is open, and its cycle takes samples. -/
structure Dev.Samples (d : Dev) (n : Nat) : Prop where
  on : d.qOn n = true
  active : d.role = 1
  acq : (d.qc n).open_ (d.qrec n).acq 1 = true
  started : (d.qc n).started = true
  blocked : (d.qc n).blocked = false
  noSamp : (d.qc n).cyc.noSamp = false
  taken : (d.qc n).taken < 7200

section
variable {d : Dev} {n : Nat}

theorem standby_of_active (h : d.role = 1) : d.standby = false ∧ d.holder = true := by simp [Dev.standby, Dev.holder, h]

/-- A due point of a channel that samples waits for its conversion, or finds the queue of waiting points full. -/
theorem qDue_samples (h : d.Samples n) (j : Nat) : d.qDue n j =
    if (d.qc n).wait.length ≥ 15 ∧ ((d.qc n).conv.isSome ∨ (d.qc n).ranging) then
      (d.qCause n 3).setQc n (fun c => { c with wait := [], cyc := { c.cyc with noSamp := true } })
    else d.setQc n (fun c => ({ c with
      wait := c.wait ++ [(⟨j, false, (d.qc n).open_ (d.qrec n).acq 3⟩ : QPoint)] }).nextConv) := by
  obtain ⟨hon, hactive, hacq, hstarted, hblocked, hnoSamp, htaken⟩ := h
  obtain ⟨hstandby, hholder⟩ := standby_of_active hactive
  simp only [Dev.qDue, hon, hacq, hstarted, hblocked, hnoSamp, hstandby, hholder]
  simp [Nat.not_le.2 htaken]

theorem nextConv_idle {c : QChan} {p : QPoint} {ps : List QPoint} (hconv : c.conv = none) (hwait : c.wait = p :: ps)
    (hranging : c.ranging = false) : c.nextConv = { c with conv := some p, wait := ps } := by
  simp [QChan.nextConv, hconv, hwait, hranging]

theorem nextConv_busy {c : QChan} (hconv : c.conv ≠ none) : c.nextConv = c := by
  obtain ⟨p, hp⟩ := Option.ne_none_iff_exists'.1 hconv
  simp [QChan.nextConv, hp]

theorem nextConv_spec {c : QChan} (hconv : c.conv = none) (hranging : c.ranging = false) :
    c.nextConv = { c with conv := c.wait.head?, wait := c.wait.tail } := by
  obtain ⟨ps, hps⟩ : ∃ ps, c.wait = ps := ⟨_, rfl⟩
  cases ps with
  | nil =>
    have hc : c.nextConv = c := by simp [QChan.nextConv, hconv, hps]
    rw [hc, hps, List.head?_nil, List.tail_nil, ← hconv, ← hps]
  | cons p ps => rw [nextConv_idle hconv hps hranging, hps, List.head?_cons, List.tail_cons]

theorem qDue_converts (h : d.Samples n) (hconv : (d.qc n).conv = none) (hwait : (d.qc n).wait = []) (hranging : (d.qc n).ranging = false)
    (j : Nat) : d.qDue n j = d.setQc n (fun c => { c with conv := some ⟨j, false, (d.qc n).open_ (d.qrec n).acq 3⟩ }) := by
  rw [qDue_samples h, if_neg (by simp [hwait])]
  refine setQc_congr ?_
  rw [hwait, List.nil_append]
  exact nextConv_idle (c := { d.qc n with wait := [_] }) hconv rfl hranging

theorem qDue_waits (h : d.Samples n) (hconv : (d.qc n).conv ≠ none) (hwait : (d.qc n).wait.length < 15) (j : Nat) :
    d.qDue n j = d.setQc n (fun c => { c with wait := c.wait ++ [⟨j, false, (d.qc n).open_ (d.qrec n).acq 3⟩] }) := by
  rw [qDue_samples h, if_neg (by omega)]
  exact setQc_congr (nextConv_busy hconv)

/-- The sixteenth waiting point. -/
theorem qDue_rate (h : d.Samples n) (hn : n < d.qch.chans.length) (hconv : (d.qc n).conv ≠ none) (hwait : (d.qc n).wait.length = 15)
    (hcause : (d.qc n).cyc.cause = 0) (j : Nat) :
    ((d.qDue n j).qc n).cyc.cause = 3 ∧ ((d.qDue n j).qc n).cyc.noSamp = true ∧ ((d.qDue n j).qc n).wait = [] ∧
    (d.qDue n j).rdF (R.QCH_STS n) ⟨20, 1⟩ = 1 := by
  have hrate : d.qDue n j = (d.qCause n 3).setQc n (fun c => { c with wait := [], cyc := { c.cyc with noSamp := true } }) := by
    rw [qDue_samples h, if_pos ⟨by omega, .inl (Option.isSome_iff_ne_none.2 hconv)⟩]
  have hflag : d.qCause n 3 = (d.setCyc n (QCycle.fail · 3)).flag (R.QCH_STS n) 20 := by simp [Dev.qCause, hcause]
  obtain ⟨hqc, -, -⟩ := qCause_spec hn 3
  have hlen : n < (d.qCause n 3).qch.chans.length := by
    rw [hflag]
    exact Nat.lt_of_lt_of_eq hn (length_setQc _).symm
  rw [hrate, qc_setQc_same _ hlen, hqc]
  refine ⟨by simp [QCycle.fail, hcause], rfl, rfl, ?_⟩
  rw [setQc_rdF, hflag]
  exact rdF_flag_same _ _ (by decide)

end

/-! Conversions (R140 to R142, R157) -/

section
variable {d : Dev} {n : Nat}

theorem qch_qFeedSend (bytes : List Byte) : (d.qFeedSend bytes).qch = d.qch := by
  unfold Dev.qFeedSend
  split
  · simp only [push_frame]
  · rfl

/-- A change of a channel's part of the feed. -/
def QChan.FeedOf (c e : QChan) : Prop := ∃ feed seq, e = { c with feed := feed, feedSeq := seq }

theorem qFeedEnd_spec (hn : n < d.qch.chans.length) (c : QCycle) (close : Bool) :
    (d.qc n).FeedOf ((d.qFeedEnd n c close).qc n) ∧ (d.qFeedEnd n c close).qch.chans.length = d.qch.chans.length := by
  have hsent (bytes : List Byte) (f : QChan → QChan) : ((d.qFeedSend bytes).setQc n f).qc n = f (d.qc n) ∧
      ((d.qFeedSend bytes).setQc n f).qch.chans.length = d.qch.chans.length := by
    refine ⟨(qc_setQc_same _ (by rw [qch_qFeedSend]; exact hn)).trans ?_, by rw [length_setQc, qch_qFeedSend]⟩
    rw [Dev.qc, qch_qFeedSend, ← Dev.qc]
  unfold Dev.qFeedEnd
  split
  · obtain ⟨hqc, hlen⟩ := hsent _ (fun q => { q with feed := none, feedSeq := (q.feedSeq + 1) % 2 ^ 32 })
    rw [hqc, hlen]
    exact ⟨⟨_, _, rfl⟩, rfl⟩
  · split
    · obtain ⟨hqc, hlen⟩ := hsent _ (fun q => { q with feedSeq := (q.feedSeq + 1) % 2 ^ 32 })
      rw [hqc, hlen]
      exact ⟨⟨_, _, rfl⟩, rfl⟩
    · exact ⟨⟨_, _, rfl⟩, rfl⟩

theorem qFeedCode_spec (hn : n < d.qch.chans.length) (c : QCycle) (j : Nat) (code : Int) (ovl opens : Bool) :
    (d.qc n).FeedOf ((d.qFeedCode n c j code ovl opens).qc n) ∧
    (d.qFeedCode n c j code ovl opens).qch.chans.length = d.qch.chans.length := by
  unfold Dev.qFeedCode
  extract_lets fresh
  split
  · rw [qc_setQc_same _ hn, length_setQc]
    exact ⟨⟨_, _, rfl⟩, rfl⟩
  · extract_lets next
    split
    · obtain ⟨⟨feed, seq, hend⟩, hlen⟩ := qFeedEnd_spec hn c false
      rw [qc_setQc_same _ (by rw [hlen]; exact hn), length_setQc, hend]
      exact ⟨⟨_, _, rfl⟩, hlen⟩
    · rw [qc_setQc_same _ hn, length_setQc]
      exact ⟨⟨_, _, rfl⟩, rfl⟩

/-- The cycle record that a code makes. -/
def QCycle.stored (x : QCycle) (gap j : Nat) (kn : Bool) (code : Int) (ovl : Bool) : QCycle :=
  let y := x.add j code kn ovl (x.pos + gap)
  if ovl then y.fail 1 else y

theorem stored_spec (x : QCycle) (gap j : Nat) (kn : Bool) (code : Int) (ovl : Bool) :
    (x.stored gap j kn code ovl).count = x.count + 1 ∧ (x.stored gap j kn code ovl).codes = (code, kn) :: x.codes ∧
    (x.stored gap j kn code ovl).lastj = j ∧
    (x.stored gap j kn code ovl).cause = if ovl && x.cause == 0 then 1 else x.cause := by
  by_cases hc : x.cause = 0 <;> cases ovl <;> simp [QCycle.stored, QCycle.fail, QCycle.add, hc]

theorem qOverload_qch (first : Bool) : (d.qOverload n first).qch = d.qch := by
  unfold Dev.qOverload
  dsimp only
  split <;> simp

theorem role_qOverload (h12 : n < 12) (first : Bool) : (d.qOverload n first).role = d.role := by
  have hapart : R.PAR_ROLE ≠ R.QCH_STS n ∧ R.PAR_ROLE ≠ R.QCH_CNT n := by
    simp only [R.PAR_ROLE, R.QCH_STS, R.QCH_CNT]
    omega
  obtain ⟨hsts, hcnt⟩ := hapart
  have hflag := rdF_flagEv_other d (x := R.PAR_ROLE) (by decide) hsts 23 65 F.PAR_ROLE_ROLE
  cases first with
  | false => exact hflag
  | true => exact (rdF_congr (rd_wr_other _ _ _ _ hcnt) _).trans hflag

/-- A code of the cycle in hand, in the device that feeds its standby. -/
theorem qStore_spec (h12 : n < 12) (hn : n < d.qch.chans.length) (hactive : d.role = 1) (j : Nat) (kn : Bool) (code : Int) (ovl : Bool) :
    ∃ gap, QChan.FeedOf { d.qc n with cyc := (d.qc n).cyc.stored gap j kn code ovl } ((d.qStore n j false kn code ovl).qc n) ∧
    n < (d.qStore n j false kn code ovl).qch.chans.length := by
  refine ⟨d.qGap n (d.qc n).cyc j, ?_⟩
  unfold Dev.qStore
  extract_lets c x gap y y' d1 d2 d3
  have hd2 : d2.qc n = { d.qc n with cyc := (d.qc n).cyc.stored (d.qGap n (d.qc n).cyc j) j kn code ovl } ∧
      n < d2.qch.chans.length := ⟨qc_setQc_same _ (show n < d1.qch.chans.length from hn), by
    rw [length_setQc]
    exact hn⟩
  have hd3 : d3.qch = d2.qch := by
    unfold d3
    split
    · exact qOverload_qch _
    · rfl
  have hstandby : d3.standby = false := by
    refine (standby_of_active ?_).1
    unfold d3
    split
    · exact (role_qOverload h12 _).trans hactive
    · exact hactive
  obtain ⟨hqc, hlen⟩ := hd2
  rw [hstandby, if_neg (by decide), ← hqc]
  have hqc3 : d3.qc n = d2.qc n := by rw [Dev.qc, hd3, ← Dev.qc]
  obtain ⟨hfeed, hlen'⟩ := qFeedCode_spec (d := d3) (n := n) (by rw [hd3]; exact hlen) y' j code ovl (x.count == 0)
  rw [← hqc3]
  exact ⟨hfeed, by rw [hlen', hd3]; exact hlen⟩

end

/-- A code of sixteen bits saturates nowhere. -/
theorem satS_code (code : BitVec 16) : satS 16 code.toInt = code.toInt := by
  have hlo := BitVec.le_toInt code
  have hhi := BitVec.toInt_lt (x := code)
  unfold satS
  extract_lets hi lo
  have hhi' : hi = 32767 := by decide
  have hlo' : lo = -32768 := by decide
  rw [hhi', hlo', if_neg (by omega), if_neg (by omega)]

section
variable {d : Dev} {n : Nat}

/-- A conversion's code enters the cycle in hand, and the next waiting point follows. -/
theorem qConvDone_spec (h12 : n < 12) (hn : n < d.qch.chans.length) (hactive : d.role = 1) {p : QPoint} (hconv : (d.qc n).conv = some p)
    (hold : p.old = false) (hranging : (d.qc n).ranging = false) (code : BitVec 16) (ovl : Bool) :
    ∃ gap, ((d.qConvDone n code ovl).qc n).cyc = (d.qc n).cyc.stored gap p.j p.kn code.toInt
        (ovl || code.toInt == -32768 || code.toInt == 32767) ∧
      ((d.qConvDone n code ovl).qc n).conv = (d.qc n).wait.head? ∧ ((d.qConvDone n code ovl).qc n).wait = (d.qc n).wait.tail := by
  have hdone : d.qConvDone n code ovl = ((d.setQc n (fun c => { c with conv := none })).qStore n p.j false p.kn code.toInt
      (ovl || code.toInt == -32768 || code.toInt == 32767)).setQc n QChan.nextConv := by
    simp only [Dev.qConvDone, hconv, hold, satS_code, ite_self, Bool.false_and, Bool.false_eq_true, if_false]
  have hcleared : (d.setQc n (fun c => { c with conv := none })).qc n = { d.qc n with conv := none } := qc_setQc_same _ hn
  obtain ⟨gap, ⟨feed, seq, hstored⟩, hlen⟩ := qStore_spec (d := d.setQc n (fun c => { c with conv := none })) h12
    (by rw [length_setQc]; exact hn) hactive p.j p.kn code.toInt (ovl || code.toInt == -32768 || code.toInt == 32767)
  rw [hcleared] at hstored
  refine ⟨gap, ?_⟩
  rw [hdone, qc_setQc_same _ hlen, nextConv_spec (by rw [hstored]) (by rw [hstored]; exact hranging)]
  exact ⟨by rw [hstored], by rw [hstored], by rw [hstored]⟩

end

/-! RANGE (R136, R143, R159) -/

theorem upd_upd {α : Type} (l : List α) (i : Nat) (f g : α → α) : upd (upd l i f) i g = upd l i (g ∘ f) := by
  induction l generalizing i with
  | nil => rfl
  | cons x t ih =>
    cases i with
    | zero => rfl
    | succ i => exact congrArg (x :: ·) (ih i)

theorem upd_id {α : Type} (l : List α) (i : Nat) : upd l i id = l := by
  induction l generalizing i with
  | nil => rfl
  | cons x t ih =>
    cases i with
    | zero => rfl
    | succ i => exact congrArg (x :: ·) (ih i)

theorem setQc_setQc (d : Dev) (n : Nat) (f g : QChan → QChan) : (d.setQc n f).setQc n g = d.setQc n (g ∘ f) := by
  simp only [Dev.setQc, upd_upd]

theorem setQc_self {d : Dev} {n : Nat} {f : QChan → QChan} (h : f (d.qc n) = d.qc n) : d.setQc n f = d := by
  rw [setQc_congr (g := id) h, Dev.setQc, upd_id]

/-- What a RANGE entry does after the range itself: the next cycle's resolution, its first cycle, its boundary. -/
def Dev.qBound (d : Dev) (n : Nat) : Dev :=
  let d := d.qChoose n
  let d := if d.qOn n && d.qCycles n then d.setQc n (fun c => { c with started := true }) else d
  d.setCyc n (fun x => { x with inRange := true })

section
variable {d : Dev} {n : Nat}

theorem qBound_eq : ∃ f : QChan → QChan, d.qBound n = d.setQc n f ∧ ∀ c, (f c).ranging = c.ranging ∧
    (f c).cyc = { c.cyc with inRange := true } ∧ (f c).started = (c.started || (d.qOn n && d.qCycles n)) := by
  obtain ⟨f, hf, hkeep⟩ : ∃ f : QChan → QChan, d.qChoose n = d.setQc n f ∧
      ∀ c, (f c).ranging = c.ranging ∧ (f c).cyc = c.cyc ∧ (f c).started = c.started := by
    simp only [Dev.qChoose]
    split
    · exact ⟨_, rfl, fun c => ⟨rfl, rfl, rfl⟩⟩
    · exact ⟨_, rfl, fun c => ⟨rfl, rfl, rfl⟩⟩
  have hruns : ((d.setQc n f).qOn n && (d.setQc n f).qCycles n) = (d.qOn n && d.qCycles n) := rfl
  simp only [Dev.qBound, hf, hruns]
  cases hb : d.qOn n && d.qCycles n with
  | true =>
    refine ⟨_, by rw [if_pos rfl, Dev.setCyc, setQc_setQc, setQc_setQc], fun c => ?_⟩
    obtain ⟨hranging, hcyc, -⟩ := hkeep c
    exact ⟨hranging, congrArg (fun x : QCycle => { x with inRange := true }) hcyc, (Bool.or_true _).symm⟩
  | false =>
    refine ⟨_, by rw [if_neg (by decide), Dev.setCyc, setQc_setQc], fun c => ?_⟩
    obtain ⟨hranging, hcyc, hstarted⟩ := hkeep c
    exact ⟨hranging, congrArg (fun x : QCycle => { x with inRange := true }) hcyc, hstarted.trans (Bool.or_false _).symm⟩

theorem qTestMiss_none (hheld : (d.qc n).held = none) (hcomp : (d.qc n).comp = none) : d.qTestMiss n = d := by
  have hfinish : d.qFinish n = d := by simp only [Dev.qFinish, hcomp]
  simp only [Dev.qTestMiss, hfinish, ite_self, hheld]
  exact setQc_self (by rw [hcomp, Option.map_none, ← hcomp])

theorem qRange_open (hheld : (d.qc n).held = none) (hcomp : (d.qc n).comp = none) (hacq : (d.qc n).open_ (d.qrec n).acq 1 = true) :
    d.qRange n false false = (d.qWinErr n).qBound n := by
  simp only [Dev.qRange, qTestMiss_none hheld hcomp, hacq, if_true]
  rfl

theorem qRange_apply (hheld : (d.qc n).held = none) (hcomp : (d.qc n).comp = none) (hacq : (d.qc n).open_ (d.qrec n).acq 1 = false)
    (hcycles : d.qCycles n = true) : d.qRange n false false = (d.qApplyRange n).qBound n := by
  simp only [Dev.qRange, qTestMiss_none hheld hcomp, hacq, hcycles, Bool.or_true, Bool.false_eq_true, if_false, if_true]
  rfl

/-- A pending range that alone waited applies; a different one closes the reset switch. -/
theorem qApplyRange_spec (hn : n < d.qch.chans.length) {w : Word} {sess : Nat} (hwb : d.wb = [(R.QCH_RANGE n, w, sess)]) :
    (d.qApplyRange n).rdF (R.QCH_RANGE n) F.QCH_RANGE_RANGE = w.toNat % 4 ∧ (d.qApplyRange n).wb = [] ∧
    (d.qApplyRange n).qc n = { d.qc n with
      ranging := (d.qc n).ranging || d.rdF (R.QCH_RANGE n) F.QCH_RANGE_RANGE != w.toNat % 4 } ∧
    n < (d.qApplyRange n).qch.chans.length ∧ (d.qApplyRange n).qOn n = d.qOn n ∧ (d.qApplyRange n).qCycles n = d.qCycles n := by
  obtain ⟨e, he⟩ : ∃ e, e = d.wbApply (R.QCH_RANGE n) qRangeMask := ⟨_, rfl⟩
  have hsome := wbApply_some (d := d) (v := w) (by simp [Dev.wbWord, hwb] : d.wbWord (R.QCH_RANGE n) = some w) qRangeMask
  have hrange : e.rdF (R.QCH_RANGE n) F.QCH_RANGE_RANGE = w.toNat % 4 := by
    rw [he, hsome]
    exact (rdF_wrF_apart _ _ _ _ (by decide) _).trans
      ((congrArg (getF _) (rd_wr_same _ _ _)).trans (getF_maskedLow _ w (k := 2) (by decide)))
  have hnone : e.wb = [] := by
    rw [he, hsome]
    show List.filter _ d.wb = []
    rw [hwb]
    simp
  have hpwr : R.QCH_PWR n ≠ R.QCH_RANGE n := by
    simp only [R.QCH_PWR, R.QCH_RANGE]
    omega
  have hon : e.qOn n = d.qOn n := by
    rw [he, hsome]
    exact congrArg (· == 2) (rdF_congr ((rd_wr_other _ _ _ _ hpwr).trans (rd_wr_other _ _ _ _ hpwr)) _)
  have hqch : e.qch = d.qch ∧ e.image = d.image ∧ e.phs = d.phs := by
    rw [he, hsome]
    exact ⟨rfl, rfl, rfl⟩
  obtain ⟨hqch, himage, hphs⟩ := hqch
  have hqc : e.qc n = d.qc n := by rw [Dev.qc, hqch, ← Dev.qc]
  have hcycles : e.qCycles n = d.qCycles n := by
    simp only [Dev.qCycles, Dev.qrec, Dev.inSync, Dev.base, himage, hphs]
    rfl
  simp only [Dev.qApplyRange, ← he, hrange]
  split
  case isTrue heq =>
    rw [hqc, hqch]
    have hb : (d.rdF (R.QCH_RANGE n) F.QCH_RANGE_RANGE != w.toNat % 4) = false := by simp [heq]
    exact ⟨hrange, hnone, by rw [hb, Bool.or_false], hn, hon, hcycles⟩
  case isFalse hne =>
    have hb : (d.rdF (R.QCH_RANGE n) F.QCH_RANGE_RANGE != w.toNat % 4) = true := by simpa using Ne.symm hne
    rw [qc_setQc_same _ (by rw [hqch]; exact hn), length_setQc, hqc, hqch, hb, Bool.or_true]
    exact ⟨hrange, hnone, rfl, hn, hon, hcycles⟩

end

section
variable {d : Dev} {n : Nat}

/-- A RANGE entry with the ACQ window open. -/
theorem qRange_refused (h12 : n < 12) (hheld : (d.qc n).held = none) (hcomp : (d.qc n).comp = none)
    (hacq : (d.qc n).open_ (d.qrec n).acq 1 = true) :
    (d.qRange n false false).rdF (R.QCH_RANGE n) F.QCH_RANGE_RANGE = d.rdF (R.QCH_RANGE n) F.QCH_RANGE_RANGE ∧
    (d.qRange n false false).wb = d.wb ∧ (d.qRange n false false).rdF (R.QCH_STS n) F.QCH_STS_WINERR = 1 ∧
    (d.qRange n false false).evPending 74 = true := by
  obtain ⟨f, hf, -⟩ := qBound_eq (d := d.qWinErr n) (n := n)
  have hlow : R.QCH_RANGE n < 0x170000 ∧ R.QCH_STS n < 0x170000 ∧ R.QCH_RANGE n ≠ R.QCH_STS n := by
    simp only [R.QCH_RANGE, R.QCH_STS]
    omega
  obtain ⟨hrange, hsts, hne⟩ := hlow
  rw [qRange_open hheld hcomp hacq, hf]
  exact ⟨rdF_flagEv_other d hrange hne 16 74 _, by simp [Dev.qWinErr],
    rdF_flagEv_same d hsts (by decide) 74, evPending_flagEv_same d _ 16 (by decide)⟩

/-- A RANGE entry with the ACQ window closed. -/
theorem qRange_applied (hn : n < d.qch.chans.length) (hheld : (d.qc n).held = none) (hcomp : (d.qc n).comp = none)
    (hacq : (d.qc n).open_ (d.qrec n).acq 1 = false) (hcycles : d.qCycles n = true) {w : Word} {sess : Nat}
    (hwb : d.wb = [(R.QCH_RANGE n, w, sess)]) :
    (d.qRange n false false).rdF (R.QCH_RANGE n) F.QCH_RANGE_RANGE = w.toNat % 4 ∧ (d.qRange n false false).wb = [] ∧
    ((d.qRange n false false).qc n).ranging =
      ((d.qc n).ranging || d.rdF (R.QCH_RANGE n) F.QCH_RANGE_RANGE != w.toNat % 4) ∧
    ((d.qRange n false false).qc n).cyc = { (d.qc n).cyc with inRange := true } ∧
    ((d.qRange n false false).qc n).started = ((d.qc n).started || d.qOn n) := by
  obtain ⟨hrange, hnone, hqc, hlen, hon, hcyc⟩ := qApplyRange_spec hn hwb
  obtain ⟨f, hf, hkeep⟩ := qBound_eq (d := d.qApplyRange n) (n := n)
  obtain ⟨hranging, hmark, hstarted⟩ := hkeep ((d.qApplyRange n).qc n)
  rw [qRange_apply hheld hcomp hacq hcycles, hf, qc_setQc_same _ hlen, hranging, hmark, hstarted, hqc, hon, hcyc, hcycles,
    Bool.and_true]
  exact ⟨hrange, hnone, rfl, rfl, rfl⟩

/-! CYCLE (R136, R147) -/

theorem qFeedEnd_leaves {A : Nat → Prop} (hhost : OutsideHost A) {z : Dev} (c : QCycle) (close : Bool) (k : Leaves A z d) :
    Leaves A z (d.qFeedEnd n c close) := by
  have hsend (bytes : List Byte) : Leaves A z (d.qFeedSend bytes) := Leaves.ite (push_leaves hhost (by decide) bytes none k) k
  unfold Dev.qFeedEnd
  split
  · exact setQc_leaves n _ (hsend _)
  · exact Leaves.ite (setQc_leaves n _ (hsend _)) k

/-- A CYCLE entry that ends a cycle whose samples are all converted. -/
theorem qCycle_ends (hn : n < d.qch.chans.length) (hactive : d.role = 1) (hstarted : (d.qc n).started = true)
    (hconv : (d.qc n).conv = none) (hwait : (d.qc n).wait = []) (hcount : 0 < (d.qc n).cyc.count)
    (hauto : (d.qrec n).acq.auto = false) (hpeg : (d.qrec n).comp.pegsrc = 0)
    (hacq : (d.qc n).open_ (d.qrec n).acq 1 = false) :
    ((d.qCycle n false).qc n).cyc = QCycle.empty ∧
    ((d.qCycle n false).qc n).comp = some { (d.qc n).cyc with
      pref := (d.qrec n).comp.pfix, pegfb := false, tick := d.dom.count, inRange := false } ∧
    (∀ a, a < 0x170000 → (d.qCycle n false).rd a = d.rd a) := by
  obtain ⟨hstandby, -⟩ := standby_of_active hactive
  obtain ⟨x, hx⟩ : ∃ x : QCycle, x = { (d.qc n).cyc with
      pref := (d.qrec n).comp.pfix, pegfb := false, tick := d.dom.count, inRange := false } := ⟨_, rfl⟩
  have hcnt : (d.qc n).cyc.count ≠ 0 := Nat.ne_of_gt hcount
  have heq : ∃ f : QChan → QChan, d.qCycle n false = ((d.qFeedEnd n x true).setQc n f).setQc n (fun c => { c with comp := some x }) ∧
      ∀ c, (f c).cyc = QCycle.empty := by
    refine ⟨_, by
      simp only [Dev.qCycle, Dev.qLate, Bool.false_and, Bool.false_eq_true, if_false, hacq, hstarted, Bool.not_true, Dev.pegRef, hpeg,
        if_true, Dev.qAuto, hauto, Bool.not_false, hconv, hwait, Option.isSome_none, List.isEmpty_nil, Bool.or_self, hstandby,
        Dev.tick48, ← hx, hcnt, false_and]
      rfl, fun c => rfl⟩
  obtain ⟨f, heq, hempty⟩ := heq
  obtain ⟨-, hlen⟩ := qFeedEnd_spec hn x true
  rw [← hx, heq, qc_setQc_same _ (by rw [length_setQc, hlen]; exact hn), qc_setQc_same _ (by rw [hlen]; exact hn)]
  refine ⟨hempty _, rfl, fun a ha => ?_⟩
  have hhost : OutsideHost (· = a) := fun q hq h => by
    simp only [R.HST_QSTAT] at h
    omega
  exact (qFeedEnd_leaves hhost x true (.refl _ d)).rd a rfl (.inl (by omega))

/-! The end of a computation (R147) -/

theorem qComputed_idle (h : d.role = 3 ∨ (d.qc n).comp = none) : d.qComputed n = d := by
  rcases h with h | h
  · simp [Dev.qComputed, Dev.standby, h]
  · simp [Dev.qComputed, Dev.qFinish, h]

theorem qComputed_holds (hactive : d.role = 1) {x : QCycle} (hcomp : (d.qc n).comp = some x) (hmissed : x.missed = false) :
    d.qComputed n = d.setQc n (fun c => { c with comp := none, held := some (d.qHold n x) }) := by
  obtain ⟨hstandby, -⟩ := standby_of_active hactive
  simp only [Dev.qComputed, Dev.qFinish, hstandby, hcomp, Bool.false_and, Bool.false_eq_true, if_false, hmissed]

theorem qHold_spec (x : QCycle) : (d.qHold n x).n = x.count ∧
    (d.qHold n x).cause = (if x.cause ≠ 0 then x.cause else if x.count < 3 then 7 else 0) ∧
    (d.qHold n x).status = if (d.qHold n x).cause ≠ 0 then 2 else b2n x.coarse := ⟨rfl, rfl, rfl⟩

/-! The feed of a standby (R157) -/

theorem qFeedIn_idle {bytes : List Byte} (h : d.role ≠ 3) : d.qFeedIn bytes = d := by
  have hstandby : d.standby = false := by simp [Dev.standby, h]
  simp only [Dev.qFeedIn, hstandby]
  rw [if_pos (.inr (by decide))]

/-- A feed element without codes, out of sequence. -/
theorem qFeedIn_gap {bytes : List Byte} {k : Nat} (h12 : n < 12) (hrole : d.role = 3)
    (hbyte : byteAt bytes 0 = n) (hcomp : (d.qc n).comp = none) (hfeed : (d.qc n).feedIn = some k) (hgap : k ≠ uAt bytes 12 4)
    (hempty : uAt bytes 2 2 = 0) : ∃ f : QChan → QChan,
    d.qFeedIn bytes = (((d.setQc n (fun c => { c with feedIn := some ((uAt bytes 12 4 + 1) % 2 ^ 32) })).setQc n
      (fun c => { c with cyc := c.cyc.fail 9 })).flagEv R.QCH_STAT 17 78).setQc n f ∧
    ∀ c, (f c).feedIn = c.feedIn ∧ (c.cyc.cause ≠ 0 → (f c).cyc.cause = c.cyc.cause) := by
  have hstandby : d.standby = true := by simp [Dev.standby, hrole]
  have hcodes : feedCodes bytes = [] := by simp [feedCodes, hempty]
  simp only [Dev.qFeedIn, hbyte, hstandby, hcomp, hcodes, hempty, Option.any_none, bne_self_eq_false, Bool.and_false, Bool.false_and,
    Bool.false_or, hfeed, Option.any_some, bne_iff_ne, ne_eq, hgap, not_false_eq_true, if_true, Bool.false_eq_true, if_false,
    List.zip_nil_right, List.foldl_nil, ge_iff_le, Nat.not_le.2 h12, not_true_eq_false, or_self]
  split <;> split <;> simp only [setQc_setQc]
  all_goals exact ⟨_, rfl, fun c => ⟨rfl, fun hc => by simp [QCycle.fail, hc]⟩⟩

end

/-- Settles O24: due points, conversions and the range change by the channel's queue of points; RANGE, CYCLE, the computation
and the feed by what each writes of its channel. -/
theorem samplingAndRange : Obligations.SamplingAndRange := by
  unfold Obligations.SamplingAndRange
  refine ⟨fun s n hup hlen hon hactive => ?_, fun s n hup hlen => ?_⟩
  · intro c
    have hn : n.val < s.dev.qch.chans.length := by rw [hlen]; exact n.isLt
    obtain ⟨hstandby, -⟩ := standby_of_active hactive
    refine ⟨fun j i hi => ?_, fun p code ovl hconv hold hranging => ?_, fun hranging hconv => ?_⟩
    · intro p hacq hstarted hblocked hnoSamp htaken hranging
      have hs : s.dev.Samples n.val := ⟨hon, hactive, hacq, hstarted, hblocked, hnoSamp, htaken⟩
      have hexec : exec i s = .next (s.on (s.dev.qDue n.val j)) := by
        rcases hi with ⟨hi, htime⟩ | ⟨hi, htime, hj⟩
        · rw [hi]
          exact exec_of_up (f := fun d => d.gridPoint n.val j) hup rfl (by simp [Dev.gridPoint, htime])
        · rw [hi]
          exact exec_of_up (f := fun d => d.timeSample n.val) hup rfl (by simp [Dev.timeSample, htime, hstandby, hj, c])
      refine ⟨fun hconv hwait => ?_, fun hconv hwait => ?_, fun hconv hwait hcause => ?_⟩
      · rw [hexec, qDue_converts hs hconv hwait hranging]
      · rw [hexec, qDue_waits hs hconv hwait]
      · exact completes_of_exec_on hexec (qDue_rate hs hn hconv hwait hcause j)
    · obtain ⟨gap, hcyc, hnext, hrest⟩ := qConvDone_spec n.isLt hn hactive hconv hold hranging code ovl
      obtain ⟨hcount, hcodes, hlast, hcause⟩ := stored_spec c.cyc gap p.j p.kn code.toInt
        (ovl || code.toInt == -32768 || code.toInt == 32767)
      refine completes_of_up hup (f := fun d => d.qConvDone n.val code ovl) rfl ?_
      rw [hcyc]
      exact ⟨hcount, hcodes, hlast, hcause, hnext, hrest⟩
    · refine completes_of_up hup (f := fun d => d.qRangeEnd n.val) rfl ?_
      have hended : (s.dev.qRangeEnd n.val).qc n.val = { c with ranging := false, conv := c.wait.head?, wait := c.wait.tail } := by
        rw [Dev.qRangeEnd, qc_setQc_same _ hn, if_pos hranging]
        exact nextConv_spec (c := { c with ranging := false }) hconv rfl
      rw [hended]
      exact ⟨rfl, rfl, rfl, rfl, rfl⟩
  · intro c a
    have hn : n.val < s.dev.qch.chans.length := by rw [hlen]; exact n.isLt
    refine ⟨fun hruns hheld hcomp hacq => ?_, fun hruns hheld hcomp hacq hcycles w sess hwb => ?_,
      exec_keeps_of_not_entryRuns (f := fun d => (d.lateMark false).qRange n.val false false) rfl,
      exec_keeps_of_not_entryRuns (f := fun d => (d.lateMark false).qCycle n.val false) rfl,
      fun hruns hactive hstarted hconv hwait hcount hauto hpeg hacq => ?_, fun h => exec_keeps rfl (qComputed_idle h),
      fun x hactive hcomp hmissed => ?_, fun bytes hrole => exec_keeps rfl (qFeedIn_idle hrole),
      fun bytes k hrole hbyte hcomp hfeed hgap hempty => ?_⟩
    · exact completes_of_exec_on (exec_of_entryRuns (f := fun d => (d.lateMark false).qRange n.val false false) rfl hup hruns)
        (qRange_refused n.isLt hheld hcomp hacq)
    · exact completes_of_exec_on (exec_of_entryRuns (f := fun d => (d.lateMark false).qRange n.val false false) rfl hup hruns)
        (qRange_applied hn hheld hcomp hacq hcycles hwb)
    · obtain ⟨hcyc, hended, hregs⟩ := qCycle_ends hn hactive hstarted hconv hwait hcount hauto hpeg hacq
      refine completes_of_exec_on (exec_of_entryRuns (f := fun d => (d.lateMark false).qCycle n.val false) rfl hup hruns) ?_
      simp only [lateMark_false]
      rw [hcyc, hended]
      refine ⟨rfl, rfl, rfl, rfl, rfl, rfl, hregs _ ?_, fun w hw => hregs _ ?_⟩
      · simp only [R.QCH_STS]
        omega
      · simp only [R.QCH_RES]
        omega
    · refine completes_of_up hup (f := fun d => d.qComputed n.val) rfl ?_
      obtain ⟨hcount, hcause, hstatus⟩ := qHold_spec (d := s.dev) (n := n.val) x
      rw [qComputed_holds hactive hcomp hmissed, qc_setQc_same _ hn]
      exact ⟨rfl, rfl, _, rfl, hcount, hcause, fun h => by rw [hstatus, if_pos h], fun h => by rw [hstatus, if_neg (by simp [h])]⟩
    · obtain ⟨f, hf, hkeep⟩ := qFeedIn_gap n.isLt hrole hbyte hcomp hfeed hgap hempty
      refine completes_of_up hup (f := fun d => d.qFeedIn bytes) rfl ?_
      have hmarked : ((s.dev.setQc n.val (fun c => { c with feedIn := some ((uAt bytes 12 4 + 1) % 2 ^ 32) })).setQc n.val
          (fun c => { c with cyc := c.cyc.fail 9 })).qc n.val =
            { c with feedIn := some ((uAt bytes 12 4 + 1) % 2 ^ 32), cyc := c.cyc.fail 9 } := by
        rw [qc_setQc_same _ (by rw [length_setQc]; exact hn), qc_setQc_same _ hn]
      have hcause : (c.cyc.fail 9).cause = if c.cyc.cause = 0 then 9 else c.cyc.cause := by
        unfold QCycle.fail
        split <;> rfl
      obtain ⟨hfeedIn, hkept⟩ := hkeep { c with feedIn := some ((uAt bytes 12 4 + 1) % 2 ^ 32), cyc := c.cyc.fail 9 }
      have hflag (e : Dev) : (e.flagEv R.QCH_STAT 17 78).qc n.val = e.qc n.val := by simp [Dev.qc]
      rw [hf, qc_setQc_same _ (by simpa using hn), hflag, hmarked]
      refine ⟨hfeedIn, (hkept ?_).trans hcause, rdF_flagEv_same _ (by decide) (by decide) 78, evPending_flagEv_same _ _ 17 (by decide)⟩
      rw [hcause]
      split <;> omega

end Sys2Proof.Machine
end

section
/-!
PROOFS. Contacts and actuated outputs (chapter 08).
-/
namespace Sys2Proof.Machine

/-! Releases of a contact input (R214, R215) -/

/-- The places of the contacts' registers. -/
theorem dio_low {n : Nat} (hn : n < 32) : R.DIO_ISTS n < 0x170000 ∧ R.DIO_OSTS n < 0x170000 ∧
    R.DIO_ISTS n ≠ R.DIO_INFLT ∧ R.DIO_ISTS n ≠ R.DIO_INSTATE ∧ R.DIO_ISTS n ≠ R.DIO_STAT ∧
    R.DIO_OSTS n ≠ R.DIO_OUT ∧ R.DIO_OSTS n ≠ R.DIO_FB := by
  simp only [R.DIO_ISTS, R.DIO_OSTS, R.DIO_INFLT, R.DIO_INSTATE, R.DIO_STAT, R.DIO_OUT, R.DIO_FB]
  omega

section
variable {d : Dev} {n : Nat}

theorem rd_diRelease_end (e : Dev) (b c : Bool) {a : Nat} (ha : a < 0x170000) : ((e.raiseIf b 112).raiseIf c 113).rd a = e.rd a := by
  rw [rd_raiseIf_low _ _ _ ha, rd_raiseIf_low _ _ _ ha]

/-- What a release of an input shows. -/
theorem diRelease_shows (hn : n < 32) {st : Nat} (hst : st < 16) (state : Bool) :
    (d.diRelease n st state).rdF (R.DIO_ISTS n) F.DIO_ISTS_STATUS = st ∧
    (d.diRelease n st state).rdF (R.DIO_ISTS n) F.DIO_ISTS_ICUR = d.rdF (R.DIO_ISTS n) F.DIO_ISTS_ICUR ∧
    (d.diRelease n st state).rdF R.DIO_INFLT ⟨n, 1⟩ = b2n (diFault st) ∧
    (st = 0 → (d.diRelease n st state).rdF R.DIO_INSTATE ⟨n, 1⟩ = b2n (state != (d.direc n).inv)) ∧
    (st ≠ 0 → (d.diRelease n st state).rd R.DIO_INSTATE = d.rd R.DIO_INSTATE) := by
  obtain ⟨hlow, -, hflt, hstate, -⟩ := dio_low hn
  have hb (b : Bool) : b2n b < 2 ^ 1 := by cases b <;> decide
  have hf : (⟨n, 1⟩ : Field).lo + (⟨n, 1⟩ : Field).width ≤ 32 := by
    show n + 1 ≤ 32
    omega
  unfold Dev.diRelease
  extract_lets old d1 d2 d3 d4
  have hend {a : Nat} (ha : a < 0x170000) : (d4.raiseIf (st == 0 && diFault old) 113).rd a = d3.rd a := rd_diRelease_end d3 _ _ ha
  have h3 {a : Nat} (ha : a ≠ R.DIO_INSTATE) : d3.rd a = d2.rd a := by
    unfold d3
    split
    · exact rd_wr_other _ _ _ _ ha
    · rfl
  have hists : (d4.raiseIf (st == 0 && diFault old) 113).rd (R.DIO_ISTS n) = d1.rd (R.DIO_ISTS n) :=
    (hend hlow).trans ((h3 hstate).trans (rd_wr_other _ _ _ _ hflt))
  refine ⟨(rdF_congr hists _).trans (rdF_wrF_of_lt _ _ _ (by decide) hst), (rdF_congr hists _).trans (rdF_wrF_apart _ _ _ _ (by decide) _),
    (rdF_congr ((hend (by decide)).trans (h3 (by decide))) _).trans (rdF_wrF_of_lt _ _ _ hf (hb _)), fun h0 => ?_, fun h0 => ?_⟩
  · rw [rdF_congr (hend (by decide))]
    unfold d3
    rw [if_pos h0]
    exact rdF_wrF_of_lt _ _ _ hf (hb _)
  · rw [hend (by decide)]
    unfold d3
    rw [if_neg h0]
    exact (rd_wr_other _ _ _ _ (by decide)).trans (rd_wr_other _ _ _ _ (Ne.symm hstate))

theorem dio_diRelease (st : Nat) (state : Bool) : (d.diRelease n st state).dio = d.dio := by
  simp only [Dev.diRelease, raiseIf_frame]
  split <;> simp

theorem evPending_raiseIf_keep (b : Bool) (k : Nat) {m : Nat} (hm : m < 256) (h : d.evPending m = true) :
    (d.raiseIf b k).evPending m = true := by
  cases b with
  | false => exact h
  | true => exact evPending_raise_of hm (.inr h)

theorem evPending_raiseIf_true {b : Bool} {k : Nat} (hk : k < 256) (hb : b = true) : (d.raiseIf b k).evPending k = true := by
  rw [hb]
  exact evPending_raise_same d hk

theorem evPending_diRelease_fault {st : Nat} (hst : diFault st = true) (hold : d.diStatus n = 0) (state : Bool) :
    (d.diRelease n st state).evPending 112 = true :=
  evPending_raiseIf_keep _ _ (by decide) (evPending_raiseIf_true (by decide) (by simp [hst, hold]))

theorem evPending_diRelease_good (hold : diFault (d.diStatus n) = true) (state : Bool) :
    (d.diRelease n 0 state).evPending 113 = true :=
  evPending_raiseIf_true (by decide) (by simp [hold])

theorem evPending_diRelease_keep (hn : n < 32) (st : Nat) (state : Bool) {m : Nat} (hm : m < 256) (h : d.evPending m = true) :
    (d.diRelease n st state).evPending m = true := by
  obtain ⟨hlow, -⟩ := dio_low hn
  unfold Dev.diRelease
  extract_lets old d1 d2 d3 d4
  have h2 : d2.evPending m = true :=
    (evPending_wrF_low _ (by decide) _ _ _).trans ((evPending_wrF_low _ hlow _ _ _).trans h)
  have h3 : d3.evPending m = true := by
    unfold d3
    split
    · exact (evPending_wrF_low _ (by decide) _ _ _).trans h2
    · exact h2
  exact evPending_raiseIf_keep _ _ hm (evPending_raiseIf_keep _ _ hm h3)

end

/-! Samples of a contact input (R212 to R214) -/

theorem diBand_namur (i : Int) : diBand 1 i = if i < 150 then 0 else if i ≤ 1200 then 1 else if i < 2100 then 2
    else if i < 6000 then 3 else 4 := rfl

theorem diBand_dry (i : Int) : diBand 2 i = if i < 300 then 0 else if i ≤ 1500 then 1 else if i < 2500 then 2
    else if i < 6000 then 3 else 4 := rfl

/-- The input's state after a sample. -/
def Dev.diNext (d : Dev) (n : Nat) (v : Int) : DiChan :=
  (d.di n).sample (d.direc n).deb (bitOf d.dio.clampOn n) (sampleBand d n v)

/-- The device that a sample's current shows in, before any release. -/
def Dev.diShown (d : Dev) (n : Nat) (v : Int) : Dev :=
  (d.setDi n (d.diNext n v)).wrF (R.DIO_ISTS n) F.DIO_ISTS_ICUR (clampI 0 65535 (sampleCurrent d v)).toNat

section
variable {d : Dev} {n : Nat} {v : Int}

theorem diSample_idle {later : Nat} (h : d.diSamples n = false ∨ d.diDiscards later = true) : d.diSample n v later = d := by
  unfold Dev.diSample
  rw [if_pos (by rcases h with h | h <;> simp [h])]

/-- The current that a sample shows, with the status that the input had. -/
theorem diShown_shows (hn : n < 32) (hlen : d.dio.ins.length = 32) :
    (d.diShown n v).rdF (R.DIO_ISTS n) F.DIO_ISTS_ICUR = (max 0 (min 65535 (sampleCurrent d v))).toNat ∧
    (d.diShown n v).diStatus n = d.diStatus n ∧ (d.diShown n v).di n = d.diNext n v ∧
    (d.diShown n v).dio.clampOn = d.dio.clampOn ∧ (d.diShown n v).rd R.DIO_INSTATE = d.rd R.DIO_INSTATE := by
  obtain ⟨-, -, -, hstate, -⟩ := dio_low hn
  have hlt : (clampI 0 65535 (sampleCurrent d v)).toNat < 2 ^ 16 := by
    rw [clampI_eq (by decide)]
    omega
  refine ⟨?_, rdF_wrF_apart _ _ _ _ (by decide) _, getD_upd_same _ _ _ (by omega), rfl, rd_wr_other _ _ _ _ (Ne.symm hstate)⟩
  rw [← clampI_eq (by decide)]
  exact rdF_wrF_of_lt _ _ _ (by decide) hlt

theorem diSample_released (hsamples : d.diSamples n = true) {later : Nat} (hkept : d.diDiscards later = false) {st : Nat}
    (hst : (d.diNext n v).status = some st) (hnew : st = d.diStatus n → (d.diNext n v).accepted ≠ (d.di n).accepted) :
    d.diSample n v later = (d.diShown n v).diRelease n st ((d.diNext n v).accepted.getD false) := by
  have hstatus : (d.diShown n v).diStatus n = d.diStatus n := rdF_wrF_apart _ _ _ _ (by decide) _
  have hcond : ¬ (st = (d.diShown n v).diStatus n ∧ (d.diNext n v).accepted = (d.di n).accepted) := by
    rw [hstatus]
    exact fun h => hnew h.1 h.2
  unfold Dev.diSample
  rw [if_neg (by simp [hsamples, hkept])]
  extract_lets r i old x e
  have hx : x = d.diNext n v := rfl
  have he : e = d.diShown n v := rfl
  rw [hx, he, hst]
  exact if_neg hcond

theorem diSample_shown (hsamples : d.diSamples n = true) {later : Nat} (hkept : d.diDiscards later = false)
    (hst : (d.diNext n v).status = none ∨ (d.diNext n v).status = some (d.diStatus n))
    (hsame : (d.diNext n v).accepted = (d.di n).accepted) : d.diSample n v later = d.diShown n v := by
  have hstatus : (d.diShown n v).diStatus n = d.diStatus n := rdF_wrF_apart _ _ _ _ (by decide) _
  unfold Dev.diSample
  rw [if_neg (by simp [hsamples, hkept])]
  extract_lets r i old x e
  have hx : x = d.diNext n v := rfl
  have he : e = d.diShown n v := rfl
  rw [hx, he]
  rcases hst with h | h
  · rw [h]
  · rw [h]
    exact if_pos ⟨hstatus.symm, hsame⟩

end

/-! What a sample makes of an input's state -/

section
variable {x : DiChan} {deb band : Nat}

theorem sample_debounces (hopened : x.opened = false) (hshorted : x.shorted = false) (hclamp : x.clamp = false)
    (hband : band = 1 ∨ band = 3) : ∃ y : DiChan, x.sample deb false band = y.debounce deb (band == 3) ∧
    y.opened = false ∧ y.shorted = false ∧ y.clamp = false ∧ y.accepted = x.accepted ∧ y.cand = x.cand ∧ y.count = x.count := by
  refine ⟨{ x with line := 0, run := 0, clamp := false, shown := band == 3, seen := true }, ?_, hopened, hshorted, rfl, rfl, rfl, rfl⟩
  rcases hband with h | h <;> simp [DiChan.sample, h, hopened, hshorted, hclamp]

/-- The sample that completes the debounce. -/
theorem sample_accepts (hopened : x.opened = false) (hshorted : x.shorted = false) (hclamp : x.clamp = false)
    (hband : band = 1 ∨ band = 3) (hnew : x.accepted ≠ some (band == 3)) (hcand : x.cand = (band == 3))
    (hcount : 10 * deb ≤ x.count + 1) :
    (x.sample deb false band).status = some 0 ∧ (x.sample deb false band).accepted = some (band == 3) := by
  obtain ⟨y, hy, ho, hs, hc, ha, hcand', hcount'⟩ := sample_debounces (deb := deb) hopened hshorted hclamp hband
  have hdone : y.debounce deb (band == 3) = { y with accepted := some (band == 3), cand := band == 3, count := 0 } := by
    unfold DiChan.debounce
    rw [if_neg (by rw [ha]; exact hnew), hcand', if_pos hcand, hcount']
    exact if_pos hcount
  rw [hy, hdone]
  simp [DiChan.status, ho, hs, hc]

/-- A sample that only counts. -/
theorem sample_counts (hopened : x.opened = false) (hshorted : x.shorted = false) (hclamp : x.clamp = false)
    (hband : band = 1 ∨ band = 3) (hnew : x.accepted ≠ some (band == 3)) (hcand : x.cand = (band == 3))
    (hcount : x.count + 1 < 10 * deb) :
    (x.sample deb false band).accepted = x.accepted ∧ (x.sample deb false band).count = x.count + 1 ∧
    (x.sample deb false band).status = if x.accepted.isSome then some 0 else none := by
  obtain ⟨y, hy, ho, hs, hc, ha, hcand', hcount'⟩ := sample_debounces (deb := deb) hopened hshorted hclamp hband
  have hdone : y.debounce deb (band == 3) = { y with cand := band == 3, count := x.count + 1 } := by
    unfold DiChan.debounce
    rw [if_neg (by rw [ha]; exact hnew), hcand', if_pos hcand, hcount']
    exact if_neg (by omega)
  rw [hy, hdone]
  simp [DiChan.status, ho, hs, hc, ha]

/-- The sample that completes a run in a line band. -/
theorem sample_line (hopened : x.opened = false) (hshorted : x.shorted = false) (hclamp : x.clamp = false)
    (hband : band = 0 ∨ band = 4) (hline : x.line = if band = 0 then 1 else 2) (hrun : 19 ≤ x.run) :
    (x.sample deb false band).status = some (if band = 0 then 3 else 4) := by
  have hinc : 20 ≤ satInc 255 x.run := by
    rw [satInc_eq]
    omega
  rcases hband with h | h <;> simp [DiChan.sample, DiChan.status, h, hopened, hshorted, hclamp, hline, hinc]

/-- The first sample in a state band after a fault or a clamp. -/
theorem sample_restarts (hstood : x.opened = true ∨ x.shorted = true ∨ x.clamp = true) (hband : band = 1 ∨ band = 3) :
    (x.sample deb false band).status = some 0 ∧ (x.sample deb false band).accepted = some (band == 3) ∧
    (x.sample deb false band).opened = false ∧ (x.sample deb false band).shorted = false ∧
    (x.sample deb false band).clamp = false := by
  have hb : (x.opened || x.shorted || x.clamp) = true := by simpa [or_assoc] using hstood
  rcases hband with h | h <;> simp [DiChan.sample, DiChan.status, h, hb]

/-- A sample in a state band under a clamp current. -/
theorem sample_clamped (hband : band = 1 ∨ band = 3) :
    (x.sample deb true band).status = some 5 ∧ (x.sample deb true band).accepted = x.accepted := by
  rcases hband with h | h <;> simp [DiChan.sample, DiChan.status, h]

end

/-! Obligation O30 -/

section
variable {d : Dev} {n : Nat} {v : Int}

theorem pwr_diRelease (st : Nat) (state : Bool) : (d.diRelease n st state).pwr = d.pwr := by
  simp only [Dev.diRelease, raiseIf_frame]
  split <;> simp

theorem pwr_diSample (later : Nat) : (d.diSample n v later).pwr = d.pwr := by
  unfold Dev.diSample
  split
  · rfl
  · extract_lets r i old x e
    split
    · rfl
    · split
      · rfl
      · exact pwr_diRelease _ _

/-- A sample says nothing of the samples after it, where none of them is discarded. -/
theorem diSample_later {later : Nat} (h0 : d.diDiscards 0 = false) (hl : d.diDiscards later = false) :
    d.diSample n v later = d.diSample n v 0 := by simp [Dev.diSample, h0, hl]

/-- The accepting sample. -/
theorem diSample_accepts (hn : n < 32) (hlen : d.dio.ins.length = 32) (hsamples : d.diSamples n = true)
    (hkept : d.diDiscards 0 = false) (hclear : DiClear d n) (hband : sampleBand d n v = 1 ∨ sampleBand d n v = 3)
    (hnew : (d.di n).accepted ≠ some (sampleBand d n v == 3)) (hcand : (d.di n).cand = (sampleBand d n v == 3))
    (hcount : 10 * (d.direc n).deb ≤ (d.di n).count + 1) :
    (d.diSample n v 0).rdF (R.DIO_ISTS n) F.DIO_ISTS_STATUS = 0 ∧
    (d.diSample n v 0).rdF (R.DIO_ISTS n) F.DIO_ISTS_ICUR = (max 0 (min 65535 (sampleCurrent d v))).toNat ∧
    (d.diSample n v 0).rdF R.DIO_INSTATE ⟨n, 1⟩ = b2n ((sampleBand d n v == 3) != (d.direc n).inv) ∧
    (d.diSample n v 0).rdF R.DIO_INFLT ⟨n, 1⟩ = 0 ∧ ((d.diSample n v 0).di n).accepted = some (sampleBand d n v == 3) := by
  obtain ⟨hopened, hshorted, hclamp, hon⟩ := hclear
  obtain ⟨hstatus, haccepted⟩ : (d.diNext n v).status = some 0 ∧ (d.diNext n v).accepted = some (sampleBand d n v == 3) := by
    unfold Dev.diNext
    rw [hon]
    exact sample_accepts hopened hshorted hclamp hband hnew hcand hcount
  rw [diSample_released hsamples hkept hstatus (fun _ h => hnew (h.symm.trans haccepted)), haccepted]
  obtain ⟨hicur, -, hdi, -⟩ := diShown_shows (d := d) (v := v) hn hlen
  obtain ⟨hsts, hcur, hflt, hstate, -⟩ := diRelease_shows (d := d.diShown n v) hn (st := 0) (by decide) (sampleBand d n v == 3)
  refine ⟨hsts, hcur.trans hicur, hstate rfl, hflt, ?_⟩
  rw [Dev.di, dio_diRelease, ← Dev.di, hdi, haccepted]

/-- A sample that only counts. -/
theorem diSample_counts (hn : n < 32) (hlen : d.dio.ins.length = 32) (hsamples : d.diSamples n = true)
    (hkept : d.diDiscards 0 = false) (hclear : DiClear d n) (hband : sampleBand d n v = 1 ∨ sampleBand d n v = 3)
    (hnew : (d.di n).accepted ≠ some (sampleBand d n v == 3)) (hcand : (d.di n).cand = (sampleBand d n v == 3))
    (hcount : (d.di n).count + 1 < 10 * (d.direc n).deb) (hgood : (d.di n).accepted = none ∨ d.diStatus n = 0) :
    (d.diSample n v 0).rdF (R.DIO_ISTS n) F.DIO_ISTS_STATUS = d.rdF (R.DIO_ISTS n) F.DIO_ISTS_STATUS ∧
    (d.diSample n v 0).rdF (R.DIO_ISTS n) F.DIO_ISTS_ICUR = (max 0 (min 65535 (sampleCurrent d v))).toNat ∧
    (d.diSample n v 0).rd R.DIO_INSTATE = d.rd R.DIO_INSTATE ∧
    ((d.diSample n v 0).di n).accepted = (d.di n).accepted ∧ ((d.diSample n v 0).di n).count = (d.di n).count + 1 := by
  obtain ⟨hopened, hshorted, hclamp, hon⟩ := hclear
  obtain ⟨hsame, hcounted, hstatus⟩ : (d.diNext n v).accepted = (d.di n).accepted ∧ (d.diNext n v).count = (d.di n).count + 1 ∧
      (d.diNext n v).status = if (d.di n).accepted.isSome then some 0 else none := by
    unfold Dev.diNext
    rw [hon]
    exact sample_counts hopened hshorted hclamp hband hnew hcand hcount
  have hst : (d.diNext n v).status = none ∨ (d.diNext n v).status = some (d.diStatus n) := by
    rw [hstatus]
    rcases hgood with h | h
    · simp [h]
    · rw [h]
      split <;> simp
  obtain ⟨hicur, hsts, hdi, -, hstate⟩ := diShown_shows (d := d) (v := v) hn hlen
  rw [diSample_shown hsamples hkept hst hsame, hdi, hsame, hcounted]
  exact ⟨hsts, hicur, hstate, rfl, rfl⟩

/-- The sample that declares a line fault. -/
theorem diSample_line (hn : n < 32) (hlen : d.dio.ins.length = 32) (hsamples : d.diSamples n = true)
    (hkept : d.diDiscards 0 = false) (hclear : DiClear d n) (hband : sampleBand d n v = 0 ∨ sampleBand d n v = 4)
    (hline : (d.di n).line = if sampleBand d n v = 0 then 1 else 2) (hrun : 19 ≤ (d.di n).run)
    (hnew : d.diStatus n ≠ if sampleBand d n v = 0 then 3 else 4) :
    (d.diSample n v 0).rdF (R.DIO_ISTS n) F.DIO_ISTS_STATUS = (if sampleBand d n v = 0 then 3 else 4) ∧
    (d.diSample n v 0).rdF (R.DIO_ISTS n) F.DIO_ISTS_ICUR = (max 0 (min 65535 (sampleCurrent d v))).toNat ∧
    (d.diSample n v 0).rdF R.DIO_INFLT ⟨n, 1⟩ = 1 ∧ (d.diSample n v 0).rd R.DIO_INSTATE = d.rd R.DIO_INSTATE ∧
    (d.diStatus n = 0 → (d.diSample n v 0).evPending 112 = true) := by
  obtain ⟨hopened, hshorted, hclamp, hon⟩ := hclear
  obtain ⟨st, hst⟩ : ∃ st, st = if sampleBand d n v = 0 then 3 else 4 := ⟨_, rfl⟩
  obtain ⟨hlt, hfault, hne⟩ : st < 16 ∧ diFault st = true ∧ st ≠ 0 := by
    rw [hst]
    split <;> decide
  have hstatus : (d.diNext n v).status = some st := by
    unfold Dev.diNext
    rw [hon, hst]
    exact sample_line hopened hshorted hclamp hband hline hrun
  rw [← hst] at hnew ⊢
  rw [diSample_released hsamples hkept hstatus (fun h => absurd h.symm hnew)]
  obtain ⟨hicur, hkeep, -, -, hinstate⟩ := diShown_shows (d := d) (v := v) hn hlen
  obtain ⟨hsts, hcur, hflt, -, hstate⟩ := diRelease_shows (d := d.diShown n v) hn hlt ((d.diNext n v).accepted.getD false)
  refine ⟨hsts, hcur.trans hicur, hflt.trans (by rw [hfault]; rfl), (hstate hne).trans hinstate, fun h0 => ?_⟩
  exact evPending_diRelease_fault hfault (hkeep.trans h0) _

/-- The first sample in a state band after a fault or a clamp. -/
theorem diSample_restarts (hn : n < 32) (hlen : d.dio.ins.length = 32) (hsamples : d.diSamples n = true)
    (hkept : d.diDiscards 0 = false) (hstood : (d.di n).opened = true ∨ (d.di n).shorted = true ∨ (d.di n).clamp = true)
    (hon : bitOf d.dio.clampOn n = false) (hband : sampleBand d n v = 1 ∨ sampleBand d n v = 3)
    (hfault : diFault (d.diStatus n) = true) :
    (d.diSample n v 0).rdF (R.DIO_ISTS n) F.DIO_ISTS_STATUS = 0 ∧
    (d.diSample n v 0).rdF R.DIO_INSTATE ⟨n, 1⟩ = b2n ((sampleBand d n v == 3) != (d.direc n).inv) ∧
    (d.diSample n v 0).rdF R.DIO_INFLT ⟨n, 1⟩ = 0 ∧ (d.diSample n v 0).evPending 113 = true ∧
    DiClear (d.diSample n v 0) n := by
  obtain ⟨hstatus, haccepted, hopened, hshorted, hclamp⟩ : (d.diNext n v).status = some 0 ∧
      (d.diNext n v).accepted = some (sampleBand d n v == 3) ∧ (d.diNext n v).opened = false ∧ (d.diNext n v).shorted = false ∧
      (d.diNext n v).clamp = false := by
    unfold Dev.diNext
    rw [hon]
    exact sample_restarts hstood hband
  have hne : 0 = d.diStatus n → (d.diNext n v).accepted ≠ (d.di n).accepted := fun h => by
    rw [← h] at hfault
    exact absurd hfault (by decide)
  rw [diSample_released hsamples hkept hstatus hne, haccepted]
  obtain ⟨-, hkeep, hdi, hclampOn, -⟩ := diShown_shows (d := d) (v := v) hn hlen
  obtain ⟨hsts, -, hflt, hstate, -⟩ := diRelease_shows (d := d.diShown n v) hn (st := 0) (by decide) (sampleBand d n v == 3)
  refine ⟨hsts, hstate rfl, hflt, evPending_diRelease_good (by rw [hkeep]; exact hfault) _, ?_⟩
  rw [DiClear, Dev.di, dio_diRelease, ← Dev.di, hdi, hclampOn]
  exact ⟨hopened, hshorted, hclamp, hon⟩

/-- A sample in a state band while a clamp current stands. -/
theorem diSample_clamped (hn : n < 32) (hlen : d.dio.ins.length = 32) (hsamples : d.diSamples n = true)
    (hkept : d.diDiscards 0 = false) (hon : bitOf d.dio.clampOn n = true) (hst : d.diStatus n = 5)
    (hband : sampleBand d n v = 1 ∨ sampleBand d n v = 3) :
    (d.diSample n v 0).rdF (R.DIO_ISTS n) F.DIO_ISTS_STATUS = 5 ∧
    (d.diSample n v 0).rdF (R.DIO_ISTS n) F.DIO_ISTS_ICUR = (max 0 (min 65535 (sampleCurrent d v))).toNat ∧
    (d.diSample n v 0).rd R.DIO_INSTATE = d.rd R.DIO_INSTATE := by
  obtain ⟨hstatus, haccepted⟩ : (d.diNext n v).status = some 5 ∧ (d.diNext n v).accepted = (d.di n).accepted := by
    unfold Dev.diNext
    rw [hon]
    exact sample_clamped hband
  rw [diSample_shown hsamples hkept (.inr (by rw [hst, hstatus])) haccepted]
  obtain ⟨hicur, hkeep, -, -, hstate⟩ := diShown_shows (d := d) (v := v) hn hlen
  exact ⟨hkeep.trans hst, hicur, hstate⟩

/-- A clamp current that appears. -/
theorem diClamp_appears (hn : n < 32) (hsamples : d.diSamples n = true) :
    (d.diClamp n true).rdF (R.DIO_ISTS n) F.DIO_ISTS_STATUS = 5 ∧ (d.diClamp n true).evPending 114 = true ∧
    bitOf (d.diClamp n true).dio.clampOn n = true ∧ (d.diClamp n true).rd R.DIO_INSTATE = d.rd R.DIO_INSTATE := by
  obtain ⟨e, he⟩ : ∃ e, e = (d.setDio (fun c => { c with clampOn := putBit c.clampOn n true })).flagEv R.DIO_STAT 0 114 := ⟨_, rfl⟩
  have hdio : e.dio = { d.dio with clampOn := putBit d.dio.clampOn n true } ∧ e.image = d.image := by
    rw [he]
    simp
  obtain ⟨hdio, himage⟩ := hdio
  have hsampled : e.diSamples n = true := by rw [← hsamples, Dev.diSamples, Dev.direc, hdio, himage, ← Dev.direc, ← Dev.diSamples]
  have hclamp : d.diClamp n true = (e.setDi n { e.di n with clamp := true }).diRelease n 5 false := by
    simp only [Dev.diClamp, Bool.not_true, Bool.false_eq_true, if_false, ← he, hsampled, if_true]
  have hev : e.evPending 114 = true := by
    rw [he]
    exact evPending_flagEv_same _ _ 0 (by decide)
  have hstate : e.rd R.DIO_INSTATE = d.rd R.DIO_INSTATE := by
    rw [he, Dev.flagEv, rd_raise_low _ _ (by decide)]
    exact rd_wr_other _ _ _ _ (by decide)
  obtain ⟨hsts, -, -, -, hkeep⟩ := diRelease_shows (d := e.setDi n { e.di n with clamp := true }) hn (st := 5) (by decide) false
  rw [hclamp]
  refine ⟨hsts, evPending_diRelease_keep hn 5 false (by decide) hev, ?_, (hkeep (by decide)).trans hstate⟩
  rw [dio_diRelease]
  show bitOf e.dio.clampOn n = true
  rw [hdio]
  simp [bitOf_putBit]

end

/-- Settles O30: a sample by what it makes of its input's state and by the release that follows, runs of samples by their
first, and the clamp current by its release. -/
theorem contactInputs : Obligations.ContactInputs := by
  unfold Obligations.ContactInputs
  refine ⟨fun i => ⟨diBand_namur i, diBand_dry i⟩, fun s n v c hup hlen hc => ?_, fun s n v last before hup h0 hl => ?_,
    fun s n hup => ⟨fun hsamples => ?_, ?_⟩⟩
  · intro x band st level shown
    have hexec : c = .contactAccept n [] v ∨ c = .lineFault n [] v →
        exec c s = .next (s.onDev (fun d => d.whenUp (fun d => d.diSample n.val v 0))) := by
      rintro (rfl | rfl) <;> rfl
    have hdo {P : Dev → Prop} (hP : P (s.dev.diSample n.val v 0)) : Completes c s P := completes_of_up hup (hexec hc) hP
    refine ⟨fun h => exec_keeps (hexec hc) (diSample_idle h), fun hsamples hkept => ⟨fun hclear hband hnew hcand hcount => ?_,
      fun hclear hband hnew hcand hcount hgood => ?_, fun hclear hband hline hrun hnew => ?_, fun hstood hon hband hfault => ?_,
      fun hon hst hband => ?_⟩⟩
    · exact hdo (diSample_accepts n.isLt hlen hsamples hkept hclear hband hnew hcand hcount)
    · exact hdo (diSample_counts n.isLt hlen hsamples hkept hclear hband hnew hcand hcount hgood)
    · exact hdo (diSample_line n.isLt hlen hsamples hkept hclear hband hline hrun hnew)
    · exact hdo (diSample_restarts n.isLt hlen hsamples hkept hstood hon hband hfault)
    · exact hdo (diSample_clamped n.isLt hlen hsamples hkept hon hst hband)
  · have hrun {c : Instr} {is : List Int} {s : State} (hup : s.Up)
        (hc : exec c s = .next (s.onDev (fun d => d.whenUp (fun d => d.diRun n.val is)))) :
        exec c s = .next (s.on (s.dev.diRun n.val is)) := exec_of_up hup hc rfl
    have hup' : (s.on (s.dev.diSample n.val v 0)).Up := (congrArg Power.boot (pwr_diSample 0)).trans hup
    have hmore (l : List Int) (h : l.length = before.length + 1) :
        s.dev.diRun n.val (v :: l) = (s.dev.diSample n.val v 0).diRun n.val l := by
      rw [Dev.diRun, h, diSample_later h0 hl]
    refine ⟨s.on (s.dev.diSample n.val v 0), hrun (is := [v]) hup rfl, hrun (is := [v]) hup rfl, ?_, ?_⟩
    · rw [hrun (is := v :: before ++ [last]) hup rfl, hrun (is := before ++ [last]) hup' rfl, List.cons_append,
        hmore _ (by simp)]
      rfl
    · rw [hrun (is := v :: before ++ [last]) hup rfl, hrun (is := before ++ [last]) hup' rfl, List.cons_append,
        hmore _ (by simp)]
      rfl
  · exact completes_of_up hup (f := fun d => d.diClamp n.val true) rfl (diClamp_appears n.isLt hsamples)
  · exact exec_of_up (f := fun d => d.diClamp n.val false) hup rfl rfl

/-! Readback of outputs (R219, R221) -/

section
variable {d : Dev} {m : Nat}

theorem doFeedback_suspended {bad : Bool} (hdrives : d.doDrives m = true)
    (h : d.dio.ptPhase.getD m 0 ≠ 0 ∨ d.clk < d.dio.fbHold.getD m 0) : d.doFeedback m bad = d := by
  rw [Dev.doFeedback, if_pos hdrives, if_pos h]

/-- A readback check of a driven output. -/
theorem doFeedback_driven (hm : m < 32) (hdrives : d.doDrives m = true) (hphase : d.dio.ptPhase.getD m 0 = 0)
    (hhold : d.dio.fbHold.getD m 0 ≤ d.clk) (bad : Bool) :
    (d.doFeedback m bad).rdF (R.DIO_OSTS m) F.DIO_OSTS_FBFLT = b2n bad ∧
    (bad = true → d.rdF (R.DIO_OSTS m) F.DIO_OSTS_FBFLT = 0 → (d.doFeedback m bad).evPending 115 = true) ∧
    (d.doFeedback m bad).rd R.DIO_OUT = d.rd R.DIO_OUT := by
  obtain ⟨-, hlow, -, -, -, hout, hfb⟩ := dio_low hm
  unfold Dev.doFeedback
  rw [if_pos hdrives, if_neg (by rw [hphase]; omega)]
  extract_lets lv e was
  refine ⟨?_, fun hbad h0 => ?_, ?_⟩
  · rw [rdF_raiseIf_low _ _ _ hlow]
    exact rdF_wrF_of_lt _ _ _ (by decide) (by cases bad <;> decide)
  · have hwas : was = false := by
      have : e.rdF (R.DIO_OSTS m) F.DIO_OSTS_FBFLT = 0 := (rdF_wrF_other _ _ _ _ _ _ hfb).trans h0
      simp [was, this]
    exact evPending_raiseIf_true (by decide) (by simp [hbad, hwas])
  · rw [rd_raiseIf_low _ _ _ (by decide)]
    exact (rd_wr_other _ _ _ _ (Ne.symm hout)).trans (rd_wr_other _ _ _ _ (by decide))

/-- A readback check of an output that the device does not drive. -/
theorem doFeedback_noted (hm : m < 32) (hdrives : d.doDrives m = false) (bad : Bool) :
    bitOf (d.doFeedback m bad).dio.mismatch m = bad ∧ (d.doFeedback m bad).rd (R.DIO_OSTS m) = d.rd (R.DIO_OSTS m) ∧
    (d.doFeedback m bad).rd R.DIO_OUT = d.rd R.DIO_OUT := by
  obtain ⟨-, -, -, -, -, -, hfb⟩ := dio_low hm
  unfold Dev.doFeedback
  rw [if_neg (by simp [hdrives])]
  refine ⟨?_, rd_wr_other _ _ _ _ hfb, rd_wr_other _ _ _ _ (by decide)⟩
  show bitOf (putBit d.dio.mismatch m bad) m = bad
  rw [bitOf_putBit, if_pos rfl]

/-! Pulse tests (R220) -/

theorem bitOf_rd (a j : Nat) : bitOf (d.rd a).toNat j = (d.rdF a ⟨j, 1⟩ == 1) := rfl

theorem ptDue_level (h : d.rdF R.DIO_OUT ⟨m, 1⟩ = 0) : d.ptDue m = false := by simp [Dev.ptDue, bitOf_rd, h]

theorem ptStart_idle (h : d.dio.ptTurn = some d.turn.number ∨ d.rdF R.PAR_ROLE F.PAR_ROLE_HOLD = 1 ∨ d.safe = true ∨
    d.ptDue m = false ∨ d.rdF R.DIO_OUT ⟨m, 1⟩ = 0 ∨ ∃ k, k < m ∧ d.ptDue k = true) : d.ptStart m = d := by
  unfold Dev.ptStart
  rw [if_pos]
  rcases h with h | h | h | h | h | ⟨k, hk, h⟩
  · simp [h]
  · simp [h]
  · simp [h]
  · simp [h]
  · simp [ptDue_level h]
  · have hany : (List.range m).any d.ptDue = true := List.any_eq_true.2 ⟨k, List.mem_range.2 hk, h⟩
    simp [hany]

/-- The pulse of the first output that is due. -/
theorem ptStart_due (hm : m < 32) (hlen : d.dio.ptPhase.length = 32) (hdue : d.ptDue m = true)
    (hfirst : ∀ k, k < m → d.ptDue k = false) (hsafe : d.safe = false) (hhold : d.rdF R.PAR_ROLE F.PAR_ROLE_HOLD = 0)
    (hcastle : d.pair.castle = 0) (hturn : d.dio.ptTurn ≠ some d.turn.number) (hphase : d.dio.ptPhase.getD m 0 = 0) :
    (d.ptStart m).rdF R.DIO_OUT ⟨m, 1⟩ = 0 ∧ (d.ptStart m).dio.ptPhase.getD m 0 = 1 ∧
    (d.ptStart m).dio.ptTurn = some d.turn.number := by
  have hnone : (List.range m).any d.ptDue = false := List.any_eq_false.2 fun k hk => by simp [hfirst k (List.mem_range.1 hk)]
  have hf : (⟨m, 1⟩ : Field).lo + (⟨m, 1⟩ : Field).width ≤ 32 := by
    show m + 1 ≤ 32
    omega
  unfold Dev.ptStart
  rw [hphase, if_neg (by simp [hdue, hnone, hsafe, hhold, hcastle, hturn])]
  exact ⟨rdF_wrF_of_lt _ _ _ hf (by show 0 < 2 ^ 1; decide), getD_upd_same _ _ _ (by show m < d.dio.ptPhase.length; omega), rfl⟩

/-- The verdict of a pulse test. -/
theorem ptJudge_shows (hm : m < 32) (hlen : d.dio.ptPhase.length = 32) (ok : Bool) :
    (d.ptJudge m ok).dio.ptPhase.getD m 0 = 0 ∧ bitOf (d.ptJudge m ok).dio.ptFail m = !ok ∧
    (ok = true → (d.ptJudge m ok).rdF (R.DIO_OSTS m) F.DIO_OSTS_PTCNT
      = (d.rdF (R.DIO_OSTS m) F.DIO_OSTS_PTCNT + 1) % 2 ^ F.DIO_OSTS_PTCNT.width) ∧
    (ok = false → (d.ptJudge m ok).evPending 116 = true) ∧ (d.ptJudge m ok).rd R.DIO_OUT = d.rd R.DIO_OUT := by
  obtain ⟨-, hlow, -, -, -, hout, -⟩ := dio_low hm
  have hphase : (upd d.dio.ptPhase m (fun _ => 0)).getD m 0 = 0 := getD_upd_same _ _ _ (by omega)
  have hfail : bitOf (putBit d.dio.ptFail m (!ok)) m = !ok := by rw [bitOf_putBit, if_pos rfl]
  cases ok with
  | true =>
    refine ⟨hphase, hfail, fun _ => rdF_wrF _ _ _ (by decide) _, fun h => absurd h (by decide), rd_wr_other _ _ _ _ (Ne.symm hout)⟩
  | false =>
    unfold Dev.ptJudge
    extract_lets now e
    have hdio : (e.flagEv (R.DIO_OSTS m) 23 116).dio = e.dio := by simp
    rw [if_neg (by decide), hdio]
    refine ⟨hphase, hfail, fun h => absurd h (by decide), fun _ => evPending_flagEv_same _ _ 23 (by decide), ?_⟩
    rw [Dev.flagEv, rd_raise_low _ _ (by decide)]
    exact rd_wr_other _ _ _ _ (Ne.symm hout)

/-- The end of a pulse. -/
theorem ptEnd_pulse (hm : m < 32) (hlen : d.dio.ptPhase.length = 32) (hphase : d.dio.ptPhase.getD m 0 = 1) (fb : Bool) :
    (d.ptEnd m fb).rdF R.DIO_OUT ⟨m, 1⟩ = 1 ∧ (d.ptEnd m fb).dio.ptPhase.getD m 0 = 2 ∧
    bitOf (d.ptEnd m fb).dio.ptLow m = !fb := by
  have hf : (⟨m, 1⟩ : Field).lo + (⟨m, 1⟩ : Field).width ≤ 32 := by
    show m + 1 ≤ 32
    omega
  unfold Dev.ptEnd
  extract_lets ph
  rw [if_pos hphase]
  refine ⟨rdF_wrF_of_lt _ _ _ hf (by show 1 < 2 ^ 1; decide), getD_upd_same _ _ _ (by show m < d.dio.ptPhase.length; omega), ?_⟩
  show bitOf (putBit d.dio.ptLow m (!fb)) m = !fb
  rw [bitOf_putBit, if_pos rfl]

theorem ptEnd_cut (hphase : d.dio.ptPhase.getD m 0 = 3) (fb : Bool) : d.ptEnd m fb = d.ptJudge m (!fb) := by
  unfold Dev.ptEnd
  extract_lets ph
  have hph : ph = 3 := hphase
  rw [hph]
  rfl

theorem ptVerdict_due (hphase : d.dio.ptPhase.getD m 0 = 2) (fb : Bool) :
    d.ptVerdict m fb = (d.wrF R.DIO_FB ⟨m, 1⟩ (b2n fb)).ptJudge m (bitOf d.dio.ptLow m && fb) := by
  rw [Dev.ptVerdict, hphase]
  rfl

end

/-- The low bits of a word are what the field of them holds. -/
theorem and_lowMask_congr {x y : Word} {k : Nat} (hk : k ≤ 32) (h : getF ⟨0, k⟩ x = getF ⟨0, k⟩ y) :
    x &&& BitVec.ofNat 32 (2 ^ k - 1) = y &&& BitVec.ofNat 32 (2 ^ k - 1) := by
  apply BitVec.eq_of_toNat_eq
  rw [toNat_and_lowMask x hk, toNat_and_lowMask y hk]
  simpa [getF] using h

/-- Settles O31: the readback check by its two cases, the pulse test by its start, end and verdict, and a write of host
levels by the write buffer. -/
theorem contactsAndOutputs : Obligations.ContactsAndOutputs := by
  unfold Obligations.ContactsAndOutputs
  refine ⟨fun s m hup hdrives hlen => ⟨fun bad hphase hhold => ?_, fun bad h => ?_, fun hdue hfirst hsafe hhold hcastle hturn hphase => ?_,
    fun h => exec_keeps (f := fun d => d.ptStart m.val) rfl (ptStart_idle h), fun fb hphase => ?_, fun fb hphase => ?_,
    fun fb hphase => ?_⟩, fun s m bad hup hdrives => ?_, fun s sess v hup hnone hnew => ?_⟩
  · exact completes_of_up hup (f := fun d => d.doFeedback m.val bad) rfl (doFeedback_driven m.isLt hdrives hphase hhold bad)
  · exact exec_keeps (f := fun d => d.doFeedback m.val bad) rfl (doFeedback_suspended hdrives h)
  · exact completes_of_up hup (f := fun d => d.ptStart m.val) rfl
      (ptStart_due m.isLt hlen hdue hfirst hsafe hhold hcastle hturn hphase)
  · exact completes_of_up hup (f := fun d => d.ptEnd m.val fb) rfl (ptEnd_pulse m.isLt hlen hphase fb)
  · refine completes_of_up hup (f := fun d => d.ptEnd m.val fb) rfl ?_
    obtain ⟨hzero, hfail, -, hev, hout⟩ := ptJudge_shows (d := s.dev) m.isLt hlen (!fb)
    rw [ptEnd_cut hphase]
    exact ⟨hzero, by rw [hfail, Bool.not_not], fun h => hev (by rw [h]; rfl), hout⟩
  · refine completes_of_up hup (f := fun d => d.ptVerdict m.val fb) rfl ?_
    obtain ⟨hzero, hfail, hcount, hev, -⟩ := ptJudge_shows (d := s.dev.wrF R.DIO_FB ⟨m.val, 1⟩ (b2n fb)) m.isLt hlen
      (bitOf s.dev.dio.ptLow m.val && fb)
    obtain ⟨-, -, -, -, -, -, hfb⟩ := dio_low m.isLt
    rw [ptVerdict_due hphase]
    exact ⟨hzero, hfail, fun h => (hcount h).trans (by rw [rdF_wrF_other _ _ _ _ _ _ hfb]), hev⟩
  · exact completes_of_up hup (f := fun d => d.doFeedback m.val bad) rfl (doFeedback_noted m.isLt hdrives bad)
  · obtain ⟨hword, hrd⟩ := wbWrite_pends (d := s.dev) (a := R.DIO_HOSTSET) (mask := 0x7FFFFFFF) (value := v)
      (fun h => hnew h.2.symm) sess
    refine completes_of_up hup (f := fun d => d.hostsetWrite sess false v) rfl ⟨hword, ?_⟩
    have hlow := rdF_wrF_apart s.dev R.DIO_HOSTSET ⟨0, 31⟩ ⟨31, 1⟩ (.inl (by decide)) 1
    exact (congrArg (· &&& 0x7FFFFFFF) hrd).trans (and_lowMask_congr (k := 31) (by decide) hlow)

end Sys2Proof.Machine
end

section
/-!
PROOFS. The commands of the lattice and the belfry (chapters 09 and 10).
-/
namespace Sys2Proof.Machine

/-! Commands that wait for the latch (R35) -/

theorem exec_of_latchedAs {c : Instr} {o : OpCmd} (h : latchedAs c = some o) (s : State) :
    exec c s = .next (s.onDev (fun d => d.whenUp (fun d => d.opCommand o.src o.opc o.args))) := by
  unfold latchedAs at h
  split at h <;> cases h <;> rfl

/-- Settles O32: every such command is the one operation that puts it behind those that have arrived. -/
theorem commandsWaitForTheLatch : Obligations.CommandsWaitForTheLatch := by
  unfold Obligations.CommandsWaitForTheLatch
  refine fun c o s hc hup => ⟨fun hholder hfresh => ?_, fun h => ?_⟩
  · exact exec_of_up hup (exec_of_latchedAs hc s) (if_pos (by simp [hholder, hfresh]))
  · exact exec_keeps (exec_of_latchedAs hc s) (if_neg (by rcases h with h | h <;> simp [h]))

/-! Acknowledgements (R242) -/

theorem upd_of_getElem? {α : Type} {l : List α} {k : Nat} {a : α} (h : l[k]? = some a) (f : α → α) :
    upd l k f = l.set k (f a) := by
  have hgetD : l.getD k a = a := by simp [h]
  rw [upd_congr l k a (g := fun _ => f a) (congrArg f hgetD), upd_const]

section
variable {r : PointRec} {s : Pt} {t : PtTurn} {k : Nat} {a : Alarm}

theorem alarm_getD (h : s.al[k]? = some a) (x : Alarm) : s.al.getD k x = a := by simp [h]

theorem ackAlarm_refused (ha : s.al[k]? = some a) (h : s.oos = true ∨ a.inh = true ∨ (ckRec r k).cls = 3 ∨ a.st = 4 ∨ a.st = 7) :
    ackAlarm r s t k = (2, s, t) := by
  simp only [ackAlarm, alarm_getD ha]
  refine if_pos ?_
  rcases h with h | h | h | h | h <;> simp [h, stSuppressed, stUnused]

/-- An acknowledgement of an alarm that none of the refusals covers. -/
theorem ackAlarm_open (ha : s.al[k]? = some a) (hoos : s.oos = false) (hinh : a.inh = false) (hcls : (ckRec r k).cls < 3)
    (hst : a.st ≠ 4 ∧ a.st ≠ 7) : ackAlarm r s t k =
      if a.st = 1 then (0, { s with al := s.al.set k { a with st := 2 } }, { t with acked := k :: t.acked })
      else if a.st = 3 then (0, { s with al := s.al.set k { a with st := 0 } }, { t with acked := k :: t.acked })
      else if a.st = 2 ∨ t.acked.contains k then (1, s, t) else (2, s, t) := by
  obtain ⟨h4, h7⟩ := hst
  simp only [ackAlarm, alarm_getD ha]
  rw [if_neg (by simp [stUnused, stSuppressed, hoos, hinh, h4, h7]; omega), upd_of_getElem? ha, upd_of_getElem? ha]
  rfl

end

/-! Inhibit settings (R237, R243) -/

theorem exists_bitOf {m : Nat} (h0 : m ≠ 0) (hlt : m < 512) : ∃ k, k < 9 ∧ bitOf m k = true := by
  obtain ⟨k, hk⟩ := Nat.exists_testBit_of_ne_zero h0
  refine ⟨k, Nat.lt_of_not_le fun h => ?_, ?_⟩
  · have := Nat.testBit_lt_two_pow (i := k) (Nat.lt_of_lt_of_le hlt (Nat.pow_le_pow_right (n := 2) (by decide) h))
    rw [this] at hk
    exact absurd hk (by decide)
  · rw [bitOf_eq_testBit, hk]

/-- The first setting of a turn takes effect. -/
theorem setInhibit_first {r : PointRec} (hno : r.noinh = false) (s : Pt) (m rank : Nat) :
    setInhibit r s ⟨[], [], []⟩ m rank true = (0,
      { s with al := s.al.mapIdx (fun k a => if bitOf m k then { a with inh := true } else a) },
      ⟨[], ((List.range 9).filter (bitOf m)).map (fun k => (k, true, rank)), []⟩) := by
  simp [setInhibit, hno, inhConflict, resOk]

/-- A contrary setting of lower rank, of alarms that have one. -/
theorem setInhibit_contrary {r : PointRec} {m rank rank' : Nat} (h0 : m ≠ 0) (hlt : m < 512) (hrank : rank < rank') (s : Pt)
    (acked : List Nat) (oosSet : List (Bool × Nat)) :
    setInhibit r s ⟨acked, ((List.range 9).filter (bitOf m)).map (fun k => (k, true, rank)), oosSet⟩ m rank' false =
      (4, s, ⟨acked, ((List.range 9).filter (bitOf m)).map (fun k => (k, true, rank)), oosSet⟩) := by
  obtain ⟨k, hk, hbit⟩ := exists_bitOf h0 hlt
  have hconflict : inhConflict ⟨acked, ((List.range 9).filter (bitOf m)).map (fun k => (k, true, rank)), oosSet⟩ m rank' false
      = true := by
    refine List.any_eq_true.2 ⟨(k, true, rank), List.mem_map.2 ⟨k, List.mem_filter.2 ⟨List.mem_range.2 hk, hbit⟩, rfl⟩, ?_⟩
    simp [hbit, hrank]
  rw [setInhibit, if_neg (by simp), if_pos hconflict]
  rfl

/-- The next state of an alarm that nothing withholds (R239). -/
theorem nextState_table : ∀ (st : Fin 7) (cls : Fin 4) (c oos inh sup : Bool),
    nextState st.val c cls.val oos inh sup = (if oos then 6 else if inh then 5 else if sup then 4
      else if cls.val = 3 then (if c then 2 else 0)
      else if c then (if st.val = 2 then 2 else 1)
      else if st.val = 1 ∨ st.val = 3 then 3 else 0) := by decide

/-- Settles O33: an acknowledgement by the alarm's state, the settings by their rank, and the next state by its table. -/
theorem pointCommandOutcomes : Obligations.PointCommandOutcomes := by
  unfold Obligations.PointCommandOutcomes
  refine ⟨fun r s t k a ha hoos hinh hcls => ⟨fun hst => ?_, fun hst => ?_, fun hst => ?_, fun hst hk => ?_, fun hst => ?_⟩,
    fun r s t k a ha h => ackAlarm_refused ha (h.imp_right (Or.imp_right .inl)), fun r s t m rank h => ⟨if_pos ⟨rfl, h⟩, if_pos ⟨rfl, h⟩⟩,
    fun r s m rank rank' t hno h0 hlt ht hrank => ?_, fun st cls c oos inh sup hst hcls => ⟨rfl, ?_⟩⟩
  · rw [ackAlarm_open ha hoos hinh hcls (by omega), if_pos hst]
  · rw [ackAlarm_open ha hoos hinh hcls (by omega), if_neg (by omega), if_pos hst]
  · rw [ackAlarm_open ha hoos hinh hcls (by omega), if_neg (by omega), if_neg (by omega), if_pos (.inl hst)]
  · rcases hst with h | h | h
    · exact ackAlarm_refused ha (.inr (.inr (.inr (.inl h))))
    · rw [ackAlarm_open ha hoos hinh hcls (by omega), if_neg (by omega), if_neg (by omega), if_neg (by simp [h, hk])]
    · exact ackAlarm_refused ha (.inr (.inr (.inr (.inr h))))
  · rw [ackAlarm_open ha hoos hinh hcls (by omega), if_neg (by omega), if_neg (by omega)]
    cases hk : t.acked.contains k with
    | true => rw [if_pos (.inr rfl), if_pos rfl]
    | false => rw [if_neg (by simp [hst]), if_neg (by decide)]
  · subst ht
    intro x
    have hx : x = _ := setInhibit_first hno s m rank
    rw [hx, setInhibit_contrary h0 hlt hrank]
    refine ⟨rfl, fun k a ha => ?_, rfl, rfl⟩
    rw [List.getElem?_mapIdx, ha, Option.map_some]
    cases bitOf m k <;> rfl
  · exact nextState_table ⟨st, by omega⟩ ⟨cls, by omega⟩ c oos inh sup

end Sys2Proof.Machine
end

section
/-!
PROOFS. The panel (chapter 17).
-/
namespace Sys2Proof.Machine

/-! Changes that leave fields of the panel's low registers alone -/

/-- A change of the device that leaves the fields of a list as they were. -/
def KeepsFields (l : List (Nat × Field)) (d e : Dev) : Prop := ∀ x ∈ l, e.rdF x.1 x.2 = d.rdF x.1 x.2

/-- The fields of a list lie in the panel's registers before the elements' levels, or below. -/
def FieldsPanel (l : List (Nat × Field)) : Prop := ∀ x ∈ l, x.1 < 0x160200

section
variable {l : List (Nat × Field)} {z d e : Dev}

theorem KeepsFields.refl (l : List (Nat × Field)) (d : Dev) : KeepsFields l d d := fun _ _ => rfl

theorem KeepsFields.trans {f : Dev} (h : KeepsFields l d e) (k : KeepsFields l e f) : KeepsFields l d f :=
  fun x hx => (k x hx).trans (h x hx)

theorem KeepsFields.of_regs (k : KeepsFields l z d) (h : e.regs = d.regs) : KeepsFields l z e :=
  k.trans fun _ _ => rdF_congr (rd_of_regs h _) _

theorem KeepsFields.field_eq (k : KeepsFields l d e) {a : Nat} {f : Field} (h : (a, f) ∈ l) : e.rdF a f = d.rdF a f := k (a, f) h

theorem wr_keeps {a : Nat} (hoff : FieldsOff l a) (w : Word) (k : KeepsFields l z d) : KeepsFields l z (d.wr a w) :=
  k.trans fun x hx => rdF_congr (rd_wr_other d a _ w (hoff x hx)) _

theorem wrF_keeps {a : Nat} {g : Field} (hclear : FieldsClear l a g) (v : Nat) (k : KeepsFields l z d) :
    KeepsFields l z (d.wrF a g v) :=
  k.trans fun x hx => by
    by_cases hxa : x.1 = a
    · rw [hxa]
      exact rdF_wrF_apart d a x.2 g (hclear x hx hxa) v
    · exact rdF_wrF_other d a x.1 x.2 g v hxa

theorem raise_keeps (hl : FieldsPanel l) (n : Nat) (k : KeepsFields l z d) : KeepsFields l z (d.raise n) :=
  k.trans fun x hx => rdF_raise_low d n (Nat.lt_trans (hl x hx) (by decide)) _

theorem raiseIf_keeps (hl : FieldsPanel l) (b : Bool) (n : Nat) (k : KeepsFields l z d) : KeepsFields l z (d.raiseIf b n) := by
  cases b with
  | false => exact k
  | true => exact raise_keeps hl n k

theorem push_keeps (hl : FieldsPanel l) (q : Nat) (bytes : List Byte) (ref : Option HostRef) (k : KeepsFields l z d) :
    KeepsFields l z (d.push q bytes ref) := by
  have hoff : FieldsOff l (R.HST_QSTAT q) := fun x hx h => by
    have := hl x hx
    simp only [R.HST_QSTAT] at h
    omega
  unfold Dev.push
  split
  · exact k.of_regs rfl
  · exact raise_keeps hl 249 (wr_keeps hoff _ k)

end

/-! Regions (R457, R458) -/

/-- The fields of a list are apart from what the end and the start of a region's update write of the panel's registers. -/
structure PanelApart (l : List (Nat × Field)) (r : Nat) : Prop where
  low : FieldsPanel l
  run : FieldsClear l R.PNL_REGMAP ⟨r, 1⟩
  pend : FieldsClear l R.PNL_PENDMAP ⟨r, 1⟩
  sts : FieldsOff l (R.PNL_REGSTS r)

section
variable {l : List (Nat × Field)} {z d : Dev} {r : Nat}

theorem pReach_keeps (hl : FieldsPanel l) (e v : Nat) (k : KeepsFields l z d) : KeepsFields l z (d.pReach e v) := by
  have hoff {a : Nat} (ha : 0x160200 ≤ a) (g : Field) : FieldsClear l a g := fun x hx h => by
    have := hl x hx
    omega
  exact wrF_keeps (hoff (by simp only [R.PNL_UNK]; omega) _) _ (wrF_keeps (hoff (by simp only [R.PNL_LEV]; omega) _) _ k)

theorem foldl_pReach_keeps (hl : FieldsPanel l) (es : List (Nat × Nat × Nat × Nat)) (k : KeepsFields l z d) :
    KeepsFields l z (es.foldl (fun d e => d.pReach e.1 e.2.1) d) := by
  induction es generalizing d with
  | nil => exact k
  | cons e t ih => exact ih (pReach_keeps hl e.1 e.2.1 k)

theorem pNotify_keeps (hl : FieldsPanel l) (outcome : Nat) (x : PanelRun) (k : KeepsFields l z d) :
    KeepsFields l z (d.pNotify r outcome x) := by
  unfold Dev.pNotify
  split
  · exact raiseIf_keeps hl _ 247 (push_keeps hl 55 _ none k)
  · exact k

theorem pDone_keeps (hl : PanelApart l r) (x : PanelRun) (k : KeepsFields l z d) : KeepsFields l z (d.pDone r x) :=
  raise_keeps hl.low 240 (pNotify_keeps hl.low 0 x (wr_keeps hl.sts _ (wrF_keeps hl.run 0
    ((foldl_pReach_keeps hl.low x.elems k).of_regs rfl))))

/-- The device whose region's update has started, before an empty one ends. -/
def Dev.pStarted (d : Dev) (r : Nat) (x : PanelRun) : Dev :=
  (((d.pPend r false).wrF R.PNL_REGMAP ⟨r, 1⟩ 1).wrFs (R.PNL_REGSTS r) [(F.PNL_REGSTS_BAND, x.band), (F.PNL_REGSTS_LEN, x.len),
    (F.PNL_REGSTS_FIDX, 0)]).setPnl (fun p => { p with runs := upd p.runs r (fun _ => some x) })

/-- The update that a region's start begins. -/
def Dev.pRun (d : Dev) (r : Nat) : PanelRun :=
  let band := d.rdF R.PNL_STAT F.PNL_STAT_BAND
  let elems := (d.pRegion r).1.map (fun e =>
    let new := d.pTgt e
    let old := if d.pUnk e then d.image.panl.unkold.getD new 0 else d.pLev e
    (e, new, d.pNfr band old new, old))
  ⟨d.pFrame, (elems.map (fun x => x.2.2.1)).foldl max 0, band, elems⟩

theorem pStart_eq : d.pStart r =
    if (d.pRun r).len = 0 then (d.pStarted r (d.pRun r)).pDone r (d.pRun r) else d.pStarted r (d.pRun r) := rfl

theorem pStarted_keeps (hl : PanelApart l r) (x : PanelRun) (k : KeepsFields l z d) : KeepsFields l z (d.pStarted r x) :=
  (wr_keeps hl.sts _ (wrF_keeps hl.run 1 (wrF_keeps hl.pend _ k))).of_regs rfl

theorem pStart_keeps (hl : PanelApart l r) (k : KeepsFields l z d) : KeepsFields l z (d.pStart r) := by
  rw [pStart_eq]
  split
  · exact pDone_keeps hl _ (pStarted_keeps hl _ k)
  · exact pStarted_keeps hl _ k

/-! The panel's own state -/

theorem pnl_foldl_pReach (es : List (Nat × Nat × Nat × Nat)) : (es.foldl (fun d e => d.pReach e.1 e.2.1) d).pnl = d.pnl := by
  induction es generalizing d with
  | nil => rfl
  | cons e t ih => exact ih

theorem pnl_pNotify (outcome : Nat) (x : PanelRun) : (d.pNotify r outcome x).pnl = d.pnl := by
  unfold Dev.pNotify
  split
  · simp only [raiseIf_frame, push_frame]
  · rfl

theorem pnl_pDone (x : PanelRun) : (d.pDone r x).pnl = { d.pnl with runs := upd d.pnl.runs r (fun _ => none) } := by
  simp only [Dev.pDone, raise_frame, pnl_pNotify]
  show ({ (x.elems.foldl (fun d e => d.pReach e.1 e.2.1) d).pnl with
    runs := upd (x.elems.foldl (fun d e => d.pReach e.1 e.2.1) d).pnl.runs r (fun _ => none) } : Panel) = _
  rw [pnl_foldl_pReach]

theorem image_pDone (x : PanelRun) : (d.pDone r x).image = d.image := by
  have hfold (es : List (Nat × Nat × Nat × Nat)) {d : Dev} : (es.foldl (fun d e => d.pReach e.1 e.2.1) d).image = d.image := by
    induction es generalizing d with
    | nil => rfl
    | cons e t ih => exact ih
  have hnotify (outcome : Nat) {d : Dev} : (d.pNotify r outcome x).image = d.image := by
    unfold Dev.pNotify
    split
    · simp only [raiseIf_frame, push_frame]
    · rfl
  simp only [Dev.pDone, raise_frame, hnotify]
  exact hfold x.elems

theorem image_pStart : (d.pStart r).image = d.image := by
  rw [pStart_eq]
  split
  · exact image_pDone _
  · rfl

theorem evPending_pDone (x : PanelRun) : (d.pDone r x).evPending 240 = true := evPending_raise_same _ (by decide)

theorem pnl_pStart : (∃ x, (d.pStart r).pnl = { d.pnl with runs := upd d.pnl.runs r x }) := by
  rw [pStart_eq]
  split
  · refine ⟨(fun _ => none) ∘ fun _ => some (d.pRun r), ?_⟩
    rw [pnl_pDone]
    show ({ d.pnl with runs := upd (upd d.pnl.runs r (fun _ => some (d.pRun r))) r (fun _ => none) } : Panel) = _
    rw [upd_upd]
  · exact ⟨fun _ => some (d.pRun r), rfl⟩

/-- A started update leaves EV240 pending, and an empty one sets it. -/
theorem evPending_pStart (hr : r < 16) (h : d.evPending 240 = true) : (d.pStart r).evPending 240 = true := by
  rw [pStart_eq]
  split
  · exact evPending_pDone _
  · have hsts : R.PNL_REGSTS r < 0x170000 := by
      simp only [R.PNL_REGSTS]
      omega
    exact (evPending_wr_other _ _ _ _ (by simp only [R.HST_EVPEND]; omega)).trans
      ((evPending_wrF_low _ (by decide) _ _ _).trans ((evPending_wrF_low _ (by decide) _ _ _).trans h))

end

/-! A frame (R448, R457) -/

/-- What a frame leaves of region `r` while it works on others: fields of the panel's low registers, the region's update, and
whether the contrast voltage has reached its setpoint. -/
structure FrameKeeps (l : List (Nat × Field)) (r : Nat) (d e : Dev) : Prop where
  fields : KeepsFields l d e
  run : e.pnl.runs.getD r none = d.pnl.runs.getD r none
  len : e.pnl.runs.length = d.pnl.runs.length
  bandNext : e.pnl.bandNext = d.pnl.bandNext
  vlcdOk : d.pnl.vlcdOk = true → e.pnl.vlcdOk = true
  image : e.image = d.image

section
variable {l : List (Nat × Field)} {z d : Dev} {r : Nat}

theorem FrameKeeps.refl (l : List (Nat × Field)) (r : Nat) (d : Dev) : FrameKeeps l r d d := ⟨.refl l d, rfl, rfl, rfl, id, rfl⟩

theorem FrameKeeps.foldl {f : Dev → Nat → Dev} {rs : List Nat} (k : FrameKeeps l r z d)
    (h : ∀ d q, q ∈ rs → FrameKeeps l r z d → FrameKeeps l r z (f d q)) : FrameKeeps l r z (rs.foldl f d) := by
  induction rs generalizing d with
  | nil => exact k
  | cons q t ih => exact ih (h d q List.mem_cons_self k) (fun d y hy => h d y (List.mem_cons_of_mem q hy))

/-- A change of the registers alone. -/
theorem FrameKeeps.of_fields {e : Dev} (k : FrameKeeps l r z d) (h : KeepsFields l z e) (hpnl : e.pnl = d.pnl)
    (himage : e.image = d.image) : FrameKeeps l r z e :=
  ⟨h, by rw [hpnl, k.run], by rw [hpnl, k.len], by rw [hpnl, k.bandNext], by rw [hpnl]; exact k.vlcdOk, himage.trans k.image⟩

/-- A change of another region's update. -/
theorem FrameKeeps.of_run {e : Dev} {q : Nat} {f : Option PanelRun → Option PanelRun} (k : FrameKeeps l r z d) (h : KeepsFields l z e)
    (hq : q ≠ r) (hpnl : e.pnl = { d.pnl with runs := upd d.pnl.runs q f })
    (himage : e.image = d.image) : FrameKeeps l r z e := by
  refine ⟨h, ?_, ?_, by rw [hpnl]; exact k.bandNext, by rw [hpnl]; exact k.vlcdOk, himage.trans k.image⟩
  · rw [hpnl]
    exact (getD_upd_other _ _ _ (Ne.symm hq)).trans k.run
  · rw [hpnl]
    exact (length_upd _ _ _).trans k.len

theorem pEnds_keeps (hl : ∀ q, q < 16 → q ≠ r → PanelApart l q) (hnone : z.pnl.runs.getD r none = none) (k : FrameKeeps l r z d) :
    FrameKeeps l r z d.pEnds := by
  refine FrameKeeps.foldl k fun d q hq k => ?_
  split
  case h_2 => exact k
  case h_1 x hx =>
    have hne : q ≠ r := by
      rintro rfl
      rw [k.run, hnone] at hx
      exact absurd hx (by simp)
    split
    · exact k.of_run (pDone_keeps (hl q (List.mem_range.1 hq) hne) x k.fields) hne (pnl_pDone x) (image_pDone x)
    · exact k

theorem pIndexes_keeps (hoff : ∀ q, q < 16 → FieldsOff l (R.PNL_REGSTS q)) (k : FrameKeeps l r z d) :
    FrameKeeps l r z d.pIndexes := by
  refine FrameKeeps.foldl k fun d q hq k => ?_
  split
  · exact k.of_fields (wr_keeps (hoff q (List.mem_range.1 hq)) _ k.fields) rfl rfl
  · exact k

/-- A region in its turn: it starts when it may. -/
def Dev.pTurn (d : Dev) (r : Nat) : Dev :=
  if d.pPending r && (d.pnl.runs.getD r none).isNone && d.pMayStart then d.pStart r else d

theorem pTurn_keeps {q : Nat} (hl : PanelApart l q) (hne : q ≠ r) (k : FrameKeeps l r z d) : FrameKeeps l r z (d.pTurn q) := by
  unfold Dev.pTurn
  split
  · obtain ⟨f, hf⟩ := pnl_pStart (d := d) (r := q)
    exact k.of_run (pStart_keeps hl k.fields) hne hf image_pStart
  · exact k

theorem pTurn_refused (h : d.pMayStart = false) : d.pTurn r = d := if_neg (by simp [h])

theorem evPending_pTurn (hr : r < 16) (h : d.evPending 240 = true) : (d.pTurn r).evPending 240 = true := by
  unfold Dev.pTurn
  split
  · exact evPending_pStart hr h
  · exact h

theorem foldl_pTurn_evPending {rs : List Nat} (h16 : ∀ q ∈ rs, q < 16) (h : d.evPending 240 = true) :
    (rs.foldl Dev.pTurn d).evPending 240 = true := by
  induction rs generalizing d with
  | nil => exact h
  | cons q t ih => exact ih (fun y hy => h16 y (List.mem_cons_of_mem q hy)) (evPending_pTurn (h16 q List.mem_cons_self) h)

/-- A pending region that may start: it runs, or ends at once. -/
theorem pStart_shows (hr : r < 16) (hlen : r < d.pnl.runs.length) : (d.pStart r).pPending r = false ∧
    (d.pStart r).pFrame = d.pFrame ∧ ((d.pStart r).evPending 240 = true ∨
      (d.pStart r).pnl.runs.getD r none = some (d.pRun r) ∧ (d.pStart r).rdF R.PNL_REGMAP ⟨r, 1⟩ = 1) := by
  have hf : (⟨r, 1⟩ : Field).lo + (⟨r, 1⟩ : Field).width ≤ 32 := by
    show r + 1 ≤ 32
    omega
  have hsts : R.PNL_PENDMAP ≠ R.PNL_REGSTS r ∧ R.PNL_REGMAP ≠ R.PNL_REGSTS r ∧ R.PNL_FRAMECNT ≠ R.PNL_REGSTS r := by
    simp only [R.PNL_PENDMAP, R.PNL_REGMAP, R.PNL_FRAMECNT, R.PNL_REGSTS]
    omega
  obtain ⟨hpm, hrm, hfm⟩ := hsts
  have hstarted (x : PanelRun) : (d.pStarted r x).rdF R.PNL_PENDMAP ⟨r, 1⟩ = 0 ∧
      (d.pStarted r x).rd R.PNL_FRAMECNT = d.rd R.PNL_FRAMECNT ∧ (d.pStarted r x).rdF R.PNL_REGMAP ⟨r, 1⟩ = 1 := by
    refine ⟨?_, ?_, ?_⟩
    · exact (rdF_congr (rd_wr_other _ _ _ _ hpm) _).trans ((rdF_wrF_other _ _ _ _ _ _ (by decide)).trans
        (rdF_wrF_of_lt _ _ _ hf (by show b2n false < 2 ^ 1; decide)))
    · exact (rd_wr_other _ _ _ _ hfm).trans ((rd_wr_other _ _ _ _ (by decide)).trans (rd_wr_other _ _ _ _ (by decide)))
    · exact (rdF_congr (rd_wr_other _ _ _ _ hrm) _).trans (rdF_wrF_of_lt _ _ _ hf (by show 1 < 2 ^ 1; decide))
  obtain ⟨hpend, hframe, hmap⟩ := hstarted (d.pRun r)
  rw [pStart_eq]
  split
  · have hkeep : KeepsFields [(R.PNL_PENDMAP, ⟨r, 1⟩), (R.PNL_FRAMECNT, ⟨0, 32⟩)] (d.pStarted r (d.pRun r))
        ((d.pStarted r (d.pRun r)).pDone r (d.pRun r)) := by
      have hlow : FieldsPanel [(R.PNL_PENDMAP, ⟨r, 1⟩), (R.PNL_FRAMECNT, ⟨0, 32⟩)] := by
        simp only [FieldsPanel, List.forall_mem_cons, List.not_mem_nil, false_implies, implies_true, and_true, R.PNL_PENDMAP,
          R.PNL_FRAMECNT]
        omega
      refine raise_keeps hlow 240 (pNotify_keeps hlow 0 _ (wr_keeps ?_ _ (wrF_keeps ?_ 0
        ((foldl_pReach_keeps hlow _ (.refl _ _)).of_regs rfl))))
      · simp only [FieldsOff, List.forall_mem_cons, List.not_mem_nil, false_implies, implies_true, and_true]
        exact ⟨hpm, hfm⟩
      · simp only [FieldsClear, List.forall_mem_cons, List.not_mem_nil, false_implies, implies_true, and_true]
        exact ⟨fun h => absurd h (by decide), fun h => absurd h (by decide)⟩
    refine ⟨?_, congrArg BitVec.toNat ((rd_of_full (hkeep.field_eq (by simp))).trans hframe), .inl (evPending_pDone _)⟩
    rw [Dev.pPending, hkeep.field_eq (by simp), hpend]
    rfl
  · refine ⟨?_, congrArg BitVec.toNat hframe, .inr ⟨getD_upd_same _ _ _ hlen, hmap⟩⟩
    rw [Dev.pPending, hpend]
    rfl

end

/-- The contrast voltage measured in a frame, and the indexes of the updates that run. -/
def Dev.pMeasured (d : Dev) (vlcd : BitVec 16) : Dev :=
  let d := d.wrF R.PNL_VLCD F.PNL_VLCD_VMEAS vlcd.toNat
  let set : Int := d.rdF R.PNL_VLCD F.PNL_VLCD_VSETP
  let d := if decide (50 * ((vlcd.toNat : Int) - set).natAbs ≤ set) then d.setPnl (fun p => { p with vlcdOk := true }) else d
  d.pIndexes

/-- The device in a frame, before its pending regions have their turn. -/
def Dev.pOpened (d : Dev) (vlcd : BitVec 16) : Dev :=
  (d.wr R.PNL_FRAMECNT (d.rd R.PNL_FRAMECNT + 1)).pEnds.pMeasured vlcd

/-- The panel's registers that a frame keeps, with a region's bits. -/
def frameFields (r : Nat) : List (Nat × Field) :=
  [(R.PNL_FRAMECNT, ⟨0, 32⟩), (R.PNL_STAT, ⟨0, 32⟩), (R.PNL_CTRL, ⟨0, 32⟩), (R.PNL_PENDMAP, ⟨r, 1⟩), (R.PNL_REGMAP, ⟨r, 1⟩)]

theorem frameFields_apart {r q : Nat} (hq : q < 16) (hne : q ≠ r) : PanelApart (frameFields r) q := by
  constructor <;> simp only [frameFields, FieldsPanel, FieldsClear, FieldsOff, List.forall_mem_cons, List.not_mem_nil, false_implies,
    implies_true, and_true, true_implies, R.PNL_FRAMECNT, R.PNL_STAT, R.PNL_CTRL, R.PNL_PENDMAP, R.PNL_REGMAP, R.PNL_REGSTS] <;> omega

theorem frameFields_off {r q : Nat} (hq : q < 16) : FieldsOff (frameFields r) (R.PNL_REGSTS q) := by
  simp only [frameFields, FieldsOff, List.forall_mem_cons, List.not_mem_nil, false_implies,
    implies_true, and_true, R.PNL_FRAMECNT, R.PNL_STAT, R.PNL_CTRL, R.PNL_PENDMAP, R.PNL_REGMAP, R.PNL_REGSTS]
  omega

theorem vmeas_apart {q : Nat} (hq : q < 16) : PanelApart [(R.PNL_VLCD, F.PNL_VLCD_VMEAS)] q := by
  constructor <;> simp only [FieldsPanel, FieldsClear, FieldsOff, List.forall_mem_singleton, R.PNL_VLCD, R.PNL_PENDMAP, R.PNL_REGMAP,
    R.PNL_REGSTS] <;> omega

section
variable {d : Dev} {r : Nat} (vlcd : BitVec 16)

/-- What the opening of a frame leaves of a region that does not run. -/
theorem pOpened_keeps (hnone : d.pnl.runs.getD r none = none) :
    FrameKeeps (frameFields r) r (d.wr R.PNL_FRAMECNT (d.rd R.PNL_FRAMECNT + 1)) (d.pOpened vlcd) ∧
    (d.pOpened vlcd).rdF R.PNL_VLCD F.PNL_VLCD_VMEAS = vlcd.toNat := by
  have h1 : FrameKeeps (frameFields r) r (d.wr R.PNL_FRAMECNT (d.rd R.PNL_FRAMECNT + 1))
      (d.wr R.PNL_FRAMECNT (d.rd R.PNL_FRAMECNT + 1)).pEnds := pEnds_keeps (fun q => frameFields_apart) hnone (.refl _ r _)
  unfold Dev.pOpened
  generalize (d.wr R.PNL_FRAMECNT (d.rd R.PNL_FRAMECNT + 1)).pEnds = d1 at h1
  unfold Dev.pMeasured
  extract_lets d2 set d3
  have h2 := h1.of_fields (e := d2) (wrF_keeps (by
    simp only [frameFields, FieldsClear, List.forall_mem_cons, List.not_mem_nil, false_implies, implies_true, and_true,
      R.PNL_FRAMECNT, R.PNL_STAT, R.PNL_CTRL, R.PNL_PENDMAP, R.PNL_REGMAP, R.PNL_VLCD]
    omega) _ h1.fields) rfl rfl
  have h2m : d2.rdF R.PNL_VLCD F.PNL_VLCD_VMEAS = vlcd.toNat := rdF_wrF_of_lt _ _ _ (by decide) vlcd.isLt
  clear_value d2
  have h3 : FrameKeeps (frameFields r) r (d.wr R.PNL_FRAMECNT (d.rd R.PNL_FRAMECNT + 1)) d3 := by
    unfold d3
    split
    · exact ⟨h2.fields.of_regs rfl, h2.run, h2.len, h2.bandNext, fun _ => rfl, h2.image⟩
    · exact h2
  refine ⟨pIndexes_keeps (fun q hq => frameFields_off hq) h3, ?_⟩
  have hmeas : d3.rdF R.PNL_VLCD F.PNL_VLCD_VMEAS = vlcd.toNat := by
    unfold d3
    split <;> exact h2m
  have hkeep : FrameKeeps [(R.PNL_VLCD, F.PNL_VLCD_VMEAS)] r d3 d3.pIndexes :=
    pIndexes_keeps (fun q hq => (vmeas_apart hq).sts) (.refl _ r d3)
  rw [hkeep.fields.field_eq (by simp), hmeas]

theorem pnlFrame_eq (hon : d.rdF R.PNL_CTRL F.PNL_CTRL_STATE = 2) (hband : d.pnl.bandNext = none) (hlen : d.pnl.runs.length = 16) :
    d.pnlFrame vlcd = (List.range d.image.panl.nreg).foldl Dev.pTurn (d.pOpened vlcd) := by
  have hnone : d.pnl.runs.getD 16 none = none := getD_of_length_le _ _ (by omega)
  have hends : FrameKeeps (frameFields 16) 16 (d.wr R.PNL_FRAMECNT (d.rd R.PNL_FRAMECNT + 1))
      (d.wr R.PNL_FRAMECNT (d.rd R.PNL_FRAMECNT + 1)).pEnds :=
    pEnds_keeps (fun q => frameFields_apart) hnone (.refl _ 16 _)
  have himage : (d.pOpened vlcd).image = d.image := (pOpened_keeps vlcd hnone).1.image
  have hnext : (d.wr R.PNL_FRAMECNT (d.rd R.PNL_FRAMECNT + 1)).pEnds.pnl.bandNext = none := hends.bandNext.trans hband
  rw [← himage]
  unfold Dev.pnlFrame Dev.pOpened
  rw [if_neg (by simp [hon])]
  generalize (d.wr R.PNL_FRAMECNT (d.rd R.PNL_FRAMECNT + 1)).pEnds = e at hnext
  extract_lets d1 d2 d3 set ok d4 d5
  have hmatch : d2.pnl.bandNext = none := hnext
  have hd3 : d3 = d2 := by
    unfold d3
    rw [hmatch]
  have hd5 : d5 = e.pMeasured vlcd := by
    unfold d5 d4 ok set
    rw [hd3]
    rfl
  rw [hd5]
  rfl

end

section
variable {l : List (Nat × Field)} {z d : Dev} {r : Nat}

theorem mayStart_of_keeps {e : Dev} (k : FrameKeeps (frameFields r) r d e) (h : d.pMayStart = true) : e.pMayStart = true := by
  have hstat : e.rd R.PNL_STAT = d.rd R.PNL_STAT := rd_of_full (k.fields.field_eq (by simp [frameFields]))
  have hctrl : e.rd R.PNL_CTRL = d.rd R.PNL_CTRL := rd_of_full (k.fields.field_eq (by simp [frameFields]))
  simp only [Dev.pMayStart, Bool.and_eq_true, rdF_congr hstat, rdF_congr hctrl] at h ⊢
  obtain ⟨hregs, hok⟩ := h
  exact ⟨hregs, k.vlcdOk hok⟩

theorem mayStart_refused (h : d.rdF R.PNL_STAT F.PNL_STAT_VFLT = 1 ∨ d.rdF R.PNL_STAT F.PNL_STAT_BANDPEND = 1) :
    d.pMayStart = false := by
  rcases h with h | h <;> simp [Dev.pMayStart, h]

theorem foldl_pTurn_refused (rs : List Nat) (h : d.pMayStart = false) : rs.foldl Dev.pTurn d = d := by
  induction rs with
  | nil => rfl
  | cons q t ih => rw [List.foldl_cons, pTurn_refused h, ih]

theorem foldl_pTurn_keeps {rs : List Nat} (h : ∀ q ∈ rs, PanelApart l q ∧ q ≠ r) (k : FrameKeeps l r z d) :
    FrameKeeps l r z (rs.foldl Dev.pTurn d) :=
  k.foldl fun _ q hq k => pTurn_keeps (h q hq).1 (h q hq).2 k

/-- A pending region that may start, in the turn of every region of the image. -/
theorem foldl_pTurn_starts {n : Nat} (hn : n ≤ 16) (hr : r < n) (hlen : d.pnl.runs.length = 16) (hpend : d.pPending r = true)
    (hnone : d.pnl.runs.getD r none = none) (hmay : d.pMayStart = true) :
    let e := (List.range n).foldl Dev.pTurn d
    e.pPending r = false ∧ (e.evPending 240 = true ∨ ∃ x, e.pnl.runs.getD r none = some x ∧ x.start = e.pFrame ∧
      x.band = d.rdF R.PNL_STAT F.PNL_STAT_BAND ∧ e.rdF R.PNL_REGMAP ⟨r, 1⟩ = 1) := by
  intro e
  obtain ⟨a, b, hab⟩ := List.append_of_mem (List.mem_range.2 hr)
  have hnodup := List.nodup_range (n := n)
  have hlt (q : Nat) (hq : q ∈ a ++ r :: b) : q < n := List.mem_range.1 (hab ▸ hq)
  rw [hab, List.nodup_append] at hnodup
  obtain ⟨-, hrb, hne⟩ := hnodup
  have hapart (q : Nat) (hq : q ∈ a ++ r :: b) (hqr : q ≠ r) : PanelApart (frameFields r) q ∧ q ≠ r :=
    ⟨frameFields_apart (by have := hlt q hq; omega) hqr, hqr⟩
  obtain ⟨d1, hd1⟩ : ∃ d1, d1 = a.foldl Dev.pTurn d := ⟨_, rfl⟩
  have k1 : FrameKeeps (frameFields r) r d d1 := hd1 ▸ foldl_pTurn_keeps (fun q hq => hapart q (List.mem_append_left _ hq)
    (hne q hq r List.mem_cons_self)) (.refl _ r d)
  have hturn : d1.pTurn r = d1.pStart r := by
    have hp : d1.pPending r = true := by
      rw [Dev.pPending, k1.fields.field_eq (by simp [frameFields])]
      exact hpend
    exact if_pos (by rw [hp, k1.run.trans hnone, mayStart_of_keeps k1 hmay]; rfl)
  have he : e = b.foldl Dev.pTurn (d1.pStart r) := by rw [← hturn, hd1, ← List.foldl_cons, ← List.foldl_append, ← hab]
  obtain ⟨hpend1, hframe1, hrun1⟩ := pStart_shows (d := d1) (r := r) (by omega) (by rw [k1.len]; omega)
  have k2 : FrameKeeps (frameFields r) r (d1.pStart r) e := he ▸ foldl_pTurn_keeps (fun q hq =>
    hapart q (List.mem_append_right _ (List.mem_cons_of_mem r hq)) (fun h => (List.nodup_cons.1 hrb).1 (h ▸ hq))) (.refl _ r _)
  refine ⟨by rw [Dev.pPending, k2.fields.field_eq (by simp [frameFields])]; exact hpend1, ?_⟩
  rcases hrun1 with hev | ⟨hrun, hmap⟩
  · rw [he]
    exact .inl (foldl_pTurn_evPending (fun q hq => by
      have := hlt q (List.mem_append_right _ (List.mem_cons_of_mem r hq))
      omega) hev)
  · have hcnt : e.rd R.PNL_FRAMECNT = (d1.pStart r).rd R.PNL_FRAMECNT := rd_of_full (k2.fields.field_eq (by simp [frameFields]))
    have hstat : d1.rd R.PNL_STAT = d.rd R.PNL_STAT := rd_of_full (k1.fields.field_eq (by simp [frameFields]))
    refine .inr ⟨d1.pRun r, k2.run.trans hrun, hframe1.symm.trans (congrArg BitVec.toNat hcnt).symm, rdF_congr hstat _, ?_⟩
    rw [k2.fields.field_eq (by simp [frameFields])]
    exact hmap

end

/-! The end of an update (R458) -/

section
variable {d : Dev} {r : Nat}

theorem pReach_same {e v : Nat} (he : e < 768) (hv : v < 4) : (d.pReach e v).pLev e = v ∧ (d.pReach e v).pUnk e = false := by
  have hf : (⟨2 * (e % 16), 2⟩ : Field).lo + (⟨2 * (e % 16), 2⟩ : Field).width ≤ 32 := by
    show 2 * (e % 16) + 2 ≤ 32
    omega
  have hg : (⟨e % 32, 1⟩ : Field).lo + (⟨e % 32, 1⟩ : Field).width ≤ 32 := by
    show e % 32 + 1 ≤ 32
    omega
  have hne : R.PNL_LEV (e / 16) ≠ R.PNL_UNK (e / 32) := by
    simp only [R.PNL_LEV, R.PNL_UNK]
    omega
  refine ⟨(rdF_wrF_other _ _ _ _ _ _ hne).trans (rdF_wrF_of_lt _ _ _ hf hv), ?_⟩
  have h0 : (d.pReach e v).rdF (R.PNL_UNK (e / 32)) ⟨e % 32, 1⟩ = 0 := rdF_wrF_of_lt _ _ _ hg (by show 0 < 2 ^ 1; decide)
  rw [Dev.pUnk, h0]
  rfl

theorem pReach_other {e k : Nat} (he : e < 768) (hk : k < 768) (hne : k ≠ e) (v : Nat) :
    (d.pReach e v).pLev k = d.pLev k ∧ (d.pReach e v).pUnk k = d.pUnk k := by
  have hlu : R.PNL_LEV (k / 16) ≠ R.PNL_UNK (e / 32) ∧ R.PNL_UNK (k / 32) ≠ R.PNL_LEV (e / 16) := by
    simp only [R.PNL_LEV, R.PNL_UNK]
    omega
  obtain ⟨hlu, hul⟩ := hlu
  have hlev : (d.wrF (R.PNL_LEV (e / 16)) ⟨2 * (e % 16), 2⟩ v).rdF (R.PNL_LEV (k / 16)) ⟨2 * (k % 16), 2⟩ = d.pLev k := by
    by_cases ha : k / 16 = e / 16
    · rw [ha, rdF_wrF_apart _ _ _ _ (by show 2 * (k % 16) + 2 ≤ 2 * (e % 16) ∨ 2 * (e % 16) + 2 ≤ 2 * (k % 16); omega), ← ha,
        ← Dev.pLev]
    · exact rdF_wrF_other _ _ _ _ _ _ (by simp only [R.PNL_LEV]; omega)
  have hunk (d : Dev) : ((d.wrF (R.PNL_UNK (e / 32)) ⟨e % 32, 1⟩ 0).rdF (R.PNL_UNK (k / 32)) ⟨k % 32, 1⟩ == 1) = d.pUnk k := by
    by_cases ha : k / 32 = e / 32
    · rw [ha, rdF_wrF_apart _ _ _ _ (by show k % 32 + 1 ≤ e % 32 ∨ e % 32 + 1 ≤ k % 32; omega), ← ha, ← Dev.pUnk]
    · rw [rdF_wrF_other _ _ _ _ _ _ (by simp only [R.PNL_UNK]; omega), ← Dev.pUnk]
  refine ⟨(rdF_wrF_other _ _ _ _ _ _ hlu).trans hlev, (hunk _).trans ?_⟩
  rw [Dev.pUnk, rdF_wrF_other _ _ _ _ _ _ hul, ← Dev.pUnk]

theorem foldl_pReach_other {es : List (Nat × Nat × Nat × Nat)} (hes : ∀ e ∈ es, e.1 < 768) {k : Nat} (hk : k < 768)
    (hne : ∀ e ∈ es, k ≠ e.1) : (es.foldl (fun d e => d.pReach e.1 e.2.1) d).pLev k = d.pLev k ∧
      (es.foldl (fun d e => d.pReach e.1 e.2.1) d).pUnk k = d.pUnk k := by
  induction es generalizing d with
  | nil => exact ⟨rfl, rfl⟩
  | cons e t ih =>
    obtain ⟨hlev, hunk⟩ := ih (d := d.pReach e.1 e.2.1) (fun x hx => hes x (List.mem_cons_of_mem e hx))
      (fun x hx => hne x (List.mem_cons_of_mem e hx))
    obtain ⟨hlev', hunk'⟩ := pReach_other (d := d) (hes e List.mem_cons_self) hk (hne e List.mem_cons_self) e.2.1
    exact ⟨hlev.trans hlev', hunk.trans hunk'⟩

/-- The elements of a completed update have reached their levels. -/
theorem foldl_pReach_shows {es : List (Nat × Nat × Nat × Nat)} (hnodup : (es.map (·.1)).Nodup)
    (hes : ∀ e ∈ es, e.1 < 768 ∧ e.2.1 < 4) : ∀ e ∈ es, (es.foldl (fun d e => d.pReach e.1 e.2.1) d).pLev e.1 = e.2.1 ∧
      (es.foldl (fun d e => d.pReach e.1 e.2.1) d).pUnk e.1 = false := by
  induction es generalizing d with
  | nil => exact fun e he => absurd he List.not_mem_nil
  | cons x t ih =>
    rw [List.map_cons, List.nodup_cons] at hnodup
    obtain ⟨hx, ht⟩ := hnodup
    intro e he
    rcases List.mem_cons.1 he with rfl | he
    · obtain ⟨hlt, hv⟩ := hes e List.mem_cons_self
      obtain ⟨hlev, hunk⟩ := foldl_pReach_other (d := d.pReach e.1 e.2.1)
        (fun y hy => (hes y (List.mem_cons_of_mem e hy)).1) hlt (fun y hy h => hx (h ▸ List.mem_map_of_mem hy))
      obtain ⟨hlev', hunk'⟩ := pReach_same (d := d) hlt hv
      exact ⟨hlev.trans hlev', hunk.trans hunk'⟩
    · exact ih ht (fun y hy => hes y (List.mem_cons_of_mem x hy)) e he

theorem rd_push_low (q : Nat) (bytes : List Byte) (ref : Option HostRef) {a : Nat} (ha : a < 0x170000) :
    (d.push q bytes ref).rd a = d.rd a := by
  have hne : a ≠ R.HST_QSTAT q := by
    simp only [R.HST_QSTAT]
    omega
  unfold Dev.push
  split
  · rfl
  · exact (rd_raise_low _ 249 ha).trans (rd_wr_other _ _ _ _ hne)

theorem rd_pNotify_low (outcome : Nat) (x : PanelRun) {a : Nat} (ha : a < 0x170000) : (d.pNotify r outcome x).rd a = d.rd a := by
  unfold Dev.pNotify
  split
  · exact (rd_raiseIf_low _ _ 247 ha).trans (rd_push_low 55 _ none ha)
  · rfl

/-- What the end of an update shows. -/
theorem pDone_shows (hr : r < 16) (hlen : r < d.pnl.runs.length) {x : PanelRun} (hnodup : (x.elems.map (·.1)).Nodup)
    (hes : ∀ e ∈ x.elems, e.1 < 768 ∧ e.2.1 < 4) :
    (∀ e ∈ x.elems, (d.pDone r x).pLev e.1 = e.2.1 ∧ (d.pDone r x).pUnk e.1 = false) ∧
    (d.pDone r x).pnl.runs.getD r none = none ∧ (d.pDone r x).rdF R.PNL_REGMAP ⟨r, 1⟩ = 0 ∧
    (d.pDone r x).evPending 240 = true ∧ (d.pDone r x).rdF (R.PNL_REGSTS r) F.PNL_REGSTS_DONES
      = (d.rdF (R.PNL_REGSTS r) F.PNL_REGSTS_DONES + 1) % 4096 := by
  have hf : (⟨r, 1⟩ : Field).lo + (⟨r, 1⟩ : Field).width ≤ 32 := by
    show r + 1 ≤ 32
    omega
  have hsts : R.PNL_REGSTS r < 0x160200 ∧ R.PNL_REGMAP ≠ R.PNL_REGSTS r := by
    simp only [R.PNL_REGSTS, R.PNL_REGMAP]
    omega
  obtain ⟨hlow, hmap⟩ := hsts
  obtain ⟨e0, he0⟩ : ∃ e0, e0 = x.elems.foldl (fun d e => d.pReach e.1 e.2.1) d := ⟨_, rfl⟩
  obtain ⟨e1, he1⟩ : ∃ e1 : Dev, e1 = (e0.setPnl (fun p => { p with runs := upd p.runs r (fun _ => none) })).wrF R.PNL_REGMAP
    ⟨r, 1⟩ 0 := ⟨_, rfl⟩
  have hdone : d.pDone r x = ((e1.wrFs (R.PNL_REGSTS r) [(F.PNL_REGSTS_FIDX, x.len),
      (F.PNL_REGSTS_DONES, e1.rdF (R.PNL_REGSTS r) F.PNL_REGSTS_DONES + 1)]).pNotify r 0 x).raise 240 := by
    rw [he1, he0]
    rfl
  have hrd {a : Nat} (ha : a < 0x170000) : (d.pDone r x).rd a = (e1.wrFs (R.PNL_REGSTS r) [(F.PNL_REGSTS_FIDX, x.len),
      (F.PNL_REGSTS_DONES, e1.rdF (R.PNL_REGSTS r) F.PNL_REGSTS_DONES + 1)]).rd a := by
    rw [hdone, rd_raise_low _ _ ha, rd_pNotify_low _ _ ha]
  have hhigh {a : Nat} (ha : a < 0x170000) (hge : 0x160200 ≤ a) : (d.pDone r x).rd a = e0.rd a := by
    rw [hrd ha, Dev.wrFs, rd_wr_other _ _ _ _ (by omega), he1]
    exact rd_wr_other _ _ _ _ (by simp only [R.PNL_REGMAP]; omega)
  refine ⟨fun e he => ?_, ?_, ?_, evPending_pDone x, ?_⟩
  · obtain ⟨hlev, hunk⟩ := foldl_pReach_shows (d := d) hnodup hes e he
    obtain ⟨hlt, -⟩ := hes e he
    rw [Dev.pLev, Dev.pUnk, rdF_congr (hhigh (by simp only [R.PNL_LEV]; omega) (by simp only [R.PNL_LEV]; omega)),
      rdF_congr (hhigh (by simp only [R.PNL_UNK]; omega) (by simp only [R.PNL_UNK]; omega)), he0]
    exact ⟨hlev, hunk⟩
  · rw [pnl_pDone]
    exact getD_upd_same _ _ _ hlen
  · rw [rdF_congr (hrd (by decide)), Dev.wrFs, rdF_congr (rd_wr_other _ _ _ _ hmap), he1]
    exact rdF_wrF_of_lt _ _ _ hf (by show 0 < 2 ^ 1; decide)
  · have hkeep : e1.rdF (R.PNL_REGSTS r) F.PNL_REGSTS_DONES = d.rdF (R.PNL_REGSTS r) F.PNL_REGSTS_DONES := by
      have hfold := foldl_pReach_keeps (l := [(R.PNL_REGSTS r, F.PNL_REGSTS_DONES)]) (by
        simp only [FieldsPanel, List.forall_mem_singleton]
        exact hlow) x.elems (.refl _ d)
      rw [he1, rdF_wrF_other _ _ _ _ _ _ (Ne.symm hmap), he0]
      exact hfold.field_eq (by simp)
    rw [rdF_congr (hrd (by omega)), Dev.wrFs, Dev.rdF, rd_wr_same, hkeep]
    exact getF_putF F.PNL_REGSTS_DONES (by decide) _ _

end

/-! Requests (R454 to R456) -/

section
variable {d : Dev} {r : Nat}

theorem queues_foldl {α : Type} {f : Dev → α → Dev} (l : List α) (h : ∀ d x, (f d x).queues = d.queues) (d : Dev) :
    (l.foldl f d).queues = d.queues := by
  induction l generalizing d with
  | nil => rfl
  | cons x t ih => exact (ih (f d x)).trans (h d x)

theorem queues_pShow (r : Nat) (d : Dev) : (d.pShow r).queues = d.queues :=
  queues_foldl (f := fun d e => d.pAim e (d.pEffective r e)) _ (fun _ _ => rfl) d

theorem queues_pHost (r e0 levels : Nat) (d : Dev) : (d.pHost r e0 levels).queues = d.queues := by
  unfold Dev.pHost
  extract_lets new d1 d2
  have h2 : d2.queues = d.queues := queues_pShow r d1
  split <;> exact h2

theorem queues_pMaintOp (op level r : Nat) (d : Dev) : (d.pMaintOp op level r).queues = d.queues := by
  unfold Dev.pMaintOp
  extract_lets d1
  have h1 : d1.queues = d.queues := by
    unfold d1
    split
    · rfl
    · split
      · rfl
      · exact queues_foldl (f := Dev.pLose) _ (fun _ _ => rfl) d
  exact (queues_pShow r d1).trans h1

theorem queues_pConsume (q : Nat) (bytes : List Byte) (d : Dev) : (d.pConsume q bytes).queues = d.queues := by
  unfold Dev.pConsume
  split
  · exact queues_pHost _ _ _ d
  · split
    · exact queues_foldl _ (fun d r => queues_pMaintOp _ _ r d) d
    · dsimp only
      split <;> rfl

/-- A content request: its region pends, unless MAINT stands on it. -/
theorem pConsume_content {q : Nat} (h57 : q ≠ 57) (h59 : q ≠ 59) (bytes : List Byte) : d.pConsume q bytes =
    if d.pMaint (byteAt bytes 0) then d else d.pPend (byteAt bytes 0) true := by
  rw [Dev.pConsume, if_neg h57, if_neg h59]

theorem pPending_pPend (hr : r < 16) : (d.pPend r true).pPending r = true := by
  have hf : (⟨r, 1⟩ : Field).lo + (⟨r, 1⟩ : Field).width ≤ 32 := by
    show r + 1 ≤ 32
    omega
  have h1 : (d.pPend r true).rdF R.PNL_PENDMAP ⟨r, 1⟩ = 1 := rdF_wrF_of_lt _ _ _ hf (by show b2n true < 2 ^ 1; decide)
  rw [Dev.pPending, h1]
  rfl

end

/-! Temperature and band (R450, R452) -/

section
variable {d : Dev}

theorem pAdopt_shows (b : Nat) : (d.pAdopt b).rdF R.PNL_STAT F.PNL_STAT_BAND = b % 16 ∧
    (d.pAdopt b).rdF R.PNL_STAT F.PNL_STAT_BANDPEND = 0 ∧
    (d.pAdopt b).rdF R.PNL_VLCD F.PNL_VLCD_VSETP = 10 * d.image.panl.vset.getD b 100 % 65536 ∧
    (d.pAdopt b).evPending 245 = true ∧ (d.pAdopt b).pnl.vlcdOk = false ∧
    (d.pAdopt b).rdF R.PNL_STAT F.PNL_STAT_TPFLT = d.rdF R.PNL_STAT F.PNL_STAT_TPFLT ∧
    (d.pAdopt b).rd R.PNL_MEAS = d.rd R.PNL_MEAS := by
  unfold Dev.pAdopt
  extract_lets d1 d2
  have hlow {a : Nat} (ha : a < 0x170000) :
      ((d2.setPnl (fun p => { p with bandNext := none, vlcdOk := false })).raise 245).rd a = d2.rd a := rd_raise_low _ _ ha
  have hstat (f : Field) : ((d2.setPnl (fun p => { p with bandNext := none, vlcdOk := false })).raise 245).rdF R.PNL_STAT f
      = d1.rdF R.PNL_STAT f := (rdF_congr (hlow (by decide)) _).trans (rdF_wrF_other _ _ _ _ _ _ (by decide))
  refine ⟨?_, ?_, ?_, evPending_raise_same _ (by decide), by simp, ?_, ?_⟩
  · rw [hstat]
    exact (rdF_wrF_apart _ _ _ _ (by decide) _).trans (rdF_wrF _ _ _ (by decide) _)
  · rw [hstat]
    exact rdF_wrF_of_lt _ _ _ (by decide) (by decide)
  · rw [rdF_congr (hlow (by decide))]
    exact rdF_wrF _ _ _ (by decide) _
  · rw [hstat]
    exact (rdF_wrF_apart _ _ _ _ (by decide) _).trans (rdF_wrF_apart _ _ _ _ (by decide) _)
  · rw [hlow (by decide)]
    exact (rd_wr_other _ _ _ _ (by decide)).trans ((rd_wr_other _ _ _ _ (by decide)).trans (rd_wr_other _ _ _ _ (by decide)))

/-- A measured band leaves the fault of the temperature and its code alone. -/
theorem pBand_keeps (b : Nat) : (d.pBand b).rdF R.PNL_STAT F.PNL_STAT_TPFLT = d.rdF R.PNL_STAT F.PNL_STAT_TPFLT ∧
    (d.pBand b).rd R.PNL_MEAS = d.rd R.PNL_MEAS := by
  unfold Dev.pBand
  split
  · exact ⟨rdF_wrF_apart _ _ _ _ (by decide) _, rd_wr_other _ _ _ _ (by decide)⟩
  · split
    · exact ⟨rdF_wrF_apart _ _ _ _ (by decide) _, rd_wr_other _ _ _ _ (by decide)⟩
    · obtain ⟨-, -, -, -, -, htp, hmeas⟩ := pAdopt_shows (d := d) b
      exact ⟨htp, hmeas⟩

/-- A code outside its range, of a panel that has been measured before. -/
theorem pnlTpan_fault {code : BitVec 12} (hmeasured : d.pnl.measured = true) (hout : code.toNat < 16 ∨ 4079 < code.toNat) :
    (d.pnlTpan code).rdF R.PNL_STAT F.PNL_STAT_TPFLT = 1 ∧ (d.pnlTpan code).rdF R.PNL_MEAS F.PNL_MEAS_TPCODE = code.toNat ∧
    (d.pnlTpan code).rdF R.PNL_STAT F.PNL_STAT_BAND = d.rdF R.PNL_STAT F.PNL_STAT_BAND ∧
    (d.rdF R.PNL_STAT F.PNL_STAT_TPFLT = 0 → (d.pnlTpan code).evPending 244 = true) ∧ (d.pnlTpan code).pnl = d.pnl := by
  unfold Dev.pnlTpan
  extract_lets c d1 was d2 d3 d4 first d5
  rw [if_pos hout]
  have hpnl : d3.pnl = d.pnl := by
    unfold d3
    split
    · rfl
    · rw [(by simp : (d2.flagEv R.PNL_STAT 20 244).pnl = d2.pnl)]
      rfl
  have hmeas : d3.pnl.measured = true := by rw [hpnl, hmeasured]
  rw [if_pos hmeas]
  have hstat (f : Field) (hseq : f.lo + f.width ≤ 20) : d3.rdF R.PNL_STAT f = d2.rdF R.PNL_STAT f := by
    unfold d3
    split
    · rfl
    · exact rdF_flagEv_apart d2 (by decide) 20 244 f (by omega) (.inl (by omega))
  have hcode : d2.rdF R.PNL_MEAS F.PNL_MEAS_TPCODE = code.toNat :=
    (rdF_wrF_other _ _ _ _ _ _ (by decide)).trans (rdF_wrF_of_lt _ _ _ (by decide) code.isLt)
  refine ⟨(hstat _ (by decide)).trans (rdF_wrF_of_lt _ _ _ (by decide) (by decide)), ?_, ?_, fun h0 => ?_, hpnl⟩
  · unfold d3
    split
    · exact hcode
    · exact (rdF_flagEv_other d2 (by decide) (by decide) 20 244 _).trans hcode
  · exact (hstat _ (by decide)).trans ((rdF_wrF_apart _ _ _ _ (by decide) _).trans (rdF_wrF_other _ _ _ _ _ _ (by decide)))
  · have hwas : d1.rdF R.PNL_STAT F.PNL_STAT_TPFLT = 0 := (rdF_wrF_other _ _ _ _ _ _ (by decide)).trans h0
    unfold d3 was
    rw [hwas, if_neg (by decide)]
    exact evPending_flagEv_same _ _ 20 (by decide)

/-- A code in its range: the band that it gives. -/
theorem pnlTpan_good {code : BitVec 12} (hmeasured : d.pnl.measured = true) (hlo : 16 ≤ code.toNat) (hhi : code.toNat ≤ 4079) :
    ∃ e : Dev, d.pnlTpan code = e.pBand (bandOf d.image.panl.bth (d.rdF R.PNL_STAT F.PNL_STAT_BAND) code.toNat false) ∧
      e.rdF R.PNL_STAT F.PNL_STAT_TPFLT = 0 ∧ e.rdF R.PNL_MEAS F.PNL_MEAS_TPCODE = code.toNat ∧
      e.rdF R.PNL_STAT F.PNL_STAT_BAND = d.rdF R.PNL_STAT F.PNL_STAT_BAND ∧ e.pRunning = d.pRunning ∧ e.image = d.image := by
  unfold Dev.pnlTpan
  extract_lets c d1 was d2 d3 d4 first d5
  rw [if_neg (show ¬ (c < 16 ∨ c > 4079) by show ¬ (code.toNat < 16 ∨ code.toNat > 4079); omega)]
  have hband : d5.rdF R.PNL_STAT F.PNL_STAT_BAND = d.rdF R.PNL_STAT F.PNL_STAT_BAND :=
    (rdF_wrF_apart _ _ _ _ (by decide) _).trans (rdF_wrF_other _ _ _ _ _ _ (by decide))
  have hfirst : first = false := by
    show (!d.pnl.measured) = false
    rw [hmeasured]
    rfl
  refine ⟨d5, by rw [hfirst, hband]; rfl, rdF_wrF_of_lt _ _ _ (by decide) (by decide), ?_, hband, rfl, rfl⟩
  exact (rdF_wrF_other _ _ _ _ _ _ (by decide)).trans (rdF_wrF_of_lt _ _ _ (by decide) code.isLt)

end

/-! Contrast voltage and crack loop (R451, R463) -/

section
variable {d : Dev}

theorem vfltNext_iff (was fault : Bool) (v set : Nat) : vfltNext was fault v set = true ↔
    if fault then was = true ∨ set < 20 * ((v : Int) - set).natAbs else was = true ∧ set < 50 * ((v : Int) - set).natAbs := by
  cases fault <;> simp [vfltNext]

/-- What a judged contrast voltage shows. -/
theorem pnlVflt_shows (fault : Bool) (vmeas : BitVec 16) {now : Bool}
    (hnow : now = vfltNext (d.rdF R.PNL_STAT F.PNL_STAT_VFLT == 1) fault vmeas.toNat (d.rdF R.PNL_VLCD F.PNL_VLCD_VSETP)) :
    (d.pnlVflt fault vmeas).rdF R.PNL_STAT F.PNL_STAT_VFLT = b2n now ∧
    (d.pnlVflt fault vmeas).rdF R.PNL_VLCD F.PNL_VLCD_VMEAS = vmeas.toNat ∧
    (now = true → d.rdF R.PNL_STAT F.PNL_STAT_VFLT = 0 → (d.pnlVflt fault vmeas).rdF R.PNL_STAT F.PNL_STAT_VFLTSEEN = 1 ∧
      (d.pnlVflt fault vmeas).evPending 243 = true) ∧ (d.pnlVflt fault vmeas).pnl = d.pnl := by
  unfold Dev.pnlVflt
  extract_lets was flt d1 d2
  have hflt : flt = now := hnow.symm
  have hset : d2.rdF R.PNL_STAT F.PNL_STAT_VFLT = b2n now := by
    rw [← hflt]
    exact rdF_wrF_bool _ _ _ (by decide) (by decide) _
  have hmeas : d2.rdF R.PNL_VLCD F.PNL_VLCD_VMEAS = vmeas.toNat :=
    (rdF_wrF_other _ _ _ _ _ _ (by decide)).trans (rdF_wrF_of_lt _ _ _ (by decide) vmeas.isLt)
  split
  case isTrue h =>
    refine ⟨(rdF_flagEv_apart d2 (by decide) 21 243 _ (by decide) (by decide)).trans hset,
      (rdF_flagEv_other d2 (by decide) (by decide) 21 243 _).trans hmeas,
      fun _ _ => ⟨rdF_flagEv_same d2 (by decide) (by decide) 243, evPending_flagEv_same d2 _ 21 (by decide)⟩, ?_⟩
    simp only [happen_frame, flagEv_frame]
    rfl
  case isFalse h =>
    refine ⟨hset, hmeas, fun hn h0 => absurd ⟨hflt.trans hn, ?_⟩ h, rfl⟩
    simp [was, h0]

/-- The panel after the judgement of a crack sample, before its outcome. -/
def Dev.crackCounted (d : Dev) (rcrk : BitVec 16) : Dev :=
  let bad := decide (rcrk.toNat > 10 * d.image.panl.crkr)
  (d.wrF R.PNL_MEAS F.PNL_MEAS_RCRK rcrk.toNat).setPnl (fun p => { p with
    crackBad := if bad then satInc 2 p.crackBad else 0, crackGood := if bad then 0 else satInc 2 p.crackGood })

theorem pCrack_eq (hon : d.rdF R.PNL_CTRL F.PNL_CTRL_STATE = 2) (rcrk : BitVec 16) : (d.pCrack rcrk).1 =
    if (d.crackCounted rcrk).pnl.crackBad = 2 ∧ ¬ (d.crackCounted rcrk).rdF R.PNL_STAT F.PNL_STAT_CRACK = 1 then
      (((d.crackCounted rcrk).wrF R.PNL_STAT F.PNL_STAT_CRACK 1).flagEv R.PNL_STAT 23 242).happen
        (sysEntry 0x0030 (leBytes 2 rcrk.toNat))
    else if (d.crackCounted rcrk).pnl.crackGood = 2 ∧ (d.crackCounted rcrk).rdF R.PNL_STAT F.PNL_STAT_CRACK = 1 then
      (d.crackCounted rcrk).wrF R.PNL_STAT F.PNL_STAT_CRACK 0
    else d.crackCounted rcrk := by
  unfold Dev.pCrack
  rw [if_neg (by simp [hon])]
  extract_lets d1 bad d2 on
  have hd2 : d2 = d.crackCounted rcrk := rfl
  unfold on
  rw [hd2]
  split
  · rfl
  · split <;> rfl

theorem pnlCrack_eq (hstop : d.image.panl.crkstop = false) (himage : ((d.pCrack v).1).image = d.image) :
    d.pnlCrack v = (d.pCrack v).1 := by
  unfold Dev.pnlCrack
  extract_lets x e
  have he : e.image = d.image := himage
  exact if_neg (by simp [he, hstop])

theorem image_pCrack (hon : d.rdF R.PNL_CTRL F.PNL_CTRL_STATE = 2) (rcrk : BitVec 16) : (d.pCrack rcrk).1.image = d.image := by
  rw [pCrack_eq hon]
  split
  · simp only [happen_frame, flagEv_frame]
    rfl
  · split <;> rfl

theorem crackCounted_shows (rcrk : BitVec 16) :
    (d.crackCounted rcrk).rdF R.PNL_STAT F.PNL_STAT_CRACK = d.rdF R.PNL_STAT F.PNL_STAT_CRACK ∧
    (d.crackCounted rcrk).rdF R.PNL_MEAS F.PNL_MEAS_RCRK = rcrk.toNat :=
  ⟨rdF_wrF_other _ _ _ _ _ _ (by decide), rdF_wrF_of_lt _ _ _ (by decide) rcrk.isLt⟩

theorem satInc_two {v : Nat} (h1 : 1 ≤ v) (h2 : v ≤ 2) : satInc 2 v = 2 := by
  rw [satInc_eq]
  omega

theorem pnlCrack_sets (hon : d.rdF R.PNL_CTRL F.PNL_CTRL_STATE = 2) (hstop : d.image.panl.crkstop = false) {rcrk : BitVec 16}
    (hbad : 10 * d.image.panl.crkr < rcrk.toNat) (h1 : 1 ≤ d.pnl.crackBad) (h2 : d.pnl.crackBad ≤ 2)
    (h0 : d.rdF R.PNL_STAT F.PNL_STAT_CRACK = 0) : (d.pnlCrack rcrk).rdF R.PNL_STAT F.PNL_STAT_CRACK = 1 ∧
    (d.pnlCrack rcrk).evPending 242 = true ∧ (d.pnlCrack rcrk).rdF R.PNL_MEAS F.PNL_MEAS_RCRK = rcrk.toNat := by
  obtain ⟨hcrack, hmeas⟩ := crackCounted_shows (d := d) rcrk
  have hcount : (d.crackCounted rcrk).pnl.crackBad = 2 := by
    show (if decide (rcrk.toNat > 10 * d.image.panl.crkr) then satInc 2 d.pnl.crackBad else 0) = 2
    rw [if_pos (by simpa using hbad), satInc_two h1 h2]
  rw [pnlCrack_eq hstop (image_pCrack hon rcrk), pCrack_eq hon, if_pos ⟨hcount, by rw [hcrack, h0]; decide⟩]
  refine ⟨(rdF_flagEv_apart _ (by decide) 23 242 _ (by decide) (by decide)).trans (rdF_wrF_of_lt _ _ _ (by decide) (by decide)),
    evPending_flagEv_same _ _ 23 (by decide), ?_⟩
  exact (rdF_flagEv_other _ (by decide) (by decide) 23 242 _).trans ((rdF_wrF_other _ _ _ _ _ _ (by decide)).trans hmeas)

theorem pnlCrack_first (hon : d.rdF R.PNL_CTRL F.PNL_CTRL_STATE = 2) (hstop : d.image.panl.crkstop = false) {rcrk : BitVec 16}
    (hbad : 10 * d.image.panl.crkr < rcrk.toNat) (h0 : d.pnl.crackBad = 0) :
    (d.pnlCrack rcrk).rdF R.PNL_STAT F.PNL_STAT_CRACK = d.rdF R.PNL_STAT F.PNL_STAT_CRACK ∧
    (d.pnlCrack rcrk).pnl.crackBad = 1 ∧ (d.pnlCrack rcrk).pnl.crackGood = 0 := by
  obtain ⟨hcrack, -⟩ := crackCounted_shows (d := d) rcrk
  have hcount : (d.crackCounted rcrk).pnl.crackBad = 1 := by
    show (if decide (rcrk.toNat > 10 * d.image.panl.crkr) then satInc 2 d.pnl.crackBad else 0) = 1
    rw [if_pos (by simpa using hbad), h0]
    rfl
  have hgood : (d.crackCounted rcrk).pnl.crackGood = 0 := by
    show (if decide (rcrk.toNat > 10 * d.image.panl.crkr) then 0 else satInc 2 d.pnl.crackGood) = 0
    rw [if_pos (by simpa using hbad)]
  rw [pnlCrack_eq hstop (image_pCrack hon rcrk), pCrack_eq hon, if_neg (by omega), if_neg (by omega)]
  exact ⟨hcrack, hcount, hgood⟩

theorem pnlCrack_clears (hon : d.rdF R.PNL_CTRL F.PNL_CTRL_STATE = 2) (hstop : d.image.panl.crkstop = false) {rcrk : BitVec 16}
    (hok : rcrk.toNat ≤ 10 * d.image.panl.crkr) (h1 : 1 ≤ d.pnl.crackGood) (h2 : d.pnl.crackGood ≤ 2) :
    (d.pnlCrack rcrk).rdF R.PNL_STAT F.PNL_STAT_CRACK = 0 ∧ (d.pnlCrack rcrk).pnl.crackBad = 0 := by
  obtain ⟨hcrack, -⟩ := crackCounted_shows (d := d) rcrk
  have hcount : (d.crackCounted rcrk).pnl.crackBad = 0 := by
    show (if decide (rcrk.toNat > 10 * d.image.panl.crkr) then satInc 2 d.pnl.crackBad else 0) = 0
    rw [if_neg (by simpa using hok)]
  have hgood : (d.crackCounted rcrk).pnl.crackGood = 2 := by
    show (if decide (rcrk.toNat > 10 * d.image.panl.crkr) then 0 else satInc 2 d.pnl.crackGood) = 2
    rw [if_neg (by simpa using hok), satInc_two h1 h2]
  have hlt := rdF_lt (d.crackCounted rcrk) R.PNL_STAT F.PNL_STAT_CRACK
  rw [pnlCrack_eq hstop (image_pCrack hon rcrk), pCrack_eq hon, if_neg (by omega)]
  split
  · exact ⟨rdF_wrF_of_lt _ _ _ (by decide) (by decide), hcount⟩
  case isFalse h =>
    refine ⟨?_, hcount⟩
    have hne : (d.crackCounted rcrk).rdF R.PNL_STAT F.PNL_STAT_CRACK ≠ 1 := fun h1 => h ⟨hgood, h1⟩
    have hlt2 : (d.crackCounted rcrk).rdF R.PNL_STAT F.PNL_STAT_CRACK < 2 := hlt
    omega

end

section
variable {d : Dev} {r : Nat} (vlcd : BitVec 16)

/-- What the opening of a frame leaves of a region that does not run, and of what says whether regions may start. -/
theorem pOpened_region (hrun : d.pnl.runs.getD r none = none) : (d.pOpened vlcd).pPending r = d.pPending r ∧
    (d.pOpened vlcd).pnl.runs.getD r none = none ∧ (d.pOpened vlcd).pnl.runs.length = d.pnl.runs.length ∧
    (d.pOpened vlcd).rd R.PNL_STAT = d.rd R.PNL_STAT ∧ (d.pMayStart = true → (d.pOpened vlcd).pMayStart = true) := by
  obtain ⟨k, -⟩ := pOpened_keeps vlcd hrun
  obtain ⟨z, hz⟩ : ∃ z : Dev, z = d.wr R.PNL_FRAMECNT (d.rd R.PNL_FRAMECNT + 1) := ⟨_, rfl⟩
  have hother {a : Nat} (ha : a ≠ R.PNL_FRAMECNT) : z.rd a = d.rd a := by rw [hz, rd_wr_other _ _ _ _ ha]
  have hpnl : z.pnl = d.pnl := by rw [hz]; rfl
  rw [← hz] at k
  refine ⟨?_, by rw [k.run, hpnl, hrun], by rw [k.len, hpnl],
    (rd_of_full (k.fields.field_eq (by simp [frameFields]))).trans (hother (by decide)), fun hmay => mayStart_of_keeps k ?_⟩
  · rw [Dev.pPending, k.fields.field_eq (by simp [frameFields]), rdF_congr (hother (by decide)), ← Dev.pPending]
  · simpa only [Dev.pMayStart, rdF_congr (hother (a := R.PNL_CTRL) (by decide)), rdF_congr (hother (a := R.PNL_STAT) (by decide)),
      hpnl] using hmay

/-- What a frame counts and measures. -/
theorem pnlFrame_counts (hon : d.rdF R.PNL_CTRL F.PNL_CTRL_STATE = 2) (hband : d.pnl.bandNext = none)
    (hnreg : d.image.panl.nreg ≤ 16) (hlen : d.pnl.runs.length = 16) :
    (d.pnlFrame vlcd).rd R.PNL_FRAMECNT = d.rd R.PNL_FRAMECNT + 1 ∧
    (d.pnlFrame vlcd).rdF R.PNL_VLCD F.PNL_VLCD_VMEAS = vlcd.toNat := by
  have hnone : d.pnl.runs.getD 16 none = none := getD_of_length_le _ _ (by omega)
  obtain ⟨k, hmeas⟩ := pOpened_keeps vlcd hnone
  have hall (q : Nat) (hq : q ∈ List.range d.image.panl.nreg) : q < 16 := Nat.lt_of_lt_of_le (List.mem_range.1 hq) hnreg
  have kframe := foldl_pTurn_keeps (fun q hq => ⟨frameFields_apart (r := 16) (hall q hq) (Nat.ne_of_lt (hall q hq)),
    Nat.ne_of_lt (hall q hq)⟩) k
  have kmeas := foldl_pTurn_keeps (fun q hq => ⟨vmeas_apart (hall q hq), Nat.ne_of_lt (hall q hq)⟩) (.refl _ 16 (d.pOpened vlcd))
  rw [pnlFrame_eq vlcd hon hband hlen]
  exact ⟨(rd_of_full (kframe.fields.field_eq (by simp [frameFields]))).trans (rd_wr_same _ _ _),
    (kmeas.fields.field_eq (by simp)).trans hmeas⟩

end

/-- Settles O51: a frame by its opening and the turns of its pending regions, an update by its end, requests by their region,
and the band, the contrast voltage and the crack loop by what each sample writes. -/
theorem panelRegions : Obligations.PanelRegions := by
  unfold Obligations.PanelRegions
  refine ⟨⟨fun s vlcd hup hon hband hnreg hlen => ?_, fun s vlcd hoff => exec_keeps (f := fun d => d.pnlFrame vlcd) rfl (if_pos hoff),
    fun s r x hup hlen hx hnodup hes => ⟨fun hdone => ?_, fun hearly => ?_⟩, fun s k e es hup hlen hq => ?_⟩,
    fun s code hup hmeasured => ⟨fun hout => ?_, fun hlo hhi => ?_⟩, fun s fault vmeas hup => ?_, fun s rcrk hup hon hstop =>
      ⟨fun hbad h1 h2 h0 => ?_, fun hbad h0 => ?_, fun hok h1 h2 => ?_⟩⟩
  · refine completes_of_up hup (f := fun d => d.pnlFrame vlcd) rfl ?_
    obtain ⟨hcount, hmeas⟩ := pnlFrame_counts vlcd hon hband hnreg hlen
    refine ⟨hcount, hmeas, fun r hr hpend hrun => ?_⟩
    obtain ⟨hpend', hrun', hlen', hstat, hmay'⟩ := pOpened_region vlcd hrun
    rw [pnlFrame_eq vlcd hon hband hlen]
    refine ⟨fun hmay => ?_, fun hstop => ?_⟩
    · have hstarts := foldl_pTurn_starts hnreg hr (hlen'.trans hlen) (hpend'.trans hpend) hrun' (hmay' hmay)
      rwa [rdF_congr hstat] at hstarts
    · have hrefused : (s.dev.pOpened vlcd).pMayStart = false := mayStart_refused (by rw [rdF_congr hstat, rdF_congr hstat]; exact hstop)
      rw [foldl_pTurn_refused _ hrefused]
      exact ⟨hpend'.trans hpend, hrun'⟩
  · refine completes_of_up hup (f := fun d => d.pnlComplete r.val) rfl ?_
    have hcomplete : s.dev.pnlComplete r.val = s.dev.pDone r.val x := by
      rw [Dev.pnlComplete, hx]
      exact if_pos hdone
    rw [hcomplete]
    exact pDone_shows r.isLt (by omega) hnodup hes
  · refine exec_keeps (f := fun d => d.pnlComplete r.val) rfl ?_
    rw [Dev.pnlComplete, hx]
    exact if_neg (by omega)
  · refine completes_of_up hup (f := fun d => d.pnlRequest k.val) rfl ?_
    have hk : 56 + k.val < s.dev.queues.q.length := by omega
    have hrequest : s.dev.pnlRequest k.val = (s.dev.pop (56 + k.val)).pConsume (56 + k.val) e.bytes := by rw [Dev.pnlRequest, hq]
    have hqueue (q : Nat) : (s.dev.pnlRequest k.val).queue q = (s.dev.pop (56 + k.val)).queue q := by
      rw [hrequest, Dev.queue, queues_pConsume, ← Dev.queue]
    have hcontent (hk02 : k = 0 ∨ k = 2) : s.dev.pnlRequest k.val = if s.dev.pMaint (byteAt e.bytes 0) then s.dev.pop (56 + k.val)
        else (s.dev.pop (56 + k.val)).pPend (byteAt e.bytes 0) true := by
      rw [hrequest, pConsume_content (by rcases hk02 with h | h <;> rw [h] <;> decide) (by rcases hk02 with h | h <;> rw [h] <;> decide)]
      rfl
    refine ⟨?_, fun q hne => (hqueue q).trans (queue_pop_other _ hne), fun hk02 hr hmaint => ?_, fun hk02 hr hmaint => ?_⟩
    · rw [hqueue, queue_pop_same (by rw [hq]; exact List.cons_ne_nil _ _), hq, List.tail_cons]
    · rw [hcontent hk02, hmaint, if_neg (by decide)]
      exact ⟨pPending_pPend hr, rfl⟩
    · rw [hcontent hk02, hmaint, if_pos rfl]
      exact ⟨rfl, rfl⟩
  · exact completes_of_up hup (f := fun d => d.pnlTpan code) rfl (pnlTpan_fault hmeasured hout)
  · intro b
    refine completes_of_up hup (f := fun d => d.pnlTpan code) rfl ?_
    obtain ⟨e, heq, htp, hcode, hband, hruns, himage⟩ := pnlTpan_good hmeasured hlo hhi
    obtain ⟨hkeep, hmeas⟩ := pBand_keeps (d := e) b
    rw [heq]
    refine ⟨hkeep.trans htp, (rdF_congr hmeas _).trans hcode, fun hne hidle => ?_, fun hne hrunning => ?_⟩
    · have hadopt : e.pBand b = e.pAdopt b := by
        rw [Dev.pBand, hband, hruns, if_neg hne, hidle, if_neg (by decide)]
      obtain ⟨hb, hpend, hset, hev, hok, -, -⟩ := pAdopt_shows (d := e) b
      rw [himage] at hset
      rw [hadopt]
      exact ⟨hb, hpend, hset, hev, hok⟩
    · have hwait : e.pBand b = (e.wrF R.PNL_STAT F.PNL_STAT_BANDPEND 1).setPnl (fun p => { p with bandNext := some b }) := by
        rw [Dev.pBand, hband, hruns, if_neg hne, hrunning, if_pos rfl]
      rw [hwait]
      exact ⟨(rdF_wrF_apart _ _ _ _ (by decide) _).trans hband, rdF_wrF_of_lt _ _ _ (by decide) (by decide), rfl⟩
  · refine completes_of_up hup (f := fun d => d.pnlVflt fault vmeas) rfl ?_
    intro off set was now
    have hnow : vfltNext (s.dev.rdF R.PNL_STAT F.PNL_STAT_VFLT == 1) fault vmeas.toNat (s.dev.rdF R.PNL_VLCD F.PNL_VLCD_VSETP) = decide now := by
      rw [Bool.eq_iff_iff, vfltNext_iff, decide_eq_true_iff, beq_iff_eq]
    obtain ⟨hset, hmeas, hflag, hpnl⟩ := pnlVflt_shows (d := s.dev) fault vmeas hnow.symm
    exact ⟨hset, hmeas, fun hn => hflag (decide_eq_true hn), hpnl⟩
  · exact completes_of_up hup (f := fun d => d.pnlCrack rcrk) rfl (pnlCrack_sets hon hstop hbad h1 h2 h0)
  · exact completes_of_up hup (f := fun d => d.pnlCrack rcrk) rfl (pnlCrack_first hon hstop hbad h0)
  · exact completes_of_up hup (f := fun d => d.pnlCrack rcrk) rfl (pnlCrack_clears hon hstop hok h1 h2)

end Sys2Proof.Machine
end

section
/-!
PROOFS. The backup dome (chapter 16).
-/
namespace Sys2Proof.Machine

/-! Signed fields (R432) -/

/-- A number that fits a signed field is what its pattern says. -/
theorem signed_pattern {w : Nat} {z : Int} (hw : 0 < w) (hlow : -(2 ^ (w - 1) : Nat) ≤ z) (hhigh : z < (2 ^ (w - 1) : Nat)) :
    signed w (pattern w z) = z := by
  have hpow : 2 ^ w = 2 * 2 ^ (w - 1) := (Nat.two_pow_pred_mul_two hw).symm.trans (Nat.mul_comm _ _)
  unfold signed pattern
  rw [hpow]
  generalize 2 ^ (w - 1) = m at hlow hhigh
  have hmod : (z % ((2 * m : Nat) : Int)) = if 0 ≤ z then z else z + (2 * m : Nat) := by
    split
    · exact Int.emod_eq_of_lt (by omega) (by omega)
    · rw [← Int.add_emod_right, Int.emod_eq_of_lt (by omega) (by omega)]
  rw [hmod]
  split
  · rw [Nat.mod_eq_of_lt (by omega)]
    simp only
    split <;> omega
  · rw [Nat.mod_eq_of_lt (by omega)]
    simp only
    split <;> omega

theorem pattern_lt (w : Nat) (z : Int) : pattern w z < 2 ^ w := by
  have hpos : (0 : Int) < (2 ^ w : Nat) := by exact_mod_cast Nat.two_pow_pos w
  have h := Int.emod_lt_of_pos z hpos
  have h0 := Int.emod_nonneg z (Int.ne_of_gt hpos)
  unfold pattern
  omega

/-- A field of 16 bits holds a signed number from -32768 to 32767. -/
theorem signed_bounds {w : Nat} (hw : 0 < w) (n : Nat) :
    -(2 ^ (w - 1) : Nat) ≤ signed w n ∧ signed w n < (2 ^ (w - 1) : Nat) := by
  have hpow : 2 ^ w = 2 * 2 ^ (w - 1) := (Nat.two_pow_pred_mul_two hw).symm.trans (Nat.mul_comm _ _)
  have hlt : n % 2 ^ w < 2 ^ w := Nat.mod_lt _ (Nat.two_pow_pos w)
  unfold signed
  simp only
  rw [hpow] at hlt ⊢
  generalize 2 ^ (w - 1) = m at hlt
  split <;> omega

/-! What the dome's events leave alone -/

/-- A step that at most makes events wait leaves the rest of the dome's state alone. -/
def DomWaits (d e : Dev) : Prop := ∃ evs, e.dom = { d.dom with later := evs }

section
variable {d e f : Dev}

theorem DomWaits.of_dom (h : e.dom = d.dom) : DomWaits d e := ⟨d.dom.later, by rw [h]⟩

theorem DomWaits.trans (h : DomWaits d e) (k : DomWaits e f) : DomWaits d f := by
  obtain ⟨evs, he⟩ := h
  obtain ⟨evs', hf⟩ := k
  exact ⟨evs', by rw [hf, he]⟩

theorem DomWaits.count_eq (h : DomWaits d e) : e.dom.count = d.dom.count := by
  obtain ⟨evs, he⟩ := h
  rw [he]

theorem DomWaits.lastTick_eq (h : DomWaits d e) : e.dom.lastTick = d.dom.lastTick := by
  obtain ⟨evs, he⟩ := h
  rw [he]

theorem DomWaits.slewDue_eq (h : DomWaits d e) : e.dom.slewDue = d.dom.slewDue := by
  obtain ⟨evs, he⟩ := h
  rw [he]

theorem DomWaits.phase_eq (h : DomWaits d e) : e.dom.phase = d.dom.phase := by
  obtain ⟨evs, he⟩ := h
  rw [he]

end

theorem domEvent_waits (d : Dev) (ev : Nat) : DomWaits d (d.domEvent ev) := by
  unfold Dev.domEvent
  split
  · split
    · exact .of_dom (by simp)
    · exact .of_dom (by simp)
  · exact ⟨_, rfl⟩

theorem domEvent_up {d : Dev} (hup : d.pwr.boot = 3) {ev : Nat} (hev : ev ≠ 232 ∧ ev ≠ 233) : d.domEvent ev = d.raise ev := by
  rw [Dev.domEvent, if_pos (by simp [Dev.powered, hup]), if_neg (by omega)]

theorem domEvent_alarm_up {d : Dev} (hup : d.pwr.boot = 3) {a : Nat} (ha : a < 2) :
    d.domEvent (232 + a) = d.flagEv R.DOM_STAT a (232 + a) := by
  rw [Dev.domEvent, if_pos (by simp [Dev.powered, hup]), if_pos (by omega), Nat.add_sub_cancel_left]

theorem domEvent_down {d : Dev} (hup : d.pwr.boot ≠ 3) (ev : Nat) :
    d.domEvent ev = d.setDom (fun x => { x with later := x.later ++ [ev] }) := if_neg (by simp [Dev.powered, hup])

/-- An event of the dome leaves every register of the dome but its status alone. -/
theorem rd_domEvent (d : Dev) (ev : Nat) {x : Nat} (hx : x < 0x170000) (hne : x ≠ R.DOM_STAT) : (d.domEvent ev).rd x = d.rd x := by
  unfold Dev.domEvent
  split
  · split
    · exact rd_flagEv_low_other d hx hne _ _
    · exact rd_raise_low d _ hx
  · rfl

/-! Alarms (R439, R440) -/

/-- An alarm is due: enabled, armed, and its time has come. -/
def AlarmDue (d : Dev) (a : Nat) : Prop :=
  d.rdF (R.DOM_ALMCFG a) F.DOM_ALMCFG_EN = 1 ∧ d.rdF (R.DOM_ALMCFG a) F.DOM_ALMCFG_ARMED = 1 ∧
    (almCmp d a : Int) ≤ almTime d a

/-- The marks of an alarm that fires. -/
def Dev.almMarked (d : Dev) (skipped : Bool) (a : Nat) : Dev :=
  d.wrFs (R.DOM_ALMCFG a) [(F.DOM_ALMCFG_ARMED, 0), (F.DOM_ALMCFG_FIRED, 1), (F.DOM_ALMCFG_SKIPPED, b2n skipped)]

theorem almTime_eq (d : Dev) (a : Nat) :
    (if getF F.DOM_ALMCFG_BASE (d.rd (R.DOM_ALMCFG a)) = 1 then d.domLocal else (d.dom.count : Int)) = almTime d a := by
  unfold almTime Dev.domLocal Dev.domZone Dev.rdF
  split
  · rfl
  · exact (Int.add_zero _).symm

section
variable {d : Dev} {a : Nat}

theorem domAlarm_due (h : AlarmDue d a) (skipped : Bool) :
    d.domAlarm skipped a = if skipped then ((d.almMarked skipped a).domEvent (232 + a)).domEvent 234
      else (d.almMarked skipped a).domEvent (232 + a) := by
  obtain ⟨hen, harmed, htime⟩ := h
  unfold Dev.domAlarm
  simp only [almTime_eq]
  exact if_pos ⟨hen, harmed, htime⟩

theorem domAlarm_not_due (h : ¬ AlarmDue d a) (skipped : Bool) : d.domAlarm skipped a = d := by
  unfold Dev.domAlarm
  simp only [almTime_eq]
  exact if_neg h

theorem rd_domAlarm (skipped : Bool) {x : Nat} (hx : x < 0x170000) (hstat : x ≠ R.DOM_STAT) (hcfg : x ≠ R.DOM_ALMCFG a) :
    (d.domAlarm skipped a).rd x = d.rd x := by
  by_cases h : AlarmDue d a
  · have hmark : ((d.almMarked skipped a).domEvent (232 + a)).rd x = d.rd x :=
      (rd_domEvent _ _ hx hstat).trans (rd_wr_other _ _ _ _ hcfg)
    rw [domAlarm_due h]
    split
    · exact (rd_domEvent _ _ hx hstat).trans hmark
    · exact hmark
  · rw [domAlarm_not_due h]

theorem domAlarm_waits (d : Dev) (skipped : Bool) (a : Nat) : DomWaits d (d.domAlarm skipped a) := by
  by_cases h : AlarmDue d a
  · have hmark : DomWaits d ((d.almMarked skipped a).domEvent (232 + a)) :=
      (DomWaits.of_dom rfl).trans (domEvent_waits (d.almMarked skipped a) _)
    rw [domAlarm_due h]
    split
    · exact hmark.trans (domEvent_waits _ _)
    · exact hmark
  · rw [domAlarm_not_due h]
    exact .of_dom rfl

theorem domAlarms_waits (d : Dev) (skipped : Bool) : DomWaits d (d.domAlarms skipped) :=
  (domAlarm_waits d skipped 0).trans (domAlarm_waits _ skipped 1)

/-- The marks of an alarm that has fired stand in its register. -/
theorem rdF_domAlarm_due (h : AlarmDue d a) (ha : a < 2) (skipped : Bool) :
    (d.domAlarm skipped a).rdF (R.DOM_ALMCFG a) F.DOM_ALMCFG_ARMED = 0 ∧
    (d.domAlarm skipped a).rdF (R.DOM_ALMCFG a) F.DOM_ALMCFG_FIRED = 1 ∧
    (d.domAlarm skipped a).rdF (R.DOM_ALMCFG a) F.DOM_ALMCFG_SKIPPED = b2n skipped := by
  have hlow : R.DOM_ALMCFG a < 0x170000 := by simp only [R.DOM_ALMCFG]; omega
  have hstat : R.DOM_ALMCFG a ≠ R.DOM_STAT := by simp only [R.DOM_ALMCFG, R.DOM_STAT]; omega
  have hrd : (d.domAlarm skipped a).rd (R.DOM_ALMCFG a) = (d.almMarked skipped a).rd (R.DOM_ALMCFG a) := by
    rw [domAlarm_due h]
    split
    · rw [rd_domEvent _ _ hlow hstat, rd_domEvent _ _ hlow hstat]
    · rw [rd_domEvent _ _ hlow hstat]
  simp only [Dev.rdF, hrd, Dev.almMarked, Dev.wrFs, rd_wr_same, List.foldl_cons, List.foldl_nil]
  generalize d.rd (R.DOM_ALMCFG a) = w
  refine ⟨?_, ?_, ?_⟩
  · rw [getF_putF_apart _ _ (by decide), getF_putF_apart _ _ (by decide), getF_putF _ (by decide)]
    rfl
  · rw [getF_putF_apart _ _ (by decide), getF_putF _ (by decide)]
    rfl
  · rw [getF_putF _ (by decide)]
    cases skipped <;> rfl

/-- ALARM_FIRE of a due alarm: its event, at once or at the next power-up (R439). -/
theorem domAlarm_fires (h : AlarmDue d a) (ha : a < 2) :
    (d.pwr.boot = 3 → (d.domAlarm false a).evPending (232 + a) = true ∧ (d.domAlarm false a).rdF R.DOM_STAT ⟨a, 1⟩ = 1) ∧
    (d.pwr.boot ≠ 3 → (d.domAlarm false a).dom.later = d.dom.later ++ [232 + a]) := by
  rw [domAlarm_due h, if_neg (by decide)]
  refine ⟨fun hup => ?_, fun hup => ?_⟩
  · rw [domEvent_alarm_up (d := d.almMarked false a) hup ha]
    exact ⟨evPending_flagEv_same _ _ _ (by omega), rdF_flagEv_same _ (by decide) (by omega) _⟩
  · rw [domEvent_down (d := d.almMarked false a) hup]
    rfl

/-- An alarm that is due at its arming is skipped, with EV234 (R440). -/
theorem evPending_domAlarm_skipped (h : AlarmDue d a) (ha : a < 2) (hup : d.pwr.boot = 3) :
    (d.domAlarm true a).evPending 234 = true := by
  rw [domAlarm_due h, if_pos rfl, domEvent_alarm_up (d := d.almMarked true a) hup ha, domEvent_up (by simpa [Dev.almMarked] using hup) (by decide)]
  exact evPending_raise_same _ (by decide)

end

/-- The alarm with its compare value written and armed. -/
def Dev.almArmed (d : Dev) (a : Nat) (hi : BitVec 16) : Dev :=
  (d.wrF (R.DOM_ALMCMP_HI a) F.DOM_ALMCMP_HI_C_HI hi.toNat).wrFs (R.DOM_ALMCFG a)
    [(F.DOM_ALMCFG_ARMED, 1), (F.DOM_ALMCFG_FIRED, 0)]

section
variable (d : Dev) {a : Nat} (hi : BitVec 16)

theorem rdF_almArmed_cfg (f : Field) :
    (d.almArmed a hi).rdF (R.DOM_ALMCFG a) f
      = getF f (putF F.DOM_ALMCFG_FIRED (putF F.DOM_ALMCFG_ARMED (d.rd (R.DOM_ALMCFG a)) 1) 0) := by
  have hne : R.DOM_ALMCFG a ≠ R.DOM_ALMCMP_HI a := by simp only [R.DOM_ALMCFG, R.DOM_ALMCMP_HI]; omega
  simp only [Dev.almArmed, Dev.wrFs, Dev.rdF, rd_wr_same, List.foldl_cons, List.foldl_nil, Dev.wrF, rd_wr_other _ _ _ _ hne]

theorem rdF_almArmed_other {x : Nat} (hcfg : x ≠ R.DOM_ALMCFG a) (hcmp : x ≠ R.DOM_ALMCMP_HI a) :
    (d.almArmed a hi).rd x = d.rd x :=
  (rd_wr_other _ _ _ _ hcfg).trans (rd_wr_other _ _ _ _ hcmp)

theorem almCmp_almArmed (a : Nat) :
    almCmp (d.almArmed a hi) a = (d.rd (R.DOM_ALMCMP_LO a)).toNat + 2 ^ 32 * hi.toNat := by
  have hlo : (d.almArmed a hi).rd (R.DOM_ALMCMP_LO a) = d.rd (R.DOM_ALMCMP_LO a) :=
    rdF_almArmed_other d hi (by simp only [R.DOM_ALMCFG, R.DOM_ALMCMP_LO]; omega)
      (by simp only [R.DOM_ALMCMP_HI, R.DOM_ALMCMP_LO]; omega)
  have hhi : (d.almArmed a hi).rdF (R.DOM_ALMCMP_HI a) F.DOM_ALMCMP_HI_C_HI = hi.toNat := by
    rw [Dev.almArmed, Dev.wrFs, rdF_congr (rd_wr_other _ _ _ _ (by simp only [R.DOM_ALMCFG, R.DOM_ALMCMP_HI]; omega))]
    exact rdF_wrF_of_lt d _ _ (by decide) hi.isLt
  rw [almCmp, hlo, hhi]

theorem almTime_almArmed : almTime (d.almArmed a hi) a = almTime d a := by
  have hzone : (d.almArmed a hi).rd R.DOM_ZONE = d.rd R.DOM_ZONE :=
    rdF_almArmed_other d hi (by simp only [R.DOM_ALMCFG, R.DOM_ZONE]; omega) (by simp only [R.DOM_ALMCMP_HI, R.DOM_ZONE]; omega)
  have hbase : (d.almArmed a hi).rdF (R.DOM_ALMCFG a) F.DOM_ALMCFG_BASE = d.rdF (R.DOM_ALMCFG a) F.DOM_ALMCFG_BASE := by
    rw [rdF_almArmed_cfg, getF_putF_apart _ _ (by decide), getF_putF_apart _ _ (by decide)]
    rfl
  rw [almTime, almTime, hbase, rdF_congr hzone]
  rfl

/-- An armed alarm is due when it is enabled and its time has come (R439). -/
theorem alarmDue_almArmed : AlarmDue (d.almArmed a hi) a ↔ d.rdF (R.DOM_ALMCFG a) F.DOM_ALMCFG_EN = 1 ∧
    (((d.rd (R.DOM_ALMCMP_LO a)).toNat + 2 ^ 32 * hi.toNat : Nat) : Int) ≤ almTime d a := by
  have hen : (d.almArmed a hi).rdF (R.DOM_ALMCFG a) F.DOM_ALMCFG_EN = d.rdF (R.DOM_ALMCFG a) F.DOM_ALMCFG_EN := by
    rw [rdF_almArmed_cfg, getF_putF_apart _ _ (by decide), getF_putF_apart _ _ (by decide)]
    rfl
  have harmed : (d.almArmed a hi).rdF (R.DOM_ALMCFG a) F.DOM_ALMCFG_ARMED = 1 := by
    rw [rdF_almArmed_cfg, getF_putF_apart _ _ (by decide), getF_putF _ (by decide)]
    rfl
  rw [AlarmDue, hen, harmed, almCmp_almArmed, almTime_almArmed]
  exact ⟨fun ⟨h, _, k⟩ => ⟨h, k⟩, fun ⟨h, k⟩ => ⟨h, rfl, k⟩⟩

/-- ALARM_ARM (R439, R440). -/
theorem domArm_spec (ha : a < 2) (hup : d.pwr.boot = 3) :
    let cmp := (d.rd (R.DOM_ALMCMP_LO a)).toNat + 2 ^ 32 * hi.toNat
    almCmp (d.domArm a hi) a = cmp ∧
    (d.rdF (R.DOM_ALMCFG a) F.DOM_ALMCFG_EN = 0 ∨ almTime d a < (cmp : Int) →
      (d.domArm a hi).rdF (R.DOM_ALMCFG a) F.DOM_ALMCFG_ARMED = 1 ∧
      (d.domArm a hi).rdF (R.DOM_ALMCFG a) F.DOM_ALMCFG_FIRED = 0) ∧
    (d.rdF (R.DOM_ALMCFG a) F.DOM_ALMCFG_EN = 1 → (cmp : Int) ≤ almTime d a →
      (d.domArm a hi).rdF (R.DOM_ALMCFG a) F.DOM_ALMCFG_ARMED = 0 ∧
      (d.domArm a hi).rdF (R.DOM_ALMCFG a) F.DOM_ALMCFG_FIRED = 1 ∧
      (d.domArm a hi).rdF (R.DOM_ALMCFG a) F.DOM_ALMCFG_SKIPPED = 1 ∧ (d.domArm a hi).evPending 234 = true) := by
  have harm : d.domArm a hi = (d.almArmed a hi).domAlarm true a := rfl
  refine ⟨?_, fun h => ?_, fun hen htime => ?_⟩
  · have hrd {x : Nat} (hx : x = R.DOM_ALMCMP_LO a ∨ x = R.DOM_ALMCMP_HI a) :
        (d.domArm a hi).rd x = (d.almArmed a hi).rd x := by
      simp only [R.DOM_ALMCMP_LO, R.DOM_ALMCMP_HI] at hx
      exact rd_domAlarm true (by omega) (by simp only [R.DOM_STAT]; omega) (by simp only [R.DOM_ALMCFG]; omega)
    rw [almCmp, hrd (.inl rfl), rdF_congr (hrd (.inr rfl))]
    exact almCmp_almArmed d hi a
  · have hnot : ¬ AlarmDue (d.almArmed a hi) a := by
      rw [alarmDue_almArmed]
      omega
    rw [harm, domAlarm_not_due hnot, rdF_almArmed_cfg, rdF_almArmed_cfg]
    exact ⟨by rw [getF_putF_apart _ _ (by decide), getF_putF _ (by decide)]; rfl, by rw [getF_putF _ (by decide)]; rfl⟩
  · have hdue : AlarmDue (d.almArmed a hi) a := (alarmDue_almArmed d hi).mpr ⟨hen, htime⟩
    obtain ⟨harmed, hfired, hskipped⟩ := rdF_domAlarm_due hdue ha true
    exact ⟨harmed, hfired, hskipped, evPending_domAlarm_skipped hdue ha hup⟩

end

/-! Changes of time that wait, and their refusal (R437, R442) -/

section
variable (d : Dev)

theorem dom_closeGate : d.closeGate.dom = d.dom := rfl

theorem wbWord_closeGate (a : Nat) : d.closeGate.wbWord a = d.wbWord a := rfl

theorem rdF_closeGate_other {a : Nat} (h : a ≠ R.SYS_KEYGATE) (f : Field) : d.closeGate.rdF a f = d.rdF a f :=
  rdF_congr (rd_closeGate_other d h) f

theorem holder_closeGate : d.closeGate.holder = d.holder := by
  have hrole : d.closeGate.role = d.role := rdF_closeGate_other d (by decide) _
  rw [Dev.holder, Dev.holder, hrole]

theorem domRefused_eq : d.domRefused = (d.flag R.DOM_STAT 3).raise 238 := rfl

theorem domWb_holder (h : d.holder = true) (sess a : Nat) (mask v : Word) : d.domWb sess a mask v = d.wbWrite a mask v sess :=
  if_pos h

theorem domWb_standby (h : d.holder = false) (sess a : Nat) (mask v : Word) :
    d.domWb sess a mask v = (d.flag R.DOM_STAT 3).raise 238 := if_neg (by simp [h])

theorem domSet_opener {sess : Nat} (h : d.GateFor sess) (hi : BitVec 16) :
    d.domSet sess hi = d.closeGate.domSetPassed sess hi := by
  rw [domSet_eq_gatedWrite, gatedWrite_opener h]

theorem domZoneWrite_opener {sess : Nat} (h : d.GateFor sess) (z : BitVec 12) :
    d.domZoneWrite sess z = d.closeGate.domWb sess R.DOM_ZONE 0xFFF (BitVec.ofNat 32 z.toNat) := by
  have hgated : d.domZoneWrite sess z
      = d.gatedWrite sess R.DOM_ZONE (fun d => d.domWb sess R.DOM_ZONE 0xFFF (BitVec.ofNat 32 z.toNat)) := rfl
  exact hgated.trans (gatedWrite_opener h _ _)

/-- A write that waits leaves the dome's state alone. -/
theorem dom_wbWrite (a : Nat) (mask v : Word) (sess : Nat) : (d.wbWrite a mask v sess).dom = d.dom := by
  unfold Dev.wbWrite
  split <;> rfl

theorem rdF_wbWrite_other {a x : Nat} (h : x ≠ a) (mask v : Word) (sess : Nat) (f : Field) :
    (d.wbWrite a mask v sess).rdF x f = d.rdF x f := by
  unfold Dev.wbWrite
  split
  · rfl
  · exact rdF_wrF_other d a x f _ _ h

end

section
variable {d : Dev}

/-- SET of a holder: the value waits for the latch (R437, R45). -/
theorem domSetPassed_holder (h : d.holder = true) (sess : Nat) (hi : BitVec 16) :
    (d.domSetPassed sess hi).wbWord R.DOM_SET_HI = some (hi.setWidth 32) ∧
    (d.domSetPassed sess hi).rdF R.DOM_SET_HI F.DOM_SET_HI_PEND
      = b2n (decide (d.wbWord R.DOM_SET_HI ≠ none ∨ hi.toNat ≠ d.rdF R.DOM_SET_HI F.DOM_SET_HI_S_HI)) ∧
    (d.domSetPassed sess hi).dom = { d.dom with setVal := (d.rd R.DOM_SET_LO).toNat + 2 ^ 32 * hi.toNat } := by
  unfold Dev.domSetPassed
  simp only [h, Bool.not_true, Bool.false_eq_true, if_false]
  refine ⟨?_, ?_, rfl⟩
  · simp [Dev.wbWord, BitVec.ofNat_toNat]
  · have hshows : ((d.wbWord R.DOM_SET_HI).isSome || hi.toNat != d.rdF R.DOM_SET_HI F.DOM_SET_HI_S_HI)
        = decide (d.wbWord R.DOM_SET_HI ≠ none ∨ hi.toNat ≠ d.rdF R.DOM_SET_HI F.DOM_SET_HI_S_HI) := by
      cases d.wbWord R.DOM_SET_HI <;> simp [bne, Bool.beq_eq_decide_eq]
    rw [← hshows]
    exact rdF_wrF_bool (d.setDom _) R.DOM_SET_HI F.DOM_SET_HI_PEND (by decide) (by decide) _

/-- A write of a field at the register's low end waits with PEND, unless it says what stands there (R45). -/
theorem domWb_low {a k v : Nat} {mask : Word} (h : d.holder = true) (hmask : mask = BitVec.ofNat 32 (2 ^ k - 1)) (hk : k ≤ 32)
    (hv : v < 2 ^ k) (sess : Nat) :
    (d.wbWord a ≠ none ∨ v ≠ d.rdF a ⟨0, k⟩ →
      (d.domWb sess a mask (BitVec.ofNat 32 v)).wbWord a = some (BitVec.ofNat 32 v) ∧
      (d.domWb sess a mask (BitVec.ofNat 32 v)).rdF a ⟨31, 1⟩ = 1 ∧ (d.domWb sess a mask (BitVec.ofNat 32 v)).dom = d.dom) ∧
    (d.wbWord a = none → v = d.rdF a ⟨0, k⟩ → d.domWb sess a mask (BitVec.ofNat 32 v) = d) := by
  subst hmask
  rw [domWb_holder d h]
  refine ⟨fun hnew => ?_, fun hnone hsame => ?_⟩
  · obtain ⟨hword, hrd⟩ := wbWrite_pends (d := d) (a := a) (value := BitVec.ofNat 32 v) (mask := BitVec.ofNat 32 (2 ^ k - 1))
      (fun hold => hnew.elim (fun hne => hne hold.1) (fun hne => lowMask_differs hk hv (Ne.symm hne) hold.2)) sess
    exact ⟨hword.trans (congrArg _ (and_lowMask hk hv)), (rdF_congr hrd _).trans (rdF_wrF_of_lt d a _ (by decide) (by decide)),
      dom_wbWrite d a _ _ sess⟩
  · refine if_pos ⟨hnone, and_lowMask_congr hk ?_⟩
    have hword : getF ⟨0, k⟩ (BitVec.ofNat 32 v) = v := by
      have hpow : 2 ^ k ≤ 2 ^ 32 := Nat.pow_le_pow_right (by decide) hk
      simp only [getF, BitVec.toNat_ofNat, Nat.pow_zero, Nat.div_one]
      rw [Nat.mod_eq_of_lt (Nat.lt_of_lt_of_le hv hpow), Nat.mod_eq_of_lt hv]
    exact hword.trans hsame

end

/-! The slew (R438) -/

section
variable (d : Dev)

theorem domRem_domSetRem {r : Int} (hlow : -32768 ≤ r) (hhigh : r < 32768) : (d.domSetRem r).domRem = r := by
  have hfield : (d.domSetRem r).rdF R.DOM_SLEW F.DOM_SLEW_REM = pattern 16 r :=
    rdF_wrF_of_lt d _ _ (by decide) (pattern_lt 16 r)
  rw [Dev.domRem, hfield]
  exact signed_pattern (by decide) hlow hhigh

theorem rd_domSetRem_other (r : Int) {x : Nat} (h : x ≠ R.DOM_SLEW) : (d.domSetRem r).rd x = d.rd x := rd_wr_other d _ _ _ h

theorem domRem_bounds : -32768 ≤ d.domRem ∧ d.domRem < 32768 := signed_bounds (by decide) _

/-- One increment of the count moves nothing else but alarms that it reaches (R432). -/
theorem domCount_waits : DomWaits (d.setDom (fun x => { x with count := (x.count + 1) % 2 ^ 48, lastInc := d.clk })) d.domCount :=
  domAlarms_waits _ false

theorem rd_domCount {x : Nat} (hx : x < 0x170000) (hstat : x ≠ R.DOM_STAT) (hcfg : x ≠ R.DOM_ALMCFG 0 ∧ x ≠ R.DOM_ALMCFG 1) :
    d.domCount.rd x = d.rd x :=
  (rd_domAlarm false hx hstat hcfg.2).trans (rd_domAlarm false hx hstat hcfg.1)

end

/-- The end of a slew is told (R438). -/
def Dev.slewEnd (d : Dev) : Dev := if d.domRem = 0 then d.domEvent 237 else d

section
variable {d : Dev}

theorem slewEnd_waits : DomWaits d d.slewEnd := by
  unfold Dev.slewEnd
  split
  · exact domEvent_waits d 237
  · exact .of_dom rfl

theorem domRem_slewEnd : d.slewEnd.domRem = d.domRem := by
  unfold Dev.slewEnd
  split
  · exact congrArg (signed 16) (rdF_congr (rd_domEvent d 237 (by decide) (by decide)) _)
  · rfl

theorem domSlew_idle (h : d.dom.runs = false ∨ d.dom.slewDue = false ∨ d.domRem = 0) : d.domSlew = d := by
  refine if_pos ?_
  rcases h with h | h | h <;> simp [h]

/-- A slew that is due moves the count by one, or withholds it by one (R438). -/
theorem domSlew_due (hruns : d.dom.runs = true) (hdue : d.dom.slewDue = true) (hrem : d.domRem ≠ 0) :
    d.domSlew = (if 0 < d.domRem
      then ((d.setDom (fun x => { x with slewDue := false })).domSetRem (d.domRem - 1)).domCount
      else ((d.setDom (fun x => { x with slewDue := false })).domSetRem (d.domRem + 1)).setDom
        (fun x => { x with phase := x.phase + 1 })).slewEnd := by
  unfold Dev.domSlew
  rw [if_neg (by simp [hruns, hdue, hrem])]
  rfl

/-- A slew on a positive remainder inserts an increment (R438). -/
theorem domSlew_positive (hruns : d.dom.runs = true) (hdue : d.dom.slewDue = true) (hrem : 0 < d.domRem) :
    d.domSlew.dom.count = (d.dom.count + 1) % 2 ^ 48 ∧ d.domSlew.dom.slewDue = false ∧ d.domSlew.domRem = d.domRem - 1 := by
  obtain ⟨d1, hd1⟩ : ∃ e, e = (d.setDom (fun x => { x with slewDue := false })).domSetRem (d.domRem - 1) := ⟨_, rfl⟩
  have hslew : d.domSlew = d1.domCount.slewEnd := by
    rw [domSlew_due hruns hdue (by omega), if_pos hrem, hd1]
  have hbounds := domRem_bounds d
  have hrem1 : d1.domRem = d.domRem - 1 := by
    rw [hd1]
    exact domRem_domSetRem _ (by omega) (by omega)
  have hremc : d1.domCount.domRem = d1.domRem :=
    congrArg (signed 16) (rdF_congr (rd_domCount d1 (by decide) (by decide) (by decide)) _)
  have hend : DomWaits d1.domCount d1.domCount.slewEnd := slewEnd_waits
  rw [hslew, domRem_slewEnd, hremc, hrem1, hend.count_eq, hend.slewDue_eq, (domCount_waits d1).count_eq, (domCount_waits d1).slewDue_eq, hd1]
  exact ⟨rfl, rfl, rfl⟩

/-- A slew on a negative remainder withholds the next increment (R438). -/
theorem domSlew_negative (hruns : d.dom.runs = true) (hdue : d.dom.slewDue = true) (hrem : d.domRem < 0) :
    d.domSlew.dom.count = d.dom.count ∧ d.domSlew.dom.phase = d.dom.phase + 1 ∧ d.domSlew.dom.slewDue = false ∧
    d.domSlew.domRem = d.domRem + 1 := by
  obtain ⟨d1, hd1⟩ : ∃ e, e = ((d.setDom (fun x => { x with slewDue := false })).domSetRem (d.domRem + 1)).setDom
    (fun x => { x with phase := x.phase + 1 }) := ⟨_, rfl⟩
  have hslew : d.domSlew = d1.slewEnd := by
    rw [domSlew_due hruns hdue (by omega), if_neg (by omega), hd1]
  have hbounds := domRem_bounds d
  have hrem1 : d1.domRem = d.domRem + 1 := by
    rw [hd1]
    exact domRem_domSetRem _ (by omega) (by omega)
  have hend : DomWaits d1 d1.slewEnd := slewEnd_waits
  rw [hslew, domRem_slewEnd, hrem1, hend.count_eq, hend.slewDue_eq, hend.phase_eq, hd1]
  exact ⟨rfl, rfl, rfl, rfl⟩

end

/-! Changes of time at the latch (R434, R435, R437) -/

/-- The count and the TICK as last copied stand. -/
def CountKept (d e : Dev) : Prop := e.dom.count = d.dom.count ∧ e.dom.lastTick = d.dom.lastTick

section
variable {d e f : Dev}

theorem CountKept.trans (h : CountKept d e) (k : CountKept e f) : CountKept d f := ⟨k.1.trans h.1, k.2.trans h.2⟩

theorem CountKept.of_dom (h : e.dom = d.dom) : CountKept d e := ⟨congrArg Dome.count h, congrArg Dome.lastTick h⟩

theorem DomWaits.countKept (h : DomWaits d e) : CountKept d e := ⟨h.count_eq, h.lastTick_eq⟩

theorem domRefused_countKept (d : Dev) : CountKept d d.domRefused := .of_dom (by simp [domRefused_eq])

theorem domMoveZone_countKept (d : Dev) (z : Int) (cause : Nat) : CountKept d (d.domMoveZone z cause) := by
  unfold Dev.domMoveZone
  split
  · exact domRefused_countKept d
  · exact ⟨rfl, rfl⟩

theorem wbDrop_countKept (d : Dev) (a : Nat) : CountKept d (d.wbDrop a) := ⟨rfl, rfl⟩

theorem domApplyZone_countKept (d : Dev) : CountKept d d.domApplyZone := by
  unfold Dev.domApplyZone
  split
  · exact .of_dom rfl
  · exact (wbDrop_countKept d R.DOM_ZONE).trans (domMoveZone_countKept _ _ _)

theorem domApplyHour_countKept (d : Dev) : CountKept d d.domApplyHour := by
  unfold Dev.domApplyHour
  split
  · exact .of_dom rfl
  · have hdrop := wbDrop_countKept d R.DOM_ZCMD
    extract_lets d1
    split
    · exact hdrop.trans (domMoveZone_countKept _ _ _)
    · split
      · exact hdrop.trans (domMoveZone_countKept _ _ _)
      · split
        · exact hdrop.trans (domRefused_countKept _)
        · exact hdrop

theorem domSetRem_countKept (d : Dev) (r : Int) : CountKept d (d.domSetRem r) := ⟨rfl, rfl⟩

theorem domApplyShift_countKept (d : Dev) : CountKept d d.domApplyShift := by
  unfold Dev.domApplyShift
  split
  · exact .of_dom rfl
  · extract_lets v old
    split
    · exact (wbDrop_countKept d R.DOM_SHIFT).trans (domRefused_countKept _)
    · have happly : CountKept d (d.wbApply R.DOM_SHIFT 0xFFFF) := .of_dom (by simp)
      exact happly.trans ((domSetRem_countKept _ v).trans ⟨rfl, rfl⟩)

/-- Without a SET the latch leaves the count, and TICK never falls (R435). -/
theorem domLatch_spec (h : d.wbWord R.DOM_SET_HI = none) :
    d.domLatch.dom.count = d.dom.count ∧ d.domLatch.dom.lastTick = max d.dom.count d.dom.lastTick := by
  unfold Dev.domLatch
  extract_lets d1 d2 d3 d4
  have hset : d1.domApplySet = d1 := if_pos h
  have h2 : CountKept d d2 :=
    CountKept.trans (e := d1) ⟨rfl, rfl⟩ (by simpa only [d2, hset] using (domApplyZone_countKept d1).trans (domApplyHour_countKept _))
  have h3 : CountKept d d3 := by
    unfold d3
    split
    · exact h2.trans (domAlarms_waits d2 true).countKept
    · exact h2
  obtain ⟨hcount, htick⟩ := h3.trans (domApplyShift_countKept d3)
  exact ⟨hcount, by rw [← hcount, ← htick]; rfl⟩

/-- The count loaded from the SET that waited. -/
def Dev.domLoaded (d : Dev) : Dev :=
  (d.wbApply R.DOM_SET_HI 0xFFFF).setDom (fun x =>
    { x with count := d.dom.setVal, changed := true, lastTick := d.dom.setVal, lastInc := d.clk, phase := 0 })

/-- The remainder and the marks of a lost time cleared, and the SET told. -/
def Dev.domSetTold (d : Dev) (e : Entry) : Dev :=
  (((d.domSetRem 0).wrFs R.DOM_STAT [(F.DOM_STAT_OSC_STOP, 0), (F.DOM_STAT_DOME_LOST, 0)]).flag R.DOM_STAT 2).happen e

theorem domApplySet_eq (h : d.wbWord R.DOM_SET_HI ≠ none) : ∃ e, d.domApplySet = d.domLoaded.domSetTold e := by
  unfold Dev.domApplySet
  rw [if_neg h]
  exact ⟨_, rfl⟩

theorem domSetTold_spec (d : Dev) (e : Entry) :
    (d.domSetTold e).dom.count = d.dom.count ∧ (d.domSetTold e).domTrusted = true ∧ (d.domSetTold e).domRem = 0 ∧
    (d.domSetTold e).wb = d.wb ∧ (d.domSetTold e).rdF R.DOM_STAT F.DOM_STAT_SETDONE = 1 := by
  obtain ⟨d2, hd2⟩ : ∃ e, e = (d.domSetRem 0).wrFs R.DOM_STAT [(F.DOM_STAT_OSC_STOP, 0), (F.DOM_STAT_DOME_LOST, 0)] := ⟨_, rfl⟩
  have htold : d.domSetTold e = (d2.flag R.DOM_STAT 2).happen e := by rw [hd2, Dev.domSetTold]
  have hrd (x : Nat) (f : Field) : ((d2.flag R.DOM_STAT 2).happen e).rdF x f = (d2.flag R.DOM_STAT 2).rdF x f := rfl
  have hstat (f : Field) : d2.rdF R.DOM_STAT f
      = getF f (putF F.DOM_STAT_DOME_LOST (putF F.DOM_STAT_OSC_STOP ((d.domSetRem 0).rd R.DOM_STAT) 0) 0) := by
    simp only [hd2, Dev.wrFs, Dev.rdF, rd_wr_same, List.foldl_cons, List.foldl_nil]
  have hslew : d2.rdF R.DOM_SLEW F.DOM_SLEW_REM = (d.domSetRem 0).rdF R.DOM_SLEW F.DOM_SLEW_REM := by
    rw [hd2]
    exact rdF_congr (rd_wr_other _ _ _ _ (by decide)) _
  have hsame : d2.dom.count = d.dom.count ∧ d2.wb = d.wb := by
    rw [hd2]
    exact ⟨rfl, rfl⟩
  rw [htold]
  refine ⟨hsame.1, ?_, ?_, hsame.2, (hrd _ _).trans (rdF_flag_same d2 _ (by decide))⟩
  · rw [Dev.domTrusted, hrd, hrd, rdF_flag_apart d2 R.DOM_STAT 2 _ (by decide) (by decide),
      rdF_flag_apart d2 R.DOM_STAT 2 _ (by decide) (by decide), hstat, hstat, getF_putF_apart _ _ (by decide),
      getF_putF _ (by decide), getF_putF _ (by decide)]
    rfl
  · rw [Dev.domRem, hrd, rdF_flag_other d2 _ _ _ _ (by decide), hslew]
    exact domRem_domSetRem d (by decide) (by decide)

/-- A SET applied loads the count and makes the time trusted (R434, R437). -/
theorem domApplySet_spec (h : d.wbWord R.DOM_SET_HI ≠ none) :
    d.domApplySet.dom.count = d.dom.setVal ∧ d.domApplySet.domTrusted = true ∧ d.domApplySet.domRem = 0 ∧
    d.domApplySet.wbWord R.DOM_SET_HI = none ∧ d.domApplySet.rdF R.DOM_STAT F.DOM_STAT_SETDONE = 1 := by
  obtain ⟨v, hv⟩ := Option.ne_none_iff_exists'.mp h
  obtain ⟨e, he⟩ := domApplySet_eq h
  obtain ⟨hcount, htrusted, hrem, hwb, hdone⟩ := domSetTold_spec d.domLoaded e
  have hword : d.domLoaded.wbWord R.DOM_SET_HI = none := by
    have happly : (d.wbApply R.DOM_SET_HI 0xFFFF).wbWord R.DOM_SET_HI = none := by
      rw [wbApply_some hv]
      exact wbWord_wbDrop_same _ _
    exact happly
  rw [he]
  exact ⟨hcount, htrusted, hrem, by rwa [Dev.wbWord, hwb], hdone⟩

end

/-- A ZONE outside its range is refused, and one inside it becomes the zone (R437). -/
theorem domMoveZone_spec (d : Dev) (z : Int) (cause : Nat) :
    (z < -1440 ∨ 1440 < z → d.domMoveZone z cause = d.domRefused) ∧
    (-1440 ≤ z → z ≤ 1440 → (d.domMoveZone z cause).domZone = z) := by
  refine ⟨fun h => if_pos h, fun hlow hhigh => ?_⟩
  have hfield : (d.domMoveZone z cause).rdF R.DOM_ZONE F.DOM_ZONE_ZONE = pattern 12 z := by
    unfold Dev.domMoveZone
    rw [if_neg (by omega)]
    exact rdF_wrF_of_lt d _ _ (by decide) (pattern_lt 12 z)
  have hwide : -(2 ^ (12 - 1) : Nat) ≤ z ∧ z < (2 ^ (12 - 1) : Nat) := by
    rw [show (2 ^ (12 - 1) : Nat) = 2048 from rfl]
    omega
  rw [Dev.domZone, hfield]
  exact signed_pattern (by decide) hwide.1 hwide.2

/-! Supply, retention, the crystal (R431, R433) -/

section
variable {d : Dev}

theorem powered_up (hup : d.pwr.boot = 3) : d.powered = true := by simp [Dev.powered, hup]

/-- The stop of the crystal is told while the die runs, and leaves the dome alone. -/
theorem domStopped_spec (d : Dev) : d.domStopped.dom = d.dom ∧
    (∀ a, a < 0x170000 → a ≠ R.SYS_CLKSTAT → d.domStopped.rd a = d.rd a) ∧
    (d.pwr.boot = 3 → d.domStopped.rdF R.SYS_CLKSTAT ⟨9, 1⟩ = 1 ∧ d.domStopped.evPending 4 = true ∧ d.domStopped.evPending 239 = true) := by
  obtain ⟨e, he⟩ : ∃ e, e = d.domUntrust := ⟨_, rfl⟩
  rw [Dev.domStopped, ← he]
  split
  · refine ⟨by simp, fun a ha hne => (rd_raise_low (d.flagEv R.SYS_CLKSTAT 9 4) 239 ha).trans (rd_flagEv_low_other d ha hne 9 4),
      fun _ => ⟨?_, ?_, ?_⟩⟩
    · exact (rdF_raise_low (d.flagEv R.SYS_CLKSTAT 9 4) 239 (by decide) _).trans (rdF_flagEv_same d (by decide) (by decide) 4)
    · exact evPending_raise_of (d := d.flagEv R.SYS_CLKSTAT 9 4) (by decide) (.inr (evPending_flagEv_same d _ _ (by decide)))
    · exact evPending_raise_same (d.flagEv R.SYS_CLKSTAT 9 4) (by decide)
  next h => exact ⟨rfl, fun _ _ _ => rfl, fun hup => absurd (powered_up hup) h⟩

/-- OSC_STOP: the count holds, and the stop is told once (R433). -/
theorem oscStop_spec (d : Dev) : d.oscStop.rdF R.DOM_STAT F.DOM_STAT_OSC_STOP = 1 ∧ d.oscStop.dom.runs = false ∧
    d.oscStop.dom.count = d.dom.count ∧
    d.oscStop.rdF R.DOM_STAT F.DOM_STAT_DOME_LOST = d.rdF R.DOM_STAT F.DOM_STAT_DOME_LOST ∧
    (d.pwr.boot = 3 → d.rdF R.DOM_STAT F.DOM_STAT_OSC_STOP = 0 → d.oscStop.rdF R.SYS_CLKSTAT ⟨9, 1⟩ = 1 ∧
      d.oscStop.evPending 4 = true ∧ d.oscStop.evPending 239 = true) := by
  unfold Dev.oscStop
  extract_lets was d1
  obtain ⟨hdom, hrd, htold⟩ := domStopped_spec d1
  have hstop : d1.rdF R.DOM_STAT F.DOM_STAT_OSC_STOP = 1 := rdF_wrF_of_lt d _ _ (by decide) (by decide)
  have hlost : d1.rdF R.DOM_STAT F.DOM_STAT_DOME_LOST = d.rdF R.DOM_STAT F.DOM_STAT_DOME_LOST :=
    rdF_wrF_apart d _ _ _ (by decide) _
  have hstat := hrd R.DOM_STAT (by decide) (by decide)
  split
  next h => exact ⟨hstop, rfl, rfl, hlost, fun _ h0 => absurd h (by simp [was, h0])⟩
  · exact ⟨(rdF_congr hstat _).trans hstop, by rw [hdom]; rfl, by rw [hdom]; rfl, (rdF_congr hstat _).trans hlost,
      fun hup _ => htold hup⟩

end

/-- Registers set to zero. -/
theorem rd_foldl_clear (as : List Nat) (d : Dev) (a : Nat) :
    (as.foldl (fun d a => d.wr a 0) d).rd a = if a ∈ as then 0 else d.rd a := by
  induction as generalizing d with
  | nil => rfl
  | cons b bs ih =>
    rw [List.foldl_cons, ih]
    by_cases hab : a = b
    · simp [hab, rd_wr_same]
    · rw [rd_wr_other d b a 0 hab]
      simp [hab]

/-- A device with registers set to zero. -/
def Dev.cleared (d : Dev) (as : List Nat) : Dev := as.foldl (fun d a => d.wr a 0) d

theorem dom_cleared (as : List Nat) (d : Dev) : (d.cleared as).dom = d.dom := by
  induction as generalizing d with
  | nil => rfl
  | cons b bs ih => exact ih (d.wr b 0)

/-- The registers that a loss of retention clears as a whole. -/
def domClears : List Nat := (List.range 32).map R.DOM_BKP ++
  [R.DOM_ALMCFG 0, R.DOM_ALMCMP_LO 0, R.DOM_ALMCMP_HI 0, R.DOM_ALMCFG 1, R.DOM_ALMCMP_LO 1, R.DOM_ALMCMP_HI 1]

/-- The dome's state and time lost below retention. -/
def Dev.domForgets (d : Dev) : Dev :=
  (((d.wrFs R.DOM_STAT [(F.DOM_STAT_OSC_STOP, 1), (F.DOM_STAT_DOME_LOST, 1)]).setDom (fun x => { Dome.empty with
    runs := x.runs, lastInc := d.clk, lastTick := x.lastTick, setVal := x.setVal, load := x.load })).wrF
      R.DOM_ZONE F.DOM_ZONE_ZONE 0).domSetRem 0

theorem domLost_eq (d : Dev) : d.domLost = if (d.rdF R.DOM_STAT F.DOM_STAT_OSC_STOP == 1) then d.domForgets.cleared domClears
    else (d.domForgets.cleared domClears).domStopped := by
  have hclear : d.domForgets.cleared domClears = (List.range 2).foldl (fun d a =>
      ((d.wr (R.DOM_ALMCFG a) 0).wr (R.DOM_ALMCMP_LO a) 0).wr (R.DOM_ALMCMP_HI a) 0)
      ((List.range 32).foldl (fun d k => d.wr (R.DOM_BKP k) 0) d.domForgets) := by
    rw [Dev.cleared, domClears, List.foldl_append, List.foldl_map]
    rfl
  rw [hclear]
  rfl

theorem domForgets_spec (d : Dev) : d.domForgets.dom.count = 0 ∧ d.domForgets.domZone = 0 ∧ d.domForgets.domRem = 0 ∧
    d.domForgets.rdF R.DOM_STAT F.DOM_STAT_OSC_STOP = 1 ∧ d.domForgets.rdF R.DOM_STAT F.DOM_STAT_DOME_LOST = 1 := by
  obtain ⟨d1, hd1⟩ : ∃ e, e = (d.wrFs R.DOM_STAT [(F.DOM_STAT_OSC_STOP, 1), (F.DOM_STAT_DOME_LOST, 1)]).setDom (fun x =>
    { Dome.empty with runs := x.runs, lastInc := d.clk, lastTick := x.lastTick, setVal := x.setVal, load := x.load }) := ⟨_, rfl⟩
  have hforgets : d.domForgets = (d1.wrF R.DOM_ZONE F.DOM_ZONE_ZONE 0).domSetRem 0 := by rw [hd1, Dev.domForgets]
  have hstat (f : Field) : d.domForgets.rdF R.DOM_STAT f
      = getF f (putF F.DOM_STAT_DOME_LOST (putF F.DOM_STAT_OSC_STOP (d.rd R.DOM_STAT) 1) 1) := by
    have hrd : d1.rdF R.DOM_STAT f
        = (d.wrFs R.DOM_STAT [(F.DOM_STAT_OSC_STOP, 1), (F.DOM_STAT_DOME_LOST, 1)]).rdF R.DOM_STAT f := by rw [hd1]; rfl
    rw [hforgets, rdF_congr (rd_domSetRem_other (d1.wrF R.DOM_ZONE F.DOM_ZONE_ZONE 0) 0 (by decide)) f,
      rdF_wrF_other d1 _ _ _ _ _ (by decide), hrd]
    simp only [Dev.wrFs, Dev.rdF, rd_wr_same, List.foldl_cons, List.foldl_nil]
  have hzone : d.domForgets.rdF R.DOM_ZONE F.DOM_ZONE_ZONE = 0 := by
    rw [hforgets, rdF_congr (rd_domSetRem_other _ 0 (by decide)) _]
    exact rdF_wrF_of_lt d1 _ _ (by decide) (by decide)
  refine ⟨?_, ?_, ?_, ?_, ?_⟩
  · rw [hforgets, hd1]
    rfl
  · rw [Dev.domZone, hzone]
    rfl
  · rw [hforgets]
    exact domRem_domSetRem _ (by decide) (by decide)
  · rw [hstat, getF_putF_apart _ _ (by decide), getF_putF _ (by decide)]
    rfl
  · rw [hstat, getF_putF _ (by decide)]
    rfl

/-- Below retention everything is lost and both flags stand (R431). -/
theorem domLost_spec (d : Dev) : d.domLost.dom.count = 0 ∧ d.domLost.domZone = 0 ∧ d.domLost.domRem = 0 ∧
    d.domLost.rdF R.DOM_STAT F.DOM_STAT_OSC_STOP = 1 ∧ d.domLost.rdF R.DOM_STAT F.DOM_STAT_DOME_LOST = 1 ∧
    (∀ k, k < 32 → d.domLost.rd (R.DOM_BKP k) = 0) ∧ (∀ a, a < 2 → d.domLost.rd (R.DOM_ALMCFG a) = 0) := by
  obtain ⟨hdom, hrd, -⟩ := domStopped_spec (d.domForgets.cleared domClears)
  have hlostdom : d.domLost.dom = d.domForgets.dom := by
    rw [domLost_eq]
    split
    · exact dom_cleared _ _
    · exact hdom.trans (dom_cleared _ _)
  have hlost {a : Nat} (ha : a < 0x170000) (hclk : a ≠ R.SYS_CLKSTAT) :
      d.domLost.rd a = if a ∈ domClears then 0 else d.domForgets.rd a := by
    rw [domLost_eq, ← rd_foldl_clear domClears d.domForgets a]
    split
    · rfl
    · exact hrd a ha hclk
  have hkeep {a : Nat} (ha : a < 0x170000) (hclk : a ≠ R.SYS_CLKSTAT) (h : a ∉ domClears) (f : Field) :
      d.domLost.rdF a f = d.domForgets.rdF a f := rdF_congr (by rw [hlost ha hclk, if_neg h]) f
  obtain ⟨hcount, hzone, hrem, hstop, hflag⟩ := domForgets_spec d
  refine ⟨by rw [hlostdom, hcount], ?_, ?_, ?_, ?_, fun k hk => ?_, fun a ha => ?_⟩
  · rw [Dev.domZone, hkeep (by decide) (by decide) (by decide)]
    exact hzone
  · rw [Dev.domRem, hkeep (by decide) (by decide) (by decide)]
    exact hrem
  · rw [hkeep (by decide) (by decide) (by decide), hstop]
  · rw [hkeep (by decide) (by decide) (by decide), hflag]
  · have hmem : R.DOM_BKP k ∈ domClears := List.mem_append_left _ (List.mem_map_of_mem (List.mem_range.mpr hk))
    rw [hlost (by simp only [R.DOM_BKP]; omega) (by simp only [R.DOM_BKP, R.SYS_CLKSTAT]; omega), if_pos hmem]
  · have hmem : R.DOM_ALMCFG a ∈ domClears := by
      have ha : a = 0 ∨ a = 1 := by omega
      rcases ha with rfl | rfl <;> decide
    rw [hlost (by simp only [R.DOM_ALMCFG]; omega) (by simp only [R.DOM_ALMCFG, R.SYS_CLKSTAT]; omega), if_pos hmem]

section
variable (d : Dev)

/-- DOME_SUPPLY_SWITCH (R430, R445). -/
theorem domSupply_spec (onbat : Bool) : (d.domSupply onbat).rdF R.DOM_STAT F.DOM_STAT_ONBAT = b2n onbat ∧
    (d.domSupply onbat).dom = d.dom ∧
    (onbat = true → d.rdF R.DOM_STAT F.DOM_STAT_ONBAT = 0 → d.pwr.boot = 3 → (d.domSupply onbat).evPending 235 = true) := by
  unfold Dev.domSupply
  refine ⟨(rdF_congr (rd_raiseIf_low _ _ _ (by decide)) _).trans (rdF_wrF_bool d _ _ (by decide) (by decide) onbat), by simp, ?_⟩
  intro hon hwas hup
  exact evPending_raiseIf_true (by decide) (by simp [hon, hwas, powered_up (d := d) hup])

/-- BATLOW (R445). -/
theorem domBat_spec (vbat : BitVec 16) : (d.domBat vbat).rdF R.DOM_SUPPLY F.DOM_SUPPLY_VBAT = vbat.toNat ∧
    (d.domBat vbat).rdF R.DOM_STAT F.DOM_STAT_BATLOW = b2n (decide (vbat.toNat < 2200)) ∧
    (vbat.toNat < 2200 → d.rdF R.DOM_STAT F.DOM_STAT_BATLOW = 0 → (d.domBat vbat).evPending 236 = true) := by
  unfold Dev.domBat
  refine ⟨?_, ?_, fun hlow hwas => evPending_raiseIf_true (by decide) (by simp [hlow, hwas])⟩
  · refine (rdF_congr (rd_raiseIf_low _ _ _ (by decide)) _).trans ((rdF_wrF_other _ _ _ _ _ _ (by decide)).trans ?_)
    exact rdF_wrF_of_lt d _ _ (by decide) vbat.isLt
  · exact (rdF_congr (rd_raiseIf_low _ _ _ (by decide)) _).trans
      (rdF_wrF_bool (d.wrF R.DOM_SUPPLY F.DOM_SUPPLY_VBAT vbat.toNat) _ _ (by decide) (by decide) _)

end

/-! The capture (R436) -/

/-- The time stamps of the four channels, which a capture copies. -/
def Dev.stamped (d : Dev) : Dev := (List.range 4).foldl (fun d n => d.wr (R.DOM_CAPTSC n) (BitVec.ofNat 32 d.canTsc)) d

theorem rd_stamped (d : Dev) {x : Nat} (h : ∀ n, n < 4 → x ≠ R.DOM_CAPTSC n) : d.stamped.rd x = d.rd x := by
  unfold Dev.stamped
  refine (rd_wr_other _ _ x _ (h 3 (by decide))).trans ((rd_wr_other _ _ x _ (h 2 (by decide))).trans
    ((rd_wr_other _ _ x _ (h 1 (by decide))).trans (rd_wr_other d _ x _ (h 0 (by decide)))))

/-- What a capture holds of the time. -/
def Dev.capTime (d : Dev) : Dev :=
  (d.wr R.DOM_CAPTICK_LO (BitVec.ofNat 32 d.dom.count)).wrFs R.DOM_CAPTICK_HI
    [(F.DOM_CAPTICK_HI_FRAC, min 12206 (d.clk - d.dom.lastInc)), (F.DOM_CAPTICK_HI_T_HI, d.dom.count / 2 ^ 32)]

/-- What a capture holds of the turn's number. -/
def Dev.capNumber (d : Dev) : Dev :=
  (d.wr R.DOM_CAPTURN_LO (BitVec.ofNat 32 d.turn.number)).wrF R.DOM_CAPTURN_HI F.DOM_CAPTURN_HI_TURN_HI (d.turn.number / 2 ^ 32)

/-- A capture counted, with the position of PB0. -/
def Dev.capCount (d : Dev) : Dev :=
  d.wrFs R.DOM_CAPPB0 [(F.DOM_CAPPB0_CAPCNT, d.rdF R.DOM_CAPPB0 F.DOM_CAPPB0_CAPCNT + 1), (F.DOM_CAPPB0_POS, d.pb0)]

theorem capTime_spec (d : Dev) : d.capTime.rd R.DOM_CAPTICK_LO = BitVec.ofNat 32 d.dom.count ∧
    d.capTime.rdF R.DOM_CAPTICK_HI F.DOM_CAPTICK_HI_T_HI = d.dom.count / 2 ^ 32 % 65536 ∧
    d.capTime.rdF R.DOM_CAPTICK_HI F.DOM_CAPTICK_HI_FRAC = min 12206 (d.clk - d.dom.lastInc) ∧
    d.capTime.rd R.DOM_CAPPB0 = d.rd R.DOM_CAPPB0 ∧ d.capTime = { d with regs := d.capTime.regs } := by
  unfold Dev.capTime
  have hhi (f : Field) (w : Word) (v u : Nat) : ((d.wr R.DOM_CAPTICK_LO w).wrFs R.DOM_CAPTICK_HI
      [(F.DOM_CAPTICK_HI_FRAC, v), (F.DOM_CAPTICK_HI_T_HI, u)]).rdF R.DOM_CAPTICK_HI f
      = getF f (putF F.DOM_CAPTICK_HI_T_HI (putF F.DOM_CAPTICK_HI_FRAC ((d.wr R.DOM_CAPTICK_LO w).rd R.DOM_CAPTICK_HI) v) u) := by
    simp only [Dev.wrFs, Dev.rdF, rd_wr_same, List.foldl_cons, List.foldl_nil]
  refine ⟨(rd_wr_other _ _ _ _ (by decide)).trans (rd_wr_same d _ _), ?_, ?_,
    (rd_wr_other _ _ _ _ (by decide)).trans (rd_wr_other d _ _ _ (by decide)), rfl⟩
  · rw [hhi, getF_putF _ (by decide)]
    rfl
  · have hfrac : min 12206 (d.clk - d.dom.lastInc) < 2 ^ 14 := by omega
    rw [hhi, getF_putF_apart _ _ (by decide), getF_putF _ (by decide)]
    exact Nat.mod_eq_of_lt hfrac

theorem capNumber_spec (d : Dev) : d.capNumber.rd R.DOM_CAPTURN_LO = BitVec.ofNat 32 d.turn.number ∧
    d.capNumber.rdF R.DOM_CAPTURN_HI F.DOM_CAPTURN_HI_TURN_HI = d.turn.number / 2 ^ 32 % 65536 ∧
    (∀ x, x ≠ R.DOM_CAPTURN_LO → x ≠ R.DOM_CAPTURN_HI → d.capNumber.rd x = d.rd x) ∧
    d.capNumber = { d with regs := d.capNumber.regs } :=
  ⟨(rd_wr_other _ _ _ _ (by decide)).trans (rd_wr_same d _ _), rdF_wrF _ _ _ (by decide) _,
    fun _ h h' => (rd_wr_other _ _ _ _ h').trans (rd_wr_other d _ _ _ h), rfl⟩

theorem capCount_spec (d : Dev) :
    d.capCount.rdF R.DOM_CAPPB0 F.DOM_CAPPB0_CAPCNT = (d.rdF R.DOM_CAPPB0 F.DOM_CAPPB0_CAPCNT + 1) % 256 ∧
    (∀ x, x ≠ R.DOM_CAPPB0 → d.capCount.rd x = d.rd x) ∧ d.capCount = { d with regs := d.capCount.regs } := by
  unfold Dev.capCount
  generalize d.pb0 = p
  refine ⟨?_, fun x h => rd_wr_other d _ x _ h, rfl⟩
  simp only [Dev.wrFs, Dev.rdF, rd_wr_same, List.foldl_cons, List.foldl_nil]
  rw [getF_putF_apart _ _ (by decide), getF_putF _ (by decide)]
  rfl

theorem domCapture_eq (d : Dev) : d.domCapture = d.capTime.stamped.capNumber.capCount := rfl

/-- A capture holds the count, the turn number and one more CAPCNT. -/
theorem domCapture_spec (d : Dev) : d.domCapture.rd R.DOM_CAPTICK_LO = BitVec.ofNat 32 d.dom.count ∧
    d.domCapture.rdF R.DOM_CAPTICK_HI F.DOM_CAPTICK_HI_T_HI = d.dom.count / 2 ^ 32 % 65536 ∧
    d.domCapture.rdF R.DOM_CAPTICK_HI F.DOM_CAPTICK_HI_FRAC = min 12206 (d.clk - d.dom.lastInc) ∧
    d.domCapture.rd R.DOM_CAPTURN_LO = BitVec.ofNat 32 d.turn.number ∧
    d.domCapture.rdF R.DOM_CAPTURN_HI F.DOM_CAPTURN_HI_TURN_HI = d.turn.number / 2 ^ 32 % 65536 ∧
    d.domCapture.rdF R.DOM_CAPPB0 F.DOM_CAPPB0_CAPCNT = (d.rdF R.DOM_CAPPB0 F.DOM_CAPPB0_CAPCNT + 1) % 256 ∧
    d.domCapture = { d with regs := d.domCapture.regs } := by
  obtain ⟨hlo, hhi, hfrac, hcnt, htime⟩ := capTime_spec d
  rw [domCapture_eq]
  generalize d.capTime = d1 at hlo hhi hfrac hcnt htime
  have hstamp {x : Nat} (h : x < R.DOM_CAPTSC 0 ∨ R.DOM_CAPTSC 4 ≤ x) : d1.stamped.rd x = d1.rd x :=
    rd_stamped d1 fun n hn => by
      simp only [R.DOM_CAPTSC] at h ⊢
      omega
  have hframe : d1.stamped = { d with regs := d1.stamped.regs } := by
    rw [htime]
    rfl
  generalize d1.stamped = d2 at hstamp hframe
  obtain ⟨htlo, hthi, hnother, hnframe⟩ := capNumber_spec d2
  obtain ⟨hcount, hcother, hcframe⟩ := capCount_spec d2.capNumber
  have hturn : d2.turn = d.turn := by rw [hframe]
  have hrd {x : Nat} (h : x ≠ R.DOM_CAPPB0) (h' : x ≠ R.DOM_CAPTURN_LO) (h'' : x ≠ R.DOM_CAPTURN_HI)
      (h3 : x < R.DOM_CAPTSC 0 ∨ R.DOM_CAPTSC 4 ≤ x) : d2.capNumber.capCount.rd x = d1.rd x :=
    (hcother x h).trans ((hnother x h' h'').trans (hstamp h3))
  refine ⟨(hrd (by decide) (by decide) (by decide) (by decide)).trans hlo,
    (rdF_congr (hrd (by decide) (by decide) (by decide) (by decide)) _).trans hhi,
    (rdF_congr (hrd (by decide) (by decide) (by decide) (by decide)) _).trans hfrac,
    (hcother _ (by decide)).trans (htlo.trans (by rw [hturn])),
    (rdF_congr (hcother _ (by decide)) _).trans (hthi.trans (by rw [hturn])), ?_, ?_⟩
  · rw [hcount, rdF_congr (hnother _ (by decide) (by decide)), rdF_congr (hstamp (by decide)), rdF_congr hcnt]
  · rw [hcframe, hnframe, hframe]

/-! The obligation -/

/-- A write of the time registers leaves the zone and the remainder alone. -/
theorem rdF_domWb_apart {d : Dev} (h : d.holder = true) (sess a : Nat) (mask v : Word) {f : Field} (hf : f.lo + f.width ≤ 31) :
    (d.domWb sess a mask v).rdF a f = d.rdF a f := by
  rw [domWb_holder d h]
  unfold Dev.wbWrite
  split
  · rfl
  · exact rdF_wrF_apart d a f ⟨31, 1⟩ (.inl hf) 1

theorem domZone_domWb {d : Dev} (h : d.holder = true) (sess : Nat) (mask v : Word) :
    (d.domWb sess R.DOM_ZONE mask v).domZone = d.domZone :=
  congrArg (signed 12) (rdF_domWb_apart h sess _ mask v (by decide))

theorem domRem_domWb_shift {d : Dev} (h : d.holder = true) (sess : Nat) (mask v : Word) :
    (d.domWb sess R.DOM_SHIFT mask v).domRem = d.domRem := by
  rw [domWb_holder d h]
  exact congrArg (signed 16) (rdF_wbWrite_other d (by decide) mask v sess _)

section
variable {s : State}

/-- SET and ZONE of a device that runs the plant wait behind the gate; another device refuses them. -/
theorem gatedTimes (sess : Nat) (hup : s.Up) (hgate : s.dev.GateFor sess) :
    (∀ hi : BitVec 16, s.dev.holder = true → Completes (.set sess hi) s (fun d =>
       d.wbWord R.DOM_SET_HI = some (hi.setWidth 32) ∧ d.rdF R.DOM_SET_HI F.DOM_SET_HI_PEND
         = b2n (decide (s.dev.wbWord R.DOM_SET_HI ≠ none ∨ hi.toNat ≠ s.dev.rdF R.DOM_SET_HI F.DOM_SET_HI_S_HI)) ∧
       d.dom = { s.dev.dom with setVal := (s.dev.rd R.DOM_SET_LO).toNat + 2 ^ 32 * hi.toNat })) ∧
    (∀ z : BitVec 12, s.dev.holder = true →
       (s.dev.wbWord R.DOM_ZONE ≠ none ∨ z.toNat ≠ s.dev.rdF R.DOM_ZONE F.DOM_ZONE_ZONE →
         Completes (.zone sess z) s (fun d => d.wbWord R.DOM_ZONE = some (z.setWidth 32) ∧
           d.rdF R.DOM_ZONE F.DOM_ZONE_PEND = 1 ∧ d.dom = s.dev.dom ∧ d.domZone = s.dev.domZone)) ∧
       (s.dev.wbWord R.DOM_ZONE = none → z.toNat = s.dev.rdF R.DOM_ZONE F.DOM_ZONE_ZONE →
         exec (.zone sess z) s = .next (s.on s.dev.closeGate))) ∧
    (∀ (hi : BitVec 16) (z : BitVec 12), s.dev.holder = false →
       exec (.set sess hi) s = .next (s.on ((s.dev.closeGate.flag R.DOM_STAT 3).raise 238)) ∧
       exec (.zone sess z) s = .next (s.on ((s.dev.closeGate.flag R.DOM_STAT 3).raise 238))) := by
  have hrole := holder_closeGate s.dev
  refine ⟨fun hi hholder => ?_, fun z hholder => ?_, fun hi z hholder => ⟨?_, ?_⟩⟩
  · refine completes_of_up hup (f := fun d => d.domSet sess hi) rfl ?_
    simp only [domSet_opener s.dev hgate hi]
    have h := domSetPassed_holder (hrole.trans hholder) sess hi
    rwa [wbWord_closeGate, rdF_closeGate_other s.dev (by decide), rd_closeGate_other s.dev (by decide), dom_closeGate] at h
  · have hz : BitVec.ofNat 32 z.toNat = z.setWidth 32 := BitVec.ofNat_toNat 32 z
    have hfield := rdF_closeGate_other s.dev (a := R.DOM_ZONE) (by decide) F.DOM_ZONE_ZONE
    obtain ⟨hpends, hsame⟩ := domWb_low (d := s.dev.closeGate) (a := R.DOM_ZONE) (k := 12) (mask := 0xFFF) (hrole.trans hholder)
      (by decide) (by decide) z.isLt sess
    refine ⟨fun hnew => completes_of_up hup (f := fun d => d.domZoneWrite sess z) rfl ?_, fun hnone hold => ?_⟩
    · obtain ⟨hword, hpend, hdom⟩ := hpends (hnew.imp id fun h he => h (he.trans hfield))
      simp only [domZoneWrite_opener s.dev hgate z]
      refine ⟨hword.trans (congrArg some hz), hpend, hdom, ?_⟩
      exact (domZone_domWb (hrole.trans hholder) sess _ _).trans (congrArg (signed 12) hfield)
    · refine exec_of_up hup (f := fun d => d.domZoneWrite sess z) rfl ?_
      simp only [domZoneWrite_opener s.dev hgate z]
      exact hsame hnone (hold.trans hfield.symm)
  · refine exec_of_up hup (f := fun d => d.domSet sess hi) rfl ?_
    simp only [domSet_opener s.dev hgate hi]
    exact if_pos (by simp [hrole, hholder])
  · refine exec_of_up hup (f := fun d => d.domZoneWrite sess z) rfl ?_
    simp only [domZoneWrite_opener s.dev hgate z]
    exact domWb_standby _ (hrole.trans hholder) _ _ _ _

/-- Hour steps and SHIFT of a device that runs the plant wait; another device refuses them. -/
theorem plainTimes (v : BitVec 16) (hup : s.Up) :
    (s.dev.holder = true → s.dev.wbWord R.DOM_ZCMD ≠ none ∨ s.dev.rd R.DOM_ZCMD = 0 →
       Completes .hourAdd s (fun d => d.wbWord R.DOM_ZCMD = some 1 ∧ d.rdF R.DOM_ZCMD F.DOM_ZCMD_PEND = 1 ∧
         d.dom = s.dev.dom) ∧
       Completes .hourSub s (fun d => d.wbWord R.DOM_ZCMD = some 2 ∧ d.rdF R.DOM_ZCMD F.DOM_ZCMD_PEND = 1 ∧
         d.dom = s.dev.dom)) ∧
    (s.dev.holder = true → s.dev.wbWord R.DOM_SHIFT ≠ none ∨ v.toNat ≠ s.dev.rdF R.DOM_SHIFT F.DOM_SHIFT_SHIFT →
       Completes (.shift v) s (fun d => d.wbWord R.DOM_SHIFT = some (v.setWidth 32) ∧
         d.rdF R.DOM_SHIFT F.DOM_SHIFT_PEND = 1 ∧ d.dom = s.dev.dom ∧ d.domRem = s.dev.domRem)) ∧
    (s.dev.holder = false → ∀ c, c = .hourAdd ∨ c = .hourSub ∨ c = .shift v →
       exec c s = .next (s.on ((s.dev.flag R.DOM_STAT 3).raise 238))) := by
  refine ⟨fun hholder hnew => ?_, fun hholder hnew => ?_, fun hholder c hc => ?_⟩
  · have hdiffers {n : Nat} (hn : n ≠ 0) : s.dev.wbWord R.DOM_ZCMD ≠ none ∨ n ≠ s.dev.rdF R.DOM_ZCMD ⟨0, 2⟩ :=
      hnew.imp id fun h => by
        rw [Dev.rdF, h]
        exact hn
    exact ⟨completes_of_up hup (f := fun d => d.domZcmd 1) rfl
        ((domWb_low hholder (k := 2) (v := 1) (by decide) (by decide) (by decide) 0).1 (hdiffers (by decide))),
      completes_of_up hup (f := fun d => d.domZcmd 2) rfl
        ((domWb_low hholder (k := 2) (v := 2) (by decide) (by decide) (by decide) 0).1 (hdiffers (by decide)))⟩
  · refine completes_of_up hup (f := fun d => d.domShift v) rfl ?_
    obtain ⟨hword, hpend, hdom⟩ := (domWb_low (d := s.dev) (a := R.DOM_SHIFT) (k := 16) (mask := 0xFFFF) hholder (by decide)
      (by decide) v.isLt 0).1 hnew
    exact ⟨hword.trans (congrArg some (BitVec.ofNat_toNat 32 v)), hpend, hdom, domRem_domWb_shift hholder 0 _ _⟩
  · rcases hc with rfl | rfl | rfl
    · exact exec_of_up hup (f := fun d => d.domZcmd 1) rfl (domWb_standby _ hholder _ _ _ _)
    · exact exec_of_up hup (f := fun d => d.domZcmd 2) rfl (domWb_standby _ hholder _ _ _ _)
    · exact exec_of_up hup (f := fun d => d.domShift v) rfl (domWb_standby _ hholder _ _ _ _)

/-- SLEW_INCREMENT (R438). -/
theorem slewIncrements :
    (s.dev.dom.runs = true → s.dev.dom.slewDue = true → 0 < s.dev.domRem → Completes .slewIncrement s (fun d =>
       d.dom.count = (s.dev.dom.count + 1) % 2 ^ 48 ∧ d.dom.slewDue = false ∧ d.domRem = s.dev.domRem - 1)) ∧
    (s.dev.dom.runs = true → s.dev.dom.slewDue = true → s.dev.domRem < 0 → Completes .slewIncrement s (fun d =>
       d.dom.count = s.dev.dom.count ∧ d.dom.phase = s.dev.dom.phase + 1 ∧ d.dom.slewDue = false ∧
       d.domRem = s.dev.domRem + 1)) ∧
    (s.dev.dom.runs = false ∨ s.dev.dom.slewDue = false ∨ s.dev.domRem = 0 → exec .slewIncrement s = .next s) :=
  ⟨fun hruns hdue hrem => completes_of_onDev (f := fun d => d.domSlew) rfl (domSlew_positive hruns hdue hrem),
    fun hruns hdue hrem => completes_of_onDev (f := fun d => d.domSlew) rfl (domSlew_negative hruns hdue hrem),
    fun h => exec_onDev_keeps (f := fun d => d.domSlew) rfl (domSlew_idle h)⟩

/-- ALARM_FIRE (R439). -/
theorem alarmFires (a : Fin 2) :
    let cfg := R.DOM_ALMCFG a.val
    (s.dev.rdF cfg F.DOM_ALMCFG_EN = 1 → s.dev.rdF cfg F.DOM_ALMCFG_ARMED = 1 →
      (almCmp s.dev a.val : Int) ≤ almTime s.dev a.val → Completes (.alarmFire a) s (fun d =>
        d.rdF cfg F.DOM_ALMCFG_ARMED = 0 ∧ d.rdF cfg F.DOM_ALMCFG_FIRED = 1 ∧ d.rdF cfg F.DOM_ALMCFG_SKIPPED = 0 ∧
        (s.Up → d.evPending (232 + a.val) = true ∧ d.rdF R.DOM_STAT ⟨a.val, 1⟩ = 1) ∧
        (¬ s.Up → d.dom.later = s.dev.dom.later ++ [232 + a.val]))) ∧
    (s.dev.rdF cfg F.DOM_ALMCFG_EN = 0 ∨ s.dev.rdF cfg F.DOM_ALMCFG_ARMED = 0 ∨
      almTime s.dev a.val < (almCmp s.dev a.val : Int) → exec (.alarmFire a) s = .next s) := by
  refine ⟨fun hen harmed htime => completes_of_onDev (f := fun d => d.domAlarm false a.val) rfl ?_, fun h => ?_⟩
  · have hdue : AlarmDue s.dev a.val := ⟨hen, harmed, htime⟩
    obtain ⟨hoff, hfired, hskipped⟩ := rdF_domAlarm_due hdue a.isLt false
    exact ⟨hoff, hfired, hskipped, domAlarm_fires hdue a.isLt⟩
  · refine exec_onDev_keeps (f := fun d => d.domAlarm false a.val) rfl (domAlarm_not_due (fun hdue => ?_) false)
    obtain ⟨hen, harmed, htime⟩ := hdue
    rcases h with h | h | h
    · exact absurd (hen.symm.trans h) (by decide)
    · exact absurd (harmed.symm.trans h) (by decide)
    · omega

end

/-- Settles O50: each change of time by what it writes, the latch by what leaves the count alone, the alarms by whether
they are due. -/
theorem domeTime : Obligations.DomeTime := by
  unfold Obligations.DomeTime
  refine ⟨⟨fun s sess hup hgate => gatedTimes sess hup hgate, fun s v hup => plainTimes v hup,
    fun d h => domApplySet_spec h, fun d h => domLatch_spec h, fun d z cause => domMoveZone_spec d z cause,
    fun s => slewIncrements⟩, fun s onbat => ?_, fun s => ?_, fun s => ?_, fun _ => rfl, fun s a => alarmFires a,
    fun s a hi hup => ?_, fun s hup => ?_, fun s hup => ?_, fun s vbat hup => ?_⟩
  · obtain ⟨hbat, hdom, hev⟩ := domSupply_spec s.dev onbat
    exact completes_of_onDev (f := fun d => d.domSupply onbat) rfl ⟨hbat, hdom, hev⟩
  · exact completes_of_onDev (f := fun d => d.domLost) rfl (domLost_spec s.dev)
  · obtain ⟨hstop, hruns, hcount, hlost, htold⟩ := oscStop_spec s.dev
    exact completes_of_onDev (f := fun d => d.oscStop) rfl ⟨hstop, hruns, hcount, hlost, htold⟩
  · exact completes_of_up hup (f := fun d => d.domArm a.val hi) rfl (domArm_spec s.dev hi a.isLt hup)
  · exact completes_of_up hup (f := fun d => d.domCapture) rfl (domCapture_spec s.dev)
  · exact exec_of_up hup (f := fun d => d.domTickRead) rfl rfl
  · exact completes_of_up hup (f := fun d => d.domBat vbat) rfl (domBat_spec s.dev vbat)

end Sys2Proof.Machine
end

section
/-!
PROOFS. The Ivgan link (R353 to R357).
-/
namespace Sys2Proof.Machine

/-! Changes that leave fields of low registers alone -/

section
variable {l : List (Nat × Field)} {z d e : Dev}

theorem wrFs_keeps {a : Nat} (hoff : FieldsOff l a) (fs : List (Field × Nat)) (k : KeepsFields l z d) :
    KeepsFields l z (d.wrFs a fs) := wr_keeps hoff _ k

theorem flag_keeps {a : Nat} (hoff : FieldsOff l a) (b : Nat) (k : KeepsFields l z d) : KeepsFields l z (d.flag a b) :=
  wr_keeps hoff _ k

theorem flagEv_keeps (hl : FieldsPanel l) {a : Nat} (hoff : FieldsOff l a) (b n : Nat) (k : KeepsFields l z d) :
    KeepsFields l z (d.flagEv a b n) := raise_keeps hl n (flag_keeps hoff b k)

theorem KeepsFields.ite {c : Prop} [Decidable c] (h : KeepsFields l z d) (k : KeepsFields l z e) :
    KeepsFields l z (if c then d else e) := by
  split <;> assumption

theorem KeepsFields.foldl {α : Type} {f : Dev → α → Dev} {xs : List α} (k : KeepsFields l z d)
    (h : ∀ d x, x ∈ xs → KeepsFields l z d → KeepsFields l z (f d x)) : KeepsFields l z (xs.foldl f d) := by
  induction xs generalizing d with
  | nil => exact k
  | cons x t ih => exact ih (h d x List.mem_cons_self k) (fun d y hy => h d y (List.mem_cons_of_mem x hy))

end

/-! The loss of the link at an active (R357) -/

/-- A device without its link and its standby. -/
def Dev.linkDown (d : Dev) (next : Nat) : Dev :=
  (d.wrFs R.PAR_LNKSTAT [(F.PAR_LNKSTAT_LSTATE, next), (F.PAR_LNKSTAT_LANE0, 0), (F.PAR_LNKSTAT_LANE1, 0)]).setPair
    (fun p => { p with blocks := [], lostNow := d.linkUp, downAt := if d.linkUp then d.clk else p.downAt })

/-- What an active drops when its link goes. -/
def Dev.peerDropped (d : Dev) : Dev :=
  (({ (d.swapAbandon.setPair (fun p => { p with mirOut := none })).wrF R.VLT_STGSTAT F.VLT_STGSTAT_PEERRDY 0 with
      vault := { d.swapAbandon.vault with forward := none } }.setPair
    (fun p => { p with planned := none, plannedTurn := none })).wrF R.PAR_ROLE F.PAR_ROLE_PEERUP 0).happen (pairEntry 0x0005 [byteOf 3])

section
variable {d : Dev} (next : Nat)

theorem rd_linkDown_other {x : Nat} (h : x ≠ R.PAR_LNKSTAT) : (d.linkDown next).rd x = d.rd x := rd_wr_other _ _ _ _ h

theorem lstate_linkDown (h : next < 8) : (d.linkDown next).lstate = next := by
  have hrd : (d.linkDown next).rd R.PAR_LNKSTAT = putF F.PAR_LNKSTAT_LANE1 (putF F.PAR_LNKSTAT_LANE0
      (putF F.PAR_LNKSTAT_LSTATE (d.rd R.PAR_LNKSTAT) next) 0) 0 := rd_wr_same d _ _
  rw [Dev.lstate, Dev.rdF, hrd, getF_putF_apart _ _ (by decide), getF_putF_apart _ _ (by decide), getF_putF _ (by decide)]
  exact Nat.mod_eq_of_lt h

theorem linkGone_active (hup : d.linkUp = true) (hrole : d.role = 2) : d.linkGone next = (d.linkDown next).peerDropped := by
  have hkeep : ((({ ((d.linkDown next).swapAbandon.setPair (fun p => { p with mirOut := none })).wrF R.VLT_STGSTAT
      F.VLT_STGSTAT_PEERRDY 0 with vault := { (d.linkDown next).swapAbandon.vault with forward := none } } : Dev))).role = 2 := by
    have habandon : (d.linkDown next).swapAbandon.role = (d.linkDown next).role := by
      unfold Dev.swapAbandon
      split
      · exact rdF_wrF_other _ _ _ _ _ _ (by decide)
      · rfl
    refine (rdF_wrF_other _ _ _ _ _ _ (by decide)).trans (habandon.trans ?_)
    exact (rdF_congr (rd_linkDown_other next (by decide)) _).trans hrole
  unfold Dev.linkGone
  simp only [hup, Bool.not_true, Bool.false_eq_true, if_false]
  rw [Dev.linkDown, hup] at hkeep
  rw [Dev.peerDropped, Dev.linkDown, hup]
  exact if_pos hkeep

end

section
variable (d : Dev)

theorem rd_swapAbandon_other {x : Nat} (h : x ≠ R.VLT_STGSTAT) : d.swapAbandon.rd x = d.rd x := by
  unfold Dev.swapAbandon
  split
  · exact rd_wr_other _ _ _ _ h
  · rfl

theorem pair_swapAbandon : d.swapAbandon.pair = d.pair := by
  unfold Dev.swapAbandon
  split <;> rfl

theorem rd_peerDropped_other {x : Nat} (h : x ≠ R.VLT_STGSTAT) (h' : x ≠ R.PAR_ROLE) : d.peerDropped.rd x = d.rd x :=
  (rd_wr_other _ _ _ _ h').trans ((rd_wr_other _ _ _ _ h).trans (rd_swapAbandon_other d h))

theorem rdF_peerDropped_role {f : Field} (hf : f.lo + f.width ≤ 13 ∨ 14 ≤ f.lo) :
    d.peerDropped.rdF R.PAR_ROLE f = d.rdF R.PAR_ROLE f :=
  (rdF_wrF_apart _ _ _ _ hf _).trans (rdF_congr ((rd_wr_other _ _ _ _ (by decide)).trans (rd_swapAbandon_other d (by decide))) f)

theorem peerUp_peerDropped : d.peerDropped.peerUp = false := by
  have hfield : d.peerDropped.rdF R.PAR_ROLE F.PAR_ROLE_PEERUP = 0 := rdF_wrF_of_lt _ _ _ (by decide) (by decide)
  rw [Dev.peerUp, hfield]
  rfl

theorem blocks_peerDropped : d.peerDropped.pair.blocks = d.pair.blocks := by
  have h : d.swapAbandon.pair.blocks = d.pair.blocks := congrArg Pair.blocks (pair_swapAbandon d)
  exact h

theorem turn_peerDropped : d.peerDropped.turn = d.turn := swapAbandon_turn d

end

/-- LINK_LOST at an active: the loss counts and shows, and the link goes back to DETECT without a standby in service. -/
theorem linkLost_active {d : Dev} (hup : d.lstate = 5) (hrole : d.role = 2) :
    d.linkLost.lstate = 1 ∧ d.linkLost.rdF R.PAR_STAT F.PAR_STAT_LINKLOST = 1 ∧ d.linkLost.evPending 196 = true ∧
    d.linkLost.rdF R.PAR_LNKCNT F.PAR_LNKCNT_LOSSES = min 255 (d.rdF R.PAR_LNKCNT F.PAR_LNKCNT_LOSSES + 1) ∧
    d.linkLost.pair.blocks = [] ∧ d.linkLost.peerUp = false ∧ d.linkLost.role = 2 ∧ d.linkLost.turn = d.turn ∧
    (∀ x, x < 0x170000 → x ≠ R.VLT_STGSTAT → x ≠ R.PAR_ROLE → x ≠ R.PAR_LNKSTAT → x ≠ R.PAR_STAT → x ≠ R.PAR_LNKCNT →
      d.linkLost.rd x = d.rd x) := by
  have hlink : d.linkUp = true := by rw [Dev.linkUp, hup]; rfl
  obtain ⟨e, he⟩ : ∃ e, e = (d.incF R.PAR_LNKCNT F.PAR_LNKCNT_LOSSES).flagEv R.PAR_STAT 3 196 := ⟨_, rfl⟩
  have hlost : d.linkLost = e.linkGone 1 := by rw [Dev.linkLost, if_pos hlink, he]
  have hother {x : Nat} (hx : x < 0x170000) (hstat : x ≠ R.PAR_STAT) (hcnt : x ≠ R.PAR_LNKCNT) : e.rd x = d.rd x := by
    rw [he, rd_flagEv_low_other _ hx hstat]
    exact rd_wr_other d _ _ _ hcnt
  have herole : e.role = 2 := (rdF_congr (hother (by decide) (by decide) (by decide)) _).trans hrole
  have helink : e.linkUp = true := by
    rw [Dev.linkUp, Dev.lstate, rdF_congr (hother (by decide) (by decide) (by decide))]
    exact hlink
  have hturn : e.turn = d.turn := by rw [he]; simp
  have hstat : e.rdF R.PAR_STAT F.PAR_STAT_LINKLOST = 1 := by
    rw [he]
    exact rdF_flagEv_same _ (by decide) (by decide) _
  have hcnt : e.rdF R.PAR_LNKCNT F.PAR_LNKCNT_LOSSES = min 255 (d.rdF R.PAR_LNKCNT F.PAR_LNKCNT_LOSSES + 1) := by
    rw [he, rdF_flagEv_other _ (by decide) (by decide)]
    exact rdF_incF_byte d _ _ (by decide) rfl
  have hev : e.evPending 196 = true := by
    rw [he]
    exact evPending_flagEv_same _ _ _ (by decide)
  rw [hlost, linkGone_active 1 helink herole]
  have hrd {x : Nat} (hstg : x ≠ R.VLT_STGSTAT) (hpar : x ≠ R.PAR_ROLE) (hlnk : x ≠ R.PAR_LNKSTAT) :
      (e.linkDown 1).peerDropped.rd x = e.rd x := (rd_peerDropped_other _ hstg hpar).trans (rd_linkDown_other 1 hlnk)
  refine ⟨?_, (rdF_congr (hrd (by decide) (by decide) (by decide)) _).trans hstat,
    (evPending_congr (hrd (by decide) (by decide) (by decide))).trans hev,
    (rdF_congr (hrd (by decide) (by decide) (by decide)) _).trans hcnt, blocks_peerDropped _, peerUp_peerDropped _, ?_,
    (turn_peerDropped _).trans hturn, fun x hx h1 h2 h3 h4 h5 => (hrd h1 h2 h3).trans (hother hx h4 h5)⟩
  · exact (rdF_congr (rd_peerDropped_other _ (by decide) (by decide)) _).trans (lstate_linkDown 1 (by decide))
  · exact (rdF_peerDropped_role _ (by decide)).trans ((rdF_congr (rd_linkDown_other 1 (by decide)) _).trans herole)

/-- Without a dangerous fault a loss of the link has no further effect (R390). -/
theorem linkLostRow_safe {d : Dev} (hup : d.lstate = 5) (hrole : d.role = 2) (hdanger : d.danger = false) :
    d.linkLostRow = d.linkLost := by
  obtain ⟨-, -, -, -, -, -, -, -, hother⟩ := linkLost_active hup hrole
  have hsafe : d.linkLost.danger = false := by
    rw [Dev.danger, rdF_congr (hother _ (by decide) (by decide) (by decide) (by decide) (by decide) (by decide))]
    exact hdanger
  have hnone : d.linkLost.safeIfDanger = d.linkLost := if_neg (by simp [hsafe])
  unfold Dev.linkLostRow
  simp only [hnone, ite_self]

/-! Lanes and blocks (R355, R357) -/

section
variable {d : Dev}

theorem laneDegraded_other_up (hup : d.lstate = 5) (h0 : d.rdF R.PAR_LNKSTAT F.PAR_LNKSTAT_LANE0 = 1)
    (h1 : d.rdF R.PAR_LNKSTAT F.PAR_LNKSTAT_LANE1 = 1) :
    d.laneDegraded 0 = ((d.wrF R.PAR_LNKSTAT F.PAR_LNKSTAT_LANE0 0).flag R.PAR_STAT 4).raise 198 ∧
    d.laneDegraded 1 = ((d.wrF R.PAR_LNKSTAT F.PAR_LNKSTAT_LANE1 0).flag R.PAR_STAT 4).raise 198 := by
  have hlink : d.linkUp = true := by rw [Dev.linkUp, hup]; rfl
  constructor <;> simp [Dev.laneDegraded, hlink, h0, h1, Dev.flagEv]

theorem linkBlock_plain {q : Nat} {seq : BitVec 16} {ok : Bool} {bytes : List Byte} {ack : Option (BitVec 16)}
    (h : ok = false ∨ q ≠ 0 ∨ ack.isSome = true) : d.linkBlock q seq ok bytes ack = d.blockReceived q seq ok bytes ack := by
  have hbad : ¬ ((ok && ack.isNone && (d.lstate == 4 && d.pair.wantHash.isSome || (d.standby && d.linkUp && seq.toNat == d.pair.rxSeq)))
      && q == 0 && byteAt bytes 0 == 0x0D && decide (8 < bytes.length)) = true := by
    rcases h with h | h | h
    · simp [h]
    · simp [h]
    · simp [Option.isSome_iff_ne_none.mp h]
  exact if_neg hbad

/-- Resent blocks count in RESENDS, saturating. -/
theorem foldl_incF_resends {α : Type} (l : List α) (d : Dev) :
    (l.foldl (fun d _ => d.incF R.PAR_LNKCNT F.PAR_LNKCNT_RESENDS) d).rdF R.PAR_LNKCNT F.PAR_LNKCNT_RESENDS
      = min 65535 (d.rdF R.PAR_LNKCNT F.PAR_LNKCNT_RESENDS + l.length) ∧
    d.OnlyRegs (l.foldl (fun d _ => d.incF R.PAR_LNKCNT F.PAR_LNKCNT_RESENDS) d) [R.PAR_LNKCNT] := by
  induction l generalizing d with
  | nil =>
    have hlt : d.rdF R.PAR_LNKCNT F.PAR_LNKCNT_RESENDS < 65536 := rdF_lt d _ F.PAR_LNKCNT_RESENDS
    exact ⟨by simp only [List.foldl_nil, List.length_nil]; omega, onlyRegs_refl d _⟩
  | cons x xs ih =>
    obtain ⟨hcount, honly⟩ := ih (d.incF R.PAR_LNKCNT F.PAR_LNKCNT_RESENDS)
    have hinc : (d.incF R.PAR_LNKCNT F.PAR_LNKCNT_RESENDS).rdF R.PAR_LNKCNT F.PAR_LNKCNT_RESENDS
        = min 65535 (d.rdF R.PAR_LNKCNT F.PAR_LNKCNT_RESENDS + 1) := rdF_incF d _ _ (by decide)
    refine ⟨?_, onlyRegs_trans (onlyRegs_wr d _ _) honly⟩
    rw [List.foldl_cons, hcount, hinc, List.length_cons]
    omega

end

/-! A turn started by its set (R356) -/

/-- What no step of a fold changes. -/
theorem foldl_proj {α β : Type} (π : Dev → β) {f : Dev → α → Dev} (h : ∀ d x, π (f d x) = π d) (l : List α) (d : Dev) :
    π (l.foldl f d) = π d := by
  induction l generalizing d with
  | nil => rfl
  | cons x t ih => exact (ih (f d x)).trans (h d x)

section
variable (d : Dev)

@[simp] theorem pb0Wrap_turn : d.pb0Wrap.turn = d.turn := by simp [Dev.pb0Wrap, Dev.pb0Reach, Dev.addDue]

theorem timingClear_turn : d.timingClear.turn = { d.turn with clrMax := false } := by
  unfold Dev.timingClear
  split
  · rfl
  next h => rw [← eq_false_of_ne_true h]

@[simp] theorem uStart_turn (m k : Nat) : (d.uStart m k).turn = d.turn := by simp [Dev.uStart, Dev.setScan]

@[simp] theorem uinTurnStart_turn : d.uinTurnStart.turn = d.turn :=
  foldl_turn (fun d m => by simp [apply_ite Dev.turn, Dev.setScan]) _ d

@[simp] theorem fallbackSwitch_turn : d.fallbackSwitch.turn = d.turn :=
  foldl_turn (fun d m => by simp [apply_ite Dev.turn]) _ d

theorem timingClear_clk : d.timingClear.clk = d.clk := by
  unfold Dev.timingClear
  split <;> rfl

theorem acqStart_turn : d.acqStart.turn = { d.turn with since := d.clk } := by simp [Dev.acqStart, Dev.lopTurnStart]

/-- The start of a turn gives it its number and its time, and takes the turn in hand out of hand (R9). -/
theorem turnBegin_turn (n : Nat) : (d.turnBegin n).turn =
    { d.turn with
      number := n, prev := d.turn.run.filter (fun r => r.phase == .completed), run := none, clrMax := false, since := d.clk } := by
  simp [Dev.turnBegin, acqStart_turn, timingClear_turn, timingClear_clk, Dev.pb0Wrap, Dev.pb0Reach, Dev.addDue]

end

/-- The fields of a list lie in the registers of the pair, the watchtower, the vault and the dome. -/
def FieldsPair (l : List (Nat × Field)) : Prop := ∀ x ∈ l, 0x120000 ≤ x.1 ∧ x.1 < 0x160000

section
variable {l : List (Nat × Field)} {z d : Dev}

theorem FieldsPair.panel (hl : FieldsPair l) : FieldsPanel l := fun x hx => Nat.lt_trans (hl x hx).2 (by decide)

theorem FieldsPair.off (hl : FieldsPair l) {a : Nat} (ha : a < 0x120000 ∨ 0x160000 ≤ a) : FieldsOff l a := fun x hx h => by
  have := hl x hx
  omega

theorem setScan_keeps (hl : FieldsPair l) {m : Nat} (hm : m < 4) (f : UScan → UScan) (k : KeepsFields l z d) :
    KeepsFields l z (d.setScan m f) := by
  obtain ⟨e, he⟩ : ∃ e, e = { d with uin := { d.uin with scans := upd d.uin.scans m f } } := ⟨_, rfl⟩
  have hset : d.setScan m f = e.wrFs (R.UIN_SCSTAT m) [(F.UIN_SCSTAT_STEP, (e.scan m).step), (F.UIN_SCSTAT_PHASE, (e.scan m).shown)] := by
    rw [he, Dev.setScan]
  have ke : KeepsFields l z e := by
    rw [he]
    exact k.of_regs rfl
  rw [hset]
  exact wrFs_keeps (hl.off (.inl (by simp only [R.UIN_SCSTAT]; omega))) _ ke

theorem acqStart_keeps (hl : FieldsPair l) (k : KeepsFields l z d) : KeepsFields l z d.acqStart := by
  have hswitch (e : Dev) : e.fallbackSwitch.regs = e.regs := by
    unfold Dev.fallbackSwitch
    exact foldl_proj Dev.regs (fun d m => by simp only [apply_ite Dev.regs, Dev.setBase, ite_self]) _ e
  have huin (e : Dev) (ke : KeepsFields l z e) : KeepsFields l z e.uinTurnStart :=
    KeepsFields.foldl ke fun d m hm kd => KeepsFields.ite
      (setScan_keeps hl (List.mem_range.mp hm) _ (setScan_keeps hl (List.mem_range.mp hm) _ kd)) kd
  unfold Dev.acqStart
  extract_lets now
  have hstart := huin (d.setTurn (fun t => { t with since := now })) (k.of_regs rfl)
  generalize (d.setTurn (fun t => { t with since := now })).uinTurnStart = e at hstart
  exact KeepsFields.of_regs (KeepsFields.of_regs hstart (e := e.lopTurnStart) rfl) (hswitch _)

theorem timingClear_keeps (hl : FieldsPair l) (k : KeepsFields l z d) : KeepsFields l z d.timingClear := by
  unfold Dev.timingClear
  split
  · exact KeepsFields.of_regs (wrFs_keeps (hl.off (.inl (by decide))) _ k) rfl
  · exact k

/-- The start of a turn writes the turn number and the maxima, and raises EV0. -/
theorem turnBegin_keeps (hl : FieldsPair l) (n : Nat) (k : KeepsFields l z d) : KeepsFields l z (d.turnBegin n) := by
  unfold Dev.turnBegin
  extract_lets d1 d2
  have h1 : KeepsFields l z d1 := k.of_regs rfl
  have hnum : KeepsFields l z (d1.wr R.SYS_TURNNUM_LO (BitVec.ofNat 32 n)) := wr_keeps (hl.off (.inl (by decide))) _ h1
  have h2 : KeepsFields l z d2 := KeepsFields.of_regs hnum rfl
  clear_value d2
  exact raise_keeps hl.panel 0 (acqStart_keeps hl (timingClear_keeps hl h2))

theorem wbDrop_keeps {a : Nat} (hclear : FieldsClear l a ⟨31, 1⟩) (k : KeepsFields l z d) : KeepsFields l z (d.wbDrop a) :=
  (wrF_keeps hclear 0 k).of_regs rfl

theorem FieldsOff.clear {a : Nat} (h : FieldsOff l a) (g : Field) : FieldsClear l a g := fun x hx hxa => absurd hxa (h x hx)

/-- What a latch of host levels does: the register written, and an override told. -/
theorem hostsetLatch_cases (d : Dev) (reg31 : Bool) : d.hostsetLatch reg31 = d ∨
    (∃ w, d.hostsetLatch reg31 = (d.wbDrop (hostsetReg reg31)).wr (hostsetReg reg31) w) ∨
    ∃ w e, d.hostsetLatch reg31 = (((d.wbDrop (hostsetReg reg31)).wr (hostsetReg reg31) w).flagEv R.DIO_STAT 2 119).happen e := by
  cases h : d.wbWord (hostsetReg reg31) with
  | none => exact .inl (by simp only [Dev.hostsetLatch, h])
  | some v =>
    refine .inr ?_
    simp only [Dev.hostsetLatch, h]
    split
    · exact .inl ⟨_, rfl⟩
    · exact .inr ⟨_, _, rfl⟩

theorem hostsetLatch_keeps (hl : FieldsPair l) (reg31 : Bool) (k : KeepsFields l z d) : KeepsFields l z (d.hostsetLatch reg31) := by
  have hreg : FieldsOff l (hostsetReg reg31) := hl.off (.inl (by cases reg31 <;> decide))
  have hwr (w : Word) : KeepsFields l z ((d.wbDrop (hostsetReg reg31)).wr (hostsetReg reg31) w) :=
    wr_keeps hreg w (wbDrop_keeps (hreg.clear _) k)
  rcases hostsetLatch_cases d reg31 with h | ⟨w, h⟩ | ⟨w, e, h⟩ <;> rw [h]
  · exact k
  · exact hwr w
  · exact (flagEv_keeps hl.panel (hl.off (.inl (by decide))) 2 119 (hwr w)).of_regs rfl

theorem loLatch_keeps (hl : FieldsPair l) {n : Nat} (hn : n < 4) (sel : Nat) (k : KeepsFields l z d) :
    KeepsFields l z (d.loLatch n sel).1 := by
  have hset : FieldsOff l (R.LOP_OSET n) := hl.off (.inl (by simp only [R.LOP_OSET]; omega))
  unfold Dev.loLatch
  split
  · exact k
  · extract_lets sess d1
    have h1 : KeepsFields l z d1 := wbDrop_keeps (hset.clear _) k
    split
    · exact wrF_keeps (hset.clear _) _ h1
    · exact flagEv_keeps hl.panel (hl.off (.inl (by simp only [R.LOP_OSTS]; omega))) 22 106 h1

/-- The host's writes at the latch write registers of the outputs alone. -/
theorem hostWrites_keeps (hl : FieldsPair l) (k : KeepsFields l z d) : KeepsFields l z d.hostWrites := by
  refine KeepsFields.foldl (hostsetLatch_keeps hl true (hostsetLatch_keeps hl false k)) fun d n hn kd => ?_
  have hlatch := loLatch_keeps hl (List.mem_range.mp hn) (d.lo n).sel kd
  extract_lets x
  split
  · exact hlatch.of_regs rfl
  · exact hlatch

theorem send63_keeps (hl : FieldsPanel l) (bytes : List Byte) (k : KeepsFields l z d) : KeepsFields l z (d.send63 bytes) :=
  KeepsFields.ite (push_keeps hl 63 bytes none k) k

theorem sendHappenings_keeps (hl : FieldsPanel l) (k : KeepsFields l z d) : KeepsFields l z d.sendHappenings := by
  unfold Dev.sendHappenings
  split
  · exact KeepsFields.of_regs (KeepsFields.foldl k fun d _ _ kd => send63_keeps hl _ kd) rfl
  · exact k

end

section
variable (d : Dev)

@[simp] theorem uStart_pair (m k : Nat) : (d.uStart m k).pair = d.pair := by simp [Dev.uStart, Dev.setScan]

@[simp] theorem uinTurnStart_pair : d.uinTurnStart.pair = d.pair :=
  foldl_proj Dev.pair (fun d m => by simp [apply_ite Dev.pair, Dev.setScan]) _ d

@[simp] theorem fallbackSwitch_pair : d.fallbackSwitch.pair = d.pair :=
  foldl_proj Dev.pair (fun d m => by simp [apply_ite Dev.pair]) _ d

@[simp] theorem timingClear_pair : d.timingClear.pair = d.pair := by
  unfold Dev.timingClear
  split <;> rfl

@[simp] theorem acqStart_pair : d.acqStart.pair = d.pair := by simp [Dev.acqStart, Dev.lopTurnStart]

@[simp] theorem turnBegin_castle (n : Nat) : (d.turnBegin n).pair.castle = d.pair.castle := by
  simp [Dev.turnBegin, Dev.pb0Wrap, Dev.pb0Reach, Dev.addDue]

@[simp] theorem hostsetLatch_turn (reg31 : Bool) :
    (d.hostsetLatch reg31).turn = d.turn ∧ (d.hostsetLatch reg31).pair = d.pair := by
  rcases hostsetLatch_cases d reg31 with h | ⟨w, h⟩ | ⟨w, e, h⟩ <;> rw [h]
  · exact ⟨rfl, rfl⟩
  · exact ⟨rfl, rfl⟩
  · simp [Dev.wbDrop]

@[simp] theorem loLatch_turn (n sel : Nat) : (d.loLatch n sel).1.turn = d.turn ∧ (d.loLatch n sel).1.pair = d.pair := by
  unfold Dev.loLatch
  split
  · exact ⟨rfl, rfl⟩
  · split <;> simp [Dev.wbDrop]

@[simp] theorem hostWrites_turn : d.hostWrites.turn = d.turn ∧ d.hostWrites.pair = d.pair := by
  have hfold := foldl_proj (fun d => (d.turn, d.pair)) (f := fun d n =>
    match (d.loLatch n (d.lo n).sel).2 with
    | some e => (d.loLatch n (d.lo n).sel).1.happen e
    | none => (d.loLatch n (d.lo n).sel).1) (fun d n => by split <;> simp)
    (List.range 4) ((d.hostsetLatch false).hostsetLatch true)
  have hwrites := Prod.mk.inj hfold
  exact ⟨hwrites.1.trans (by simp), hwrites.2.trans (by simp)⟩

@[simp] theorem send63_turn (bytes : List Byte) : (d.send63 bytes).turn = d.turn ∧ (d.send63 bytes).pair = d.pair := by
  simp [Dev.send63, apply_ite Dev.turn, apply_ite Dev.pair]

@[simp] theorem sendHappenings_turn : d.sendHappenings.turn = d.turn ∧ d.sendHappenings.pair = d.pair := by
  have hfold := foldl_proj (fun d => (d.turn, d.pair)) (f := fun d e => d.send63 ([0x08, byteOf e.kind] ++ e.payload))
    (fun d e => by simp) d.jrn.outside d
  unfold Dev.sendHappenings
  split
  · exact Prod.mk.inj hfold
  · exact ⟨rfl, rfl⟩

end

/-- The turn that a set names is the first after the turn in hand with its low bits. -/
theorem nextTurn_spec (cur : Nat) {low : Nat} (hlow : low < 65536) :
    nextTurn cur low % 65536 = low ∧ cur < nextTurn cur low ∧ nextTurn cur low ≤ cur + 65536 := by
  unfold nextTurn
  omega

/-- A standby whose turn is out of hand and whose mirror is complete starts the turn that the set names (R356, R363). -/
theorem turnStart_standby {d : Dev} {low : BitVec 16} (hup : d.pwr.boot = 3) (hrole : d.role = 3) (hlink : d.lstate = 5)
    (hrun : d.turn.run = none) (hcastle : d.pair.castle = 0) (hswap : d.vault.swapTurn = none)
    (hmir : d.pair.mirTurn = d.pair.doneTurn) :
    (d.turnStart low).turn = (d.turnBegin (nextTurn d.turn.number low.toNat)).turn ∧ (d.turnStart low).role = 3 := by
  have hlinkUp : d.linkUp = true := by rw [Dev.linkUp, hlink]; rfl
  have hstart : d.turnStart low = d.turnStartSet low := by
    unfold Dev.turnStart
    simp [hswap]
  have hdeadline : d.commitDeadline = d := by
    unfold Dev.commitDeadline
    simp [hrun]
  have hcheck : d.mirrorCheck = d := if_pos (.inr hmir)
  obtain ⟨e, he⟩ : ∃ e, e = ((d.turnBegin (nextTurn d.turn.number low.toNat)).agePeriod).hostWrites := ⟨_, rfl⟩
  have hturn : e.turn = (d.turnBegin (nextTurn d.turn.number low.toNat)).turn := by simp [he, Dev.agePeriod]
  have hpair : e.pair.castle = 0 := by simp [he, Dev.agePeriod, hcastle]
  have hl : FieldsPair [(R.PAR_ROLE, F.PAR_ROLE_ROLE)] := by
    simp only [FieldsPair, List.forall_mem_cons, List.not_mem_nil, false_implies, implies_true, and_true]
    decide
  have hoff : FieldsOff [(R.PAR_ROLE, F.PAR_ROLE_ROLE)] R.PAR_HBAGE := by
    simp only [FieldsOff, List.forall_mem_cons, List.not_mem_nil, false_implies, implies_true, and_true]
    decide
  have hage (b : Dev) : KeepsFields [(R.PAR_ROLE, F.PAR_ROLE_ROLE)] b b.agePeriod :=
    KeepsFields.of_regs (d := b.incF R.PAR_HBAGE F.PAR_HBAGE_TURNS) (wr_keeps hoff _ (.refl _ b)) rfl
  have hkeep : KeepsFields [(R.PAR_ROLE, F.PAR_ROLE_ROLE)] d e.sendHappenings := by
    rw [he]
    exact sendHappenings_keeps hl.panel (hostWrites_keeps hl ((turnBegin_keeps hl _ (.refl _ d)).trans (hage _)))
  have hsent (b : List Byte) : KeepsFields [(R.PAR_ROLE, F.PAR_ROLE_ROLE)] d (e.sendHappenings.send63 b) :=
    send63_keeps hl.panel b hkeep
  have hrole' (b : List Byte) : (e.sendHappenings.send63 b).role = 3 := ((hsent b).field_eq (by simp)).trans hrole
  have hset : d.turnStartSet low = e.sendHappenings.send63 e.roleMessage := by
    have hnot : ¬ ((!decide (d.role = 3 ∨ d.role = 4)) = true ∨ d.pwr.boot ≠ 3 ∨ (!d.linkUp) = true) := by
      simp [hrole, hup, hlinkUp]
    have hstand : d.standby = true := by simp [Dev.standby, hrole]
    unfold Dev.turnStartSet
    rw [if_neg hnot]
    simp only [hdeadline, hstand, if_true, hcheck, ← he]
    simp [hrole', hpair, Dev.castlingDecide]
  rw [hstart, hset]
  exact ⟨by simp [hturn], hrole' _⟩

/-! Training (R353) -/

theorem trng_frame (d : Dev) (n : Nat) : (d.trng n).2 = { d with free := (d.trng n).2.free } := by
  induction n generalizing d with
  | zero => rfl
  | succ k ih =>
    have hstep : (d.trng (k + 1)).2 = ((d.freeVal 64).2.trng k).2 := rfl
    rw [hstep, ih (d.freeVal 64).2]
    rfl

section
variable {d : Dev}

/-- Without its link up a device only notes that the link is gone. -/
theorem linkGone_down (h : d.linkUp = false) (next : Nat) : d.linkGone next = d.linkDown next := by
  unfold Dev.linkGone
  simp only [h, Bool.not_false, if_true]
  rw [Dev.linkDown, h]
  rfl

/-- The training ends with the link up. -/
theorem linkTrained_active (hrole : d.role = 2) {lanes : Nat} (hlanes : lanes < 4) (cert : List Byte) :
    (d.linkTrained lanes cert).lstate = 5 ∧
    (d.linkTrained lanes cert).rdF R.PAR_LNKSTAT F.PAR_LNKSTAT_LANE0 = lanes % 2 ∧
    (d.linkTrained lanes cert).rdF R.PAR_LNKSTAT F.PAR_LNKSTAT_LANE1 = lanes / 2 ∧
    (d.linkTrained lanes cert).evPending 197 = true ∧ (d.linkTrained lanes cert).pair.blocks = [] := by
  obtain ⟨e, he⟩ : ∃ e, e = (d.wrFs R.PAR_LNKSTAT [(F.PAR_LNKSTAT_LSTATE, 5), (F.PAR_LNKSTAT_LANE0, lanes % 2),
    (F.PAR_LNKSTAT_LANE1, lanes / 2)]).setPair (fun p => { p with
      blocks := [], txSeq := 0, rxSeq := 0, healthAge := 0, wantHash := none, lostNow := false }) := ⟨_, rfl⟩
  have hrd : e.rd R.PAR_LNKSTAT = putF F.PAR_LNKSTAT_LANE1 (putF F.PAR_LNKSTAT_LANE0
      (putF F.PAR_LNKSTAT_LSTATE (d.rd R.PAR_LNKSTAT) 5) (lanes % 2)) (lanes / 2) := by
    rw [he]
    exact rd_wr_same d _ _
  have herole : e.role = 2 := by
    rw [he]
    exact (rdF_congr (rd_wr_other d _ _ _ (by decide)) _).trans hrole
  have hraised {x : Nat} (hx : x < 0x170000) : (e.raise 197).rd x = e.rd x := rd_raise_low e 197 hx
  have hholder : (e.raise 197).holder = true := by
    have hr : (e.raise 197).role = 2 := (rdF_congr (hraised (by decide)) _).trans herole
    simp [Dev.holder, hr]
  have hform (g : Dev) (hg : g.holder = true) (data : List Byte) : g.formPair 0x1 data = g.happen (pairEntry 0x1 data) ∧
      g.formPair 0x6 data = g.happen (pairEntry 0x6 data) := by
    simp [Dev.formPair, hg]
  have htrained : ∃ e1 e2, d.linkTrained lanes cert = ((e.raise 197).happen e1).happen e2 := by
    refine ⟨pairEntry 0x1 ((sha256 cert).take 16), pairEntry 0x6 [], ?_⟩
    have hh1 : ((e.raise 197).happen (pairEntry 0x1 ((sha256 cert).take 16))).holder = true := hholder
    have hrole1 : (((e.raise 197).happen (pairEntry 0x1 ((sha256 cert).take 16))).happen (pairEntry 0x6 [])).role = 2 :=
      (rdF_congr (hraised (by decide)) _).trans herole
    unfold Dev.linkTrained
    simp only [← he, (hform _ hholder _).1, (hform _ hh1 _).2, Dev.standby, hrole1]
    rfl
  obtain ⟨e1, e2, htrained⟩ := htrained
  have hblocks : e.pair.blocks = [] := by rw [he]; rfl
  have hfield {x : Nat} (hx : x < 0x170000) (f : Field) : (d.linkTrained lanes cert).rdF x f = getF f (e.rd x) := by
    rw [htrained]
    exact congrArg (getF f) (hraised hx)
  refine ⟨?_, ?_, ?_, ?_, ?_⟩
  · rw [Dev.lstate, hfield (by decide), hrd, getF_putF_apart _ _ (by decide), getF_putF_apart _ _ (by decide), getF_putF _ (by decide)]
    rfl
  · rw [hfield (by decide), hrd, getF_putF_apart _ _ (by decide), getF_putF _ (by decide)]
    exact Nat.mod_mod _ _
  · rw [hfield (by decide), hrd, getF_putF _ (by decide)]
    exact Nat.mod_eq_of_lt (by simp only [F.PAR_LNKSTAT_LANE1]; omega)
  · rw [htrained]
    exact evPending_raise_same e (by decide)
  · rw [htrained]
    simpa using hblocks

/-- A failed authentication is told, and training starts again where the link stays enabled. -/
theorem authFail_active (hlink : d.linkUp = false) (hrole : d.role = 2) :
    d.authFail.rdF R.PAR_STAT F.PAR_STAT_AUTHFAIL = 1 ∧ d.authFail.evPending 206 = true ∧
    d.authFail.lstate = (if d.fEn .link = true ∧ d.fState .link = 2 then 1 else 0) := by
  obtain ⟨next, hnext⟩ : ∃ n, n = if d.fEn .link = true ∧ d.fState .link = 2 then 1 else 0 := ⟨_, rfl⟩
  obtain ⟨e, he⟩ : ∃ e, e = ((d.linkDown next).flagEv R.PAR_STAT 10 206).setPair (fun p => { p with wantHash := none }) := ⟨_, rfl⟩
  have hrole' : ((d.linkDown next).flagEv R.PAR_STAT 10 206).role = 2 :=
    (rdF_flagEv_other _ (by decide) (by decide) 10 206 _).trans ((rdF_congr (rd_linkDown_other next (by decide)) _).trans hrole)
  have hfail : d.authFail = e := by
    have hagain : (if (d.fEn .link && d.fState .link == 2) = true then 1 else 0) = next := by simp [hnext]
    have hr : e.role = 2 := by
      rw [he]
      exact hrole'
    unfold Dev.authFail
    simp only [linkGone_down hlink]
    rw [hagain, ← he, if_neg (by simp [hr])]
  rw [hfail, ← hnext, he]
  refine ⟨rdF_flagEv_same (d.linkDown next) (by decide) (by decide) 206, evPending_flagEv_same (d.linkDown next) _ _ (by decide), ?_⟩
  have hlt : next < 8 := by
    rw [hnext]
    split <;> decide
  exact (rdF_flagEv_other (d.linkDown next) (by decide) (by decide) 10 206 _).trans (lstate_linkDown next hlt)

/-- LINK_TRAINING_DONE of an active whose peer runs the same image and has the other strap (R353). -/
theorem linkTrainingDone_active {lanes : BitVec 2} {auth : List Byte} (hlow : 1 ≤ d.lstate)
    (hhigh : d.lstate ≤ 4) (hlanes : lanes ≠ 0) (hslots : slice auth 32 128 = d.slotHashes)
    (hstrap : byteAt auth 160 ≠ d.rdF R.PAR_ROLE F.PAR_ROLE_IDHI) (hhash : slice auth 0 32 = padTo 32 d.image.head.hash) :
    d.linkTrainingDone lanes auth = if Config.peerAuthentic (auth.drop 225) (d.trng 4).1 (slice auth 161 64) = true
      then (d.trng 4).2.linkTrained lanes.toNat (auth.drop 225) else (d.trng 4).2.authFail := by
  have hguard : ¬ (d.lstate = 0 ∨ d.lstate = 5 ∨ lanes = 0) := by
    rintro (h | h | h)
    · omega
    · omega
    · exact hlanes h
  unfold Dev.linkTrainingDone
  rw [if_neg hguard]
  extract_lets cert x d1 same strap
  have hd1 : d1 = { d with free := d1.free } := trng_frame d 4
  have hx : x.1 = (d.trng 4).1 := rfl
  have hd1' : (d.trng 4).2 = d1 := rfl
  have hsame : same = true := by
    have hhashes : d1.slotHashes = d.slotHashes := by rw [hd1]; rfl
    simp [same, hhashes, hslots]
  have hstrap' : strap = true := by
    have hid : d1.rdF R.PAR_ROLE F.PAR_ROLE_IDHI = d.rdF R.PAR_ROLE F.PAR_ROLE_IDHI := by rw [hd1]; rfl
    simp [strap, hid, hstrap]
  have himage : slice auth 0 32 = padTo 32 d1.image.head.hash := by
    rw [hd1]
    exact hhash
  rw [hx, hd1', hsame, hstrap', if_pos himage]
  cases Config.peerAuthentic cert (d.trng 4).1 (slice auth 161 64) <;> rfl

end

/-! The obligation -/

section
variable {s : State}

/-- LINK_TRAINING_DONE (R353). -/
theorem linkTraining {lanes : BitVec 2} {auth : List Byte} (hup : s.Up) (hrole : s.dev.role = 2) (hlow : 1 ≤ s.dev.lstate)
    (hhigh : s.dev.lstate ≤ 4) (hlanes : lanes ≠ 0) (hslots : slice auth 32 128 = s.dev.slotHashes)
    (hstrap : byteAt auth 160 ≠ s.dev.rdF R.PAR_ROLE F.PAR_ROLE_IDHI)
    (hhash : slice auth 0 32 = padTo 32 s.dev.image.head.hash) :
    Completes (.linkTrainingDone lanes auth) s (fun d =>
      if Config.peerAuthentic (auth.drop 225) (s.dev.trng 4).1 (slice auth 161 64) = true then
        d.lstate = 5 ∧ d.rdF R.PAR_LNKSTAT F.PAR_LNKSTAT_LANE0 = lanes.toNat % 2 ∧
        d.rdF R.PAR_LNKSTAT F.PAR_LNKSTAT_LANE1 = lanes.toNat / 2 ∧ d.evPending 197 = true ∧ d.pair.blocks = []
      else d.rdF R.PAR_STAT F.PAR_STAT_AUTHFAIL = 1 ∧ d.evPending 206 = true ∧
        d.lstate = (if s.dev.fEn .link = true ∧ s.dev.fState .link = 2 then 1 else 0)) := by
  have hframe := trng_frame s.dev 4
  have hrole' : (s.dev.trng 4).2.role = 2 := by
    rw [hframe]
    exact hrole
  have hlink : (s.dev.trng 4).2.linkUp = false := by
    have hstate : (s.dev.trng 4).2.lstate = s.dev.lstate := by rw [hframe]; rfl
    rw [Dev.linkUp, hstate, beq_eq_false_iff_ne]
    omega
  have hfunc : (s.dev.trng 4).2.fEn .link = s.dev.fEn .link ∧ (s.dev.trng 4).2.fState .link = s.dev.fState .link := by
    rw [hframe]
    exact ⟨rfl, rfl⟩
  refine completes_of_up hup (f := fun d => d.linkTrainingDone lanes auth) rfl ?_
  rw [linkTrainingDone_active hlow hhigh hlanes hslots hstrap hhash]
  split
  · exact linkTrained_active hrole' lanes.isLt _
  · rw [← hfunc.1, ← hfunc.2]
    exact authFail_active hlink hrole'

/-- LINK_BLOCK_RECEIVED (R355). -/
theorem blocksReceived (q : Fin 4) (seq : BitVec 16) (bytes : List Byte) (hup : s.Up) (hlink : s.dev.lstate = 5) :
    exec (.linkBlockReceived q seq false bytes none) s = .next (s.on (s.dev.wrF R.PAR_LNKCNT F.PAR_LNKCNT_CRCERRS
      (min 255 (s.dev.rdF R.PAR_LNKCNT F.PAR_LNKCNT_CRCERRS + 1)))) ∧
    (q ≠ 0 → q ≠ 3 → bytes.length ≤ elemSize (60 + q.val) → seq.toNat = s.dev.pair.rxSeq →
      exec (.linkBlockReceived q seq true bytes none) s = .next (s.on
        { s.dev with pair := { s.dev.pair with rxSeq := (s.dev.pair.rxSeq + 1) % 65536 } })) ∧
    (∀ a : BitVec 16, exec (.linkBlockReceived q seq true bytes (some a)) s = .next (s.on
      { s.dev with pair := { s.dev.pair with blocks := s.dev.pair.blocks.filter (fun b => b.2.1 ≠ a.toNat) } })) := by
  have hup' : s.dev.linkUp = true := by rw [Dev.linkUp, hlink]; rfl
  refine ⟨exec_of_up hup (f := fun d => d.linkBlock q.val seq false bytes none) rfl ?_, fun hq0 hq3 hsize hseq =>
    exec_of_up hup (f := fun d => d.linkBlock q.val seq true bytes none) rfl ?_, fun a =>
    exec_of_up hup (f := fun d => d.linkBlock q.val seq true bytes (some a)) rfl ?_⟩
  · rw [linkBlock_plain (.inl rfl)]
    simp only [Dev.blockReceived, hup', Bool.not_true, Bool.false_eq_true, if_false, Bool.not_false, true_or, if_true, Dev.incF, satInc_eq]
    rfl
  · have hq : q.val ≠ 0 ∧ q.val ≠ 3 := ⟨fun h => hq0 (Fin.ext h), fun h => hq3 (Fin.ext h)⟩
    have hbad : ¬ ((!true) = true ∨ bytes.length > elemSize (60 + q.val)) := by
      simp only [Bool.not_true, Bool.false_eq_true, false_or]
      omega
    rw [linkBlock_plain (.inr (.inl hq.1))]
    simp only [Dev.blockReceived, hup', Bool.not_true, Bool.false_eq_true, if_false]
    rw [if_neg (by simpa using hsize), if_pos hseq, if_neg (fun h => hq.2 h.1)]
    rfl
  · rw [linkBlock_plain (.inr (.inr rfl))]
    simp only [Dev.blockReceived, hup', Bool.not_true, Bool.false_eq_true, if_false]
    rfl

end

/-- Settles O40: training, loss and blocks by what each writes; a turn-start set is a turn's start and what follows it. -/
theorem ivganLink : Obligations.IvganLink := by
  unfold Obligations.IvganLink
  refine ⟨fun s lanes auth hup hrole hlow hhigh hlanes hslots hstrap hhash =>
    linkTraining hup hrole hlow hhigh hlanes hslots hstrap hhash, fun s hup hlink hrole hdanger => ?_,
    fun s hup hlink h0 h1 => ?_, fun s q seq bytes hup hlink => blocksReceived q seq bytes hup hlink, fun s q hup => ?_,
    fun s low hup hrole hlink hrun hcastle hswap hmir => ?_⟩
  · refine completes_of_up hup (f := fun d => d.linkLostRow) rfl ?_
    rw [linkLostRow_safe hlink hrole hdanger]
    obtain ⟨hstate, hlost, hev, hcnt, hblocks, hpeer, hrole', hturn, -⟩ := linkLost_active hlink hrole
    exact ⟨hstate, hlost, hev, hcnt, hblocks, hpeer, hrole', hturn⟩
  · obtain ⟨hlane0, hlane1⟩ := laneDegraded_other_up hlink h0 h1
    exact ⟨exec_of_up hup (f := fun d => d.laneDegraded 0) rfl hlane0, exec_of_up hup (f := fun d => d.laneDegraded 1) rfl hlane1⟩
  · exact completes_of_up hup (f := fun d => d.blockTimeout q.val) rfl (foldl_incF_resends _ s.dev)
  · obtain ⟨hturn, hrole'⟩ := turnStart_standby (low := low) hup hrole hlink hrun hcastle hswap hmir
    obtain ⟨hmod, hlater, hnear⟩ := nextTurn_spec s.dev.turn.number low.isLt
    rw [turnBegin_turn] at hturn
    refine completes_of_up hup (f := fun d => d.turnStart low) rfl ?_
    rw [hturn]
    exact ⟨hmod, hlater, hnear, rfl, rfl, rfl, hrole'⟩

end Sys2Proof.Machine
end

section
/-!
PROOFS. What the units do when the token comes and goes (R349, R374): they leave the registers of the pair, the watchtower,
the vault and the dome, and those parts of the device, alone.
-/
namespace Sys2Proof.Machine

/-! Changes that leave the pair's registers alone -/

/-- The parts of the device that its units do not touch; of the turn, all but the commands that have arrived. -/
def Dev.settled (d : Dev) := (d.clk, d.image, { d.turn with arrived := [] }, d.pair, d.vault, d.dom, d.pwr.boot)

/-- A change that leaves the fields of a list, and the settled parts, as they were. -/
structure Apart (l : List (Nat × Field)) (z d : Dev) : Prop where
  of ::
  fields : KeepsFields l z d
  settled : d.settled = z.settled

section
variable {l : List (Nat × Field)} {z d e f : Dev}

theorem Apart.refl (l : List (Nat × Field)) (d : Dev) : Apart l d d := ⟨.refl l d, rfl⟩

theorem Apart.trans (h : Apart l d e) (k : Apart l e f) : Apart l d f := ⟨h.fields.trans k.fields, k.settled.trans h.settled⟩

theorem Apart.of_parts (k : Apart l z d) (hregs : e.regs = d.regs) (hsettled : e.settled = d.settled) : Apart l z e :=
  ⟨k.fields.of_regs hregs, hsettled.trans k.settled⟩

theorem Apart.ite {c : Prop} [Decidable c] (h : Apart l z d) (k : Apart l z e) : Apart l z (if c then d else e) := by
  split <;> assumption

theorem Apart.foldl {α : Type} {f : Dev → α → Dev} {xs : List α} (k : Apart l z d)
    (h : ∀ d x, x ∈ xs → Apart l z d → Apart l z (f d x)) : Apart l z (xs.foldl f d) := by
  induction xs generalizing d with
  | nil => exact k
  | cons x t ih => exact ih (h d x List.mem_cons_self k) (fun d y hy => h d y (List.mem_cons_of_mem x hy))

/-- A fold over the numbers below a bound. -/
theorem Apart.range {n : Nat} {f : Dev → Nat → Dev} (k : Apart l z d) (h : ∀ d x, x < n → Apart l z d → Apart l z (f d x)) :
    Apart l z ((List.range n).foldl f d) := k.foldl fun d x hx kd => h d x (List.mem_range.mp hx) kd

theorem Apart.turn_eq (k : Apart l z d) : { d.turn with arrived := [] } = { z.turn with arrived := [] } :=
  congrArg (fun q => q.2.2.1) k.settled

theorem Apart.pair_eq (k : Apart l z d) : d.pair = z.pair := congrArg (fun q => q.2.2.2.1) k.settled

theorem wr_apart_off {a : Nat} (hoff : FieldsOff l a) (w : Word) (k : Apart l z d) : Apart l z (d.wr a w) :=
  ⟨wr_keeps hoff w k.fields, k.settled⟩

theorem wrF_apart {a : Nat} {g : Field} (hclear : FieldsClear l a g) (v : Nat) (k : Apart l z d) : Apart l z (d.wrF a g v) :=
  ⟨wrF_keeps hclear v k.fields, k.settled⟩

theorem raise_apart (hl : FieldsPair l) (n : Nat) (k : Apart l z d) : Apart l z (d.raise n) :=
  ⟨raise_keeps hl.panel n k.fields, by simpa [Dev.settled] using k.settled⟩

theorem push_apart (hl : FieldsPair l) (q : Nat) (bytes : List Byte) (ref : Option HostRef) (k : Apart l z d) :
    Apart l z (d.push q bytes ref) := ⟨push_keeps hl.panel q bytes ref k.fields, by simpa [Dev.settled] using k.settled⟩

theorem raiseIf_apart (hl : FieldsPair l) (b : Bool) (n : Nat) (k : Apart l z d) : Apart l z (d.raiseIf b n) :=
  Apart.ite (raise_apart hl n k) k

theorem setXc_apart (n : Nat) (f : XChan → XChan) (k : Apart l z d) : Apart l z (d.setXc n f) := k.of_parts rfl rfl

theorem setLi_apart (n : Nat) (f : LoopIn → LoopIn) (k : Apart l z d) : Apart l z (d.setLi n f) := k.of_parts rfl rfl

theorem setQc_apart (n : Nat) (f : QChan → QChan) (k : Apart l z d) : Apart l z (d.setQc n f) := k.of_parts rfl rfl

theorem setPnl_apart (f : Panel → Panel) (k : Apart l z d) : Apart l z (d.setPnl f) := k.of_parts rfl rfl

theorem setJrn_apart (f : Journal → Journal) (k : Apart l z d) : Apart l z (d.setJrn f) := k.of_parts rfl rfl

theorem happen_apart (e : Entry) (k : Apart l z d) : Apart l z (d.happen e) := k.of_parts rfl rfl

end

section
variable {l : List (Nat × Field)} {z d : Dev} (hl : FieldsPair l)
include hl

/-! Registers outside the pair's block -/

theorem wr_apart {a : Nat} (ha : a < 0x120000 ∨ 0x160000 ≤ a) (w : Word) (k : Apart l z d) : Apart l z (d.wr a w) :=
  wr_apart_off (hl.off ha) w k

theorem wrF_apart_out {a : Nat} (ha : a < 0x120000 ∨ 0x160000 ≤ a) (g : Field) (v : Nat) (k : Apart l z d) :
    Apart l z (d.wrF a g v) := wr_apart hl ha _ k

theorem wrFs_apart {a : Nat} (ha : a < 0x120000 ∨ 0x160000 ≤ a) (fs : List (Field × Nat)) (k : Apart l z d) :
    Apart l z (d.wrFs a fs) := wr_apart hl ha _ k

theorem flag_apart {a : Nat} (ha : a < 0x120000 ∨ 0x160000 ≤ a) (b : Nat) (k : Apart l z d) : Apart l z (d.flag a b) :=
  wr_apart hl ha _ k

theorem incF_apart {a : Nat} (ha : a < 0x120000 ∨ 0x160000 ≤ a) (g : Field) (k : Apart l z d) : Apart l z (d.incF a g) :=
  wr_apart hl ha _ k

theorem flagEv_apart {a : Nat} (ha : a < 0x120000 ∨ 0x160000 ≤ a) (b n : Nat) (k : Apart l z d) : Apart l z (d.flagEv a b n) :=
  raise_apart hl n (flag_apart hl ha b k)

theorem refuse_apart (q : Nat) (k : Apart l z d) : Apart l z (d.refuse q) :=
  raise_apart hl 249 (flag_apart hl (.inr (by simp only [R.HST_QSTAT]; omega)) 16 k)

theorem pushFree_apart (q : Nat) (bytes : List Byte) (ref : Option HostRef) (k : Apart l z d) :
    Apart l z (d.pushFree q bytes ref) := Apart.ite (push_apart hl q bytes ref k) (refuse_apart hl q k)

/-! Excitation channels, loop supplies, charge channels -/

theorem xDiscard_apart {n : Nat} (hn : n < 8) (k : Apart l z d) : Apart l z (d.xDiscard n) :=
  flag_apart hl (.inl (by simp only [R.XCH_STS]; omega)) 20 (incF_apart hl (.inl (by simp only [R.XCH_CNT]; omega)) _ k)

theorem xRelease_apart {n : Nat} (hn : n < 8) (st : Nat) (v aux : Int) (k : Apart l z d) : Apart l z (d.xRelease n st v aux) := by
  have hsts : R.XCH_STS n < 0x120000 := by simp only [R.XCH_STS]; omega
  unfold Dev.xRelease
  extract_lets old again trim d1 d2 d3 d4 d5 d6 d7
  have h3 : Apart l z d3 := wrF_apart_out hl (.inl (by decide)) _ _ (wrF_apart_out hl (.inl hsts) _ _ (k.of_parts rfl rfl))
  have h4 : Apart l z d4 := Apart.ite
    (wr_apart hl (.inl (by simp only [R.XCH_AUX]; omega)) _ (wr_apart hl (.inl (by simp only [R.XCH_VAL]; omega)) _ h3))
    (Apart.ite (flag_apart hl (.inl hsts) 23 h3) h3)
  exact raiseIf_apart hl _ _ (raiseIf_apart hl _ _ (raiseIf_apart hl _ _ (raiseIf_apart hl _ _ h4)))

theorem xStateRelease_apart {n : Nat} (hn : n < 8) (k : Apart l z d) : Apart l z (d.xStateRelease n) := by
  unfold Dev.xStateRelease
  extract_lets st old d1 d2
  have h1 : Apart l z d1 := Apart.ite (xDiscard_apart hl hn k) k
  have h2 : Apart l z d2 := h1.of_parts rfl rfl
  have hrelease (status : Nat) {e : Dev} (k : Apart l z e) := xRelease_apart hl hn status 0 0 k
  exact Apart.ite (Apart.ite h2 (hrelease 9 (h2.of_parts rfl rfl)))
    (Apart.ite (hrelease 8 (h2.of_parts rfl rfl)) (Apart.ite (Apart.ite h2 (hrelease 8 h2)) h2))

theorem lSupplyOff_apart {n : Nat} (hn : n < 16) (opened : Bool) (k : Apart l z d) : Apart l z (d.lSupplyOff n opened) :=
  Apart.ite (wrFs_apart hl (.inl (by simp only [R.LOP_SUPI]; omega)) _ (k.of_parts rfl rfl)) (k.of_parts rfl rfl)

omit hl in
theorem freeVal_apart (w : Nat) (k : Apart l z d) : Apart l z (d.freeVal w).2 := k.of_parts rfl rfl

omit hl in
theorem fit_apart (w : Nat) (sgn : Bool) (x : Int) (k : Apart l z d) : Apart l z (d.fit w sgn x).2 := by
  unfold Dev.fit
  extract_lets lo hi
  split
  · exact k
  · exact freeVal_apart w k

omit hl in
theorem fits_apart (ws : List (Nat × Bool × Int)) (k : Apart l z d) : Apart l z (d.fits ws).2 := by
  induction ws generalizing d with
  | nil => exact k
  | cons x t ih => exact ih (fit_apart x.1 x.2.1 x.2.2 k)

omit hl in
theorem freeVals_apart (w n : Nat) (k : Apart l z d) : Apart l z (d.freeVals w n).2 := by
  induction n generalizing d with
  | zero => exact k
  | succ n ih => exact ih (freeVal_apart w k)

omit hl in
theorem qOpenWords_apart (h : QHeld) (k : Apart l z d) : Apart l z (d.qOpenWords h).2 := by
  unfold Dev.qOpenWords
  split
  · exact fits_apart _ k
  · split
    · exact freeVals_apart 32 8 k
    · exact fit_apart 16 true _ (freeVals_apart 32 7 k)

theorem qStoreRes_apart {n : Nat} (hn : n < 12) (h : QHeld) (ws : List Nat) (k : Apart l z d) :
    Apart l z (d.qStoreRes n h ws) := by
  have hput (w v : Nat) (hw : w < 7) {e : Dev} (k : Apart l z e) : Apart l z (e.wr (R.QCH_RES n w) (BitVec.ofNat 32 v)) :=
    wr_apart hl (.inl (by simp only [R.QCH_RES]; omega)) _ k
  exact hput 6 _ (by decide) (hput 5 _ (by decide) (hput 4 _ (by decide) (hput 3 _ (by decide) (hput 2 _ (by decide)
    (hput 1 _ (by decide) (hput 0 _ (by decide) k))))))

theorem qDescriptor_apart (n st : Nat) (miss : Bool) (h : QHeld) (ws : List Nat) (k : Apart l z d) :
    Apart l z (d.qDescriptor n st miss h ws) := by
  unfold Dev.qDescriptor
  split
  case h_1 => exact k
  case h_2 s _ =>
    extract_lets bytes charge e
    have he : Apart l z e := k.of_parts rfl (by simp only [Dev.settled, e])
    exact Apart.ite (push_apart hl 50 bytes none he) (flagEv_apart hl (.inl (by decide)) 16 76 (refuse_apart hl 50 he))

theorem qRelease_apart {n : Nat} (hn : n < 12) (st cause : Nat) (h : Option QHeld) (miss : Bool) (k : Apart l z d) :
    Apart l z (d.qRelease n st cause h miss) := by
  have hsts : R.QCH_STS n < 0x120000 := by simp only [R.QCH_STS]; omega
  have hcnt : R.QCH_CNT n < 0x120000 := by simp only [R.QCH_CNT]; omega
  have hcyc : R.QCH_CYC n < 0x120000 := by simp only [R.QCH_CYC]; omega
  unfold Dev.qRelease
  extract_lets st1 c iv st old d1 d2 d3 d4 d5 d6 d7 d8
  have h2 : Apart l z d2 := wrF_apart_out hl (.inl hsts) _ _ (k.of_parts rfl rfl)
  have h3 : Apart l z d3 := Apart.ite (incF_apart hl (.inl hcnt) _ (wrF_apart_out hl (.inl hsts) _ _ h2)) h2
  have h4 : Apart l z d4 := Apart.ite (flagEv_apart hl (.inl hsts) 18 70 (incF_apart hl (.inl hcnt) _ h3)) h3
  have h5 : Apart l z d5 := Apart.ite (flagEv_apart hl (.inl hsts) 22 66 h4) h4
  have h6 : Apart l z d6 := wrF_apart_out hl (.inl (by decide)) _ _ h5
  have h8 : Apart l z d8 := by
    unfold d8
    split
    case h_1 x =>
      have hcycled := fun w v => wrF_apart_out hl (.inl hsts) F.QCH_STS_R10 v (wr_apart hl (.inl hcyc) w h6)
      split
      · exact qDescriptor_apart hl n st miss x _ (qStoreRes_apart hl hn x _ (fits_apart _ (hcycled _ _)))
      · exact qDescriptor_apart hl n st miss x _ (qOpenWords_apart x (hcycled _ _))
    case h_2 => exact h6
  exact raiseIf_apart hl _ _ (raiseIf_apart hl _ _ (raiseIf_apart hl _ _ (raiseIf_apart hl _ _ (raiseIf_apart hl _ _ h8))))

theorem qPowerLost_apart {n : Nat} (hn : n < 12) (k : Apart l z d) : Apart l z (d.qPowerLost n) :=
  qRelease_apart hl hn 9 0 none false (k.of_parts rfl rfl)

omit hl in
theorem qSwitches_apart (k : Apart l z d) : Apart l z d.qSwitches :=
  k.range fun _ n _ kd => setQc_apart n _ (Apart.ite (setQc_apart n _ kd) kd)

theorem qCause_apart {n : Nat} (hn : n < 12) (cause : Nat) (k : Apart l z d) : Apart l z (d.qCause n cause) := by
  have hsts : R.QCH_STS n < 0x120000 := by simp only [R.QCH_STS]; omega
  have hcyc : Apart l z (d.setCyc n (QCycle.fail · cause)) := k.of_parts rfl rfl
  exact Apart.ite (flag_apart hl (.inl hsts) 21 hcyc) (Apart.ite (flag_apart hl (.inl hsts) 20 hcyc) hcyc)

theorem qRoleChange_apart (k : Apart l z d) : Apart l z d.qRoleChange :=
  k.range fun _ _ hn kd => Apart.ite (setQc_apart _ _ (qCause_apart hl hn 6 kd)) kd

/-! Universal inputs -/

theorem setScan_apart {m : Nat} (hm : m < 4) (f : UScan → UScan) (k : Apart l z d) : Apart l z (d.setScan m f) :=
  ⟨setScan_keeps hl hm f k.fields, k.settled⟩

theorem exvUpdate_apart (k : Apart l z d) : Apart l z d.exvUpdate := by
  refine k.range fun d m hm kd => ?_
  extract_lets w uin d1
  have h1 : Apart l z d1 := kd.of_parts rfl rfl
  refine Apart.ite kd ?_
  split
  · exact Apart.ite (setScan_apart hl hm _ h1) h1
  · exact h1

theorem uRoleChange_apart (k : Apart l z d) : Apart l z d.uRoleChange :=
  exvUpdate_apart hl (k.range fun _ _ hm kd => Apart.ite kd (setScan_apart hl hm _ kd))

/-! The panel -/

theorem pReach_apart (e v : Nat) (k : Apart l z d) : Apart l z (d.pReach e v) :=
  wrF_apart_out hl (.inr (by simp only [R.PNL_UNK]; omega)) _ _ (wrF_apart_out hl (.inr (by simp only [R.PNL_LEV]; omega)) _ _ k)

theorem pLose_apart (e : Nat) (k : Apart l z d) : Apart l z (d.pLose e) :=
  wrF_apart_out hl (.inr (by simp only [R.PNL_UNK]; omega)) _ _ k

theorem pCutRegion_apart (r : Nat) (k : Apart l z d) : Apart l z (d.pCutRegion r) := by
  unfold Dev.pCutRegion
  split
  case h_1 => exact k
  case h_2 x _ =>
    extract_lets frame e1 e2
    have h1 : Apart l z e1 := k.foldl fun d e _ kd => Apart.ite (pReach_apart hl e.1 e.2.1 kd) (pLose_apart hl e.1 kd)
    have h2 : Apart l z (e2.wrF R.PNL_REGMAP ⟨r, 1⟩ 0) := wrF_apart_out hl (.inr (by decide)) _ _ (h1.of_parts rfl rfl)
    exact Apart.ite (raiseIf_apart hl _ _ (push_apart hl 55 _ _ h2)) h2

theorem pCut_apart (cause : Nat) (k : Apart l z d) : Apart l z (d.pCut cause) :=
  Apart.ite k (happen_apart _ (flagEv_apart hl (.inr (by decide)) 22 241 (k.foldl fun _ r _ kd => pCutRegion_apart hl r kd)))

theorem pnlGain_apart (k : Apart l z d) : Apart l z d.pnlGain :=
  k.foldl fun _ _ _ kd => Apart.ite (wrF_apart_out hl (.inr (by decide)) _ _ kd) kd

/-! Functions -/

omit hl in
/-- The control register of a function other than the link lies outside the pair's block. -/
theorem Func.reg_out {f : Func} (h : f ≠ .link) : f.reg < 0x120000 ∨ 0x160000 ≤ f.reg := by
  cases f with
  | xch n => simp only [Func.reg, R.XCH_CTRL]; omega
  | supply n => simp only [Func.reg, R.LOP_SUPCTRL]; omega
  | qch n => simp only [Func.reg, R.QCH_PWR]; omega
  | panel => exact .inr (by decide)
  | link => exact absurd rfl h

theorem fEntered_apart {f : Func} (hf : f ≠ .link) (st : Nat) (k : Apart l z d) : Apart l z (d.fEntered f st) := by
  have hst : Apart l z (d.wrF f.reg fSTATE st) := wrF_apart_out hl (Func.reg_out hf) _ _ k
  unfold Dev.fEntered
  cases f with
  | xch n =>
    exact raiseIf_apart hl _ _ (xStateRelease_apart hl n.isLt
      (Apart.ite (setXc_apart _ _ (Apart.ite (setXc_apart _ _ hst) hst)) (Apart.ite (setXc_apart _ _ hst) hst)))
  | supply n => exact raiseIf_apart hl _ _ (Apart.ite (setLi_apart _ _ hst) (lSupplyOff_apart hl n.isLt _ hst))
  | qch n => exact qSwitches_apart (Apart.ite (qPowerLost_apart hl n.isLt hst) hst)
  | panel =>
    have hcut := Apart.ite (c := st = 3) (pCut_apart hl (if (d.wrF Func.panel.reg fSTATE st).holder then 1 else 2) hst) hst
    exact raiseIf_apart hl _ _ (Apart.ite (setPnl_apart _ hcut) hcut)
  | link => exact absurd rfl hf

theorem fShut_apart {f : Func} (hf : f ≠ .link) (k : Apart l z d) : Apart l z (d.fShut f) := Apart.ite (fEntered_apart hl hf 3 k) k

theorem fStart_apart {f : Func} (hf : f ≠ .link) (k : Apart l z d) : Apart l z (d.fStart f) := Apart.ite k (fEntered_apart hl hf 1 k)

theorem fForce_apart {f : Func} (hf : f ≠ .link) (k : Apart l z d) : Apart l z (d.fForce f) :=
  fShut_apart hl hf (wrF_apart_out hl (Func.reg_out hf) _ _ (wrF_apart_out hl (Func.reg_out hf) _ _ k))

theorem fForceAll_apart {p : Func → Bool} (hp : p .link = false) (k : Apart l z d) : Apart l z (d.fForceAll p) :=
  k.foldl fun _ f hf kd => fForce_apart hl (fun h => by
    have := (List.mem_filter.mp hf).2
    rw [h, hp] at this
    exact absurd this (by decide)) kd

theorem fEnable_apart {f : Func} (hf : f ≠ .link) (en : Bool) (k : Apart l z d) : Apart l z (d.fEnable f en) := by
  have hen : Apart l z (d.wrF f.reg fEN (b2n en)) := wrF_apart_out hl (Func.reg_out hf) _ _ k
  unfold Dev.fEnable
  extract_lets d1
  split
  · exact Apart.ite (fStart_apart hl hf hen) hen
  · exact wrF_apart_out hl (Func.reg_out hf) _ _ hen
  · exact Apart.ite hen (fShut_apart hl hf hen)

theorem xUnlock_apart (n : Nat) (k : Apart l z d) : Apart l z (d.xUnlock n) :=
  (wrF_apart_out hl (.inl (by decide)) _ _ k).of_parts rfl rfl

theorem fLoss_apart (k : Apart l z d) : Apart l z d.fLoss := by
  unfold Dev.fLoss
  extract_lets d1
  have h1 : Apart l z d1 := k.range fun _ n hn kd => wrF_apart_out hl (.inl (by simp only [R.LOP_SUPCTRL]; omega)) _ _ kd
  have hcut : Apart l z d1.xCut := h1.range fun _ _ _ kd => kd.of_parts rfl rfl
  exact (fForceAll_apart hl (p := Func.byToken) rfl hcut).range fun _ n _ kd => xUnlock_apart hl n kd

theorem fGain_apart (k : Apart l z d) : Apart l z d.fGain := by
  refine (k.range fun _ n _ kd => xUnlock_apart hl n kd).foldl fun d f _ kd => ?_
  have hstart {f : Func} (hf : f ≠ .link) :
      Apart l z (if f.byToken && d.fEn f && !d.fForced f && d.fState f == 0 then d.fStart f else d) :=
    Apart.ite (fStart_apart hl hf kd) kd
  cases f with
  | xch n => exact hstart (by simp)
  | supply n =>
    have hmen : Apart l z (d.wrF (Func.supply n).reg F.LOP_SUPCTRL_MEN 0) := wrF_apart_out hl (Func.reg_out (by simp)) _ _ kd
    exact Apart.ite (Apart.ite (hmen.of_parts rfl rfl) hmen) (fEnable_apart hl (by simp) _ hmen)
  | qch n => exact hstart (by simp)
  | panel => exact hstart (by simp)
  | link => exact kd

end

/-! Outputs, loop outputs, the bus, HART -/

section
variable {l : List (Nat × Field)} {z d : Dev} (hl : FieldsPair l)
include hl

theorem setLevel_apart (m : Nat) (b : Bool) (k : Apart l z d) : Apart l z (d.setLevel m b) :=
  (wrF_apart_out hl (.inl (by decide)) _ _ k).of_parts rfl rfl

omit hl in
theorem setDio_apart (f : Contacts → Contacts) (k : Apart l z d) : Apart l z (d.setDio f) := k.of_parts rfl rfl

omit hl in
theorem setCan_apart (f : Can → Can) (k : Apart l z d) : Apart l z (d.setCan f) := k.of_parts rfl rfl

omit hl in
theorem setCanCh_apart (n : Nat) (f : CanCh → CanCh) (k : Apart l z d) : Apart l z (d.setCanCh n f) := setCan_apart _ k

omit hl in
theorem setQueue_apart (q : Nat) (x : List QElem) (k : Apart l z d) : Apart l z (d.setQueue q x) := k.of_parts rfl rfl

omit hl in
theorem diSource_apart (on : Bool) (k : Apart l z d) : Apart l z (d.diSource on) := by
  unfold Dev.diSource
  extract_lets now
  exact setDio_apart _ k

theorem doLoss_apart (k : Apart l z d) : Apart l z d.doLoss :=
  diSource_apart false (setDio_apart _ (wr_apart hl (a := R.DIO_OUT) (.inl (by decide)) 0 k))

theorem doGain_apart (k : Apart l z d) : Apart l z d.doGain := by
  have h1 := diSource_apart true k
  exact Apart.ite h1 (h1.range fun _ m _ kd => Apart.ite (setLevel_apart hl m _ kd) kd)

theorem loLoss_apart (k : Apart l z d) : Apart l z d.loLoss := by
  refine k.range fun d n hn kd => ?_
  have hsts : R.LOP_OSTS n < 0x120000 := by simp only [R.LOP_OSTS]; omega
  have hact : R.LOP_OACT n < 0x120000 := by simp only [R.LOP_OACT]; omega
  exact wrFs_apart hl (.inl hsts) _ (wrF_apart_out hl (.inl hact) _ _ (wrF_apart_out hl (.inl hsts) _ _ kd))

theorem loGain_apart (k : Apart l z d) : Apart l z d.loGain := by
  refine k.range fun d n hn kd => ?_
  have hsts : R.LOP_OSTS n < 0x120000 := by simp only [R.LOP_OSTS]; omega
  have hact : R.LOP_OACT n < 0x120000 := by simp only [R.LOP_OACT]; omega
  extract_lets m d1
  have h1 : Apart l z d1 := kd.of_parts rfl rfl
  exact Apart.ite (wrF_apart_out hl (.inl hact) _ _ (wrF_apart_out hl (.inl hsts) _ _ h1)) h1

theorem loEmit_apart {n : Nat} (hn : n < 4) (x : SetIn) (k : Apart l z d) : Apart l z (d.loEmit n x) := by
  have hsts : R.LOP_OSTS n < 0x120000 := by simp only [R.LOP_OSTS]; omega
  have hact : R.LOP_OACT n < 0x120000 := by simp only [R.LOP_OACT]; omega
  unfold Dev.loEmit
  extract_lets s low sp changed d1 d2
  have h2 : Apart l z d2 := wrF_apart_out hl (.inl hsts) _ _ (k.of_parts rfl rfl)
  exact Apart.ite (wrF_apart_out hl (.inl hact) _ _ (wrF_apart_out hl (.inl hsts) _ _ h2))
    (wrF_apart_out hl (.inl hact) _ _ (wrF_apart_out hl (.inl hsts) _ _ h2))

/-! The bus -/

theorem showBacklog_apart {n : Nat} (hn : n < 4) (k : Apart l z d) : Apart l z (d.showBacklog n) :=
  wrF_apart_out hl (.inl (by simp only [R.CAN_BACKLOG]; omega)) _ _ k

theorem txDigest_apart (ch id res buf attempts stamp idw : Nat) (k : Apart l z d) :
    Apart l z (d.txDigest ch id res buf attempts stamp idw) := raise_apart hl _ (push_apart hl 52 _ none k)

theorem setBuf_apart {n k : Nat} (hn : n < 4) (hk : k < 3) (b : Option TxBuf) (h : Apart l z d) : Apart l z (d.setBuf n k b) := by
  have hreg : R.CAN_TXB n k < 0x120000 := by simp only [R.CAN_TXB]; omega
  have hshow {e : Dev} (he : Apart l z e) : Apart l z (e.showBuf n k) := by
    unfold Dev.showBuf
    split
    · exact wrFs_apart hl (.inl hreg) _ he
    · exact wrFs_apart hl (.inl hreg) _ he
  exact hshow (setCan_apart _ h)

theorem canLoss_apart (k : Apart l z d) : Apart l z d.canLoss := by
  refine k.range fun d n hn kd => ?_
  extract_lets d1 d2 d3 d4 qs queues d5
  have h1 : Apart l z d1 := Apart.ite (wrF_apart_out hl (.inl (by simp only [R.CAN_MODE]; omega)) _ _ kd) kd
  have h2 : Apart l z d2 := h1.range fun d j hj kj => by
    split
    · exact setBuf_apart hl hn hj none (Apart.ite (txDigest_apart hl _ _ _ _ _ _ _ kj) kj)
    · exact kj
  clear_value d2
  have h3 : Apart l z d3 := h2.foldl fun d e _ ke => Apart.ite (txDigest_apart hl _ _ _ _ _ _ _ ke) ke
  clear_value d3
  have h4 : Apart l z d4 := setQueue_apart _ _ (setQueue_apart _ _ (setQueue_apart _ _ h3))
  clear_value d4
  have h5 : Apart l z d5 := h4.of_parts rfl (by simp only [Dev.settled, d5])
  clear_value d5
  exact showBacklog_apart hl hn (setCanCh_apart n _ h5)

theorem placeFrame_apart {n : Nat} (hn : n < 4) (e : LEntry) (resend resync : Bool) (k : Apart l z d) :
    Apart l z (d.placeFrame n e resend resync) := by
  unfold Dev.placeFrame
  extract_lets p q el
  exact Apart.ite k (Apart.ite (setCan_apart _ k) (Apart.ite (showBacklog_apart hl hn (setCan_apart _ k))
    (Apart.ite (setQueue_apart _ _ k) (showBacklog_apart hl hn (setCan_apart _ (refuse_apart hl q k))))))

theorem placeOwed_apart (resync : Bool) (k : Apart l z d) : Apart l z (d.placeOwed resync) := by
  have hfold {n : Nat} (hn : n < 4) (ss : List Nat) (x : Dev × List Nat) (hx : Apart l z x.1) :
      Apart l z (ss.foldl (fun (x : Dev × List Nat) s =>
        match x.1.jrn.entryAt s with
        | some e =>
          let st := byteAt e.payload 0
          (x.1.placeFrame n e true (resync && !x.2.contains st), st :: x.2)
        | none => x) x).1 := by
    induction ss generalizing x with
    | nil => exact hx
    | cons s t ih =>
      refine ih _ ?_
      dsimp only
      split
      · exact placeFrame_apart hl hn _ true _ hx
      · exact hx
  exact k.range fun d n hn kd => hfold hn _ (d, []) kd

theorem rxAct_apart {ch : Nat} (hch : ch < 4) (stamp : Nat) (f : Frame) (r : RxRec) (k : Apart l z d) :
    Apart l z (d.rxAct ch stamp f r) := by
  have hstat : Apart l z (d.flag (R.CAN_STAT ch) 5) := flag_apart hl (.inl (by simp only [R.CAN_STAT]; omega)) 5 k
  have hremote (p : Nat) (v : Int) : Apart l z (d.remoteUpdate p v stamp ch) := by
    unfold Dev.remoteUpdate
    extract_lets x newer take
    exact Apart.ite (setCan_apart _ k) k
  exact Apart.ite (Apart.ite hstat (hremote _ _)) (Apart.ite hstat (k.of_parts rfl rfl))

omit hl in
/-- A receive entry is of one of the four channels. -/
theorem rxEntries_channel {ch : Nat} {f : Frame} (h : d.rxEntries ch f ≠ []) : ch < 4 := by
  obtain ⟨r, hr⟩ := List.exists_mem_of_ne_nil _ h
  have hmatch : r.idMatch ch f = true := (List.mem_filter.mp hr).2
  simp only [RxRec.idMatch, Bool.and_eq_true] at hmatch
  have hbit := hmatch.1.2
  rw [bitOf_eq_testBit] at hbit
  exact Nat.lt_of_not_le fun hle => by
    have hlt : r.chmask.toNat < 2 ^ ch := Nat.lt_of_lt_of_le r.chmask.isLt (Nat.pow_le_pow_right (by decide) hle)
    rw [Nat.testBit_lt_two_pow hlt] at hbit
    exact absurd hbit (by decide)

theorem rxMap_apart (ch stamp : Nat) (f : Frame) (remotes : Bool) (k : Apart l z d) : Apart l z (d.rxMap ch stamp f remotes).1 := by
  by_cases hnone : d.rxEntries ch f = []
  · have hmap : (d.rxMap ch stamp f remotes).1 = d := by
      simp [Dev.rxMap, hnone]
    rw [hmap]
    exact k
  · have hch := rxEntries_channel hnone
    have hstat : R.CAN_STAT ch < 0x120000 := by simp only [R.CAN_STAT]; omega
    have hcnt : R.CAN_CNT ch < 0x120000 := by simp only [R.CAN_CNT]; omega
    have hacts {e : Dev} (ke : Apart l z e) (rs : List RxRec) :
        Apart l z (if e.holder then rs.foldl (fun d r => d.rxAct ch stamp f r) e else e) :=
      Apart.ite (ke.foldl fun _ r _ kd => rxAct_apart hl hch stamp f r kd) ke
    unfold Dev.rxMap
    extract_lets es bad d1 hit
    split
    · have h1 : Apart l z d1 := flagEv_apart hl (.inl hstat) 7 _ k
      exact Apart.ite (incF_apart hl (.inl hcnt) _ h1) h1
    · split
      · exact hacts k _
      · extract_lets j d1 d2 fld
        have h1 : Apart l z d1 := setCan_apart _ k
        have h2 : Apart l z d2 := Apart.ite (flag_apart hl (.inl hstat) 6 (incF_apart hl (.inl hcnt) _ h1)) h1
        split
        · exact hacts h2 _
        · exact wrF_apart_out hl (.inl (by simp only [R.CAN_DUPCNT]; omega)) _ _ h2

theorem canGain_apart (resync : Bool) (k : Apart l z d) : Apart l z (d.canGain resync) := by
  unfold Dev.canGain
  extract_lets d1 d2 g frames
  have h1 : Apart l z d1 := k.range fun d n hn kd =>
    setCan_apart _ (Apart.ite (wrF_apart_out hl (.inl (by simp only [R.CAN_MODE]; omega)) _ _ kd) kd)
  have h2 : Apart l z d2 := placeOwed_apart hl resync h1
  have hdup : Apart l z d2.dupRebuild :=
    (setCan_apart _ h2).foldl fun d e _ kd => Apart.ite (setCan_apart _ kd) kd
  exact hdup.foldl fun d x _ kd => rxMap_apart hl x.2.1 0 x.2.2 false kd

/-! HART -/

omit hl in
theorem setHart_apart (n : Nat) (f : Hart → Hart) (k : Apart l z d) : Apart l z (d.setHart n f) := k.of_parts rfl rfl

omit hl in
theorem hartLoss_apart (k : Apart l z d) : Apart l z d.hartLoss := k.range fun _ n _ kd => setHart_apart n _ kd

omit hl in
theorem hartEntry_apart (n : Nat) (tx : HartTx) (ref : HostRef) (res rc fd : Nat) (data : List Byte) (k : Apart l z d) :
    Apart l z (d.hartEntry n tx ref res rc fd data) := by
  unfold Dev.hartEntry
  extract_lets e ps
  exact setHart_apart n _ (happen_apart _ k)

theorem hartDone_apart {n : Nat} (hn : n < 16) (tx : HartTx) (res rc fd : Nat) (data : List Byte) (k : Apart l z d) :
    Apart l z (d.hartDone n tx res rc fd data) := by
  have hsts : R.LOP_HSTAT n < 0x120000 := by simp only [R.LOP_HSTAT]; omega
  unfold Dev.hartDone
  extract_lets d1 d2 d3
  have h1 : Apart l z d1 := setHart_apart n _ k
  have h2 : Apart l z d2 := Apart.ite (flagEv_apart hl (.inl hsts) 22 98 h1) h1
  have h3 : Apart l z d3 := Apart.ite (flagEv_apart hl (.inl hsts) 20 101 h2) h2
  split
  · exact hartEntry_apart n tx _ res rc fd data h3
  · exact h3

theorem hartTake_apart {n : Nat} (hn : n < 16) (o : List Byte × HostRef) (k : Apart l z d) : Apart l z (d.hartTake n o) := by
  unfold Dev.hartTake
  extract_lets tx
  split
  · exact Apart.ite k (pushFree_apart hl _ _ _ k)
  · split
    · exact hartDone_apart hl hn _ _ _ _ _ (setHart_apart n _ k)
    · exact setHart_apart n _ k

theorem hartTakeover_apart (k : Apart l z d) : Apart l z d.hartTakeover :=
  k.range fun _ n hn kd => setHart_apart n _ (kd.foldl fun _ o _ ko => hartTake_apart hl hn o ko)

/-! The token gained and lost (R349, R374) -/

/-- What the units do when the token comes. -/
theorem holderStart_apart (resync : Bool) (k : Apart l z d) : Apart l z (d.holderStart resync) := by
  unfold Dev.holderStart
  extract_lets d1 d2
  have h1 : Apart l z d1 := canGain_apart hl resync (loGain_apart hl (doGain_apart hl (fGain_apart hl k)))
  clear_value d1
  have h2 : Apart l z d2 := uRoleChange_apart hl (qSwitches_apart (qRoleChange_apart hl (hartTakeover_apart hl h1)))
  clear_value d2
  exact setJrn_apart _ (pnlGain_apart hl h2)

/-- What the units do when the token goes. -/
def Dev.unitsLoss (d : Dev) : Dev := (((((d.fLoss.doLoss).loLoss).canLoss).hartLoss).qRoleChange.qSwitches).uRoleChange

theorem unitsLoss_apart (k : Apart l z d) : Apart l z d.unitsLoss :=
  uRoleChange_apart hl (qSwitches_apart (qRoleChange_apart hl (hartLoss_apart (canLoss_apart hl (loLoss_apart hl
    (doLoss_apart hl (fLoss_apart hl k)))))))

end

end Sys2Proof.Machine
end

section
/-!
PROOFS. What each device of a pair hears of the other (R293, R349, R367, R375, R389).
-/
namespace Sys2Proof.Machine

/-! The role (R349) -/

section
variable (d : Dev)

/-- A role that changes is written, told with EV192, and sets write-through. -/
theorem setRole_eq {r : Nat} (h : d.role ≠ r) :
    ∃ on w, d.setRole r = { ((d.wrF R.PAR_ROLE F.PAR_ROLE_ROLE r).raise 192).writeThrough on with wtc := w } := by
  unfold Dev.setRole
  rw [if_neg h]
  extract_lets was d1 d2 now
  split
  · exact ⟨_, d2.wtc, rfl⟩
  · exact ⟨_, _, rfl⟩

/-- Of the low registers a change of the role writes PAR_ROLE and JRN_STAT. -/
theorem rd_setRole_other (r : Nat) {x : Nat} (hx : x < 0x170000) (hrole : x ≠ R.PAR_ROLE) (hjrn : x ≠ R.JRN_STAT) :
    (d.setRole r).rd x = d.rd x := by
  by_cases h : d.role = r
  · rw [Dev.setRole, if_pos h]
  · obtain ⟨on, w, he⟩ := setRole_eq d h
    rw [he]
    exact (rd_wr_other _ _ _ _ hjrn).trans ((rd_raise_low _ 192 hx).trans (rd_wr_other d _ _ _ hrole))

theorem rd_setRole_role {r : Nat} (h : d.role ≠ r) : (d.setRole r).rd R.PAR_ROLE = (d.wrF R.PAR_ROLE F.PAR_ROLE_ROLE r).rd R.PAR_ROLE := by
  obtain ⟨on, w, he⟩ := setRole_eq d h
  rw [he]
  exact (rd_wr_other _ _ _ _ (by decide)).trans (rd_raise_low _ 192 (by decide))

theorem role_setRole {r : Nat} (hr : r < 8) : (d.setRole r).role = r := by
  by_cases h : d.role = r
  · rw [Dev.setRole, if_pos h]
    exact h
  · exact (rdF_congr (rd_setRole_role d h) _).trans (rdF_wrF_of_lt d _ _ (by decide) hr)

theorem rdF_setRole_apart (r : Nat) {f : Field} (hf : 3 ≤ f.lo) : (d.setRole r).rdF R.PAR_ROLE f = d.rdF R.PAR_ROLE f := by
  by_cases h : d.role = r
  · rw [Dev.setRole, if_pos h]
  · exact (rdF_congr (rd_setRole_role d h) _).trans (rdF_wrF_apart d _ f F.PAR_ROLE_ROLE (.inr hf) r)

theorem settled_setRole (r : Nat) : (d.setRole r).settled = d.settled := by
  by_cases h : d.role = r
  · rw [Dev.setRole, if_pos h]
  · obtain ⟨on, w, he⟩ := setRole_eq d h
    rw [he]
    simp [Dev.settled, Dev.writeThrough]

end

/-! The loss of the token (R349, R374) -/

/-- The registers of a device that gives its token up. -/
def Dev.tokenGone (d : Dev) : Dev :=
  ((d.wrF R.PAR_ROLE F.PAR_ROLE_HOLD 1).setRole 0).wrFs R.PAR_ROLE [(F.PAR_ROLE_TOKEN, 0), (F.PAR_ROLE_LINE, 1), (F.PAR_ROLE_PEERUP, 0)]

section
variable (d : Dev)

theorem tokenLoss_eq : d.tokenLoss =
    (d.tokenGone.unitsLoss.castleEnd).setTurn (fun t => { t with run := none, toEmit := [], places := [] }) := rfl

theorem rd_tokenGone_other {x : Nat} (hx : x < 0x170000) (hrole : x ≠ R.PAR_ROLE) (hjrn : x ≠ R.JRN_STAT) :
    d.tokenGone.rd x = d.rd x :=
  (rd_wr_other _ _ _ _ hrole).trans ((rd_setRole_other _ 0 hx hrole hjrn).trans (rd_wr_other d _ _ _ hrole))

theorem rdF_tokenGone (f : Field) : d.tokenGone.rdF R.PAR_ROLE f = getF f (putF F.PAR_ROLE_PEERUP (putF F.PAR_ROLE_LINE
    (putF F.PAR_ROLE_TOKEN (((d.wrF R.PAR_ROLE F.PAR_ROLE_HOLD 1).setRole 0).rd R.PAR_ROLE) 0) 1) 0) := by
  simp only [Dev.tokenGone, Dev.wrFs, Dev.rdF, rd_wr_same, List.foldl_cons, List.foldl_nil]

/-- The fields of PAR_ROLE after the loss of the token: the peer's and the pair's stay. -/
theorem tokenGone_spec : d.tokenGone.role = 0 ∧ d.tokenGone.rdF R.PAR_ROLE F.PAR_ROLE_TOKEN = 0 ∧
    d.tokenGone.rdF R.PAR_ROLE F.PAR_ROLE_LINE = 1 ∧ d.tokenGone.rdF R.PAR_ROLE F.PAR_ROLE_HOLD = 1 ∧
    d.tokenGone.rdF R.PAR_ROLE F.PAR_ROLE_PEERROLE = d.rdF R.PAR_ROLE F.PAR_ROLE_PEERROLE := by
  have hrole (f : Field) (hf : 3 ≤ f.lo) : getF f (((d.wrF R.PAR_ROLE F.PAR_ROLE_HOLD 1).setRole 0).rd R.PAR_ROLE)
      = (d.wrF R.PAR_ROLE F.PAR_ROLE_HOLD 1).rdF R.PAR_ROLE f := rdF_setRole_apart (d.wrF R.PAR_ROLE F.PAR_ROLE_HOLD 1) 0 hf
  refine ⟨?_, ?_, ?_, ?_, ?_⟩
  · rw [Dev.role, rdF_tokenGone, getF_putF_apart _ _ (by decide), getF_putF_apart _ _ (by decide), getF_putF_apart _ _ (by decide)]
    exact role_setRole (d.wrF R.PAR_ROLE F.PAR_ROLE_HOLD 1) (by decide)
  · rw [rdF_tokenGone, getF_putF_apart _ _ (by decide), getF_putF_apart _ _ (by decide), getF_putF _ (by decide)]
    rfl
  · rw [rdF_tokenGone, getF_putF_apart _ _ (by decide), getF_putF _ (by decide)]
    rfl
  · rw [rdF_tokenGone, getF_putF_apart _ _ (by decide), getF_putF_apart _ _ (by decide), getF_putF_apart _ _ (by decide),
      hrole _ (by decide)]
    exact rdF_wrF_of_lt d _ _ (by decide) (by decide)
  · rw [rdF_tokenGone, getF_putF_apart _ _ (by decide), getF_putF_apart _ _ (by decide), getF_putF_apart _ _ (by decide),
      hrole _ (by decide)]
    exact rdF_wrF_apart d _ _ _ (by decide) _

/-- What is apart in every field of a register leaves the register. -/
theorem rd_of_apart {d e : Dev} {x : Nat} (k : Apart [(x, ⟨0, 32⟩)] d e) : e.rd x = d.rd x := by
  have hfield := k.fields.field_eq (List.mem_singleton_self _)
  have hwhole (e : Dev) : e.rdF x ⟨0, 32⟩ = (e.rd x).toNat := by
    have := (e.rd x).isLt
    simp only [Dev.rdF, getF, Nat.pow_zero, Nat.div_one]
    exact Nat.mod_eq_of_lt this
  rw [hwhole, hwhole] at hfield
  exact BitVec.eq_of_toNat_eq hfield

/-- A single register of the pair's block, whole. -/
theorem fieldsPair_single {x : Nat} (hlow : 0x120000 ≤ x) (hhigh : x < 0x160000) : FieldsPair [(x, ⟨0, 32⟩)] := by
  simp only [FieldsPair, List.forall_mem_cons, List.not_mem_nil, false_implies, implies_true, and_true]
  exact ⟨hlow, hhigh⟩

theorem rd_castled (e : Dev) (f : Turn → Turn) (x : Nat) : (e.castleEnd.setTurn f).rd x = e.rd x := rfl

/-- The loss of the token leaves the pair's registers but PAR_ROLE alone; of PAR_ROLE the fields are those of `tokenGone_spec`. -/
theorem rd_tokenLoss {x : Nat} (hlow : 0x120000 ≤ x) (hhigh : x < 0x160000) : d.tokenLoss.rd x = d.tokenGone.rd x := by
  rw [tokenLoss_eq, rd_castled]
  exact rd_of_apart (unitsLoss_apart (fieldsPair_single hlow hhigh) (.refl _ d.tokenGone))

end

/-! The standby out of service (R364, R367) -/

section
variable {d : Dev}

theorem holder_of_active (h : d.role = 2) : d.holder = true := by simp [Dev.holder, h]

theorem peerUp_of_field {v : Nat} (h : d.rdF R.PAR_ROLE F.PAR_ROLE_PEERUP = v) : d.peerUp = (v == 1) := by rw [Dev.peerUp, h]

theorem formPair_standbyGone (h : d.holder = true) (data : List Byte) :
    d.formPair 0x7 data = (d.happen (pairEntry 0x7 data)).raise 203 := by
  simp [Dev.formPair, h]

/-- An active whose commit does not wait for the standby goes on without it, with EV203. -/
theorem standbyGone_spec (hrole : d.role = 2) (hpeer : d.peerUp = true)
    (hrun : d.turn.run.map TurnRun.phase ≠ some .waiting) (x : Nat) :
    (d.standbyGone (some x)).peerUp = false ∧ (d.standbyGone (some x)).role = 2 ∧
    (d.standbyGone (some x)).evPending 203 = true ∧ (d.standbyGone (some x)).turn = d.turn := by
  obtain ⟨e, he⟩ : ∃ e, e = ((d.wrF R.PAR_ROLE F.PAR_ROLE_PEERUP 0).setPair (fun p => { p with planned := none, plannedTurn := none })).wrF
    R.VLT_STGSTAT F.VLT_STGSTAT_PEERRDY 0 := ⟨_, rfl⟩
  have hrd (f : Field) : e.rdF R.PAR_ROLE f = (d.wrF R.PAR_ROLE F.PAR_ROLE_PEERUP 0).rdF R.PAR_ROLE f := by
    rw [he]
    exact rdF_wrF_other _ _ _ _ _ _ (by decide)
  have herole : e.role = 2 := (hrd _).trans ((rdF_wrF_apart d _ _ _ (by decide) _).trans hrole)
  have hepeer : e.peerUp = false := by
    rw [peerUp_of_field ((hrd _).trans (rdF_wrF_of_lt d _ _ (by decide) (v := 0) (by decide)))]
    rfl
  have hturn : e.turn = d.turn := by rw [he]; rfl
  obtain ⟨g, hg⟩ : ∃ g, g = (e.happen (pairEntry 0x7 [byteOf x])).raise 203 := ⟨_, rfl⟩
  have hgturn : g.turn = d.turn := by simp [hg, hturn]
  have hgrd {a : Nat} (ha : a < 0x170000) (f : Field) : g.rdF a f = e.rdF a f := by
    rw [hg]
    exact rdF_raise_low (e.happen (pairEntry 0x7 [byteOf x])) 203 ha f
  have hgone : d.standbyGone (some x) = g := by
    have hguard : ¬ (d.role ≠ 2 ∨ (!d.peerUp) = true) := by simp [hrole, hpeer]
    unfold Dev.standbyGone
    rw [if_neg hguard]
    simp only [← he, formPair_standbyGone (holder_of_active herole), ← hg, hgturn]
    split
    next r hr => rw [if_neg (fun h => hrun (by rw [hr, Option.map_some, h]))]
    · rfl
  rw [hgone]
  refine ⟨?_, (hgrd (by decide) _).trans herole, ?_, hgturn⟩
  · rw [Dev.peerUp, hgrd (by decide)]
    exact hepeer
  · rw [hg]
    exact evPending_raise_same _ (by decide)

/-- A standby that shows a danger, or no report, is reset and out of service (R367, R389). -/
theorem resetPeer_spec (hrole : d.role = 2) (hpeer : d.peerUp = true) (hrun : d.turn.run.map TurnRun.phase ≠ some .waiting) :
    d.resetPeer.peerUp = false ∧ d.resetPeer.role = 2 ∧ d.resetPeer.evPending 203 = true ∧ d.resetPeer.turn = d.turn := by
  have hl : FieldsPair [(R.PAR_ROLE, F.PAR_ROLE_ROLE), (R.PAR_ROLE, F.PAR_ROLE_PEERUP)] := by
    simp only [FieldsPair, List.forall_mem_cons, List.not_mem_nil, false_implies, implies_true, and_true]
    decide
  have hkeep := send63_keeps hl.panel [0x07] (.refl _ d)
  have hturn : (d.send63 [0x07]).turn = d.turn := (send63_turn d _).1
  obtain ⟨hgone, hrole', hev, hturn'⟩ := standbyGone_spec (d := d.send63 [0x07])
    ((hkeep.field_eq (by simp)).trans hrole)
    ((congrArg (· == 1) (hkeep.field_eq (f := F.PAR_ROLE_PEERUP) (by simp))).trans hpeer) (by rwa [hturn]) 1
  exact ⟨hgone, hrole', hev, hturn'.trans hturn⟩

/-! Both tokens held (R349) -/

/-- A device with PAIR_ID high lets its token go; the other keeps its own. -/
theorem roleMsg_conflict {bytes : List Byte} (hrole : d.role = 2) (hboth : byteAt bytes 8 = 1) :
    (d.roleMsg bytes).rdF R.PAR_ROLE F.PAR_ROLE_PEERROLE = byteAt bytes 1 % 8 ∧
    (d.roleMsg bytes).rdF R.PAR_STAT F.PAR_STAT_TOKCONF = 1 ∧ (d.roleMsg bytes).evPending 204 = true ∧
    (d.rdF R.PAR_ROLE F.PAR_ROLE_IDHI = 1 → (d.roleMsg bytes).role = 0 ∧
      (d.roleMsg bytes).rdF R.PAR_ROLE F.PAR_ROLE_TOKEN = 0 ∧ (d.roleMsg bytes).rdF R.PAR_ROLE F.PAR_ROLE_LINE = 0) ∧
    (d.rdF R.PAR_ROLE F.PAR_ROLE_IDHI ≠ 1 → (d.roleMsg bytes).role = 2 ∧ (d.roleMsg bytes).turn = d.turn) := by
  obtain ⟨e, he⟩ : ∃ e, e = d.wrF R.PAR_ROLE F.PAR_ROLE_PEERROLE (byteAt bytes 1 % 8) := ⟨_, rfl⟩
  have hpeer : e.rdF R.PAR_ROLE F.PAR_ROLE_PEERROLE = byteAt bytes 1 % 8 := by
    rw [he]
    exact rdF_wrF_of_lt d _ _ (by decide) (Nat.mod_lt _ (by decide))
  have hkeep (f : Field) (hf : f.lo + f.width ≤ 4 ∨ 7 ≤ f.lo) : e.rdF R.PAR_ROLE f = d.rdF R.PAR_ROLE f := by
    rw [he]
    exact rdF_wrF_apart d _ f F.PAR_ROLE_PEERROLE (by simp only [F.PAR_ROLE_PEERROLE]; omega) _
  have herole : e.role = 2 := (hkeep F.PAR_ROLE_ROLE (by decide)).trans hrole
  have hid : e.rdF R.PAR_ROLE F.PAR_ROLE_IDHI = d.rdF R.PAR_ROLE F.PAR_ROLE_IDHI := hkeep _ (by decide)
  have hmsg : d.roleMsg bytes = if d.rdF R.PAR_ROLE F.PAR_ROLE_IDHI = 1
      then (e.tokenLoss.wrF R.PAR_ROLE F.PAR_ROLE_LINE 0).flagEv R.PAR_STAT 7 204 else e.formPair 0xB [1] := by
    unfold Dev.roleMsg
    simp only [← he, herole, ne_eq, not_true_eq_false, if_false, hboth, if_true, hid]
  by_cases hhigh : d.rdF R.PAR_ROLE F.PAR_ROLE_IDHI = 1
  · rw [if_pos hhigh] at hmsg
    obtain ⟨g, hg⟩ : ∃ g, g = e.tokenLoss := ⟨_, rfl⟩
    have hgrd (f : Field) : g.rdF R.PAR_ROLE f = e.tokenGone.rdF R.PAR_ROLE f := by
      rw [hg]
      exact rdF_congr (rd_tokenLoss e (by decide) (by decide)) f
    rw [← hg] at hmsg
    obtain ⟨hrole0, htoken, -, -, hpeer'⟩ := tokenGone_spec e
    have hend (f : Field) (hf : f.lo + f.width ≤ 9 ∨ 10 ≤ f.lo) : (d.roleMsg bytes).rdF R.PAR_ROLE f = e.tokenGone.rdF R.PAR_ROLE f := by
      rw [hmsg, rdF_flagEv_other (g.wrF R.PAR_ROLE F.PAR_ROLE_LINE 0) (by decide) (by decide), ← hgrd]
      exact rdF_wrF_apart g _ f F.PAR_ROLE_LINE (by simp only [F.PAR_ROLE_LINE]; omega) _
    refine ⟨(hend _ (by decide)).trans (hpeer'.trans hpeer), ?_, ?_, fun _ => ⟨(hend F.PAR_ROLE_ROLE (by decide)).trans hrole0,
      (hend _ (by decide)).trans htoken, ?_⟩, fun h => absurd hhigh h⟩
    · rw [hmsg]
      exact rdF_flagEv_same _ (by decide) (by decide) _
    · rw [hmsg]
      exact evPending_flagEv_same _ _ _ (by decide)
    · rw [hmsg, rdF_flagEv_other _ (by decide) (by decide)]
      exact rdF_wrF_of_lt g _ _ (by decide) (by decide)
  · rw [if_neg hhigh] at hmsg
    have hform : e.formPair 0xB [1] = (e.happen (pairEntry 0xB [1])).flagEv R.PAR_STAT 7 204 := by
      simp [Dev.formPair, holder_of_active herole]
    rw [hform] at hmsg
    have hend (f : Field) : (d.roleMsg bytes).rdF R.PAR_ROLE f = e.rdF R.PAR_ROLE f := by
      rw [hmsg]
      exact rdF_flagEv_other (e.happen (pairEntry 0xB [1])) (by decide) (by decide) 7 204 f
    refine ⟨(hend _).trans hpeer, ?_, ?_, fun h => absurd h hhigh, fun _ => ⟨(hend _).trans herole, ?_⟩⟩
    · rw [hmsg]
      exact rdF_flagEv_same _ (by decide) (by decide) _
    · rw [hmsg]
      exact evPending_flagEv_same _ _ _ (by decide)
    · rw [hmsg, he]
      simp

end

/-- A reset of the die: no role, the start-up to come, and its cause. -/
theorem resetAs_spec (d : Dev) {cause : Nat} (hc : cause < 16) (detail : Nat) :
    (d.resetAs cause detail).pwr.boot = 1 ∧ (d.resetAs cause detail).role = 0 ∧
    (d.resetAs cause detail).rdF R.PWR_RSTCAUSE F.PWR_RSTCAUSE_CAUSE = cause := by
  unfold Dev.resetAs
  extract_lets d1 held d2 d3
  have hboot : d3.pwr.boot = 1 := rfl
  have hrole : d3.role = 0 :=
    (rdF_congr (rd_wr_other (d2.resetDie true) _ _ _ (by decide)) _).trans (role_resetDie d2 true)
  have hcause : d3.rdF R.PWR_RSTCAUSE F.PWR_RSTCAUSE_CAUSE = cause := rdF_setCause_cause (d2.resetDie true) hc detail false
  clear_value d3
  split
  · exact ⟨hboot, (rdF_wrF_apart d3 _ _ _ (by decide) _).trans hrole, (rdF_wrF_other d3 _ _ _ _ _ (by decide)).trans hcause⟩
  · exact ⟨hboot, hrole, hcause⟩

/-- Settles O41: each message by what its handler writes. -/
theorem peerMessages : Obligations.PeerMessages := by
  unfold Obligations.PeerMessages
  refine ⟨fun s bytes hup hrole hboth => completes_of_up hup (f := fun d => d.roleMsg bytes) rfl (roleMsg_conflict hrole hboth),
    fun s bytes hup hrole => exec_of_up hup (f := fun d => d.roleMsg bytes) rfl ?_,
    fun s bytes hup hsafe => exec_of_up hup (f := fun d => d.healthMsg bytes) rfl ?_,
    fun s bytes c hup hpair hcastle hrun hc => ?_,
    fun s hup hrole hlink hage hseen => exec_of_up hup (f := fun d => d.heartbeatLoss) rfl ?_,
    fun s kind payload hup hrole => exec_of_up hup (f := fun d => d.happenMsg kind payload) rfl ?_,
    fun s hup hmode => completes_of_up hup (f := fun d => d.resetcmdMsg) rfl ?_⟩
  · have hkeep : (s.dev.wrF R.PAR_ROLE F.PAR_ROLE_PEERROLE (byteAt bytes 1 % 8)).role = s.dev.role :=
      rdF_wrF_apart _ _ _ _ (by decide) _
    exact if_pos (by rwa [hkeep])
  · refine if_neg fun h => ?_
    simp [bitOf, hsafe] at h
  · obtain ⟨hrole, hpeer⟩ := hpair
    rcases hc with ⟨rfl, hdanger⟩ | ⟨rfl, hage⟩
    · refine completes_of_up hup (f := fun d => d.healthMsg bytes) rfl ?_
      have hbit : bitOf (byteAt bytes 8) 0 = true := by simp [bitOf, hdanger]
      have hmsg : s.dev.healthMsg bytes = (s.dev.setPair (fun p => { p with health := bytes, healthAge := 0 })).resetPeer :=
        if_pos ⟨hrole, hcastle, hbit⟩
      rw [hmsg]
      exact resetPeer_spec (d := s.dev.setPair (fun p => { p with health := bytes, healthAge := 0 })) hrole hpeer hrun
    · refine completes_of_up hup (f := fun d => d.healthTimeout) rfl ?_
      have hmsg : s.dev.healthTimeout = s.dev.resetPeer := by
        unfold Dev.healthTimeout
        rw [if_neg (by omega), if_pos ⟨hrole, hpeer⟩]
      rw [hmsg]
      exact resetPeer_spec hrole hpeer hrun
  · have hdown : s.dev.linkUp = false := by rw [Dev.linkUp, beq_eq_false_iff_ne]; exact hlink
    exact if_pos ⟨by simp [Dev.standby, hrole], by simp [hdown], hage, hseen⟩
  · exact if_pos hrole
  · have hreset : s.dev.resetcmdMsg = s.dev.resetAs 5 0 := if_pos ⟨hup, hmode⟩
    rw [hreset]
    exact resetAs_spec s.dev (by decide) 0

end Sys2Proof.Machine
end

section
/-!
PROOFS. The safe state (R389) and the outcomes of a castling (R369, R370, R374, R390).
-/
namespace Sys2Proof.Machine

/-! The safe state leaves the pair's registers alone, but its own marks of WTC_STAT -/

/-- The fields of a list are apart from the marks of the safe state. -/
structure SafeApart (l : List (Nat × Field)) : Prop where
  pair : FieldsPair l
  safeact : FieldsClear l R.WTC_STAT F.WTC_STAT_SAFEACT
  halt : FieldsClear l R.WTC_STAT F.WTC_STAT_HALT
  flag : ∀ x ∈ l, x.1 = R.WTC_STAT → x.2.lo + x.2.width ≤ 24 ∧ (x.2.lo + x.2.width ≤ 4 ∨ 5 ≤ x.2.lo)

section
variable {l : List (Nat × Field)} {z d : Dev}

theorem drain_apart (k : Apart l z d) : Apart l z d.drain := by
  unfold Dev.drain
  split
  · exact k
  · exact setJrn_apart _ k

theorem flush_apart (k : Apart l z d) : Apart l z d.flush := by
  have hdrain : Apart l z d.drainAll := k.foldl fun _ _ _ kd => drain_apart kd
  unfold Dev.flush Dev.writeSeal
  extract_lets marks streams
  exact setJrn_apart _ hdrain

theorem doSafe_apart (hl : FieldsPair l) (k : Apart l z d) : Apart l z d.doSafe := by
  refine k.range fun d m hm kd => ?_
  extract_lets d1 r d2
  have h1 : Apart l z d1 := setDio_apart _ kd
  have h2 : Apart l z d2 := Apart.ite (setLevel_apart hl m _ h1) (Apart.ite (setLevel_apart hl m _ h1) h1)
  exact Apart.ite h1 (raise_apart hl 117 (wrF_apart_out hl (.inl (by simp only [R.DIO_OSTS]; omega)) _ _ h2))

/-- A flag of WTC_STAT leaves the fields apart from it. -/
theorem flag_keeps_stat (h : ∀ x ∈ l, x.1 = R.WTC_STAT → x.2.lo + x.2.width ≤ 24 ∧ (x.2.lo + x.2.width ≤ 4 ∨ 5 ≤ x.2.lo))
    (k : KeepsFields l z d) : KeepsFields l z (d.flag R.WTC_STAT 4) :=
  k.trans fun x hx => by
    by_cases hxa : x.1 = R.WTC_STAT
    · obtain ⟨hseq, hbit⟩ := h x hx hxa
      rw [hxa]
      exact rdF_flag_apart d _ 4 x.2 hseq hbit
    · exact rdF_flag_other d _ 4 x.1 x.2 hxa

variable (hl : SafeApart l)
include hl

theorem react_keeps (k : KeepsFields l z d) : KeepsFields l z d.react := by
  unfold Dev.react
  extract_lets recent
  exact KeepsFields.ite k (KeepsFields.ite (raise_keeps hl.pair.panel 215 (flag_keeps_stat hl.flag k)) (k.of_regs rfl))

theorem haltTurns_keeps (k : KeepsFields l z d) : KeepsFields l z d.haltTurns := by
  have hhalt : KeepsFields l z ((d.wrF R.WTC_STAT F.WTC_STAT_HALT 1).raise 210) := raise_keeps hl.pair.panel 210 (wrF_keeps hl.halt 1 k)
  unfold Dev.haltTurns
  extract_lets d1 turn
  exact hhalt.trans (KeepsFields.trans (e := { d1 with turn := turn }) (fun _ _ => rfl) (flush_apart (.refl l _)).fields)

end

theorem haltTurns_pair (d : Dev) : d.haltTurns.pair = d.pair := by
  have hflush (e : Dev) : e.flush.pair = e.pair := (flush_apart (.refl [] e)).pair_eq
  rw [Dev.haltTurns, hflush]
  simp

theorem react_pair (d : Dev) : d.react.pair = d.pair := by
  unfold Dev.react
  split
  · rfl
  · extract_lets recent
    split
    · simp
    · rfl

/-- The safe state keeps the fields apart from its marks, and the pair manager's state. -/
theorem safeState_keeps {l : List (Nat × Field)} (hl : SafeApart l) (d : Dev) (code : Nat) :
    KeepsFields l d (d.safeState code) ∧ (d.safeState code).pair = d.pair := by
  by_cases h : d.safe = true
  · rw [Dev.safeState, if_pos h]
    exact ⟨.refl l d, rfl⟩
  · unfold Dev.safeState
    rw [if_neg h]
    extract_lets d1 d2 d3 d4 d5 d6
    have h2 : Apart l d d2 := doSafe_apart hl.pair (wrF_apart hl.safeact 1 (.refl l d))
    have h3 : Apart l d d3 := h2.range fun d n hn kd => Apart.ite (loEmit_apart hl.pair hn _ kd) kd
    have h5 : Apart l d d5 := raise_apart hl.pair 209 (fForceAll_apart hl.pair (p := d3.fSafe) rfl h3)
    clear_value d5
    have h6 : KeepsFields l d d6 ∧ d6.pair = d.pair := by
      unfold d6
      split
      · exact ⟨h5.fields, h5.pair_eq⟩
      · exact ⟨haltTurns_keeps hl h5.fields, (haltTurns_pair d5).trans h5.pair_eq⟩
    exact ⟨react_keeps hl h6.1, (react_pair d6).trans h6.2⟩

/-! A castling's record and its end (R370, R374) -/

section
variable {d : Dev}

theorem rd_castleShow_other (active standby : Bool) {x : Nat} (h : x ≠ R.PAR_CASTLE) : (d.castleShow active standby).rd x = d.rd x :=
  rd_wr_other d _ _ _ h

theorem outcome_castleShow (active standby : Bool) :
    (d.castleShow active standby).rdF R.PAR_CASTLE F.PAR_CASTLE_OUTCOME = b2n (!active) + 2 * b2n (!standby) := by
  have hlt : b2n (!active) + 2 * b2n (!standby) < 4 := by cases active <;> cases standby <;> decide
  simp only [Dev.castleShow, Dev.wrFs, Dev.rdF, rd_wr_same, List.foldl_cons, List.foldl_nil]
  rw [getF_putF_apart _ _ (by simp only [F.PAR_CASTLE_OUTCOME, F.PAR_CASTLE_TURN]; omega),
    getF_putF_apart _ _ (by simp only [F.PAR_CASTLE_OUTCOME, F.PAR_CASTLE_PEERRES]; omega),
    getF_putF_apart _ _ (by simp only [F.PAR_CASTLE_OUTCOME, F.PAR_CASTLE_OWNRES]; omega), getF_putF _ (by decide)]
  exact Nat.mod_eq_of_lt hlt

/-- The end of a castling in which no EJECT_N waits. -/
theorem afterCastle_ended (hcastle : d.pair.castle = 0) (hwaits : d.pair.ejectWaits = false) :
    d.afterCastle = d.setPair (fun p => { p with found := 0, ejectWaits := false }) := by
  unfold Dev.afterCastle
  rw [if_neg (by simp [hcastle])]
  simp only [hwaits, Bool.false_eq_true, if_false]

theorem afterCastle_going (hcastle : d.pair.castle ≠ 0) : d.afterCastle = d := if_pos hcastle

/-- What a device that keeps the token keeps of its registers in a castling's end. -/
def castleFields : List (Nat × Field) := [(R.PAR_ROLE, F.PAR_ROLE_ROLE), (R.PAR_ROLE, F.PAR_ROLE_TOKEN),
  (R.PAR_ROLE, F.PAR_ROLE_PEERUP), (R.PAR_CASTLE, F.PAR_CASTLE_OUTCOME)]

theorem castleFields_safe : SafeApart castleFields := by
  refine ⟨?_, ?_, ?_, ?_⟩ <;>
  simp only [castleFields, FieldsPair, FieldsClear, List.forall_mem_cons, List.not_mem_nil, false_implies, implies_true, and_true] <;>
  decide

theorem castleFields_off {a : Nat} (h : a ≠ R.PAR_ROLE ∧ a ≠ R.PAR_CASTLE) : FieldsOff castleFields a := by
  simp only [castleFields, FieldsOff, List.forall_mem_cons, List.not_mem_nil, false_implies, implies_true, and_true]
  exact ⟨h.1.symm, h.1.symm, h.1.symm, h.2.symm⟩

theorem formPair_keeps {z : Dev} (code : Nat) (data : List Byte) (k : KeepsFields castleFields z d) :
    KeepsFields castleFields z (d.formPair code data) := by
  have hl := castleFields_safe.pair.panel
  unfold Dev.formPair
  split
  · exact k
  · have hform : KeepsFields castleFields z (d.happen (pairEntry code data)) := k.of_regs rfl
    have hflag (f : Field) (b n : Nat) : KeepsFields castleFields z (((d.happen (pairEntry code data)).incF R.PAR_CNT f).flagEv R.PAR_STAT b n) :=
      flagEv_keeps hl (castleFields_off (by decide)) b n (wr_keeps (castleFields_off (by decide)) _ hform)
    split
    · exact hflag _ 1 194
    · exact hflag _ 2 195
    · exact raise_keeps hl 203 hform
    · exact raise_keeps hl 201 hform
    · exact flagEv_keeps hl (castleFields_off (by decide)) 7 204 hform
    · exact hform

theorem formPair_frame (code : Nat) (data : List Byte) :
    (d.formPair code data).pair = d.pair ∧ (d.formPair code data).turn = d.turn := by
  unfold Dev.formPair
  split
  · exact ⟨rfl, rfl⟩
  · split <;> simp

end

/-- The standby out of service, as every castling that the active survives leaves it. -/
def Dev.peerOff (d : Dev) : Dev := d.wrF R.PAR_ROLE F.PAR_ROLE_PEERUP 0

section
variable {d : Dev}

theorem peerOff_spec : d.peerOff.peerUp = false ∧ d.peerOff.role = d.role ∧
    d.peerOff.rdF R.PAR_ROLE F.PAR_ROLE_TOKEN = d.rdF R.PAR_ROLE F.PAR_ROLE_TOKEN ∧
    (∀ x, x ≠ R.PAR_ROLE → d.peerOff.rd x = d.rd x) :=
  ⟨(peerUp_of_field (d := d.peerOff) (v := 0) (rdF_wrF_of_lt d R.PAR_ROLE F.PAR_ROLE_PEERUP (by decide) (by decide))).trans rfl,
    rdF_wrF_apart d _ _ _ (by decide) _, rdF_wrF_apart d _ _ _ (by decide) _, fun _ h => rd_wr_other d _ _ _ h⟩

/-- What a castling that the active survives leaves: the token, and no standby in service. -/
structure Survives (z d : Dev) : Prop where
  role : d.role = 2
  token : d.rdF R.PAR_ROLE F.PAR_ROLE_TOKEN = 1
  peer : d.peerUp = false
  outcome : d.rdF R.PAR_CASTLE F.PAR_CASTLE_OUTCOME = z.rdF R.PAR_CASTLE F.PAR_CASTLE_OUTCOME
  castle : d.pair.castle = 0

theorem Survives.of_keeps {z e : Dev} (h : Survives z d) (k : KeepsFields castleFields d e) (hpair : e.pair.castle = 0) :
    Survives z e := by
  have hpeer : e.peerUp = d.peerUp := congrArg (· == 1) (k.field_eq (f := F.PAR_ROLE_PEERUP) (by simp [castleFields]))
  exact ⟨(k.field_eq (by simp [castleFields])).trans h.role, (k.field_eq (by simp [castleFields])).trans h.token,
    hpeer.trans h.peer, (k.field_eq (by simp [castleFields])).trans h.outcome, hpair⟩

end

/-! A dangerous fault declared (R388) -/

/-- The danger's bit, which the safe state leaves. -/
theorem dangerField_safe : SafeApart [(R.WTC_STAT, F.WTC_STAT_DANGER)] := by
  refine ⟨?_, ?_, ?_, ?_⟩ <;>
  simp only [FieldsPair, FieldsClear, List.forall_mem_cons, List.not_mem_nil, false_implies, implies_true, and_true] <;>
  decide

theorem danger_of_keeps {d e : Dev} (k : KeepsFields [(R.WTC_STAT, F.WTC_STAT_DANGER)] d e) : e.danger = d.danger :=
  congrArg (· == 1) (k.field_eq (by simp))

theorem sendHealth_keeps {l : List (Nat × Field)} {z d : Dev} (hl : FieldsPair l) (k : KeepsFields l z d) :
    KeepsFields l z d.sendHealth := send63_keeps hl.panel _ k

theorem evPending_send63 {d : Dev} (b : List Byte) {n : Nat} (hn : n < 256) (h : d.evPending n = true) :
    (d.send63 b).evPending n = true := by
  unfold Dev.send63
  split
  · exact evPending_push hn (by decide) b none h
  · exact h

theorem sendHealth_pair (d : Dev) : d.sendHealth.pair = d.pair := (send63_turn d _).2

/-- A declared fault: the danger stands, and the fields apart from the fault's own keep their values. -/
theorem declare_spec {l : List (Nat × Field)} (hl : SafeApart l) (hdanger : FieldsClear l R.WTC_STAT F.WTC_STAT_DANGER)
    (hcount : FieldsOff l R.WTC_COUNT) (hfault : FieldsOff l R.WTC_FAULT) (d : Dev) (code detail : Nat) :
    KeepsFields l d (d.declare code detail) ∧ (d.declare code detail).pair = d.pair ∧ (d.declare code detail).danger = true := by
  by_cases h : d.danger = true
  · have hdecl : d.declare code detail = (d.incF R.WTC_COUNT F.WTC_COUNT_LATER).sendHealth := if_pos h
    have hkeep : KeepsFields [(R.WTC_STAT, F.WTC_STAT_DANGER)] d (d.incF R.WTC_COUNT F.WTC_COUNT_LATER).sendHealth :=
      sendHealth_keeps dangerField_safe.pair (wr_keeps (by
        simp only [FieldsOff, List.forall_mem_cons, List.not_mem_nil, false_implies, implies_true, and_true]; decide) _ (.refl _ d))
    rw [hdecl]
    exact ⟨sendHealth_keeps hl.pair (wr_keeps hcount _ (.refl l d)), sendHealth_pair _, (danger_of_keeps hkeep).trans h⟩
  · unfold Dev.declare
    rw [if_neg h]
    extract_lets now d1 d2 d3
    have h2 : KeepsFields l d d2 := wrFs_keeps hfault _ (KeepsFields.of_regs (.refl l d) rfl)
    have h3 : KeepsFields l d d3 := sendHealth_keeps hl.pair (raise_keeps hl.pair.panel 208 (wrF_keeps hdanger 1 h2))
    have hset : (d2.wrF R.WTC_STAT F.WTC_STAT_DANGER 1).danger = true := by
      rw [Dev.danger, rdF_wrF_of_lt d2 _ _ (by decide) (by decide)]
      rfl
    have hk : KeepsFields [(R.WTC_STAT, F.WTC_STAT_DANGER)] (d2.wrF R.WTC_STAT F.WTC_STAT_DANGER 1) d3 :=
      sendHealth_keeps dangerField_safe.pair (raise_keeps dangerField_safe.pair.panel 208 (.refl _ _))
    have hpair : d3.pair = d.pair := (sendHealth_pair _).trans (by simp [d2, d1])
    have hdanger3 : d3.danger = true := (danger_of_keeps hk).trans hset
    clear_value d3
    split
    · obtain ⟨hkeep, hsafe⟩ := safeState_keeps hl d3 code
      exact ⟨h3.trans hkeep, hsafe.trans hpair, (danger_of_keeps (safeState_keeps dangerField_safe d3 code).1).trans hdanger3⟩
    · exact ⟨h3, hpair, hdanger3⟩

theorem safeIfDanger_spec {l : List (Nat × Field)} (hl : SafeApart l) (d : Dev) :
    KeepsFields l d d.safeIfDanger ∧ d.safeIfDanger.pair = d.pair := by
  unfold Dev.safeIfDanger
  split
  · exact safeState_keeps hl d _
  · exact ⟨.refl l d, rfl⟩

/-! The outcomes (R370) -/

section
variable {c x : Dev}

theorem survives_peerOff (hrole : c.role = 2) (htoken : c.rdF R.PAR_ROLE F.PAR_ROLE_TOKEN = 1)
    (k : KeepsFields castleFields c x) : Survives c x.peerOff.castleEnd := by
  obtain ⟨hpeer, hrole', htoken', hother⟩ := peerOff_spec (d := x)
  exact ⟨hrole'.trans ((k.field_eq (by simp [castleFields])).trans hrole), htoken'.trans ((k.field_eq (by simp [castleFields])).trans htoken),
    hpeer, (rdF_congr (hother _ (by decide)) _).trans (k.field_eq (by simp [castleFields])), rfl⟩

theorem survives_told (hrole : c.role = 2) (htoken : c.rdF R.PAR_ROLE F.PAR_ROLE_TOKEN = 1)
    (k : KeepsFields castleFields c x) (b : List Byte) : Survives c (x.peerOff.send63 b).castleEnd :=
  (survives_peerOff hrole htoken k).of_keeps
    (KeepsFields.of_regs (send63_keeps castleFields_safe.pair.panel b (fun _ _ => rfl : KeepsFields castleFields x.peerOff.castleEnd x.peerOff)) rfl)
    rfl

/-- The end of a castling that the active survives changes nothing of it. -/
theorem Survives.after {d : Dev} (h : Survives c d) (hwaits : d.pair.ejectWaits = false) : Survives c d.afterCastle := by
  rw [afterCastle_ended h.castle hwaits]
  exact h.of_keeps (fun _ _ => rfl) h.castle

end

theorem pair_tokenGone (c : Dev) : c.tokenGone.pair = c.pair := by
  obtain ⟨h, hh⟩ : ∃ h, h = c.wrF R.PAR_ROLE F.PAR_ROLE_HOLD 1 := ⟨_, rfl⟩
  obtain ⟨g, hg⟩ : ∃ g, g = h.setRole 0 := ⟨_, rfl⟩
  have hpair : g.pair = h.pair := by
    rw [hg]
    exact congrArg (fun q => q.2.2.2.1) (settled_setRole h 0)
  have hpair' : h.pair = c.pair := by
    rw [hh]
    rfl
  rw [Dev.tokenGone, ← hh, ← hg]
  exact hpair.trans hpair'

section
variable {d : Dev} {own : Bool} {r : Nat × Nat}

/-- The castling's record at an active. -/
theorem castleShow_active (hrole : d.role = 2) (htoken : d.rdF R.PAR_ROLE F.PAR_ROLE_TOKEN = 1) (own peer : Bool) :
    (d.castleShow own peer).role = 2 ∧ (d.castleShow own peer).rdF R.PAR_ROLE F.PAR_ROLE_TOKEN = 1 :=
  ⟨(rdF_congr (rd_castleShow_other own peer (by decide)) _).trans hrole, (rdF_congr (rd_castleShow_other own peer (by decide)) _).trans htoken⟩

/-- The end of a castling in which no EJECT_N waits writes no register. -/
theorem afterCastle_keeps {e : Dev} (hcastle : e.pair.castle = 0) (hwaits : e.pair.ejectWaits = false) :
    e.afterCastle.regs = e.regs ∧ e.afterCastle.turn = e.turn ∧ e.afterCastle.pair.castle = 0 := by
  rw [afterCastle_ended hcastle hwaits]
  exact ⟨rfl, rfl, hcastle⟩

/-- The active's four rows (R370, R374, R390), with the results of both devices. -/
theorem decideActive_eq (hown : (verdict d.pair.ownRes && !d.danger) = own) (hres : d.pair.peerRes = some r) :
    let c := d.castleShow own (checksPass r)
    let st := d.pair.selftest d.pair.ownRes (some r)
    d.decideActive = if own && checksPass r
      then ((c.formPair 0x4 st).formPair 0x3 ([byteOf d.pair.cause] ++ leBytes 6 d.pair.turnN)).peerOff.castleEnd
      else if own then (((c.formPair 0x4 st).formPair 0x7 [2]).peerOff.send63 [0x07]).castleEnd
      else if checksPass r then c.tokenLoss
      else (((c.formPair 0x4 st).peerOff.send63 [0x07]).castleEnd.declare 0x23 0).safeIfDanger := by
  unfold Dev.decideActive
  simp only [hown, hres, reduceCtorEq, if_false]
  rfl

variable (hrole : d.role = 2) (htoken : d.rdF R.PAR_ROLE F.PAR_ROLE_TOKEN = 1) (hres : d.pair.peerRes = some r)
  (hwaits : d.pair.ejectWaits = false)
include hrole htoken hres hwaits

/-- Both devices pass: the active keeps the token without a standby, and the disagreement shows. -/
theorem decideActive_both (hown : (verdict d.pair.ownRes && !d.danger) = true) (hpeer : checksPass r = true) :
    Survives (d.castleShow true true) d.decideActive.afterCastle ∧
    d.decideActive.afterCastle.rdF R.PAR_STAT F.PAR_STAT_DISAGREE = 1 ∧ d.decideActive.afterCastle.evPending 195 = true := by
  have heq := decideActive_eq hown hres
  simp only [hpeer, Bool.and_true, if_true] at heq
  obtain ⟨c, hc⟩ : ∃ c, c = d.castleShow true true := ⟨_, rfl⟩
  obtain ⟨hcrole, hctoken⟩ := castleShow_active hrole htoken true true
  have hcpair : c.pair = d.pair := by rw [hc]; rfl
  rw [← hc] at heq hcrole hctoken ⊢
  obtain ⟨x, hx⟩ : ∃ x, x = c.formPair 0x4 (d.pair.selftest d.pair.ownRes (some r)) := ⟨_, rfl⟩
  obtain ⟨data, hdata⟩ : ∃ b, b = [byteOf d.pair.cause] ++ leBytes 6 d.pair.turnN := ⟨_, rfl⟩
  have hkx : KeepsFields castleFields c x := by
    rw [hx]
    exact formPair_keeps _ _ (.refl _ c)
  have hxrole : x.role = 2 := (hkx.field_eq (by simp [castleFields])).trans hcrole
  have hform : x.formPair 0x3 data = ((x.happen (pairEntry 0x3 data)).incF R.PAR_CNT F.PAR_CNT_DISAGREES).flagEv R.PAR_STAT 2 195 := by
    simp [Dev.formPair, holder_of_active hxrole]
  rw [← hx, ← hdata] at heq
  have hpair : (x.formPair 0x3 data).pair = d.pair := (formPair_frame _ _).1.trans (by rw [hx, (formPair_frame _ _).1, hcpair])
  have hsurv := survives_peerOff hcrole hctoken (hkx.trans (formPair_keeps 0x3 data (.refl _ x)))
  have hafter := hsurv.after (congrArg Pair.ejectWaits hpair |>.trans hwaits)
  obtain ⟨hregs, -, -⟩ := afterCastle_keeps hsurv.castle (congrArg Pair.ejectWaits hpair |>.trans hwaits)
  have hrd {a : Nat} (ha : a ≠ R.PAR_ROLE) :
      (x.formPair 0x3 data).peerOff.castleEnd.afterCastle.rd a = (x.formPair 0x3 data).rd a :=
    (rd_of_regs hregs a).trans (peerOff_spec.2.2.2 a ha)
  rw [heq]
  refine ⟨hafter, ?_, ?_⟩
  · rw [rdF_congr (hrd (by decide)), hform]
    exact rdF_flagEv_same _ (by decide) (by decide) _
  · rw [evPending_congr (hrd (by decide)), hform]
    exact evPending_flagEv_same _ _ _ (by decide)

/-- The active alone passes: it keeps the token and resets the standby, with EV203. -/
theorem decideActive_own (hown : (verdict d.pair.ownRes && !d.danger) = true) (hpeer : checksPass r = false) :
    Survives (d.castleShow true false) d.decideActive.afterCastle ∧ d.decideActive.afterCastle.evPending 203 = true := by
  have heq := decideActive_eq hown hres
  simp only [hpeer, Bool.and_false, Bool.false_eq_true, if_false, if_true] at heq
  obtain ⟨c, hc⟩ : ∃ c, c = d.castleShow true false := ⟨_, rfl⟩
  obtain ⟨hcrole, hctoken⟩ := castleShow_active hrole htoken true false
  have hcpair : c.pair = d.pair := by rw [hc]; rfl
  rw [← hc] at heq hcrole hctoken ⊢
  obtain ⟨x, hx⟩ : ∃ x, x = c.formPair 0x4 (d.pair.selftest d.pair.ownRes (some r)) := ⟨_, rfl⟩
  have hkx : KeepsFields castleFields c x := by
    rw [hx]
    exact formPair_keeps _ _ (.refl _ c)
  have hxrole : x.role = 2 := (hkx.field_eq (by simp [castleFields])).trans hcrole
  rw [← hx] at heq
  have hpair : ((x.formPair 0x7 [2]).peerOff.send63 [0x07]).castleEnd.pair.ejectWaits = false := by
    have hsent : ((x.formPair 0x7 [2]).peerOff.send63 [0x07]).pair = d.pair :=
      (send63_turn _ _).2.trans ((formPair_frame _ _).1.trans (by rw [hx, (formPair_frame _ _).1, hcpair]))
    exact (congrArg Pair.ejectWaits hsent).trans hwaits
  have hsurv := survives_told hcrole hctoken (hkx.trans (formPair_keeps 0x7 [2] (.refl _ x))) [0x07]
  obtain ⟨hregs, -, -⟩ := afterCastle_keeps hsurv.castle hpair
  rw [heq]
  refine ⟨hsurv.after hpair, ?_⟩
  have hev : (x.formPair 0x7 [2]).peerOff.evPending 203 = true := by
    rw [evPending_congr (peerOff_spec.2.2.2 _ (by decide)), formPair_standbyGone (holder_of_active hxrole)]
    exact evPending_raise_same _ (by decide)
  rw [evPending_congr (rd_of_regs hregs _)]
  exact evPending_send63 [0x07] (by decide) hev

/-- Both devices fail: the active keeps the token with a dangerous fault. -/
theorem decideActive_none (hown : (verdict d.pair.ownRes && !d.danger) = false) (hpeer : checksPass r = false) :
    Survives (d.castleShow false false) d.decideActive.afterCastle ∧ d.decideActive.afterCastle.danger = true := by
  have heq := decideActive_eq hown hres
  simp only [hpeer, Bool.and_false, Bool.false_eq_true, if_false] at heq
  obtain ⟨c, hc⟩ : ∃ c, c = d.castleShow false false := ⟨_, rfl⟩
  obtain ⟨hcrole, hctoken⟩ := castleShow_active hrole htoken false false
  have hcpair : c.pair = d.pair := by rw [hc]; rfl
  rw [← hc] at heq hcrole hctoken ⊢
  obtain ⟨x, hx⟩ : ∃ x, x = c.formPair 0x4 (d.pair.selftest d.pair.ownRes (some r)) := ⟨_, rfl⟩
  have hkx : KeepsFields castleFields c x := by
    rw [hx]
    exact formPair_keeps _ _ (.refl _ c)
  obtain ⟨y, hy⟩ : ∃ y, y = (x.peerOff.send63 [0x07]).castleEnd := ⟨_, rfl⟩
  have hxpair : x.peerOff.pair = c.pair := by
    rw [hx]
    exact (formPair_frame _ _).1
  have hpair : y.pair.ejectWaits = false := by
    have hsent : (x.peerOff.send63 [0x07]).pair = d.pair :=
      (send63_turn _ _).2.trans (hxpair.trans hcpair)
    rw [hy]
    exact (congrArg Pair.ejectWaits hsent).trans hwaits
  have hsurv : Survives c y := by
    rw [hy]
    exact survives_told hcrole hctoken hkx [0x07]
  rw [← hx, ← hy] at heq
  obtain ⟨hkeep, hdpair, hdanger⟩ := declare_spec castleFields_safe (by
    simp only [castleFields, FieldsClear, List.forall_mem_cons, List.not_mem_nil, false_implies, implies_true, and_true]; decide)
    (castleFields_off (by decide)) (castleFields_off (by decide)) y 0x23 0
  obtain ⟨hkeep', hspair⟩ := safeIfDanger_spec castleFields_safe (y.declare 0x23 0)
  have hdanger' : ((y.declare 0x23 0).safeIfDanger).danger = true :=
    (danger_of_keeps (safeIfDanger_spec dangerField_safe (y.declare 0x23 0)).1).trans hdanger
  have hepair : ((y.declare 0x23 0).safeIfDanger).pair = y.pair := hspair.trans hdpair
  have hsurv' := hsurv.of_keeps (hkeep.trans hkeep') ((congrArg Pair.castle hepair).trans hsurv.castle)
  have hw : ((y.declare 0x23 0).safeIfDanger).pair.ejectWaits = false := (congrArg Pair.ejectWaits hepair).trans hpair
  obtain ⟨hregs, -, -⟩ := afterCastle_keeps hsurv'.castle hw
  rw [heq]
  refine ⟨hsurv'.after hw, ?_⟩
  rw [Dev.danger, rdF_congr (rd_of_regs hregs _)]
  exact hdanger'

omit hrole htoken in
/-- The standby alone passes: the active lets the token go. -/
theorem decideActive_peer (hown : (verdict d.pair.ownRes && !d.danger) = false) (hpeer : checksPass r = true) :
    let e := d.decideActive.afterCastle
    e.pair.castle = 0 ∧ e.rdF R.PAR_CASTLE F.PAR_CASTLE_OUTCOME = 1 ∧ e.role = 0 ∧ e.rdF R.PAR_ROLE F.PAR_ROLE_TOKEN = 0 ∧
    e.rdF R.PAR_ROLE F.PAR_ROLE_LINE = 1 ∧ e.rdF R.PAR_ROLE F.PAR_ROLE_HOLD = 1 ∧ e.turn.toEmit = [] := by
  have heq := decideActive_eq hown hres
  simp only [hpeer, Bool.and_true, Bool.false_eq_true, if_false, if_true] at heq
  obtain ⟨c, hc⟩ : ∃ c, c = d.castleShow false true := ⟨_, rfl⟩
  have hcpair : c.pair = d.pair := by rw [hc]; rfl
  have houtcome : c.rdF R.PAR_CASTLE F.PAR_CASTLE_OUTCOME = 1 := by
    rw [hc]
    exact outcome_castleShow false true
  rw [← hc] at heq
  rw [heq]
  obtain ⟨hrole0, htoken0, hline, hhold, -⟩ := tokenGone_spec c
  have hunits : c.tokenGone.unitsLoss.pair = c.pair := by
    have h := (unitsLoss_apart (l := []) (fun x hx => absurd hx List.not_mem_nil) (.refl [] c.tokenGone)).pair_eq
    exact h.trans (pair_tokenGone c)
  have hlost := tokenLoss_eq c
  obtain ⟨g, hg⟩ : ∃ g, g = c.tokenGone.unitsLoss := ⟨_, rfl⟩
  rw [← hg] at hlost hunits
  have hcastle : c.tokenLoss.pair.castle = 0 := by rw [hlost]; rfl
  have hemit : c.tokenLoss.turn.toEmit = [] := by rw [hlost]; rfl
  have hw : c.tokenLoss.pair.ejectWaits = false := by
    rw [hlost]
    exact (congrArg Pair.ejectWaits (hunits.trans hcpair)).trans hwaits
  obtain ⟨hregs, hturn, hcastle'⟩ := afterCastle_keeps hcastle hw
  have hrd {a : Nat} (hlow : 0x120000 ≤ a) (hhigh : a < 0x160000) (f : Field) :
      c.tokenLoss.afterCastle.rdF a f = c.tokenGone.rdF a f :=
    rdF_congr ((rd_of_regs hregs a).trans (rd_tokenLoss c hlow hhigh)) f
  refine ⟨hcastle', ?_, (hrd (by decide) (by decide) _).trans hrole0, (hrd (by decide) (by decide) _).trans htoken0,
    (hrd (by decide) (by decide) _).trans hline, (hrd (by decide) (by decide) _).trans hhold, (congrArg Turn.toEmit hturn).trans hemit⟩
  exact (hrd (by decide) (by decide) _).trans ((rdF_congr (rd_tokenGone_other c (by decide) (by decide) (by decide)) _).trans houtcome)

end

/-! The fast self-test (R369) -/

theorem queue_push_other (d : Dev) {q p : Nat} (hq : p ≠ q) (h49 : p ≠ 49) (b : List Byte) (r : Option HostRef) :
    (d.push q b r).queue p = d.queue p := by
  unfold Dev.push
  split
  · exact queue_setQueue_other d _ hq
  · exact queue_raise_other _ _ h49

theorem send63_frame (d : Dev) (b : List Byte) : (d.send63 b).jrn = d.jrn ∧
    ∀ q, q ≠ 63 → q ≠ 49 → (d.send63 b).queue q = d.queue q := by
  unfold Dev.send63
  split
  · exact ⟨by simp, fun q hq h49 => queue_push_other d hq h49 b none⟩
  · exact ⟨rfl, fun _ _ _ => rfl⟩

/-- The checks that are run are those whose time TFST reaches. -/
theorem testBit_runMask (tfst : Nat) {k : Nat} (hk : k < 6) :
    (runMask tfst).testBit k = decide (([300, 310, 410, 810, 1200, 2000] : List Nat).getD k 0 ≤ tfst) := by
  have hmask : runMask tfst = b2n (decide (300 ≤ tfst)) + 2 * b2n (decide (310 ≤ tfst)) + 4 * b2n (decide (410 ≤ tfst)) +
      8 * b2n (decide (810 ≤ tfst)) + 16 * b2n (decide (1200 ≤ tfst)) + 32 * b2n (decide (2000 ≤ tfst)) := by
    simp only [runMask, b2n, List.range, List.range.loop, List.zip_cons_cons, List.zip_nil_left, List.foldl_cons, List.foldl_nil,
      decide_eq_true_eq]
    repeat' split
    all_goals simp_all
  rw [hmask]
  have bits (a b c d e f : Bool) : ∀ k < 6, (b2n a + 2 * b2n b + 4 * b2n c + 8 * b2n d + 16 * b2n e + 32 * b2n f).testBit k =
      [a, b, c, d, e, f].getD k false := by
    cases a <;> cases b <;> cases c <;> cases d <;> cases e <;> cases f <;> decide
  rw [bits _ _ _ _ _ _ k hk]
  match k, hk with
  | 0, _ | 1, _ | 2, _ | 3, _ | 4, _ | 5, _ => rfl

/-- The checks passed: those run that neither the hardware nor the device's own parts fail. -/
theorem testBit_passMask {m : Nat} (run : Nat) {k : Nat} (hk : k < 6) (hm : m < 64) :
    ((63 - m) &&& run).testBit k = (run.testBit k && !m.testBit k) := by
  have hsub : ∀ m < 64, ∀ k < 6, (63 - m).testBit k = !m.testBit k := by decide
  rw [Nat.testBit_and, hsub m hm k hk, Bool.and_comm]

theorem checksFailed_lt (d : Dev) : d.checksFailed < 64 := by
  unfold Dev.checksFailed
  have h (b : Bool) : b2n b ≤ 1 := by cases b <;> decide
  exact Nat.lt_of_le_of_lt (Nat.add_le_add (Nat.mul_le_mul_left 2 (h _)) (Nat.mul_le_mul_left 4 (h _))) (by decide)

theorem selftestDone_spec {d : Dev} (hcastle : d.pair.castle = 1 ∨ d.pair.castle = 2) (hown : d.pair.ownRes = none) (res : BitVec 6) :
    ∃ pass run, (d.selftestDone res).pair.ownRes = some (pass, run) ∧
      (∀ k, k < 6 → run.testBit k = decide (([300, 310, 410, 810, 1200, 2000] : List Nat).getD k 0 ≤ d.tfst)) ∧
      (∀ k, k < 6 → pass.testBit k = (!d.danger && run.testBit k && !res.getLsbD k && !d.checksFailed.testBit k)) ∧
      (d.selftestDone res).turn = d.turn ∧ (d.selftestDone res).jrn = d.jrn ∧
      (∀ q, q ≠ 63 → q ≠ 49 → (d.selftestDone res).queue q = d.queue q) := by
  unfold Dev.selftestDone
  rw [if_neg (by simp [hcastle, hown])]
  extract_lets run pass e
  obtain ⟨hturn, hpair⟩ := send63_turn e ([0x04, 0] ++ leBytes 6 e.pair.turnN ++ [byteOf pass, byteOf run])
  obtain ⟨hjrn, hqueue⟩ := send63_frame e ([0x04, 0] ++ leBytes 6 e.pair.turnN ++ [byteOf pass, byteOf run])
  refine ⟨pass, run, congrArg Pair.ownRes hpair, fun k hk => testBit_runMask _ hk, fun k hk => ?_, hturn, hjrn, hqueue⟩
  simp only [pass]
  cases hdanger : d.danger
  · have hlt : res.toNat ||| d.checksFailed < 64 := Nat.or_lt_two_pow (n := 6) res.isLt (checksFailed_lt d)
    simp only [Bool.false_eq_true, if_false, testBit_passMask run hk hlt, Nat.testBit_or, Bool.not_or, Bool.not_false,
      Bool.true_and, Bool.and_assoc, BitVec.testBit_toNat]
  · simp only [if_true, Nat.zero_testBit, Bool.not_true, Bool.false_and]

/-! The castling's end at a standby (R370) -/

section
variable {d : Dev} {r : Nat × Nat}

theorem toRejoin_spec (d : Dev) : d.toRejoin.role = 4 ∧ d.toRejoin.pair.ejectWaits = d.pair.ejectWaits := by
  obtain ⟨e, he⟩ : ∃ e, e = d.setRole 4 := ⟨_, rfl⟩
  have hrole : e.role = 4 := by rw [he]; exact role_setRole d (by decide)
  have hpair : e.pair = d.pair := by
    rw [he]
    exact congrArg (fun q => q.2.2.2.1) (settled_setRole d 4)
  obtain ⟨g, hg⟩ : ∃ g, g = (e.wrF R.PAR_ROLE F.PAR_ROLE_PEERUP 0).setPair (fun p => { p with rejSince := d.clk, castle := 0, rejReady := false }) :=
    ⟨_, rfl⟩
  have hgrole : g.role = 4 := by
    rw [hg]
    exact (rdF_wrF_apart e R.PAR_ROLE F.PAR_ROLE_ROLE F.PAR_ROLE_PEERUP (by decide) 0).trans hrole
  have hgwaits : g.pair.ejectWaits = d.pair.ejectWaits := by
    rw [hg]
    exact (show _ = e.pair.ejectWaits from rfl).trans (congrArg Pair.ejectWaits hpair)
  have heq : d.toRejoin = (g.wrF R.PAR_REJOIN F.PAR_REJOIN_STEP (if g.linkUp then 2 else 0)).setTurn (fun t => { t with run := none }) := by
    rw [hg, he]
    rfl
  rw [heq]
  exact ⟨(rdF_wrF_other g R.PAR_REJOIN R.PAR_ROLE F.PAR_ROLE_ROLE _ _ (by decide)).trans hgrole, hgwaits⟩

variable (hres : d.pair.peerRes = some r) (hwaits : d.pair.ejectWaits = false)
include hres hwaits

/-- What the decision of a standby leaves, by the two verdicts. -/
theorem decideStandby_spec (hrole : d.role = 3) :
    let own := verdict d.pair.ownRes && !d.danger
    let e := d.decideStandby.afterCastle
    (own = true → checksPass r = true → e.role = 4 ∧ e.pair.castle = 0) ∧
    (own = true → checksPass r = false → e.role = 3 ∧ e.pair.castle = 3 ∧ e.turn = d.turn) ∧
    (own = false → e.role = 3 ∧ e.pair.castle = 0 ∧ e.turn = d.turn) := by
  intro own e
  obtain ⟨c, hc⟩ : ∃ c, c = d.castleShow (checksPass r) own := ⟨_, rfl⟩
  have hcrole : c.role = 3 := by
    rw [hc]
    exact (rdF_congr (rd_castleShow_other (checksPass r) own (by decide)) _).trans hrole
  have hcpair : c.pair = d.pair := by rw [hc]; rfl
  have hcturn : c.turn = d.turn := by rw [hc]; rfl
  have heq : d.decideStandby = if own && checksPass r then c.toRejoin.castleEnd
      else if own then c.setPair (fun p => { p with castle := 3 }) else c.castleEnd := by
    unfold Dev.decideStandby
    simp only [hres]
    rw [hc]
  have hcwaits : c.pair.ejectWaits = false := (congrArg Pair.ejectWaits hcpair).trans hwaits
  refine ⟨fun hown hpeer => ?_, fun hown hpeer => ?_, fun hown => ?_⟩
  · have he : e = c.toRejoin.castleEnd.afterCastle := by
      simp only [e, heq, hown, hpeer, Bool.and_true, if_true]
    obtain ⟨hrole4, hw⟩ := toRejoin_spec c
    obtain ⟨hregs, -, hcastle⟩ := afterCastle_keeps (e := c.toRejoin.castleEnd) rfl (hw.trans hcwaits)
    rw [he]
    exact ⟨(role_of_regs hregs).trans hrole4, hcastle⟩
  · have he : e = c.setPair (fun p => { p with castle := 3 }) := by
      simp only [e, heq, hown, hpeer, Bool.and_false, Bool.false_eq_true, if_false, if_true]
      exact afterCastle_going (d := c.setPair (fun p => { p with castle := 3 })) (by simp [Dev.setPair])
    rw [he]
    exact ⟨hcrole, rfl, hcturn⟩
  · have he : e = c.castleEnd.afterCastle := by
      simp only [e, heq, hown, Bool.false_and, Bool.false_eq_true, if_false]
    obtain ⟨hregs, hturn, hcastle⟩ := afterCastle_keeps (e := c.castleEnd) rfl hcwaits
    rw [he]
    exact ⟨(role_of_regs hregs).trans hcrole, hcastle, hturn.trans hcturn⟩

end

/-- What the decision of an active leaves, by the two verdicts. -/
theorem castlingDecide_active {d : Dev} {r : Nat × Nat} (hrole : d.role = 2) (htoken : d.rdF R.PAR_ROLE F.PAR_ROLE_TOKEN = 1)
    (hres : d.pair.peerRes = some r) (hwaits : d.pair.ejectWaits = false) :
    let own := verdict d.pair.ownRes && !d.danger
    let e := d.decideActive.afterCastle
    e.pair.castle = 0 ∧ e.rdF R.PAR_CASTLE F.PAR_CASTLE_OUTCOME = b2n (!own) + 2 * b2n (!checksPass r) ∧
    (own = true ∨ checksPass r = false → e.role = 2 ∧ e.peerUp = false ∧ e.rdF R.PAR_ROLE F.PAR_ROLE_TOKEN = 1) ∧
    (own = true → checksPass r = true → e.rdF R.PAR_STAT F.PAR_STAT_DISAGREE = 1 ∧ e.evPending 195 = true) ∧
    (own = true → checksPass r = false → e.evPending 203 = true) ∧
    (own = false → checksPass r = false → e.danger = true) ∧
    (own = false → checksPass r = true → e.role = 0 ∧ e.rdF R.PAR_ROLE F.PAR_ROLE_TOKEN = 0 ∧
      e.rdF R.PAR_ROLE F.PAR_ROLE_LINE = 1 ∧ e.rdF R.PAR_ROLE F.PAR_ROLE_HOLD = 1 ∧ e.turn.toEmit = []) := by
  intro own e
  cases hown : own <;> cases hpeer : checksPass r
  · obtain ⟨hsurv, hdanger⟩ := decideActive_none hrole htoken hres hwaits hown hpeer
    exact ⟨hsurv.castle, hsurv.outcome.trans (outcome_castleShow false false), fun _ => ⟨hsurv.role, hsurv.peer, hsurv.token⟩,
      by simp, by simp, fun _ _ => hdanger, by simp⟩
  · obtain ⟨hcastle, houtcome, hgone⟩ := decideActive_peer hres hwaits hown hpeer
    exact ⟨hcastle, houtcome, by simp, by simp, by simp, by simp, fun _ _ => hgone⟩
  · obtain ⟨hsurv, hev⟩ := decideActive_own hrole htoken hres hwaits hown hpeer
    exact ⟨hsurv.castle, hsurv.outcome.trans (outcome_castleShow true false), fun _ => ⟨hsurv.role, hsurv.peer, hsurv.token⟩,
      by simp, fun _ _ => hev, by simp, by simp⟩
  · obtain ⟨hsurv, hshow, hev⟩ := decideActive_both hrole htoken hres hwaits hown hpeer
    exact ⟨hsurv.castle, hsurv.outcome.trans (outcome_castleShow true true), fun _ => ⟨hsurv.role, hsurv.peer, hsurv.token⟩,
      fun _ _ => ⟨hshow, hev⟩, by simp, by simp, by simp⟩

/-- Settles O43: the self-test clauses from the masks of `selftestDone`, the outcomes by the two verdicts. -/
theorem castlingDecision : Obligations.CastlingDecision := by
  unfold Obligations.CastlingDecision
  refine ⟨⟨fun s res hup hcastle hown => ?_, fun s bytes hup hcastle => ⟨fun hturn => ?_, fun hturn => ?_⟩⟩,
    fun s r hup hcastle hres hwaits => ⟨fun hrole htoken => ?_, fun hrole => ?_⟩⟩
  · exact completes_of_up hup (f := fun d => d.selftestDone res) rfl (selftestDone_spec hcastle hown res)
  · exact exec_of_up hup (f := fun d => d.stresMsg bytes) rfl (if_pos ⟨hcastle, hturn⟩)
  · exact exec_keeps (f := fun d => d.stresMsg bytes) rfl (if_neg fun h => hturn h.2)
  · refine completes_of_up hup (f := fun d => d.castlingDecide) rfl ?_
    rw [Dev.castlingDecide, if_neg (by simp [hcastle]), if_pos hrole]
    exact castlingDecide_active hrole htoken hres hwaits
  · refine completes_of_up hup (f := fun d => d.castlingDecide) rfl ?_
    rw [Dev.castlingDecide, if_neg (by simp [hcastle]), if_neg (by simp [hrole]), if_pos hrole]
    exact decideStandby_spec hres hwaits hrole

end Sys2Proof.Machine
end

section
/-!
PROOFS. The hand-over of the token (O44), which is refuted by its clause on a mirror that has arrived.
-/
namespace Sys2Proof.Machine

/-- A running machine whose mirror is under way, with nothing of it left in Q60. -/
def mirrorUnderWay : State := State.reset.on { State.reset.dev with
  pwr := { State.reset.dev.pwr with boot := 3 }
  pair := { State.reset.dev.pair with mirOut := some 0 } }

/-- Refutes O44: the clause on a mirror that has arrived asks that `mirOut` end and, by `OnlyRegs`, that nothing but
registers change, `mirOut` among what must stay. -/
theorem not_tokenHandOver : ¬ Obligations.TokenHandOver := by
  unfold Obligations.TokenHandOver
  rintro ⟨-, -, -, -, -, -, harrived, -⟩
  obtain ⟨t, -, -, hout, -, -, -, ⟨hregs, -⟩, -⟩ := (harrived mirrorUnderWay rfl rfl).2 (by decide) rfl
  have hkept : t.dev.pair.mirOut = some 0 := congrArg (fun d : Dev => d.pair.mirOut) hregs
  exact absurd (hout.symm.trans hkept) (by decide)

end Sys2Proof.Machine
end

section
/-!
PROOFS. Dangerous faults (O46), which is refuted by a fault that the safe state itself unmarks.
-/
namespace Sys2Proof.Machine

/-- A running solo device whose safe state shuts the panel off, with an update in progress; the update's only element is
number 32 · 0x3F56 + 16, whose place among PNL_UNK, 0x160300 + 4 · 0x3F56, is bit 16 of HST_EVPEND6, the bit of EV208. -/
def cutOverDanger : State := State.reset.on
  { (((State.reset.dev.wrF R.PNL_CTRL F.PNL_CTRL_STATE 2).wrF R.PNL_REGMAP F.PNL_REGMAP_RUN 1).wrF R.PAR_ROLE F.PAR_ROLE_ROLE 1) with
    pwr := { State.reset.dev.pwr with boot := 3 }
    image := { State.reset.dev.image with wtch := { State.reset.dev.image.wtch with safemask := 4 } }
    pnl := { State.reset.dev.pnl with runs := [some ⟨0, 0, 0, [(32 * 0x3F56 + 16, 0, 0, 0)]⟩] } }

/-- The safe state cuts the update, whose element then writes the bit of EV208 back to 0. -/
theorem evPending_declare_cutOverDanger : (cutOverDanger.dev.dangerousFault 1 0).evPending 208 = false := by decide +kernel

/-- Refutes O46: of a running update whose element lies beyond the panel's registers, the cut that the safe state forces
clears the pending bit of EV208 that the fault has just set. -/
theorem not_dangerousFaults : ¬ Obligations.DangerousFaults := by
  unfold Obligations.DangerousFaults
  intro h
  obtain ⟨-, hfirst⟩ := h cutOverDanger 1 0 rfl (by decide)
  obtain ⟨t, hexec, -, -, -, -, -, hpend, -⟩ := hfirst (by decide +kernel) (by decide +kernel)
  have hnext : exec (.dangerousFault 1 0) cutOverDanger =
      .next (cutOverDanger.onDev (fun d => d.whenUp (fun d => d.dangerousFault 1 0))) := rfl
  rw [hnext] at hexec
  injection hexec with ht
  rw [← ht, onDev_dev, whenUp_of_up (s := cutOverDanger) rfl, evPending_declare_cutOverDanger] at hpend
  exact absurd hpend (by decide)

end Sys2Proof.Machine
end

section
/-!
PROOFS. Latent tests and the temperature (O47), which is refuted by its clause on a temperature that falls again.
-/
namespace Sys2Proof.Machine

/-- A running machine whose last temperature was at TEMPWARN or above. -/
def hotTower : State := State.reset.on { State.reset.dev with
  pwr := { State.reset.dev.pwr with boot := 3 }
  wtc := { State.reset.dev.wtc with hot := true } }

/-- Refutes O47: where a hot device's temperature falls below TEMPWARN, one clause asks that `hot` end and, by
`OnlyRegs`, that nothing but registers change. -/
theorem not_latentTestsAndReset : ¬ Obligations.LatentTestsAndReset := by
  unfold Obligations.LatentTestsAndReset
  rintro ⟨-, -, -, -, -, -, htemp, -⟩
  obtain ⟨t, -, -, -, -, hwtc, -, honly⟩ := htemp hotTower 0x8000 rfl
  obtain ⟨hregs, -⟩ := honly (.inr rfl)
  have hkept : t.dev.wtc.hot = true := congrArg (fun d : Dev => d.wtc.hot) hregs
  have hended : t.dev.wtc.hot = false := (congrArg Tower.hot hwtc).trans (by decide +kernel)
  exact absurd (hkept.symm.trans hended) (by decide)

end Sys2Proof.Machine
end

section
/-!
PROOFS. Staging and swap (O48), which is refuted by a swap whose image brings its own buffered word.
-/
namespace Sys2Proof.Machine

/-- An image whose only charge channel has range 1. -/
def rangeImage : Image :=
  { Image.empty with qccf := ⟨[{ QcRec.empty with acq := { QcRec.empty.acq with range := 1 } }], []⟩ }

/-- A running machine whose next turn is the confirmed swap turn to `rangeImage`. -/
def rangeSwap : State := State.reset.on { State.reset.dev with
  pwr := { State.reset.dev.pwr with boot := 3 }
  vault := { State.reset.dev.vault with
    images := [⟨[], [], none⟩, ⟨[], [], some rangeImage⟩]
    swapTurn := some (State.reset.dev.turn.number + 1)
    swapOk := true } }

/-- The swap loads the range that the image changes as a pending write, for the channel's next RANGE entry. -/
theorem wb_swapLatch_rangeSwap : rangeSwap.dev.swapLatch.wb.isEmpty = false := by decide +kernel

/-- Refutes O48: the latch of the swap turn does not always leave the write buffer empty; a changed QCHS record puts
its range there as a pending word. -/
theorem not_stagingAndSwap : ¬ Obligations.StagingAndSwap := by
  unfold Obligations.StagingAndSwap
  rintro ⟨-, -, -, -, hlatch⟩
  obtain ⟨hconfirmed, -⟩ := hlatch rangeSwap rangeImage rfl rfl rfl (by decide +kernel)
  obtain ⟨t, hexec, -, -, -, -, -, -, -, -, -, -, hwb, -⟩ := hconfirmed rfl
  have hnext : exec .swapLatch rangeSwap = .next (rangeSwap.onDev (fun d => d.whenUp (fun d => d.swapLatch))) := rfl
  rw [hnext] at hexec
  injection hexec with ht
  rw [← ht, onDev_dev, whenUp_of_up (s := rangeSwap) rfl] at hwb
  have hkept := wb_swapLatch_rangeSwap
  rw [hwb] at hkept
  exact absurd hkept (by decide)

end Sys2Proof.Machine
end

section
/-!
PROOFS. The life of the device (O49), which is refuted by a decommissioning before the first commit.
-/
namespace Sys2Proof.Machine

/-- A solo machine that runs its turns, has committed nothing since its enrolment, and is to be decommissioned. -/
def decommFirst : State := State.reset.on { State.reset.dev.wrF R.PAR_ROLE F.PAR_ROLE_ROLE 1 with
  pwr := { State.reset.dev.pwr with boot := 3 }
  turn := { State.reset.dev.turn with starts := true }
  jrn := { State.reset.dev.jrn with genesis := true }
  vault := { State.reset.dev.vault with decomm := some 0 } }

/-- The decommissioning accepts GENESIS ahead of its own entry. -/
theorem next_sampleLatch_decommFirst : (decommFirst.dev.sampleLatch 0 0).jrn.next ≠ 1 := by decide +kernel

/-- Refutes O49: a decommissioning does not always take one sequence number; entries that the journal itself owes, here
GENESIS, are accepted with DECOMM. -/
theorem not_lifeOfTheDevice : ¬ Obligations.LifeOfTheDevice := by
  unfold Obligations.LifeOfTheDevice
  rintro ⟨-, -, -, hdecomm, -⟩
  obtain ⟨t, hexec, -, -, -, -, -, -, -, hnumber⟩ :=
    hdecomm decommFirst 0 0 0 rfl (by decide +kernel) (by decide +kernel) rfl rfl
  have hnext : exec (.sampleLatch 0 0) decommFirst = .next (decommFirst.onDev (fun d => d.whenUp (fun d => d.sampleLatch 0 0))) := rfl
  rw [hnext] at hexec
  injection hexec with ht
  rw [← ht, onDev_dev, whenUp_of_up (s := decommFirst) rfl] at hnumber
  exact next_sampleLatch_decommFirst hnumber

end Sys2Proof.Machine
end

section
/-!
PROOFS. The host port's frames, sessions and answers (R470 to R475, R477).
-/
namespace Sys2Proof.Machine

/-! Changes that the port's own records make -/

/-- A change of the port's registers, of its state, and of the events that it raises. -/
structure PortOnly (d e : Dev) : Prop where
  of ::
  turn : e.turn = d.turn
  jrn : e.jrn = d.jrn
  image : e.image = d.image
  vault : e.vault = d.vault
  boot : e.pwr.boot = d.pwr.boot
  queue : ∀ q, q ≠ 49 → e.queue q = d.queue q
  rd : ∀ a, a < 0x170000 → a ≠ R.VLT_SESS → e.rd a = d.rd a

section
variable {z d e : Dev}

theorem PortOnly.refl (d : Dev) : PortOnly d d := ⟨rfl, rfl, rfl, rfl, rfl, fun _ _ => rfl, fun _ _ _ => rfl⟩

theorem PortOnly.trans (h : PortOnly z d) (k : PortOnly d e) : PortOnly z e :=
  ⟨k.turn.trans h.turn, k.jrn.trans h.jrn, k.image.trans h.image, k.vault.trans h.vault, k.boot.trans h.boot,
    fun q hq => (k.queue q hq).trans (h.queue q hq), fun a ha hne => (k.rd a ha hne).trans (h.rd a ha hne)⟩

/-- A change of the port's state alone. -/
theorem portOnly_setHost (d : Dev) (f : HostPort → HostPort) : PortOnly d (d.setHost f) :=
  ⟨rfl, rfl, rfl, rfl, rfl, fun _ _ => rfl, fun _ _ _ => rfl⟩

theorem portOnly_wr (d : Dev) {a : Nat} (ha : a = R.VLT_SESS ∨ 0x170000 ≤ a) (w : Word) : PortOnly d (d.wr a w) :=
  ⟨rfl, rfl, rfl, rfl, rfl, fun _ _ => rfl, fun x hx hne => rd_wr_other d a x w (by
    rcases ha with rfl | ha
    · exact hne
    · omega)⟩

theorem portOnly_raise (d : Dev) (n : Nat) : PortOnly d (d.raise n) :=
  ⟨by simp, by simp, by simp, by simp, by simp, fun _ hq => queue_raise_other d n hq, fun _ ha _ => rd_raise_low d n ha⟩

theorem portOnly_flagEv (d : Dev) (b n : Nat) : PortOnly d (d.flagEv R.HST_STAT b n) :=
  (portOnly_wr d (.inr (by decide)) _).trans (portOnly_raise _ n)

theorem PortOnly.ite {c : Prop} [Decidable c] (h : PortOnly z d) (k : PortOnly z e) : PortOnly z (if c then d else e) := by
  split <;> assumption

theorem PortOnly.rdF (h : PortOnly z d) {a : Nat} (ha : a < 0x170000) (hne : a ≠ R.VLT_SESS) (f : Field) : d.rdF a f = z.rdF a f :=
  rdF_congr (h.rd a ha hne) f

end

/-! What the port notes of a response (R473, R474) -/

section
variable (d : Dev) (r : Req)

theorem portOnly_noteStatus (st : Nat) : PortOnly d (d.noteStatus st r) := by
  unfold Dev.noteStatus
  extract_lets e
  have he : PortOnly d e := by
    refine .ite ((portOnly_wr d (.inr (by decide)) _).trans (portOnly_flagEv _ 0 251)) (.ite ?_ (.ite ?_ (.ite ?_ (.refl d))))
    · exact (portOnly_wr d (.inr (by decide)) _).trans (portOnly_flagEv _ 1 251)
    · exact portOnly_flagEv d 2 251
    · exact portOnly_flagEv d 3 251
  exact .ite he (he.trans (portOnly_wr e (.inr (by decide)) _))

theorem host_noteStatus (st : Nat) : (d.noteStatus st r).host = d.host := by
  unfold Dev.noteStatus
  extract_lets e
  have he : e.host = d.host := by
    simp only [e]
    repeat' split
    all_goals simp
  split
  · exact he
  · exact he

/-- A status that is no error leaves no note. -/
theorem noteStatus_of_le {st : Nat} (h : st ≤ 3) : d.noteStatus st r = d := by
  unfold Dev.noteStatus stCrcErr stAuthErr stDenied stBadAddr stResult
  extract_lets e
  have he : e = d := by
    simp only [e]
    rw [if_neg (by omega), if_neg (by omega), if_neg (by omega), if_neg (by omega)]
  rw [if_pos h, he]

/-- What a note of a counted error shows: its count, its flag, its event. -/
theorem noteStatus_counted {st b : Nat} {f : Field} (hst : st = 7 ∧ b = 0 ∧ f = F.HST_CNT_CRCERRS ∨ st = 8 ∧ b = 1 ∧ f = F.HST_CNT_AUTHERRS) :
    (d.noteStatus st r).rdF R.HST_CNT f = min 65535 (d.rdF R.HST_CNT f + 1) ∧
    (d.noteStatus st r).rdF R.HST_STAT ⟨b, 1⟩ = 1 ∧ (d.noteStatus st r).evPending 251 = true := by
  obtain ⟨w, hw⟩ : ∃ w, d.noteStatus st r = ((d.incF R.HST_CNT f).flagEv R.HST_STAT b 251).wr R.HST_LASTERR w := by
    rcases hst with ⟨rfl, rfl, rfl⟩ | ⟨rfl, rfl, rfl⟩ <;> exact ⟨_, rfl⟩
  have hfield : f.lo + f.width ≤ 32 ∧ f.width = 16 := by rcases hst with ⟨-, -, rfl⟩ | ⟨-, -, rfl⟩ <;> decide
  have hb : b < 32 := by omega
  have hshown {x : Nat} (hx : x = R.HST_CNT ∨ x = R.HST_STAT) (g : Field) :
      ((d.incF R.HST_CNT f).flagEv R.HST_STAT b 251).rdF x g = ((d.incF R.HST_CNT f).flag R.HST_STAT b).rdF x g :=
    rdF_congr (rd_raise_other _ 251 x (by rcases hx with rfl | rfl <;> decide) (by rcases hx with rfl | rfl <;> decide)
      (by rcases hx with rfl | rfl <;> decide)) g
  rw [hw]
  refine ⟨?_, ?_, ?_⟩
  · rw [rdF_congr (rd_wr_other _ R.HST_LASTERR R.HST_CNT w (by decide)), hshown (.inl rfl)]
    refine (rdF_congr (rd_wr_other _ R.HST_STAT R.HST_CNT _ (by decide)) f).trans ?_
    have hinc := rdF_incF d R.HST_CNT f hfield.1
    rw [hfield.2] at hinc
    exact hinc
  · rw [rdF_congr (rd_wr_other _ R.HST_LASTERR R.HST_STAT w (by decide)), hshown (.inr rfl)]
    exact rdF_flag_same _ _ hb
  · exact (evPending_wr_other _ R.HST_LASTERR w 251 (by decide)).trans (evPending_flagEv_same _ _ _ (by decide))

end

/-! Sessions -/

section
variable (d : Dev) (i : Nat) (f : Session → Session)

theorem portOnly_showSess : PortOnly d (d.showSess i) := by
  unfold Dev.showSess
  split
  · exact .refl d
  · exact (portOnly_wr d (.inr (by simp only [R.HST_SESS]; omega)) _).trans (portOnly_wr _ (.inl rfl) _)

theorem host_showSess : (d.showSess i).host = d.host := by
  unfold Dev.showSess
  split <;> rfl

theorem queues_setSess : (d.setSess i f).queues = d.queues := by
  unfold Dev.setSess Dev.showSess
  split <;> rfl

theorem portOnly_setSess : PortOnly d (d.setSess i f) := (portOnly_setHost d _).trans (portOnly_showSess _ i)

theorem host_setSess : (d.setSess i f).host = { d.host with sessions := upd d.host.sessions i f } := host_showSess _ i

variable {i}

theorem sessAt_setSess_same (hi : i < d.host.sessions.length) : (d.setSess i f).sessAt i = f (d.sessAt i) := by
  rw [Dev.sessAt, host_setSess]
  exact getD_upd_same _ _ _ hi

theorem sessAt_setSess_other {k : Nat} (h : k ≠ i) : (d.setSess i f).sessAt k = d.sessAt k := by
  rw [Dev.sessAt, host_setSess]
  exact getD_upd_other _ _ _ h

theorem sessions_setSess : (d.setSess i f).host.sessions.length = d.host.sessions.length := by
  rw [host_setSess]
  exact length_upd _ _ _

end

/-! Answers (R474) -/

section
variable (d : Dev) (r : Req) (st : Nat) (payload : List Byte)

theorem portOnly_answerBare : PortOnly d (d.answerBare r st payload) :=
  (portOnly_noteStatus d r st).trans (portOnly_setHost _ _)

theorem host_answerBare : (d.answerBare r st payload).host = { d.host with resp := respFrame st 0 0 r payload none } := by
  rw [Dev.answerBare, Dev.setHost, host_noteStatus]

variable (i res : Nat)

/-- The answer of a session that runs: what the port notes, the session's next CTR, and the frame. -/
theorem answer_up (hup : d.pwr.boot = 3) : d.answer i r st payload res =
    ((d.noteStatus st r).setSess i (fun s => { s with ctrOut := (s.ctrOut + 1) % 2 ^ 32 })).setHost
      (fun h => { h with resp := respFrame st res (d.sessAt i).ctrOut r payload (if i < 8 then some (d.sessAt i).sk else none) }) :=
  if_neg (not_not_intro hup)

theorem portOnly_answer : PortOnly d (d.answer i r st payload res) := by
  by_cases hup : d.pwr.boot = 3
  · rw [answer_up d r st payload i res hup]
    exact ((portOnly_noteStatus d r st).trans (portOnly_setSess _ _ _)).trans (portOnly_setHost _ _)
  · rw [Dev.answer, if_pos hup]
    exact .refl d

theorem host_answer (hup : d.pwr.boot = 3) : (d.answer i r st payload res).host =
    { d.host with
      sessions := upd d.host.sessions i (fun s => { s with ctrOut := (s.ctrOut + 1) % 2 ^ 32 })
      resp := respFrame st res (d.sessAt i).ctrOut r payload (if i < 8 then some (d.sessAt i).sk else none) } := by
  rw [answer_up d r st payload i res hup, Dev.setHost, host_setSess, host_noteStatus]

/-- An answer without an error touches no queue. -/
theorem queue_answer_of_le (h : st ≤ 3) (q : Nat) : (d.answer i r st payload res).queue q = d.queue q := by
  have hq : (d.answer i r st payload res).queues = d.queues := by
    by_cases hup : d.pwr.boot = 3
    · rw [answer_up d r st payload i res hup, noteStatus_of_le d r h]
      exact queues_setSess d i _
    · rw [Dev.answer, if_pos hup]
  rw [Dev.queue, hq, ← Dev.queue]

end

/-! Requests -/

section
variable {d : Dev} {frame : List Byte} {r : Req} {i : Nat} {opc : Nat → Bool} {act : Dev → Nat → Req → Dev}

theorem request_none (hparse : parseReq frame = none) (d : Dev) : d.request frame opc act = d := by
  unfold Dev.request
  simp only [hparse, ite_self]

theorem request_crc (hup : d.pwr.boot = 3) (hparse : parseReq frame = some r) (hopc : opc r.opc = true) (hcrc : r.crcOk = false) :
    d.request frame opc act = (asked d frame).answerBare r stCrcErr [] := by
  unfold Dev.request
  simp only [hup, hparse, hopc, hcrc, ne_eq, not_true_eq_false, if_false, Bool.not_true, Bool.not_false, if_true,
    Bool.false_eq_true]
  rfl

theorem request_auth (hup : d.pwr.boot = 3) (hparse : parseReq frame = some r) (hopc : opc r.opc = true) (hcrc : r.crcOk = true)
    (htaken : d.taken r = none) : d.request frame opc act = (asked d frame).answerBare r stAuthErr [] := by
  have htaken' : (d.setHost (fun h => { h with quad := quadOf frame })).taken r = none := htaken
  unfold Dev.request
  simp only [hup, hparse, hopc, hcrc, ne_eq, not_true_eq_false, if_false, Bool.not_true, Bool.false_eq_true, htaken']
  rfl

theorem request_taken (hup : d.pwr.boot = 3) (hparse : parseReq frame = some r) (hopc : opc r.opc = true) (hcrc : r.crcOk = true)
    (htaken : d.taken r = some i) : d.request frame opc act = act (noted d frame r i) i r := by
  have htaken' : (d.setHost (fun h => { h with quad := quadOf frame })).taken r = some i := htaken
  unfold Dev.request
  simp only [hup, hparse, hopc, hcrc, ne_eq, not_true_eq_false, if_false, Bool.not_true, Bool.false_eq_true, htaken']
  rfl

theorem requestOpen_whole {o : Nat} {act : Dev → Req → Dev} (hup : d.pwr.boot = 3) (hparse : parseReq frame = some r)
    (hopc : r.opc = o) (hcrc : r.crcOk = true) : d.requestOpen frame o act = act (asked d frame) r := by
  unfold Dev.requestOpen
  simp only [hup, hparse, hopc, hcrc, ne_eq, not_true_eq_false, if_false, Bool.not_true, Bool.false_eq_true]
  rfl

theorem hostOpen1_whole (hup : d.pwr.boot = 3) (hparse : parseReq frame = some r) (hopc : r.opc = 0x01) (hcrc : r.crcOk = true) :
    d.hostOpen1 frame = (asked d frame).open1 r := requestOpen_whole hup hparse hopc hcrc

theorem hostOpen2_whole (hup : d.pwr.boot = 3) (hparse : parseReq frame = some r) (hopc : r.opc = 0x02) (hcrc : r.crcOk = true) :
    d.hostOpen2 frame = (asked d frame).open2 r := requestOpen_whole hup hparse hopc hcrc

/-- A taken request's session is one of the nine. -/
theorem taken_lt (htaken : d.taken r = some i) : i < 9 := by
  have hidx : sessIdx r.sess = some i := by
    unfold Dev.taken at htaken
    cases h : sessIdx r.sess with
    | none => simp [h] at htaken
    | some k =>
      simp only [h] at htaken
      obtain ⟨b, hb⟩ : ∃ b : Bool, (if b then some k else none) = some i := ⟨_, htaken⟩
      cases b
      · exact absurd hb (by simp)
      · exact hb
  unfold sessIdx at hidx
  split at hidx
  · obtain rfl := Option.some.inj hidx
    decide
  · split at hidx
    · obtain rfl := Option.some.inj hidx
      omega
    · exact absurd hidx (by simp)

theorem portOnly_asked (d : Dev) (frame : List Byte) : PortOnly d (asked d frame) :=
  portOnly_setHost d (fun h => { h with quad := quadOf frame })

theorem portOnly_noted (d : Dev) (frame : List Byte) (r : Req) (i : Nat) : PortOnly d (noted d frame r i) :=
  (portOnly_asked d frame).trans (portOnly_setSess _ _ _)

theorem host_noted (d : Dev) (frame : List Byte) (r : Req) (i : Nat) : (noted d frame r i).host =
    { d.host with quad := quadOf frame, sessions := upd d.host.sessions i (fun x => { x with ctrIn := r.ctr }) } :=
  host_setSess (asked d frame) i _

theorem sessAt_noted_same (frame : List Byte) (r : Req) (hi : i < d.host.sessions.length) :
    (noted d frame r i).sessAt i = { d.sessAt i with ctrIn := r.ctr } := sessAt_setSess_same (asked d frame) _ hi

theorem sessAt_noted_other (d : Dev) (frame : List Byte) (r : Req) {k : Nat} (h : k ≠ i) :
    (noted d frame r i).sessAt k = d.sessAt k := sessAt_setSess_other (asked d frame) _ h

end

/-- The command of an opcode that needs a session serves the frames of that opcode. -/
theorem portCommand_request {o : Nat} {frame : List Byte} {c : Instr} (h : portCommand o frame = some c) :
    ∃ opc act, opc o = true ∧
      ∀ s, exec c s = .next (s.onDev (fun d => d.whenUp (fun d => d.request frame opc act))) := by
  unfold portCommand at h
  split at h
  case h_9 | h_10 => exact absurd h (by simp)
  case h_11 h3 h10 h11 h20 h21 h30 h31 h40 h1 h2 =>
    obtain rfl := Option.some.inj h
    refine ⟨fun o => !knownOpcodes.contains o, _, ?_, fun _ => rfl⟩
    simp only [knownOpcodes, List.contains_eq_mem, List.mem_cons, List.not_mem_nil, or_false, Bool.not_eq_true',
      decide_eq_false_iff_not, not_or]
    exact ⟨h1, h2, h3, h10, h11, h20, h21, h30, h31, h40⟩
  all_goals
    obtain rfl := Option.some.inj h
    exact ⟨_, _, rfl, fun _ => rfl⟩

/-! The lines (R468, R469) -/

theorem length_byteCycles (quad : Bool) (io : Nat) (b : Byte) : (byteCycles quad io b).length = if quad then 2 else 8 := by
  cases quad <;> simp [byteCycles]

theorem length_respCycles (d : Dev) : d.respCycles.length = 32 + (if d.host.quad then 2 else 8) * d.host.resp.length := by
  rw [Dev.respCycles, List.length_append, List.length_flatMap]
  simp only [turnaround, List.length_replicate, length_byteCycles, List.map_const', List.sum_replicate_nat, Nat.mul_comm]

theorem take_respCycles (d : Dev) : d.respCycles.take 32 = List.replicate 32 [none, none, none, none] :=
  List.take_left' (List.length_replicate ..)

theorem drop_respCycles (d : Dev) : d.respCycles.drop 32 = d.host.resp.flatMap (byteCycles d.host.quad 1) :=
  List.drop_left' (List.length_replicate ..)

/-- In the single mode a cycle drives HST_IO1 alone. -/
theorem byteCycles_single {b : Byte} {c : IoCycle} (h : c ∈ byteCycles false 1 b) :
    c.length = 4 ∧ ∀ i, i ≠ 1 → c.getD i none = none := by
  obtain ⟨k, -, rfl⟩ := List.mem_map.mp h
  refine ⟨by simp, fun i hi => ?_⟩
  match i with
  | 0 | 2 | 3 => rfl
  | 1 => exact absurd rfl hi
  | _ + 4 => rfl

/-- In the quad mode a cycle drives every line. -/
theorem byteCycles_quad {b : Byte} {c : IoCycle} (h : c ∈ byteCycles true 1 b) :
    c.length = 4 ∧ ∀ i, i < 4 → c.getD i none ≠ none := by
  obtain ⟨n, -, rfl⟩ := List.mem_map.mp h
  refine ⟨by simp, fun i hi => ?_⟩
  match i, hi with
  | 0, _ | 1, _ | 2, _ | 3, _ => exact Option.some_ne_none _

/-! What sessions an answer leaves -/

section
variable {d : Dev} {i : Nat} (r : Req) (st res : Nat) (payload : List Byte)

theorem sessAt_answer_same (hup : d.pwr.boot = 3) (hi : i < d.host.sessions.length) :
    (d.answer i r st payload res).sessAt i = { d.sessAt i with ctrOut := ((d.sessAt i).ctrOut + 1) % 2 ^ 32 } := by
  rw [Dev.sessAt, host_answer d r st payload i res hup]
  exact getD_upd_same _ _ _ hi

theorem sessAt_answer_other (hup : d.pwr.boot = 3) {k : Nat} (hk : k ≠ i) :
    (d.answer i r st payload res).sessAt k = d.sessAt k := by
  rw [Dev.sessAt, host_answer d r st payload i res hup]
  exact getD_upd_other _ _ _ hk

theorem resp_answer (hup : d.pwr.boot = 3) : (d.answer i r st payload res).host.resp =
    respFrame st res (d.sessAt i).ctrOut r payload (if i < 8 then some (d.sessAt i).sk else none) := by
  rw [host_answer d r st payload i res hup]

end

/-! Openings (R420, R421, R475) -/

section
variable {d : Dev} {r : Req}

theorem open1_locked (hlen : r.len = 18) (hlock : d.locked = true) : d.open1 r = d.answerBare r stAuthErr [] := by
  simp only [Dev.open1, hlen, hlock, ne_eq, not_true_eq_false, if_false, true_or, if_true]

variable (hlen : r.len = 18) (hlock : d.locked = false) (htrng : d.trngBad = false)
include hlen hlock htrng

theorem open1_session {p : Nat} (hkey : byteAt r.payload 0 = 0xFF) (hsess : byteAt r.payload 1 = 0xFF) (hperm : d.openPerm = some p) :
    d.open1 r = ((d.trng 2).2.setSess 8 (fun _ => ⟨true, 0, p, 0, 1, []⟩)).answer 8 r stOk (d.trng 2).1 := by
  simp only [Dev.open1, hlen, hlock, htrng, hkey, hsess, hperm, ne_eq, not_true_eq_false, if_false, Bool.false_eq_true, or_self, if_true]

theorem open1_denied (hkey : byteAt r.payload 0 = 0xFF) (hperm : d.openPerm = none) :
    d.open1 r = d.answerBare r stDenied [] := by
  simp only [Dev.open1, hlen, hlock, htrng, hkey, hperm, ne_eq, not_true_eq_false, if_false, Bool.false_eq_true, or_self, if_true]

theorem open1_nonce (hkey : byteAt r.payload 0 ≠ 0xFF) : d.open1 r = ((d.trng 2).2.setHost (fun h => { h with
    opening := some ⟨byteAt r.payload 1, byteAt r.payload 0, slice r.payload 2 16, (d.trng 2).1⟩ })).answerBare r stOk (d.trng 2).1 := by
  simp only [Dev.open1, hlen, hlock, htrng, hkey, ne_eq, not_true_eq_false, if_false, Bool.false_eq_true, or_self]

omit hlen hlock htrng

/-- An opening without its proof leaves the sessions, ends, and is counted (R420). -/
theorem openFailed_spec (d : Dev) (r : Req) (key cause : Nat) : (d.openFailed r key cause).host.opening = none ∧
    (d.openFailed r key cause).host.sessions = d.host.sessions ∧ (d.openFailed r key cause).evPending 229 = true ∧
    (d.openFailed r key cause).rdF R.VLT_SESS F.VLT_SESS_FAILS = min 65535 (d.rdF R.VLT_SESS F.VLT_SESS_FAILS + 1) := by
  unfold Dev.openFailed
  extract_lets now fails lock d1 d2 d3
  have hhost2 : d2.host = d1.host := by
    simp only [d2]
    split <;> rfl
  have hrd2 {a : Nat} (ha : a ≠ R.VLT_STAT) : d2.rd a = d1.rd a := by
    simp only [d2]
    split
    · exact rd_wr_other _ _ _ _ ha
    · rfl
  have hhost3 : d3.host = d1.host := (show _ = d2.host by simp [d3]).trans hhost2
  have hrd3 : d3.rd R.VLT_SESS = d.rd R.VLT_SESS :=
    (rd_raise_low _ 229 (by decide)).trans (hrd2 (a := R.VLT_SESS) (by decide))
  have hev3 : d3.evPending 229 = true := evPending_raise_same _ (by decide)
  have hhost : ((d3.incF R.VLT_SESS F.VLT_SESS_FAILS).answerBare r stAuthErr []).host = { d1.host with resp := respFrame stAuthErr 0 0 r [] none } :=
    (host_answerBare _ r stAuthErr []).trans (by rw [show (d3.incF R.VLT_SESS F.VLT_SESS_FAILS).host = d3.host from rfl, hhost3])
  clear_value d3
  obtain ⟨c, hc⟩ : ∃ c, c = d3.incF R.VLT_SESS F.VLT_SESS_FAILS := ⟨_, rfl⟩
  have hnote : c.noteStatus stAuthErr r = ((c.incF R.HST_CNT F.HST_CNT_AUTHERRS).flagEv R.HST_STAT 1 251).wr R.HST_LASTERR
      (packF [(F.HST_LASTERR_STATUS, stAuthErr), (F.HST_LASTERR_OPC, r.opc), (F.HST_LASTERR_SESS, r.sess)]) := rfl
  have hcev : c.evPending 229 = true := by
    rw [hc]
    exact (evPending_wr_other d3 R.VLT_SESS _ 229 (by decide)).trans hev3
  have hcrd : c.rdF R.VLT_SESS F.VLT_SESS_FAILS = min 65535 (d.rdF R.VLT_SESS F.VLT_SESS_FAILS + 1) := by
    have hinc := rdF_incF d3 R.VLT_SESS F.VLT_SESS_FAILS (by decide)
    rw [← hc, rdF_congr hrd3] at hinc
    exact hinc
  rw [← hc] at hhost ⊢
  refine ⟨congrArg HostPort.opening hhost, (congrArg HostPort.sessions hhost).trans rfl, ?_, ?_⟩
  · refine Eq.trans (b := (c.noteStatus stAuthErr r).evPending 229) rfl ?_
    rw [hnote, evPending_wr_other _ _ _ _ (by decide)]
    exact evPending_raise_of (by decide) (.inr ((evPending_wr_other _ R.HST_STAT _ 229 (by decide)).trans
      ((evPending_wr_other c R.HST_CNT _ 229 (by decide)).trans hcev)))
  · refine Eq.trans (b := (c.noteStatus stAuthErr r).rdF R.VLT_SESS F.VLT_SESS_FAILS) rfl ?_
    rw [hnote, rdF_congr (rd_wr_other _ _ _ _ (by decide)), rdF_congr (rd_flagEv_low_other _ (by decide) (by decide) 1 251),
      rdF_incF_other c R.HST_CNT R.VLT_SESS _ _ (by decide)]
    exact hcrd

/-- OPEN2 with an opening in progress: the right proof opens its session, another one fails. -/
theorem open2_spec {o : Opening} {h : HostKey} (hup : d.pwr.boot = 3) (hlen : r.len = 8) (hlock : d.locked = false)
    (hopening : d.host.opening = some o) (hsess : o.sess < 8) (hkey : d.hostKey o.key = some h) (hsessions : d.host.sessions.length = 9) :
    (d.open2 r).host.opening = none ∧
    if r.payload = (hmac (sessionKey o h) ([0x6F, 0x70, 0x65, 0x6E] ++ o.nh ++ o.nd)).take 8 then
      (d.open2 r).sessAt o.sess = ⟨true, o.key, h.perm.toNat, 0, 2, sessionKey o h⟩
    else (d.open2 r).host.sessions = d.host.sessions ∧ (d.open2 r).evPending 229 = true ∧
      (d.open2 r).rdF R.VLT_SESS F.VLT_SESS_FAILS = min 65535 (d.rdF R.VLT_SESS F.VLT_SESS_FAILS + 1) := by
  have hopen : d.open2 r = if r.payload ≠ (hmac (sessionKey o h) ([0x6F, 0x70, 0x65, 0x6E] ++ o.nh ++ o.nd)).take 8
      then d.openFailed r o.key 1
      else ((((d.setHost (fun x => { x with opening := none })).setSess o.sess
        (fun _ => ⟨true, o.key, h.perm.toNat, 0, 1, sessionKey o h⟩)).happen (secEntry 0x0008 [byteOf o.sess, byteOf o.key])).answer o.sess
          { r with sess := o.sess } stOk ((hmac (sessionKey o h) ([0x61, 0x63, 0x6B] ++ o.nd ++ o.nh)).take 8)) := by
    have hge : ¬ o.sess ≥ 8 := by omega
    simp only [Dev.open2, hlen, hlock, hopening, hkey, hge, ne_eq, not_true_eq_false, if_false, Bool.false_eq_true]
  by_cases hproof : r.payload = (hmac (sessionKey o h) ([0x6F, 0x70, 0x65, 0x6E] ++ o.nh ++ o.nd)).take 8
  · rw [if_pos hproof, hopen, if_neg (not_not_intro hproof)]
    obtain ⟨c, hc⟩ : ∃ c, c = (d.setHost (fun x => { x with opening := none })).setSess o.sess
        (fun _ => ⟨true, o.key, h.perm.toNat, 0, 1, sessionKey o h⟩) := ⟨_, rfl⟩
    have hchost : c.host = { d.host with
        opening := none
        sessions := upd d.host.sessions o.sess (fun _ => ⟨true, o.key, h.perm.toNat, 0, 1, sessionKey o h⟩) } := by
      rw [hc]
      exact host_setSess _ _ _
    have hcsess : c.sessAt o.sess = ⟨true, o.key, h.perm.toNat, 0, 1, sessionKey o h⟩ := by
      rw [Dev.sessAt, hchost]
      exact getD_upd_same _ _ _ (by omega)
    have hcup : c.pwr.boot = 3 := by
      rw [hc]
      exact (portOnly_setSess (d.setHost (fun x => { x with opening := none })) o.sess _).boot.trans hup
    have hlen9 : c.host.sessions.length = 9 := by
      rw [hchost]
      exact (length_upd _ _ _).trans hsessions
    rw [← hc]
    refine ⟨?_, ?_⟩
    · rw [host_answer _ _ _ _ _ _ (show (c.happen _).pwr.boot = 3 from hcup)]
      exact congrArg HostPort.opening hchost
    · rw [sessAt_answer_same _ _ _ _ (show (c.happen _).pwr.boot = 3 from hcup) (show o.sess < c.host.sessions.length by omega)]
      rw [show (c.happen (secEntry 0x0008 [byteOf o.sess, byteOf o.key])).sessAt o.sess = c.sessAt o.sess from rfl, hcsess]
      rfl
  · obtain ⟨hended, hsame, hev, hcount⟩ := openFailed_spec d r o.key 1
    rw [if_neg hproof, hopen, if_pos hproof]
    exact ⟨hended, hsame, hev, hcount⟩

end

/-! The port's frames and sessions -/

section
variable {s : State} {frame : List Byte} {r : Req} {i : Nat}

/-- A taken request of an opcode runs its act on the noted session. -/
theorem exec_taken {c : Instr} {opc : Nat → Bool} {act : Dev → Nat → Req → Dev} (htaken : Taken s frame r i) (hopc : opc r.opc = true)
    (hexec : exec c s = .next (s.onDev (fun d => d.whenUp (fun d => d.request frame opc act)))) :
    exec c s = .next (s.on (act (noted s.dev frame r i) i r)) := by
  obtain ⟨hup, hparse, hcrc, hsess, -⟩ := htaken
  exact exec_of_up hup hexec (request_taken hup hparse hopc hcrc hsess)

theorem session_lt_of_taken (htaken : Taken s frame r i) : i < s.dev.host.sessions.length := by
  obtain ⟨-, -, -, hsess, hlen⟩ := htaken
  rw [hlen]
  exact taken_lt hsess

theorem completes_on {c : Instr} {e : Dev} {P : Dev → Prop} (hexec : exec c s = .next (s.on e)) (hP : P e) : Completes c s P :=
  ⟨s.on e, hexec, rfl, hP⟩

/-- What a request that the port does not take leaves: its answer, its count, its flag, its event. -/
theorem answerBare_counted {d : Dev} (frame : List Byte) (r : Req) {st b : Nat} {f : Field}
    (hst : st = 7 ∧ b = 0 ∧ f = F.HST_CNT_CRCERRS ∨ st = 8 ∧ b = 1 ∧ f = F.HST_CNT_AUTHERRS) :
    let e := (asked d frame).answerBare r st []
    e.host.resp = respFrame st 0 0 r [] none ∧ e.rdF R.HST_CNT f = min 65535 (d.rdF R.HST_CNT f + 1) ∧
    e.rdF R.HST_STAT ⟨b, 1⟩ = 1 ∧ e.evPending 251 = true ∧ e.host.sessions = d.host.sessions ∧ e.jrn = d.jrn ∧ e.turn = d.turn ∧
    ∀ q, q ≠ 49 → e.queue q = d.queue q := by
  have hkeep := (portOnly_asked d frame).trans (portOnly_answerBare (asked d frame) r st [])
  have hhost := host_answerBare (asked d frame) r st []
  obtain ⟨hcount, hflag, hev⟩ := noteStatus_counted (asked d frame) r hst
  exact ⟨congrArg HostPort.resp hhost, hcount, hflag, hev, (congrArg HostPort.sessions hhost).trans rfl, hkeep.jrn, hkeep.turn, hkeep.queue⟩

/-- CLOSE answers under the session's key and closes it. -/
theorem closeSess_spec {d : Dev} (hup : d.pwr.boot = 3) (hi : i < d.host.sessions.length) (r : Req) :
    (d.closeSess i r).sessAt i = Session.closed ∧ (∀ k, k ≠ i → (d.closeSess i r).sessAt k = d.sessAt k) ∧
    (d.closeSess i r).host.quad = d.host.quad ∧
    (d.closeSess i r).host.resp = respFrame 0 0 (d.sessAt i).ctrOut r [] (if i < 8 then some (d.sessAt i).sk else none) := by
  have hhost := host_answer d r stOk [] i 0 hup
  have hlen : i < (d.answer i r stOk []).host.sessions.length := by
    rw [hhost]
    exact Nat.lt_of_lt_of_eq hi (length_upd _ _ _).symm
  have hclose := host_setSess (d.answer i r stOk []) i (fun _ => Session.closed)
  refine ⟨sessAt_setSess_same _ _ hlen, fun k hk => ?_, ?_, ?_⟩
  · exact (sessAt_setSess_other _ _ hk).trans (sessAt_answer_other r stOk 0 [] hup hk)
  · exact (congrArg HostPort.quad hclose).trans ((congrArg HostPort.quad hhost).trans rfl)
  · exact (congrArg HostPort.resp hclose).trans ((congrArg HostPort.resp hhost).trans rfl)

end

/-- The random bytes do not hang on the line mode. -/
theorem trng_congr {d e : Dev} (h : d.free = e.free) (n : Nat) : (d.trng n).1 = (e.trng n).1 := by
  induction n generalizing d e with
  | zero => rfl
  | succ k ih =>
    have hstep (d : Dev) : (d.trng (k + 1)).1 = leBytes 8 (d.freeVal 64).1 ++ ((d.freeVal 64).2.trng k).1 := rfl
    have hval : (d.freeVal 64).1 = (e.freeVal 64).1 := by rw [Dev.freeVal, Dev.freeVal, h]
    have hnext : (d.freeVal 64).2.free = (e.freeVal 64).2.free := congrArg (· + 1) h
    rw [hstep, hstep, hval, ih hnext]

theorem trng_asked (d : Dev) (frame : List Byte) (n : Nat) : ((asked d frame).trng n).1 = (d.trng n).1 :=
  trng_congr (d := asked d frame) (e := d) rfl n

/-- OPEN1 of the unauthenticated session. -/
theorem open1_session_spec {d : Dev} {r : Req} {p : Nat} (hup : d.pwr.boot = 3) (hlen : d.host.sessions.length = 9)
    (h : d.open1 r = ((d.trng 2).2.setSess 8 (fun _ => ⟨true, 0, p, 0, 1, []⟩)).answer 8 r stOk (d.trng 2).1) :
    (d.open1 r).sessAt 8 = ⟨true, 0, p, 0, 2, []⟩ ∧ (d.open1 r).host.resp = respFrame 0 0 1 r (d.trng 2).1 none := by
  obtain ⟨c, hc⟩ : ∃ c, c = (d.trng 2).2.setSess 8 (fun _ => ⟨true, 0, p, 0, 1, []⟩) := ⟨_, rfl⟩
  have hfree : (d.trng 2).2.host = d.host ∧ (d.trng 2).2.pwr = d.pwr := by
    rw [trng_frame d 2]
    exact ⟨rfl, rfl⟩
  have hcup : c.pwr.boot = 3 := by
    rw [hc, (portOnly_setSess (d.trng 2).2 8 _).boot, hfree.2]
    exact hup
  have hcsess : c.sessAt 8 = ⟨true, 0, p, 0, 1, []⟩ := by
    rw [hc]
    exact sessAt_setSess_same _ _ (by rw [hfree.1, hlen]; decide)
  have hclen : 8 < c.host.sessions.length := by
    rw [hc, sessions_setSess, hfree.1, hlen]
    decide
  rw [← hc] at h
  rw [h]
  refine ⟨?_, ?_⟩
  · rw [sessAt_answer_same r stOk 0 _ hcup hclen, hcsess]
    rfl
  · rw [resp_answer r stOk 0 _ hcup, hcsess]
    rfl

/-- Settles O52: requests by the four ways that they end in, openings by their two opcodes, the lines byte by byte. -/
theorem portFramesAndSessions : Obligations.PortFramesAndSessions := by
  unfold Obligations.PortFramesAndSessions
  refine ⟨fun s frame opc c hcmd hparse => ?_, fun s frame r c hup hparse hcmd => ⟨fun hcrc => ?_, fun hcrc htaken => ?_⟩,
    fun d i r st res payload hup hi hlen => ?_, fun s frame r hup hparse hcrc hlen => ⟨fun hopc hrlen hlock htrng => ⟨?_, ?_, ?_⟩, ?_, ?_⟩,
    fun s frame r i htaken => ⟨fun hopc => ?_, fun hopc => ?_⟩,
    fun d => ⟨take_respCycles d, length_respCycles d, fun hquad c hc => ?_, fun hquad c hc => ?_⟩,
    fun s hup => ⟨?_, ?_⟩⟩
  · obtain ⟨ok, act, -, hexec⟩ := portCommand_request hcmd
    exact exec_keeps (hexec s) (request_none hparse s.dev)
  · obtain ⟨ok, act, hok, hexec⟩ := portCommand_request hcmd
    exact completes_on (exec_of_up hup (hexec s) (request_crc hup hparse hok hcrc))
      (answerBare_counted frame r (.inl ⟨rfl, rfl, rfl⟩))
  · obtain ⟨ok, act, hok, hexec⟩ := portCommand_request hcmd
    exact completes_on (exec_of_up hup (hexec s) (request_auth hup hparse hok hcrc htaken))
      (answerBare_counted frame r (.inr ⟨rfl, rfl, rfl⟩))
  · have hkeep := portOnly_answer d r st payload i res
    have hsess := sessAt_answer_same r st res payload hup (show i < d.host.sessions.length by omega)
    exact ⟨resp_answer r st res payload hup, congrArg Session.ctrOut hsess, hkeep.jrn, hkeep.turn, hkeep.queue⟩
  · intro p hkey hsess hperm
    refine completes_on (exec_of_up hup (f := fun d => d.hostOpen1 frame) rfl (hostOpen1_whole hup hparse hopc hcrc)) ?_
    rw [← trng_asked s.dev frame 2]
    exact open1_session_spec (d := asked s.dev frame) hup hlen
      (open1_session (d := asked s.dev frame) hrlen hlock htrng hkey hsess hperm)
  · intro hkey hperm
    exact exec_of_up hup (f := fun d => d.hostOpen1 frame) rfl
      ((hostOpen1_whole hup hparse hopc hcrc).trans (open1_denied (d := asked s.dev frame) hrlen hlock htrng hkey hperm))
  · intro hkey
    refine completes_on (exec_of_up hup (f := fun d => d.hostOpen1 frame) rfl
      ((hostOpen1_whole hup hparse hopc hcrc).trans (open1_nonce (d := asked s.dev frame) hrlen hlock htrng hkey))) ?_
    have hhost := host_answerBare (((asked s.dev frame).trng 2).2.setHost (fun h => { h with
      opening := some ⟨byteAt r.payload 1, byteAt r.payload 0, slice r.payload 2 16, ((asked s.dev frame).trng 2).1⟩ })) r stOk
      ((asked s.dev frame).trng 2).1
    have hkept : ((asked s.dev frame).trng 2).2.host.sessions = s.dev.host.sessions := by
      rw [trng_frame (asked s.dev frame) 2]
      rfl
    rw [← trng_asked s.dev frame 2]
    exact ⟨congrArg HostPort.opening hhost, congrArg HostPort.resp hhost, (congrArg HostPort.sessions hhost).trans hkept⟩
  · intro hopc hrlen hlock
    exact exec_of_up hup (f := fun d => d.hostOpen1 frame) rfl
      ((hostOpen1_whole hup hparse hopc hcrc).trans (open1_locked (d := asked s.dev frame) hrlen hlock))
  · intro o h hopc hrlen hlock hopening hsess hkey
    refine completes_on (exec_of_up hup (f := fun d => d.hostOpen2 frame) rfl (hostOpen2_whole hup hparse hopc hcrc)) ?_
    exact open2_spec (d := asked s.dev frame) hup hrlen hlock hopening hsess hkey hlen
  · have hopc' : (r.opc == 0x03) = true := by rw [hopc]; rfl
    refine completes_on (exec_taken htaken (opc := (· == 0x03)) (act := Dev.closeSess) hopc' rfl) ?_
    have hlt := session_lt_of_taken htaken
    obtain ⟨hup, -, -, -, -⟩ := htaken
    have hsame := sessAt_noted_same frame r hlt
    obtain ⟨hclosed, hother, hquad, hresp⟩ := closeSess_spec (d := noted s.dev frame r i) (i := i)
      ((portOnly_noted s.dev frame r i).boot.trans hup) (by rw [host_noted]; exact Nat.lt_of_lt_of_eq hlt (length_upd _ _ _).symm) r
    rw [hsame] at hresp
    refine ⟨hclosed, fun k hk => (hother k hk).trans (sessAt_noted_other s.dev frame r hk), ?_, hresp⟩
    rw [hquad, host_noted]
    rfl
  · exact exec_taken htaken (c := .badopc frame) (opc := fun o => !knownOpcodes.contains o)
      (act := fun d i r => d.answer i r stBadOpc []) (by simpa using hopc) rfl
  · rw [drop_respCycles, hquad] at hc
    obtain ⟨b, -, hb⟩ := List.mem_flatMap.mp hc
    exact byteCycles_single hb
  · rw [drop_respCycles, hquad] at hc
    obtain ⟨b, -, hb⟩ := List.mem_flatMap.mp hc
    exact byteCycles_quad hb
  · exact exec_of_up hup (f := fun d => d.hostAbort true) rfl rfl
  · exact exec_keeps (f := fun d => d.hostAbort false) rfl rfl

end Sys2Proof.Machine
end

section
/-!
PROOFS. What a taken request does (R300, R420, R477 to R483).
-/
namespace Sys2Proof.Machine

/-! What a noted session leaves alone -/

section
variable (d : Dev) (frame : List Byte) (r : Req) (i : Nat)

theorem queues_noted : (noted d frame r i).queues = d.queues := queues_setSess (asked d frame) i _

theorem queue_noted (q : Nat) : (noted d frame r i).queue q = d.queue q := by
  rw [Dev.queue, queues_noted, ← Dev.queue]

theorem rdF_noted {a : Nat} (ha : a < 0x170000) (hne : a ≠ R.VLT_SESS) (f : Field) : (noted d frame r i).rdF a f = d.rdF a f :=
  (portOnly_noted d frame r i).rdF ha hne f

theorem role_noted : (noted d frame r i).role = d.role := rdF_noted d frame r i (by decide) (by decide) _

theorem holder_noted : (noted d frame r i).holder = d.holder := by
  rw [Dev.holder, role_noted, ← Dev.holder]

theorem life_noted : (noted d frame r i).life = d.life := rdF_noted d frame r i (by decide) (by decide) _

theorem exports_noted : (noted d frame r i).exports = d.exports := by
  rw [Dev.exports, holder_noted, rdF_noted d frame r i (by decide) (by decide), ← Dev.exports]

theorem takesImages_noted : (noted d frame r i).takesImages = d.takesImages := by
  rw [Dev.takesImages, holder_noted, role_noted, life_noted, rdF_noted d frame r i (by decide) (by decide), ← Dev.takesImages]

theorem hasRoom_noted (q : Nat) : (noted d frame r i).hasRoom q = d.hasRoom q := by
  rw [Dev.hasRoom, queue_noted, ← Dev.hasRoom]

theorem replayOf_noted (sess : Nat) : (noted d frame r i).replayOf sess = d.replayOf sess := by
  rw [Dev.replayOf, (portOnly_noted d frame r i).jrn, ← Dev.replayOf]

theorem replayed_noted (sess id : Nat) : (noted d frame r i).replayed sess id = d.replayed sess id := by
  rw [Dev.replayed, replayOf_noted, host_noted, ← Dev.replayed]

theorem replayStale_noted (sess id : Nat) : (noted d frame r i).replayStale sess id = d.replayStale sess id := by
  rw [Dev.replayStale, replayOf_noted, ← Dev.replayStale]

theorem vaultKept_noted (sess id : Nat) : (noted d frame r i).vaultKept sess id = d.vaultKept sess id := by
  rw [Dev.vaultKept, host_noted, ← Dev.vaultKept]

theorem cmdPending_noted (sess id : Nat) : (noted d frame r i).cmdPending sess id = d.cmdPending sess id := by
  have hkeep := portOnly_noted d frame r i
  simp only [Dev.cmdPending, queue_noted, hkeep.turn, hkeep.jrn]

theorem staging_noted : (noted d frame r i).staging = d.staging := rdF_noted d frame r i (by decide) (by decide) _

theorem actSlot_noted : (noted d frame r i).actSlot = d.actSlot := rdF_noted d frame r i (by decide) (by decide) _

variable {i}

theorem may_noted (hi : i < d.host.sessions.length) (p : Nat) : (noted d frame r i).may i p = d.may i p := by
  rw [Dev.may, sessAt_noted_same frame r hi, ← Dev.may]

end

/-! The act of each opcode, where the port takes it -/

section
variable {d : Dev} {r : Req} {i : Nat}

theorem portRead_ok (hmay : d.may i 0 = true) (hlow : 4 ≤ r.len) (hhigh : r.len ≤ 4096) (hlen : r.len % 4 = 0) (haddr : r.addr % 4 = 0) :
    d.portRead i r = (d.readWords r.addr (r.len / 4)).2.answer i r stOk (d.readWords r.addr (r.len / 4)).1 := by
  have hbad : ¬ (r.len < 4 ∨ 4096 < r.len ∨ r.len % 4 ≠ 0) := by omega
  simp only [Dev.portRead, hmay, Bool.not_true, Bool.false_eq_true, if_false, hbad, haddr, ne_eq, not_true_eq_false]

theorem portRead_denied (hmay : d.may i 0 = false) : d.portRead i r = d.answer i r stDenied [] := by
  simp only [Dev.portRead, hmay, Bool.not_false, if_true]

theorem portWrite_ok (hconfig : d.may i 2 = true) (himage : d.may i 3 = true) (hlow : 4 ≤ r.len) (hhigh : r.len ≤ 512)
    (hlen : r.len % 4 = 0) (haddr : r.addr % 4 = 0) : d.portWrite i r =
      (d.writeWords r.sess r.addr (payloadWords r.payload)).1.answer i r
        (if (d.writeWords r.sess r.addr (payloadWords r.payload)).2 then stOk else stBadAddr) [] := by
  have hbad : ¬ (r.len < 4 ∨ 512 < r.len ∨ r.len % 4 ≠ 0) := by omega
  simp only [Dev.portWrite, hconfig, himage, Bool.not_true, Bool.false_eq_true, and_false, or_self, if_false, hbad, haddr, ne_eq,
    not_true_eq_false]

theorem portWrite_denied (hconfig : d.may i 2 = false) : d.portWrite i r = d.answer i r stDenied [] := by
  simp only [Dev.portWrite, hconfig, Bool.not_false, true_or, if_true]

theorem portPoll_result {res : Nat} (hmay : d.may i 0 = true)
    (hres : (d.replayed r.sess r.cmdid).or (d.vaultKept r.sess r.cmdid) = some res) : d.portPoll i r = d.answer i r stResult [] res := by
  simp only [Dev.portPoll, hmay, Bool.not_true, Bool.false_eq_true, if_false, hres]

theorem portPoll_none (hmay : d.may i 0 = true) (hres : (d.replayed r.sess r.cmdid).or (d.vaultKept r.sess r.cmdid) = none) :
    d.portPoll i r = d.answer i r (if d.cmdPending r.sess r.cmdid then stPending else stUnknown) [] := by
  simp only [Dev.portPoll, hmay, Bool.not_true, Bool.false_eq_true, if_false, hres]

theorem portQueue_ok {act : Dev → List QElem → Dev} (hmay : d.may i 0 = true) (hlow : 1 ≤ r.len) (hhigh : r.len ≤ 64)
    (hexports : d.exports = true) (hfirst : 48 ≤ r.addr) (hlast : r.addr ≤ 55) :
    d.portQueue i r act = act d ((d.queue r.addr).take r.len) := by
  have hbad : ¬ (r.len < 1 ∨ 64 < r.len) := by omega
  have hout : ¬ (r.addr < 48 ∨ 55 < r.addr) := by omega
  simp only [Dev.portQueue, Dev.servesQueues, hmay, hexports, Bool.not_true, Bool.false_eq_true, if_false, hbad, hout]

theorem portImage_ok (hmay : d.may i 3 = true) (hlow : 1 ≤ r.len) (hhigh : r.len ≤ 4096) (hend : r.addr + r.len ≤ 8388608)
    (htakes : d.takesImages = true) : d.portImage i r = (d.imageBytes r.addr r.payload).answer i r stOk [] := by
  have hbad : ¬ (r.len < 1 ∨ 4096 < r.len ∨ envelopeMax < r.addr + r.len) := by
    simp only [envelopeMax]
    omega
  simp only [Dev.portImage, hmay, htakes, Bool.not_true, Bool.false_eq_true, if_false, hbad]

/-! Commands (R300, R478, R479) -/

section
variable (hlow : 8 ≤ r.len) (hhigh : r.len ≤ 512) (hopc : byteAt r.payload 6 < 0x33 ∨ 0x35 < byteAt r.payload 6)
include hlow hhigh hopc

theorem portCmd_notActive (hholder : d.holder = false) : d.portCmd i r = d.answer i r stNotActive [] := by
  have hbad : ¬ (r.len < 8 ∨ 512 < r.len) := by omega
  have hvault : ¬ (0x33 ≤ byteAt r.payload 6 ∧ byteAt r.payload 6 ≤ 0x35) := by omega
  simp only [Dev.portCmd, hbad, hvault, if_false, hholder, Bool.not_false, if_true]

variable (hholder : d.holder = true)
include hholder

theorem portCmd_replayed {res : Nat} (hreplayed : d.replayed r.sess r.cmdid = some res) :
    d.portCmd i r = (d.incF R.JRN_REPLAY F.JRN_REPLAY_REPLAYS).answer i r stResult [] res := by
  have hbad : ¬ (r.len < 8 ∨ 512 < r.len) := by omega
  have hvault : ¬ (0x33 ≤ byteAt r.payload 6 ∧ byteAt r.payload 6 ≤ 0x35) := by omega
  simp only [Dev.portCmd, hbad, hvault, if_false, hholder, Bool.not_true, Bool.false_eq_true, hreplayed]

/-- An unknown command: PENDING while it is on its way, BUSY for a full channel, else queued with the verdict on its
permission. -/
theorem portCmd_new (hreplayed : d.replayed r.sess r.cmdid = none) (hstale : d.replayStale r.sess r.cmdid = false) :
    d.portCmd i r = if d.cmdPending r.sess r.cmdid then d.answer i r stPending []
      else if !d.hasRoom (40 + r.hc) then (d.refuse (40 + r.hc)).answer i r stBusy []
      else (d.setQueue (40 + r.hc) (d.queue (40 + r.hc) ++ [{ d.elem (padTo 512 (leBytes 4 r.cmdid ++ leBytes 2 r.sess ++ r.payload.drop 6))
        (some ⟨r.sess, BitVec.ofNat 32 r.cmdid, r.hc⟩) with permitted := d.may i (cmdPerm (byteAt r.payload 6)) }])).answer i r stQueued [] := by
  have hbad : ¬ (r.len < 8 ∨ 512 < r.len) := by omega
  have hvault : ¬ (0x33 ≤ byteAt r.payload 6 ∧ byteAt r.payload 6 ≤ 0x35) := by omega
  simp only [Dev.portCmd, hbad, hvault, if_false, hholder, Bool.not_true, Bool.false_eq_true, hreplayed, hstale]

end

end

/-! What a request's frame fixes -/

theorem parseReq_shape {frame : List Byte} {r : Req} (h : parseReq frame = some r) :
    r.hc < 8 ∧ r.payload.length = payloadBytes r.opc r.len := by
  unfold parseReq at h
  extract_lets opc len n tagged t at h
  obtain ⟨hlong, heq⟩ := Option.ite_none_left_eq_some.mp h
  obtain rfl := Option.some.inj heq
  refine ⟨Nat.mod_lt _ (by decide), ?_⟩
  simp only [slice, List.length_take, List.length_drop]
  omega

/-! Words that the port may not write, and the one that it may at once -/

theorem writeWord_none {a : Nat} (h : ∀ r, findRow a = some r → r.writable = 0) (d : Dev) (sess : Nat) (v : Word) :
    d.writeWord sess a v = none := by
  unfold Dev.writeWord
  cases hrow : findRow a with
  | none => rfl
  | some r => exact if_pos (h r hrow)

theorem writeWord_setLo (d : Dev) (sess : Nat) (v : Word) : d.writeWord sess R.DOM_SET_LO v = some (d.wr R.DOM_SET_LO v) := by
  obtain ⟨row, hrow, hwritable, hsq, hrw⟩ : ∃ row, findRow R.DOM_SET_LO = some row ∧ row.writable ≠ 0 ∧ row.sq = 0 ∧ row.rw = BitVec.allOnes 32 := by
    refine ⟨_, rfl, ?_⟩
    decide +kernel
  have hfunc : d.writeFunc sess R.DOM_SET_LO v = none := rfl
  have hsys : d.writeSys sess R.DOM_SET_LO v = none := rfl
  have hchan : d.writeChan sess R.DOM_SET_LO v = none := rfl
  have hunit : d.writeUnit sess R.DOM_SET_LO v = none := rfl
  have hdome : d.writeDome sess R.DOM_SET_LO v = none := rfl
  unfold Dev.writeWord
  simp only [hrow, hwritable, if_false, hfunc, hsys, hchan, hunit, hdome, Option.or_none, Option.getD_none, hsq, ne_eq, not_true_eq_false, hrw,
    BitVec.not_allOnes, BitVec.and_zero, BitVec.and_allOnes, BitVec.zero_or]

/-! Queues and images (R481, R483) -/

theorem queue_pop_nil {d : Dev} {q : Nat} (h : d.queue q = []) : (d.pop q).queue q = [] := by
  have hset : (d.pop q).queue q = (d.setQueue q (d.queue q).tail).queue q := rfl
  rw [hset, h]
  by_cases hq : q < d.queues.q.length
  · exact queue_setQueue_same d _ hq
  · exact getD_of_length_le _ _ (by simpa [Dev.setQueue] using hq)

/-- An element popped again and again leaves the queue's rest. -/
theorem queue_popMany (d : Dev) (q n : Nat) :
    ((List.range n).foldl (fun d _ => d.pop q) d).queue q = (d.queue q).drop n ∧
    (∀ p, p ≠ q → ((List.range n).foldl (fun d _ => d.pop q) d).queue p = d.queue p) ∧
    ((List.range n).foldl (fun d _ => d.pop q) d).jrn = d.jrn ∧ ((List.range n).foldl (fun d _ => d.pop q) d).host = d.host ∧
    ((List.range n).foldl (fun d _ => d.pop q) d).pwr = d.pwr := by
  induction n with
  | zero => exact ⟨rfl, fun _ _ => rfl, rfl, rfl, rfl⟩
  | succ k ih =>
    obtain ⟨hsame, hother, hjrn, hhost, hpwr⟩ := ih
    rw [List.range_succ, List.foldl_append]
    refine ⟨?_, fun p hp => (queue_pop_other _ hp).trans (hother p hp), hjrn, hhost, hpwr⟩
    simp only [List.foldl_cons, List.foldl_nil]
    by_cases hempty : ((List.range k).foldl (fun d _ => d.pop q) d).queue q = []
    · have hdrop : (d.queue q).drop (k + 1) = [] := by
        rw [hsame] at hempty
        rw [List.drop_eq_nil_iff] at hempty ⊢
        omega
      rw [hdrop]
      exact queue_pop_nil hempty
    · rw [queue_pop_same hempty, hsame, List.tail_drop]

/-- A byte of the written run reads as written. -/
theorem memGet_memWrite_in (bs : List Byte) (l : List (Nat × Byte)) (a : Nat) {k : Nat} (hk : k < bs.length) :
    memGet (memWrite l a bs) (a + k) = bs.getD k 0 := by
  induction bs generalizing l a k with
  | nil => exact absurd hk (Nat.not_lt_zero k)
  | cons b bs ih =>
    cases k with
    | zero => simp [memWrite, memGet_memSet]
    | succ j =>
      have hj : j < bs.length := by simpa using hk
      have hne : a + (j + 1) ≠ a := by omega
      have hshift : a + (j + 1) = a + 1 + j := by omega
      rw [memWrite, memGet_memSet, if_neg hne, hshift, ih l (a + 1) hj]
      rfl

/-- Bytes of an envelope that is being loaded: they stand in the staged slot, and staging goes on or is complete. -/
theorem imageBytes_spec {d : Dev} (hstaging : d.staging = 1) (hslots : d.vault.images.length = 2) (hact : d.actSlot < 2)
    (off : Nat) (bs : List Byte) :
    ((d.imageBytes off bs).staging = 1 ∨ (d.imageBytes off bs).staging = 2) ∧
    ((d.imageBytes off bs).imgSlot d.stageSlot).mem = memWrite (d.imgSlot d.stageSlot).mem off bs ∧
    (d.imageBytes off bs).imgSlot d.actSlot = d.imgSlot d.actSlot := by
  obtain ⟨e, he⟩ : ∃ e, e = d.setImgSlot d.stageSlot (fun s =>
      { s with mem := memWrite s.mem off bs, written := (off, off + bs.length) :: s.written }) := ⟨_, rfl⟩
  have heq : ∃ b : Bool, d.imageBytes off bs = if b then e.wrF R.VLT_STGSTAT F.VLT_STGSTAT_STATE 2 else e := by
    unfold Dev.imageBytes
    extract_lets fresh d1 d2 slot tot n
    have hd1 : d1 = d := if_neg (fun h => h hstaging)
    have hd2 : d2 = e := by
      simp only [d2, hd1, he]
    rw [← hd2]
    exact ⟨_, rfl⟩
  have hstage : d.stageSlot < d.vault.images.length := by
    rw [hslots, Dev.stageSlot]
    omega
  have hne : d.actSlot ≠ d.stageSlot := by
    rw [Dev.stageSlot]
    omega
  have hvault : (d.imageBytes off bs).vault = e.vault := by
    obtain ⟨b, hb⟩ := heq
    rw [hb]
    cases b <;> rfl
  refine ⟨?_, ?_, ?_⟩
  · obtain ⟨b, hb⟩ := heq
    rw [hb]
    cases b
    · left
      rw [he]
      exact hstaging
    · exact .inr (rdF_wrF_of_lt e R.VLT_STGSTAT F.VLT_STGSTAT_STATE (by decide) (by decide))
  · rw [Dev.imgSlot, hvault, he]
    exact congrArg ImgSlot.mem (getD_upd_same _ _ _ hstage)
  · rw [Dev.imgSlot, hvault, he]
    exact getD_upd_other _ _ _ hne

/-- QPOP: the elements answered leave their queue, and nothing else changes (R481). -/
theorem portPop_spec {d : Dev} {r : Req} {i : Nat} (hup : d.pwr.boot = 3) (hmay : d.may i 0 = true) (hlow : 1 ≤ r.len) (hhigh : r.len ≤ 64)
    (hexports : d.exports = true) (hfirst : 48 ≤ r.addr) (hlast : r.addr ≤ 55) :
    (d.portPop i r).queue r.addr = (d.queue r.addr).drop r.len ∧ (∀ q, q ≠ r.addr → (d.portPop i r).queue q = d.queue q) ∧
    (d.portPop i r).jrn = d.jrn ∧ (d.portPop i r).host.resp = respFrame 0 0 (d.sessAt i).ctrOut r
      ((if (d.queue r.addr).length < r.len then leBytes 2 (d.queue r.addr).length else []) ++
        ((d.queue r.addr).take r.len).flatMap QElem.bytes) (if i < 8 then some (d.sessAt i).sk else none) := by
  obtain ⟨es, hes⟩ : ∃ es, es = (d.queue r.addr).take r.len := ⟨_, rfl⟩
  have hlen : es.length = min r.len (d.queue r.addr).length := by rw [hes, List.length_take]
  obtain ⟨e, he⟩ : ∃ e, e = (List.range es.length).foldl (fun d _ => d.pop r.addr) d := ⟨_, rfl⟩
  have hpop : d.portPop i r = e.answer i r stOk ((if es.length < r.len then leBytes 2 es.length else []) ++ es.flatMap QElem.bytes) := by
    rw [Dev.portPop, portQueue_ok hmay hlow hhigh hexports hfirst hlast, he, hes]
  obtain ⟨hsame, hother, hjrn, hhost, hpwr⟩ := queue_popMany d r.addr es.length
  rw [← he] at hsame hother hjrn hhost hpwr
  have hhead : (if es.length < r.len then leBytes 2 es.length else []) =
      if (d.queue r.addr).length < r.len then leBytes 2 (d.queue r.addr).length else [] := by
    by_cases hshort : (d.queue r.addr).length < r.len
    · have hall : es.length = (d.queue r.addr).length := by omega
      rw [hall]
    · rw [if_neg hshort, if_neg (by omega)]
  have hsess : e.sessAt i = d.sessAt i := by rw [Dev.sessAt, hhost, ← Dev.sessAt]
  rw [hpop]
  refine ⟨?_, fun q hq => (queue_answer_of_le e r stOk _ i 0 (by decide) q).trans (hother q hq),
    (portOnly_answer e r stOk _ i 0).jrn.trans hjrn, ?_⟩
  · rw [queue_answer_of_le e r stOk _ i 0 (by decide), hsame, hlen]
    by_cases hshort : (d.queue r.addr).length < r.len
    · rw [List.drop_eq_nil_of_le (by omega), List.drop_eq_nil_of_le (by omega)]
    · rw [Nat.min_eq_left (by omega)]
  · rw [resp_answer r stOk 0 _ (by rw [hpwr]; exact hup), hsess, hhead, hes]
    rfl

/-- Settles O53: each opcode by its act on the noted session, which differs from the device in the port's own state alone. -/
theorem portAccess : Obligations.PortAccess := by
  unfold Obligations.PortAccess
  refine ⟨fun s frame r i htaken => ?_, fun d sess a v h => writeWord_none h d sess v, writeWord_setLo⟩
  have hi := session_lt_of_taken htaken
  have hup : (noted s.dev frame r i).pwr.boot = 3 := (portOnly_noted s.dev frame r i).boot.trans htaken.1
  have hshape := parseReq_shape htaken.2.1
  have hsessNote := sessAt_noted_same (d := s.dev) frame r hi
  have hmayNote (p : Nat) := may_noted s.dev frame r hi p
  have hrun {c : Instr} {o : Nat} {act : Dev → Nat → Req → Dev} (hopc : r.opc = o)
      (hexec : exec c s = .next (s.onDev (fun d => d.whenUp (fun d => d.request frame (· == o) act)))) :
      exec c s = .next (s.on (act (noted s.dev frame r i) i r)) := exec_taken htaken (opc := (· == o)) (beq_iff_eq.mpr hopc) hexec
  intro d0
  refine ⟨fun hopc hmay hlow hhigh hlen haddr => ?_, fun hopc hmay => ?_, fun hopc hconfig himage hlow hhigh hlen haddr => ?_,
    fun hopc hconfig => ?_, fun hopc hlow hhigh hcmd => ⟨fun hholder hnew hstale hqueues => ⟨fun hpending hroom => ?_, fun hpending => ?_,
      fun hpending hroom => ?_⟩, fun hholder => ?_, fun res hholder hreplayed => ?_⟩,
    fun hopc hmay => ⟨fun res hres => ?_, fun hres => ?_⟩,
    fun hmay hlow hhigh hexports hfirst hlast => ⟨fun hopc => ?_, fun hopc hqueues => ?_⟩,
    fun hopc hmay hlow hhigh hend htakes hstaging hslots hact hwf => ?_⟩
  · rw [hrun (c := .read frame) (act := Dev.portRead) hopc rfl,
      portRead_ok ((hmayNote 0).trans hmay) hlow hhigh hlen haddr]
  · rw [hrun (c := .read frame) (act := Dev.portRead) hopc rfl, portRead_denied ((hmayNote 0).trans hmay)]
  · rw [hrun (c := .write frame) (act := Dev.portWrite) hopc rfl,
      portWrite_ok ((hmayNote 2).trans hconfig) ((hmayNote 3).trans himage) hlow hhigh hlen haddr]
  · rw [hrun (c := .write frame) (act := Dev.portWrite) hopc rfl, portWrite_denied ((hmayNote 2).trans hconfig)]
  · obtain ⟨e, hcmdEq, hperm, href⟩ : ∃ e : QElem, d0.portCmd i r =
        (d0.setQueue (40 + r.hc) (d0.queue (40 + r.hc) ++ [e])).answer i r stQueued [] ∧
        e.permitted = s.dev.may i (cmdPerm (byteAt r.payload 6)) ∧ e.ref = some ⟨r.sess, BitVec.ofNat 32 r.cmdid, r.hc⟩ := by
      refine ⟨{ d0.elem (padTo 512 (leBytes 4 r.cmdid ++ leBytes 2 r.sess ++ r.payload.drop 6)) (some ⟨r.sess, BitVec.ofNat 32 r.cmdid, r.hc⟩) with
        permitted := d0.may i (cmdPerm (byteAt r.payload 6)) }, ?_, hmayNote _, rfl⟩
      rw [portCmd_new hlow hhigh hcmd ((holder_noted _ _ _ _).trans hholder) ((replayed_noted _ _ _ _ _ _).trans hnew)
        ((replayStale_noted _ _ _ _ _ _).trans hstale), cmdPending_noted, hasRoom_noted, hpending, hroom]
      simp only [Bool.false_eq_true, if_false, Bool.not_true]
      rfl
    have hkeep := portOnly_answer (d0.setQueue (40 + r.hc) (d0.queue (40 + r.hc) ++ [e])) r stQueued [] i 0
    have hnote := portOnly_noted s.dev frame r i
    have hin : 40 + r.hc < d0.queues.q.length := by
      have h64 : d0.queues.q.length = 64 := (congrArg (fun q : Queues => q.q.length) (queues_noted s.dev frame r i)).trans hqueues
      omega
    refine completes_on (hrun (c := .cmd frame) (act := Dev.portCmd) hopc rfl) ?_
    rw [hcmdEq]
    refine ⟨e, ?_, hperm, href, fun q hq => ?_, hkeep.turn.trans hnote.turn, hkeep.jrn.trans hnote.jrn⟩
    · rw [queue_answer_of_le _ r stQueued [] i 0 (by decide), queue_setQueue_same _ _ hin, queue_noted]
    · rw [queue_answer_of_le _ r stQueued [] i 0 (by decide), queue_setQueue_other _ _ hq, queue_noted]
  · rw [hrun (c := .cmd frame) (act := Dev.portCmd) hopc rfl, portCmd_new hlow hhigh hcmd ((holder_noted _ _ _ _).trans hholder)
      ((replayed_noted _ _ _ _ _ _).trans hnew) ((replayStale_noted _ _ _ _ _ _).trans hstale), cmdPending_noted, hpending, if_pos rfl]
  · rw [hrun (c := .cmd frame) (act := Dev.portCmd) hopc rfl, portCmd_new hlow hhigh hcmd ((holder_noted _ _ _ _).trans hholder)
      ((replayed_noted _ _ _ _ _ _).trans hnew) ((replayStale_noted _ _ _ _ _ _).trans hstale), cmdPending_noted, hasRoom_noted,
      hpending, hroom]
    rfl
  · rw [hrun (c := .cmd frame) (act := Dev.portCmd) hopc rfl,
      portCmd_notActive hlow hhigh hcmd ((holder_noted _ _ _ _).trans hholder)]
  · refine completes_on (hrun (c := .cmd frame) (act := Dev.portCmd) hopc rfl) ?_
    rw [portCmd_replayed hlow hhigh hcmd ((holder_noted _ _ _ _).trans hholder) ((replayed_noted _ _ _ _ _ _).trans hreplayed)]
    refine ⟨?_, fun q => ?_⟩
    · have hinc := rdF_incF (noted s.dev frame r i) R.JRN_REPLAY F.JRN_REPLAY_REPLAYS (by decide)
      rw [rdF_noted s.dev frame r i (by decide) (by decide)] at hinc
      rw [(portOnly_answer _ r stResult [] i res).rdF (by decide) (by decide)]
      exact hinc
    · rw [queue_answer_of_le _ r stResult [] i res (by decide)]
      exact queue_noted s.dev frame r i q
  · rw [hrun (c := .poll frame) (act := Dev.portPoll) hopc rfl, portPoll_result ((hmayNote 0).trans hmay)
      ((by rw [replayed_noted, vaultKept_noted] : _ = _).trans hres)]
  · rw [hrun (c := .poll frame) (act := Dev.portPoll) hopc rfl, portPoll_none ((hmayNote 0).trans hmay)
      ((by rw [replayed_noted, vaultKept_noted] : _ = _).trans hres), cmdPending_noted]
  · rw [hrun (c := .qpeek frame) (act := Dev.portPeek) hopc rfl, Dev.portPeek, portQueue_ok ((hmayNote 0).trans hmay) hlow hhigh
      ((exports_noted _ _ _ _).trans hexports) hfirst hlast, queue_noted]
  · refine completes_on (hrun (c := .qpop frame) (act := Dev.portPop) hopc rfl) ?_
    obtain ⟨hsame, hother, hjrn, hresp⟩ := portPop_spec hup ((hmayNote 0).trans hmay) hlow hhigh
      ((exports_noted _ _ _ _).trans hexports) hfirst hlast
    rw [queue_noted] at hsame hresp
    rw [hsessNote] at hresp
    exact ⟨hsame, fun q hq => (hother q hq).trans (queue_noted s.dev frame r i q), hjrn.trans (portOnly_noted s.dev frame r i).jrn, hresp⟩
  · refine completes_on (hrun (c := .imgload frame) (act := Dev.portImage) hopc rfl) ?_
    have hvault := (portOnly_noted s.dev frame r i).vault
    have hslot (k : Nat) : (noted s.dev frame r i).imgSlot k = s.dev.imgSlot k := by rw [Dev.imgSlot, hvault, ← Dev.imgSlot]
    have hactNote := actSlot_noted s.dev frame r i
    have hstageNote : (noted s.dev frame r i).stageSlot = s.dev.stageSlot := by rw [Dev.stageSlot, hactNote, ← Dev.stageSlot]
    obtain ⟨hstage, hmem, hactive⟩ := imageBytes_spec (d := noted s.dev frame r i) ((staging_noted s.dev frame r i).trans hstaging)
      (by rw [hvault]; exact hslots) (by rw [hactNote]; exact hact) r.addr r.payload
    rw [portImage_ok ((hmayNote 3).trans hmay) hlow hhigh hend ((takesImages_noted s.dev frame r i).trans htakes)]
    have hkeep := portOnly_answer ((noted s.dev frame r i).imageBytes r.addr r.payload) r stOk [] i 0
    have hlen : r.payload.length = r.len := by
      rw [hshape.2, hopc]
      rfl
    have hslotKeep (k : Nat) : (((noted s.dev frame r i).imageBytes r.addr r.payload).answer i r stOk []).imgSlot k =
        ((noted s.dev frame r i).imageBytes r.addr r.payload).imgSlot k := by rw [Dev.imgSlot, hkeep.vault, ← Dev.imgSlot]
    rw [hstageNote, hslot] at hmem
    rw [hactNote, hslot] at hactive
    have hstagingKeep : (((noted s.dev frame r i).imageBytes r.addr r.payload).answer i r stOk []).staging =
        ((noted s.dev frame r i).imageBytes r.addr r.payload).staging := hkeep.rdF (by decide) (by decide) _
    refine ⟨by rw [hstagingKeep]; exact hstage, fun k hk => ?_, fun a ha => ?_, (hslotKeep _).trans hactive⟩
    · rw [hslotKeep, hmem]
      exact memGet_memWrite_in _ _ _ (by omega)
    · rw [hslotKeep, hmem]
      exact memGet_memWrite_apart _ _ _ _ (by omega)

end Sys2Proof.Machine
end

section
/-!
PROOFS. The message bus: its error counters, its transmit buffers, and transmission (R322 to R325, R336).
-/
namespace Sys2Proof.Machine

/-! Changes of the bus's registers and events alone -/

/-- The parts of the device that a change of registers, flags and events leaves. -/
def Dev.calm (d : Dev) := (d.can, d.turn, d.jrn, d.image, d.clk, d.pwr.boot)

/-- Raising an event loses no queue. -/
theorem length_queues_raise (d : Dev) (n : Nat) : (d.raise n).queues.q.length = d.queues.q.length := by
  have hmark (d : Dev) (n : Nat) : (d.evMark n).queues = d.queues := by
    unfold Dev.evMark
    dsimp only
    split <;> rfl
  have hbump (d : Dev) (n : Nat) : (d.evBump n).queues.q.length = d.queues.q.length := by
    unfold Dev.evBump
    split
    · exact length_upd _ _ _
    · rfl
  have hfull (d : Dev) : d.q49Full.queues.q.length = d.queues.q.length := by
    unfold Dev.q49Full
    dsimp only
    split
    · rw [hbump, hmark]
      rfl
    · rw [hmark]
      rfl
  unfold Dev.raise
  dsimp only
  split
  · rw [hbump, hmark]
  · split
    · split
      · exact (length_upd _ _ _).trans (congrArg (fun q : Queues => q.q.length) (hmark d n))
      · rw [hfull, hmark]
    · rw [hmark]

/-- A change of the bus's registers, and of the events that it raises. -/
structure BusOnly (d e : Dev) : Prop where
  of ::
  calm : e.calm = d.calm
  queue : ∀ q, q ≠ 49 → e.queue q = d.queue q
  count : e.queues.q.length = d.queues.q.length
  rd : ∀ a, a < 0x110000 ∨ 0x114000 ≤ a → a < 0x170000 → e.rd a = d.rd a

section
variable {z d e : Dev}

theorem BusOnly.refl (d : Dev) : BusOnly d d := ⟨rfl, fun _ _ => rfl, rfl, fun _ _ _ => rfl⟩

theorem BusOnly.trans (h : BusOnly z d) (k : BusOnly d e) : BusOnly z e :=
  ⟨k.calm.trans h.calm, fun q hq => (k.queue q hq).trans (h.queue q hq), k.count.trans h.count,
    fun a ha hlow => (k.rd a ha hlow).trans (h.rd a ha hlow)⟩

theorem BusOnly.ite {c : Prop} [Decidable c] (h : BusOnly z d) (k : BusOnly z e) : BusOnly z (if c then d else e) := by
  split <;> assumption

theorem BusOnly.can (k : BusOnly d e) : e.can = d.can := congrArg (fun q => q.1) k.calm

theorem BusOnly.turn (k : BusOnly d e) : e.turn = d.turn := congrArg (fun q => q.2.1) k.calm

theorem BusOnly.jrn (k : BusOnly d e) : e.jrn = d.jrn := congrArg (fun q => q.2.2.1) k.calm

theorem BusOnly.image (k : BusOnly d e) : e.image = d.image := congrArg (fun q => q.2.2.2.1) k.calm

theorem BusOnly.canCh (k : BusOnly d e) (n : Nat) : e.canCh n = d.canCh n := by rw [Dev.canCh, k.can, ← Dev.canCh]

theorem BusOnly.role (k : BusOnly d e) : e.role = d.role := rdF_congr (k.rd _ (.inr (by decide)) (by decide)) _

theorem BusOnly.holder (k : BusOnly d e) : e.holder = d.holder := by rw [Dev.holder, k.role, ← Dev.holder]

theorem wr_busOnly {a : Nat} (hlow : 0x110000 ≤ a) (hhigh : a < 0x114000) (w : Word) : BusOnly d (d.wr a w) :=
  ⟨rfl, fun _ _ => rfl, rfl, fun x hx _ => rd_wr_other d a x w (by omega)⟩

theorem raise_busOnly (n : Nat) : BusOnly d (d.raise n) :=
  ⟨by simp [Dev.calm], fun _ hq => queue_raise_other d n hq, length_queues_raise d n, fun _ _ hlow => rd_raise_low d n hlow⟩

theorem raiseIf_busOnly (b : Bool) (n : Nat) : BusOnly d (d.raiseIf b n) := by
  unfold Dev.raiseIf
  split
  · exact raise_busOnly n
  · exact .refl d

end

/-! The error counters (ISO 11898-1) -/

section
variable {d : Dev} {n : Nat} (hn : n < 4)
include hn

/-- What the new error state is, and where the rest of the change goes: the flag, the count, the event. -/
theorem canState_busOnly (tec rec : Nat) (off : Bool) : BusOnly d (d.canState n tec rec off) := by
  have herr : 0x110000 ≤ R.CAN_ERR n ∧ R.CAN_ERR n < 0x114000 := by simp only [R.CAN_ERR]; omega
  have hstat : 0x110000 ≤ R.CAN_STAT n ∧ R.CAN_STAT n < 0x114000 := by simp only [R.CAN_STAT]; omega
  have hcnt : 0x110000 ≤ R.CAN_CNT n ∧ R.CAN_CNT n < 0x114000 := by simp only [R.CAN_CNT]; omega
  unfold Dev.canState
  extract_lets old st d1 d2 d3
  have h1 : BusOnly d d1 := wr_busOnly herr.1 herr.2 _
  have h2 : BusOnly d d2 := .ite (h1.trans (wr_busOnly hstat.1 hstat.2 _)) h1
  have h3 : BusOnly d d3 := .ite ((h2.trans (wr_busOnly hcnt.1 hcnt.2 _)).trans (wr_busOnly hstat.1 hstat.2 _)) h2
  exact h3.trans (raiseIf_busOnly _ _)

/-- The error register after a change of state: the counters saturate, bus-off stays until its recovery. -/
theorem rd_canState (tec rec : Nat) (off : Bool) : (d.canState n tec rec off).rd (R.CAN_ERR n) =
    putF F.CAN_ERR_WARN (putF F.CAN_ERR_ESTATE (putF F.CAN_ERR_REC (putF F.CAN_ERR_TEC (d.rd (R.CAN_ERR n)) (min tec 255)) (min rec 255))
      (if off then 2 else if d.rdF (R.CAN_ERR n) F.CAN_ERR_ESTATE = 2 then 2 else if tec ≥ 128 ∨ rec ≥ 128 then 1 else 0))
      (if tec ≥ 96 ∨ rec ≥ 96 then 1 else 0) := by
  have hstat : R.CAN_ERR n ≠ R.CAN_STAT n := by simp only [R.CAN_ERR, R.CAN_STAT]; omega
  have hcnt : R.CAN_ERR n ≠ R.CAN_CNT n := by simp only [R.CAN_ERR, R.CAN_CNT]; omega
  unfold Dev.canState
  extract_lets old st d1 d2 d3
  have h1 : d1.rd (R.CAN_ERR n) = putF F.CAN_ERR_WARN (putF F.CAN_ERR_ESTATE (putF F.CAN_ERR_REC (putF F.CAN_ERR_TEC (d.rd (R.CAN_ERR n)) (min tec 255)) (min rec 255))
      st) (if tec ≥ 96 ∨ rec ≥ 96 then 1 else 0) := rd_wr_same d _ _
  have h2 : d2.rd (R.CAN_ERR n) = d1.rd (R.CAN_ERR n) := by
    simp only [d2]
    split
    · exact rd_flag_other _ _ _ _ hstat
    · rfl
  have h3 : d3.rd (R.CAN_ERR n) = d2.rd (R.CAN_ERR n) := by
    simp only [d3]
    split
    · exact (rd_flag_other _ _ _ _ hstat).trans (rd_incF_other _ _ _ _ hcnt)
    · rfl
  rw [rd_raiseIf_low _ _ _ (by simp only [R.CAN_ERR]; omega), h3, h2, h1]

theorem canTec_canState (tec rec : Nat) (off : Bool) : (d.canState n tec rec off).canTec n = min tec 255 := by
  rw [Dev.canTec, Dev.rdF, rd_canState hn, getF_putF_apart _ _ (by decide), getF_putF_apart _ _ (by decide), getF_putF_apart _ _ (by decide),
    getF_putF _ (by decide)]
  exact Nat.mod_eq_of_lt (Nat.lt_of_le_of_lt (Nat.min_le_right ..) (by decide))

theorem canRecv_canState (tec rec : Nat) (off : Bool) : (d.canState n tec rec off).canRecv n = min rec 255 := by
  rw [Dev.canRecv, Dev.rdF, rd_canState hn, getF_putF_apart _ _ (by decide), getF_putF_apart _ _ (by decide), getF_putF _ (by decide)]
  exact Nat.mod_eq_of_lt (Nat.lt_of_le_of_lt (Nat.min_le_right ..) (by decide))

theorem lec_canState (tec rec : Nat) (off : Bool) :
    (d.canState n tec rec off).rdF (R.CAN_ERR n) F.CAN_ERR_LEC = d.rdF (R.CAN_ERR n) F.CAN_ERR_LEC := by
  rw [Dev.rdF, rd_canState hn, getF_putF_apart _ _ (by decide), getF_putF_apart _ _ (by decide), getF_putF_apart _ _ (by decide),
    getF_putF_apart _ _ (by decide)]
  rfl

theorem estate_canState_off (tec rec : Nat) : (d.canState n tec rec true).rdF (R.CAN_ERR n) F.CAN_ERR_ESTATE = 2 := by
  rw [Dev.rdF, rd_canState hn, getF_putF_apart _ _ (by decide), getF_putF _ (by decide)]
  rfl

omit hn

theorem canTec_lt (d : Dev) (n : Nat) : d.canTec n < 256 := rdF_lt d _ _

end

/-! Channels and their transmit buffers -/

section
variable {d : Dev} {n : Nat} (hn : n < d.can.chans.length)
include hn

theorem canCh_setCanCh (f : CanCh → CanCh) : (d.setCanCh n f).canCh n = f (d.canCh n) := getD_upd_same _ _ _ hn

variable (k : Nat) (b : Option TxBuf)

omit hn in
theorem showBuf_can : (d.showBuf n k).can = d.can := by
  unfold Dev.showBuf
  split <;> rfl

/-- A transmit buffer set: the channel's buffers, the choice of the buffer that goes first, and nothing else of the channel. -/
theorem canCh_setBuf : ∃ firsts, (d.setBuf n k b).canCh n =
    { d.canCh n with bufs := upd (d.canCh n).bufs k (fun _ => b), firsts := firsts } := by
  rw [Dev.setBuf, Dev.canCh, showBuf_can, ← Dev.canCh, canCh_setCanCh hn]
  exact ⟨_, rfl⟩

theorem canCh_endAttempt : ∃ firsts, (d.endAttempt n k b).canCh n =
    { d.canCh n with bufs := upd (d.canCh n).bufs k (fun _ => b), firsts := firsts } := by
  obtain ⟨firsts, hset⟩ := canCh_setBuf hn k b
  have hlen : n < (d.setBuf n k b).can.chans.length := by
    rw [Dev.setBuf, showBuf_can]
    exact Nat.lt_of_lt_of_eq hn (length_upd _ _ _).symm
  rw [Dev.endAttempt, canCh_setCanCh hlen, hset]
  exact ⟨_, rfl⟩

omit hn

theorem buf_upd_same {c : CanCh} {l : List Nat} (hk : k < c.bufs.length) :
    ({ c with bufs := upd c.bufs k (fun _ => b), firsts := l } : CanCh).buf k = b := getD_upd_same _ _ _ hk

theorem buf_upd_other {c : CanCh} {l : List Nat} {i : Nat} (hi : i ≠ k) :
    ({ c with bufs := upd c.bufs k (fun _ => b), firsts := l } : CanCh).buf i = c.buf i := getD_upd_other _ _ _ hi

theorem rd_showBuf_other {a : Nat} (ha : a ≠ R.CAN_TXB n k) : (d.showBuf n k).rd a = d.rd a := by
  unfold Dev.showBuf
  split
  · exact rd_wr_other d _ _ _ ha
  · exact rd_wr_other d _ _ _ ha

theorem queues_showBuf : (d.showBuf n k).queues = d.queues := by
  unfold Dev.showBuf
  split <;> rfl

theorem rd_endAttempt_other {a : Nat} (ha : a ≠ R.CAN_TXB n k) : (d.endAttempt n k b).rd a = d.rd a :=
  rd_showBuf_other (d := d.setCanCh n _) k ha

theorem queue_setBuf (q : Nat) : (d.setBuf n k b).queue q = d.queue q := by
  rw [Dev.queue, Dev.setBuf, queues_showBuf]
  rfl

end

/-! The rows of transmission -/

section
variable {d : Dev} {n : Nat} (hn : n < 4)
include hn

omit hn in
theorem err_ne_txb {k : Nat} (hk : k < 3) : R.CAN_ERR n ≠ R.CAN_TXB n k := by simp only [R.CAN_ERR, R.CAN_TXB]; omega

omit hn in
/-- TX_BUFFER_LOAD of a class A head (R322). -/
theorem txLoad_classA {k : Nat} {e : QElem} {es : List QElem} (hmode : d.canMode n = 1) (hempty : (d.canCh n).buf k = none)
    (hhead : d.queue (4 + 3 * n) = e :: es) (hfree : d.headFree n (4 + 3 * n) = true) :
    d.txLoad n k = (d.pop (4 + 3 * n)).setBuf n k (some ⟨0, e, 1, 0, false, false, 0⟩) := by
  have hnext : d.nextTx n = some (4 + 3 * n) := by
    unfold Dev.nextTx
    exact List.find?_cons_of_pos hfree
  have hnot : ¬ (d.canMode n ≠ 1 ∨ ((d.canCh n).buf k).isSome = true) := by simp [hmode, hempty]
  rw [Dev.txLoad, if_neg hnot]
  simp only [hnext, hhead, Nat.sub_self]

/-- TX_COMPLETE of a sequenced frame (R324, R336). -/
theorem txComplete_sequenced {k : Nat} {b : TxBuf} {seq : Nat} (hk : k < 3) (hlen : d.can.chans.length = 4)
    (hbufs : (d.canCh n).bufs.length = 3) (hsending : d.sending n k = some b) (hseq : b.elem.seq = some seq) (href : b.elem.ref = none)
    (stamp : Word) : ((d.txComplete n k stamp).canCh n).buf k = none ∧
      ((d.txComplete n k stamp).canCh n).owed = (d.canCh n).owed.erase seq ∧ (d.txComplete n k stamp).canTec n = d.canTec n - 1 := by
  obtain ⟨c, hc⟩ : ∃ c, c = d.canState n (d.canTec n - 1) (d.canRecv n) false := ⟨_, rfl⟩
  have hcbus : BusOnly d c := hc ▸ canState_busOnly hn _ _ _
  have hctec : c.canTec n = d.canTec n - 1 := by
    have hlt := canTec_lt d n
    rw [hc, canTec_canState hn]
    omega
  obtain ⟨x, hx⟩ : ∃ x, x = if b.cancel && !b.tooLate then c.flag (R.CAN_STAT n) 0 else c := ⟨_, rfl⟩
  have hxcan : x.can = d.can := by
    rw [hx, ← hcbus.can]
    split <;> rfl
  have hxrd : x.rd (R.CAN_ERR n) = c.rd (R.CAN_ERR n) := by
    rw [hx]
    split
    · exact rd_flag_other _ _ _ _ (by simp only [R.CAN_ERR, R.CAN_STAT]; omega)
    · rfl
  have heq : d.txComplete n k stamp = ((x.markDone n seq).showMark n).endAttempt n k none := by
    unfold Dev.txComplete
    simp only [hsending, hseq, href, Option.isSome_none, Bool.false_eq_true, if_false]
    rw [hx, hc]
  have hxch : x.canCh n = d.canCh n := by rw [Dev.canCh, hxcan, ← Dev.canCh]
  have hlen' : n < x.can.chans.length := by rw [hxcan, hlen]; exact hn
  have hmark : ((x.markDone n seq).showMark n).canCh n = { d.canCh n with owed := (d.canCh n).owed.erase seq } := by
    rw [← hxch]
    exact canCh_setCanCh hlen' _
  have hlen'' : n < ((x.markDone n seq).showMark n).can.chans.length := Nat.lt_of_lt_of_eq hlen' (length_upd _ _ _).symm
  obtain ⟨firsts, hend⟩ := canCh_endAttempt hlen'' k none
  rw [hmark] at hend
  rw [heq, hend]
  refine ⟨buf_upd_same k none (by rw [hbufs]; exact hk), rfl, ?_⟩
  rw [← hctec]
  refine rdF_congr ((rd_endAttempt_other k none (err_ne_txb hk)).trans ?_) _
  exact (rd_wr_other _ _ _ _ (by simp only [R.CAN_ERR, R.CAN_MARK_LO]; omega)).trans hxrd

/-- TX_ERROR of a buffer that is neither cancelled nor too late: the attempt counts and is to be repeated (R323, R324). -/
theorem txError_retried {k : Nat} {b : TxBuf} (hk : k < 3) (hlen : d.can.chans.length = 4) (hbufs : (d.canCh n).bufs.length = 3)
    (hsending : d.sending n k = some b) (hcancel : b.cancel = false) (hlate : b.tooLate = false) (lec : BitVec 3) (arb quiet : Bool) :
    let e := if arb then d
      else (d.wrF (R.CAN_ERR n) F.CAN_ERR_LEC lec.toNat).canState n
        (d.canTec n + (if arb || (lec.toNat == 3 && quiet && d.rdF (R.CAN_ERR n) F.CAN_ERR_ESTATE == 1) then 0 else 8)) (d.canRecv n)
        (decide (d.canTec n + (if arb || (lec.toNat == 3 && quiet && d.rdF (R.CAN_ERR n) F.CAN_ERR_ESTATE == 1) then 0 else 8) > 255))
    ((d.txError n k lec arb quiet).canCh n).buf k = some { b with attempts := min 255 (b.attempts + 1), state := 1 } ∧
    (d.txError n k lec arb quiet).rd (R.CAN_ERR n) = e.rd (R.CAN_ERR n) := by
  intro e
  have hebus : BusOnly d e := .ite (.refl d) ((wr_busOnly (by simp only [R.CAN_ERR]; omega) (by simp only [R.CAN_ERR]; omega) _).trans
    (canState_busOnly hn _ _ _))
  have heq : d.txError n k lec arb quiet = e.endAttempt n k (some { b with attempts := satInc 255 b.attempts, state := 1 }) := by
    unfold Dev.txError
    simp only [hsending, hcancel, hlate, Bool.false_and, Bool.or_self, Bool.false_eq_true, if_false, e]
  clear_value e
  have hlen' : n < e.can.chans.length := by rw [hebus.can, hlen]; exact hn
  obtain ⟨firsts, hend⟩ := canCh_endAttempt hlen' k (some { b with attempts := satInc 255 b.attempts, state := 1 })
  rw [heq, hend, hebus.canCh]
  refine ⟨?_, rd_endAttempt_other k _ (err_ne_txb hk)⟩
  rw [buf_upd_same k _ (by rw [hbufs]; exact hk), satInc_eq]

omit hn in
/-- TXCANCEL of the queued host frame at the head (R324, R325). -/
theorem txCancel_head {e : QElem} {es : List QElem} {id : Nat} (hhead : d.queue (6 + 3 * n) = e :: es) (href : e.ref ≠ none)
    (hid : uAt e.bytes 0 4 = id) (phase : Nat) :
    d.txCancel n id phase = (d.pop (6 + 3 * n)).txDigest n id 1 0xFF 0 (d.pop (6 + 3 * n)).canTsc (elemIdw e.bytes) := by
  have hfind : (d.queue (6 + 3 * n)).find? (fun e => e.ref.isSome && uAt e.bytes 0 4 == id) = some e := by
    rw [hhead]
    exact List.find?_cons_of_pos (by simp [hid, Option.isSome_iff_ne_none, href])
  unfold Dev.txCancel
  simp only [hfind]
  rw [hhead]
  simp only [List.head?_cons, if_true]

omit hn

/-- A digest with room is one more element of Q52, and its event (R325). -/
theorem txDigest_room (hroom : (d.queue 52).length < 1536) (hqueues : 52 < d.queues.q.length) {n : Nat} (hn : n < 4)
    (id res buf attempts stamp idw : Nat) :
    let e := d.txDigest n id res buf attempts stamp idw
    (e.queue 52).length = (d.queue 52).length + 1 ∧ e.evPending (161 + 8 * n) = true ∧
    ∀ q, q ≠ 52 → q ≠ 49 → e.queue q = d.queue q := by
  intro e
  obtain ⟨bytes, hbytes⟩ : ∃ bytes, e = (d.push 52 bytes none).raise (161 + 8 * n) := ⟨_, rfl⟩
  have hpush : d.push 52 bytes none = d.setQueue 52 (d.queue 52 ++ [d.elem (padTo (elemSize 52) bytes) none]) :=
    if_pos (decide_eq_true hroom)
  rw [hbytes]
  refine ⟨?_, evPending_raise_same _ (by omega), fun q h52 h49 => ?_⟩
  · rw [queue_raise_other _ _ (by decide), hpush, queue_setQueue_same d _ hqueues, List.length_append]
    rfl
  · rw [queue_raise_other _ _ h49]
    exact queue_push_other d h52 h49 _ none

/-- BACKLOG_PLACE of the first frame, whose queue has room (R336). -/
theorem backlogPlace_first {n : Nat} {b : Backlog} {bs : List Backlog} {e : LEntry} (hn : n < d.can.chans.length)
    (hqueue : b.queue < d.queues.q.length) (hbacklog : (d.canCh n).backlog = b :: bs) (hfree : d.hasFree b.queue = true)
    (hentry : d.jrn.entryAt b.seq = some e) : ((d.backlogPlace n).canCh n).backlog = bs ∧
      ∃ el : QElem, (d.backlogPlace n).queue b.queue = d.queue b.queue ++ [el] ∧ el.seq = some b.seq := by
  obtain ⟨c, hc⟩ : ∃ c, c = (d.setCanCh n (fun c => { c with backlog := c.backlog.erase b })).showBacklog n := ⟨_, rfl⟩
  have hcch : c.canCh n = { d.canCh n with backlog := (d.canCh n).backlog.erase b } := by
    rw [hc]
    exact canCh_setCanCh hn _
  obtain ⟨el, hplace, hseq⟩ : ∃ el : QElem, d.backlogPlace n = c.setQueue b.queue (c.queue b.queue ++ [el]) ∧ el.seq = some b.seq := by
    have hfind : (d.canCh n).backlog.find? (fun b => d.hasFree b.queue) = some b := by
      rw [hbacklog]
      exact List.find?_cons_of_pos hfree
    have hentry' : c.jrn.entryAt b.seq = some e := by
      rw [hc]
      exact hentry
    refine ⟨{ c.elem (c.frameElem e.payload b.resend b.resync) none with seq := some b.seq }, ?_, rfl⟩
    unfold Dev.backlogPlace
    simp only [hfind]
    rw [← hc]
    simp only [hentry']
  have hcqueue : c.queue b.queue = d.queue b.queue := by rw [hc]; rfl
  have hclen : b.queue < c.queues.q.length := by rw [hc]; exact hqueue
  refine ⟨?_, el, ?_, hseq⟩
  · rw [hplace]
    refine (congrArg CanCh.backlog hcch).trans ?_
    simp only [hbacklog, List.erase_cons_head]
  · rw [hplace, queue_setQueue_same c _ hclen, hcqueue]

end

/-- Settles O38: each row by the buffer that it serves, its counters by `canState`. -/
theorem busTransmission : Obligations.BusTransmission := by
  unfold Obligations.BusTransmission
  intro s n hup hqueues hchans hbufs
  have hn := n.isLt
  have hin : n.val < s.dev.can.chans.length := by rw [hchans]; exact hn
  refine ⟨fun k e es hmode hempty hhead hfree => ?_, fun k stamp lec arb quiet hsending => ⟨?_, ?_⟩,
    fun k b stamp seq hsending hseq href => ?_, fun k b lec quiet hsending hcancel hlate => ?_,
    fun k b lec quiet hsending hcancel hlate hcounts => ?_, fun k b lec hsending hcancel hlate hlec hpassive => ?_,
    fun cmdid e es phase hhead href hid hroom => ?_, ?_, fun b bs e hbacklog hqueue hfree hentry => ?_⟩
  · refine completes_of_up hup (f := fun d => d.txLoad n.val k.val) rfl ?_
    have hsame : (s.dev.pop (4 + 3 * n.val)).canCh n.val = s.dev.canCh n.val := rfl
    obtain ⟨firsts, hset⟩ := canCh_setBuf (d := s.dev.pop (4 + 3 * n.val)) hin k.val (some ⟨0, e, 1, 0, false, false, 0⟩)
    rw [txLoad_classA hmode hempty hhead hfree, hset, hsame]
    refine ⟨?_, buf_upd_same _ _ (by rw [hbufs]; exact k.isLt), fun i hi => buf_upd_other _ _ hi⟩
    rw [queue_setBuf, queue_pop_same (by rw [hhead]; exact List.cons_ne_nil _ _), hhead]
    rfl
  · exact exec_keeps (f := fun d => d.txComplete n.val k.val stamp) rfl (by simp only [Dev.txComplete, hsending])
  · exact exec_keeps (f := fun d => d.txError n.val k.val lec arb quiet) rfl (by simp only [Dev.txError, hsending])
  · exact completes_of_up hup (f := fun d => d.txComplete n.val k.val stamp) rfl
      (txComplete_sequenced hn k.isLt hchans hbufs hsending hseq href stamp)
  · exact completes_of_up hup (f := fun d => d.txError n.val k.val lec true quiet) rfl
      (txError_retried hn k.isLt hchans hbufs hsending hcancel hlate lec true quiet)
  · refine completes_of_up hup (f := fun d => d.txError n.val k.val lec false quiet) rfl ?_
    obtain ⟨hbuf, hrd⟩ := txError_retried hn k.isLt hchans hbufs hsending hcancel hlate lec false quiet
    have hcond : (lec.toNat == 3 && quiet && s.dev.rdF (R.CAN_ERR n.val) F.CAN_ERR_ESTATE == 1) = false := by
      rcases hcounts with h | h | h
      · simp [h]
      · simp [h]
      · simp [h]
    simp only [hcond, Bool.or_false, Bool.false_eq_true, if_false] at hrd
    refine ⟨hbuf, ?_, fun hoff => ?_⟩
    · rw [Dev.canTec, rdF_congr hrd, ← Dev.canTec, canTec_canState hn, Nat.min_comm]
    · rw [rdF_congr hrd, decide_eq_true hoff]
      exact estate_canState_off hn _ _
  · refine completes_of_up hup (f := fun d => d.txError n.val k.val lec false true) rfl ?_
    obtain ⟨hbuf, hrd⟩ := txError_retried hn k.isLt hchans hbufs hsending hcancel hlate lec false true
    simp only [hlec, hpassive, Bool.and_self, Bool.or_true, Bool.false_eq_true, if_false, beq_self_eq_true, if_true, Nat.add_zero] at hrd
    refine ⟨hbuf, ?_⟩
    have hlt := canTec_lt s.dev n.val
    rw [Dev.canTec, rdF_congr hrd, ← Dev.canTec, canTec_canState hn]
    omega
  · refine completes_of_up hup (f := fun d => d.txCancel n.val cmdid.toNat phase.val) rfl ?_
    have hother : (s.dev.pop (6 + 3 * n.val)).queue 52 = s.dev.queue 52 := queue_pop_other _ (by omega)
    have hlen : (s.dev.pop (6 + 3 * n.val)).queues.q.length = 64 := (length_upd _ _ _).trans hqueues
    obtain ⟨hmore, hev, hkeep⟩ := txDigest_room (d := s.dev.pop (6 + 3 * n.val)) (by rw [hother]; exact hroom)
      (by rw [hlen]; decide) hn cmdid.toNat 1 0xFF 0 (s.dev.pop (6 + 3 * n.val)).canTsc (elemIdw e.bytes)
    rw [hother] at hmore
    rw [txCancel_head hhead href hid]
    refine ⟨?_, hmore, hev⟩
    rw [hkeep _ (by omega) (by omega), queue_pop_same (by rw [hhead]; exact List.cons_ne_nil _ _), hhead]
    rfl
  · refine completes_of_up hup (f := fun d => d.markLoRead n.val) rfl ⟨?_, rd_wr_same _ _ _, rfl, fun a ha => ?_⟩
    · exact (rd_wr_other _ _ _ _ (by simp only [R.CAN_MARK_LO, R.CAN_MARK_HI]; omega)).trans (rd_wr_same _ _ _)
    · simp only [List.mem_cons, List.not_mem_nil, or_false, not_or] at ha
      exact (rd_wr_other _ _ _ _ ha.2).trans (rd_wr_other _ _ _ _ ha.1)
  · refine completes_of_up hup (f := fun d => d.backlogPlace n.val) rfl ?_
    obtain ⟨hrest, el, hplaced, hseq⟩ := backlogPlace_first hin (by rw [hqueues]; exact hqueue) hbacklog hfree hentry
    refine ⟨hrest, ?_, ?_⟩
    · rw [hplaced, List.length_append]
      rfl
    · rw [hplaced, List.getLast?_concat]
      exact congrArg some hseq

end Sys2Proof.Machine
end

section
/-!
PROOFS. Reception on the message bus (R318 to R321, R323, R334, R341, R342) and the duplicate window (R331).
-/
namespace Sys2Proof.Machine

/-! A frame that no receive entry names -/

section
variable {d : Dev} {n : Nat} (hn : n < 4)
include hn

theorem recvGood_busOnly : BusOnly d (d.recvGood n) := by
  unfold Dev.recvGood
  extract_lets r v
  have hv : BusOnly d v.2 := ⟨rfl, fun _ _ => rfl, rfl, fun _ _ _ => rfl⟩
  exact .ite (.refl d) (.ite (hv.trans (canState_busOnly hn _ _ _)) (canState_busOnly hn _ _ _))

theorem rxdrops_canState (tec rec : Nat) (off : Bool) : (d.canState n tec rec off).rdF (R.CAN_CNT n) F.CAN_CNT_RXDROPS =
    d.rdF (R.CAN_CNT n) F.CAN_CNT_RXDROPS := by
  have hstat : R.CAN_CNT n ≠ R.CAN_STAT n := by simp only [R.CAN_CNT, R.CAN_STAT]; omega
  have herr : R.CAN_CNT n ≠ R.CAN_ERR n := by simp only [R.CAN_CNT, R.CAN_ERR]; omega
  unfold Dev.canState
  extract_lets old st d1 d2 d3
  have h1 : d1.rdF (R.CAN_CNT n) F.CAN_CNT_RXDROPS = d.rdF (R.CAN_CNT n) F.CAN_CNT_RXDROPS := rdF_congr (rd_wr_other _ _ _ _ herr) _
  have h2 : d2.rdF (R.CAN_CNT n) F.CAN_CNT_RXDROPS = d1.rdF (R.CAN_CNT n) F.CAN_CNT_RXDROPS := by
    simp only [d2]
    split
    · exact rdF_congr (rd_flag_other _ _ _ _ hstat) _
    · rfl
  have h3 : d3.rdF (R.CAN_CNT n) F.CAN_CNT_RXDROPS = d2.rdF (R.CAN_CNT n) F.CAN_CNT_RXDROPS := by
    simp only [d3]
    split
    · exact (rdF_congr (rd_flag_other _ _ _ _ hstat) _).trans (rdF_incF_apart _ _ _ _ (by decide))
    · rfl
  rw [rdF_congr (rd_raiseIf_low _ _ _ (by simp only [R.CAN_CNT]; omega)), h3, h2, h1]

theorem rxdrops_recvGood : (d.recvGood n).rdF (R.CAN_CNT n) F.CAN_CNT_RXDROPS = d.rdF (R.CAN_CNT n) F.CAN_CNT_RXDROPS := by
  unfold Dev.recvGood
  extract_lets r v
  split
  · rfl
  · split
    · exact rxdrops_canState hn _ _ _
    · exact rxdrops_canState hn _ _ _

omit hn

theorem rxMap_unnamed {ch : Nat} {f : Frame} (h : d.rxEntries ch f = []) (stamp : Nat) (remotes : Bool) :
    d.rxMap ch stamp f remotes = (d, 0) := by
  unfold Dev.rxMap
  simp [h]

/-- A classical frame that the receive map does not name goes to its ring alone (R318). -/
theorem canFrame_unnamed {f : Frame} (hn : n < 4) (hmode : d.canMode n = 1) (hrole : d.role = 1) (hint : (d.canCh n).integrated = true)
    (hclassic : f.fd = false) (hunnamed : d.rxEntries n f = []) (stamp : Word) (esi : Bool) :
    ∃ recent, d.canFrame n stamp esi f = ((d.recvGood n).setCan (fun c => { c with recent := recent })).ringPlace n
      (ringElement stamp esi f 0 (d.canCh n).ring d.turn.number) := by
  have hbus := recvGood_busOnly (d := d) hn
  have hunnamed' : (d.recvGood n).rxEntries n f = [] := by
    rw [Dev.rxEntries, hbus.image, ← Dev.rxEntries]
    exact hunnamed
  have hrole' : (d.recvGood n).role = 1 := hbus.role.trans hrole
  obtain ⟨recent, hrecent⟩ : ∃ l, l = List.cons ((d.recvGood n).turn.number, n, f)
      ((d.recvGood n).can.recent.filter (fun x => decide (x.1 + 2 ≥ (d.recvGood n).turn.number))) := ⟨_, rfl⟩
  obtain ⟨e, he⟩ : ∃ e, e = (d.recvGood n).setCan (fun c => { c with recent := recent }) := ⟨_, rfl⟩
  have hsame : (d.recvGood n).setCan (fun c => { c with
      recent := List.cons ((d.recvGood n).turn.number, n, f) (c.recent.filter (fun x => decide (x.1 + 2 ≥ (d.recvGood n).turn.number))) }) = e := by
    rw [he, hrecent]
    rfl
  have heRole : e.role = 1 := by rw [he]; exact hrole'
  have heRing : (e.canCh n).ring = (d.canCh n).ring := by
    rw [he]
    exact congrArg CanCh.ring (hbus.canCh n)
  have heTurn : e.turn = d.turn := by rw [he]; exact hbus.turn
  have hstandby : e.standby = false := by rw [Dev.standby, heRole]; rfl
  have hholder : e.holder = true := by rw [Dev.holder, heRole]; rfl
  have heq : d.canFrame n stamp esi f = e.ringPlace n (ringElement stamp esi f 0 (e.canCh n).ring e.turn.number) := by
    unfold Dev.canFrame
    simp only [hmode, hint, hclassic, rxMap_unnamed hunnamed', ne_eq, not_true_eq_false, false_and, Bool.not_true, Bool.false_eq_true, or_self,
      if_false]
    rw [hsame]
    simp only [hstandby, Bool.false_eq_true, if_false, hholder, if_true]
  refine ⟨recent, ?_⟩
  rw [heq, heRing, heTurn, he]

/-- A frame placed in a ring with room (R318). -/
theorem ringPlace_room (hn : n < 4) (hqueues : d.queues.q.length = 64) (hroom : (d.queue n).length < 4096) (bytes : List Byte) :
    ((d.ringPlace n bytes).queue n).map QElem.bytes = (d.queue n).map QElem.bytes ++ [padTo 80 bytes] ∧
    (d.ringPlace n bytes).turn = d.turn ∧ (d.ringPlace n bytes).can.remote = d.can.remote := by
  obtain ⟨e, he⟩ : ∃ e, e = d.setCanCh n (fun c => { c with ring := (c.ring + 1) % 65536 }) := ⟨_, rfl⟩
  have hdepth : queueDepth n = 4096 := if_pos hn
  have hsize : elemSize n = 80 := if_pos (by omega)
  have hroom' : e.hasRoom n = true := by
    rw [he, Dev.hasRoom, hdepth]
    exact decide_eq_true hroom
  have hpush : e.push n bytes none = e.setQueue n (e.queue n ++ [e.elem (padTo 80 bytes) none]) := by
    rw [Dev.push, if_pos hroom', hsize]
  have heq : ∃ b m, d.ringPlace n bytes = (e.push n bytes none).raiseIf b m := by
    unfold Dev.ringPlace
    rw [← he]
    exact ⟨_, _, if_pos hroom'⟩
  obtain ⟨b, m, heq⟩ := heq
  have hbus := raiseIf_busOnly (d := e.push n bytes none) b m
  have hin : n < e.queues.q.length := by rw [he]; exact hqueues.symm ▸ (by omega : n < 64)
  have hequeue : e.queue n = d.queue n := by rw [he]; rfl
  rw [heq]
  refine ⟨?_, hbus.turn.trans ?_, (congrArg Can.remote hbus.can).trans ?_⟩
  · rw [hbus.queue n (by omega), hpush, queue_setQueue_same e _ hin, List.map_append, hequeue]
    rfl
  · rw [hpush, he]
    rfl
  · rw [hpush, he]
    rfl

/-- A frame that finds no room in its ring is dropped and counted (R321). -/
theorem ringPlace_full (hn : n < 4) (hfull : 4096 ≤ (d.queue n).length) (bytes : List Byte) :
    (d.ringPlace n bytes).queue n = d.queue n ∧ (d.ringPlace n bytes).evPending (163 + 8 * n) = true ∧
    (d.ringPlace n bytes).rdF (R.CAN_CNT n) F.CAN_CNT_RXDROPS = min 255 (d.rdF (R.CAN_CNT n) F.CAN_CNT_RXDROPS + 1) := by
  obtain ⟨e, he⟩ : ∃ e, e = d.setCanCh n (fun c => { c with ring := (c.ring + 1) % 65536 }) := ⟨_, rfl⟩
  have hdepth : queueDepth n = 4096 := if_pos hn
  have hroom : e.hasRoom n = false := by
    have hequeue : e.queue n = d.queue n := by rw [he]; rfl
    rw [Dev.hasRoom, hdepth, hequeue]
    exact decide_eq_false (by omega)
  have hpush : e.push n bytes none = e.refuse n := if_neg (by simp [hroom])
  obtain ⟨g, hg⟩ : ∃ g, g = e.refuse n := ⟨_, rfl⟩
  have hgrd : g.rd (R.CAN_CNT n) = d.rd (R.CAN_CNT n) := by
    rw [hg, he]
    exact (rd_raise_low _ 249 (by simp only [R.CAN_CNT]; omega)).trans (rd_flag_other _ _ _ _ (by simp only [R.CAN_CNT, R.HST_QSTAT]; omega))
  have hgqueue : g.queue n = d.queue n := by
    rw [hg, he]
    exact queue_raise_other _ _ (by omega)
  have heq : d.ringPlace n bytes = (g.incF (R.CAN_CNT n) F.CAN_CNT_RXDROPS).flagEv (R.CAN_STAT n) 4 (163 + 8 * n) := by
    unfold Dev.ringPlace
    rw [← he, hg, ← hpush]
    exact if_neg (by simp [hroom])
  rw [heq]
  refine ⟨(queue_raise_other _ _ (by omega)).trans hgqueue, evPending_flagEv_same _ _ _ (by omega), ?_⟩
  rw [rdF_congr (rd_flagEv_low_other _ (by simp only [R.CAN_CNT]; omega) (by simp only [R.CAN_CNT, R.CAN_STAT]; omega) 4 _),
    rdF_incF_byte _ _ _ (by decide) rfl, rdF_congr hgrd]

end

/-! The duplicate window (R331) -/

/-- A frame just judged is not accepted again. -/
theorem dupStep_twice (st : Option DupState) (sender stream s : Nat) (resync : Bool) (hs : s < 65536)
    (hst : ∀ x, st = some x → x.hs < 65536 ∧ x.win < 2 ^ 64) :
    (dupStep (some (dupStep st sender stream s resync).2.1) sender stream s false).1 ≠ 0 := by
  have hsame (x : DupState) (hx : x.hs = s) : (dupStep (some x) sender stream s false).1 ≠ 0 := by
    have hzero : (s + 65536 - x.hs) % 65536 = 0 := by omega
    simp [dupStep, hzero]
  cases st with
  | none => exact hsame ⟨sender, stream, s, 1⟩ rfl
  | some x =>
    obtain ⟨hx, -⟩ := hst x rfl
    cases resync with
    | true => exact hsame ⟨sender, stream, s, 1⟩ rfl
    | false =>
      obtain ⟨dd, hdd⟩ : ∃ dd, dd = (s + 65536 - x.hs) % 65536 := ⟨_, rfl⟩
      obtain ⟨b, hb⟩ : ∃ b, b = (x.hs + 65536 - s) % 65536 := ⟨_, rfl⟩
      by_cases hzero : dd = 0
      · have hstep : (dupStep (some x) sender stream s false).2.1 = x := by
          simp only [dupStep, Bool.false_eq_true, if_false, ← hdd, hzero, if_true]
        rw [hstep]
        exact hsame x (by omega)
      · by_cases hahead : dd < 32768
        · refine hsame _ ?_
          simp only [dupStep, Bool.false_eq_true, if_false, ← hdd, hzero, hahead, if_true]
        · have hjudge (y : DupState) (hy : y.hs = x.hs) : (dupStep (some y) sender stream s false).1 =
              if b < 64 ∧ !bitOf y.win b then 0 else if b < 64 then 1 else 2 := by
            simp only [dupStep, Bool.false_eq_true, if_false, hy, ← hdd, ← hb, hzero, hahead]
            split
            · rfl
            · split <;> rfl
          have hnext : (dupStep (some x) sender stream s false).2.1 =
              if b < 64 ∧ !bitOf x.win b then { x with win := putBit x.win b true } else x := by
            simp only [dupStep, Bool.false_eq_true, if_false, ← hdd, ← hb, hzero, hahead]
            split
            · rfl
            · split <;> rfl
          rw [hnext]
          by_cases hnew : b < 64 ∧ (!bitOf x.win b) = true
          · rw [if_pos hnew, hjudge { x with win := putBit x.win b true } rfl, bitOf_putBit]
            simp [hnew.1]
          · rw [if_neg hnew, hjudge x rfl, if_neg hnew]
            split <;> decide

/-- A frame ahead of the highest sequence is accepted, and moves it. -/
theorem dupStep_ahead (x : DupState) (s : Nat) (hpos : 0 < (s + 65536 - x.hs) % 65536) (hahead : (s + 65536 - x.hs) % 65536 < 32768) :
    (dupStep (some x) x.sender x.stream s false).1 = 0 ∧ (dupStep (some x) x.sender x.stream s false).2.1.hs = s ∧
    (dupStep (some x) x.sender x.stream s false).2.2 = decide (1 < (s + 65536 - x.hs) % 65536) := by
  have hzero : (s + 65536 - x.hs) % 65536 ≠ 0 := by omega
  simp only [dupStep, Bool.false_eq_true, if_false, hzero, hahead, if_true]
  exact ⟨trivial, trivial, trivial⟩

/-! The channel's other rows -/

section
variable {d : Dev} {n : Nat}

theorem rxLock_nonempty (h : d.queue n ≠ []) : d.rxLock n = d.wrF (R.CAN_RXSTAT n) F.CAN_RXSTAT_LOCK 1 :=
  if_neg (by simp [List.isEmpty_iff, h])

/-- CAN_RX_ERROR in NORMAL: the code shows, REC rises, TEC stays (ISO 11898-1). -/
theorem canRxError_normal (hn : n < 4) (hmode : d.canMode n = 1) (lec : BitVec 3) (primary : Bool) :
    (d.canRxError n lec primary).rdF (R.CAN_ERR n) F.CAN_ERR_LEC = lec.toNat ∧
    (d.canRxError n lec primary).canRecv n = min 255 (d.canRecv n + (if primary then 8 else 1)) ∧
    (d.canRxError n lec primary).canTec n = d.canTec n := by
  have hlt := canTec_lt d n
  rw [Dev.canRxError, if_pos hmode]
  refine ⟨?_, ?_, ?_⟩
  · rw [lec_canState hn]
    exact rdF_wrF_of_lt d _ _ (by decide) lec.isLt
  · rw [canRecv_canState hn, Nat.min_comm]
  · rw [canTec_canState hn]
    omega

/-- Bus-off recovery clears the counters and leaves bus-off (R323). -/
theorem busoffRecovery_spec (hn : n < 4) (hoff : d.rdF (R.CAN_ERR n) F.CAN_ERR_ESTATE = 2) :
    (d.busoffRecovery n).rdF (R.CAN_ERR n) F.CAN_ERR_ESTATE = 0 ∧ (d.busoffRecovery n).canTec n = 0 ∧
    (d.busoffRecovery n).canRecv n = 0 ∧ (d.busoffRecovery n).evPending (162 + 8 * n) = true ∧ BusOnly d (d.busoffRecovery n) := by
  obtain ⟨e, he⟩ : ∃ e, e = d.wrFs (R.CAN_ERR n) [(F.CAN_ERR_TEC, 0), (F.CAN_ERR_REC, 0), (F.CAN_ERR_ESTATE, 0), (F.CAN_ERR_WARN, 0)] := ⟨_, rfl⟩
  have hrd : e.rd (R.CAN_ERR n) = putF F.CAN_ERR_WARN (putF F.CAN_ERR_ESTATE (putF F.CAN_ERR_REC (putF F.CAN_ERR_TEC (d.rd (R.CAN_ERR n)) 0) 0) 0) 0 := by
    rw [he]
    exact rd_wr_same d _ _
  have hebus : BusOnly d e := he ▸ wr_busOnly (by simp only [R.CAN_ERR]; omega) (by simp only [R.CAN_ERR]; omega) _
  have heq : d.busoffRecovery n = e.raise (162 + 8 * n) := by
    rw [Dev.busoffRecovery, if_pos hoff, he]
  have hshown (f : Field) : (e.raise (162 + 8 * n)).rdF (R.CAN_ERR n) f = getF f (e.rd (R.CAN_ERR n)) :=
    rdF_raise_low e _ (by simp only [R.CAN_ERR]; omega) f
  rw [heq]
  refine ⟨?_, ?_, ?_, evPending_raise_same _ (by omega), hebus.trans (raise_busOnly _)⟩
  · rw [hshown, hrd, getF_putF_apart _ _ (by decide), getF_putF _ (by decide)]
    rfl
  · rw [Dev.canTec, hshown, hrd, getF_putF_apart _ _ (by decide), getF_putF_apart _ _ (by decide), getF_putF_apart _ _ (by decide),
      getF_putF _ (by decide)]
    rfl
  · rw [Dev.canRecv, hshown, hrd, getF_putF_apart _ _ (by decide), getF_putF_apart _ _ (by decide), getF_putF _ (by decide)]
    rfl

/-- A channel that has integrated enters the mode of its device's role (R315, R342). -/
theorem canIntegrated_spec (hn : n < d.can.chans.length) (hup : d.pwr.boot = 3) (hen : (d.canRec n).en = true)
    (hsleep : d.canMode n ≠ 3) (hoff : d.canMode n ≠ 4) :
    ((d.canIntegrated n).canCh n).integrated = true ∧ (d.canIntegrated n).canMode n = if d.holder then 1 else 2 := by
  obtain ⟨e, he⟩ : ∃ e, e = d.setCanCh n (fun c => { c with integrated := true }) := ⟨_, rfl⟩
  have heq : d.canIntegrated n = e.wrF (R.CAN_MODE n) F.CAN_MODE_MODE (if d.holder then 1 else 2) := by
    rw [Dev.canIntegrated, if_pos ⟨hen, hsleep, hoff, hup⟩, he]
  rw [heq]
  refine ⟨?_, rdF_wrF_of_lt e _ _ (by decide) ?_⟩
  · rw [he]
    exact congrArg CanCh.integrated (canCh_setCanCh hn _)
  · split <;> decide

/-- A remote point whose stale time has run turns stale (R334). -/
theorem remoteStale_spec {p : Nat} (hvalid : (d.remote p).q = 0) (hstale : (d.remote p).stale = false) (hfresh : (d.remote p).fresh = false)
    (htime : staleTime d.image p ≠ 0) (hdue : (d.remote p).latched + staleTime d.image p ≤ d.turn.number) :
    (d.remoteStale p).remote p = { d.remote p with q := 3, stale := true } := by
  obtain ⟨x, hx⟩ : ∃ x, x = d.remote p := ⟨_, rfl⟩
  have hpoint : (d.remote p).point = p := by
    unfold Dev.remote
    cases hfind : d.can.remote.find? (fun x => x.point = p) with
    | none => rfl
    | some y => simpa using List.find?_some hfind
  have hraised (l : List Nat) (e : Dev) : (l.foldl (fun d n => d.raise (165 + 8 * n)) e).can = e.can := by
    induction l generalizing e with
    | nil => rfl
    | cons m l ih => exact (ih _).trans (raise_busOnly _).can
  have hnot : ¬ ((d.remote p).q = qN ∨ (d.remote p).stale ∨ (d.remote p).fresh ∨ staleTime d.image p = 0 ∨
      d.turn.number < (d.remote p).latched + staleTime d.image p) := by
    simp only [hvalid, hstale, hfresh, htime, qN, Bool.false_eq_true, false_or]
    omega
  have hcan : (d.remoteStale p).can = (d.setRemote { d.remote p with q := qF, stale := true }).can := by
    rw [Dev.remoteStale, if_neg hnot]
    exact hraised _ _
  rw [Dev.remote, hcan, ← Dev.remote]
  have hhead : (d.setRemote { d.remote p with q := qF, stale := true }).can.remote.find? (fun x => x.point = p) =
      some { d.remote p with q := qF, stale := true } := List.find?_cons_of_pos (by simp [hpoint])
  rw [Dev.remote, hhead]
  rfl

end

/-- Settles O39: each row by what it writes, the duplicate window by the case of `dupStep`. -/
theorem busReception : Obligations.BusReception := by
  unfold Obligations.BusReception
  refine ⟨fun s n hqueues hchans => ?_, fun st sender stream s resync hs hst => dupStep_twice st sender stream s resync hs hst, fun x hs _ _ hpos hahead => dupStep_ahead x hs hpos hahead⟩
  have hn := n.isLt
  have hin : n.val < s.dev.can.chans.length := by rw [hchans]; exact hn
  refine ⟨fun stamp esi f hup hmode hrole hint hclassic hunnamed => ⟨fun hroom => ?_, fun hfull => ?_⟩, fun hup hhead => ?_, fun hup => ?_,
    fun hup hlock => ?_, fun hlock => ?_, fun lec primary hup hmode => ?_, fun hup hoff => ?_, fun hup hen hsleep hoff => ?_,
    fun dominant frame => ⟨fun hboot hlow hwakes => ?_, fun hnot => ?_, fun hmode => ?_, fun hmode => ?_, fun hmode => ?_⟩,
    fun p hup hvalid hstale hfresh htime hdue => ?_⟩
  · refine completes_of_up hup (f := fun d => d.canFrame n.val stamp esi f) rfl ?_
    obtain ⟨recent, heq⟩ := canFrame_unnamed hn hmode hrole hint hclassic hunnamed stamp esi
    have hbus := recvGood_busOnly (d := s.dev) hn
    obtain ⟨e, he⟩ : ∃ e, e = (s.dev.recvGood n.val).setCan (fun c => { c with recent := recent }) := ⟨_, rfl⟩
    have hequeue : e.queue n.val = s.dev.queue n.val := by
      rw [he]
      exact hbus.queue _ (by omega)
    have helen : e.queues.q.length = 64 := by
      rw [he]
      exact hbus.count.trans hqueues
    have heremote : e.can.remote = s.dev.can.remote := by
      rw [he]
      exact (show _ = (s.dev.recvGood n.val).can.remote from rfl).trans (congrArg Can.remote hbus.can)
    have heturn : e.turn = s.dev.turn := by
      rw [he]
      exact hbus.turn
    rw [heq, ← he]
    obtain ⟨hplaced, hturn, hremote⟩ := ringPlace_room (d := e) hn helen (by rw [hequeue]; exact hroom)
      (ringElement stamp esi f 0 (s.dev.canCh n.val).ring s.dev.turn.number)
    rw [hequeue] at hplaced
    exact ⟨hplaced, hturn.trans heturn, hremote.trans heremote⟩
  · refine completes_of_up hup (f := fun d => d.canFrame n.val stamp esi f) rfl ?_
    obtain ⟨recent, heq⟩ := canFrame_unnamed hn hmode hrole hint hclassic hunnamed stamp esi
    have hbus := recvGood_busOnly (d := s.dev) hn
    obtain ⟨e, he⟩ : ∃ e, e = (s.dev.recvGood n.val).setCan (fun c => { c with recent := recent }) := ⟨_, rfl⟩
    have hequeue : e.queue n.val = s.dev.queue n.val := by
      rw [he]
      exact hbus.queue _ (by omega)
    have hedrops : e.rdF (R.CAN_CNT n.val) F.CAN_CNT_RXDROPS = s.dev.rdF (R.CAN_CNT n.val) F.CAN_CNT_RXDROPS := by
      rw [he]
      exact rxdrops_recvGood hn
    rw [heq, ← he]
    obtain ⟨hkept, hev, hcount⟩ := ringPlace_full (d := e) hn (by rw [hequeue]; exact hfull)
      (ringElement stamp esi f 0 (s.dev.canCh n.val).ring s.dev.turn.number)
    rw [hedrops] at hcount
    exact ⟨hkept.trans hequeue, hev, hcount⟩
  · exact exec_of_up hup (f := fun d => d.rxLock n.val) rfl (rxLock_nonempty hhead)
  · exact exec_of_up hup (f := fun d => d.rxUnlock n.val) rfl rfl
  · refine completes_of_up hup (f := fun d => d.rxRelease n.val) rfl ?_
    rw [Dev.rxRelease, if_pos hlock]
    refine ⟨?_, rdF_wrF_of_lt s.dev _ _ (by decide) (by decide)⟩
    by_cases hempty : s.dev.queue n.val = []
    · rw [hempty]
      exact queue_pop_nil (d := s.dev.rxUnlock n.val) hempty
    · exact queue_pop_same (d := s.dev.rxUnlock n.val) hempty
  · exact exec_keeps (f := fun d => d.rxRelease n.val) rfl (if_neg (by rw [hlock]; decide))
  · exact completes_of_up hup (f := fun d => d.canRxError n.val lec primary) rfl (canRxError_normal hn hmode lec primary)
  · obtain ⟨hstate, htec, hrec, hev, hbus⟩ := busoffRecovery_spec hn hoff
    exact completes_of_up hup (f := fun d => d.busoffRecovery n.val) rfl ⟨hstate, htec, hrec, hev, hbus.can, hbus.queue⟩
  · exact completes_of_up hup (f := fun d => d.canIntegrated n.val) rfl (canIntegrated_spec hin hup hen hsleep hoff)
  · have hwake : s.dev.canWake n.val dominant.toNat frame = s.dev.flagEv (R.CAN_STAT n.val) 9 (167 + 8 * n.val) := if_pos ⟨hboot, hlow, hwakes⟩
    exact congrArg (fun d => Host.Outcome.next (s.on d)) hwake
  · have hkeep : s.dev.canWake n.val dominant.toNat frame = s.dev := if_neg (by
      rintro ⟨hboot, hlow, hwakes⟩
      rcases hnot with h | h | h
      · exact h hboot
      · omega
      · exact absurd (hwakes.symm.trans h) (by decide))
    exact congrArg (fun d => Host.Outcome.next (s.on d)) hkeep
  · simp only [CanChan.wakes, hmode]
  · simp only [CanChan.wakes, hmode]
  · simp only [CanChan.wakes, hmode]
  · exact completes_of_up hup (f := fun d => d.remoteStale p.val) rfl (remoteStale_spec hvalid hstale hfresh htime hdue)

end Sys2Proof.Machine
end

section
/-!
PROOFS. Start-up claim and rejoin of a pair device (R351, R379, R380).
-/
namespace Sys2Proof.Machine

/-! A device that takes the token loses no event (R349) -/

/-- A change that clears no pending bit. -/
abbrev KeepsEvents (d e : Dev) : Prop := LeavesFields [] d e

section
variable {z d : Dev}

theorem fieldsLow_nil : FieldsLow [] := fun _ h => absurd h List.not_mem_nil

theorem wr_events {a : Nat} (ha : a < 0x170000) (w : Word) (k : KeepsEvents z d) : KeepsEvents z (d.wr a w) :=
  wr_fields ha (fun _ h => absurd h List.not_mem_nil) w k

theorem wrF_events {a : Nat} (ha : a < 0x170000) (g : Field) (v : Nat) (k : KeepsEvents z d) : KeepsEvents z (d.wrF a g v) :=
  wr_events ha _ k

theorem flag_events {a : Nat} (ha : a < 0x170000) (b : Nat) (k : KeepsEvents z d) : KeepsEvents z (d.flag a b) := wr_events ha _ k

theorem incF_events {a : Nat} (ha : a < 0x170000) (g : Field) (k : KeepsEvents z d) : KeepsEvents z (d.incF a g) := wr_events ha _ k

theorem raise_events (n : Nat) (k : KeepsEvents z d) : KeepsEvents z (d.raise n) := raise_fields fieldsLow_nil n k

theorem flagEv_events {a : Nat} (ha : a < 0x170000) (b n : Nat) (k : KeepsEvents z d) : KeepsEvents z (d.flagEv a b n) :=
  raise_events n (flag_events ha b k)

theorem refuse_events (q : Nat) (k : KeepsEvents z d) : KeepsEvents z (d.refuse q) :=
  raise_events 249 (k.trans ⟨fun _ h => absurd h List.not_mem_nil,
    fun m hm hp => (evPending_wr_other d _ _ m (by simp only [R.HST_QSTAT, R.HST_EVPEND]; omega)).trans hp⟩)

theorem push_events (q : Nat) (bytes : List Byte) (ref : Option HostRef) (k : KeepsEvents z d) :
    KeepsEvents z (d.push q bytes ref) := LeavesFields.ite (k.of_regs rfl) (refuse_events q k)

theorem pushFree_events (q : Nat) (bytes : List Byte) (ref : Option HostRef) (k : KeepsEvents z d) :
    KeepsEvents z (d.pushFree q bytes ref) := LeavesFields.ite (push_events q bytes ref k) (refuse_events q k)

theorem LeavesFields.range {l : List (Nat × Field)} {n : Nat} {f : Dev → Nat → Dev} (k : LeavesFields l z d)
    (h : ∀ d x, x < n → LeavesFields l z d → LeavesFields l z (f d x)) : LeavesFields l z ((List.range n).foldl f d) :=
  k.foldl fun d x hx kd => h d x (List.mem_range.mp hx) kd

/-- What leaves the pending bits' registers alone clears none. -/
theorem keepsEvents_of_held (h : Leaves IsHeld z d) : KeepsEvents z d :=
  ⟨fun _ h => absurd h List.not_mem_nil,
    fun m hm hp => h.pend m hm (.inr (.inl (by simp only [R.HST_EVPEND]; omega))) hp⟩

/-! Functions -/

theorem Func.reg_low (f : Func) : f.reg < 0x170000 := by
  have := isControl_range f.reg_isControl
  omega

theorem supplyEntered_events (n : Fin 16) (st : Nat) (k : KeepsEvents z d) : KeepsEvents z (d.fEntered (.supply n) st) := by
  have hst := Leaves.refl IsHeld (d.wrF (Func.supply n).reg fSTATE st)
  exact (wrF_events (Func.reg_low _) _ _ k).trans (keepsEvents_of_held (raiseIf_held _ (by decide)
    (Leaves.ite (lSupplyOn_leaves _ hst) (lSupplyOff_leaves n.isLt _ hst))))

theorem fStart_events (f : Func) (k : KeepsEvents z d) : KeepsEvents z (d.fStart f) := by
  have hst : KeepsEvents z (d.wrF f.reg fSTATE 1) := wrF_events f.reg_low _ _ k
  refine LeavesFields.ite k ?_
  cases f with
  | qch n => exact hst.trans (keepsEvents_of_held (qSwitches_leaves (.refl _ _)))
  | link => exact hst
  | xch | supply | panel => exact hst.trans (keepsEvents_of_held (fEntered_held d rfl (by decide)))

theorem supplyEnable_events (n : Fin 16) (en : Bool) (k : KeepsEvents z d) : KeepsEvents z (d.fEnable (.supply n) en) := by
  have hen : KeepsEvents z (d.wrF (Func.supply n).reg fEN (b2n en)) := wrF_events (Func.reg_low _) _ _ k
  unfold Dev.fEnable
  extract_lets d1
  split
  · exact LeavesFields.ite (fStart_events _ hen) hen
  · exact wrF_events (Func.reg_low _) _ _ hen
  · exact LeavesFields.ite hen (LeavesFields.ite (supplyEntered_events n 3 hen) hen)

theorem fGain_events (k : KeepsEvents z d) : KeepsEvents z d.fGain := by
  have hunlock : KeepsEvents z ((List.range 8).foldl Dev.xUnlock d) :=
    k.range fun _ _ _ kd => (wrF_events (a := R.XCH_STAT) (by decide) _ _ kd).of_regs rfl
  refine hunlock.foldl fun d f _ kd => ?_
  have hstart (f : Func) : KeepsEvents z (if f.byToken && d.fEn f && !d.fForced f && d.fState f == 0 then d.fStart f else d) :=
    LeavesFields.ite (fStart_events f kd) kd
  cases f with
  | supply n =>
    have hmen : KeepsEvents z (d.wrF (Func.supply n).reg F.LOP_SUPCTRL_MEN 0) := wrF_events (Func.reg_low _) _ _ kd
    exact LeavesFields.ite (LeavesFields.ite (hmen.of_regs rfl) hmen) (supplyEnable_events n _ hmen)
  | xch | qch | panel | link => exact hstart _

/-! Outputs, loop outputs, the bus, HART -/

theorem doGain_events (k : KeepsEvents z d) : KeepsEvents z d.doGain := by
  have hsource : KeepsEvents z (d.diSource true) := k.of_regs rfl
  exact LeavesFields.ite hsource (hsource.range fun _ _ _ kd =>
    LeavesFields.ite ((wrF_events (a := R.DIO_OUT) (by decide) _ _ kd).of_regs rfl) kd)

theorem loGain_events (k : KeepsEvents z d) : KeepsEvents z d.loGain := by
  refine k.range fun d n hn kd => ?_
  extract_lets m d1
  have h1 : KeepsEvents z d1 := kd.of_regs rfl
  exact LeavesFields.ite (wrF_events (by simp only [R.LOP_OACT]; omega) _ _
    (wrF_events (by simp only [R.LOP_OSTS]; omega) _ _ h1)) h1

theorem showBacklog_events {n : Nat} (hn : n < 4) (k : KeepsEvents z d) : KeepsEvents z (d.showBacklog n) :=
  wrF_events (by simp only [R.CAN_BACKLOG]; omega) _ _ k

theorem placeFrame_events {n : Nat} (hn : n < 4) (e : LEntry) (resend resync : Bool) (k : KeepsEvents z d) :
    KeepsEvents z (d.placeFrame n e resend resync) := by
  unfold Dev.placeFrame
  extract_lets p q el
  exact LeavesFields.ite k (LeavesFields.ite (k.of_regs rfl) (LeavesFields.ite
    (showBacklog_events hn (k.of_regs rfl)) (LeavesFields.ite (k.of_regs rfl)
      (showBacklog_events hn ((refuse_events q k).of_regs rfl)))))

theorem placeOwed_events (resync : Bool) (k : KeepsEvents z d) : KeepsEvents z (d.placeOwed resync) := by
  have hfold {n : Nat} (hn : n < 4) (ss : List Nat) (x : Dev × List Nat) (hx : KeepsEvents z x.1) :
      KeepsEvents z (ss.foldl (fun (x : Dev × List Nat) s =>
        match x.1.jrn.entryAt s with
        | some e =>
          let st := byteAt e.payload 0
          (x.1.placeFrame n e true (resync && !x.2.contains st), st :: x.2)
        | none => x) x).1 := by
    induction ss generalizing x with
    | nil => exact hx
    | cons s t ih =>
      refine ih _ ?_
      dsimp only
      split
      · exact placeFrame_events hn _ true _ hx
      · exact hx
  exact k.range fun d n hn kd => hfold hn _ (d, []) kd

theorem rxAct_events {ch : Nat} (hch : ch < 4) (stamp : Nat) (f : Frame) (r : RxRec) (k : KeepsEvents z d) :
    KeepsEvents z (d.rxAct ch stamp f r) := by
  have hstat : KeepsEvents z (d.flag (R.CAN_STAT ch) 5) := flag_events (by simp only [R.CAN_STAT]; omega) 5 k
  have hremote (p : Nat) (v : Int) : KeepsEvents z (d.remoteUpdate p v stamp ch) := by
    unfold Dev.remoteUpdate
    extract_lets x newer take
    exact LeavesFields.ite (k.of_regs rfl) k
  exact LeavesFields.ite (LeavesFields.ite hstat (hremote _ _)) (LeavesFields.ite hstat (k.of_regs rfl))

theorem rxMap_events (ch stamp : Nat) (f : Frame) (remotes : Bool) (k : KeepsEvents z d) :
    KeepsEvents z (d.rxMap ch stamp f remotes).1 := by
  by_cases hnone : d.rxEntries ch f = []
  · have hmap : (d.rxMap ch stamp f remotes).1 = d := by simp [Dev.rxMap, hnone]
    rwa [hmap]
  · have hch := rxEntries_channel hnone
    have hstat : R.CAN_STAT ch < 0x170000 := by simp only [R.CAN_STAT]; omega
    have hcnt : R.CAN_CNT ch < 0x170000 := by simp only [R.CAN_CNT]; omega
    have hacts {e : Dev} (ke : KeepsEvents z e) (rs : List RxRec) :
        KeepsEvents z (if e.holder then rs.foldl (fun d r => d.rxAct ch stamp f r) e else e) :=
      LeavesFields.ite (ke.foldl fun _ r _ kd => rxAct_events hch stamp f r kd) ke
    unfold Dev.rxMap
    extract_lets es bad d1 hit
    split
    · have h1 : KeepsEvents z d1 := flagEv_events hstat 7 _ k
      exact LeavesFields.ite (incF_events hcnt _ h1) h1
    · split
      · exact hacts k _
      · extract_lets j d1 d2 fld
        have h1 : KeepsEvents z d1 := k.of_regs rfl
        have h2 : KeepsEvents z d2 := LeavesFields.ite (flag_events hstat 6 (incF_events hcnt _ h1)) h1
        split
        · exact hacts h2 _
        · exact wrF_events (by simp only [R.CAN_DUPCNT]; omega) _ _ h2

theorem setCan_events (f : Can → Can) (k : KeepsEvents z d) : KeepsEvents z (d.setCan f) := k.of_regs rfl

theorem canGain_events (resync : Bool) (k : KeepsEvents z d) : KeepsEvents z (d.canGain resync) := by
  unfold Dev.canGain
  extract_lets d1 d2 g frames
  have h1 : KeepsEvents z d1 := k.range fun d n hn kd =>
    setCan_events _ (LeavesFields.ite (wrF_events (by simp only [R.CAN_MODE]; omega) _ _ kd) kd)
  have h2 : KeepsEvents z d2 := placeOwed_events resync h1
  have hdup : KeepsEvents z d2.dupRebuild :=
    (setCan_events _ h2).foldl fun d e _ kd => LeavesFields.ite (setCan_events _ kd) kd
  exact hdup.foldl fun d x _ kd => rxMap_events x.2.1 0 x.2.2 false kd

theorem hartDone_events {n : Nat} (hn : n < 16) (tx : HartTx) (res rc fd : Nat) (data : List Byte) (k : KeepsEvents z d) :
    KeepsEvents z (d.hartDone n tx res rc fd data) := by
  have hsts : R.LOP_HSTAT n < 0x170000 := by simp only [R.LOP_HSTAT]; omega
  unfold Dev.hartDone
  extract_lets d1 d2 d3
  have h1 : KeepsEvents z d1 := k.of_regs rfl
  have h2 : KeepsEvents z d2 := LeavesFields.ite (flagEv_events hsts 22 98 h1) h1
  have h3 : KeepsEvents z d3 := LeavesFields.ite (flagEv_events hsts 20 101 h2) h2
  split
  · exact h3.of_regs rfl
  · exact h3

theorem hartTake_events {n : Nat} (hn : n < 16) (o : List Byte × HostRef) (k : KeepsEvents z d) :
    KeepsEvents z (d.hartTake n o) := by
  unfold Dev.hartTake
  extract_lets tx
  split
  · exact LeavesFields.ite k (pushFree_events _ _ _ k)
  · split
    · exact hartDone_events hn _ _ _ _ _ (k.of_regs rfl)
    · exact k.of_regs rfl

theorem hartTakeover_events (k : KeepsEvents z d) : KeepsEvents z d.hartTakeover :=
  k.range fun d n hn kd => LeavesFields.of_regs
    (show KeepsEvents z ((d.hart n).opened.foldl (fun d o => d.hartTake n o) d) from
      kd.foldl fun _ o _ ko => hartTake_events hn o ko) rfl

/-! Channels, inputs and the panel -/

theorem qRoleChange_events (k : KeepsEvents z d) : KeepsEvents z d.qRoleChange := by
  refine k.range fun d n hn kd => LeavesFields.ite ?_ kd
  have hsts : R.QCH_STS n < 0x170000 := by simp only [R.QCH_STS]; omega
  have hcyc : KeepsEvents z (d.setCyc n (QCycle.fail · 6)) := kd.of_regs rfl
  have hcause : KeepsEvents z (d.qCause n 6) :=
    LeavesFields.ite (flag_events hsts 21 hcyc) (LeavesFields.ite (flag_events hsts 20 hcyc) hcyc)
  exact hcause.of_regs rfl

theorem setScan_events {m : Nat} (hm : m < 4) (f : UScan → UScan) (k : KeepsEvents z d) : KeepsEvents z (d.setScan m f) :=
  wr_events (by simp only [R.UIN_SCSTAT]; omega) _ (LeavesFields.of_regs k rfl)

theorem exvUpdate_events (k : KeepsEvents z d) : KeepsEvents z d.exvUpdate := by
  refine k.range fun d m hm kd => ?_
  extract_lets w uin d1
  have h1 : KeepsEvents z d1 := kd.of_regs rfl
  refine LeavesFields.ite kd ?_
  split
  · exact LeavesFields.ite (setScan_events hm _ h1) h1
  · exact h1

theorem uRoleChange_events (k : KeepsEvents z d) : KeepsEvents z d.uRoleChange :=
  exvUpdate_events (k.range fun _ _ hm kd => LeavesFields.ite kd (setScan_events hm _ kd))

theorem pnlGain_events (k : KeepsEvents z d) : KeepsEvents z d.pnlGain :=
  k.foldl fun _ _ _ kd => LeavesFields.ite (wrF_events (a := R.PNL_PENDMAP) (by decide) _ _ kd) kd

/-- A device that takes the token clears no pending bit. -/
theorem holderStart_events (resync : Bool) (k : KeepsEvents z d) : KeepsEvents z (d.holderStart resync) := by
  unfold Dev.holderStart
  extract_lets d1 d2
  have h1 : KeepsEvents z d1 := canGain_events resync (loGain_events (doGain_events (fGain_events k)))
  clear_value d1
  have hq : KeepsEvents z d1.hartTakeover.qRoleChange := qRoleChange_events (hartTakeover_events h1)
  have h2 : KeepsEvents z d2 := uRoleChange_events (hq.trans (keepsEvents_of_held (qSwitches_leaves (.refl _ _))))
  clear_value d2
  exact (pnlGain_events h2).of_regs rfl

end

section
variable (d : Dev)

/-! The start-up claim (R351, R379) -/

theorem evPending_setRole {r : Nat} (h : d.role ≠ r) : (d.setRole r).evPending 192 = true := by
  obtain ⟨on, w, he⟩ := setRole_eq d h
  rw [he]
  exact (evPending_writeThrough (d := (d.wrF R.PAR_ROLE F.PAR_ROLE_ROLE r).raise 192) on).trans (evPending_raise_same _ (by decide))

/-- A device that rejoins keeps its token's bit, and the claim it has. -/
theorem toRejoin_keeps : d.toRejoin.pair.claim = d.pair.claim ∧
    d.toRejoin.rdF R.PAR_ROLE F.PAR_ROLE_TOKEN = d.rdF R.PAR_ROLE F.PAR_ROLE_TOKEN := by
  obtain ⟨e, he⟩ : ∃ e, e = d.setRole 4 := ⟨_, rfl⟩
  have hpair : e.pair = d.pair := by
    rw [he]
    exact congrArg (fun q => q.2.2.2.1) (settled_setRole d 4)
  have htoken : e.rdF R.PAR_ROLE F.PAR_ROLE_TOKEN = d.rdF R.PAR_ROLE F.PAR_ROLE_TOKEN := by
    rw [he]
    exact rdF_setRole_apart d 4 (by decide)
  obtain ⟨g, hg⟩ : ∃ g, g = (e.wrF R.PAR_ROLE F.PAR_ROLE_PEERUP 0).setPair (fun p => { p with rejSince := d.clk, castle := 0, rejReady := false }) :=
    ⟨_, rfl⟩
  have hgclaim : g.pair.claim = e.pair.claim := by rw [hg]; rfl
  have hgtoken : g.rdF R.PAR_ROLE F.PAR_ROLE_TOKEN = e.rdF R.PAR_ROLE F.PAR_ROLE_TOKEN := by
    rw [hg]
    exact rdF_wrF_apart e R.PAR_ROLE F.PAR_ROLE_TOKEN F.PAR_ROLE_PEERUP (by decide) 0
  have heq : d.toRejoin = (g.wrF R.PAR_REJOIN F.PAR_REJOIN_STEP (if g.linkUp then 2 else 0)).setTurn (fun t => { t with run := none }) := by
    rw [hg, he]
    rfl
  rw [heq]
  exact ⟨hgclaim.trans (congrArg Pair.claim hpair),
    (rdF_wrF_other g R.PAR_REJOIN R.PAR_ROLE F.PAR_ROLE_TOKEN _ _ (by decide)).trans (hgtoken.trans htoken)⟩

/-- A claim that is lost: the device rejoins. -/
theorem claimLost_spec : d.claimLost.role = 4 ∧ d.claimLost.pair.claim = false ∧
    d.claimLost.rdF R.PAR_ROLE F.PAR_ROLE_TOKEN = d.rdF R.PAR_ROLE F.PAR_ROLE_TOKEN :=
  have hkeeps := toRejoin_keeps (d.setPair (fun p => { p with claim := false }))
  ⟨(toRejoin_spec _).1, hkeeps.1, hkeeps.2⟩

/-- The registers and the parts of a device that becomes the active, before its units start. -/
def Dev.activeRole : Dev :=
  ((((d.setTurn (fun t => { t with cur := { evalStart d.image with streams := t.cur.streams }
                                   view := viewOf { evalStart d.image with streams := t.cur.streams }
                                   run := none, prev := none })).wrFs R.PAR_ROLE
    [(F.PAR_ROLE_TOKEN, 1), (F.PAR_ROLE_LINE, 0), (F.PAR_ROLE_PEERUP, 0)]).setRole 2).setPair
      (fun p => { p with claim := false, rejReady := false }))

theorem becomeActive_eq : d.becomeActive = d.activeRole.holderStart true := rfl

theorem becomeActive_spec (h : d.role = 0) : d.becomeActive.role = 2 ∧
    d.becomeActive.rdF R.PAR_ROLE F.PAR_ROLE_TOKEN = 1 ∧ d.becomeActive.peerUp = false ∧
    d.becomeActive.pair.claim = false ∧ d.becomeActive.evPending 192 = true := by
  obtain ⟨e, he⟩ : ∃ e, e = (d.setTurn (fun t => { t with cur := { evalStart d.image with streams := t.cur.streams }
                                                          view := viewOf { evalStart d.image with streams := t.cur.streams }
                                                          run := none, prev := none })).wrFs R.PAR_ROLE
    [(F.PAR_ROLE_TOKEN, 1), (F.PAR_ROLE_LINE, 0), (F.PAR_ROLE_PEERUP, 0)] := ⟨_, rfl⟩
  have hfield (f : Field) : e.rdF R.PAR_ROLE f = getF f (putF F.PAR_ROLE_PEERUP (putF F.PAR_ROLE_LINE
      (putF F.PAR_ROLE_TOKEN (d.rd R.PAR_ROLE) 1) 0) 0) := by
    rw [he]
    simp only [Dev.wrFs, Dev.rdF, rd_wr_same, List.foldl_cons, List.foldl_nil]
    rfl
  have hrole : e.role ≠ 2 := by
    rw [Dev.role, hfield, getF_putF_apart _ _ (by decide), getF_putF_apart _ _ (by decide), getF_putF_apart _ _ (by decide)]
    exact fun h2 => absurd (h.symm.trans h2) (by decide)
  have htoken : e.rdF R.PAR_ROLE F.PAR_ROLE_TOKEN = 1 := by
    rw [hfield, getF_putF_apart _ _ (by decide), getF_putF_apart _ _ (by decide), getF_putF _ (by decide)]
    rfl
  have hpeer : e.rdF R.PAR_ROLE F.PAR_ROLE_PEERUP = 0 := by
    rw [hfield, getF_putF _ (by decide)]
    rfl
  obtain ⟨g, hg⟩ : ∃ g, g = (e.setRole 2).setPair (fun p => { p with claim := false, rejReady := false }) := ⟨_, rfl⟩
  have hgrole (f : Field) : g.rdF R.PAR_ROLE f = (e.setRole 2).rdF R.PAR_ROLE f := by rw [hg]; rfl
  have hgev : g.evPending 192 = true := by
    rw [hg]
    exact evPending_setRole e hrole
  have hgclaim : g.pair.claim = false := by rw [hg]; rfl
  have hbecome : d.becomeActive = g.holderStart true := by rw [becomeActive_eq, hg, he]; rfl
  have hl : FieldsPair [(R.PAR_ROLE, F.PAR_ROLE_ROLE), (R.PAR_ROLE, F.PAR_ROLE_TOKEN), (R.PAR_ROLE, F.PAR_ROLE_PEERUP)] := by
    simp only [FieldsPair, List.forall_mem_cons, List.not_mem_nil, false_implies, implies_true, and_true]
    decide
  have happart := holderStart_apart hl true (.refl _ g)
  rw [hbecome]
  refine ⟨?_, ?_, ?_, ?_, ?_⟩
  · exact (happart.fields.field_eq (by simp)).trans ((hgrole _).trans (role_setRole e (by decide)))
  · exact (happart.fields.field_eq (by simp)).trans ((hgrole _).trans ((rdF_setRole_apart e 2 (by decide)).trans htoken))
  · refine (peerUp_of_field (v := 0) ?_).trans rfl
    exact (happart.fields.field_eq (by simp)).trans ((hgrole _).trans ((rdF_setRole_apart e 2 (by decide)).trans hpeer))
  · rw [happart.pair_eq]
    exact hgclaim
  · exact (holderStart_events true (.refl _ g)).pend 192 (by decide) hgev

/-- The device at the end of its wait, which has read the line. -/
def Dev.lineRead (lineFree idHigh : Bool) : Dev :=
  d.wrFs R.PAR_ROLE [(F.PAR_ROLE_IDHI, b2n idHigh), (F.PAR_ROLE_LINE, b2n lineFree)]

theorem rdF_lineRead (lineFree idHigh : Bool) {f : Field} (hid : f.lo + f.width ≤ F.PAR_ROLE_IDHI.lo ∨
    F.PAR_ROLE_IDHI.lo + F.PAR_ROLE_IDHI.width ≤ f.lo) (hline : f.lo + f.width ≤ F.PAR_ROLE_LINE.lo ∨
    F.PAR_ROLE_LINE.lo + F.PAR_ROLE_LINE.width ≤ f.lo) : (d.lineRead lineFree idHigh).rdF R.PAR_ROLE f = d.rdF R.PAR_ROLE f := by
  simp only [Dev.lineRead, Dev.wrFs, Dev.rdF, rd_wr_same, List.foldl_cons, List.foldl_nil]
  rw [getF_putF_apart _ _ hline, getF_putF_apart _ _ hid]

/-- A starting device that waits no longer reads the line, and claims. -/
theorem startClaim_eq (lineFree idHigh : Bool) (peerNext : BitVec 48) : d.startClaim lineFree idHigh peerNext =
    if d.pwr.boot ≠ 3 ∨ !d.claimDue then d
    else if !lineFree then (if (d.lineRead lineFree idHigh).role = 4 then d.lineRead lineFree idHigh else (d.lineRead lineFree idHigh).claimLost)
    else if !(d.lineRead lineFree idHigh).linkUp then (d.lineRead lineFree idHigh).becomeActive
    else if peerNext.toNat < d.jrn.next ∨ (peerNext.toNat = d.jrn.next ∧ !idHigh) then (d.lineRead lineFree idHigh).becomeActive
    else (d.lineRead lineFree idHigh).claimLost := rfl

theorem linkUp_lineRead (lineFree idHigh : Bool) : (d.lineRead lineFree idHigh).linkUp = d.linkUp :=
  congrArg (· == 5) (rdF_congr (rd_wr_other d R.PAR_ROLE R.PAR_LNKSTAT _ (by decide)) F.PAR_LNKSTAT_LSTATE)

/-- The claim of a starting device that waits no longer. -/
theorem startClaim_due (hup : d.pwr.boot = 3) (hrole : d.role = 0) (hdue : d.claimDue = true) (lineFree idHigh : Bool)
    (peerNext : BitVec 48) : d.startClaim lineFree idHigh peerNext =
      if lineFree = true ∧ (d.linkUp = false ∨ peerNext.toNat < d.jrn.next ∨ (peerNext.toNat = d.jrn.next ∧ idHigh = false))
      then (d.lineRead lineFree idHigh).becomeActive else (d.lineRead lineFree idHigh).claimLost := by
  have hread : (d.lineRead lineFree idHigh).role = 0 := (rdF_lineRead d lineFree idHigh (by decide) (by decide)).trans hrole
  rw [startClaim_eq, if_neg (by simp [hup, hdue]), hread, linkUp_lineRead]
  cases lineFree with
  | false => simp
  | true => cases h : d.linkUp <;> simp

/-- A device whose wait is over: its link is up, or 50 ms have passed. -/
theorem claimDue_starting (hclaim : d.pair.claim = true) (hrole : d.role = 0) :
    d.claimDue = true ↔ d.lstate = 5 ∨ d.pair.claimAt + 20000000 ≤ d.clk := by
  have hwait : d.pair.claimAt + 5 * tenMs = d.pair.claimAt + 20000000 := rfl
  simp [Dev.claimDue, hclaim, hrole, Dev.linkUp, hwait]

end

/-! Rejoin (R380) -/

section
variable {l : List (Nat × Field)} {z d : Dev}

theorem panelAddr_out {a : Nat} (h : panelAddr a = true) : 0x160000 ≤ a := by
  simp only [panelAddr, Bool.or_eq_true, beq_iff_eq, decide_eq_true_eq] at h
  rcases h with (rfl | rfl) | h
  · decide
  · decide
  · exact Nat.le_trans (by decide) h.1

theorem mirrorPanel_apart (hl : FieldsPair l) (m : PanelMirror) (k : Apart l z d) : Apart l z (d.mirrorPanel m) := by
  have hwords := k.foldl (xs := m.words.filter (fun x => panelAddr x.1 && (findRow x.1).isSome))
    (f := fun d x => d.wr x.1 x.2) fun d x hx kd => by
      have hx := (List.mem_filter.mp hx).2
      simp only [Bool.and_eq_true] at hx
      exact wr_apart hl (.inr (panelAddr_out hx.1)) _ kd
  exact (setPnl_apart _ hwords).foldl fun _ _ _ kd =>
    Apart.ite (kd.foldl fun _ e _ ke => pLose_apart hl e ke) kd

theorem jrn_mirrorPanel (m : PanelMirror) : (d.mirrorPanel m).jrn = d.jrn := by
  unfold Dev.mirrorPanel
  extract_lets d1 d2
  have h2 : d2.jrn = d.jrn := by
    refine foldl_proj Dev.jrn ?_ _ d
    exact fun _ _ => rfl
  refine (foldl_proj Dev.jrn (fun e r => ?_) _ d2).trans h2
  split
  · refine foldl_proj Dev.jrn ?_ _ e
    exact fun _ _ => rfl
  · rfl

/-- A device whose lattice is a mirror's. -/
def Dev.mirrored (d : Dev) (m : Mirror) : Dev := d.setTurn (fun t => { t with cur := m.state, view := m.view })

/-- A mirror taken over gives the lattice; of the pair's registers and its state nothing changes. -/
theorem takeMirror_apart (hl : FieldsPair l) (m : Mirror) : Apart l (d.mirrored m) (d.takeMirror m) := by
  unfold Dev.takeMirror
  extract_lets d1 phs d2 d3 d4 d5 d6 d7 outs d8 d9
  have h2 : Apart l (d.mirrored m) d2 := ⟨.refl _ _, rfl⟩
  clear_value d2
  have h3 : Apart l (d.mirrored m) d3 := h2.range fun _ n _ kd => setXc_apart n _ kd
  clear_value d3
  have h4 : Apart l (d.mirrored m) d4 := h3.range fun _ n _ kd => setQc_apart n _ kd
  clear_value d4
  have h5 : Apart l (d.mirrored m) d5 := h4.range fun d n hn kd => by
    split
    · exact setLi_apart n _ (wrF_apart_out hl (.inl (by simp only [R.LOP_SUPCTRL]; omega)) _ _ kd)
    · exact kd
  clear_value d5
  have h6 : Apart l (d.mirrored m) d6 := h5.range fun d n hn kd => wrF_apart_out hl (.inl (by simp only [R.LOP_OSET]; omega)) _ _ kd
  clear_value d6
  have h7 : Apart l (d.mirrored m) d7 := wrF_apart_out hl (.inl (by decide)) _ _ (wrF_apart_out hl (.inl (by decide)) _ _ h6)
  clear_value d7
  have h8 : Apart l (d.mirrored m) d8 := setDio_apart _ h7
  clear_value d8
  have h9 : Apart l (d.mirrored m) d9 := h8.range fun d n hn kd => by
    split
    · exact (wrF_apart_out hl (.inl (by simp only [R.LOP_OSTS]; omega)) _ _ kd).of_parts rfl rfl
    · exact kd
  clear_value d9
  exact setJrn_apart _ (mirrorPanel_apart hl m.panel h9)

/-- A mirror taken over leaves the number of the next entry. -/
theorem next_takeMirror (m : Mirror) : (d.takeMirror m).jrn.next = d.jrn.next := by
  unfold Dev.takeMirror
  extract_lets d1 phs d2 d3 d4 d5 d6 d7 outs d8 d9
  have h3 : d3.jrn = d.jrn := by
    refine foldl_proj Dev.jrn ?_ _ d2
    exact fun _ _ => rfl
  clear_value d3
  have h4 : d4.jrn = d.jrn := by
    refine (foldl_proj Dev.jrn ?_ _ d3).trans h3
    exact fun _ _ => rfl
  clear_value d4
  have h5 : d5.jrn = d.jrn := by
    refine (foldl_proj Dev.jrn (fun e n => ?_) _ d4).trans h4
    split <;> rfl
  clear_value d5
  have h6 : d6.jrn = d.jrn := by
    refine (foldl_proj Dev.jrn ?_ _ d5).trans h5
    exact fun _ _ => rfl
  clear_value d6
  have h8 : d8.jrn = d.jrn := h6
  clear_value d8
  have h9 : d9.jrn = d.jrn := by
    refine (foldl_proj Dev.jrn (fun e n => ?_) _ d8).trans h8
    split <;> rfl
  clear_value d9
  show (d9.mirrorPanel m.panel).jrn.next = _
  rw [jrn_mirrorPanel, h9]

theorem next_drain : d.drain.jrn.next = d.jrn.next := by
  unfold Dev.drain
  split <;> rfl

theorem next_drainAll : d.drainAll.jrn.next = d.jrn.next := foldl_proj (fun d => d.jrn.next) (fun _ _ => next_drain) _ d

theorem drainAll_apart (k : Apart l z d) : Apart l z d.drainAll := k.foldl fun _ _ _ kd => drain_apart kd

theorem dropBeyond_apart (agreed : Nat) (k : Apart l z d) : Apart l z (d.dropBeyond agreed) :=
  Apart.ite (setJrn_apart _ (drainAll_apart k)) (happen_apart _ (setJrn_apart _ (drainAll_apart k)))

theorem next_dropBeyond (agreed : Nat) : (d.dropBeyond agreed).jrn.next = min d.jrn.next agreed := by
  have hnext : min d.drainAll.jrn.next agreed = min d.jrn.next agreed := by rw [next_drainAll]
  unfold Dev.dropBeyond
  extract_lets d1 n d2
  split <;> exact hnext

theorem jrnLevels_apart (k : Apart l z d) : Apart l z d.jrnLevels := by
  unfold Dev.jrnLevels
  exact setJrn_apart _ k

theorem acceptNone_apart (k : Apart l z d) : Apart l z (d.acceptAll []) :=
  Apart.ite (flush_apart (jrnLevels_apart k)) (jrnLevels_apart k)

theorem next_jrnLevels : d.jrnLevels.jrn.next = d.jrn.next := by
  unfold Dev.jrnLevels Dev.setJrn Journal.flagDue
  dsimp only
  split <;> rfl

theorem next_acceptNone : (d.acceptAll []).jrn.next = d.jrn.next := by
  show Journal.next (Dev.jrn (if d.jrnLevels.jrn.wthru then d.jrnLevels.flush else d.jrnLevels)) = _
  split
  · exact (show d.jrnLevels.flush.jrn.next = d.jrnLevels.drainAll.jrn.next from rfl).trans (next_drainAll.trans next_jrnLevels)
  · exact next_jrnLevels

theorem setMarks_apart (marks : List Nat) (k : Apart l z d) : Apart l z (d.setMarks marks) :=
  k.range fun _ n _ kd => setCanCh_apart n _ kd

theorem next_setMarks (marks : List Nat) : (d.setMarks marks).jrn.next = d.jrn.next :=
  foldl_proj (fun d => d.jrn.next) (f := fun d n => d.setCanCh n _) (fun _ _ => rfl) (List.range 4) d

end

section
variable (d : Dev)

/-- The journal, the bus's tables of the rejoiner with no entry to take over, before its peer's state comes. -/
def Dev.caughtUp (agreed : Nat) (dups : List DupState) (marks : List Nat) : Dev :=
  (((((d.dropBeyond agreed).acceptAll []).drainAll.setJrn (fun j => { j with replay := j.replayTables })).setJrn Journal.resegment).setCan
    (fun c => { c with dups := dups })).setMarks marks

theorem rejoinState_caughtUp (hrole : d.role = 4) (hlink : d.lstate = 5) (m : Mirror) (agreed : Nat) (dups : List DupState)
    (marks : List Nat) : d.rejoinState m agreed [] dups marks =
      ((((d.caughtUp agreed dups marks).takeMirror m).setPair (fun p => { p with rejReady := true })).wrF R.PAR_REJOIN F.PAR_REJOIN_STEP 5) := by
  unfold Dev.rejoinState
  rw [if_neg (by simp [hrole, Dev.linkUp, hlink])]
  rfl

theorem caughtUp_apart {l : List (Nat × Field)} (agreed : Nat) (dups : List DupState) (marks : List Nat) :
    Apart l d (d.caughtUp agreed dups marks) :=
  setMarks_apart marks (setCan_apart _ (setJrn_apart _ (setJrn_apart _ (drainAll_apart (acceptNone_apart
    (dropBeyond_apart agreed (.refl l d)))))))

theorem next_caughtUp (agreed : Nat) (dups : List DupState) (marks : List Nat) :
    (d.caughtUp agreed dups marks).jrn.next = min d.jrn.next agreed := by
  obtain ⟨e, he⟩ : ∃ e, e = ((d.dropBeyond agreed).acceptAll []).drainAll := ⟨_, rfl⟩
  have hnext : e.jrn.next = min d.jrn.next agreed := by
    rw [he, next_drainAll, next_acceptNone, next_dropBeyond]
  rw [Dev.caughtUp, next_setMarks, ← he]
  exact hnext

/-- A rejoiner takes over its peer's state. -/
theorem rejoinState_spec (hrole : d.role = 4) (hlink : d.lstate = 5) (m : Mirror) (agreed : Nat) (dups : List DupState)
    (marks : List Nat) {e : Dev} (he : e = d.rejoinState m agreed [] dups marks) :
    e.pair.rejReady = true ∧ e.turn.cur = m.state ∧ e.turn.view = m.view ∧ e.jrn.next = min d.jrn.next agreed ∧ e.role = 4 ∧
    e.rdF R.PAR_REJOIN F.PAR_REJOIN_STEP = 5 := by
  have hl : FieldsPair [(R.PAR_ROLE, F.PAR_ROLE_ROLE)] := by
    simp only [FieldsPair, List.forall_mem_cons, List.not_mem_nil, false_implies, implies_true, and_true]
    decide
  obtain ⟨c, hc⟩ : ∃ c, c = d.caughtUp agreed dups marks := ⟨_, rfl⟩
  obtain ⟨g, hg⟩ : ∃ g, g = c.takeMirror m := ⟨_, rfl⟩
  have hcapart : Apart [(R.PAR_ROLE, F.PAR_ROLE_ROLE)] d c := by
    rw [hc]
    exact caughtUp_apart d agreed dups marks
  have hgapart : Apart [(R.PAR_ROLE, F.PAR_ROLE_ROLE)] (c.mirrored m) g := by
    rw [hg]
    exact takeMirror_apart hl m
  have hgturn : { g.turn with arrived := [] } = ({ (c.mirrored m).turn with arrived := [] } : Turn) := hgapart.turn_eq
  have hgrole : g.role = 4 := (hgapart.fields.field_eq (List.mem_singleton_self _)).trans
    ((hcapart.fields.field_eq (List.mem_singleton_self _)).trans hrole)
  have hgnext : g.jrn.next = min d.jrn.next agreed := by
    rw [hg, next_takeMirror, hc, next_caughtUp]
  have heg : e = (g.setPair (fun p => { p with rejReady := true })).wrF R.PAR_REJOIN F.PAR_REJOIN_STEP 5 := by
    rw [he, rejoinState_caughtUp d hrole hlink, ← hc, ← hg]
  rw [heg]
  exact ⟨rfl, congrArg Turn.cur hgturn, congrArg Turn.view hgturn, hgnext,
    (rdF_wrF_other _ _ _ _ _ _ (by decide)).trans hgrole, rdF_wrF_of_lt _ _ _ (by decide) (by decide)⟩

/-- The rejoiner is the standby from the cutover. -/
theorem rejoinCutover_rejoiner (hrole : d.role = 4) (hlink : d.lstate = 5) (hready : d.pair.rejReady = true)
    (turn agreed : Nat) (pool : List (List Entry)) {e : Dev} (he : e = d.rejoinCutover turn agreed pool) :
    e.role = 3 ∧ e.peerUp = true ∧ e.turn.number = turn ∧ e.turn.run = none ∧ e.evPending 201 = true ∧
    e.pair.rejReady = false ∧ e.rdF R.PAR_REJOIN F.PAR_REJOIN_STEP = 0 := by
  obtain ⟨a, ha⟩ : ∃ a, a = (d.setTurn (fun t => { t with number := turn, run := none, prev := none })).setJrn
    (fun j => { j with ing := (pool ++ List.replicate 8 []).take 8 }) := ⟨_, rfl⟩
  obtain ⟨b, hb⟩ : ∃ b, b = a.setRole 3 := ⟨_, rfl⟩
  obtain ⟨c, hc⟩ : ∃ c, c = b.wrF R.PAR_ROLE F.PAR_ROLE_PEERUP 1 := ⟨_, rfl⟩
  obtain ⟨f, hf⟩ : ∃ f, f = (List.range 12).foldl (fun d n => d.setQc n (fun c => { c with feedIn := none })) c := ⟨_, rfl⟩
  obtain ⟨g, hg⟩ : ∃ g, g = f.setPair (fun p => { p with
      rejReady := false, mirTurn := none, doneTurn := none, mirMiss := 0, healthAge := 0, found := 0
      xruns := p.xruns.map (fun x => (x.1, x.2.1, 0)) }) := ⟨_, rfl⟩
  have heq : e = (g.wrF R.PAR_REJOIN F.PAR_REJOIN_STEP 0).raise 201 := by
    rw [he, Dev.rejoinCutover, if_pos ⟨hrole, hready, by simp [Dev.linkUp, hlink]⟩, hg, hf, hc, hb, ha]
  have haturn : a.turn.number = turn ∧ a.turn.run = none := by rw [ha]; exact ⟨rfl, rfl⟩
  have hbturn : b.turn.number = a.turn.number ∧ b.turn.run = a.turn.run := by
    rw [hb]
    exact ⟨congrArg (fun q => q.2.2.1.number) (settled_setRole a 3), congrArg (fun q => q.2.2.1.run) (settled_setRole a 3)⟩
  have hcrole : c.role = 3 := by
    rw [hc]
    refine (rdF_wrF_apart b R.PAR_ROLE F.PAR_ROLE_ROLE F.PAR_ROLE_PEERUP (by decide) 1).trans ?_
    rw [hb]
    exact role_setRole a (by decide)
  have hcpeer : c.rdF R.PAR_ROLE F.PAR_ROLE_PEERUP = 1 := by
    rw [hc]
    exact rdF_wrF_of_lt b _ _ (by decide) (by decide)
  have hfparts : (f.regs, f.turn) = (c.regs, c.turn) := by
    rw [hf]
    refine foldl_proj (fun d => (d.regs, d.turn)) ?_ _ c
    exact fun _ _ => rfl
  have hgregs : g.regs = c.regs := by
    rw [hg]
    exact congrArg Prod.fst hfparts
  have hgturn : g.turn = c.turn := by
    rw [hg]
    exact congrArg Prod.snd hfparts
  have hgready : g.pair.rejReady = false := by rw [hg]; rfl
  have hcturn : c.turn = b.turn := by rw [hc]; rfl
  have hfield {x : Field} : (g.wrF R.PAR_REJOIN F.PAR_REJOIN_STEP 0).rdF R.PAR_ROLE x = c.rdF R.PAR_ROLE x :=
    (rdF_wrF_other g _ _ _ _ _ (by decide)).trans (rdF_congr (rd_of_regs hgregs _) _)
  have hend {x : Nat} (hx : x < 0x170000) (y : Field) : e.rdF x y = (g.wrF R.PAR_REJOIN F.PAR_REJOIN_STEP 0).rdF x y := by
    rw [heq]
    exact rdF_raise_low _ 201 hx y
  have heturn : e.turn = b.turn := by
    rw [heq]
    simp only [raise_frame]
    exact hgturn.trans hcturn
  refine ⟨(hend (by decide) _).trans (hfield.trans hcrole), ?_, ?_, ?_, ?_, ?_, ?_⟩
  · exact (peerUp_of_field (v := 1) ((hend (by decide) _).trans (hfield.trans hcpeer))).trans rfl
  · rw [heturn]
    exact hbturn.1.trans haturn.1
  · rw [heturn]
    exact hbturn.2.trans haturn.2
  · rw [heq]
    exact evPending_raise_same _ (by decide)
  · rw [heq]
    simp only [raise_frame]
    exact hgready
  · exact (hend (by decide) _).trans (rdF_wrF_of_lt g _ _ (by decide) (by decide))

/-- The active has one in service from the cutover. -/
theorem rejoinCutover_active (hrole : d.role = 2) (hlink : d.lstate = 5) (hpeer : d.peerUp = false)
    (turn agreed : Nat) (pool : List (List Entry)) {e : Dev} (he : e = d.rejoinCutover turn agreed pool) :
    e.role = 2 ∧ e.peerUp = true ∧ e.evPending 201 = true ∧ e.turn = d.turn := by
  obtain ⟨c, hc⟩ : ∃ c, c = (d.wrF R.PAR_ROLE F.PAR_ROLE_PEERUP 1).setPair (fun p => { p with healthAge := 0 }) := ⟨_, rfl⟩
  have hcrole : c.role = 2 := by
    rw [hc]
    exact (rdF_wrF_apart d R.PAR_ROLE F.PAR_ROLE_ROLE F.PAR_ROLE_PEERUP (by decide) 1).trans hrole
  have hcpeer : c.rdF R.PAR_ROLE F.PAR_ROLE_PEERUP = 1 := by
    rw [hc]
    exact rdF_wrF_of_lt d R.PAR_ROLE F.PAR_ROLE_PEERUP (by decide) (by decide)
  have hcturn : c.turn = d.turn := by rw [hc]; rfl
  obtain ⟨entry, heq⟩ : ∃ entry, e = (c.happen entry).raise 201 := by
    refine ⟨pairEntry 0x8 (leBytes 8 (agreed - 1) ++ leBytes 6 turn), ?_⟩
    rw [he, Dev.rejoinCutover, if_neg (by simp [hrole]), if_pos ⟨hrole, by simp [Dev.linkUp, hlink], by simp [hpeer]⟩]
    simp only [← hc]
    rw [Dev.formPair, if_neg (by simp [holder_of_active hcrole])]
    rfl
  have hend (x : Field) : e.rdF R.PAR_ROLE x = c.rdF R.PAR_ROLE x := by
    rw [heq]
    exact rdF_raise_low (c.happen entry) 201 (by decide) x
  refine ⟨(hend _).trans hcrole, (peerUp_of_field (v := 1) ((hend _).trans hcpeer)).trans rfl, ?_, ?_⟩
  · rw [heq]
    exact evPending_raise_same _ (by decide)
  · rw [heq]
    simp only [raise_frame]
    exact hcturn

end

/-- A command of a running die, by what its result meets. -/
theorem completes_of_result {c : Instr} {s : State} {f : Dev → Dev} {P : Dev → Prop} (hup : s.Up)
    (hexec : exec c s = .next (s.onDev (fun d => d.whenUp f))) (hP : ∀ e, e = f s.dev → P e) : Completes c s P :=
  completes_of_up hup hexec (hP _ rfl)

theorem exec_rejoinState (s : State) (m : Mirror) (agreed : BitVec 48) (dups : List (Nat × Nat × Nat × Nat)) (marks : List Nat) :
    exec (.rejoinState m agreed [] dups marks) s = .next (s.onDev (fun d => d.whenUp (fun d =>
      d.rejoinState m agreed.toNat [] (dups.map (fun x => DupState.mk x.1 x.2.1 x.2.2.1 x.2.2.2)) marks))) := rfl

/-- Settles O45: a starting device claims when its wait is over, by the line, its link and the longer journal; a rejoiner
takes over its peer's state, and serves from the cutover. -/
theorem startAndRejoin : Obligations.StartAndRejoin := by
  unfold Obligations.StartAndRejoin
  refine ⟨fun s idHigh peerNext hup hclaim hrole => ⟨fun lineFree hdown hearly => ?_, fun hdue => ⟨?_, ?_⟩⟩,
    fun s m agreed dups marks hup hrole hlink => ?_, fun s turn agreed pool hup hlink => ⟨fun hrole hready => ?_, fun hrole hpeer => ?_⟩⟩
  · refine exec_keeps (f := fun d => d.startClaim lineFree idHigh peerNext) rfl ?_
    have hdue : ¬ s.dev.claimDue = true := by
      rw [claimDue_starting s.dev hclaim hrole]
      omega
    rw [startClaim_eq, if_pos (.inr (by simpa using hdue))]
  · refine completes_of_up hup (f := fun d => d.startClaim false idHigh peerNext) rfl ?_
    rw [startClaim_due s.dev hup hrole ((claimDue_starting s.dev hclaim hrole).mpr hdue), if_neg (by simp)]
    obtain ⟨hrole', hclaim', htoken⟩ := claimLost_spec (s.dev.lineRead false idHigh)
    exact ⟨hrole', hclaim', htoken.trans (rdF_lineRead s.dev false idHigh (by decide) (by decide))⟩
  · intro first
    refine completes_of_up hup (f := fun d => d.startClaim true idHigh peerNext) rfl ?_
    have hfirst : first ↔ (s.dev.linkUp = false ∨ peerNext.toNat < s.dev.jrn.next ∨
        (peerNext.toNat = s.dev.jrn.next ∧ idHigh = false)) := by
      simp [first, Dev.linkUp]
    rw [startClaim_due s.dev hup hrole ((claimDue_starting s.dev hclaim hrole).mpr hdue)]
    split
    next h =>
      have hread : (s.dev.lineRead true idHigh).role = 0 := (rdF_lineRead s.dev true idHigh (by decide) (by decide)).trans hrole
      obtain ⟨hrole', htoken, hpeer, hclaim', hev⟩ := becomeActive_spec (s.dev.lineRead true idHigh) hread
      exact ⟨hclaim', fun _ => ⟨hrole', htoken, hpeer, hev⟩, fun hn => absurd (hfirst.mpr h.2) hn⟩
    next h =>
      obtain ⟨hrole', hclaim', -⟩ := claimLost_spec (s.dev.lineRead true idHigh)
      exact ⟨hclaim', fun hf => absurd ⟨rfl, hfirst.mp hf⟩ h, fun _ => hrole'⟩
  · exact completes_of_result hup (exec_rejoinState s m agreed dups marks) fun e he => rejoinState_spec s.dev hrole hlink m _ _ _ he
  · exact completes_of_result hup (f := fun d => d.rejoinCutover turn.toNat agreed.toNat pool) rfl fun e he =>
      rejoinCutover_rejoiner s.dev hrole hlink hready _ _ _ he
  · exact completes_of_result hup (f := fun d => d.rejoinCutover turn.toNat agreed.toNat pool) rfl fun e he =>
      rejoinCutover_active s.dev hrole hlink hpeer _ _ _ he

end Sys2Proof.Machine
end

section
/-!
PROOFS. The commit with a standby (R27, R360, R362, R363, R365, R368).
-/
namespace Sys2Proof.Machine

/-! The turn's data (R16 to R24) -/

@[simp] theorem domSetRem_turn (d : Dev) (r : Int) :
    (d.domSetRem r).turn = d.turn := by
  simp [Dev.domSetRem]

@[simp] theorem domEvent_turn (d : Dev) (ev : Nat) :
    (d.domEvent ev).turn = d.turn := by
  simp [Dev.domEvent, apply_ite Dev.turn]

@[simp] theorem domAlarm_turn (d : Dev) (skipped : Bool) (a : Nat) :
    (d.domAlarm skipped a).turn = d.turn := by
  simp [Dev.domAlarm, apply_ite Dev.turn]

@[simp] theorem domAlarms_turn (d : Dev) (skipped : Bool) :
    (d.domAlarms skipped).turn = d.turn := by
  simp [Dev.domAlarms]

@[simp] theorem domTrack_turn (d : Dev) (tick : Nat) (zone : Int) (trusted : Bool) :
    (d.domTrack tick zone trusted).turn = d.turn := by
  unfold Dev.domTrack
  extract_lets stepped d1 d2 d3 diff d4 d5
  have h3 : d3.turn = d.turn := by
    unfold d3
    split <;> simp [d2, d1, apply_ite Dev.turn]
  simp [d5, d4, apply_ite Dev.turn, h3]

@[simp] theorem xShow_turn (d : Dev) (r : Release) (b : Bool) :
    (d.xShow r b).turn = d.turn := by
  unfold Dev.xShow
  split <;> simp [apply_ite Dev.turn]

@[simp] theorem setXRun_turn (d : Dev) (kind idx : Nat) (n : Option Nat) : (d.setXRun kind idx n).turn = d.turn := rfl

@[simp] theorem xJudgeChan_turn (d : Dev) (kind idx : Nat) (data : Bool → List Byte) :
    (d.xJudgeChan kind idx data).turn = d.turn := by
  unfold Dev.xJudgeChan
  split
  · split <;> simp
  · extract_lets k act d1 d2 d3
    have h2 : d2.turn = d.turn := by
      unfold d2
      split <;> rfl
    have h3 : d3.turn = d.turn := by
      unfold d3
      split
      · rfl
      · simpa using h2
    split
    · exact h3
    · exact h3

@[simp] theorem xCheck_turn (d : Dev) (r own : Release) : (d.xCheck r own).turn = d.turn := by
  unfold Dev.xCheck
  split
  · rfl
  · simp

@[simp] theorem crossCheck_turn (d : Dev) (rel : List Release) : (d.crossCheck rel).turn = d.turn := by
  unfold Dev.crossCheck
  extract_lets mine d1 d2
  have h1 : d1.turn = d.turn := foldl_turn (fun e r => by split <;> simp) rel d
  have h2 : d2.turn = d1.turn := foldl_turn (fun _ _ => xJudgeChan_turn _ _ _ _) _ d1
  exact (foldl_turn (fun _ _ => xJudgeChan_turn _ _ _ _) _ d2).trans (h2.trans h1)

@[simp] theorem sendHealth_turn (d : Dev) :
    (d.sendHealth).turn = d.turn := by
  simp [Dev.sendHealth]

@[simp] theorem healthTurn_turn (d : Dev) :
    (d.healthTurn).turn = d.turn := by
  simp [Dev.healthTurn, apply_ite Dev.turn]

@[simp] theorem checkpointSeen_turn (d : Dev) (es : List LEntry) :
    (d.checkpointSeen es).turn = d.turn := by
  unfold Dev.checkpointSeen
  split <;> simp [apply_ite Dev.turn]

/-! A commit that completes (R21) -/

section
variable {l : List (Nat × Field)} {z d : Dev} (hl : FieldsPair l)
include hl

theorem promoted_apart (q : Nat) (k : Apart l z d) : Apart l z (d.promoted q) :=
  raise_apart hl 248 (flag_apart hl (.inr (by simp only [R.HST_QSTAT]; omega)) 17 (incF_apart hl (.inr (by decide)) _ k))

theorem promoServed_apart (q : Nat) (k : Apart l z d) : Apart l z (d.promoServed q) :=
  Apart.ite (k.of_parts rfl rfl) (promoted_apart hl _ k)

omit hl in
theorem hartClosed_apart (e : LEntry) (k : Apart l z d) : Apart l z (d.hartClosed e) := Apart.ite k (setHart_apart _ _ k)

omit hl in
theorem oweFrame_apart (e : LEntry) (k : Apart l z d) : Apart l z (d.oweFrame e) := Apart.ite (k.of_parts rfl rfl) k

theorem acceptAll_apart (es : List LEntry) (k : Apart l z d) : Apart l z (d.acceptAll es) := by
  have hentries : Apart l z (es.foldl (fun d e => (((d.setJrn (fun j => j.accept e)).oweFrame e).hartClosed e).raiseIf (e.kind = 0x7F) 152) d) :=
    k.foldl fun _ e _ kd => raiseIf_apart hl _ 152 (hartClosed_apart e (oweFrame_apart e (setJrn_apart _ kd)))
  exact Apart.ite (flush_apart (jrnLevels_apart hentries)) (jrnLevels_apart hentries)

omit hl in
theorem qConsumed_apart (k : Apart l z d) : Apart l z d.qConsumed := k.range fun _ n _ kd => setQc_apart n _ kd

omit hl in
theorem remoteConsumed_apart (k : Apart l z d) : Apart l z d.remoteConsumed := by
  unfold Dev.remoteConsumed
  exact setCan_apart _ k

omit hl in
theorem consumed_apart (r : TurnRun) (k : Apart l z d) : Apart l z (d.consumed r) := by
  have harrived : Apart l z (d.setTurn (fun t => { t with arrived := t.arrived.drop r.cmds })) := k.of_parts rfl rfl
  exact Apart.ite k (setJrn_apart _ (qConsumed_apart (remoteConsumed_apart harrived)))

omit hl in
theorem jrnSpace_apart (t : Take) (k : Apart l z d) : Apart l z (d.jrnSpace t) := by
  unfold Dev.jrnSpace
  exact setJrn_apart _ k

theorem results_apart (r : TurnRun) (k : Apart l z d) : Apart l z (d.results r) := by
  unfold Dev.results
  extract_lets ws n host d1
  have h1 : Apart l z d1 := k.of_parts rfl rfl
  exact h1.foldl fun _ _ _ kd => raise_apart hl 250 kd

theorem deferred_apart (k : Apart l z d) : Apart l z d.deferred := Apart.ite (flagEv_apart hl (.inl (by decide)) 4 3 k) k

theorem timing_apart (cdone eval : Nat) (k : Apart l z d) : Apart l z (d.timing cdone eval) :=
  wrFs_apart hl (.inl (by decide)) _ (wrFs_apart hl (.inl (by decide)) _ k)

end

section
variable (d : Dev) (r : TurnRun) (es : List LEntry) (cdone : Nat)

/-- A commit's entries are accepted. -/
def Dev.commitAccept : Dev :=
  ((r.take.promos.foldl Dev.promoServed (((d.prospect r).jrnSpace r.take).setJrn (fun j => { j with
    ing := r.take.ing, lastN := es.length }))).promoEnd d.jrn.ing).acceptAll es

/-- The turn in hand is completed. -/
def Dev.commitTurned : Dev :=
  (d.commitAccept r es).setTurn (fun t => { t with
    toEmit := t.toEmit ++ es.filter (fun e => e.kind = 0x20)
    places := t.places ++ r.take.taken.flatMap Entry.places
    run := some { r with phase := .completed }, overruns := 0 })

/-- A completed commit is shown. -/
def Dev.commitShown : Dev := (((d.commitTurned r es).consumed r).results r).deferred.timing (min cdone 0x7FE) (min r.evalUs 0xFE)

/-- A completed commit ends the runs of late turns, and notes its turn. -/
def Dev.commitNoted : Dev :=
  ((d.commitShown r es cdone).setWtc (fun w => { w with lateOnly := 0, counted := 0 })).setPair (fun p => { p with
    doneTurn := some (d.commitShown r es cdone).turn.number
    plannedTurn := if p.planned.isSome && p.plannedTurn.isNone then some (d.commitShown r es cdone).turn.number else p.plannedTurn })

/-- A swap that the peer has not confirmed by then is abandoned (R416). -/
def Dev.swapJudged : Dev :=
  if d.vault.swapTurn = some (d.turn.number + 1) ∧ d.role = 2 ∧ !d.vault.swapOk then d.swapAbandon else d

theorem completeWith_eq (hrun : d.turn.run = some r) : d.completeWith es cdone =
    if r.take.classAWaits then (d.commitNoted r es cdone).swapJudged.declare 0x22 0 else (d.commitNoted r es cdone).swapJudged := by
  unfold Dev.completeWith
  rw [hrun]
  rfl

variable {l : List (Nat × Field)} (hl : FieldsPair l)
include hl

theorem commitAccept_apart : Apart l (d.prospect r) (d.commitAccept r es) := by
  have hpromos := (setJrn_apart (fun j => { j with ing := r.take.ing, lastN := es.length })
    (jrnSpace_apart r.take (.refl l (d.prospect r)))).foldl
      (xs := r.take.promos) (f := Dev.promoServed) fun _ q _ kd => promoServed_apart hl q kd
  exact acceptAll_apart hl es (hpromos.of_parts rfl rfl)

theorem commitShown_apart : Apart l (d.commitTurned r es) (d.commitShown r es cdone) :=
  timing_apart hl _ _ (deferred_apart hl (results_apart hl r (consumed_apart r (.refl l _))))

end

section
variable {d : Dev} {n : Nat}

theorem lastN_raiseIf (b : Bool) (m : Nat) : (d.raiseIf b m).jrn.lastN = d.jrn.lastN := by simp

theorem lastN_accept (j : Journal) (e : LEntry) : (j.accept e).lastN = j.lastN := by
  unfold Journal.accept Journal.segmentStep
  dsimp only
  repeat' split
  all_goals rfl

theorem lastN_hartClosed (e : LEntry) : (d.hartClosed e).jrn.lastN = d.jrn.lastN := by
  unfold Dev.hartClosed
  split <;> rfl

theorem lastN_oweFrame (e : LEntry) : (d.oweFrame e).jrn.lastN = d.jrn.lastN := by
  unfold Dev.oweFrame
  split <;> rfl

theorem lastN_jrnLevels : d.jrnLevels.jrn.lastN = d.jrn.lastN := by
  unfold Dev.jrnLevels Dev.setJrn Journal.flagDue
  dsimp only
  split <;> rfl

theorem lastN_drain : d.drain.jrn.lastN = d.jrn.lastN := by
  unfold Dev.drain
  split <;> rfl

theorem lastN_flush : d.flush.jrn.lastN = d.jrn.lastN :=
  (show d.flush.jrn.lastN = d.drainAll.jrn.lastN from rfl).trans (foldl_proj (fun d => d.jrn.lastN) (fun _ _ => lastN_drain) _ d)

theorem lastN_acceptAll (es : List LEntry) : (d.acceptAll es).jrn.lastN = d.jrn.lastN := by
  have hentries (e : Dev) : (es.foldl (fun d e => (((d.setJrn (fun j => j.accept e)).oweFrame e).hartClosed e).raiseIf (e.kind = 0x7F) 152) e).jrn.lastN
      = e.jrn.lastN :=
    foldl_proj (fun d => d.jrn.lastN) (fun d e => by
      rw [lastN_raiseIf, lastN_hartClosed, lastN_oweFrame]
      exact lastN_accept d.jrn e) es e
  unfold Dev.acceptAll
  extract_lets e1 e2
  have h2 : e2.jrn.lastN = d.jrn.lastN := lastN_jrnLevels.trans (hentries d)
  split
  · exact lastN_flush.trans h2
  · exact h2

theorem lastN_promoServed (q : Nat) : (d.promoServed q).jrn.lastN = d.jrn.lastN := by
  unfold Dev.promoServed
  split
  · rfl
  · simp [Dev.promoted]

theorem lastN_consumed (r : TurnRun) : (d.consumed r).jrn.lastN = d.jrn.lastN := by
  unfold Dev.consumed
  split
  · rfl
  · exact foldl_proj (fun d => d.jrn.lastN) (f := fun d n => d.setQc n (fun c => { c with offer := none }))
      (fun _ _ => rfl) (List.range 12) (d.setTurn (fun t => { t with arrived := t.arrived.drop r.cmds })).remoteConsumed

theorem lastN_results (r : TurnRun) : (d.results r).jrn.lastN = d.jrn.lastN := by
  unfold Dev.results
  extract_lets ws n host d1
  refine (foldl_proj (fun d => d.jrn.lastN) (fun e _ => ?_) _ d1).trans rfl
  simp

theorem lastN_deferred : d.deferred.jrn.lastN = d.jrn.lastN := by
  unfold Dev.deferred
  split
  · simp
  · rfl

theorem lastN_commitNoted (r : TurnRun) (es : List LEntry) (cdone : Nat) : (d.commitNoted r es cdone).jrn.lastN = es.length := by
  have haccept : (d.commitAccept r es).jrn.lastN = es.length := by
    rw [Dev.commitAccept, lastN_acceptAll]
    refine (foldl_proj (fun d => d.jrn.lastN) (f := Dev.promoServed) (fun _ q => lastN_promoServed q) r.take.promos _).trans rfl
  have hshown : (d.commitShown r es cdone).jrn.lastN = (d.commitTurned r es).jrn.lastN :=
    (show _ = (((d.commitTurned r es).consumed r).results r).deferred.jrn.lastN from rfl).trans
      (lastN_deferred.trans ((lastN_results r).trans (lastN_consumed r)))
  exact hshown.trans haccept

end

section
variable {d : Dev}

/-- The fields that a commit's close reads: the link's state, the role, the standby in service. -/
def linkFields : List (Nat × Field) :=
  [(R.PAR_LNKSTAT, F.PAR_LNKSTAT_LSTATE), (R.PAR_ROLE, F.PAR_ROLE_ROLE), (R.PAR_ROLE, F.PAR_ROLE_PEERUP)]

theorem linkFields_pair : FieldsPair linkFields := by
  simp only [linkFields, FieldsPair, List.forall_mem_cons, List.not_mem_nil, false_implies, implies_true, and_true]
  decide

theorem linkFields_off {a : Nat} (h : a ≠ R.PAR_LNKSTAT ∧ a ≠ R.PAR_ROLE) : FieldsOff linkFields a := by
  simp only [linkFields, FieldsOff, List.forall_mem_cons, List.not_mem_nil, false_implies, implies_true, and_true]
  exact ⟨h.1.symm, h.2.symm, h.2.symm⟩

theorem role_of_link {z : Dev} (k : KeepsFields linkFields z d) : d.role = z.role := k.field_eq (by simp [linkFields])

theorem peerUp_of_link {z : Dev} (k : KeepsFields linkFields z d) : d.peerUp = z.peerUp :=
  congrArg (· == 1) (k.field_eq (f := F.PAR_ROLE_PEERUP) (by simp [linkFields]))

theorem lstate_of_link {z : Dev} (k : KeepsFields linkFields z d) : d.lstate = z.lstate := k.field_eq (by simp [linkFields])

/-- A health report leaves the turn, the journal and the pair. -/
theorem sendHealth_parts (d : Dev) : d.sendHealth.turn = d.turn ∧ d.sendHealth.jrn = d.jrn ∧ d.sendHealth.pair = d.pair :=
  ⟨(send63_turn d _).1, (send63_frame d _).1, sendHealth_pair d⟩

/-- A dangerous fault of a device that does not run the plant is recorded and reported, and no more (R389). -/
theorem declare_idle (hsolo : d.role ≠ 1) (hactive : d.role ≠ 2) (code detail : Nat) :
    (d.declare code detail).turn = d.turn ∧ (d.declare code detail).jrn = d.jrn ∧ (d.declare code detail).pair = d.pair := by
  unfold Dev.declare
  split
  · obtain ⟨hturn, hjrn, hpair⟩ := sendHealth_parts (d.incF R.WTC_COUNT F.WTC_COUNT_LATER)
    exact ⟨hturn, hjrn, hpair⟩
  · extract_lets now d1 d2 d3
    have hkeep : KeepsFields linkFields d d3 := sendHealth_keeps linkFields_pair (raise_keeps linkFields_pair.panel 208
      (wr_keeps (linkFields_off (by decide)) _ (wr_keeps (linkFields_off (by decide)) _ (KeepsFields.of_regs (.refl _ d) rfl))))
    obtain ⟨hturn, hjrn, hpair⟩ := sendHealth_parts ((d2.wrF R.WTC_STAT F.WTC_STAT_DANGER 1).raise 208)
    have hrole := role_of_link hkeep
    have hparts : d3.turn = d.turn ∧ d3.jrn = d.jrn ∧ d3.pair = d.pair :=
      ⟨hturn.trans (by simp [d2, d1]), hjrn.trans (by simp [d2, d1]), hpair.trans (by simp [d2, d1])⟩
    clear_value d3
    rw [if_neg (by rw [hrole]; exact fun h => h.elim hsolo fun h => hactive h.1)]
    exact hparts

theorem swapAbandon_parts (d : Dev) : d.swapAbandon.turn = d.turn ∧ d.swapAbandon.jrn = d.jrn ∧ d.swapAbandon.pair = d.pair ∧
    KeepsFields linkFields d d.swapAbandon := by
  unfold Dev.swapAbandon
  split
  · exact ⟨rfl, rfl, rfl, KeepsFields.of_regs (wr_keeps (linkFields_off (a := R.VLT_STGSTAT) (by decide)) _ (.refl _ d)) rfl⟩
  · exact ⟨rfl, rfl, rfl, .refl _ d⟩

theorem swapJudged_parts (d : Dev) : d.swapJudged.turn = d.turn ∧ d.swapJudged.jrn = d.jrn ∧ d.swapJudged.pair = d.pair ∧
    KeepsFields linkFields d d.swapJudged := by
  unfold Dev.swapJudged
  split
  · exact swapAbandon_parts d
  · exact ⟨rfl, rfl, rfl, .refl _ d⟩

end

/-! What a completed commit leaves -/

section
variable (d : Dev) (r : TurnRun) (es : List LEntry) (cdone : Nat)

/-- A completed commit leaves the turn completed, and noted. -/
theorem commitNoted_spec {e : Dev} (he : e = (d.commitNoted r es cdone).swapJudged) :
    e.turn.run = some { r with phase := .completed } ∧ e.turn.overruns = 0 ∧ e.turn.number = d.turn.number ∧
    e.turn.since = d.turn.since ∧ e.pair.doneTurn = some d.turn.number ∧ e.jrn.lastN = es.length ∧ KeepsFields linkFields d e := by
  obtain ⟨a, ha⟩ : ∃ a, a = d.commitAccept r es := ⟨_, rfl⟩
  obtain ⟨b, hb⟩ : ∃ b, b = d.commitTurned r es := ⟨_, rfl⟩
  obtain ⟨c, hc⟩ : ∃ c, c = d.commitShown r es cdone := ⟨_, rfl⟩
  have haapart : Apart linkFields (d.prospect r) a := ha ▸ commitAccept_apart d r es linkFields_pair
  have hbturn : b.turn.run = some { r with phase := .completed } ∧ b.turn.overruns = 0 ∧ b.turn.number = a.turn.number ∧
      b.turn.since = a.turn.since := by
    rw [hb, ha]
    exact ⟨rfl, rfl, rfl, rfl⟩
  have hcapart : Apart linkFields b c := hb ▸ hc ▸ commitShown_apart d r es cdone linkFields_pair
  have hcturn := hcapart.turn_eq
  have hanumber : a.turn.number = d.turn.number := (congrArg Turn.number haapart.turn_eq).trans rfl
  have hasince : a.turn.since = d.turn.since := (congrArg Turn.since haapart.turn_eq).trans rfl
  have hcnumber : c.turn.number = d.turn.number := (congrArg Turn.number hcturn).trans (hbturn.2.2.1.trans hanumber)
  have hkeep : KeepsFields linkFields d c := by
    refine KeepsFields.trans (e := d.prospect r) (fun _ _ => rfl) (haapart.fields.trans (KeepsFields.trans ?_ hcapart.fields))
    rw [ha, hb]
    exact fun _ _ => rfl
  obtain ⟨g, hg⟩ : ∃ g, g = d.commitNoted r es cdone := ⟨_, rfl⟩
  have hgturn : g.turn = c.turn := by rw [hg, hc]; rfl
  have hgdone : g.pair.doneTurn = some d.turn.number := by
    rw [← hcnumber, hg, hc]
    rfl
  have hglast : g.jrn.lastN = es.length := hg ▸ lastN_commitNoted r es cdone
  have hgregs : g.regs = c.regs := by rw [hg, hc]; rfl
  have hgkeep : KeepsFields linkFields d g := hkeep.of_regs hgregs
  obtain ⟨hturn, hjrn, hpair, hfields⟩ := swapJudged_parts g
  rw [he, ← hg, hturn, hjrn, hpair, hgturn]
  exact ⟨(congrArg Turn.run hcturn).trans hbturn.1, (congrArg Turn.overruns hcturn).trans hbturn.2.1, hcnumber,
    (congrArg Turn.since hcturn).trans (hbturn.2.2.2.trans hasince), hgdone, hglast, hgkeep.trans hfields⟩

/-- A standby's commit that completes. -/
theorem completeWith_standby (hrun : d.turn.run = some r) (hrole : d.role = 3) {e : Dev} (he : e = d.completeWith es cdone) :
    e.turn.run.map TurnRun.phase = some .completed ∧ e.pair.doneTurn = some d.turn.number ∧ e.turn.overruns = 0 ∧
    e.jrn.lastN = es.length := by
  obtain ⟨g, hg⟩ : ∃ g, g = (d.commitNoted r es cdone).swapJudged := ⟨_, rfl⟩
  obtain ⟨hgrun, hover, -, -, hdone, hlast, hfields⟩ := commitNoted_spec d r es cdone hg
  have hgrole : g.role = 3 := (role_of_link hfields).trans hrole
  obtain ⟨hturn, hjrn, hpair⟩ := declare_idle (d := g) (by omega) (by omega) 0x22 0
  have hparts : e.turn = g.turn ∧ e.jrn = g.jrn ∧ e.pair = g.pair := by
    rw [he, completeWith_eq d r es cdone hrun, ← hg]
    split
    · exact ⟨hturn, hjrn, hpair⟩
    · exact ⟨rfl, rfl, rfl⟩
  obtain ⟨heturn, hejrn, hepair⟩ := hparts
  rw [heturn, hejrn, hepair, hgrun]
  exact ⟨rfl, hdone, hover, hlast⟩

end

/-! The start of a castling (R368) -/

section
variable {d : Dev} {r : TurnRun}

/-- The first castling turn: its results are discarded, and the miscompare is counted and shown. -/
theorem castleBegin_spec (hrun : d.turn.run = some r) (hreq : d.vault.swapReq = false) (hswap : d.vault.swapTurn = none) (cause : Nat)
    {e : Dev} (he : e = d.castleBegin cause) :
    e.turn = { d.turn with run := some { r with phase := .castling } } ∧ e.jrn = d.jrn ∧ e.pair.castle = 1 ∧
    e.pair.turnN = d.turn.number ∧ e.pair.cause = cause ∧ e.rdF R.PAR_STAT F.PAR_STAT_MISCOMP = 1 ∧
    e.rdF R.PAR_CNT F.PAR_CNT_MISCOMPS = min 255 (d.rdF R.PAR_CNT F.PAR_CNT_MISCOMPS + 1) := by
  obtain ⟨a, ha⟩ : ∃ a, a = (d.incF R.PAR_CNT F.PAR_CNT_MISCOMPS).flagEv R.PAR_STAT 0 193 := ⟨_, rfl⟩
  have haparts : a.turn = d.turn ∧ a.jrn = d.jrn ∧ a.vault = d.vault := by
    rw [ha]
    simp
  obtain ⟨haturn, hajrn, havault⟩ := haparts
  obtain ⟨b, hb⟩ : ∃ b, b = (a.setPair (fun p => { p with
    castle := 1, turnN := d.turn.number, cause := cause, found := 0, ownRes := none, peerRes := none })).setRun
      (fun r => { r with phase := .castling }) := ⟨_, rfl⟩
  have hbvault : b.vault = a.vault := by rw [hb]; rfl
  have hbturn : b.turn = { a.turn with run := a.turn.run.map (fun r => { r with phase := .castling }) } := by rw [hb]; rfl
  have hbpair : b.pair.castle = 1 ∧ b.pair.turnN = d.turn.number ∧ b.pair.cause = cause := by
    rw [hb]
    exact ⟨rfl, rfl, rfl⟩
  have hbregs : b.regs = a.regs := by rw [hb]; rfl
  have hbjrn : b.jrn = a.jrn := by rw [hb]; rfl
  have heb : e = b := by
    have hnone : b.swapAbandon = b := if_neg (by rw [hbvault, havault, hreq, hswap]; simp)
    rw [he, ← hnone, hb, ha]
    rfl
  rw [heb, hbturn, haturn, hrun, hbjrn, hajrn]
  refine ⟨rfl, rfl, hbpair.1, hbpair.2.1, hbpair.2.2, ?_, ?_⟩
  · rw [rdF_congr (rd_of_regs hbregs _), ha, Dev.flagEv, rdF_raise_low _ 193 (by decide)]
    exact rdF_flag_same (d.incF R.PAR_CNT F.PAR_CNT_MISCOMPS) R.PAR_STAT (by decide)
  · rw [rdF_congr (rd_of_regs hbregs _), ha, Dev.flagEv, rdF_raise_low _ 193 (by decide),
      rdF_flag_other _ R.PAR_STAT 0 R.PAR_CNT F.PAR_CNT_MISCOMPS (by decide), rdF_incF d _ _ (by decide)]
    rfl

end

/-! COMMITEND at a standby, and the answer at the active (R360, R362, R365) -/

section
variable {d : Dev} {r : TurnRun}

/-- The comparison of a checkpoint leaves the fields of the link and the role. -/
theorem checkpointSeen_keeps (es : List LEntry) : KeepsFields linkFields d (d.checkpointSeen es) := by
  unfold Dev.checkpointSeen
  split
  · extract_lets seg last
    split
    · exact .refl _ d
    · exact KeepsFields.of_regs (raise_keeps linkFields_pair.panel 158 (wr_keeps (linkFields_off (by decide)) _ (.refl _ d))) rfl
  · exact .refl _ d

theorem commitEnd_waiting (hrole : d.role = 3) (hdanger : d.danger = false) (hrun : d.turn.run = some r)
    (hphase : r.phase = .waiting) {turn : Nat} (hturn : turn = d.turn.number) (entries : List (List Byte)) (digest : List Byte) :
    let own := (d.prospect r).digest { r with formed := received entries }
    let cause := d.miscompare (received entries) r digest own
    d.commitEnd turn entries digest =
      if cause = 0 then ((d.checkpointSeen (received entries)).send63 (d.ackMessage 0 (received entries) own)).completeWith
        (received entries) d.sinceStart
      else (d.send63 (d.ackMessage cause (received entries) own)).castleBegin cause := by
  intro own cause
  have htime : ((d.checkpointSeen (received entries)).send63 (d.ackMessage 0 (received entries) own)).sinceStart = d.sinceStart := by
    have hkept := Kept.refl d
    rw [Dev.sinceStart, Dev.sinceStart, (send63_turn _ _).1, checkpointSeen_turn]
    have hclk : ((d.checkpointSeen (received entries)).send63 (d.ackMessage 0 (received entries) own)).clk = d.clk := by
      unfold Dev.send63
      split
      · simp only [push_frame]
        exact (checkpointSeen_kept _ hkept).clk
      · exact (checkpointSeen_kept _ hkept).clk
    rw [hclk]
  have hguard : ¬ (d.role ≠ 3 ∨ d.danger = true ∨ turn ≠ d.turn.number) := by simp [hrole, hdanger, hturn]
  unfold Dev.commitEnd
  rw [if_neg (by omega), if_neg hguard, hrun]
  simp only [hphase]
  rw [← htime]
  rfl

/-- What the entries of the active do at its standby: they complete the turn, or make it a castling turn. -/
theorem commitEnd_spec (hrole : d.role = 3) (hdanger : d.danger = false) (hrun : d.turn.run = some r)
    (hphase : r.phase = .waiting) {turn : Nat} (hturn : turn = d.turn.number) (hreq : d.vault.swapReq = false)
    (hswap : d.vault.swapTurn = none) (entries : List (List Byte)) (digest : List Byte) {e : Dev}
    (he : e = d.commitEnd turn entries digest) :
    let cause := d.miscompare (received entries) r digest ((d.prospect r).digest { r with formed := received entries })
    if cause = 0 then
      e.turn.run.map TurnRun.phase = some .completed ∧ e.pair.doneTurn = some d.turn.number ∧ e.turn.overruns = 0 ∧
      e.jrn.lastN = entries.length
    else e.turn = { d.turn with run := some { r with phase := .castling } } ∧ e.jrn = d.jrn ∧ e.pair.castle = 1 ∧
      e.pair.turnN = d.turn.number ∧ e.pair.cause = cause ∧ e.rdF R.PAR_STAT F.PAR_STAT_MISCOMP = 1 := by
  intro cause
  have heq := commitEnd_waiting hrole hdanger hrun hphase hturn entries digest
  simp only [] at heq
  rw [heq] at he
  by_cases h : cause = 0
  · rw [if_pos h]
    rw [if_pos h] at he
    obtain ⟨g, hg⟩ : ∃ g, g = (d.checkpointSeen (received entries)).send63
      (d.ackMessage 0 (received entries) ((d.prospect r).digest { r with formed := received entries })) := ⟨_, rfl⟩
    have hgturn : g.turn = d.turn := by rw [hg, (send63_turn _ _).1, checkpointSeen_turn]
    have hgrole : g.role = 3 := by
      rw [hg]
      exact (role_of_link (send63_keeps linkFields_pair.panel _ (checkpointSeen_keeps _))).trans hrole
    rw [← hg] at he
    obtain ⟨hdone, hnoted, hover, hlast⟩ := completeWith_standby g r (received entries) d.sinceStart (by rw [hgturn]; exact hrun) hgrole he
    rw [hgturn] at hnoted
    exact ⟨hdone, hnoted, hover, hlast.trans (List.length_map ..)⟩
  · rw [if_neg h]
    rw [if_neg h] at he
    obtain ⟨g, hg⟩ : ∃ g, g = d.send63 (d.ackMessage cause (received entries) ((d.prospect r).digest { r with formed := received entries })) :=
      ⟨_, rfl⟩
    have hgturn : g.turn = d.turn := by rw [hg, (send63_turn _ _).1]
    have hgjrn : g.jrn = d.jrn := by rw [hg, (send63_frame _ _).1]
    have hgvault : g.vault = d.vault := by
      rw [hg]
      unfold Dev.send63
      split
      · simp only [push_frame]
      · rfl
    change e = (d.send63 (d.ackMessage cause (received entries) ((d.prospect r).digest { r with formed := received entries }))).castleBegin cause at he
    rw [← hg] at he
    obtain ⟨hturn', hjrn, hcastle, hn, hcause, hmis, -⟩ := castleBegin_spec (by rw [hgturn]; exact hrun) (by rw [hgvault]; exact hreq)
      (by rw [hgvault]; exact hswap) cause he
    rw [hgturn] at hturn' hn
    exact ⟨hturn', hjrn.trans hgjrn, hcastle, hn, hcause, hmis⟩

/-! The active's acknowledgement -/

section
variable {bytes : List Byte} (hrole : d.role = 2) (hrun : d.turn.run = some r) (hphase : r.phase = .waiting)
  (hnames : uAt bytes 2 6 = d.turn.number % 2 ^ 48)
include hrole hrun hphase hnames

theorem ackMsg_waiting (hack : byteAt bytes 0 = 1) : d.ackMsg bytes =
    if d.sinceStart > d.commitLimit then d.overrunTurn (d.commitLacks r)
    else if slice bytes 24 8 ≠ r.digest then d.linkLost.linksolo
    else if d.commitLimit < r.commitUs then d.setRun (fun r => { r with acked := true })
    else d.ownCommit d.sinceStart := by
  have hguard : ¬ (d.role ≠ 2 ∨ r.phase ≠ .waiting ∨ byteAt bytes 0 ≠ 1 ∨ (!d.namesTurn bytes) = true) := by
    simp [hrole, hphase, hack, Dev.namesTurn, hnames]
  unfold Dev.ackMsg
  rw [hrun]
  simp only [hguard, if_false, bne_iff_ne]

/-- An acknowledgement with the turn's digest completes its commit, or is noted. -/
theorem ackMsg_same (hack : byteAt bytes 0 = 1) (htime : d.sinceStart ≤ d.commitLimit) (hdig : slice bytes 24 8 = r.digest) :
    d.ackMsg bytes = if r.commitUs ≤ d.commitLimit then d.completeWith r.formed (max d.sinceStart r.commitUs)
      else { d with turn := { d.turn with run := some { r with acked := true } } } := by
  rw [ackMsg_waiting hrole hrun hphase hnames hack, if_neg (by omega), if_neg (by simpa using hdig)]
  by_cases h : r.commitUs ≤ d.commitLimit
  · rw [if_neg (by omega), if_pos h]
    simp [Dev.ownCommit, hrun, h, Dev.complete]
  · rw [if_pos (by omega), if_neg h]
    simp [Dev.setRun, Dev.setTurn, hrun]

/-- A digest that differs is a link integrity fault: the link is lost, and the turn completes alone. -/
theorem ackMsg_differs (hack : byteAt bytes 0 = 1) (htime : d.sinceStart ≤ d.commitLimit) (hdig : slice bytes 24 8 ≠ r.digest)
    (hown : r.commitUs ≤ d.commitLimit) (hroom : r.take.classAWaits = false) {e : Dev} (he : e = d.ackMsg bytes) :
    e.turn.run = some { r with phase := .completed } ∧ (d.lstate = 5 → e.lstate = 1 ∧ e.peerUp = false) ∧
    e.rdF R.SYS_TURNSTAT F.SYS_TURNSTAT_LINKSOLO = 1 := by
  obtain ⟨g, hg⟩ : ∃ g, g = d.linkLost := ⟨_, rfl⟩
  have hgturn : g.turn = d.turn := by rw [hg, linkLost_turn]
  have hgrun : g.turn.run = some r := by rw [hgturn]; exact hrun
  have hgimage : g.image = d.image := by
    rw [hg]
    exact (linkLost_leaves turnstat_linkApart (Leaves.refl _ d)).image
  have hglimit : g.commitLimit = d.commitLimit := by rw [Dev.commitLimit, Dev.commitLimit, hgimage]
  have hglost : d.lstate = 5 → g.lstate = 1 ∧ g.peerUp = false := fun hlink => by
    rw [hg]
    obtain ⟨hstate, -, -, -, -, hpeer, -⟩ := linkLost_active hlink hrole
    exact ⟨hstate, hpeer⟩
  obtain ⟨c, hc⟩ : ∃ c, c = (g.commitNoted r r.formed (max g.sinceStart r.commitUs)).swapJudged := ⟨_, rfl⟩
  have heq : e = c.flag R.SYS_TURNSTAT 5 := by
    rw [he, ackMsg_waiting hrole hrun hphase hnames hack, if_neg (by omega), if_pos hdig, ← hg]
    have hlate : (g.turn.run.any fun r => decide (g.commitLimit < r.commitUs)) = false := by
      rw [hgrun, hglimit]
      simpa using hown
    have hcommit : g.ownCommit g.sinceStart = c := by
      rw [Dev.ownCommit, hgrun]
      simp only [hglimit, if_pos hown]
      rw [Dev.complete, hgrun]
      simp only []
      rw [completeWith_eq g r r.formed _ hgrun, hroom, ← hc]
      rfl
    unfold Dev.linksolo
    simp only [hlate, hcommit]
    rfl
  obtain ⟨hcrun, -, -, -, -, -, hkeep⟩ := commitNoted_spec g r r.formed _ hc
  have hregs {x : Nat} (hx : x ≠ R.SYS_TURNSTAT) (f : Field) : e.rdF x f = c.rdF x f := by
    rw [heq]
    exact rdF_flag_other c R.SYS_TURNSTAT 5 x f hx
  refine ⟨?_, fun hlink => ⟨?_, ?_⟩, ?_⟩
  · rw [heq]
    exact hcrun
  · exact (hregs (by decide) _).trans ((lstate_of_link hkeep).trans (hglost hlink).1)
  · exact (congrArg (· == 1) (hregs (x := R.PAR_ROLE) (by decide) F.PAR_ROLE_PEERUP)).trans ((peerUp_of_link hkeep).trans (hglost hlink).2)
  · rw [heq]
    exact rdF_flag_same c R.SYS_TURNSTAT (by decide)

/-- An acknowledgement after the deadline comes too late. -/
theorem ackMsg_late (hack : byteAt bytes 0 = 1) (htime : d.commitLimit < d.sinceStart) (hown : r.commitUs ≤ d.commitLimit)
    (hacked : r.acked = false) {e : Dev} (he : e = d.ackMsg bytes) :
    e.turn.run = some { r with phase := .overrun } ∧ e.rdF R.SYS_TURNSTAT F.SYS_TURNSTAT_ACKLATE = 1 ∧ e.turn.cur = d.turn.cur := by
  have hlacks : d.commitLacks r = 4 := by simp [Dev.commitLacks, hacked, Nat.not_lt.2 hown]
  rw [ackMsg_waiting hrole hrun hphase hnames hack, if_pos htime, hlacks, overrunTurn_eq] at he
  obtain ⟨hturn, -, hflag⟩ := overrunRun_late (d.overrunShown 4) (rdF_overrunShown_flag d 4 (b := 2) (by decide) (by decide))
  rw [he]
  exact ⟨by simp [hturn, hrun], hflag, by simp [hturn]⟩

theorem nakMsg_waiting (hnak : byteAt bytes 0 = 2) : d.nakMsg bytes = d.castleBegin (byteAt bytes 1) := by
  have hguard : ¬ (d.role ≠ 2 ∨ (!decide (r.phase = .waiting ∨ r.phase = .overrun)) = true ∨ byteAt bytes 0 ≠ 2 ∨ (!d.namesTurn bytes) = true) := by
    simp [hrole, hphase, hnak, Dev.namesTurn, hnames]
  unfold Dev.nakMsg
  rw [hrun]
  simp only [hguard, if_false]

end

end

/-! A standby's input image (R246, R360) -/

section
variable {l : List (Nat × Field)} {z d : Dev}

theorem domAlarm_link (skipped : Bool) {a : Nat} (ha : a < 2) (k : KeepsFields linkFields z d) :
    KeepsFields linkFields z (d.domAlarm skipped a) := by
  have hevent (ev : Nat) {e : Dev} (ke : KeepsFields linkFields z e) : KeepsFields linkFields z (e.domEvent ev) :=
    KeepsFields.ite (KeepsFields.ite (raise_keeps linkFields_pair.panel ev (wr_keeps (linkFields_off (by decide)) _ ke))
      (raise_keeps linkFields_pair.panel ev ke)) (ke.of_regs rfl)
  have hcfg : FieldsOff linkFields (R.DOM_ALMCFG a) :=
    linkFields_off (by simp only [R.DOM_ALMCFG, R.PAR_LNKSTAT, R.PAR_ROLE]; omega)
  unfold Dev.domAlarm
  extract_lets cfg cmp t d1 d2
  have h2 : KeepsFields linkFields z d2 := hevent _ (wr_keeps hcfg _ k)
  exact KeepsFields.ite (KeepsFields.ite (hevent 234 h2) h2) k

theorem domSetRem_link (x : Int) (k : KeepsFields linkFields z d) : KeepsFields linkFields z (d.domSetRem x) :=
  KeepsFields.of_regs (wr_keeps (linkFields_off (a := R.DOM_SLEW) (by decide)) _ k) rfl

/-- The active's time leaves the role. -/
theorem domTrack_link (tick : Nat) (zone : Int) (trusted : Bool) (k : KeepsFields linkFields z d) :
    KeepsFields linkFields z (d.domTrack tick zone trusted) := by
  unfold Dev.domTrack
  extract_lets stepped d1 d2 d3 diff d4 d5
  have h1 : KeepsFields linkFields z d1 := wr_keeps (linkFields_off (a := R.DOM_ZONE) (by decide)) _ k
  have h2 : KeepsFields linkFields z d2 := domSetRem_link 0 (h1.of_regs rfl)
  have h3 : KeepsFields linkFields z d3 := by
    unfold d3
    split
    · exact KeepsFields.ite (wr_keeps (linkFields_off (by decide)) _ h2) h2
    · exact h1
  have h4 : KeepsFields linkFields z d4 := h3.of_regs rfl
  have h5 : KeepsFields linkFields z d5 := KeepsFields.ite (domSetRem_link _ h4) (KeepsFields.ite (h4.of_regs rfl) h4)
  exact domAlarm_link _ (by decide) (domAlarm_link _ (by decide) h5)

/-- The judgement of a setpoint write leaves the pair's registers and the device's parts. -/
theorem osetJudge_apart (hl : FieldsPair l) {n : Nat} (hn : n < 4) (k : Apart l z d) : Apart l z (d.osetJudge n).1 := by
  have hoset : R.LOP_OSET n < 0x120000 := by simp only [R.LOP_OSET]; omega
  have hosts : R.LOP_OSTS n < 0x120000 := by simp only [R.LOP_OSTS]; omega
  have hlatch (sel : Nat) : Apart l z (d.loLatch n sel).1 := by
    unfold Dev.loLatch
    split
    · exact k
    · extract_lets sess e
      have hdrop : Apart l z e := (wrF_apart_out hl (.inl hoset) ⟨31, 1⟩ 0 k).of_parts rfl rfl
      split
      · exact wrF_apart_out hl (.inl hoset) _ _ hdrop
      · exact flagEv_apart hl (.inl hosts) 22 106 hdrop
  unfold Dev.osetJudge
  split
  · exact k
  · exact hlatch _

/-- The host's levels and words of an input image leave the pair's registers and the device's parts. -/
theorem imageWrites_apart (hl : FieldsPair l) (inp : InImage) (k : Apart l z d) : Apart l z (d.imageWrites inp) := by
  have hset : Apart l z ((d.wrF R.DIO_HOSTSET F.DIO_HOSTSET_SET inp.hostset.toNat).wrF R.DIO_HOSTSET31 F.DIO_HOSTSET31_SET
      inp.hostset31.toNat) := wrF_apart_out hl (.inl (by decide)) _ _ (wrF_apart_out hl (.inl (by decide)) _ _ k)
  refine hset.range fun d n hn kd => ?_
  split
  · exact osetJudge_apart hl hn (kd.of_parts rfl rfl)
  · exact kd

/-- A held turn of a device that does not run the plant is counted, and no more. -/
theorem heldTurn_turn_idle (hsolo : d.role ≠ 1) (hactive : d.role ≠ 2) : d.heldTurn.turn = d.turn := by
  unfold Dev.heldTurn
  extract_lets n e
  have he : e.role = d.role := rfl
  have heturn : e.turn = d.turn := rfl
  clear_value e
  split
  · exact (declare_idle (by rw [he]; exact hsolo) (by rw [he]; exact hactive) 0x21 0).1.trans heturn
  · exact heturn

/-- A standby with no turn in hand evaluates the input image, and waits. -/
theorem inputDelta_spec (inp : InImage) (rel : List Release) (hrole : d.role = 3) (hruns : d.turnsRun = true)
    (hcastle : d.pair.castle = 0) (hnumber : inp.turn = d.turn.number) (hrun : d.turn.run = none) (hprev : d.turn.prev = none)
    {e : Dev} (he : e = d.inputDelta inp rel) :
    e.turn.run.map (fun r => (r.phase, r.inp)) = some (.waiting, inp) ∧ e.turn.number = d.turn.number ∧ e.turn.cur = d.turn.cur := by
  have hguard : ¬ ((!d.standby) = true ∨ d.pair.castle ≠ 0 ∨ inp.turn ≠ d.turn.number ∨ d.turn.run.isSome = true ∨ (!d.turnsRun) = true) := by
    simp [Dev.standby, hrole, hcastle, hnumber, hrun, hruns]
  have hlate : d.lateCheck inp = d := by simp only [Dev.lateCheck, hprev]
  obtain ⟨a, ha⟩ : ∃ a, a = d.domTrack inp.tick inp.zone inp.trusted := ⟨_, rfl⟩
  have haturn : a.turn = d.turn := by rw [ha, domTrack_turn]
  have harole : a.role = 3 := by
    rw [ha]
    exact (role_of_link (domTrack_link _ _ _ (.refl _ d))).trans hrole
  obtain ⟨b, hb⟩ : ∃ b, b = (((a.setTurn (fun t => { t with arrived := inp.cmds })).setJrn (fun j => { j with
    ing := ingPut j.ing inp.outside })).evalTurn inp 0 0) := ⟨_, rfl⟩
  obtain ⟨r, hbturn, hinp⟩ : ∃ r, b.turn = { a.turn with arrived := inp.cmds, run := some r } ∧ r.inp = inp := by
    rw [hb]
    exact ⟨_, rfl, rfl⟩
  have hbrole : b.role = 3 := by
    rw [← harole, hb]
    rfl
  obtain ⟨c, hc⟩ : ∃ c, c = b.imageWrites inp := ⟨_, rfl⟩
  have hcapart : Apart linkFields b c := by
    rw [hc]
    exact imageWrites_apart linkFields_pair inp (.refl _ b)
  have hcturn := hcapart.turn_eq
  have hcrun : c.turn.run = some r := (congrArg Turn.run hcturn).trans (congrArg Turn.run hbturn)
  have hcnumber : c.turn.number = b.turn.number := (congrArg Turn.number hcturn :)
  have hccur : c.turn.cur = b.turn.cur := (congrArg Turn.cur hcturn :)
  have hcrole : c.role = 3 := (role_of_link hcapart.fields).trans hbrole
  obtain ⟨g, hg⟩ : ∃ g, g = if r.held then c.heldTurn else c := ⟨_, rfl⟩
  have hgturn : g.turn = c.turn := by
    rw [hg]
    split
    · exact heldTurn_turn_idle (by omega) (by omega)
    · rfl
  have heq : e = ((g.setRun (fun r => { r with phase := .waiting })).crossCheck rel).healthTurn := by
    rw [he, Dev.inputDelta, if_neg (by omega), if_neg hguard]
    simp only [hlate, ← ha, ← hb, ← hc, hcrun, ← hg]
  have heturn : e.turn = { c.turn with run := c.turn.run.map (fun r => { r with phase := .waiting }) } := by
    rw [heq, healthTurn_turn, crossCheck_turn, ← hgturn]
    rfl
  rw [heturn, hcrun]
  refine ⟨by rw [← hinp]; rfl, ?_, ?_⟩
  · exact hcnumber.trans (by rw [hbturn, ← haturn])
  · exact hccur.trans (by rw [hbturn, ← haturn])

/-- The mirror of the completed turn becomes the standby's state. -/
theorem mirrorBlock_spec (hrole : d.role = 3) {turn : Nat} (hdone : d.pair.doneTurn = some turn) (hcastle : d.pair.castle = 0)
    (m : Mirror) {e : Dev} (he : e = d.mirrorBlock turn m) :
    e.turn.cur = m.state ∧ e.turn.view = m.view ∧ e.pair.mirTurn = some turn ∧ e.pair.mirMiss = 0 ∧
    e.pair.found = (if d.turn.cur = m.state then d.pair.found else 4) := by
  obtain ⟨a, ha⟩ : ∃ a, a = if d.turn.cur ≠ m.state ∧ d.pair.castle = 0 then d.setPair (fun p => { p with found := 4 }) else d :=
    ⟨_, rfl⟩
  have hafound : a.pair.found = if d.turn.cur = m.state then d.pair.found else 4 := by
    rw [ha]
    by_cases h : d.turn.cur = m.state
    · rw [if_neg (fun hn => hn.1 h), if_pos h]
    · rw [if_pos ⟨h, hcastle⟩, if_neg h]
      rfl
  obtain ⟨g, hg⟩ : ∃ g, g = a.takeMirror m := ⟨_, rfl⟩
  have hgapart : Apart [] (a.mirrored m) g := by
    rw [hg]
    exact takeMirror_apart (fun _ h => absurd h List.not_mem_nil) m
  have hgfound : g.pair.found = a.pair.found := congrArg Pair.found hgapart.pair_eq
  have heq : e = g.setPair (fun p => { p with mirTurn := some turn, mirMiss := 0 }) := by
    have hguard : ¬ ((!d.standby) = true ∨ d.pair.doneTurn ≠ some turn) := by simp [Dev.standby, hrole, hdone]
    rw [he, Dev.mirrorBlock, if_neg (by omega), if_neg hguard]
    simp only [← ha, ← hg]
  rw [heq]
  exact ⟨congrArg Turn.cur hgapart.turn_eq, congrArg Turn.view hgapart.turn_eq, rfl, rfl, hgfound.trans hafound⟩

end

/-- Settles O42: the cases of the commit's answer at the active and at the standby, and what a standby takes over. -/
theorem commitOfAPair : Obligations.CommitOfAPair := by
  unfold Obligations.CommitOfAPair
  refine ⟨fun s r turn es digest hup hrole hdanger hrun hphase hturn hreq hswap => ?_,
    fun s r bytes hup hrole hrun hphase hnames => ⟨fun hack htime => ⟨fun hdig => ?_, fun hdig hown hroom => ?_⟩,
      fun hack htime hown hacked => ?_, fun hnak hreq hswap => ?_⟩,
    fun s inp rel hup hrole hruns hcastle hnumber hrun hprev => ?_, fun s turn m hup hrole hdone hcastle => ?_⟩
  · exact completes_of_result hup (f := fun d => d.commitEnd turn.toNat es digest) rfl fun e he =>
      commitEnd_spec hrole hdanger hrun hphase hturn hreq hswap es digest he
  · exact exec_of_up hup (f := fun d => d.ackMsg bytes) rfl (ackMsg_same hrole hrun hphase hnames hack htime hdig)
  · exact completes_of_result hup (f := fun d => d.ackMsg bytes) rfl fun e he =>
      ackMsg_differs hrole hrun hphase hnames hack htime hdig hown hroom he
  · exact completes_of_result hup (f := fun d => d.ackMsg bytes) rfl fun e he =>
      ackMsg_late hrole hrun hphase hnames hack htime hown hacked he
  · refine completes_of_result hup (f := fun d => d.nakMsg bytes) rfl fun e he => ?_
    obtain ⟨hturn, hjrn, hcastle, -, hcause, -, hcount⟩ := castleBegin_spec hrun hreq hswap (byteAt bytes 1)
      (he.trans (nakMsg_waiting hrole hrun hphase hnames hnak))
    exact ⟨hturn, hjrn, hcastle, hcause, hcount⟩
  · exact completes_of_result hup (f := fun d => d.inputDelta inp rel) rfl fun e he =>
      inputDelta_spec inp rel hrole hruns hcastle hnumber hrun hprev he
  · exact completes_of_result hup (f := fun d => d.mirrorBlock turn.toNat m) rfl fun e he => mirrorBlock_spec hrole hdone hcastle m he

end Sys2Proof.Machine
end

section
/-!
PROOFS. The sample latch of a solo device (R9, R16 to R18, R69).
-/
namespace Sys2Proof.Machine

/-! What the latch of the device's own sources leaves of the turn (R16, R35, R437) -/

@[simp] theorem sleepLatch_turn (d : Dev) :
    (d.sleepLatch).turn = d.turn := by
  simp [Dev.sleepLatch, apply_ite Dev.turn]

@[simp] theorem domApplySet_turn (d : Dev) :
    (d.domApplySet).turn = d.turn := by
  simp [Dev.domApplySet, apply_ite Dev.turn]

@[simp] theorem domRefused_turn (d : Dev) :
    (d.domRefused).turn = d.turn := by
  simp [Dev.domRefused]

@[simp] theorem domMoveZone_turn (d : Dev) (z : Int) (cause : Nat) :
    (d.domMoveZone z cause).turn = d.turn := by
  simp [Dev.domMoveZone, apply_ite Dev.turn]

@[simp] theorem domApplyZone_turn (d : Dev) :
    (d.domApplyZone).turn = d.turn := by
  unfold Dev.domApplyZone
  split <;> simp

@[simp] theorem domApplyHour_turn (d : Dev) :
    (d.domApplyHour).turn = d.turn := by
  unfold Dev.domApplyHour
  split <;> simp [apply_ite Dev.turn]

@[simp] theorem domApplyShift_turn (d : Dev) :
    (d.domApplyShift).turn = d.turn := by
  unfold Dev.domApplyShift
  split <;> simp [apply_ite Dev.turn]

@[simp] theorem domLatch_turn (d : Dev) :
    (d.domLatch).turn = d.turn := by
  simp [Dev.domLatch, apply_ite Dev.turn]

@[simp] theorem setRemote_turn (d : Dev) (x : RemotePt) :
    (d.setRemote x).turn = d.turn := by
  simp [Dev.setRemote]

@[simp] theorem remoteStale_turn (d : Dev) (p : Nat) :
    (d.remoteStale p).turn = d.turn := by
  simp [Dev.remoteStale, apply_ite Dev.turn]

@[simp] theorem remoteLatch_turn (d : Dev) :
    (d.remoteLatch).turn = d.turn := by
  simp [Dev.remoteLatch]

@[simp] theorem qLatch_turn (d : Dev) :
    (d.qLatch).turn = d.turn := by
  simp [Dev.qLatch, apply_ite Dev.turn]

@[simp] theorem pHost_turn (d : Dev) (r e0 levels : Nat) :
    (d.pHost r e0 levels).turn = d.turn := by
  simp [Dev.pHost, apply_ite Dev.turn]

@[simp] theorem pLose_turn (d : Dev) (e : Nat) :
    (d.pLose e).turn = d.turn := by
  simp [Dev.pLose]

@[simp] theorem pMaintOp_turn (d : Dev) (op level r : Nat) :
    (d.pMaintOp op level r).turn = d.turn := by
  simp [Dev.pMaintOp, apply_ite Dev.turn]

@[simp] theorem pConsume_turn (d : Dev) (q : Nat) (bytes : List Byte) :
    (d.pConsume q bytes).turn = d.turn := by
  simp [Dev.pConsume, apply_ite Dev.turn]

@[simp] theorem pnlRequest_turn (d : Dev) (k : Nat) :
    (d.pnlRequest k).turn = d.turn := by
  unfold Dev.pnlRequest
  split <;> simp

@[simp] theorem linkSend_turn (d : Dev) (q : Nat) (bytes : List Byte) : (d.linkSend q bytes).turn = d.turn := rfl

@[simp] theorem forwardStep_turn (d : Dev) : d.forwardStep.turn = d.turn := by
  unfold Dev.forwardStep
  split
  · rfl
  next slot off _ =>
    extract_lets mem n d1 next
    split
    · rfl
    · exact (show _ = d1.turn from rfl).trans (by simp [d1])

@[simp] theorem hartStart_turn (d : Dev) (n : Nat) : (d.hartStart n).turn = d.turn := by
  unfold Dev.hartStart
  split
  · rfl
  · split
    · rfl
    · rfl

@[simp] theorem jrnLevels_turn (d : Dev) : d.jrnLevels.turn = d.turn := rfl

@[simp] theorem expackLatch_turn (d : Dev) : d.expackLatch.turn = d.turn := by
  unfold Dev.expackLatch
  split
  · rfl
  · simp [apply_ite Dev.turn]

@[simp] theorem sendImage_turn (d : Dev) : d.sendImage.turn = d.turn := by
  unfold Dev.sendImage
  split
  · simp [apply_ite Dev.turn]
  · rfl

@[simp] theorem enterPool_turn (d : Dev) : d.enterPool.2.turn = d.turn := rfl

@[simp] theorem osetLatch_turn (d : Dev) (n : Nat) : (d.osetLatch n).turn = d.turn := by
  have hjudge : (d.osetJudge n).1.turn = d.turn := by
    unfold Dev.osetJudge
    split
    · rfl
    · exact (loLatch_turn d n _).1
  unfold Dev.osetLatch
  extract_lets x
  split
  · exact hjudge
  · exact hjudge

/-- The turn's data but for the commands that have arrived. -/
def Dev.turnData (d : Dev) : Turn := { d.turn with arrived := [] }

theorem turnData_of_turn {d e : Dev} (h : e.turn = d.turn) : e.turnData = d.turnData := by rw [Dev.turnData, h, ← Dev.turnData]

/-- A granted element that goes to its consumer changes of the turn what has arrived. -/
theorem consume_turnData (d : Dev) (q : Nat) : (d.consume q).turnData = d.turnData := by
  unfold Dev.consume
  split
  · rfl
  · split
    · exact turnData_of_turn (hartStart_turn d _)
    · split
      · rfl
      · split
        · exact turnData_of_turn (pnlRequest_turn d _)
        · split
          · split
            · exact turnData_of_turn (forwardStep_turn _)
            · rfl
          · rfl

theorem drainCommand_turnData (d : Dev) : d.drainCommand.turnData = d.turnData := by
  unfold Dev.drainCommand
  extract_lets qs
  split
  · exact consume_turnData d _
  · split
    · exact consume_turnData _ _
    · rfl

theorem drainCommands_turnData (d : Dev) : d.drainCommands.turnData = d.turnData :=
  foldl_proj Dev.turnData (fun d _ => drainCommand_turnData d) _ d

/-! The number of the turn and its start, in the commit (R21, R394) -/

/-- The number of the turn in hand, and its start. -/
def Dev.turnTime (d : Dev) : Nat × Nat := (d.turn.number, d.turn.since)

theorem turnTime_of_turn {d e : Dev} (h : e.turn = d.turn) : e.turnTime = d.turnTime := by rw [Dev.turnTime, h, ← Dev.turnTime]

@[simp] theorem fForce_turn (d : Dev) (f : Func) : (d.fForce f).turn = d.turn := by
  have hoff : ((d.wrF f.reg fPEND 0).wrF f.reg fEN 0).turn = d.turn := rfl
  unfold Dev.fForce Dev.fShut
  split
  · exact ((fEntered_leaves _ f 3).turn).trans hoff
  · exact hoff

@[simp] theorem fForceAll_turn (d : Dev) (p : Func → Bool) : (d.fForceAll p).turn = d.turn := foldl_turn fForce_turn _ d

@[simp] theorem doSafe_turn (d : Dev) : d.doSafe.turn = d.turn := foldl_turn (fun d m => by simp [apply_ite Dev.turn]) _ d

@[simp] theorem react_turn (d : Dev) : d.react.turn = d.turn := by simp [Dev.react, apply_ite Dev.turn]

theorem flush_turn (d : Dev) : d.flush.turn = d.turn :=
  (show d.flush.turn = d.drainAll.turn from rfl).trans (foldl_turn (fun d _ => by unfold Dev.drain; split <;> rfl) _ d)

theorem haltTurns_turnTime (d : Dev) : d.haltTurns.turnTime = d.turnTime := by
  unfold Dev.haltTurns
  extract_lets d1 turn
  have h1 : d1.turn = d.turn := by simp [d1]
  rw [turnTime_of_turn (flush_turn _)]
  exact (show _ = d1.turnTime from rfl).trans (turnTime_of_turn h1)

/-- The safe state keeps the turn's number and start. -/
theorem safeState_turnTime (d : Dev) (code : Nat) : (d.safeState code).turnTime = d.turnTime := by
  unfold Dev.safeState
  split
  · rfl
  · extract_lets d1 d2 d3 d4 d5 d6
    have h3 : d3.turn = d.turn := by
      refine (foldl_turn (fun d n => by simp [apply_ite Dev.turn]) _ d2).trans ?_
      exact (doSafe_turn d1).trans rfl
    have h5 : d5.turn = d.turn := by
      simp only [d5, d4, raise_frame, fForceAll_turn]
      exact h3
    clear_value d5
    have h6 : d6.turnTime = d.turnTime := by
      unfold d6
      split
      · exact turnTime_of_turn h5
      · exact (haltTurns_turnTime d5).trans (turnTime_of_turn h5)
    exact (turnTime_of_turn (react_turn d6)).trans h6

theorem declare_turnTime (d : Dev) (code detail : Nat) : (d.declare code detail).turnTime = d.turnTime := by
  unfold Dev.declare
  split
  · exact turnTime_of_turn (sendHealth_turn (d.incF R.WTC_COUNT F.WTC_COUNT_LATER))
  · extract_lets now d1 d2 d3
    have h3 : d3.turn = d.turn := by simp [d3, d2, d1]
    split
    · exact (safeState_turnTime d3 code).trans (turnTime_of_turn h3)
    · exact turnTime_of_turn h3

theorem heldTurn_turnTime (d : Dev) : d.heldTurn.turnTime = d.turnTime := by
  unfold Dev.heldTurn
  extract_lets n e
  have he : e.turnTime = d.turnTime := rfl
  split
  · exact (declare_turnTime e 0x21 0).trans he
  · exact he

theorem complete_turnTime (d : Dev) (cdone : Nat) : (d.complete cdone).turnTime = d.turnTime := by
  unfold Dev.complete
  split
  next r hrun =>
    obtain ⟨e, he⟩ : ∃ e, e = (d.commitNoted r r.formed cdone).swapJudged := ⟨_, rfl⟩
    obtain ⟨-, -, hnumber, hsince, -⟩ := commitNoted_spec d r r.formed cdone he
    have htime : e.turnTime = d.turnTime := Prod.ext hnumber hsince
    rw [completeWith_eq d r r.formed cdone hrun, ← he]
    split
    · exact (declare_turnTime e 0x22 0).trans htime
    · exact htime
  · rfl

theorem ownCommit_turnTime (d : Dev) (t : Nat) : (d.ownCommit t).turnTime = d.turnTime := by
  unfold Dev.ownCommit
  split
  · split
    · exact complete_turnTime d _
    · rfl
  · rfl

theorem sendCommit_turn (d : Dev) (r : TurnRun) : (d.sendCommit r).turn = d.turn := by simp [Dev.sendCommit]

/-- The end of evaluation and the start of the commit keep the turn's number and start. -/
theorem commitTurn_turnTime (d : Dev) : d.commitTurn.turnTime = d.turnTime := by
  unfold Dev.commitTurn
  split
  · rfl
  next r _ =>
    split
    · rfl
    · extract_lets e g dig run
      have he : e.turnTime = d.turnTime := by
        unfold e
        split
        · exact heldTurn_turnTime d
        · rfl
      have hg : g.turnTime = d.turnTime := (turnTime_of_turn (d := e) (by simp [g])).trans he
      clear_value g
      split
      · exact (ownCommit_turnTime g r.commitUs).trans hg
      · exact (turnTime_of_turn (sendCommit_turn run _)).trans hg

/-- An evaluation that takes longer than 64 µs begins no commit (R27). -/
theorem commitTurn_late {d : Dev} {r : TurnRun} (hrun : d.turn.run = some r) (hlate : 64 < r.evalUs) : d.commitTurn = d := by
  simp only [Dev.commitTurn, hrun]
  exact if_pos hlate

/-! The latch -/

section
variable (d : Dev) (evalUs commitUs : Nat)

/-- A holder's latch, up to the end of its evaluation. -/
def Dev.evaluated : Dev :=
  let d := (d.drainCommands.domLatch).expackLatch
  let d := ((d.hostsetLatch false).hostsetLatch true).remoteLatch.qLatch
  let p := d.enterPool
  let d := p.2.evalTurn (p.2.inputImage p.1) evalUs commitUs
  (List.range 4).foldl Dev.osetLatch d.sendImage

theorem ownLatch_eq : d.ownLatch evalUs commitUs = (d.evaluated evalUs commitUs).commitTurn := rfl

/-- The evaluation of a turn puts it in hand, and keeps the lattice. -/
theorem evaluated_spec {e : Dev} (he : e = d.evaluated evalUs commitUs) : e.turnTime = d.turnTime ∧ e.turn.cur = d.turn.cur ∧
    ∃ r, e.turn.run = some r ∧ r.phase = .evaluating ∧ r.evalUs = evalUs := by
  obtain ⟨a, ha⟩ : ∃ a, a = ((((d.drainCommands.domLatch).expackLatch).hostsetLatch false).hostsetLatch true).remoteLatch.qLatch := ⟨_, rfl⟩
  have haturn : a.turnData = d.turnData := by
    rw [← drainCommands_turnData d]
    exact turnData_of_turn (by rw [ha]; simp)
  obtain ⟨b, hb⟩ : ∃ b, b = a.enterPool.2.evalTurn (a.enterPool.2.inputImage a.enterPool.1) evalUs commitUs := ⟨_, rfl⟩
  obtain ⟨r, hbturn, hphase, heval⟩ : ∃ r, b.turn = { a.turn with run := some r } ∧ r.phase = .evaluating ∧ r.evalUs = evalUs := by
    rw [hb]
    exact ⟨_, rfl, rfl, rfl⟩
  have heturn : e.turn = b.turn := by
    rw [he, hb, ha]
    exact (foldl_turn osetLatch_turn _ _).trans (sendImage_turn _)
  have hnumber : a.turn.number = d.turn.number := (congrArg Turn.number haturn :)
  have hsince : a.turn.since = d.turn.since := (congrArg Turn.since haturn :)
  have hcur : a.turn.cur = d.turn.cur := (congrArg Turn.cur haturn :)
  rw [Dev.turnTime, heturn, hbturn]
  exact ⟨Prod.ext hnumber hsince, hcur, r, rfl, hphase, heval⟩

end

section
variable {d : Dev}

/-- An ordinary latch of a solo device begins the turn and latches its sources. -/
theorem sampleLatch_solo (hup : d.pwr.boot = 3) (h : soloBetweenTurns d) (evalUs commitUs : Nat) :
    ∃ e : Dev, d.sampleLatch evalUs commitUs = e.ownLatch evalUs commitUs ∧
      e.turnTime = (d.turn.number + 1, d.clk) ∧ e.turn.cur = d.turn.cur := by
  obtain ⟨hrole, hruns, hrun, hcastle, hdecomm, hreq, hswap, hfrom, hsleep, -⟩ := h
  have hdeadline : d.commitDeadline = d := by simp only [Dev.commitDeadline, hrun]
  have hsettled : d.swapSettled.swapAt (d.turn.number + 1) = d := by
    have hnone : d.swapSettled = d := if_neg (by simp [hfrom])
    rw [hnone, Dev.swapAt, hswap]
  obtain ⟨b, hb⟩ : ∃ b, b = d.turnBegin (d.turn.number + 1) := ⟨_, rfl⟩
  have hbturn := turnBegin_turn d (d.turn.number + 1)
  rw [← hb] at hbturn
  obtain ⟨g, hg⟩ : ∃ g, g = b.swapBegin.sleepLatch.setPair (fun p => { p with healthAge := p.healthAge + 1 }) := ⟨_, rfl⟩
  have hbegin : b.swapBegin.turn = b.turn := by
    unfold Dev.swapBegin
    split
    · rfl
    · extract_lets t w solo e hash
      exact ((send63_turn e _).1).trans rfl
  have hgturn : g.turn = b.turn := by
    rw [hg]
    exact (show _ = b.swapBegin.sleepLatch.turn from rfl).trans ((sleepLatch_turn _).trans hbegin)
  have hholder : d.holder = true := by simp [Dev.holder, hrole]
  refine ⟨g, ?_, ?_, ?_⟩
  · rw [Dev.sampleLatch, if_neg (by simp [hup]), if_pos hholder, if_pos hruns, Dev.holderLatch]
    simp only [hdeadline, hdecomm, hcastle]
    rw [if_neg (by simp [hsleep, hruns]), Dev.ordinaryTurn]
    simp only [hsettled, ← hb, ← hg]
  · rw [Dev.turnTime, hgturn, hbturn]
  · rw [hgturn, hbturn]

end

/-- Settles O12: the latch of a solo device between turns begins the next turn, and evaluation keeps the lattice. -/
theorem sampleLatchBeginsTheTurn : Obligations.SampleLatchBeginsTheTurn := by
  unfold Obligations.SampleLatchBeginsTheTurn
  intro s evalUs commitUs hup hsolo
  refine completes_of_result hup (f := fun d => d.sampleLatch evalUs commitUs) rfl fun t ht => ?_
  obtain ⟨e, hlatch, hetime, hecur⟩ := sampleLatch_solo hup hsolo evalUs commitUs
  obtain ⟨g, hg⟩ : ∃ g, g = e.evaluated evalUs commitUs := ⟨_, rfl⟩
  obtain ⟨hgtime, hgcur, r, hgrun, hphase, heval⟩ := evaluated_spec e evalUs commitUs hg
  have htcommit : t = g.commitTurn := by rw [ht, hlatch, ownLatch_eq, hg]
  have httime : t.turnTime = (s.dev.turn.number + 1, s.dev.clk) := by
    rw [htcommit, commitTurn_turnTime, hgtime, hetime]
  refine ⟨congrArg Prod.fst httime, congrArg Prod.snd httime, fun hlate => ?_⟩
  rw [htcommit, commitTurn_late hgrun (by omega), hgrun, Option.map_some, hphase]
  exact ⟨hgcur.trans hecur, rfl⟩

end Sys2Proof.Machine
end
